-- ==== Sys2Proof/Word.lean ====
section
/-!
DEFINITION. The word types: bytes and words of the widths the spec gives its registers (00_scope, R10, R11).
-/
namespace Sys2Proof

/-- A byte of memory or of a message. -/
abbrev Byte := BitVec 8

/-- A 32-bit register word (R12). -/
abbrev Word := BitVec 32

/-- A 64-bit register of the Tile Control Core (R86). -/
abbrev DWord := BitVec 64

/-- A vector register of a lane core, 128 bits (R87). -/
abbrev VWord := BitVec 128

end Sys2Proof
end

