-- ==== Sys2Proof/Syntax.lean ====
section
/-!
DEFINITION. The commands of the block and the operands they carry.
-/
namespace Sys2Proof

/-- The privilege level of an access (R89): U is 0, S is 1, M is 2. -/
inductive Level where
  | u | s | m
deriving DecidableEq, Repr

/-- The core of a tile that attempts an instruction: the Tile Control Core, or a lane core by its number 0 to 255.
In cluster mode a lane number names the medium core that the lane core belongs to (R87). -/
inductive CoreId where
  | tcc
  | lane (n : Nat)
deriving DecidableEq, Repr

/-- The three slot counters of a Bolt (R70). -/
inductive BoltCounter where
  | head | commit | reserve
deriving DecidableEq, Repr

/-- A credit message of Table 3.2 (R77), without its TYPE, which the command names. `am` marks a REQUEST for an active
message, whose Bolt the receiver names (11, R295; Table 3.2 has no field for it, log entry 6). -/
structure CreditMsg where
  target : BitVec 8
  reqTag : BitVec 16
  creditTag : BitVec 16
  status : BitVec 8
  kind : BitVec 8
  bytes : BitVec 32
  offset : BitVec 32
  peer : BitVec 64
  am : Bool
deriving DecidableEq, Repr

/-- A credited write on its way (R77, R79): the sender's tile, its request tag, the credit tag it carries, the target it
names, the landing offset, the data, whether the sender marked it as aborted (R284, R285), and whether the message
asks for NOTIFY (R286). -/
structure WriteMsg where
  sender : BitVec 64
  reqTag : BitVec 16
  creditTag : BitVec 16
  target : BitVec 8
  offset : BitVec 32
  data : List Byte
  abort : Bool
  notify : Bool
deriving DecidableEq, Repr

/-- A packet of an in-network reduction (10, R271, R272): reduction, chunk, span (lo, k), and its 64 elements as FP32 words
with tails. A BF16 element stands as the FP32 word that it decodes to exactly (R273); tails are zero but for FP32+C. -/
structure RedPkt where
  rid : Nat
  chunk : Nat
  lo : Nat
  k : Nat
  elems : List (BitVec 32 × BitVec 16)
deriving DecidableEq, Repr

/-- A Sketch token on its way (09, R247): where it came from (tile, lane core, output route, slot and that slot's
GENERATION), where it goes (slot, lane core, input queue), and its 16 bytes. -/
structure SkToken where
  srcTile : BitVec 64
  srcLane : BitVec 8
  srcRoute : BitVec 3
  srcSlot : BitVec 2
  srcGen : BitVec 8
  slot : BitVec 2
  lane : BitVec 8
  queue : BitVec 2
  data : BitVec 128
deriving DecidableEq, Repr


/-- What a fabric packet carries (14, Table 14.7): a segment of a credited write, a Sketch batch, a credit message of Table 3.2, an
ACK, a reduction chunk, a Sync Network message, ABORT, CANCEL, a fragment of a session message, a return of Sketch credits, or bytes
that this module cannot read, because the packet is for another module (R373). -/
inductive FabBody where
  | write (w : WriteMsg)
  | batch (ts : List SkToken)
  | credit (typ : BitVec 8) (m : CreditMsg)
  | ack (base : BitVec 64) (bitmap : BitVec 16) (ece : Bool) (status : BitVec 8)
  | reduce (p : RedPkt)
  | sync (typ : BitVec 8) (obj : BitVec 14) (value : BitVec 32)
  | abort (xid : BitVec 32)
  | cancel (psn : BitVec 64)
  | session (msg frag frags : BitVec 8) (gen : BitVec 4) (xchg : BitVec 32) (bytes : List Byte)
  | skCredit (t : SkToken) (n : Nat)
  | unread (bytes : List Byte)
deriving DecidableEq, Repr

/-- A fabric packet (14, Table 14.6): its header fields, whether its reserved fields are zero, whether its authentication tag is
genuine (R373), and what it carries. -/
structure FabPkt where
  dst : BitVec 16
  src : BitVec 16
  cls : BitVec 3
  esc : Bool
  flagged : Bool
  ce : Bool
  typ : BitVec 8
  ttl : BitVec 8
  keyId : BitVec 4
  psn : BitVec 64
  ga : BitVec 64
  srcTile : BitVec 16
  age : BitVec 16
  length : BitVec 32
  xid : BitVec 32
  segs : BitVec 32
  orderBase : BitVec 64
  clean : Bool
  genuine : Bool
  body : FabBody
deriving DecidableEq, Repr

/-- A link flit (14, Table 14.4), with whether its CRC and FEC are good, and, with EOP, the packet that it ends. `hello` is CTL[7]. -/
structure FabFlit where
  seq : BitVec 16
  ack : BitVec 16
  vc : BitVec 3
  idle : Bool
  sop : Bool
  eop : Bool
  nak : Bool
  hello : Bool
  cvc : BitVec 3
  credits : BitVec 16
  good : Bool
  pkt : Option FabPkt
deriving DecidableEq, Repr

/-- What a HELLO carries (14, Table 14.2; 20, R471). -/
structure Hello where
  peer : BitVec 16
  idValid : Bool
  port : BitVec 7
  serial : List Byte
  cable : List Byte
  cableEnd : Nat
deriving DecidableEq, Repr

/-- A flit with HELLO set as a port receives it (14, Table 14.2, Table 14.4): whether its FEC fails, its fields, and what its payload carries. -/
structure HelloFlit where
  fec : Bool
  flit : FabFlit
  hello : Hello
deriving DecidableEq, Repr

/-- What a lost packet was part of at its source (10, R268): a credit request or a credited write, by the request's tag; a chunk of a reduction;
or nothing that a unit tracks. -/
inductive Loss where
  | request (tag : BitVec 16)
  | chunk (rid chunk : Nat)
  | other
deriving DecidableEq, Repr

/-- A finding of a test (02, R48): entry type, physical tile, ARG0, ARG1. -/
structure Finding where
  typ : Nat
  pt : Nat
  arg0 : Nat
  arg1 : Nat
deriving DecidableEq, Repr

/-- What a boot meets (20, Table 20.2): whether the ROM self-test of each Management Complex passes, whether REF becomes valid in
time, the regions whose PLL does not lock, the findings of the quick tests, and the identity memories that are
read, by parts entry. -/
structure BootIn where
  aPass : Bool
  bPass : Bool
  refValid : Bool
  coasts : List Nat
  findings : List Finding
  parts : List (Nat × List (BitVec 8))
deriving DecidableEq, Repr

/-- The unit of a tile in which a FATAL is found (18, Table 18.1): the TCC's or a lane core's register file or instruction buffer, or control
state, with the UNIT that the error's log entry carries. -/
inductive FatalUnit where
  | tcc
  | lane (n : Nat)
  | control (unit : BitVec 32)
deriving DecidableEq, Repr

/-- What a machine check names: the tile, and the FATAL that is found there now, with its DETAIL; none where one has been found before. -/
structure FatalReport where
  tile : Nat
  found : Option (FatalUnit × BitVec 64)
deriving DecidableEq, Repr

/-- A register write's word, and the bits of the register that hardware sets in the cycle of the write (00, R13). -/
structure WriteWord where
  word : BitVec 32
  sets : BitVec 32
deriving DecidableEq, Repr

/-- What `st` carries beside its registers: the immediate, and the bits that hardware sets, in the cycle of a store to a register block, in the words
stored to (00, R13). -/
structure StoreWord where
  imm : BitVec 11
  sets : BitVec 64
deriving DecidableEq, Repr

/-- The wait of a packet that has reached ESC_WAIT, in units of 64 ns, and whether the packet lies in a receive buffer (14, R363; 15, R383). -/
structure EscWait where
  units : Nat
  inward : Bool
deriving DecidableEq, Repr

/-- A RoCE frame of a host port: the port, the destination MAC address, its VLAN ID (0 untagged), whether it is an IP fragment or carries IPv4
options or IPv6 extension headers, and whether it is marked CE (20, R473, Table 20.9). -/
structure HostFrame where
  port : BitVec 1
  dst : BitVec 48
  vlan : BitVec 12
  odd : Bool
  ce : Bool
deriving DecidableEq, Repr

/-- The commands of the block: one constructor per row of the table of operations and events, with the row's operands.
Each docstring cites the rule of spec/ that the row names. -/
inductive Instr where
  /-- REGISTER_WRITE (R12). -/
  | registerWrite (sel : BitVec 12) (off : BitVec 28) (lv : Level) (v : WriteWord)
  /-- CLK_AON_LO_READ (R424). -/
  | clkAonLoRead (lv : Level)
  /-- SEC_UNLOCK_CTR_LO_READ (R463). -/
  | secUnlockCtrLoRead (lv : Level)
  /-- RESERVED_OPCODE (R94). -/
  | reservedOpcode (lt : Nat) (c : CoreId) (w0 w1 : BitVec 32)
  /-- ADD (R94). -/
  | add (lt : Nat) (c : CoreId) (rd rs1 rs2 : BitVec 5) (w : Bool)
  /-- SUB (R94). -/
  | sub (lt : Nat) (c : CoreId) (rd rs1 rs2 : BitVec 5) (w : Bool)
  /-- AND (R94). -/
  | and (lt : Nat) (c : CoreId) (rd rs1 rs2 : BitVec 5) (w : Bool)
  /-- OR (R94). -/
  | or (lt : Nat) (c : CoreId) (rd rs1 rs2 : BitVec 5) (w : Bool)
  /-- XOR (R94). -/
  | xor (lt : Nat) (c : CoreId) (rd rs1 rs2 : BitVec 5) (w : Bool)
  /-- SLL (R95). -/
  | sll (lt : Nat) (c : CoreId) (rd rs1 rs2 : BitVec 5) (w : Bool)
  /-- SRL (R95). -/
  | srl (lt : Nat) (c : CoreId) (rd rs1 rs2 : BitVec 5) (w : Bool)
  /-- SRA (R95). -/
  | sra (lt : Nat) (c : CoreId) (rd rs1 rs2 : BitVec 5) (w : Bool)
  /-- SLT (R94). -/
  | slt (lt : Nat) (c : CoreId) (rd rs1 rs2 : BitVec 5) (w : Bool)
  /-- SLTU (R94). -/
  | sltu (lt : Nat) (c : CoreId) (rd rs1 rs2 : BitVec 5) (w : Bool)
  /-- MIN (R94). -/
  | min (lt : Nat) (c : CoreId) (rd rs1 rs2 : BitVec 5) (w : Bool)
  /-- MAX (R94). -/
  | max (lt : Nat) (c : CoreId) (rd rs1 rs2 : BitVec 5) (w : Bool)
  /-- MINU (R94). -/
  | minu (lt : Nat) (c : CoreId) (rd rs1 rs2 : BitVec 5) (w : Bool)
  /-- MAXU (R94). -/
  | maxu (lt : Nat) (c : CoreId) (rd rs1 rs2 : BitVec 5) (w : Bool)
  /-- MUL (R94). -/
  | mul (lt : Nat) (c : CoreId) (rd rs1 rs2 : BitVec 5) (w : Bool)
  /-- MULH (R94). -/
  | mulh (lt : Nat) (c : CoreId) (rd rs1 rs2 : BitVec 5) (w : Bool)
  /-- MULHU (R94). -/
  | mulhu (lt : Nat) (c : CoreId) (rd rs1 rs2 : BitVec 5) (w : Bool)
  /-- DIV (R95). -/
  | div (lt : Nat) (c : CoreId) (rd rs1 rs2 : BitVec 5) (w : Bool)
  /-- DIVU (R95). -/
  | divu (lt : Nat) (c : CoreId) (rd rs1 rs2 : BitVec 5) (w : Bool)
  /-- REM (R95). -/
  | rem (lt : Nat) (c : CoreId) (rd rs1 rs2 : BitVec 5) (w : Bool)
  /-- REMU (R95). -/
  | remu (lt : Nat) (c : CoreId) (rd rs1 rs2 : BitVec 5) (w : Bool)
  /-- CLZ (R94). -/
  | clz (lt : Nat) (c : CoreId) (rd rs1 rs2 : BitVec 5) (w : Bool)
  /-- CTZ (R94). -/
  | ctz (lt : Nat) (c : CoreId) (rd rs1 rs2 : BitVec 5) (w : Bool)
  /-- POPC (R94). -/
  | popc (lt : Nat) (c : CoreId) (rd rs1 rs2 : BitVec 5) (w : Bool)
  /-- ADDI (R94). -/
  | addi (lt : Nat) (c : CoreId) (rd rs1 : BitVec 5) (imm : BitVec 14)
  /-- ANDI (R94). -/
  | andi (lt : Nat) (c : CoreId) (rd rs1 : BitVec 5) (imm : BitVec 14)
  /-- ORI (R94). -/
  | ori (lt : Nat) (c : CoreId) (rd rs1 : BitVec 5) (imm : BitVec 14)
  /-- XORI (R94). -/
  | xori (lt : Nat) (c : CoreId) (rd rs1 : BitVec 5) (imm : BitVec 14)
  /-- CMPI_LT (R94). -/
  | cmpiLt (lt : Nat) (c : CoreId) (rd rs1 : BitVec 5) (imm : BitVec 14)
  /-- CMPI_LTU (R94). -/
  | cmpiLtu (lt : Nat) (c : CoreId) (rd rs1 : BitVec 5) (imm : BitVec 14)
  /-- SLLI (R95). -/
  | slli (lt : Nat) (c : CoreId) (rd rs1 : BitVec 5) (amt : BitVec 6)
  /-- SRLI (R95). -/
  | srli (lt : Nat) (c : CoreId) (rd rs1 : BitVec 5) (amt : BitVec 6)
  /-- SRAI (R95). -/
  | srai (lt : Nat) (c : CoreId) (rd rs1 : BitVec 5) (amt : BitVec 6)
  /-- LDHI (R94). -/
  | ldhi (lt : Nat) (c : CoreId) (rd : BitVec 5) (imm : BitVec 19)
  /-- LDPC (R94). -/
  | ldpc (lt : Nat) (c : CoreId) (rd : BitVec 5) (imm : BitVec 19)
  /-- CALL (R94). -/
  | call (lt : Nat) (c : CoreId) (rd : BitVec 5) (imm : BitVec 19)
  /-- CALL_R (R94). -/
  | callR (lt : Nat) (c : CoreId) (rd rs1 : BitVec 5) (imm : BitVec 14)
  /-- BR_EQ (R94). -/
  | brEq (lt : Nat) (c : CoreId) (rs1 rs2 : BitVec 5) (imm : BitVec 11)
  /-- BR_NE (R94). -/
  | brNe (lt : Nat) (c : CoreId) (rs1 rs2 : BitVec 5) (imm : BitVec 11)
  /-- BR_LT (R94). -/
  | brLt (lt : Nat) (c : CoreId) (rs1 rs2 : BitVec 5) (imm : BitVec 11)
  /-- BR_GE (R94). -/
  | brGe (lt : Nat) (c : CoreId) (rs1 rs2 : BitVec 5) (imm : BitVec 11)
  /-- BR_LTU (R94). -/
  | brLtu (lt : Nat) (c : CoreId) (rs1 rs2 : BitVec 5) (imm : BitVec 11)
  /-- BR_GEU (R94). -/
  | brGeu (lt : Nat) (c : CoreId) (rs1 rs2 : BitVec 5) (imm : BitVec 11)
  /-- LD (R97). -/
  | ld (lt : Nat) (c : CoreId) (rd rs1 : BitVec 5) (sz : BitVec 3) (imm : BitVec 11)
  /-- ST (R97). -/
  | st (lt : Nat) (c : CoreId) (rd rs1 : BitVec 5) (sz : BitVec 3) (w : StoreWord)
  /-- LD_TR (R99). -/
  | ldTr (lt : Nat) (c : CoreId) (rd rs1 rs2 : BitVec 5)
  /-- AMO_SWAP (R96). -/
  | amoSwap (lt : Nat) (c : CoreId) (rd rs1 rs2 : BitVec 5) (four : Bool)
  /-- AMO_ADD (R96). -/
  | amoAdd (lt : Nat) (c : CoreId) (rd rs1 rs2 : BitVec 5) (four : Bool)
  /-- AMO_AND (R96). -/
  | amoAnd (lt : Nat) (c : CoreId) (rd rs1 rs2 : BitVec 5) (four : Bool)
  /-- AMO_OR (R96). -/
  | amoOr (lt : Nat) (c : CoreId) (rd rs1 rs2 : BitVec 5) (four : Bool)
  /-- AMO_XOR (R96). -/
  | amoXor (lt : Nat) (c : CoreId) (rd rs1 rs2 : BitVec 5) (four : Bool)
  /-- AMO_MIN (R96). -/
  | amoMin (lt : Nat) (c : CoreId) (rd rs1 rs2 : BitVec 5) (four : Bool)
  /-- AMO_MAX (R96). -/
  | amoMax (lt : Nat) (c : CoreId) (rd rs1 rs2 : BitVec 5) (four : Bool)
  /-- AMO_MINU (R96). -/
  | amoMinu (lt : Nat) (c : CoreId) (rd rs1 rs2 : BitVec 5) (four : Bool)
  /-- AMO_MAXU (R96). -/
  | amoMaxu (lt : Nat) (c : CoreId) (rd rs1 rs2 : BitVec 5) (four : Bool)
  /-- AMO_CAS (R96). -/
  | amoCas (lt : Nat) (c : CoreId) (rd rs1 rs2 : BitVec 5) (four : Bool)
  /-- BOLT_PUSH (R100). -/
  | boltPush (lt : Nat) (c : CoreId) (rd rs1 rs2 : BitVec 5) (idx : BitVec 6)
  /-- BOLT_PEEK (R100). -/
  | boltPeek (lt : Nat) (c : CoreId) (rd rs1 rs2 : BitVec 5) (idx : BitVec 6)
  /-- BOLT_POP (R100). -/
  | boltPop (lt : Nat) (c : CoreId) (rd rs1 rs2 : BitVec 5) (idx : BitVec 6)
  /-- BOLT_REL (R72). -/
  | boltRel (lt : Nat) (c : CoreId) (rd rs1 rs2 : BitVec 5) (idx : BitVec 6)
  /-- CH_SEND (R280). -/
  | chSend (lt : Nat) (c : CoreId) (rd rs1 rs2 : BitVec 5) (idx : BitVec 6)
  /-- CH_AM (R295). -/
  | chAm (lt : Nat) (c : CoreId) (rd rs1 rs2 : BitVec 5) (idx : BitVec 6)
  /-- CH_CLOSE (R289). -/
  | chClose (lt : Nat) (c : CoreId) (rd rs1 rs2 : BitVec 5) (idx : BitVec 6)
  /-- CH_STATE (R280). -/
  | chState (lt : Nat) (c : CoreId) (rd rs1 rs2 : BitVec 5) (idx : BitVec 6)
  /-- SEM_P (R342). -/
  | semP (lt : Nat) (c : CoreId) (rd rs1 rs2 : BitVec 5)
  /-- SEM_V (R342). -/
  | semV (lt : Nat) (c : CoreId) (rd rs1 rs2 : BitVec 5)
  /-- SYNC_ARRIVE (R332). -/
  | syncArrive (lt : Nat) (c : CoreId) (rd rs1 rs2 : BitVec 5)
  /-- SYNC_WAIT (R332). -/
  | syncWait (lt : Nat) (c : CoreId) (rd rs1 rs2 : BitVec 5)
  /-- SYNC_ADD (R332). -/
  | syncAdd (lt : Nat) (c : CoreId) (rd rs1 rs2 : BitVec 5)
  /-- SYNC_READ (R332). -/
  | syncRead (lt : Nat) (c : CoreId) (rd rs1 rs2 : BitVec 5)
  /-- SK_SWITCH (R241). -/
  | skSwitch (lt : Nat) (c : CoreId) (rd rs1 : BitVec 5) (imm : BitVec 14)
  /-- Q_GET (R246). -/
  | qGet (lt : Nat) (c : CoreId) (rd rs1 rs2 : BitVec 5) (idx : BitVec 6)
  /-- Q_PUT (R247). -/
  | qPut (lt : Nat) (c : CoreId) (rd rs1 rs2 : BitVec 5) (idx : BitVec 6)
  /-- CSR_R (R109). -/
  | csrR (lt : Nat) (c : CoreId) (rd rs1 : BitVec 5) (csr : BitVec 12)
  /-- CSR_W (R109). -/
  | csrW (lt : Nat) (c : CoreId) (rd rs1 : BitVec 5) (csr : BitVec 12)
  /-- CSR_SET (R109). -/
  | csrSet (lt : Nat) (c : CoreId) (rd rs1 : BitVec 5) (csr : BitVec 12)
  /-- CSR_CLR (R109). -/
  | csrClr (lt : Nat) (c : CoreId) (rd rs1 : BitVec 5) (csr : BitVec 12)
  /-- SCALL (R110). -/
  | scall (lt : Nat) (c : CoreId) (rd rs1 rs2 : BitVec 5)
  /-- ERET (R110). -/
  | eret (lt : Nat) (c : CoreId) (rd rs1 rs2 : BitVec 5)
  /-- WFI (R422). -/
  | wfi (lt : Nat) (c : CoreId) (rd rs1 rs2 : BitVec 5)
  /-- FENCE (R107). -/
  | fence (lt : Nat) (c : CoreId) (rd rs1 rs2 : BitVec 5)
  /-- FENCE_I (R107). -/
  | fenceI (lt : Nat) (c : CoreId) (rd rs1 rs2 : BitVec 5)
  /-- BRK (R110). -/
  | brk (lt : Nat) (c : CoreId) (rd rs1 rs2 : BitVec 5)
  /-- TLB_INV (R304). -/
  | tlbInv (lt : Nat) (c : CoreId) (rd rs1 rs2 : BitVec 5)
  /-- ITEM_WAIT (R106). -/
  | itemWait (lt : Nat) (c : CoreId) (rd rs1 rs2 : BitVec 5)
  /-- ITEM_POLL (R106). -/
  | itemPoll (lt : Nat) (c : CoreId) (rd rs1 rs2 : BitVec 5)
  /-- STOP (R130). -/
  | stop (lt : Nat) (c : CoreId) (rd rs1 rs2 : BitVec 5)
  /-- VF_FMA (R120). -/
  | vfFma (lt : Nat) (c : CoreId) (vd vs1 vs2 : BitVec 5) (fmt : BitVec 2) (lcnt : BitVec 4)
  /-- VF_FMS (R120). -/
  | vfFms (lt : Nat) (c : CoreId) (vd vs1 vs2 : BitVec 5) (fmt : BitVec 2) (lcnt : BitVec 4)
  /-- VF_FNMA (R120). -/
  | vfFnma (lt : Nat) (c : CoreId) (vd vs1 vs2 : BitVec 5) (fmt : BitVec 2) (lcnt : BitVec 4)
  /-- VF_MUL (R120). -/
  | vfMul (lt : Nat) (c : CoreId) (vd vs1 vs2 : BitVec 5) (fmt : BitVec 2) (lcnt : BitVec 4)
  /-- VF_ADD (R120). -/
  | vfAdd (lt : Nat) (c : CoreId) (vd vs1 vs2 : BitVec 5) (fmt : BitVec 2) (lcnt : BitVec 4)
  /-- VF_SUB (R120). -/
  | vfSub (lt : Nat) (c : CoreId) (vd vs1 vs2 : BitVec 5) (fmt : BitVec 2) (lcnt : BitVec 4)
  /-- VF_MIN (R120). -/
  | vfMin (lt : Nat) (c : CoreId) (vd vs1 vs2 : BitVec 5) (fmt : BitVec 2) (lcnt : BitVec 4)
  /-- VF_MAX (R120). -/
  | vfMax (lt : Nat) (c : CoreId) (vd vs1 vs2 : BitVec 5) (fmt : BitVec 2) (lcnt : BitVec 4)
  /-- VI_ADD (R94). -/
  | viAdd (lt : Nat) (c : CoreId) (vd vs1 vs2 : BitVec 5) (fmt : BitVec 2) (lcnt : BitVec 4)
  /-- VI_SUB (R94). -/
  | viSub (lt : Nat) (c : CoreId) (vd vs1 vs2 : BitVec 5) (fmt : BitVec 2) (lcnt : BitVec 4)
  /-- VI_AND (R94). -/
  | viAnd (lt : Nat) (c : CoreId) (vd vs1 vs2 : BitVec 5) (fmt : BitVec 2) (lcnt : BitVec 4)
  /-- VI_OR (R94). -/
  | viOr (lt : Nat) (c : CoreId) (vd vs1 vs2 : BitVec 5) (fmt : BitVec 2) (lcnt : BitVec 4)
  /-- VI_XOR (R94). -/
  | viXor (lt : Nat) (c : CoreId) (vd vs1 vs2 : BitVec 5) (fmt : BitVec 2) (lcnt : BitVec 4)
  /-- VI_SLL (R94). -/
  | viSll (lt : Nat) (c : CoreId) (vd vs1 vs2 : BitVec 5) (fmt : BitVec 2) (lcnt : BitVec 4)
  /-- VI_SRL (R94). -/
  | viSrl (lt : Nat) (c : CoreId) (vd vs1 vs2 : BitVec 5) (fmt : BitVec 2) (lcnt : BitVec 4)
  /-- VI_SRA (R94). -/
  | viSra (lt : Nat) (c : CoreId) (vd vs1 vs2 : BitVec 5) (fmt : BitVec 2) (lcnt : BitVec 4)
  /-- VCVT_TO (R103). -/
  | vcvtTo (lt : Nat) (c : CoreId) (vd vs1 : BitVec 5) (pal : BitVec 8) (lcnt : BitVec 4)
  /-- VCVT_FROM (R103). -/
  | vcvtFrom (lt : Nat) (c : CoreId) (vd vs1 : BitVec 5) (pal : BitVec 8) (lcnt : BitVec 4)
  /-- VSFU_EXP2 (R122). -/
  | vsfuExp2 (lt : Nat) (c : CoreId) (vd vs1 vs2 : BitVec 5) (fmt : BitVec 2) (lcnt : BitVec 4)
  /-- VSFU_LOG2 (R122). -/
  | vsfuLog2 (lt : Nat) (c : CoreId) (vd vs1 vs2 : BitVec 5) (fmt : BitVec 2) (lcnt : BitVec 4)
  /-- VSFU_RCP (R122). -/
  | vsfuRcp (lt : Nat) (c : CoreId) (vd vs1 vs2 : BitVec 5) (fmt : BitVec 2) (lcnt : BitVec 4)
  /-- VSFU_RSQRT (R122). -/
  | vsfuRsqrt (lt : Nat) (c : CoreId) (vd vs1 vs2 : BitVec 5) (fmt : BitVec 2) (lcnt : BitVec 4)
  /-- VSFU_SIN (R122). -/
  | vsfuSin (lt : Nat) (c : CoreId) (vd vs1 vs2 : BitVec 5) (fmt : BitVec 2) (lcnt : BitVec 4)
  /-- VSFU_COS (R122). -/
  | vsfuCos (lt : Nat) (c : CoreId) (vd vs1 vs2 : BitVec 5) (fmt : BitVec 2) (lcnt : BitVec 4)
  /-- VLD (R98). -/
  | vld (lt : Nat) (c : CoreId) (vd rs1 : BitVec 5) (imm : BitVec 11)
  /-- VST (R98). -/
  | vst (lt : Nat) (c : CoreId) (vd rs1 : BitVec 5) (imm : BitVec 11)
  /-- VMOV_BROADCAST (R126). -/
  | vmovBroadcast (lt : Nat) (c : CoreId) (vd vs1 vs2 : BitVec 5) (fmt : BitVec 2) (lcnt : BitVec 4)
  /-- VMOV_EXTRACT (R126). -/
  | vmovExtract (lt : Nat) (c : CoreId) (vd vs1 vs2 : BitVec 5) (fmt : BitVec 2) (lcnt : BitVec 4)
  /-- VMOV_INSERT (R126). -/
  | vmovInsert (lt : Nat) (c : CoreId) (vd vs1 vs2 : BitVec 5) (fmt : BitVec 2) (lcnt : BitVec 4)
  /-- VMOV_PERMUTE (R126). -/
  | vmovPermute (lt : Nat) (c : CoreId) (vd vs1 vs2 : BitVec 5) (fmt : BitVec 2) (lcnt : BitVec 4)
  /-- VRED_SUM (R121). -/
  | vredSum (lt : Nat) (c : CoreId) (vd vs1 vs2 : BitVec 5) (fmt : BitVec 2) (lcnt : BitVec 4)
  /-- VRED_MAX (R121). -/
  | vredMax (lt : Nat) (c : CoreId) (vd vs1 vs2 : BitVec 5) (fmt : BitVec 2) (lcnt : BitVec 4)
  /-- VRED_MIN (R121). -/
  | vredMin (lt : Nat) (c : CoreId) (vd vs1 vs2 : BitVec 5) (fmt : BitVec 2) (lcnt : BitVec 4)
  /-- RADD (R186). -/
  | radd (lt : Nat) (c : CoreId) (vd vs1 vs2 : BitVec 5) (fmt : BitVec 2) (lcnt : BitVec 4)
  /-- VCMP_EQ (R94). -/
  | vcmpEq (lt : Nat) (c : CoreId) (vd vs1 vs2 : BitVec 5) (fmt : BitVec 2) (lcnt : BitVec 4)
  /-- VCMP_LT (R94). -/
  | vcmpLt (lt : Nat) (c : CoreId) (vd vs1 vs2 : BitVec 5) (fmt : BitVec 2) (lcnt : BitVec 4)
  /-- VCMP_LE (R94). -/
  | vcmpLe (lt : Nat) (c : CoreId) (vd vs1 vs2 : BitVec 5) (fmt : BitVec 2) (lcnt : BitVec 4)
  /-- VCMP_NE (R94). -/
  | vcmpNe (lt : Nat) (c : CoreId) (vd vs1 vs2 : BitVec 5) (fmt : BitVec 2) (lcnt : BitVec 4)
  /-- MMA_BF16 (R134). -/
  | mmaBf16 (lt : Nat) (c : CoreId) (rd rs1 rs2 rs3 : BitVec 5) (pl : BitVec 32)
  /-- MMA_FP16 (R134). -/
  | mmaFp16 (lt : Nat) (c : CoreId) (rd rs1 rs2 rs3 : BitVec 5) (pl : BitVec 32)
  /-- MMA_FP8 (R134). -/
  | mmaFp8 (lt : Nat) (c : CoreId) (rd rs1 rs2 rs3 : BitVec 5) (pl : BitVec 32)
  /-- MMA_MX (R134). -/
  | mmaMx (lt : Nat) (c : CoreId) (rd rs1 rs2 rs3 : BitVec 5) (pl : BitVec 32)
  /-- MMA_I8 (R134). -/
  | mmaI8 (lt : Nat) (c : CoreId) (rd rs1 rs2 rs3 : BitVec 5) (pl : BitVec 32)
  /-- MMA_I4 (R134). -/
  | mmaI4 (lt : Nat) (c : CoreId) (rd rs1 rs2 rs3 : BitVec 5) (pl : BitVec 32)
  /-- ME_WLOAD (R144). -/
  | meWload (lt : Nat) (c : CoreId) (rd rs1 rs2 rs3 : BitVec 5) (pl : BitVec 32)
  /-- ME_FENCE (R154). -/
  | meFence (lt : Nat) (c : CoreId) (rd rs1 rs2 rs3 : BitVec 5) (pl : BitVec 32)
  /-- MMA_SP (R200). -/
  | mmaSp (lt : Nat) (c : CoreId) (rd rs1 rs2 rs3 : BitVec 5) (pl : BitVec 32)
  /-- MMA_PR (R212). -/
  | mmaPr (lt : Nat) (c : CoreId) (rd rs1 rs2 rs3 : BitVec 5) (pl : BitVec 32)
  /-- PRUNE (R208). -/
  | prune (lt : Nat) (c : CoreId) (rd rs1 rs2 rs3 : BitVec 5) (pl : BitVec 32)
  /-- ME_PRED (R209). -/
  | mePred (lt : Nat) (c : CoreId) (rd rs1 rs2 rs3 : BitVec 5) (pl : BitVec 32)
  /-- ME_SEL_SELECT (R211). -/
  | meSelSelect (lt : Nat) (c : CoreId) (rd rs1 rs2 rs3 : BitVec 5) (pl : BitVec 32)
  /-- ME_SEL_VERIFY (R215). -/
  | meSelVerify (lt : Nat) (c : CoreId) (rd rs1 rs2 rs3 : BitVec 5) (pl : BitVec 32)
  /-- DMA_COPY (R308). -/
  | dmaCopy (lt : Nat) (c : CoreId) (rd rs1 rs2 rs3 : BitVec 5) (pl : BitVec 32)
  /-- DMA_CVT (R308). -/
  | dmaCvt (lt : Nat) (c : CoreId) (rd rs1 rs2 rs3 : BitVec 5) (pl : BitVec 32)
  /-- DMA_GATHER (R308). -/
  | dmaGather (lt : Nat) (c : CoreId) (rd rs1 rs2 rs3 : BitVec 5) (pl : BitVec 32)
  /-- DMA_SCATTER (R308). -/
  | dmaScatter (lt : Nat) (c : CoreId) (rd rs1 rs2 rs3 : BitVec 5) (pl : BitVec 32)
  /-- DMA_2D (R308). -/
  | dma2d (lt : Nat) (c : CoreId) (rd rs1 rs2 rs3 : BitVec 5) (pl : BitVec 32)
  /-- DMA_REMOTE (R314). -/
  | dmaRemote (lt : Nat) (c : CoreId) (rd rs1 rs2 rs3 : BitVec 5) (pl : BitVec 32)
  /-- DMA_REARM (R317). -/
  | dmaRearm (lt : Nat) (c : CoreId) (rd rs1 rs2 rs3 : BitVec 5) (pl : BitVec 32)
  /-- RTU_DISPATCH (R218). -/
  | rtuDispatch (lt : Nat) (c : CoreId) (rd rs1 rs2 rs3 : BitVec 5) (pl : BitVec 32)
  /-- RTU_COMBINE (R224). -/
  | rtuCombine (lt : Nat) (c : CoreId) (rd rs1 rs2 rs3 : BitVec 5) (pl : BitVec 32)
  /-- SK_LOAD (R234). -/
  | skLoad (lt : Nat) (c : CoreId) (rd rs1 rs2 rs3 : BitVec 5) (pl : BitVec 32)
  /-- SK_FLUSH (R238). -/
  | skFlush (lt : Nat) (c : CoreId) (rd rs1 rs2 rs3 : BitVec 5) (pl : BitVec 32)
  /-- TAKE_INTERRUPT (R112). -/
  | takeInterrupt (lt : Nat)
  /-- MACHINE_CHECK (R111): with the FATAL that is reported now and the word concerned, or of one reported before. -/
  | machineCheck (r : FatalReport)
  /-- TILE_TIMER_EXPIRE (R109). -/
  | tileTimerExpire (lt : Nat)
  /-- AM_ENTRY (R296). -/
  | amEntry (lt : Nat)
  /-- LC_START (R129). -/
  | lcStart (lt : Nat) (lv : Level) (n : BitVec 3) (v : BitVec 32)
  /-- LC_RESUME (R132). -/
  | lcResume (lt : Nat) (lv : Level) (lane : BitVec 8)
  /-- LC_SKIP (R132). -/
  | lcSkip (lt : Nat) (lv : Level) (lane : BitVec 8)
  /-- LC_END (R132). -/
  | lcEnd (lt : Nat) (lv : Level) (lane : BitVec 8)
  /-- LC_REDIRECT (R132). -/
  | lcRedirect (lt : Nat) (lv : Level) (lane : BitVec 8)
  /-- SCRUB_TICK (R64). -/
  | scrubTick (lt : Nat)
  /-- BANK_POWER_DOWN (R65). -/
  | bankPowerDown (lt : Nat) (lv : Level) (bank : BitVec 6)
  /-- BANK_POWER_OFF_DONE (R66). -/
  | bankPowerOffDone (lt : Nat) (bank : BitVec 6)
  /-- BANK_POWER_UP (R67). -/
  | bankPowerUp (lt : Nat) (lv : Level) (bank : BitVec 6)
  /-- BANK_POWER_UP_DONE (R67). -/
  | bankPowerUpDone (lt : Nat) (bank : BitVec 6)
  /-- BANK_POWER_QUEUED_START (R67). -/
  | bankPowerQueuedStart (lt : Nat) (bank : BitVec 6)
  /-- BOLT_ENABLE (R69). -/
  | boltEnable (lt : Nat) (lv : Level) (b : BitVec 6) (v : BitVec 32)
  /-- BOLT_CLOSE (R287). -/
  | boltClose (lt : Nat) (lv : Level) (b : BitVec 6) (v : BitVec 32)
  /-- BOLT_COUNTER_WRITE (R75). -/
  | boltCounterWrite (lt : Nat) (lv : Level) (b : BitVec 6) (which : BoltCounter) (v : BitVec 32)
  /-- BOLT_STALL_TIMEOUT (R73). -/
  | boltStallTimeout (lt : Nat) (b : BitVec 6)
  /-- LWIN_ENABLE (R82). -/
  | lwinEnable (lt : Nat) (lv : Level) (m : BitVec 4) (v : BitVec 32)
  /-- LWIN_RELEASE (R81). -/
  | lwinRelease (lt : Nat) (lv : Level) (m : BitVec 4) (v : BitVec 32)
  /-- CREDIT_REQUEST (R78). -/
  | creditRequest (lt : Nat) (m : CreditMsg)
  /-- CREDIT_GRANT_DEFERRED (R78). -/
  | creditGrantDeferred (lt : Nat) (target : BitVec 8)
  /-- CREDIT_GRANT (R77). -/
  | creditGrant (lt : Nat) (m : CreditMsg)
  /-- CREDIT_NACK (R78). -/
  | creditNack (lt : Nat) (m : CreditMsg)
  /-- CREDIT_RETRY (R385). -/
  | creditRetry (lt : Nat) (tag : BitVec 16)
  /-- CREDIT_ANSWER_TIMEOUT (R384). -/
  | creditAnswerTimeout (lt : Nat) (tag : BitVec 16)
  /-- CREDIT_REFUSE (R78). -/
  | creditRefuse (lt : Nat) (m : CreditMsg)
  /-- CREDIT_RETURN (R80). -/
  | creditReturn (lt : Nat) (m : CreditMsg)
  /-- CREDIT_ACK (R77). -/
  | creditAck (lt : Nat) (m : CreditMsg)
  /-- CREDITED_WRITE_ARRIVE (R79). -/
  | creditedWriteArrive (lt : Nat) (w : WriteMsg)
  /-- ME_ITEM_START (R155). -/
  | meItemStart (lt : Nat)
  /-- ME_WLOAD_DONE (R144). -/
  | meWloadDone (lt : Nat)
  /-- ME_FILL_DONE (R145). -/
  | meFillDone (lt : Nat)
  /-- ME_ISSUE_SLOT (R161). -/
  | meIssueSlot (lt : Nat) (c : BitVec 6)
  /-- ME_BLOCK_STAGED (R149). -/
  | meBlockStaged (lt : Nat)
  /-- ME_BLOCK_WRITEBACK (R150). -/
  | meBlockWriteback (lt : Nat)
  /-- ME_ITEM_COMPLETE (R151). -/
  | meItemComplete (lt : Nat)
  /-- PRED_VERIFY_GROUP_DONE (R214). -/
  | predVerifyGroupDone (lt : Nat) (set : BitVec 28)
  /-- ME_RELEASE (R157). -/
  | meRelease (lt : Nat) (lv : Level)
  /-- ME_ABORT (R158). -/
  | meAbort (lt : Nat) (lv : Level)
  /-- ME_SAVE (R164). -/
  | meSave (lt : Nat) (lv : Level)
  /-- ME_SAVE_DONE (R165). -/
  | meSaveDone (lt : Nat)
  /-- ME_RESTORE (R166). -/
  | meRestore (lt : Nat) (lv : Level)
  /-- ME_DISCARD (R166). -/
  | meDiscard (lt : Nat) (lv : Level)
  /-- STUDY_SAMPLE_DONE (R194). -/
  | studySampleDone (r : BitVec 5)
  /-- STEP_BOUNDARY (R188). -/
  | stepBoundary (lt : Nat)
  /-- RTU_ITEM_START (R218). -/
  | rtuItemStart (lt : Nat)
  /-- RTU_POSITION (R220). -/
  | rtuPosition (lt : Nat)
  /-- RTU_DISPATCH_DONE (R223). -/
  | rtuDispatchDone (lt : Nat)
  /-- RTU_COMBINE_TOKEN (R224). -/
  | rtuCombineToken (lt : Nat)
  /-- RTU_NOTICE_POP (R224). -/
  | rtuNoticePop (lt : Nat)
  /-- RTU_COMBINE_TIMEOUT (R224). -/
  | rtuCombineTimeout (lt : Nat)
  /-- RTU_ABORT (R225). -/
  | rtuAbort (lt : Nat) (lv : Level)
  /-- SK_LOAD_START (R235). -/
  | skLoadStart (lt : Nat)
  /-- SK_LOAD_DONE (R236). -/
  | skLoadDone (lt : Nat)
  /-- SK_FLUSH_START (R238). -/
  | skFlushStart (lt : Nat)
  /-- SK_TRIGGER_SWITCH (R241). -/
  | skTriggerSwitch (lt : Nat) (ns : List (BitVec 2)) (sw : Bool)
  /-- SK_SWITCH_LANE_START (R242). -/
  | skSwitchLaneStart (lt : Nat)
  /-- SK_TOKEN_ARRIVE (R248). -/
  | skTokenArrive (lt : Nat) (t : SkToken)
  /-- SK_SPILL_MOVE (R248). -/
  | skSpillMove (lt : Nat) (slot : BitVec 2) (lane : BitVec 8) (q : BitVec 2)
  /-- SK_CREDIT_RETURN (R247). -/
  | skCreditReturn (lt : Nat) (slot : BitVec 2) (lane : BitVec 8) (route : BitVec 3) (gen : BitVec 8) (n : Nat)
  /-- SK_STALL_TIMEOUT (R250). -/
  | skStallTimeout (lt : Nat) (lane : BitVec 8)
  /-- SK_HIST_SAMPLE (R251). -/
  | skHistSample (lt : Nat)
  /-- SK_HIST_CFG_WRITE (R251). -/
  | skHistCfgWrite (lt : Nat) (lv : Level) (v : BitVec 32)
  /-- SK_BATCH_TIMER (R252). -/
  | skBatchTimer (lt : Nat) (slot : BitVec 2) (lane : BitVec 8) (route : BitVec 3)
  /-- SK_BATCH_COMPLETE (R253). -/
  | skBatchComplete (lt : Nat) (slot : BitVec 2) (lane : BitVec 8) (route : BitVec 3) (gen st : BitVec 8)
  /-- MESH_FLIT_RECEIVE (R257). -/
  | meshFlitReceive (pt : Nat) (net : BitVec 4) (dir : BitVec 2) (good : Bool)
  /-- MESH_LOSS_NOTICE (R268). -/
  | meshLossNotice (lt pt : Nat) (what : Loss)
  /-- EPOCH_CHANGE_START (R267). -/
  | epochChangeStart
  /-- EPOCH_SWAP (R267). -/
  | epochSwap
  /-- RED_PACKET_ARRIVE (R272). -/
  | redPacketArrive (pt : Nat) (p : RedPkt)
  /-- RED_WAIT_EXPIRE (R272). -/
  | redWaitExpire (pt : Nat) (p : RedPkt)
  /-- RED_CHUNK_STALL (R275). -/
  | redChunkStall (rid : BitVec 6) (chunk : Nat)
  /-- SYNC_ARRIVAL (R334). -/
  | syncArrival (o : BitVec 14) (arr : List (Bool × BitVec 32 × Nat × BitVec 11))
  /-- SYNC_HOME_UPDATE (R335). -/
  | syncHomeUpdate (o : BitVec 14) (adds : List (Nat × BitVec 32)) (sets : List (Nat × Bool))
  /-- SYNC_FETCH (R336). -/
  | syncFetch (lt : Nat) (o : BitVec 14)
  /-- SYNC_UPDATE_ARRIVE (R338). -/
  | syncUpdateArrive (lt : Nat) (o : BitVec 14) (directed : Bool) (v : BitVec 32)
  /-- SYNC_UPDATE_APPLY (R338). -/
  | syncUpdateApply (lt : Nat) (o : BitVec 14) (v : BitVec 32)
  /-- SYNC_REFUSE_ARRIVE (R336). -/
  | syncRefuseArrive (lt : Nat) (o : BitVec 14)
  /-- SYNC_BROKEN (R340). -/
  | syncBroken (o : BitVec 14)
  /-- SYNC_MIRROR_WRITE (R336). -/
  | syncMirrorWrite (lt : Nat) (lv : Level) (n : BitVec 8) (v : BitVec 32)
  /-- SYNC_SEM_WRITE (R344). -/
  | syncSemWrite (lt : Nat) (lv : Level) (n : BitVec 6) (v : BitVec 32)
  /-- SYNC_WAIT_STALL (R343). -/
  | syncWaitStall (lt : Nat) (c : CoreId)
  /-- CH_XACT_START (R282). -/
  | chXactStart (lt : Nat) (slot : BitVec 6)
  /-- CH_XACT_TIMEOUT (R285). -/
  | chXactTimeout (lt : Nat) (slot : BitVec 6)
  /-- CH_REOPEN (R289). -/
  | chReopen (lt : Nat) (lv : Level) (ch : BitVec 8)
  /-- CH_CLOSE_CTRL (R289). -/
  | chCloseCtrl (lt : Nat) (lv : Level) (ch : BitVec 8)
  /-- CH_OVF_MAP_WRITE (R290). -/
  | chOvfMapWrite (lt : Nat) (lv : Level) (n : BitVec 4) (v : BitVec 32)
  /-- OVF_MOVE (R291). -/
  | ovfMove (lt : Nat) (b : BitVec 6)
  /-- CH_STALL_TIMEOUT (R292). -/
  | chStallTimeout (lt : Nat) (slot : Option (BitVec 6))
  /-- DMA_ITEM_START (R309). -/
  | dmaItemStart (lt : Nat)
  /-- DMA_CHUNK (R310). -/
  | dmaChunk (lt : Nat) (slot : BitVec 6)
  /-- DMA_STALL_TIMEOUT (R316). -/
  | dmaStallTimeout (lt : Nat) (slot : BitVec 6)
  /-- DMA_ABORT (R318). -/
  | dmaAbort (lt : Nat) (lv : Level)
  /-- PREEMPT_REQUEST (R322). -/
  | preemptRequest (lt : Nat)
  /-- LANE_STATE_SAVE (R116). -/
  | laneStateSave (lt : Nat) (lane : BitVec 8)
  /-- TILE_PRE_SAVE (R322). -/
  | tilePreSave (lt : Nat) (lv : Level)
  /-- TILE_PRE_SAVED (R322). -/
  | tilePreSaved (lt : Nat)
  /-- TILE_PRE_RESUME (R325). -/
  | tilePreResume (lt : Nat) (lv : Level)
  /-- TILE_PRE_DISCARD (R325). -/
  | tilePreDiscard (lt : Nat) (lv : Level)
  /-- PLACEMENT_GROUP_HALT (R327). -/
  | placementGroupHalt (g : Nat)
  /-- FAB_PORT_ENABLE (R350). -/
  | fabPortEnable (lv : Level) (p : Nat)
  /-- FAB_PORT_DISABLE (R351). -/
  | fabPortDisable (lv : Level) (p : Nat)
  /-- FAB_PORT_TRAINED (R350). -/
  | fabPortTrained (p : Nat)
  /-- FAB_HELLO_RECEIVE (R471). -/
  | fabHelloReceive (p : Nat) (x : HelloFlit)
  /-- FAB_PORT_DOWN (R351). -/
  | fabPortDown (p : Nat) (cause : BitVec 4)
  /-- FAB_PORT_RETRY (R351). -/
  | fabPortRetry (p : Nat)
  /-- FAB_FLIT_RECEIVE (R354). -/
  | fabFlitReceive (p : Nat) (fec : Bool) (f : FabFlit)
  /-- FAB_PACKET_ARRIVE (R365). -/
  | fabPacketArrive (p : Nat) (vc : BitVec 3) (wait : Nat)
  /-- FAB_ACK_RECEIVE (R358). -/
  | fabAckReceive (src : BitVec 16) (key : BitVec 4) (base : BitVec 64) (bitmap : BitVec 16) (ece : Bool) (st : BitVec 8)
  /-- FAB_RETRANSMIT (R359). -/
  | fabRetransmit (d : BitVec 16) (key : BitVec 4) (psn : BitVec 64)
  /-- FAB_ESC_MOVE (R363). -/
  | fabEscMove (p : Nat) (vc : BitVec 3) (wait : EscWait)
  /-- FAB_CC_PERIOD (R370). -/
  | fabCcPeriod (d : BitVec 16) (idle : Bool)
  /-- FAB_FLAG_HOLD_EXPIRE (R372). -/
  | fabFlagHoldExpire (src : BitVec 16) (key : BitVec 4) (psn : BitVec 64)
  /-- KEX_INIT_RECEIVE (R454). -/
  | kexInitReceive (src : BitVec 16) (gen : BitVec 4) (xchg : BitVec 32) (body : List Byte)
  /-- KEX_REPLY_RECEIVE (R454). -/
  | kexReplyReceive (src : BitVec 16) (gen : BitVec 4) (xchg : BitVec 32) (body : List Byte)
  /-- AUTH_RECEIVE (R454). -/
  | authReceive (src : BitVec 16) (gen : BitVec 4) (xchg : BitVec 32) (body : List Byte)
  /-- SESSION_ABORT_RECEIVE (R455). -/
  | sessionAbortReceive (src : BitVec 16) (gen : BitVec 4) (xchg : BitVec 32) (body : List Byte)
  /-- ISK_SHARE_RECEIVE (R458). -/
  | iskShareReceive (src : BitVec 16) (gen : BitVec 4) (xchg : BitVec 32) (body : List Byte)
  /-- SESSION_RESEND (R455). -/
  | sessionResend (d : BitVec 16)
  /-- SESSION_ROTATE (R456). -/
  | sessionRotate (d : BitVec 16)
  /-- SESSION_OLD_GEN_EXPIRE (R456). -/
  | sessionOldGenExpire (d : BitVec 16)
  /-- PWR_ESTIMATE_WINDOW (R393). -/
  | pwrEstimateWindow (r : Nat)
  /-- PWR_REGION_PERIOD (R396). -/
  | pwrRegionPeriod (r : Nat)
  /-- PWR_CALIBRATE (R394). -/
  | pwrCalibrate (pin : Option (BitVec 16))
  /-- PWR_ALLOCATE (R395). -/
  | pwrAllocate
  /-- PWR_CAP_WRITE (R397). -/
  | pwrCapWrite (lv : Level) (v : BitVec 32)
  /-- DROOP_CLAMP (R399). -/
  | droopClamp (lt : Nat)
  /-- DROOP_NOTICE (R399). -/
  | droopNotice (r : Nat)
  /-- DROOP_RECOVERY_TICK (R399). -/
  | droopRecoveryTick (r : Nat)
  /-- DROOP_CLOCK_STOP (R400). -/
  | droopClockStop (r lowest : Nat)
  /-- PWR_BARRIER_WAIT (R401). -/
  | pwrBarrierWait (r : Nat)
  /-- PWR_BARRIER_RELEASE (R403). -/
  | pwrBarrierRelease (r : Nat)
  /-- PWR_RAMP_TICK (R403). -/
  | pwrRampTick (r : Nat)
  /-- THERMAL_SAMPLE (R405). -/
  | thermalSample (f : Nat) (temps : Vector (BitVec 8) 16)
  /-- REGION_HALT_DONE (R407). -/
  | regionHaltDone (r : Nat)
  /-- REGION_RESUME (R408). -/
  | regionResume (lv : Level) (r : Nat)
  /-- THERMAL_TRIP (R409). -/
  | thermalTrip (r : Nat)
  /-- MC_TAKEOVER (R448). -/
  | mcTakeover
  /-- REF_MONITOR_WINDOW (R413). -/
  | refMonitorWindow (count : Nat)
  /-- REF_TIMEOUT (R413). -/
  | refTimeout
  /-- TRIM_COUNT (R414). -/
  | trimCount (count : Nat) (sof : Bool)
  /-- PLL_LOSS_OF_LOCK (R417). -/
  | pllLossOfLock (n : Nat)
  /-- PLL_RELOCK_DONE (R418). -/
  | pllRelockDone (n : Nat)
  /-- CLK_PLL_START (R420). -/
  | clkPllStart (lv : Level) (n : Nat)
  /-- CLK_PLL_STOP (R420). -/
  | clkPllStop (lv : Level) (n : Nat)
  /-- PLL_LOCK (R420). -/
  | pllLock (n : Nat)
  /-- TILE_SLEEP (R421). -/
  | tileSleep (lt : Nat)
  /-- TILE_WAKE (R422). -/
  | tileWake (lt : Nat)
  /-- TILE_WAKE_DONE (R422). -/
  | tileWakeDone (lt : Nat)
  /-- TEST_START (R430). -/
  | testStart (f : Nat)
  /-- TEST_DONE (R433): whether the test passes; for a link, how many lanes fail of a group whose spare is free, and which is the first. -/
  | testDone (f kind pt num : Nat) (pass : Bool) (lanes lane : Nat)
  /-- FC_FIRMWARE_RELOAD_DONE (R426). -/
  | fcFirmwareReloadDone (f : Nat)
  /-- SKB_TRIGGER (R441). -/
  | skbTrigger (sel : BitVec 12) (n : BitVec 4)
  /-- SKB_RECORD_WRITE (R438). -/
  | skbRecordWrite (sel : BitVec 12)
  /-- SKB_FIRE (R440). -/
  | skbFire (sel : BitVec 12) (lv : Level) (n : BitVec 4)
  /-- GESSO_FULL_TEST_WRITE (R50). -/
  | gessoFullTestWrite (lv : Level)
  /-- FULL_TEST_DONE (R50). -/
  | fullTestDone (fs : List Finding)
  /-- SEC_COMMIT_SVN (R446). -/
  | secCommitSvn (lv : Level)
  /-- POWER_GOOD (R487). -/
  | powerGood (b : BootIn)
  /-- MODULE_RESET_PIN (R464). -/
  | moduleResetPin (b : BootIn)
  /-- INPUT_SAG (R488). -/
  | inputSag (long back : Bool)
  /-- POWER_FAIL (R488). -/
  | powerFail (excess : Bool)
  /-- LIFE_HOUR_TICK (R493): the mean of the sensors, in 0.01 °C, and whether the mean TMAX of a region exceeds 90 °C, of an hour in which no
  TEMP_SAMPLE came. -/
  | lifeHourTick (mean : BitVec 16) (excess : Bool)
  /-- PMBUS_POLL (R469). -/
  | pmbusPoll (w : Option (BitVec 16 × BitVec 16 × BitVec 16))
  /-- PART_INSERTED (R470). -/
  | partInserted (idx : Nat) (m : List Byte)
  /-- BUNDLE_PRESENT_CHANGE (R484). -/
  | bundlePresentChange (b : Nat) (high : Bool)
  /-- MGT_STATUS (R468). -/
  | mgtStatus
  /-- MGT_SERIAL (R468). -/
  | mgtSerial
  /-- MGT_MAC_BASE (R468). -/
  | mgtMacBase
  /-- MGT_TMAX (R468). -/
  | mgtTmax
  /-- MGT_PIN (R468). -/
  | mgtPin
  /-- MGT_ALERT_CAUSE (R468). -/
  | mgtAlertCause
  /-- SMBUS_ALERT_RESPONSE (R468). -/
  | smbusAlertResponse
  /-- I3C_ENTDAA (R468). -/
  | i3cEntdaa (addr : BitVec 7)
  /-- I3C_SETDASA (R468). -/
  | i3cSetdasa (static dyn : BitVec 7)
  /-- I3C_RSTDAA (R468). -/
  | i3cRstdaa
  /-- I3C_GETPID (R468). -/
  | i3cGetpid
  /-- I3C_GETBCR (R468). -/
  | i3cGetbcr
  /-- I3C_GETDCR (R468). -/
  | i3cGetdcr
  /-- I3C_GETSTATUS (R468). -/
  | i3cGetstatus
  /-- I3C_ENEC (R468). -/
  | i3cEnec (ev : BitVec 8)
  /-- I3C_DISEC (R468). -/
  | i3cDisec (ev : BitVec 8)
  /-- I3C_SETMWL (R468). -/
  | i3cSetmwl (n : BitVec 16)
  /-- I3C_GETMWL (R468). -/
  | i3cGetmwl
  /-- I3C_SETMRL (R468). -/
  | i3cSetmrl (n : BitVec 16)
  /-- I3C_GETMRL (R468). -/
  | i3cGetmrl
  /-- LCP_CONNECT (R476). -/
  | lcpConnect (n : BitVec 1) (full : Bool)
  /-- LCP_DISCONNECT (R477). -/
  | lcpDisconnect (id : BitVec 3)
  /-- LCP_UNKNOWN_TYPE (R477). -/
  | lcpUnknownType (via : Nat) (req : BitVec 32) (typ : BitVec 16)
  /-- GET_STATUS (R477). -/
  | getStatus (via : Nat) (req : BitVec 32)
  /-- ATTEST (R452). -/
  | attest (via : Nat) (req : BitVec 32) (nonce : List Byte)
  /-- ENROLL (R449). -/
  | enroll (via : Nat) (req : BitVec 32) (keys trailer : List Byte)
  /-- SET_POLICY (R450). -/
  | setPolicy (via : Nat) (req : BitVec 32) (b : List Byte)
  /-- SET_MEMBERSHIP (R451). -/
  | setMembership (via : Nat) (req : BitVec 32) (b : List Byte)
  /-- SET_ROUTES (R367). -/
  | setRoutes (via : Nat) (req : BitVec 32) (b : List Byte)
  /-- LOAD_JOB (R478). -/
  | loadJob (via : Nat) (req : BitVec 32) (off : BitVec 64) (bs : List Byte) (fs : List Finding)
  /-- END_JOB (R319). -/
  | endJob (via : Nat) (req : BitVec 32)
  /-- SET_CAP (R397). -/
  | setCap (via : Nat) (req : BitVec 32) (cap : BitVec 16)
  /-- READ_LOG (R427). -/
  | readLog (via : Nat) (req : BitVec 32) (log : BitVec 8) (first count : BitVec 32)
  /-- FW_WRITE (R446). -/
  | fwWrite (via : Nat) (req : BitVec 32) (stage : BitVec 8) (image : List Byte)
  /-- LCP_COMMIT_SVN (R446). -/
  | lcpCommitSvn (via : Nat) (req : BitVec 32)
  /-- ISK_CREATE (R458). -/
  | iskCreate (via : Nat) (req : BitVec 32)
  /-- OPEN_STREAM (R474). -/
  | openStream (via : Nat) (req : BitVec 32) (port : BitVec 8) (dirOut : Bool) (form : BitVec 8) (lt : BitVec 16) (window : BitVec 8) (off len : BitVec 32)
  /-- CLOSE_STREAM (R474). -/
  | closeStream (via : Nat) (req id : BitVec 32)
  /-- LCP_FULL_TEST (R50). -/
  | lcpFullTest (via : Nat) (req : BitVec 32)
  /-- RESET (R465). -/
  | reset (via : Nat) (req : BitVec 32) (b : BootIn)
  /-- UNLOCK (R460). -/
  | unlock (via : Nat) (req : BitVec 32) (b : List Byte)
  /-- REG_READ (R480). -/
  | regRead (via : Nat) (req : BitVec 32) (sel : BitVec 12) (off : BitVec 28) (n : BitVec 32)
  /-- REG_WRITE (R480). -/
  | regWrite (via : Nat) (req : BitVec 32) (sel : BitVec 12) (off : BitVec 28) (ws : List WriteWord)
  /-- USB_ATTACH (R479). -/
  | usbAttach (on : Bool)
  /-- RDMA_WRITE_RECEIVE (R474). -/
  | rdmaWriteReceive (id : Nat) (f : HostFrame) (off : Nat) (data : List Byte)
  /-- RDMA_READ_RECEIVE (R474). -/
  | rdmaReadReceive (id : Nat) (f : HostFrame) (off n : Nat)
  /-- RDMA_SEND_RECEIVE (R474). -/
  | rdmaSendReceive (id : Nat) (f : HostFrame) (data : List Byte)
  /-- ROCE_CNP_RECEIVE (R473). -/
  | roceCnpReceive (id : Nat)
  /-- ROCE_RATE_TIMER (R473). -/
  | roceRateTimer (id : Nat)
  /-- FIELD_CONTROLLER_FATAL (R426). -/
  | fieldControllerFatal (f : Nat)
  /-- HOST_PORT_DOWN (R473). -/
  | hostPortDown (n : BitVec 1)
  /-- HOST_PORT_UP (R473). -/
  | hostPortUp (n : BitVec 1)
  /-- FAB_ACK_SEND (R358). -/
  | fabAckSend (src : BitVec 16) (key : BitVec 4)
deriving DecidableEq, Repr

end Sys2Proof
end

