-- ==== Sys2Proof/Config.lean ====
section
/-!
DEFINITION. What the spec leaves open: free values without a body, so that no proof can rest on one.
-/
namespace Sys2Proof

/-- A value that the spec does not state, one for each draw (log entry 2). -/
opaque Config.freeWord : Nat → DWord

/-- A choice that the spec does not state, one for each draw (log entry 2). -/
opaque Config.freeNat : Nat → Nat

/-- A byte of memory whose contents the spec leaves undefined, by draw and position (log entry 2). -/
opaque Config.freeByte : Nat → Nat → Byte

/-- The value of a special function for an input, within the accuracy that the spec states (05, R122; log entry 2). -/
opaque Config.sfuValue : Nat → Word → Word

/-- Which of two operands an instruction returns where the spec names neither: operation, operand width, operands (05,
R120; log entry 2). -/
opaque Config.takesFirst : Nat → Nat → Nat → Nat → Bool

/-- The position within its field whose router serves a Management Complex, by which complex it is (10, R261; 01: the fields are 24 and
35, the position is not stated; log entry 2). -/
opaque Config.mcPosition : Bool → Nat

/-- Identity of the module, as fused or derived (00, R4; 19, R444, Table 19.5): year, week and sequence of its serial number, host MAC base,
year and week of manufacture, hash of the boot ROM, provisioned ID and characteristics of the I3C target, whether `PQ_REQUIRED` is blown (log entry 2). -/
opaque Config.serialYear : Nat
opaque Config.serialWeek : Nat
opaque Config.serialSeq : Nat
opaque Config.macBase : List Byte
opaque Config.mfgYear : Nat
opaque Config.mfgWeek : Nat
opaque Config.romHash : List Byte
opaque Config.i3cPid : List Byte
opaque Config.i3cBcr : Byte
opaque Config.i3cDcr : Byte
opaque Config.i3cStatus : Nat → List Byte
opaque Config.pqRequired : Bool

/-- The transmit preset that a port of a passive copper cable takes from the insertion loss in 0.1 dB, and the one that active assemblies
take (20, R470; log entry 2). -/
opaque Config.lossPreset : Nat → Nat
opaque Config.fixedPreset : Nat

/-- The logical tile count at shipment: every module leaves with 30 regions of 44 (01, R23; 19, Table 19.5). -/
def Config.shipLt : Nat := 1320

/-- A week of the ISO calendar, 1 to 53, from a free number (00, Table 0.1). -/
def Config.isoWeek (n : Nat) : Nat := 1 + n % 53

/-- The low `n` decimal digits of a number, ASCII. -/
def Config.digits (n x : Nat) : List Byte := (List.range n).map (fun i => BitVec.ofNat 8 (0x30 + x / 10 ^ (n - 1 - i) % 10))

/-- The serial number: `VQ`, two digits of the year, two of the week, six of the sequence, ASCII (00, Table 0.1). -/
def Config.serial : List Byte :=
  [0x56, 0x51] ++ Config.digits 2 Config.serialYear ++ Config.digits 2 (Config.isoWeek Config.serialWeek) ++ Config.digits 6 Config.serialSeq

/-- The ordering code XMW1-A, ASCII, zero-padded to 8 B (00, Table 0.1; 19, Table 19.5). -/
def Config.ordering : List Byte := [0x58, 0x4D, 0x57, 0x31, 0x2D, 0x41, 0, 0]

/-- The cryptographic primitives that the spec names, uninterpreted (19; log entry 2): whether a trailer's signatures over bytes verify
under the key with a hash, the signatures that a device identity key with a seed and the factory key make over bytes (RSA, or ML-DSA where the argument
says so; whether the factory key makes an ML-DSA one), AES-256-GCM sealing and opening under key, IV and
additional data, AES-256 wrapping and unwrapping under a key, and the exporter value of a TLS session. -/
opaque Config.sigOk : List Byte → List Byte → List Byte → Bool
opaque Config.dikSign : Bool → List Byte → List Byte → List Byte
opaque Config.factorySign : Bool → List Byte → List Byte
opaque Config.factoryMldsa : Bool
opaque Config.seal : List Byte → List Byte → List Byte → List Byte → List Byte
opaque Config.open_ : List Byte → List Byte → List Byte → List Byte → Option (List Byte)
opaque Config.wrap : List Byte → List Byte → List Byte
opaque Config.unwrap : List Byte → List Byte → List Byte
opaque Config.exporter : Nat → List Byte

/-- The device secret, which the fuzzy extractor reconstructs on either Management Complex from its PUF response and its fused helper data; the
fused device salt; and the public keys that the key generation of FIPS 186-5 and FIPS 204 makes from seeds (19, R444; log entry 2). -/
opaque Config.deviceSecret : List Byte
opaque Config.salt : List Byte
opaque Config.rsaPublic : List Byte → List Byte
opaque Config.mldsaPublic : List Byte → List Byte
/-- The secrets agreed in an exchange with these KEX_INIT and KEX_REPLY bodies: the ECDH x-coordinate, then the ML-KEM secret (19, R454; log entry
2). -/
opaque Config.kexSecrets : List Byte → List Byte → List Byte

/-- The keys whose hashes the boot ROM holds (Table 19.1): factory key, service key (log entry 2). -/
opaque Config.factoryKey : List Byte
opaque Config.serviceKey : List Byte

/-- Figures of the energy model that the spec does not state (16; log entry 2): the Study unit's draw, bank lines
read for a row group by format, and how a quotient or a root is rounded where the spec does not say. -/
opaque Config.studyDraw : Nat → Nat
opaque Config.rowLines : Nat → Nat
opaque Config.roundsUp : Nat → Nat → Bool
/-- The cost of 64 slots on a tile whose Matrix Engine has no item, of which R403 does not speak (16; log entry 2). -/
opaque Config.idleSlotCost : Nat → Nat

/-- Whether the accepted list of stage 1 firmware carries a cable's part number (20, R471; log entry 2). -/
opaque Config.partAccepted : List Byte → Bool

end Sys2Proof
end

