-- ==== Sys2Proof/Machine/Bits.lean ====
section
/-!
DEFINITION. Bit fields of registers and little-endian bytes (R10, R11).
-/
namespace Sys2Proof.Machine

open Sys2Proof

/-- Bits [hi:lo] of a word, as a number (R10). -/
def fld {n : Nat} (w : BitVec n) (hi lo : Nat) : Nat :=
  (w.toNat / 2 ^ lo) % 2 ^ (hi + 1 - lo)

/-- One bit of a word. -/
def bit {n : Nat} (w : BitVec n) (i : Nat) : Bool :=
  w.getLsbD i

/-- The mask with ones in [hi:lo]. -/
def mask (n hi lo : Nat) : BitVec n :=
  BitVec.ofNat n ((2 ^ (hi + 1 - lo) - 1) * 2 ^ lo)

/-- The word with bits [hi:lo] set to `v`, cut to the width of the field. -/
def setFld {n : Nat} (w : BitVec n) (hi lo v : Nat) : BitVec n :=
  (w &&& ~~~(mask n hi lo)) ||| (BitVec.ofNat n ((v % 2 ^ (hi + 1 - lo)) * 2 ^ lo))

/-- The word with bit `i` set to `b`. -/
def setBit {n : Nat} (w : BitVec n) (i : Nat) (b : Bool) : BitVec n :=
  setFld w i i (if b then 1 else 0)

/-- Bits [hi:lo] of a number. -/
def nfld (x hi lo : Nat) : Nat :=
  (x / 2 ^ lo) % 2 ^ (hi + 1 - lo)

/-- One bit of a number. -/
def nbit (x i : Nat) : Bool :=
  x.testBit i

/-- The number whose little-endian bytes are `bs` (R11). -/
def leNat : List Byte → Nat
  | [] => 0
  | b :: r => b.toNat + 256 * leNat r

/-- The `n` little-endian bytes of `x` (R11). -/
def leBytes : Nat → Nat → List Byte
  | 0, _ => []
  | n + 1, x => BitVec.ofNat 8 x :: leBytes n (x / 256)

/-- `n` bytes of `bs` from `i`, zero past its end. -/
def slice (bs : List Byte) (i n : Nat) : List Byte :=
  ((bs.drop i).take n) ++ List.replicate (n - ((bs.drop i).take n).length) 0

/-- The little-endian number in `n` bytes of a record at offset `i`. -/
def fieldAt (bs : List Byte) (i n : Nat) : Nat :=
  leNat (slice bs i n)

/-- A bit as a number. -/
def b2n (b : Bool) : Nat := if b then 1 else 0

/-- `x + 1`, saturating at `2 ^ n - 1`. -/
def satInc (n x : Nat) : Nat := if x + 1 ≥ 2 ^ n then 2 ^ n - 1 else x + 1

/-- `x + k`, saturating at `2 ^ n - 1`. -/
def satAdd (n x k : Nat) : Nat := if x + k ≥ 2 ^ n then 2 ^ n - 1 else x + k

/-- `n / d`, rounded up. -/
def ceilDiv (n d : Nat) : Nat := (n + d - 1) / d

/-- The number of bits set in `x`, below bit `n`. -/
def popcount : Nat → Nat → Nat
  | 0, _ => 0
  | n + 1, x => b2n (x % 2 == 1) + popcount n (x / 2)

/-- The low `n` bits of `x` in reverse order (R338). -/
def revBits : Nat → Nat → Nat
  | 0, _ => 0
  | n + 1, x => (x % 2) * 2 ^ n + revBits n (x / 2)

/-- `x` read as a signed number of `n` bits. -/
def sgn (n x : Nat) : Int :=
  if x % 2 ^ n ≥ 2 ^ (n - 1) then (x % 2 ^ n : Int) - 2 ^ n else (x % 2 ^ n : Int)

/-- A 32-bit word whose bit i is `f i`. -/
def bits32 (f : Nat → Bool) : Word :=
  BitVec.ofNat 32 ((List.range 32).foldl (fun a i => a + b2n (f i) * 2 ^ i) 0)

end Sys2Proof.Machine
end

