-- ==== Sys2Proof/Machine/Kv.lean ====
section
/-!
DEFINITION. Sparse tables by number: a list of key and value pairs with rising keys.
-/
namespace Sys2Proof.Machine

/-- A sparse table: key and value pairs, keys rising. -/
abbrev KV (α : Type) := List (Nat × α)

/-- The value at key `k`, or `d` where the table lists none. -/
def kvGet {α : Type} (d : α) (m : KV α) (k : Nat) : α :=
  match m with
  | [] => d
  | (k', v) :: r => if k' = k then v else kvGet d r k

/-- The table with `v` at key `k`. -/
def kvSet {α : Type} (m : KV α) (k : Nat) (v : α) : KV α :=
  match m with
  | [] => [(k, v)]
  | (k', v') :: r =>
    if k < k' then (k, v) :: (k', v') :: r
    else if k = k' then (k, v) :: r
    else (k', v') :: kvSet r k v

/-- Whether the table lists key `k`. -/
def kvHas {α : Type} (m : KV α) (k : Nat) : Bool :=
  m.any (fun p => p.1 == k)

/-- The table without key `k`. -/
def kvDel {α : Type} (m : KV α) (k : Nat) : KV α :=
  m.filter (fun p => p.1 != k)

/-- The value at key `k`, where the table lists one. -/
def kvFind {α : Type} (m : KV α) (k : Nat) : Option α :=
  match m with
  | [] => none
  | (k', v) :: r => if k' = k then some v else kvFind r k

end Sys2Proof.Machine
end

