-- ==== Sys2Proof/Machine/Sha.lean ====
section
/-!
DEFINITION. SHA-256 over bytes, which the spec names for hashes and measurements (02, R43; 19, R447).
-/
namespace Sys2Proof.Machine

open Sys2Proof

/-- The 64 round constants of SHA-256, the first one highest. -/
def shaKs : Nat := 0x428a2f9871374491b5c0fbcfe9b5dba53956c25b59f111f1923f82a4ab1c5ed5d807aa9812835b01243185be550c7dc372be5d7480deb1fe9bdc06a7c19bf174e49b69c1efbe47860fc19dc6240ca1cc2de92c6f4a7484aa5cb0a9dc76f988da983e5152a831c66db00327c8bf597fc7c6e00bf3d5a7914706ca63511429296727b70a852e1b21384d2c6dfc53380d13650a7354766a0abb81c2c92e92722c85a2bfe8a1a81a664bc24b8b70c76c51a3d192e819d6990624f40e3585106aa07019a4c1161e376c082748774c34b0bcb5391c0cb34ed8aa4a5b9cca4f682e6ff3748f82ee78a5636f84c878148cc7020890befffaa4506cebbef9a3f7c67178f2

/-- Round constant `i`. -/
def shaK (i : Nat) : Nat := shaKs / 2 ^ (32 * (63 - i)) % 2 ^ 32

/-- The first hash value, word A highest. -/
def shaInit : List Nat := (List.range 8).map (fun i => 0x6a09e667bb67ae853c6ef372a54ff53a510e527f9b05688c1f83d9ab5be0cd19 / 2 ^ (32 * (7 - i)) % 2 ^ 32)

/-- A 32-bit word rotated right. -/
def rotr32 (x n : Nat) : Nat := (x / 2 ^ n) ||| (x * 2 ^ (32 - n) % 2 ^ 32)

/-- The message schedule, newest word first. -/
def shaExpand : Nat → List Nat → List Nat
  | 0, w => w
  | n + 1, w =>
    let a := w.getD 14 0
    let b := w.getD 1 0
    let s0 := rotr32 a 7 ^^^ rotr32 a 18 ^^^ (a / 2 ^ 3)
    let s1 := rotr32 b 17 ^^^ rotr32 b 19 ^^^ (b / 2 ^ 10)
    shaExpand n ((w.getD 15 0 + s0 + w.getD 6 0 + s1) % 2 ^ 32 :: w)

/-- One round on the eight working words. -/
def shaRound (h : List Nat) (kw : Nat) : List Nat :=
  match h with
  | [a, b, c, d, e, f, g, x] =>
    let s1 := rotr32 e 6 ^^^ rotr32 e 11 ^^^ rotr32 e 25
    let ch := (e &&& f) ^^^ ((2 ^ 32 - 1 - e) &&& g)
    let t1 := x + s1 + ch + kw
    let s0 := rotr32 a 2 ^^^ rotr32 a 13 ^^^ rotr32 a 22
    let mj := (a &&& b) ^^^ (a &&& c) ^^^ (b &&& c)
    [(t1 + s0 + mj) % 2 ^ 32, a, b, c, (d + t1) % 2 ^ 32, e, f, g]
  | _ => h

/-- The number in big-endian bytes. -/
def beNat (bs : List Byte) : Nat := bs.foldl (fun a b => 256 * a + b.toNat) 0

/-- The `n` big-endian bytes of a number. -/
def beBytes (n x : Nat) : List Byte := (leBytes n x).reverse

/-- One block of 64 bytes. -/
def shaBlock (h : List Nat) (blk : List Byte) : List Nat :=
  let w := shaExpand 48 (((List.range 16).map (fun i => beNat ((blk.drop (4 * i)).take 4))).reverse)
  let r := (w.reverse.zipIdx).foldl (fun h p => shaRound h (p.1 + shaK p.2)) h
  (h.zip r).map (fun p => (p.1 + p.2) % 2 ^ 32)

/-- The blocks of a padded message in turn. -/
def shaBlocks : Nat → List Nat → List Byte → List Nat
  | 0, h, _ => h
  | n + 1, h, bs => shaBlocks n (shaBlock h (bs.take 64)) (bs.drop 64)

/-- SHA-256 of bytes. -/
def sha256 (bs : List Byte) : List Byte :=
  let n := bs.length
  let p := bs ++ [0x80] ++ List.replicate ((119 - n % 64) % 64) 0 ++ beBytes 8 (8 * n)
  (shaBlocks (p.length / 64) shaInit p).flatMap (beBytes 4)

/-- The bytes of an ASCII text. -/
def asciiBytes (t : String) : List Byte := t.toList.map (fun c => BitVec.ofNat 8 c.toNat)

/-- HMAC with SHA-256 under a key of at most 64 bytes (RFC 2104). -/
def hmacSha (key msg : List Byte) : List Byte :=
  let pad := fun (x : Byte) => (List.range 64).map (fun i => key.getD i 0 ^^^ x)
  sha256 (pad 0x5C ++ sha256 (pad 0x36 ++ msg))

/-- HKDF-Extract with SHA-256 (RFC 5869; 19, R444, R454). -/
def hkdfExtract (salt ikm : List Byte) : List Byte := hmacSha salt ikm

/-- HKDF-Expand with SHA-256 to 32 bytes (RFC 5869; 19, R444, R454). -/
def hkdfExpand (prk info : List Byte) : List Byte := hmacSha prk (info ++ [1])

end Sys2Proof.Machine
end

