-- ==== Sys2Proof/Machine/Keys.lean ====
section
/-!
DEFINITION. The keys that SEC derives from the device secret (19, R444).
-/
namespace Sys2Proof.Machine

open Sys2Proof

/-- The private part of the device identity key: the seeds of its RSA and ML-DSA halves; none while SEC SRAM is clear (19, Table 19.1). -/
structure Dik where
  rsaSeed : List Byte
  pqSeed : List Byte
deriving DecidableEq, Repr

/-- No key. -/
def Dik.none : Dik := ⟨[], []⟩

/-- HKDF-SHA-256 of a device secret with the fused salt under a label (R444). -/
def derive (secret : List Byte) (label : String) : List Byte := hkdfExpand (hkdfExtract Config.salt secret) (asciiBytes label)

/-- The device identity key of a device secret. The seed of the HMAC-DRBG of its RSA half is taken as 32 B (DESIGN CHOICE, log entry 54). -/
def dikOf (secret : List Byte) : Dik := ⟨derive secret "xmw1 dik rsa", derive secret "xmw1 dik mldsa"⟩

/-- The device wrap key of a device secret. -/
def dwkOf (secret : List Byte) : List Byte := derive secret "xmw1 dwk"

/-- The public keys of a device identity key; an ML-DSA key is optional (R444; Table 19.1). -/
def Dik.rsa (k : Dik) : List Byte := Config.rsaPublic k.rsaSeed
def Dik.pq (k : Dik) : List Byte := Config.mldsaPublic k.pqSeed

end Sys2Proof.Machine
end

