-- ==== Sys2Proof/Machine/Sites.lean ====
section
/-!
DEFINITION. Sites of the wafer: fields, regions, positions, spares, and what the entries of a Gesso map say of them (02, R35 to R40, R51).
-/
namespace Sys2Proof.Machine

open Sys2Proof

/-- An entry of the Gesso map (02, R43, Table 2.5). -/
structure MapEnt where
  typ : Nat
  pending : Bool
  factory : Bool
  transients : Bool
  pt : Nat
  arg0 : Nat
  arg1 : Nat
  boot : Nat
deriving DecidableEq, Repr

/-- First field, number of fields and first field column of each field row (Table 2.1). -/
def fieldRows : List (Nat × Nat × Nat) :=
  [(0, 3, 4), (3, 7, 2), (10, 9, 1), (19, 11, 0), (30, 11, 0), (41, 9, 1), (50, 7, 2), (57, 3, 4)]

/-- Field column, upper field and lower field of each region (Table 2.2). -/
def regionFields : List (Nat × Nat × Nat) :=
  [(0, 19, 30), (1, 10, 20), (1, 31, 41), (2, 3, 11), (2, 21, 32), (2, 42, 50), (3, 4, 12), (3, 22, 33), (3, 43, 51), (4, 0, 5), (4, 13, 23), (4, 34, 44), (4, 52, 57), (5, 1, 6), (5, 14, 24),
   (5, 35, 45), (5, 53, 58), (6, 2, 7), (6, 15, 25), (6, 36, 46), (6, 54, 59), (7, 8, 16), (7, 26, 37), (7, 47, 55), (8, 9, 17), (8, 27, 38), (8, 48, 56), (9, 18, 28), (9, 39, 49), (10, 29, 40)]

/-- The upper field of a region. -/
def upperField (r : Nat) : Nat := (regionFields.getD r (0, 0, 0)).2.1

/-- The lower field of a region. -/
def lowerField (r : Nat) : Nat := (regionFields.getD r (0, 0, 0)).2.2

/-- The region of a field (Table 2.2). -/
def regionOfField (f : Nat) : Nat :=
  (regionFields.findIdx? (fun x => x.2.1 == f || x.2.2 == f)).getD 0

/-- Field row of a field (Table 2.1). -/
def fieldRow (f : Nat) : Nat :=
  (fieldRows.findIdx? (fun x => x.1 ≤ f && f < x.1 + x.2.1)).getD 0

/-- Field column of a field (Table 2.1). -/
def fieldCol (f : Nat) : Nat :=
  let x := fieldRows.getD (fieldRow f) (0, 0, 0)
  x.2.2 + (f - x.1)

/-- Physical coordinates (X, Y) of a physical tile (R35). -/
def ptXY (pt : Nat) : Nat × Nat :=
  (4 * fieldCol (pt / 24) + (pt % 24) % 4, 6 * fieldRow (pt / 24) + (pt % 24) / 4)

/-- The physical tile at coordinates (X, Y), where a field lies there (R35). -/
def ptAt (x y : Nat) : Option Nat :=
  let row := fieldRows.getD (y / 6) (0, 0, 0)
  if y < 48 ∧ row.2.2 ≤ x / 4 ∧ x / 4 < row.2.2 + row.2.1 then
    some (24 * (row.1 + (x / 4 - row.2.2)) + 4 * (y % 6) + x % 4)
  else none

/-- The Manhattan distance of two physical tiles in (X, Y). -/
def ptDist (a b : Nat) : Nat :=
  let p := ptXY a
  let q := ptXY b
  (max p.1 q.1 - min p.1 q.1) + (max p.2 q.2 - min p.2 q.2)

/-- Whether a position index is a spare position (R37). -/
def isSparePos (p : Nat) : Bool := p == 7 || p == 16

/-- The home index within its region of a physical tile at a position that is not spare (R37). -/
def homeIdx (pt : Nat) : Nat :=
  let p := pt % 24
  let a := if p < 7 then p else if p ≤ 15 then p - 1 else p - 2
  if upperField (regionOfField (pt / 24)) = pt / 24 then a else 22 + a

/-- The physical tile of home `h` of region `r` (R37). -/
def homePt (r h : Nat) : Nat :=
  let a := h % 22
  let p := if a < 7 then a else if a ≤ 14 then a + 1 else a + 2
  24 * (if h < 22 then upperField r else lowerField r) + p

/-- The four spare positions of a region (R37). -/
def sparePts (r : Nat) : List Nat :=
  [24 * upperField r + 7, 24 * upperField r + 16, 24 * lowerField r + 7, 24 * lowerField r + 16]

/-- Whether the entries record physical tile `pt` as defective (R39, R47). -/
def recordedBad (es : List MapEnt) (pt : Nat) : Bool :=
  es.any (fun e => e.pt == pt && (e.typ == 1 || (e.typ == 7 && e.arg0 != 3)))

/-- The substitution in effect for a home, by the entries in order: its spare, unless a later entry records the spare as
defective (R40, R45). -/
def subInEffect : List MapEnt → Nat → Option Nat
  | [], _ => none
  | e :: r, pt =>
    match subInEffect r pt with
    | some sp => some sp
    | none => if e.typ == 2 && e.pt == pt && !(recordedBad r e.arg0) then some e.arg0 else none

/-- The physical tile that serves home `h` of region `r`, if the home is served (R39, R40, R51). -/
def servingPt (es : List MapEnt) (r h : Nat) : Option Nat :=
  match subInEffect es (homePt r h) with
  | some sp => some sp
  | none => if recordedBad es (homePt r h) then none else some (homePt r h)

/-- The served homes of a region, in the order of their home indices (R51). -/
def servedHomes (es : List MapEnt) (r : Nat) : List Nat :=
  (List.range 44).filter (fun h => (servingPt es r h).isSome)

/-- The map's entries that are applied: those not pending (R51). -/
def appliedEntries (es : List MapEnt) : List MapEnt := es.filter (fun e => !e.pending)

/-- The region counts that the entries give (R51). -/
def countsOf (es : List MapEnt) : List Nat :=
  (List.range 30).map (fun r => (servedHomes (appliedEntries es) r).length)

end Sys2Proof.Machine
end

