-- ==== Sys2Proof/Machine/MapImage.lean ====
section
/-!
DEFINITION. Gesso map images as bytes of the boot flash: layout, signatures, the checks of an image (02, R43 to R46).
-/
namespace Sys2Proof.Machine

open Sys2Proof

/-! ### Signatures -/

/-- A signature trailer: scheme word, RSA signature of 384 B, ML-DSA signature of 3,309 B where the scheme has one (R44). -/
def trailerOf (rsa : List Byte) (mldsa : Option (List Byte)) : List Byte :=
  match mldsa with
  | none => leBytes 4 1 ++ slice rsa 0 384
  | some m => leBytes 4 3 ++ slice rsa 0 384 ++ slice m 0 3309

/-- The trailer that the device identity key makes over bytes; ML-DSA where the key has that half (R44; 19, Table 19.1). -/
def dikTrailer (k : Dik) (bytes : List Byte) : List Byte :=
  trailerOf (Config.dikSign false k.rsaSeed bytes) (if k.pq.isEmpty then none else some (Config.dikSign true k.pqSeed bytes))

/-- The trailer that the factory key makes over bytes (R44; 19, Table 19.1). -/
def factoryTrailer (bytes : List Byte) : List Byte :=
  trailerOf (Config.factorySign false bytes) (if Config.factoryMldsa then some (Config.factorySign true bytes) else none)

/-- Whether a trailer carries an ML-DSA signature (R44). -/
def hasMldsa (t : List Byte) : Bool := nbit (fieldAt t 0 4) 1

/-- The trailer at the front of bytes, by its scheme word (R44). -/
def trailerAt (bs : List Byte) : List Byte := bs.take (if hasMldsa bs then 3697 else 388)

/-- Whether a trailer over bytes verifies under the key with a hash: its scheme word, its length, its signatures (R44). -/
def signed (key bytes trailer : List Byte) : Bool :=
  nbit (fieldAt trailer 0 4) 0 && trailer.length == (if hasMldsa trailer then 3697 else 388) && Config.sigOk key bytes trailer

/-- Whether a trailer over bytes verifies under the factory key: one that the key made does (R44, R45). -/
def factorySigned (bytes trailer : List Byte) : Bool := trailer == factoryTrailer bytes || signed (sha256 Config.factoryKey) bytes trailer

/-- Whether a trailer over bytes verifies under the device identity key: one that the key made does (R44, R45). -/
def dikSigned (k : Dik) (bytes trailer : List Byte) : Bool := trailer == dikTrailer k bytes || signed (sha256 k.rsa) bytes trailer

/-! ### What entries say -/

/-- The physical tile at whose routers a fabric port attaches (R38). -/
def portPt (p : Nat) : Nat := 24 * (p / 2) + (if p % 2 = 0 then 4 else 19)

/-- Whether entries take a port down: PORT_DOWN, or a bypassed Bulk Mesh or Control Mesh router at its position (R38, Table 2.6). -/
def mapsDown (es : List MapEnt) (p : Nat) : Bool :=
  es.any (fun e => (e.typ == 8 && e.arg0 == p) || (e.typ == 7 && e.pt == portPt p && (e.arg0 == 0 || e.arg0 == 2)))

/-- STATE of a map: 0 normal, 1 degraded, 2 failed (R51, R53). -/
def mapState (counts : List Nat) : Nat := if counts.any (· < 36) then 2 else if counts.any (· < 44) then 1 else 0

/-- PORTS_DOWN of a map's header: bit n for port n (Table 2.4). -/
def mapPorts (es : List MapEnt) : Nat := (List.range 120).foldl (fun a p => a + b2n (mapsDown (appliedEntries es) p) * 2 ^ p) 0

/-! ### Making an image -/

/-- An entry of an image (Table 2.5). -/
def entryBytes (e : MapEnt) : List Byte :=
  leBytes 1 e.typ ++ leBytes 1 (b2n e.pending + 2 * b2n e.factory + 4 * b2n e.transients) ++ leBytes 2 e.pt ++ leBytes 4 e.arg0 ++ leBytes 4 e.arg1
    ++ leBytes 4 e.boot

/-- The entry table of an image. -/
def tableBytes (es : List MapEnt) : List Byte := (es.map entryBytes).flatten

/-- Header and entries of an image (Tables 2.4 and 2.5), which its signatures and the Gesso map hash cover (R44): `device` holds the hash of
slot F for a device map. -/
def imageBytes (es : List MapEnt) (generation boot : Nat) (device : Option (List Byte)) : List Byte :=
  let counts := countsOf es
  leBytes 4 0x4F535347 ++ leBytes 2 1 ++ leBytes 2 160 ++ Config.serial ++ leBytes 4 generation ++ leBytes 4 es.length
    ++ leBytes 2 (counts.foldl (· + ·) 0) ++ leBytes 1 (mapState counts) ++ leBytes 1 (b2n device.isSome) ++ (counts.map (leBytes 1)).flatten
    ++ leBytes 2 0 ++ leBytes 16 (mapPorts es) ++ leBytes 4 boot ++ leBytes 12 0 ++ sha256 (tableBytes es) ++ slice (device.getD []) 0 32
    ++ tableBytes es

/-- A device map as the active Management Complex writes and counter-signs it (R44, R46). -/
def deviceImage (k : Dik) (es : List MapEnt) (generation boot : Nat) (slotF : List Byte) : List Byte :=
  let b := imageBytes es generation boot (some (sha256 slotF))
  b ++ dikTrailer k b

/-- Slot F as shipped, where the factory recorded no defect (R44; log entry 4). -/
def shippedImage : List Byte :=
  let b := imageBytes [] 0 0 none
  b ++ factoryTrailer b

/-! ### Reading an image -/

/-- ENTRY_COUNT of an image. -/
def imgCount (b : List Byte) : Nat := fieldAt b 0x18 4

/-- GENERATION of an image. -/
def imgGeneration (b : List Byte) : Nat := fieldAt b 0x14 4

/-- An entry from its 16 bytes (Table 2.5). -/
def entryAt (b : List Byte) (i : Nat) : MapEnt :=
  let f := fieldAt b (i + 1) 1
  ⟨fieldAt b i 1, nbit f 0, nbit f 1, nbit f 2, fieldAt b (i + 2) 2, fieldAt b (i + 4) 4, fieldAt b (i + 8) 4, fieldAt b (i + 12) 4⟩

/-- The entries of an image, none where it counts more than an image holds (R43). -/
def imgEntries (b : List Byte) : List MapEnt :=
  if 4096 < imgCount b then [] else (List.range (imgCount b)).map (fun i => entryAt b (160 + 16 * i))

/-- Header and entries of an image. -/
def imgSigned (b : List Byte) : List Byte := b.take (160 + 16 * imgCount b)

/-- The signature trailer of an image. -/
def imgTrailer (b : List Byte) : List Byte := trailerAt (b.drop (160 + 16 * imgCount b))

/-- The whole image in a slot, with its trailer. -/
def imgWhole (b : List Byte) : List Byte := imgSigned b ++ imgTrailer b

/-- Whether a byte range of an image is zero. -/
def imgZero (b : List Byte) (i n : Nat) : Bool := (slice b i n).all (· == 0)

/-- Whether the reserved fields of an image are zero: those of its header, PORTS_DOWN bits 120 to 127, bits [7:3] of each entry's FLAGS (R45). -/
def imgReserved (b : List Byte) : Bool :=
  imgZero b 0x3E 2 && imgZero b 0x54 12 && imgZero b 0x4F 1 &&
    (List.range (imgCount b)).all (fun i => decide (fieldAt b (161 + 16 * i) 1 < 8))

/-- Whether LT_COUNT, STATE, REGION_TILES and PORTS_DOWN of an image agree with its entries (R45, R51). -/
def imgAgrees (b : List Byte) : Bool :=
  let es := imgEntries b
  let counts := countsOf es
  fieldAt b 0x1C 2 == counts.foldl (· + ·) 0 && fieldAt b 0x1E 1 == mapState counts && slice b 0x20 30 == (counts.map (leBytes 1)).flatten &&
    fieldAt b 0x40 16 == mapPorts es

/-- Whether every TILE_SUB of the entries, in order, names a spare position of the home's region that no entry before it records as defective
and that no substitution then in effect has taken (R45). `seen` holds the entries before. -/
def subsOk (seen : List MapEnt) : List MapEnt → Bool
  | [] => true
  | e :: r =>
    (e.typ != 2 || ((sparePts (regionOfField (e.pt / 24))).contains e.arg0 && !recordedBad seen e.arg0 &&
      !seen.any (fun x => x.typ == 2 && x.arg0 == e.arg0))) && subsOk (seen ++ [e]) r

/-- The checks of R45 on an image of either kind but for its signatures. -/
def imgOk (b : List Byte) : Bool :=
  fieldAt b 0 4 == 0x4F535347 && fieldAt b 4 2 == 1 && fieldAt b 6 2 == 160 && slice b 8 12 == Config.serial && decide (imgCount b ≤ 4096) &&
    decide (160 + 16 * imgCount b ≤ b.length) && slice b 0x60 32 == sha256 ((imgSigned b).drop 160) && imgReserved b && imgAgrees b && subsOk [] (imgEntries b)

/-- Whether the boot accepts the image of slot F (R45). -/
def factoryAccepted (b : List Byte) : Bool := imgOk b && factorySigned (imgSigned b) (imgTrailer b)

/-- Whether the boot accepts a device map beside slot F (R45). -/
def deviceAccepted (k : Dik) (f b : List Byte) : Bool :=
  imgOk b && dikSigned k (imgSigned b) (imgTrailer b) && slice b 0x80 32 == sha256 (imgWhole f) &&
    (imgEntries f).all (fun e => (imgEntries b).contains e)

/-- The device map that the boot takes: the higher GENERATION, D0 on a tie; true for D1 (R46). -/
def deviceMap (k : Dik) (f d0 d1 : List Byte) : Option (List Byte × Bool) :=
  match deviceAccepted k f d0, deviceAccepted k f d1 with
  | true, true => if imgGeneration d0 < imgGeneration d1 then some (d1, true) else some (d0, false)
  | true, false => some (d0, false)
  | false, true => some (d1, true)
  | false, false => none

end Sys2Proof.Machine
end

