-- ==== Sys2Proof/Machine/RegMap.lean ====
section
/-!
DEFINITION. The register map: each register's offset, size, reset value and access codes, as the register tables of
spec/ give them (00_scope, R12 to R17).
-/
namespace Sys2Proof.Machine

/-- One register, or array of registers, of a block: where it lies, how many 32-bit words it has, its reset value, and
the bits with access RW, W1C, WO and RWL (R12). Every other bit is RO or reserved. -/
structure RegRow where
  base : Nat
  stride : Nat
  count : Nat
  words : Nat
  reset : Nat
  rw : Nat
  w1c : Nat
  wo : Nat
  rwl : Nat
deriving DecidableEq, Repr

/-- MGT_GESSO_STATUS (02, R53). -/
def regMgtGessoStatus : Nat := 0xF000100

/-- MGT_GESSO_GEN (02, R53). -/
def regMgtGessoGen : Nat := 0xF000104

/-- MGT_GESSO_CTRL (02, R53). -/
def regMgtGessoCtrl : Nat := 0xF000108

/-- MGT_REGION_TILESn (02, R53). -/
def regMgtRegionTiles (n : Nat) : Nat := 0xF000110 + 0x4 * n

/-- MEM_CFG (03, R68). -/
def regMemCfg : Nat := 0xF030000

/-- MEM_PWR_CTRL (03, R68). -/
def regMemPwrCtrl : Nat := 0xF030010

/-- MEM_PWR_STATUS (03, R68). -/
def regMemPwrStatus : Nat := 0xF030014

/-- MEM_PWR_ON0 (03, R68). -/
def regMemPwrOn0 : Nat := 0xF030018

/-- MEM_PWR_ON1 (03, R68). -/
def regMemPwrOn1 : Nat := 0xF03001C

/-- MEM_REMAP (03, R68). -/
def regMemRemap : Nat := 0xF030020

/-- MEM_ECC_STATUS (03, R68). -/
def regMemEccStatus : Nat := 0xF030030

/-- MEM_ECC_ADDR (03, R68). -/
def regMemEccAddr : Nat := 0xF030034

/-- BOLT_CFGn (03, R75). -/
def regBoltCfg (n : Nat) : Nat := 0xF031000 + 0x20 * n

/-- BOLT_HEADn (03, R75). -/
def regBoltHead (n : Nat) : Nat := 0xF031004 + 0x20 * n

/-- BOLT_COMMITn (03, R75). -/
def regBoltCommit (n : Nat) : Nat := 0xF031008 + 0x20 * n

/-- BOLT_RESERVEn (03, R75). -/
def regBoltReserve (n : Nat) : Nat := 0xF03100C + 0x20 * n

/-- BOLT_GRANTEDn (03, R75). -/
def regBoltGranted (n : Nat) : Nat := 0xF031010 + 0x20 * n

/-- BOLT_CLIMn (03, R75). -/
def regBoltClim (n : Nat) : Nat := 0xF031014 + 0x20 * n

/-- BOLT_STATUSn (03, R75). -/
def regBoltStatus (n : Nat) : Nat := 0xF031018 + 0x20 * n

/-- MEM_LWIN_BASEn (03, R82). -/
def regMemLwinBase (n : Nat) : Nat := 0xF030200 + 0x10 * n

/-- MEM_LWIN_SIZEn (03, R82). -/
def regMemLwinSize (n : Nat) : Nat := 0xF030204 + 0x10 * n

/-- MEM_LWIN_CREDn (03, R82). -/
def regMemLwinCred (n : Nat) : Nat := 0xF030208 + 0x10 * n

/-- MEM_LWIN_RELn (03, R82). -/
def regMemLwinRel (n : Nat) : Nat := 0xF03020C + 0x10 * n

/-- MEM_CREDIT_STATUS (03, R82). -/
def regMemCreditStatus : Nat := 0xF030040

/-- LC_CFG (05, R130). -/
def regLcCfg : Nat := 0xF020000

/-- LC_ENTRY (05, R130). -/
def regLcEntry : Nat := 0xF020004

/-- LC_STARTn (05, R130). -/
def regLcStart (n : Nat) : Nat := 0xF020010 + 0x4 * n

/-- LC_RUNn (05, R130). -/
def regLcRun (n : Nat) : Nat := 0xF020030 + 0x4 * n

/-- LC_STOPPEDn (05, R130). -/
def regLcStopped (n : Nat) : Nat := 0xF020050 + 0x4 * n

/-- LC_FAULTn (05, R130). -/
def regLcFault (n : Nat) : Nat := 0xF020070 + 0x4 * n

/-- LC_ACTION (05, R130). -/
def regLcAction : Nat := 0xF020090

/-- LC_NEWPC (05, R130). -/
def regLcNewpc : Nat := 0xF020094

/-- LC_STATUS (05, R130). -/
def regLcStatus : Nat := 0xF020098

/-- LC_FREC_INFOn (05, R130). -/
def regLcFrecInfo (n : Nat) : Nat := 0xF021000 + 0x10 * n

/-- LC_FREC_PCn (05, R130). -/
def regLcFrecPc (n : Nat) : Nat := 0xF021004 + 0x10 * n

/-- LC_FREC_ADDRn (05, R130). -/
def regLcFrecAddr (n : Nat) : Nat := 0xF021008 + 0x10 * n

/-- ME_CTRL (06, R169). -/
def regMeCtrl : Nat := 0xF010000

/-- ME_STATUS (06, R169). -/
def regMeStatus : Nat := 0xF010004

/-- ME_INT (06, R169). -/
def regMeInt : Nat := 0xF010008

/-- ME_RATE (06, R169). -/
def regMeRate : Nat := 0xF01000C

/-- ME_FAULT_ITEM (06, R169). -/
def regMeFaultItem : Nat := 0xF010010

/-- ME_FAULT_PROG (06, R169). -/
def regMeFaultProg : Nat := 0xF010014

/-- ME_FAULT_ADDR (06, R169). -/
def regMeFaultAddr : Nat := 0xF010018

/-- ME_FAULT_DETAIL (06, R169). -/
def regMeFaultDetail : Nat := 0xF01001C

/-- ME_CUR (06, R169). -/
def regMeCur : Nat := 0xF010020

/-- PAL_ENTRYn (07, R182). -/
def regPalEntry (n : Nat) : Nat := 0xF0D1000 + 0x20 * n

/-- PAL_CTRL (07, R184). -/
def regPalCtrl : Nat := 0xF0D0000

/-- PAL_SEED_LO (07, R184). -/
def regPalSeedLo : Nat := 0xF0D0008

/-- PAL_SEED_HI (07, R184). -/
def regPalSeedHi : Nat := 0xF0D000C

/-- PAL_STEP (07, R184). -/
def regPalStep : Nat := 0xF0D0010

/-- PAL_LOG_COUNT (07, R184). -/
def regPalLogCount : Nat := 0xF0D0014

/-- PAL_SCHED_COUNT (07, R184). -/
def regPalSchedCount : Nat := 0xF0D0018

/-- PAL_LOGn (07, R184). -/
def regPalLog (n : Nat) : Nat := 0xF0D0100 + 0x8 * n

/-- PAL_SCHEDn (07, R184). -/
def regPalSched (n : Nat) : Nat := 0xF0D0300 + 0x8 * n

/-- STUDY_CFG (07, R196). -/
def regStudyCfg : Nat := 0xF080000

/-- STUDY_STATUS (07, R196). -/
def regStudyStatus : Nat := 0xF080004

/-- STUDY_DROP (07, R196). -/
def regStudyDrop : Nat := 0xF080008

/-- STUDY_LAST0 (07, R196). -/
def regStudyLast0 : Nat := 0xF080010

/-- STUDY_LAST1 (07, R196). -/
def regStudyLast1 : Nat := 0xF080014

/-- RTU_CTRL (08, R226). -/
def regRtuCtrl : Nat := 0xF0E0000

/-- RTU_STATUS (08, R226). -/
def regRtuStatus : Nat := 0xF0E0004

/-- RTU_INT (08, R226). -/
def regRtuInt : Nat := 0xF0E0008

/-- RTU_DROPS (08, R226). -/
def regRtuDrops : Nat := 0xF0E000C

/-- SK_STATE (09, R256). -/
def regSkState : Nat := 0xF070000

/-- SK_SLOTn (09, R256). -/
def regSkSlot (n : Nat) : Nat := 0xF070010 + 0x4 * n

/-- SK_TRIGn (09, R256). -/
def regSkTrig (n : Nat) : Nat := 0xF070030 + 0x4 * n

/-- SK_STATUS (09, R256). -/
def regSkStatus : Nat := 0xF070040

/-- SK_STALL (09, R256). -/
def regSkStall : Nat := 0xF070044

/-- SK_ROUTE_ERR (09, R256). -/
def regSkRouteErr : Nat := 0xF070048

/-- SK_LATE (09, R256). -/
def regSkLate : Nat := 0xF07004C

/-- SK_DISCARDED (09, R256). -/
def regSkDiscarded : Nat := 0xF070054

/-- SK_OVERRUN (09, R256). -/
def regSkOverrun : Nat := 0xF070050

/-- SK_FLUSHED (09, R256). -/
def regSkFlushed : Nat := 0xF070058

/-- SK_LOAD_ERR (09, R256). -/
def regSkLoadErr : Nat := 0xF07005C

/-- SK_HIST_CFG (09, R256). -/
def regSkHistCfg : Nat := 0xF070060

/-- SK_HIST_SAMPLES (09, R256). -/
def regSkHistSamples : Nat := 0xF070064

/-- MESH_STATUS (10, R277). -/
def regMeshStatus : Nat := 0xF080000

/-- MESH_LINKS (10, R277). -/
def regMeshLinks : Nat := 0xF080004

/-- MESH_RED_CFG (10, R277). -/
def regMeshRedCfg : Nat := 0xF080010

/-- MESH_RED_STATUS (10, R277). -/
def regMeshRedStatus : Nat := 0xF080014

/-- MESH_LOST (10, R277). -/
def regMeshLost : Nat := 0xF080018

/-- CH_CTRL (11, R299). -/
def regChCtrl : Nat := 0xF060000

/-- CH_TIMEOUT (11, R299). -/
def regChTimeout : Nat := 0xF060004

/-- CH_STATUS (11, R299). -/
def regChStatus : Nat := 0xF060008

/-- CH_STALL (11, R299). -/
def regChStall : Nat := 0xF06000C

/-- CH_AM_CFG (11, R299). -/
def regChAmCfg : Nat := 0xF060010

/-- CH_AM_BASE (11, R299). -/
def regChAmBase : Nat := 0xF060014

/-- CH_AM_STATUS (11, R299). -/
def regChAmStatus : Nat := 0xF060018

/-- CH_OVF_MAPn (11, R299). -/
def regChOvfMap (n : Nat) : Nat := 0xF060100 + 0x4 * n

/-- CH_DSTn (11, R299). -/
def regChDst (n : Nat) : Nat := 0xF061000 + 0x10 * n

/-- CH_CFGn (11, R299). -/
def regChCfg (n : Nat) : Nat := 0xF061004 + 0x10 * n

/-- CH_USEn (11, R299). -/
def regChUse (n : Nat) : Nat := 0xF061008 + 0x10 * n

/-- CH_SEQn (11, R299). -/
def regChSeq (n : Nat) : Nat := 0xF06100C + 0x10 * n

/-- XLAT_ROOT (12, R329). -/
def regXlatRoot : Nat := 0xF050000

/-- XLAT_FAULT_INFO (12, R329). -/
def regXlatFaultInfo : Nat := 0xF050004

/-- XLAT_FAULT_VA_LO (12, R329). -/
def regXlatFaultVaLo : Nat := 0xF050008

/-- XLAT_FAULT_VA_HI (12, R329). -/
def regXlatFaultVaHi : Nat := 0xF05000C

/-- DMA_CTRL (12, R329). -/
def regDmaCtrl : Nat := 0xF040000

/-- DMA_STATUS (12, R329). -/
def regDmaStatus : Nat := 0xF040004

/-- DMA_INT (12, R329). -/
def regDmaInt : Nat := 0xF040008

/-- DMA_FAULT (12, R329). -/
def regDmaFault : Nat := 0xF04000C

/-- DMA_FAULT_PROG (12, R329). -/
def regDmaFaultProg : Nat := 0xF040010

/-- DMA_CRING_BASE (12, R329). -/
def regDmaCringBase : Nat := 0xF040020

/-- DMA_CRING_CFG (12, R329). -/
def regDmaCringCfg : Nat := 0xF040024

/-- DMA_CRING_HEAD (12, R329). -/
def regDmaCringHead : Nat := 0xF040028

/-- DMA_CRING_TAIL (12, R329). -/
def regDmaCringTail : Nat := 0xF04002C

/-- DMA_CRING_LOST (12, R329). -/
def regDmaCringLost : Nat := 0xF040030

/-- TILE_PRE_CTRL (12, R329). -/
def regTilePreCtrl : Nat := 0xF000200

/-- TILE_PRE_STATUS (12, R329). -/
def regTilePreStatus : Nat := 0xF000204

/-- SYNC_STATUS (13, R344). -/
def regSyncStatus : Nat := 0xF090000

/-- SYNC_SEMn (13, R344). -/
def regSyncSem (n : Nat) : Nat := 0xF090100 + 0x4 * n

/-- SYNC_MIRn (13, R344). -/
def regSyncMir (n : Nat) : Nat := 0xF091000 + 0x8 * n

/-- SYNC_MVALn (13, R344). -/
def regSyncMval (n : Nat) : Nat := 0xF091004 + 0x8 * n

/-- SYNC_OBJ_SEL (13, R344). -/
def regSyncObjSel : Nat := 0xF090000

/-- SYNC_OBJ_STATE (13, R344). -/
def regSyncObjState : Nat := 0xF090004

/-- SYNC_OBJ_VALUE (13, R344). -/
def regSyncObjValue : Nat := 0xF090008

/-- FAB_ID (14, R379). -/
def regFabId : Nat := 0xF100000

/-- FAB_STATUS (14, R379). -/
def regFabStatus : Nat := 0xF100004

/-- FAB_XACT (14, R379). -/
def regFabXact : Nat := 0xF100008

/-- FAB_XPORT_CFG (14, R379). -/
def regFabXportCfg : Nat := 0xF100010

/-- FAB_CC_CFG0 (14, R379). -/
def regFabCcCfg0 : Nat := 0xF100014

/-- FAB_CC_CFG1 (14, R379). -/
def regFabCcCfg1 : Nat := 0xF100018

/-- FAB_MARK (14, R379). -/
def regFabMark : Nat := 0xF10001C

/-- FAB_DROPS (14, R379). -/
def regFabDrops : Nat := 0xF100020

/-- FAB_SEC_ERR (14, R379). -/
def regFabSecErr : Nat := 0xF100024

/-- FAB_LOST (14, R379). -/
def regFabLost : Nat := 0xF100028

/-- FAB_RED_MAPn (14, R379). -/
def regFabRedMap (n : Nat) : Nat := 0xF101000 + 0x4 * n

/-- FAB_ALLOWn (14, R379). -/
def regFabAllow (n : Nat) : Nat := 0xF102000 + 0x4 * n

/-- FAB_USEn (14, R379). -/
def regFabUse (n : Nat) : Nat := 0xF104000 + 0x4 * n

/-- FAB_PORT_CFGn (14, R379). -/
def regFabPortCfg (n : Nat) : Nat := 0xF100000 + 0x40 * n

/-- FAB_PORT_STATUSn (14, R379). -/
def regFabPortStatus (n : Nat) : Nat := 0xF100004 + 0x40 * n

/-- FAB_PORT_PEERn (14, R379). -/
def regFabPortPeer (n : Nat) : Nat := 0xF100008 + 0x40 * n

/-- FAB_PORT_ERRn (14, R379). -/
def regFabPortErr (n : Nat) : Nat := 0xF10000C + 0x40 * n

/-- PWR_EST (16, R411). -/
def regPwrEst : Nat := 0xF0A0000

/-- PWR_STATUS (16, R411). -/
def regPwrStatus : Nat := 0xF0A0004

/-- PWR_DROOP_CNT (16, R411). -/
def regPwrDroopCnt : Nat := 0xF0A0008

/-- PWR_CNTn (16, R411). -/
def regPwrCnt (n : Nat) : Nat := 0xF0A0100 + 0x8 * n

/-- PWR_REG_CTRL (16, R411). -/
def regPwrRegCtrl : Nat := 0xF0A0000

/-- PWR_REG_STATE (16, R411). -/
def regPwrRegState : Nat := 0xF0A0004

/-- PWR_REG_BUDGET (16, R411). -/
def regPwrRegBudget : Nat := 0xF0A0008

/-- PWR_REG_EST (16, R411). -/
def regPwrRegEst : Nat := 0xF0A000C

/-- PWR_REG_MODEL (16, R411). -/
def regPwrRegModel : Nat := 0xF0A0040

/-- PWR_REG_DROOP (16, R411). -/
def regPwrRegDroop : Nat := 0xF0A0044

/-- PWR_REG_COEFn (16, R411). -/
def regPwrRegCoef (n : Nat) : Nat := 0xF0A0100 + 0x4 * n

/-- PWR_TEMPn (16, R411). -/
def regPwrTemp (n : Nat) : Nat := 0xF0A0200 + 0x4 * n

/-- PWR_MOD_CAP (16, R411). -/
def regPwrModCap : Nat := 0xF0A0000

/-- PWR_MOD_IN (16, R411). -/
def regPwrModIn : Nat := 0xF0A0004

/-- PWR_MOD_GAIN (16, R411). -/
def regPwrModGain : Nat := 0xF0A0008

/-- CLK_STATUS (17, R424). -/
def regClkStatus : Nat := 0xF110000

/-- CLK_TRIM (17, R424). -/
def regClkTrim : Nat := 0xF110004

/-- CLK_AON_LO (17, R424). -/
def regClkAonLo : Nat := 0xF110008

/-- CLK_AON_HI (17, R424). -/
def regClkAonHi : Nat := 0xF11000C

/-- CLK_PLLn (17, R424). -/
def regClkPll (n : Nat) : Nat := 0xF110100 + 0x4 * n

/-- RAS_TILE_STATUS (18, R436). -/
def regRasTileStatus : Nat := 0xF0B0000

/-- RAS_LOG_HEAD (18, R436). -/
def regRasLogHead : Nat := 0xF0B0000

/-- RAS_LOG_TAIL (18, R436). -/
def regRasLogTail : Nat := 0xF0B0004

/-- RAS_LOG_STATUS (18, R436). -/
def regRasLogStatus : Nat := 0xF0B0008

/-- RAS_CE_CFG (18, R436). -/
def regRasCeCfg : Nat := 0xF0B000C

/-- RAS_ST_STATUS (18, R436). -/
def regRasStStatus : Nat := 0xF0B0010

/-- SKB_CFG (18, R442). -/
def regSkbCfg : Nat := 0xF0C0000

/-- SKB_HEAD (18, R442). -/
def regSkbHead : Nat := 0xF0C0004

/-- SKB_TAIL (18, R442). -/
def regSkbTail : Nat := 0xF0C0008

/-- SKB_LOST (18, R442). -/
def regSkbLost : Nat := 0xF0C000C

/-- SKB_FIRE (18, R442). -/
def regSkbFire : Nat := 0xF0C0010

/-- SKB_TRIGn (18, R442). -/
def regSkbTrig (n : Nat) : Nat := 0xF0C0100 + 0x4 * n

/-- SKB_EVSELn (18, R442). -/
def regSkbEvsel (n : Nat) : Nat := 0xF0C0200 + 0x4 * n

/-- SEC_STATUS (19, R463). -/
def regSecStatus : Nat := 0xF120000

/-- SEC_CTRL (19, R463). -/
def regSecCtrl : Nat := 0xF120004

/-- SEC_SESS_CFG (19, R463). -/
def regSecSessCfg : Nat := 0xF120008

/-- SEC_UNLOCK_CTR_LO (19, R463). -/
def regSecUnlockCtrLo : Nat := 0xF120010

/-- SEC_UNLOCK_CTR_HI (19, R463). -/
def regSecUnlockCtrHi : Nat := 0xF120014

/-- SEC_MRn (19, R463). -/
def regSecMr (n : Nat) : Nat := 0xF120100 + 0x4 * n

/-- TILE_BOOT_PC (20, R467). -/
def regTileBootPc : Nat := 0xF000000

/-- MGT_BOOT_STATUS (20, R481). -/
def regMgtBootStatus : Nat := 0xF000000

/-- MGT_RESET_CAUSE (20, R481). -/
def regMgtResetCause : Nat := 0xF000004

/-- MGT_BOOT_COUNT (20, R481). -/
def regMgtBootCount : Nat := 0xF000008

/-- HOST_PORT_CFGn (20, R481). -/
def regHostPortCfg (n : Nat) : Nat := 0xF130000 + 0x40 * n

/-- HOST_PORT_STATUSn (20, R481). -/
def regHostPortStatus (n : Nat) : Nat := 0xF130004 + 0x40 * n

/-- HOST_PORT_ERRn (20, R481). -/
def regHostPortErr (n : Nat) : Nat := 0xF130008 + 0x40 * n

/-- MGT_LIFE_HOURS (21, R493). -/
def regMgtLifeHours : Nat := 0xF000010

/-- MGT_LIFE_TJ (21, R493). -/
def regMgtLifeTj : Nat := 0xF000014

/-- SK_HIST_WORDn. -/
def regSkHistWord (n : Nat) : Nat := 0xF074000 + 0x4 * n

/-- MESH_RED_DECLn. -/
def regMeshRedDecl (n : Nat) : Nat := 0xF081000 + 0x40 * n

/-- DMA_CRECn. -/
def regDmaCrec (n : Nat) : Nat := 0xF048000 + 0x1000 * n

/-- RAS_LOGn. -/
def regRasLog (n : Nat) : Nat := 0xF0B1000 + 0x20 * n

/-- SKB_SELn. -/
def regSkbSel (n : Nat) : Nat := 0xF0C0400 + 0x30 * n

/-- SKB_RECn. -/
def regSkbRec (n : Nat) : Nat := 0xF0C8000 + 0x40 * n

/-- Registers under the selectors of this kind, part 0. -/
def tileRows0 : List RegRow :=
  [⟨0xF030000, 0x0, 1, 1, 0x2, 0x3, 0x0, 0x0, 0x0⟩,
   ⟨0xF030010, 0x0, 1, 1, 0x0, 0x13F, 0x0, 0x200, 0x0⟩,
   ⟨0xF030014, 0x0, 1, 1, 0x0, 0x0, 0x200, 0x0, 0x0⟩,
   ⟨0xF030018, 0x0, 1, 1, 0xFFFFFFFF, 0x0, 0x0, 0x0, 0x0⟩,
   ⟨0xF03001C, 0x0, 1, 1, 0xFFFFFFFF, 0x0, 0x0, 0x0, 0x0⟩,
   ⟨0xF030020, 0x0, 1, 1, 0x7F7F, 0x0, 0x0, 0x0, 0x0⟩,
   ⟨0xF030030, 0x0, 1, 1, 0x0, 0x0, 0x30000, 0x0, 0x0⟩,
   ⟨0xF030034, 0x0, 1, 1, 0x0, 0x0, 0x0, 0x0, 0x0⟩,
   ⟨0xF031000, 0x20, 64, 1, 0x0, 0x7FFFF1FF, 0x0, 0x0, 0x0⟩,
   ⟨0xF031004, 0x20, 64, 1, 0x0, 0xFFFFF, 0x0, 0x0, 0x0⟩,
   ⟨0xF031008, 0x20, 64, 1, 0x0, 0xFFFFF, 0x0, 0x0, 0x0⟩,
   ⟨0xF03100C, 0x20, 64, 1, 0x0, 0xFFFFF, 0x0, 0x0, 0x0⟩,
   ⟨0xF031010, 0x20, 64, 1, 0x0, 0x0, 0x0, 0x0, 0x0⟩,
   ⟨0xF031014, 0x20, 64, 1, 0xFFFFF, 0xFFFFF, 0x0, 0x0, 0x0⟩,
   ⟨0xF031018, 0x20, 64, 1, 0x1, 0x0, 0x3C, 0x0, 0x0⟩,
   ⟨0xF030200, 0x10, 16, 1, 0x0, 0x3FFF001, 0x0, 0x0, 0x0⟩,
   ⟨0xF030204, 0x10, 16, 1, 0x0, 0x3FFF, 0x0, 0x0, 0x0⟩,
   ⟨0xF030208, 0x10, 16, 1, 0x0, 0x0, 0x0, 0x0, 0x0⟩,
   ⟨0xF03020C, 0x10, 16, 1, 0x0, 0x0, 0x0, 0x3FFFFFF, 0x0⟩,
   ⟨0xF030040, 0x0, 1, 1, 0x0, 0x0, 0x0, 0x0, 0x0⟩]

/-- Registers under the selectors of this kind, part 1. -/
def tileRows1 : List RegRow :=
  [⟨0xF020000, 0x0, 1, 1, 0x0, 0x1, 0x0, 0x0, 0x0⟩,
   ⟨0xF020004, 0x0, 1, 1, 0x0, 0xFFFFFFFC, 0x0, 0x0, 0x0⟩,
   ⟨0xF020010, 0x4, 8, 1, 0x0, 0x0, 0x0, 0xFFFFFFFF, 0x0⟩,
   ⟨0xF020030, 0x4, 8, 1, 0x0, 0x0, 0x0, 0x0, 0x0⟩,
   ⟨0xF020050, 0x4, 8, 1, 0x0, 0x0, 0x0, 0x0, 0x0⟩,
   ⟨0xF020070, 0x4, 8, 1, 0x0, 0x0, 0x0, 0x0, 0x0⟩,
   ⟨0xF020090, 0x0, 1, 1, 0x0, 0x7FF, 0x0, 0x800, 0x0⟩,
   ⟨0xF020094, 0x0, 1, 1, 0x0, 0xFFFFFFFC, 0x0, 0x0, 0x0⟩,
   ⟨0xF020098, 0x0, 1, 1, 0x0, 0x0, 0x1, 0x0, 0x0⟩,
   ⟨0xF021000, 0x10, 256, 1, 0x0, 0x0, 0x0, 0x0, 0x0⟩,
   ⟨0xF021004, 0x10, 256, 1, 0x0, 0x0, 0x0, 0x0, 0x0⟩,
   ⟨0xF021008, 0x10, 256, 1, 0x0, 0x0, 0x0, 0x0, 0x0⟩,
   ⟨0xF010000, 0x0, 1, 1, 0x0, 0x1, 0x0, 0x3E, 0x0⟩,
   ⟨0xF010004, 0x0, 1, 1, 0x0, 0x0, 0x8000, 0x0, 0x0⟩,
   ⟨0xF010008, 0x0, 1, 1, 0x0, 0x0, 0x3, 0x0, 0x0⟩,
   ⟨0xF01000C, 0x0, 1, 1, 0x404040, 0x0, 0x0, 0x0, 0x0⟩,
   ⟨0xF010010, 0x0, 1, 1, 0x0, 0x0, 0x80000000, 0x0, 0x0⟩,
   ⟨0xF010014, 0x0, 1, 1, 0x0, 0x0, 0x0, 0x0, 0x0⟩,
   ⟨0xF010018, 0x0, 1, 1, 0x0, 0x0, 0x0, 0x0, 0x0⟩,
   ⟨0xF01001C, 0x0, 1, 1, 0x0, 0x0, 0x0, 0x0, 0x0⟩]

/-- Registers under the selectors of this kind, part 2. -/
def tileRows2 : List RegRow :=
  [⟨0xF010020, 0x0, 1, 1, 0x0, 0x0, 0x0, 0x0, 0x0⟩,
   ⟨0xF0D1000, 0x20, 256, 8, 0x0, 0xFFFFFFFFFFFFFFFFFFFFFFFFFFFFFFFFFFFFFFFFFFFFFFFF0000FFFF03073F0F, 0x0, 0x0, 0x0⟩,
   ⟨0xF0D0000, 0x0, 1, 1, 0x0, 0x1, 0xE, 0x0, 0x0⟩,
   ⟨0xF0D0008, 0x0, 1, 1, 0x0, 0xFFFFFFFF, 0x0, 0x0, 0x0⟩,
   ⟨0xF0D000C, 0x0, 1, 1, 0x0, 0xFFFFFFFF, 0x0, 0x0, 0x0⟩,
   ⟨0xF0D0010, 0x0, 1, 1, 0x0, 0xFFFFFFFF, 0x0, 0x0, 0x0⟩,
   ⟨0xF0D0014, 0x0, 1, 1, 0x0, 0x7F, 0x0, 0x0, 0x0⟩,
   ⟨0xF0D0018, 0x0, 1, 1, 0x0, 0x7F, 0x0, 0x0, 0x0⟩,
   ⟨0xF0D0100, 0x8, 64, 2, 0x0, 0x1FFFFFFFFFFFF, 0x0, 0x0, 0x0⟩,
   ⟨0xF0D0300, 0x8, 64, 2, 0x0, 0x1FFFFFFFFFFFF, 0x0, 0x0, 0x0⟩,
   ⟨0xF0E0000, 0x0, 1, 1, 0x0, 0x1, 0x0, 0x2, 0x0⟩,
   ⟨0xF0E0004, 0x0, 1, 1, 0x0, 0x0, 0x0, 0x0, 0x0⟩,
   ⟨0xF0E0008, 0x0, 1, 1, 0x0, 0x0, 0x3, 0x0, 0x0⟩,
   ⟨0xF0E000C, 0x0, 1, 1, 0x0, 0x0, 0x0, 0x0, 0x0⟩,
   ⟨0xF070000, 0x0, 1, 1, 0x0, 0x0, 0x0, 0x0, 0x0⟩,
   ⟨0xF070010, 0x4, 4, 1, 0x0, 0x0, 0x0, 0x0, 0x0⟩,
   ⟨0xF070030, 0x4, 4, 1, 0x0, 0x1FFFF, 0x0, 0x0, 0x0⟩,
   ⟨0xF070040, 0x0, 1, 1, 0x0, 0x0, 0x7F, 0x0, 0x0⟩,
   ⟨0xF070044, 0x0, 1, 1, 0x0, 0x0, 0x80000000, 0x0, 0x0⟩,
   ⟨0xF070048, 0x0, 1, 1, 0x0, 0x0, 0x80000000, 0x0, 0x0⟩]

/-- Registers under the selectors of this kind, part 3. -/
def tileRows3 : List RegRow :=
  [⟨0xF07004C, 0x0, 1, 1, 0x0, 0x0, 0x0, 0x0, 0x0⟩,
   ⟨0xF070054, 0x0, 1, 1, 0x0, 0x0, 0x0, 0x0, 0x0⟩,
   ⟨0xF070050, 0x0, 1, 1, 0x0, 0x0, 0x0, 0x0, 0x0⟩,
   ⟨0xF070058, 0x0, 1, 1, 0x0, 0x0, 0x0, 0x0, 0x0⟩,
   ⟨0xF07005C, 0x0, 1, 1, 0x0, 0x0, 0x80000000, 0x0, 0x0⟩,
   ⟨0xF070060, 0x0, 1, 1, 0x18, 0xFF, 0x0, 0x100, 0x0⟩,
   ⟨0xF070064, 0x0, 1, 1, 0x0, 0x0, 0x0, 0x0, 0x0⟩,
   ⟨0xF080000, 0x0, 1, 1, 0x0, 0x0, 0x0, 0x0, 0x0⟩,
   ⟨0xF080004, 0x0, 1, 1, 0x0, 0x0, 0x0, 0x0, 0x0⟩,
   ⟨0xF080010, 0x0, 1, 1, 0x20, 0xFF, 0x0, 0x0, 0x0⟩,
   ⟨0xF080014, 0x0, 1, 1, 0x0, 0x0, 0x7, 0x0, 0x0⟩,
   ⟨0xF080018, 0x0, 1, 1, 0x0, 0x0, 0x0, 0x0, 0x0⟩,
   ⟨0xF060000, 0x0, 1, 1, 0x0, 0x1FF, 0x0, 0x200, 0x0⟩,
   ⟨0xF060004, 0x0, 1, 1, 0x1814, 0x1F1F, 0x0, 0x0, 0x0⟩,
   ⟨0xF060008, 0x0, 1, 1, 0x0, 0x0, 0x1F, 0x0, 0x0⟩,
   ⟨0xF06000C, 0x0, 1, 1, 0x0, 0x0, 0x80000000, 0x0, 0x0⟩,
   ⟨0xF060010, 0x0, 1, 1, 0x0, 0x7F, 0x0, 0x0, 0x0⟩,
   ⟨0xF060014, 0x0, 1, 1, 0x0, 0xFFFF800, 0x0, 0x0, 0x0⟩,
   ⟨0xF060018, 0x0, 1, 1, 0x0, 0x0, 0x0, 0x0, 0x0⟩,
   ⟨0xF060100, 0x4, 16, 1, 0x0, 0xBFBFBFBF, 0x0, 0x0, 0x0⟩]

/-- Registers under the selectors of this kind, part 4. -/
def tileRows4 : List RegRow :=
  [⟨0xF061000, 0x10, 256, 1, 0x0, 0xFFFF0FFF, 0x0, 0x0, 0x0⟩,
   ⟨0xF061004, 0x10, 256, 1, 0x0, 0xFFFF0FFC, 0x0, 0x0, 0x0⟩,
   ⟨0xF061008, 0x10, 256, 1, 0x0, 0x0, 0x0, 0x0, 0x0⟩,
   ⟨0xF06100C, 0x10, 256, 1, 0x0, 0x0, 0x0, 0x0, 0x0⟩,
   ⟨0xF050000, 0x0, 1, 1, 0x0, 0xFFFFFFF, 0x0, 0x0, 0x0⟩,
   ⟨0xF050004, 0x0, 1, 1, 0x0, 0x0, 0x80000000, 0x0, 0x0⟩,
   ⟨0xF050008, 0x0, 1, 1, 0x0, 0x0, 0x0, 0x0, 0x0⟩,
   ⟨0xF05000C, 0x0, 1, 1, 0x0, 0x0, 0x0, 0x0, 0x0⟩,
   ⟨0xF040000, 0x0, 1, 1, 0x0, 0x1, 0x0, 0x2, 0x0⟩,
   ⟨0xF040004, 0x0, 1, 1, 0x0, 0x0, 0x800, 0x0, 0x0⟩,
   ⟨0xF040008, 0x0, 1, 1, 0x0, 0x0, 0x3, 0x0, 0x0⟩,
   ⟨0xF04000C, 0x0, 1, 1, 0x0, 0x0, 0x80000000, 0x0, 0x0⟩,
   ⟨0xF040010, 0x0, 1, 1, 0x0, 0x0, 0x0, 0x0, 0x0⟩,
   ⟨0xF040020, 0x0, 1, 1, 0x0, 0xFFFF000, 0x0, 0x0, 0x0⟩,
   ⟨0xF040024, 0x0, 1, 1, 0x0, 0x1F, 0x0, 0x0, 0x0⟩,
   ⟨0xF040028, 0x0, 1, 1, 0x0, 0x0, 0x0, 0x0, 0x0⟩,
   ⟨0xF04002C, 0x0, 1, 1, 0x0, 0xFFFFFFFF, 0x0, 0x0, 0x0⟩,
   ⟨0xF040030, 0x0, 1, 1, 0x0, 0x0, 0x0, 0x0, 0x0⟩,
   ⟨0xF000200, 0x0, 1, 1, 0x0, 0x0, 0x0, 0x7, 0x0⟩,
   ⟨0xF000204, 0x0, 1, 1, 0x0, 0x0, 0x4, 0x0, 0x0⟩]

/-- Registers under the selectors of this kind, part 5. -/
def tileRows5 : List RegRow :=
  [⟨0xF090000, 0x0, 1, 1, 0x0, 0x0, 0xF, 0x0, 0x0⟩,
   ⟨0xF090100, 0x4, 64, 1, 0x0, 0xFFFFFFFF, 0x0, 0x0, 0x0⟩,
   ⟨0xF091000, 0x8, 256, 1, 0x0, 0xA0003FFF, 0x0, 0x0, 0x0⟩,
   ⟨0xF091004, 0x8, 256, 1, 0x0, 0x0, 0x0, 0x0, 0x0⟩,
   ⟨0xF0A0000, 0x0, 1, 1, 0x0, 0x0, 0x0, 0x0, 0x0⟩,
   ⟨0xF0A0004, 0x0, 1, 1, 0x0, 0x0, 0x0, 0x0, 0x0⟩,
   ⟨0xF0A0008, 0x0, 1, 1, 0x0, 0x0, 0x0, 0x0, 0x0⟩,
   ⟨0xF0A0100, 0x8, 16, 2, 0x0, 0x0, 0x0, 0x0, 0x0⟩,
   ⟨0xF0B0000, 0x0, 1, 1, 0x0, 0x0, 0x30000, 0x0, 0x0⟩,
   ⟨0xF0C0000, 0x0, 1, 1, 0x0, 0x1, 0x0, 0x0, 0x0⟩,
   ⟨0xF0C0004, 0x0, 1, 1, 0x0, 0x0, 0x0, 0x0, 0x0⟩,
   ⟨0xF0C0008, 0x0, 1, 1, 0x0, 0xFFFFFFFF, 0x0, 0x0, 0x0⟩,
   ⟨0xF0C000C, 0x0, 1, 1, 0x0, 0x0, 0x0, 0x0, 0x0⟩,
   ⟨0xF0C0010, 0x0, 1, 1, 0x0, 0x0, 0x0, 0xF, 0x0⟩,
   ⟨0xF0C0100, 0x4, 16, 1, 0x0, 0xFF07, 0x0, 0x0, 0x0⟩,
   ⟨0xF0C0200, 0x4, 11, 1, 0x0, 0xFFFFD, 0x0, 0x0, 0x0⟩,
   ⟨0xF000000, 0x0, 1, 1, 0x0, 0x0, 0x0, 0x0, 0xFFFC⟩,
   ⟨0xF074000, 0x4, 512, 1, 0x0, 0x0, 0x0, 0x0, 0x0⟩,
   ⟨0xF081000, 0x40, 64, 16, 0x0, 0x0, 0x0, 0x0, 0x0⟩,
   ⟨0xF048000, 0x1000, 5, 1024, 0x0, 0x0, 0x0, 0x0, 0x0⟩]

/-- Registers under the selectors of this kind, part 6. -/
def tileRows6 : List RegRow :=
  [⟨0xF0C0400, 0x30, 16, 12, 0x0, 0xFFFFD000FFFFD000FFFFD000FFFFD000FFFFD000FFFFD000FFFFD000FFFFD000FFFFD000FFFFD000FFFFD000FFFFD, 0x0, 0x0, 0x0⟩,
   ⟨0xF0C8000, 0x40, 512, 16, 0x0, 0x0, 0x0, 0x0, 0x0⟩]

/-- Every register of a tile selector. -/
def tileRows : List RegRow :=
  tileRows0 ++ tileRows1 ++ tileRows2 ++ tileRows3 ++ tileRows4 ++ tileRows5 ++ tileRows6

/-- Registers under the selectors of this kind, part 0. -/
def regionRows0 : List RegRow :=
  [⟨0xF080000, 0x0, 1, 1, 0x14, 0x7F, 0x0, 0x0, 0x0⟩,
   ⟨0xF080004, 0x0, 1, 1, 0x0, 0x0, 0x0, 0x0, 0x0⟩,
   ⟨0xF080008, 0x0, 1, 1, 0x0, 0x0, 0x0, 0x0, 0x0⟩,
   ⟨0xF080010, 0x0, 1, 1, 0x0, 0x0, 0x0, 0x0, 0x0⟩,
   ⟨0xF080014, 0x0, 1, 1, 0x0, 0x0, 0x0, 0x0, 0x0⟩,
   ⟨0xF0A0000, 0x0, 1, 1, 0x1, 0x1, 0x0, 0x2, 0x0⟩,
   ⟨0xF0A0004, 0x0, 1, 1, 0x404000, 0x0, 0x20, 0x0, 0x0⟩,
   ⟨0xF0A0008, 0x0, 1, 1, 0x3E8, 0xFFFF, 0x0, 0x0, 0x0⟩,
   ⟨0xF0A000C, 0x0, 1, 1, 0x0, 0x0, 0x0, 0x0, 0x0⟩,
   ⟨0xF0A0040, 0x0, 1, 1, 0x1EC8B432, 0xFFFFFFFF, 0x0, 0x0, 0x0⟩,
   ⟨0xF0A0044, 0x0, 1, 1, 0x11084, 0xFF7FFF, 0x0, 0x0, 0x0⟩,
   ⟨0xF0A0100, 0x0, 1, 1, 0x25B, 0xFFFFFFF, 0x0, 0x0, 0x0⟩,
   ⟨0xF0A0104, 0x0, 1, 1, 0x154, 0xFFFFFFF, 0x0, 0x0, 0x0⟩,
   ⟨0xF0A0108, 0x0, 1, 1, 0xCD, 0xFFFFFFF, 0x0, 0x0, 0x0⟩,
   ⟨0xF0A010C, 0x0, 1, 1, 0x1431EC0, 0xFFFFFFF, 0x0, 0x0, 0x0⟩,
   ⟨0xF0A0110, 0x0, 1, 1, 0xC80, 0xFFFFFFF, 0x0, 0x0, 0x0⟩,
   ⟨0xF0A0114, 0x0, 1, 1, 0xE10, 0xFFFFFFF, 0x0, 0x0, 0x0⟩,
   ⟨0xF0A0118, 0x0, 1, 1, 0x2328, 0xFFFFFFF, 0x0, 0x0, 0x0⟩,
   ⟨0xF0A011C, 0x0, 1, 1, 0x578, 0xFFFFFFF, 0x0, 0x0, 0x0⟩,
   ⟨0xF0A0120, 0x0, 1, 1, 0x1194, 0xFFFFFFF, 0x0, 0x0, 0x0⟩]

/-- Registers under the selectors of this kind, part 1. -/
def regionRows1 : List RegRow :=
  [⟨0xF0A0124, 0x0, 1, 1, 0x960, 0xFFFFFFF, 0x0, 0x0, 0x0⟩,
   ⟨0xF0A0128, 0x0, 1, 1, 0x1A90, 0xFFFFFFF, 0x0, 0x0, 0x0⟩,
   ⟨0xF0A012C, 0x0, 1, 1, 0x2BC, 0xFFFFFFF, 0x0, 0x0, 0x0⟩,
   ⟨0xF0A0130, 0x0, 1, 1, 0x251C, 0xFFFFFFF, 0x0, 0x0, 0x0⟩,
   ⟨0xF0A0134, 0x0, 1, 1, 0x44C, 0xFFFFFFF, 0x0, 0x0, 0x0⟩,
   ⟨0xF0A0138, 0x0, 1, 1, 0x834, 0xFFFFFFF, 0x0, 0x0, 0x0⟩,
   ⟨0xF0A013C, 0x0, 1, 1, 0xA28, 0xFFFFFFF, 0x0, 0x0, 0x0⟩]

/-- Every register of a region selector. -/
def regionRows : List RegRow :=
  regionRows0 ++ regionRows1

/-- Registers under the selectors of this kind, part 0. -/
def fcRows0 : List RegRow :=
  [⟨0xF100000, 0x40, 2, 1, 0x0, 0x5, 0x0, 0x0, 0x0⟩,
   ⟨0xF100004, 0x40, 2, 1, 0x0, 0x0, 0x100, 0x0, 0x0⟩,
   ⟨0xF100008, 0x40, 2, 1, 0x0, 0x0, 0x0, 0x0, 0x0⟩,
   ⟨0xF10000C, 0x40, 2, 1, 0x0, 0x0, 0x0, 0x0, 0x0⟩,
   ⟨0xF0A0200, 0x4, 16, 1, 0x0, 0x0, 0x0, 0x0, 0x0⟩,
   ⟨0xF0B0000, 0x0, 1, 1, 0x0, 0x0, 0x0, 0x0, 0x0⟩,
   ⟨0xF0B0004, 0x0, 1, 1, 0x0, 0xFFFFFFFF, 0x0, 0x0, 0x0⟩,
   ⟨0xF0B0008, 0x0, 1, 1, 0x0, 0x0, 0x1, 0x0, 0x0⟩,
   ⟨0xF0B000C, 0x0, 1, 1, 0x1410, 0x1FFF, 0x0, 0x0, 0x0⟩,
   ⟨0xF0B0010, 0x0, 1, 1, 0x0, 0x0, 0x0, 0x0, 0x0⟩,
   ⟨0xF0C0000, 0x0, 1, 1, 0x0, 0x1, 0x0, 0x0, 0x0⟩,
   ⟨0xF0C0004, 0x0, 1, 1, 0x0, 0x0, 0x0, 0x0, 0x0⟩,
   ⟨0xF0C0008, 0x0, 1, 1, 0x0, 0xFFFFFFFF, 0x0, 0x0, 0x0⟩,
   ⟨0xF0C000C, 0x0, 1, 1, 0x0, 0x0, 0x0, 0x0, 0x0⟩,
   ⟨0xF0C0010, 0x0, 1, 1, 0x0, 0x0, 0x0, 0xF, 0x0⟩,
   ⟨0xF0C0100, 0x4, 16, 1, 0x0, 0xFF07, 0x0, 0x0, 0x0⟩,
   ⟨0xF0C0200, 0x4, 11, 1, 0x0, 0xFFFFD, 0x0, 0x0, 0x0⟩,
   ⟨0xF0B1000, 0x20, 64, 8, 0x0, 0x0, 0x0, 0x0, 0x0⟩,
   ⟨0xF0C0400, 0x30, 16, 12, 0x0, 0xFFFFD000FFFFD000FFFFD000FFFFD000FFFFD000FFFFD000FFFFD000FFFFD000FFFFD000FFFFD000FFFFD000FFFFD, 0x0, 0x0, 0x0⟩,
   ⟨0xF0C8000, 0x40, 512, 16, 0x0, 0x0, 0x0, 0x0, 0x0⟩]

/-- Every register of a fc selector. -/
def fcRows : List RegRow :=
  fcRows0

/-- Registers under the selectors of this kind, part 0. -/
def mcRows0 : List RegRow :=
  [⟨0xF000100, 0x0, 1, 1, 0x0, 0x0, 0x0, 0x0, 0x0⟩,
   ⟨0xF000104, 0x0, 1, 1, 0x0, 0x0, 0x0, 0x0, 0x0⟩,
   ⟨0xF000108, 0x0, 1, 1, 0x0, 0x0, 0x4, 0x1, 0x0⟩,
   ⟨0xF000110, 0x4, 8, 1, 0x0, 0x0, 0x0, 0x0, 0x0⟩,
   ⟨0xF090000, 0x0, 1, 1, 0x0, 0x3FFF, 0x0, 0x0, 0x0⟩,
   ⟨0xF090004, 0x0, 1, 1, 0x0, 0x0, 0x200000, 0x0, 0x0⟩,
   ⟨0xF090008, 0x0, 1, 1, 0x0, 0x0, 0x0, 0x0, 0x0⟩,
   ⟨0xF100000, 0x0, 1, 1, 0x0, 0x0, 0x0, 0x0, 0x0⟩,
   ⟨0xF100004, 0x0, 1, 1, 0x0, 0x0, 0x0, 0x0, 0x0⟩,
   ⟨0xF100008, 0x0, 1, 1, 0x0, 0x0, 0x0, 0x0, 0x0⟩,
   ⟨0xF100010, 0x0, 1, 1, 0x14205C32, 0xFFFFFFFF, 0x0, 0x0, 0x0⟩,
   ⟨0xF100014, 0x0, 1, 1, 0x640190, 0xFFFFFF, 0x0, 0x0, 0x0⟩,
   ⟨0xF100018, 0x0, 1, 1, 0x1410A01, 0x7F7FFFF, 0x0, 0x0, 0x0⟩,
   ⟨0xF10001C, 0x0, 1, 1, 0x20, 0x7F, 0x0, 0x0, 0x0⟩,
   ⟨0xF100020, 0x0, 1, 1, 0x0, 0x0, 0x0, 0x0, 0x0⟩,
   ⟨0xF100024, 0x0, 1, 1, 0x0, 0x0, 0x0, 0x0, 0x0⟩,
   ⟨0xF100028, 0x0, 1, 1, 0x0, 0x0, 0x0, 0x0, 0x0⟩,
   ⟨0xF101000, 0x4, 64, 1, 0x0, 0x1FFFF, 0x0, 0x0, 0x0⟩,
   ⟨0xF102000, 0x4, 1320, 1, 0x0, 0x1FFFF, 0x0, 0x0, 0x0⟩,
   ⟨0xF104000, 0x4, 1320, 1, 0x0, 0x0, 0x0, 0x0, 0x0⟩]

/-- Registers under the selectors of this kind, part 1. -/
def mcRows1 : List RegRow :=
  [⟨0xF0A0000, 0x0, 1, 1, 0x168, 0x1FF, 0x0, 0x0, 0x0⟩,
   ⟨0xF0A0004, 0x0, 1, 1, 0x0, 0x0, 0x0, 0x0, 0x0⟩,
   ⟨0xF0A0008, 0x0, 1, 1, 0x1000, 0x0, 0x30000, 0x0, 0x0⟩,
   ⟨0xF110000, 0x0, 1, 1, 0x0, 0x0, 0x10, 0x0, 0x0⟩,
   ⟨0xF110004, 0x0, 1, 1, 0x0, 0x7FF, 0x0, 0x0, 0x0⟩,
   ⟨0xF110008, 0x0, 1, 1, 0x0, 0x0, 0x0, 0x0, 0x0⟩,
   ⟨0xF11000C, 0x0, 1, 1, 0x0, 0x0, 0x0, 0x0, 0x0⟩,
   ⟨0xF110100, 0x4, 37, 1, 0x40000, 0x40000, 0x18, 0x30000, 0x0⟩,
   ⟨0xF0B0000, 0x0, 1, 1, 0x0, 0x0, 0x0, 0x0, 0x0⟩,
   ⟨0xF0B0004, 0x0, 1, 1, 0x0, 0xFFFFFFFF, 0x0, 0x0, 0x0⟩,
   ⟨0xF0B0008, 0x0, 1, 1, 0x0, 0x0, 0x1, 0x0, 0x0⟩,
   ⟨0xF0C0000, 0x0, 1, 1, 0x0, 0xF, 0x0, 0x0, 0x0⟩,
   ⟨0xF0C0004, 0x0, 1, 1, 0x0, 0x0, 0x0, 0x0, 0x0⟩,
   ⟨0xF0C0008, 0x0, 1, 1, 0x0, 0xFFFFFFFF, 0x0, 0x0, 0x0⟩,
   ⟨0xF0C000C, 0x0, 1, 1, 0x0, 0x0, 0x0, 0x0, 0x0⟩,
   ⟨0xF0C0010, 0x0, 1, 1, 0x0, 0x0, 0x0, 0xF, 0x0⟩,
   ⟨0xF0C0100, 0x4, 16, 1, 0x0, 0xFF07, 0x0, 0x0, 0x0⟩,
   ⟨0xF0C0200, 0x4, 11, 1, 0x0, 0xFFFFD, 0x0, 0x0, 0x0⟩,
   ⟨0xF120000, 0x0, 1, 1, 0x0, 0x0, 0x0, 0x0, 0x0⟩,
   ⟨0xF120004, 0x0, 1, 1, 0x0, 0x0, 0x0, 0x1, 0x0⟩]

/-- Registers under the selectors of this kind, part 2. -/
def mcRows2 : List RegRow :=
  [⟨0xF120008, 0x0, 1, 1, 0x18, 0xFF, 0x0, 0x0, 0x0⟩,
   ⟨0xF120010, 0x0, 1, 1, 0x0, 0x0, 0x0, 0x0, 0x0⟩,
   ⟨0xF120014, 0x0, 1, 1, 0x0, 0x0, 0x0, 0x0, 0x0⟩,
   ⟨0xF120100, 0x4, 64, 1, 0x0, 0x0, 0x0, 0x0, 0x0⟩,
   ⟨0xF000000, 0x0, 1, 1, 0x0, 0x0, 0x0, 0x0, 0x0⟩,
   ⟨0xF000004, 0x0, 1, 1, 0x1, 0x0, 0x0, 0x0, 0x0⟩,
   ⟨0xF000008, 0x0, 1, 1, 0x0, 0x0, 0x0, 0x0, 0x0⟩,
   ⟨0xF130000, 0x40, 2, 1, 0x807, 0xFFFFF7F, 0x0, 0x0, 0x0⟩,
   ⟨0xF130004, 0x40, 2, 1, 0x0, 0x0, 0x4, 0x0, 0x0⟩,
   ⟨0xF130008, 0x40, 2, 1, 0x0, 0x0, 0x0, 0x0, 0x0⟩,
   ⟨0xF000010, 0x0, 1, 1, 0x0, 0x0, 0x0, 0x0, 0x0⟩,
   ⟨0xF000014, 0x0, 1, 1, 0x0, 0x0, 0x0, 0x0, 0x0⟩,
   ⟨0xF0B1000, 0x20, 1024, 8, 0x0, 0x0, 0x0, 0x0, 0x0⟩,
   ⟨0xF0C0400, 0x30, 16, 12, 0x0, 0xFFFFD000FFFFD000FFFFD000FFFFD000FFFFD000FFFFD000FFFFD000FFFFD000FFFFD000FFFFD000FFFFD000FFFFD, 0x0, 0x0, 0x0⟩,
   ⟨0xF0C8000, 0x40, 512, 16, 0x0, 0x0, 0x0, 0x0, 0x0⟩]

/-- Every register of a mc selector. -/
def mcRows : List RegRow :=
  mcRows0 ++ mcRows1 ++ mcRows2

/-- Whether the register row holds the word at offset `off`. -/
def RegRow.holds (r : RegRow) (off : Nat) : Bool :=
  r.base ≤ off &&
    (if r.stride = 0 then off < r.base + 4 * r.words
     else (off - r.base) / r.stride < r.count && (off - r.base) % r.stride < 4 * r.words)

/-- The number of the word at offset `off` within its register. -/
def RegRow.wordOf (r : RegRow) (off : Nat) : Nat :=
  (if r.stride = 0 then off - r.base else (off - r.base) % r.stride) / 4

/-- The part of a register-wide value that lies in its word `w`. -/
def wordAt (x w : Nat) : BitVec 32 :=
  BitVec.ofNat 32 (x / 2 ^ (32 * w))

/-- The row that holds offset `off`, if any. -/
def findRow (rows : List RegRow) (off : Nat) : Option RegRow :=
  rows.find? (fun r => r.holds off)

/-- The reset value of the word at offset `off` (0 where no register lies, R14). -/
def resetOf (rows : List RegRow) (off : Nat) : BitVec 32 :=
  match findRow rows off with
  | some r => wordAt r.reset (r.wordOf off)
  | none => 0

end Sys2Proof.Machine
end

