-- ==== Sys2Proof/Machine/Values.lean ====
section
/-!
DEFINITION. Exact values of number formats, and the configuration of a Palette entry as its user holds it (07).
-/
namespace Sys2Proof.Machine

open Sys2Proof

/-- An exact value: NaN, an infinity with its sign, or a finite value with its sign, significand and exponent of two. -/
inductive FVal where
  | nan
  | inf (neg : Bool)
  | fin (neg : Bool) (m : Nat) (e : Int)
deriving DecidableEq, Repr

/-- The configuration of a Palette entry, as its user read it (R183): number, words 0 and 1. -/
structure PalCfg where
  n : Nat
  w0 : Word
  w1 : Word
deriving DecidableEq, Repr

/-- No entry read. -/
def PalCfg.blank : PalCfg := ⟨0, 0, 0⟩

end Sys2Proof.Machine
end

