-- ==== Sys2Proof/Machine/State.lean ====
section
/-!
DEFINITION. The state of the module: every register, memory, queue, buffer, counter and mode that the spec gives it,
as plain data, and its value at reset.
-/
namespace Sys2Proof.Machine

open Sys2Proof

/-- Byte memory: address and byte pairs, addresses strictly rising, no entry zero. An address that is not listed reads
as zero (03, R67: banks come up zeroed; log entry 3). -/
abbrev Memory := List Host.Cell

/-- A register file: the 32-bit words that differ from their reset values or have been written, by offset (R12). -/
abbrev RegFile := KV Word

/-! ### Tracked items -/

/-- A completion record (12, R320, Table 12.6). -/
structure CRec where
  handle : Nat
  valid : Bool
  status : BitVec 8
  kind : Nat
  progress : Nat
  aon : Nat
deriving DecidableEq, Repr

/-- One slot of a unit's slot table (04, R105, R106; 12, R321): its generation, whether it has been used since reset,
whether its item is outstanding, and the record of its last completed item. -/
structure Slot where
  gen : BitVec 8
  used : Bool
  busy : Bool
  crec : CRec
deriving DecidableEq, Repr

/-! ### Cores -/

/-- Why a core waits (04, R115; classes Q and W of Table 4.6), with the registers that a waiting `sem.p` or `sync.wait`
will need when it is served. -/
inductive Wait where
  | queueFull (unit : Nat)
  | bolt (b : Nat)
  | channel (ch : Nat)
  | sem (n : Nat) (amount : Nat) (rd : BitVec 5)
  | sync (obj : Nat) (target : Nat) (rd : BitVec 5)
  | mirror (obj : Nat)
  | token (q : Nat)
  | route (r : Nat)
  | item (handle : Nat)
  | interrupt
  | tlb
deriving DecidableEq, Repr

/-- The trap registers of one level (04, R109, R110). -/
structure TrapRegs where
  base : DWord
  pc : DWord
  cause : DWord
  info : DWord
  save : DWord
deriving DecidableEq, Repr

/-- The Tile Control Core (04, R86 to R89, R109). The fields of TILE_STATE are kept apart: PRV, IE_x, PPRV_x, PIE_x,
TRAP_x and XLAT. `held` is true while the core is held in reset, `stopped` after a FATAL (R111). -/
structure Tcc where
  g : Vector DWord 32
  pc : DWord
  prv : Level
  ieS : Bool
  ieM : Bool
  pprvS : Level
  pprvM : Level
  pieS : Bool
  pieM : Bool
  trapS : Bool
  trapM : Bool
  xlat : Bool
  ts : TrapRegs
  tm : TrapRegs
  intEn : BitVec 16
  swiS : Bool
  swiM : Bool
  route : DWord
  timer : BitVec 48
  retired : DWord
  held : Bool
  stopped : Bool
  wait : Option Wait
deriving DecidableEq, Repr

/-- What a lane core does: it has not been started since job load, it runs, it is stopped by `stop` or END (R130), or it
is stopped by a fault and holds a record (R113). -/
inductive LaneSt where
  | idle | running | stopped | fault
deriving DecidableEq, Repr

/-- The fault record of a lane core (05, LC_FREC registers). -/
structure FRec where
  cause : BitVec 6
  status : BitVec 8
  slice : BitVec 4
  valid : Bool
  pc : Word
  info : Word
deriving DecidableEq, Repr

/-- A lane core (04, R87; 05). `started` says it was started since job load (R130); `parked` that it stands at a
pre-emption point with its state saved (R116). -/
structure LaneCore where
  g : Vector Word 32
  v : Vector VWord 32
  pc : Word
  st : LaneSt
  fcsr : Word
  srTensor : Word
  srIndex : BitVec 64
  retired : Word
  started : Bool
  parked : Bool
  frec : FRec
  wait : Option Wait
  ibuf : List Nat
deriving DecidableEq, Repr

/-! ### Tile memory, Bolts and credits -/

/-- The power state of a visible bank (03, R65 to R67). -/
inductive BankSt where
  | on | draining | off | ramping
deriving DecidableEq, Repr

/-- A reservation in a Bolt's completion window (R70): its first slot counter, its slots,
whether its write has landed, and whether its message asks for NOTIFY when it commits (11, R286). -/
structure Resv where
  start : Nat
  slots : Nat
  landed : Bool
  notify : Bool
deriving DecidableEq, Repr

/-- A message that lies in an overflow Bolt: the counter value of its first slot, its slots, the KIND of its request, and the SEQ and NOTIFY
it carried (11, R284, R286, R291). -/
structure OvfMsg where
  start : Nat
  slots : Nat
  kind : Nat
  seq : Nat
  notify : Bool
deriving DecidableEq, Repr

/-- A live grant of the grant table (R77, R78), or the generation of a free entry. `bolt` is the Bolt that holds the
reserved slots: the target, or its overflow Bolt (11, R291). -/
structure Grant where
  live : Bool
  gen : Nat
  target : BitVec 8
  sender : BitVec 64
  reqTag : BitVec 16
  kind : Nat
  offset : Nat
  bytes : Nat
  bolt : Nat
  start : Nat
  slots : Nat
deriving DecidableEq, Repr

/-- What a credit request was made for. -/
inductive ReqOwner where
  | xact (slot : Nat)
  | dma (slot : Nat) (off : Nat)
  | rtu (pos : Nat)
  | sketch (route : Nat)
  | stream (id : Nat) (block : Nat)
deriving DecidableEq, Repr

/-- The progress of a credit request at its sender (R77, R78, R384): the answer is awaited, a backoff runs, the write
has been sent, or the item gave up before its grant (R314). -/
inductive ReqPhase where
  | asked
  | backoff
  | sent
  | givenUp
deriving DecidableEq, Repr

/-- A credit request of a sender, until its write is acknowledged; `sentAt` is the region's cycle count when the write was sent (11, Table
11.4; 15, R382). -/
structure SendReq where
  owner : ReqOwner
  dst : BitVec 64
  msg : CreditMsg
  phase : ReqPhase
  tries : Nat
  wait : Nat
  sentAt : Nat
  data : List Byte
deriving DecidableEq, Repr

/-! ### Channels, DMA, translation -/

/-- The phase of a channel transaction (11, R282). -/
inductive XPhase where
  | queued | credit | sent
deriving DecidableEq, Repr

/-- A channel transaction (R281, R282): its channel, whether it is an active message, the message as sent, the units it
holds, the sequence value at acceptance, the level and translation setting of the send, its place in the order of
acceptance, its phase, and whether its wait has been reported (R292). -/
structure Xact where
  ch : Nat
  am : Bool
  msg : List Byte
  units : Nat
  seq : Nat
  lv : Level
  xlat : Bool
  order : Nat
  phase : XPhase
  reported : Bool
deriving DecidableEq, Repr

/-- A TLB entry (12, R304): the virtual page, whether it is a 2 MiB page, the global address of the page, and its
permissions R, W, X, U. -/
structure TlbEnt where
  vpn : Nat
  large : Bool
  ga : Nat
  r : Bool
  w : Bool
  x : Bool
  u : Bool
deriving DecidableEq, Repr

/-- A DMA item (R306 to R317): slot, wide opcode, descriptor address and descriptor as read (empty before), level and
translation setting of its issue, progress, whether it runs, whether its checks are done, the next write of a remote item,
its writes not yet answered (by offset), the failure that ends it with the offset it counts to, whether its present wait was
reported, and its Palette configurations as read. -/
structure DmaItem where
  slot : Nat
  wop : Nat
  addr : DWord
  desc : List Byte
  lv : Level
  xlat : Bool
  progress : Nat
  running : Bool
  checked : Bool
  sentTo : Nat
  inFlight : List Nat
  failed : Option (BitVec 8 × Nat)
  reported : Bool
  cfgS : PalCfg
  cfgD : PalCfg
deriving DecidableEq, Repr

/-! ### Errors and the Sketchbook -/

/-- An error log entry (18, R427, Table 18.2). -/
structure LogEnt where
  seq : Nat
  cls : Nat
  unitKind : Nat
  pt : Nat
  aon : Nat
  unit : Nat
  status : BitVec 8
  outcome : Nat
  ceWin : Nat
  detail : Nat
deriving DecidableEq, Repr

/-- A unit that can fail (R429): kind, physical tile, number. -/
structure UnitId where
  kind : Nat
  pt : Nat
  num : Nat
deriving DecidableEq, Repr

/-- A queued targeted test (R430): the unit, the sequence number of the entry that started it, whether it runs, and
whether it is deferred to job load (R432). -/
structure TestJob where
  unit : UnitId
  seq : Nat
  uncorrected : Bool
  running : Bool
  deferred : Bool
deriving DecidableEq, Repr

/-- A Sketchbook record (R437, Table 18.4): header word, sequence number, AON, cycle, words. -/
structure SkbRec where
  header : Word
  seq : Nat
  aon : Nat
  cycle : Nat
  words : List Word
deriving DecidableEq, Repr

/-- A taken trigger in a recorder's queue of 8 (R441). -/
structure SkbTake where
  id : Nat
  count : Nat
  aon : Nat
  cycle : Nat
  words : List Word
deriving DecidableEq, Repr

/-- A Sketchbook recorder (R437 to R441): its records by slot, its queue, and the firings of each trigger. -/
structure Recorder where
  recs : KV SkbRec
  queue : List SkbTake
  fired : KV Nat
deriving DecidableEq, Repr

/-! ### The Matrix Engine -/

/-- A weight buffer, or a plane of the array filled from one (06, R144, R145): which buffer, whether VALID, how often it has
been loaded, K, N, format, layout, a SPARSE pattern's N and M, and the elements by row, none where a SPARSE operand has no
term (08, R201). -/
structure MeBuf where
  num : Nat
  valid : Bool
  gen : Nat
  k : Nat
  n : Nat
  format : Nat
  layout : Nat
  pn : Nat
  pm : Nat
  vals : List (List (Option FVal))
deriving DecidableEq, Repr

/-- Why an item will end (R156): status, check or none, address, detail, and the block at which it was found. -/
structure MeFail where
  status : BitVec 8
  check : Nat
  addr : Nat
  detail : Nat
  block : Nat
deriving DecidableEq, Repr

/-- A Matrix Engine item (R134, R141, R151): slot and handle, instruction, operand values and whether rs1 names g0, level;
whether it has started and passed its checks; its number among the `mma` items started since the last step boundary, given at its first start (07, R192); whether its prune control recomputes the mask (08, R207); which set of the pair block 0 takes after a RESTORE (06, Table 6.8, RUN_WORD); its descriptors and Palette configurations as read; its rows; its staged blocks; rows staged,
issued and done; a weight load's reading; the plane it uses; its failure; its Study sample with the references formed so
far (07, R192, R193). -/
structure MeItem where
  slot : Nat
  handle : Nat
  wop : Nat
  payload : Nat
  word : Nat
  r1 : DWord
  r2 : DWord
  r3 : DWord
  drain : Bool
  lv : Level
  started : Bool
  checked : Bool
  descA : List Byte
  descD : List Byte
  cfgA : PalCfg
  cfgD : PalCfg
  rows : Nat
  staged : List (Nat × List (List FVal))
  stagedTo : Nat
  issued : Nat
  done : Nat
  reading : Bool
  plane : Option MeBuf
  failed : Option MeFail
  sample : Option (Nat × Nat)
  refs : KV Nat
  num : Option Nat
  remask : Bool
  flip : Nat
deriving DecidableEq, Repr

/-- A verification of skipped neurons (08, R214, R215): the prediction set, the next neuron, how many are verified, the
misses among those its policy covers, whether it has stopped, whether the set has been released (R216), and the rows of the next group that
Underpainting has issued (16, R401). -/
structure PredRun where
  set : Nat
  next : Nat
  verified : Nat
  misses : Nat
  listed : List Nat
  stopped : Bool
  released : Bool
  filled : Nat
deriving DecidableEq, Repr

/-- What a SAVE holds beside the save area (R165, R166): items, buffers, planes. -/
structure MeSave where
  items : List MeItem
  buf0 : MeBuf
  buf1 : MeBuf
  active : MeBuf
deriving DecidableEq, Repr

/-- The Matrix Engine (06): its queue in order, buffers, active plane, accumulator sets (FP32 words by 16,384 × set + 128 ×
row + column) and their words in error, what a SAVE holds, whether an abort or a halt waits for the block that issues, and
the count of `mma` items started since the last step boundary (07, R192). -/
structure MeState where
  items : List MeItem
  buf0 : MeBuf
  buf1 : MeBuf
  active : MeBuf
  sets : KV Word
  accErrs : List Nat
  saved : Option MeSave
  stopping : Option (BitVec 8)
  mmaCount : Nat
  preds : List PredRun
deriving DecidableEq, Repr

/-- A Routing Unit item (08, R218 to R225): slot, opcode (0 dispatch, 1 combine), control block address, INT, whether it runs,
the control block as read, the next position or token, the held-in entries of a dispatch, the positions whose writes are in
flight, and the status with which it is to stop. -/
structure RtuItem where
  slot : Nat
  wop : Nat
  addr : DWord
  int : Bool
  running : Bool
  cb : List Byte
  pos : Nat
  heldIn : Nat
  flying : List Nat
  stop : Option (BitVec 8)
deriving DecidableEq, Repr

/-- A slot of the Sketch store (09, R227 to R240): its state (0 EMPTY, 1 LOADING, 2 LOADED), GENERATION, image; tokens by
queue (4 × lane core + queue), the origins of the tokens in spill Bolts, credits in use and pending batches by route (8 × lane
core + route), batches in flight, failed routes, and credits owed, by queue and route of origin. -/
structure SkSlot where
  st : Nat
  gen : BitVec 8
  image : List Byte
  queues : KV (List SkToken)
  spilled : KV (List SkToken)
  inUse : KV Nat
  batch : KV (List SkToken)
  sentBatches : KV Nat
  failed : List Nat
  owed : List (Nat × SkToken × Nat)
deriving DecidableEq, Repr

/-- An item of the Sketch store (R234 to R238): slot of its handle, opcode (0 load, 1 flush), image address, Sketch slot,
whether it copies its image. -/
structure SkItem where
  slot : Nat
  wop : Nat
  addr : DWord
  sk : Nat
  copying : Bool
deriving DecidableEq, Repr

/-- The Sketch store of a tile (09): slots, the active one, whether a switch is between its steps 1 and 4, items, histogram
counters, stalled lane cores already reported, the triggers whose objects have been released and whose requests are still to be resolved,
and the trigger held under R254 with its TARGET and OBJECT. -/
structure SkStore where
  slots : KV SkSlot
  active : Option Nat
  switching : Bool
  items : List SkItem
  hist : KV Nat
  reported : List Nat
  trigDue : List Nat
  trigHeld : Option (Nat × Nat × Nat)
deriving DecidableEq, Repr

/-- A packet that waits for an egress port or at one: the port at which it came in, none for one of this module; the link VC it came in on, or
that of its class where it is this module's own and has been on its way; the node where it waits, and since when (14, R351, R362, R363, R365). -/
structure EgPkt where
  pkt : FabPkt
  ingress : Option Nat
  vc : Nat
  pos : Nat
  since : Nat
deriving DecidableEq, Repr

/-- A message on its way through the module's networks or the fabric. A credit message carries its TYPE of Table 3.2 and
the global address of the tile it goes to; a credited write goes to a tile. A Sync Network message (13, Table 13.3) goes
up from a tile to the object's home or down to a tile; a power notice goes to a region's power controller (13, R341); a
group message goes to another module (13, R339); `lost` tells that one for an object could not be delivered (R340). `fabAck`,
`sess`, `groupIn` and `segment` have arrived over the fabric for its transport, the SEC domain, the root of the Sync Network, and a tile (14,
R365). `batchEnd` and `chunkEnd` tell a tile that a batch of Sketch tokens or a reduction chunk of its own has ended on the fabric (R359, R366). `cross`
is a fabric packet on its way over the wafer to its egress port, with the link VC it leaves on (R27, R383). `access` stands on the Control
Mesh for a register access or a remote read, or, with `rsp`, for the response to one (10, R264). -/
inductive NetMsg where
  | credit (dst : Nat) (typ : Nat) (m : CreditMsg)
  | write (dst : Nat) (w : WriteMsg)
  | sync (up : Bool) (tile typ obj : Nat) (tagged directed : Bool) (count : BitVec 11) (value : BitVec 32)
  | power (region : Nat) (release : Bool)
  | group (dst typ obj : Nat) (value : BitVec 32)
  | red (p : RedPkt)
  | token (dst : Nat) (t : SkToken)
  | skCredit (t : SkToken) (n : Nat)
  | batch (dst tag : Nat) (ts : List SkToken)
  | batchEnd (t : SkToken) (st : BitVec 8)
  | chunkEnd (tile : Nat) (p : RedPkt) (st : BitVec 8)
  | segment (x : FabPkt)
  | groupIn (src typ obj : Nat) (value : BitVec 32)
  | access (rsp : Bool) (src dst : Nat)
  | lost (obj : Nat)
  | fabAck (src : Nat) (b : FabBody) (keyId : Nat)
  | sess (src msg gen xchg : Nat) (body : List Byte)
  | cross (port vc : Nat) (e : EgPkt)
deriving DecidableEq, Repr

/-- What carries a message (10, Table 10.3, R265, R266): B0, B1, T and S of the Bulk Mesh; HP, REQ and RSP of the Control Mesh; a
Neighbour link; the Sync Network's tree; nothing but the tile itself. -/
inductive Chan where
  | write | reduce | transit | selvage | hp | req | rsp | neighbour | sync | inside
deriving DecidableEq, Repr

/-- The route of a packet, fixed when it is injected (10, R259, R261): a dimension order, or the Selvage tree. -/
inductive Lane where
  | xy | yx | tree
deriving DecidableEq, Repr

/-- A message in flight (10): its channel and lane, the nodes where it was injected and where it leaves, the node where it waits and the
input through which it came there (0 to 3 a direction, 4 or 5 the tile's own units), its injection number, its flits and those it still has to send
there (none where it has arrived), and whether it still waits to be injected (R267). Nodes are physical tiles, then field controllers from
1,440, region nodes from 1,500, and the root 1,530 (R266). -/
structure Flight where
  msg : NetMsg
  chan : Chan
  lane : Lane
  src : Nat
  dst : Nat
  pos : Nat
  came : Nat
  age : Nat
  size : Nat
  left : Nat
  waiting : Bool
deriving DecidableEq, Repr

/-- An output of a router (10, R263, R264; 15, R386): the channel served last, and by channel the inputs still to be served in its
round. -/
structure OutPort where
  turn : Nat
  round : KV (List Nat)
deriving DecidableEq, Repr

/-- An answer of the module to the outside: the port (0 register access, 1 to 4 Lerux Control Protocol connections,
5 management bus, 6 USB, 7 host RoCE), a code, and data. -/
structure Reply where
  port : Nat
  code : Nat
  data : List Byte
deriving DecidableEq, Repr

/-! ### A tile -/

/-- A logical tile. Its registers lie in `regs`; what follows is the state behind them: `loaded` says that a job load has
given TILE_LT its number (R109), `dmaTurns` is the order in which running DMA items are served (R310), `dmaKept` are the descriptor copies that slots keep for `dma.rearm` (R317), `preSaving` says that a tile SAVE is under way (R322), `lostLanes` are the lane cores whose state could not be saved (R324), `discard` that the Management Complex
discards the tile once it is saved (R326), `preStop` that the TCC has taken interrupt 14 and lane cores stop (R116), `palMarks` what OVF and UNF of Palette entries rose by since
the last step boundary (07, R195), `stepQueue` the releases of the step barrier whose boundaries are still to come, each with the samples drawn in the region before it, `steps` the boundaries passed since job load (07, R188, R195), `asleep` whether
the tile is awake (0), sleeps (1) or wakes (2) (17, R421, R422), `stallsTold` the cores, by their turn, whose present wait has been reported (R292, R343), `bypassed` whether its routers are bypassed by a FATAL (18, R426). Of the energy model (16): the activity counters at the last window and their advances over it, the
estimate in units of 0.1 nW, slots used in the window of 10 µs, job rows and filler rows of the window of 64 cycles, the filler gate, PL and
B0. -/
structure Tile where
  regs : RegFile
  tcc : Tcc
  lanes : KV LaneCore
  slots : KV Slot
  mem : Memory
  istore : Memory
  errs : KV Nat
  banks : KV BankSt
  bankQ : KV (List Bool)
  isoBanks : List Nat
  scrubPos : Nat
  laneSaved : Bool
  window : KV (List Resv)
  ovfMsgs : KV (List OvfMsg)
  reqQ : KV (List CreditMsg)
  grants : KV Grant
  reqs : KV SendReq
  nextTag : Nat
  retries : Nat
  xacts : KV Xact
  xactOrder : Nat
  dma : List DmaItem
  dmaSaved : List DmaItem
  dmaTurns : List Nat
  dmaKept : KV DmaItem
  preSaving : Bool
  lostLanes : List Nat
  discard : Bool
  tlb : List TlbEnt
  semTurn : KV Nat
  delayed : List (Nat × Nat)
  preReq : Bool
  pwrNotice : Bool
  mailbox : Bool
  studyInt : Bool
  fatal : Bool
  bypassed : Bool
  isolated : Bool
  cycleBase : Nat
  recorder : Recorder
  counters : KV Nat
  boltOwned : List Nat
  stepQueue : List (BitVec 32 × Nat)
  steps : Nat
  stallsTold : List Nat
  loaded : Bool
  preStop : Bool
  asleep : Nat
  me : MeState
  palMarks : KV (Nat × Nat)
  rtu : List RtuItem
  rtuHeldIn : List (List Byte)
  sk : SkStore
  cntPrev : KV Nat
  cntDelta : KV Nat
  estRaw : Nat
  slotsUsed : Nat
  winJob : Nat
  winFill : Nat
  fillGate : Nat
  preL : Nat
  rampB0 : Nat
deriving DecidableEq, Repr

/-! ### Module-level units -/

/-- A CE window of a unit (R430): when it opened and how many CEs fell into it. -/
structure CeWin where
  unit : UnitId
  start : Nat
  count : Nat
deriving DecidableEq, Repr

/-- A field controller (02, R36; 18): its registers, its error log by slot, its queue of targeted tests, its history of
transients (unit and AON, oldest first), its CE windows, its recorder, and whether it reloads its firmware (R426). -/
structure Fc where
  regs : RegFile
  log : KV LogEnt
  tests : List TestJob
  history : List (UnitId × Nat)
  ceWins : List CeWin
  recorder : Recorder
  reloading : Bool
deriving DecidableEq, Repr

/-- A synchronisation object at its home (13, R330, R331): the declaration, the arrivals of the open round, the
generation or value, and the STALE and BROKEN marks; for a group object, the children that have reported the round; the regions whose power
controllers have been told of the open round (R341). -/
structure SyncObj where
  typ : Nat
  scope : Nat
  fieldOnly : Bool
  field : Nat
  power : Bool
  region : Nat
  group : Nat
  parts : Nat
  count : Nat
  value : BitVec 32
  stale : Bool
  broken : Bool
  reported : List Nat
  upSent : Bool
  told : List Nat
deriving DecidableEq, Repr

/-- A group entry (13, R339). -/
structure GroupEnt where
  valid : Bool
  top : Bool
  children : List Nat
  parent : Nat
deriving DecidableEq, Repr

/-- The Gesso map (02, R43 to R53): the three slots of the boot flash as bytes (empty where erased), the map in effect (its entries, generation, region
counts, ports down), whether it has been loaded, whether no device map was accepted, whether D1 is the slot in effect,
the failed mark, the full tests (R50), and the ports that findings hold down (R48). -/
structure Gesso where
  slotF : List Byte
  slotD0 : List Byte
  slotD1 : List Byte
  entries : List MapEnt
  generation : Nat
  counts : List Nat
  valid : Bool
  factoryOnly : Bool
  inD1 : Bool
  failed : Bool
  fullBusy : Bool
  isoPorts : List Nat
deriving DecidableEq, Repr

/-- The active Management Complex (18; 19; 20): its registers, its error log by slot, its recorder. -/
structure Mc where
  regs : RegFile
  log : KV LogEnt
  recorder : Recorder
deriving DecidableEq, Repr

/-- A sample of the Study unit (07, R192 to R195), held from its draw: tile, handle, D entry, its number in the region, whether its block has
been written, and then ULP distance, Frobenius error as BF16, whether a NaN arose. -/
structure Sample where
  lt : Nat
  handle : Nat
  entry : Nat
  seq : Nat
  ready : Bool
  ulp : Nat
  fro : Nat
  nan : Bool
deriving DecidableEq, Repr

/-- A region (02; 16; 17): the cycles its clock has counted; its Study unit's queue, the samples drawn, the items counted toward the next
unseeded sample and whether one is due (07, R192, R195); and, by 256 × step + entry, the tiles and the increments of OVF and UNF of the
steps that end (R195). Of the power controller (16): BUDGET_SLOTS, the quota Q, Ppre, the tick of a running ramp, whether a halt follows
a FATAL of a controller (18, R426), the tiles whose droop notice is on its way, whether the input guard holds the budget until the next
allocator period (R398) or for a sagging input (21, R488), and the estimate and the demand of the last window in units of 0.1 nW with the demand's array part and
the rest of the estimate; and of the hour under way the sum and the number of the values of TMAX (21, R493). -/
structure Region where
  cycles : Nat
  samples : List Sample
  sampleSeq : Nat
  studyItems : Nat
  studyDue : Bool
  range : KV (Nat × Nat × Nat)
  budgetSlots : Nat
  quota : Nat
  ppre : Nat
  ramp : Option Nat
  fatalHalt : Bool
  droopNotice : List Nat
  guarded : Bool
  sagHeld : Bool
  estRaw : Nat
  demand : Nat
  arrayFull : Nat
  nonArray : Nat
  tmax : Int × Nat
deriving DecidableEq, Repr

/-- The routing tables of an epoch (10, R260, R261, R267): the bypassed routers and failed links (link codes, by 256 × physical
tile + code) and the regions that are off, from which the detour sets follow; the routers that the Selvage tree does not reach, by
16 × physical tile + network; and the tree itself, each router's parent by the same key, from which the Selvage port tables follow. -/
structure MeshTab where
  bypassed : List Nat
  failed : List Nat
  off : List Nat
  lost : List Nat
  up : KV Nat
deriving DecidableEq, Repr

/-- The networks (10): the active tables and those of a change under way, the epoch number, failed replays in a row by link
direction, the links and routers out of routing for a failure or a test (R257; 18, R432), those isolated by a finding until the next job
load (02, R48), the outputs of routers, by network, node and next node, and the number of packets injected. -/
structure Mesh where
  active : MeshTab
  shadow : Option MeshTab
  epoch : Nat
  replays : KV Nat
  outLinks : List Nat
  outRouters : List (Nat × Nat)
  isoLinks : List Nat
  isoRouters : List (Nat × Nat)
  outs : KV OutPort
  injected : Nat
deriving DecidableEq, Repr

/-- A chunk of a reduction at its destination (10, R272, R275): the spans received and the partials held. -/
structure RedChunk where
  spans : List (Nat × Nat)
  parts : List RedPkt
  done : Bool
deriving DecidableEq, Repr

/-! ### The fabric -/

/-- A fabric port (14, R347, R350 to R355; 15, R383, R386): the flit sequence numbers expected and next sent, the flits sent and not
acknowledged with their 244 payload bytes, those to be sent again, the flit on the wire, its egress queues by VC with the flits of each head packet
already sent and the flits reserved for packets that cross the wafer to it, credits held by VC and credits to return by VC, packets
received by VC, whether it discards flits until a replay, the flit that the last NAK named with the replays in a row that failed to
deliver it, the VCs still to be served in the round, whether the far end is a port of this module, and the AON time at which the port was
trained. -/
structure FabPort where
  rxSeq : Nat
  txSeq : Nat
  replay : List (FabFlit × List Byte)
  resend : List (FabFlit × List Byte)
  wire : Option (FabFlit × List Byte)
  queues : KV (List EgPkt)
  headSent : KV Nat
  reserved : KV Nat
  credits : KV Nat
  owed : KV Nat
  rx : KV (List FabPkt)
  dropping : Bool
  nakAt : Option Nat
  fails : Nat
  round : List Nat
  ownEnd : Bool
  trainedAt : Nat
deriving DecidableEq, Repr

/-- A packet of this module that is not acknowledged (R358 to R360): the packet, its retransmissions, those after INTEGRITY, and
whether it waits for a session key. -/
structure FabOut where
  pkt : FabPkt
  tries : Nat
  intTries : Nat
  waiting : Bool
deriving DecidableEq, Repr

/-- The fields of FAB_CC_CFG0 and FAB_CC_CFG1 as a pair took them at the start of its period (R370), once it has been used. -/
structure CcHeld where
  used : Bool
  floor : Nat
  inc : Nat
  dec : Nat
  ceil : Nat
deriving DecidableEq, Repr

/-- The sending side of the pair to another module: next PSN by KEY_ID, packets not acknowledged, rate in Gb/s, and whether an ECE
came in this period (R358, R370). -/
structure FabTx where
  psn : KV Nat
  out : List FabOut
  rate : Nat
  cut : Bool
  cc : CcHeld
  budget : Nat
deriving DecidableEq, Repr

/-- The receiving side of a pair under one KEY_ID (R358, R371): the lowest PSN not received, those received above it, the PSNs to
acknowledge with their CE marks, and flagged packets held, with the ports at which they came in. -/
structure FabRx where
  base : Nat
  seen : List Nat
  acks : List (Nat × Bool)
  held : List (Nat × FabPkt)
deriving DecidableEq, Repr

/-- A credited write that arrives in segments (R357): the segments that have landed, and whether it was refused. -/
structure SegRx where
  src : Nat
  tile : Nat
  xid : Nat
  got : List FabPkt
  refused : Bool
deriving DecidableEq, Repr

/-- The session with another module (19, R453 to R456): phase of the exchange (0 none, 1 KEX_INIT sent, 2 KEX_REPLY sent, 3 AUTH sent as
initiator, 4 AUTH sent as responder), whether this module initiated it, its ID and generation, attempts of the message that awaits an answer,
bodies of KEX_INIT and KEX_REPLY, whether the peer's AUTH is accepted, the generations accepted, AON times of the last exchange, of
the first packet under the new generation and of the last failure, the fragments received, and by generation the PRK of its exchange
with whether this module initiated it. -/
structure Sess where
  phase : Nat
  initiator : Bool
  xchg : Nat
  gen : Nat
  tries : Nat
  initBody : List Byte
  replyBody : List Byte
  peerAuth : Bool
  cur : Option Nat
  prev : Option Nat
  since : Nat
  firstNew : Option Nat
  failedAt : Option Nat
  frags : List (Nat × Nat × List Byte)
  gens : KV (List Byte × Bool)
deriving DecidableEq, Repr

/-- A route table in effect (R364, R367): version, module ID, Selvage root, ESC_WAIT, PORT_EN and DATELINE bits, entries by module
ID. -/
structure RouteTab where
  version : Nat
  ident : Nat
  root : Nat
  escWait : Nat
  portEn : Nat
  dateline : Nat
  entries : KV Word
deriving DecidableEq, Repr

/-- The fabric (14): ports, the route table, the pairs of modules, writes arriving in segments, sessions, the packets that wait to be injected
toward an egress port (15, R383), of which those in transit stand in the receive buffer of their ingress port, and whether the swap of the route
tables is being broadcast (R368). -/
structure Fab where
  ports : KV FabPort
  routes : Option RouteTab
  tx : KV FabTx
  rx : KV FabRx
  segs : List SegRx
  sess : KV Sess
  toSend : List EgPkt
  swapping : Bool
deriving DecidableEq, Repr

/-! ### Clocks, security, management -/

/-- The clock monitors (17, R413, R414, R418, R420): windows of REF in a row that were good or bad, whether the first trim count was
made, trim counts in a row within 0.02 %, PLLs whose START waits for REF, and regions that switch back at the next period. -/
structure Clk where
  good : Nat
  bad : Nat
  trimmed : Bool
  trimGood : Nat
  waitStart : List Nat
  relocked : List Nat
deriving DecidableEq, Repr

/-- A firmware copy in the boot flash (19, R446): security version, body, and whether it is well formed and its signatures verify. -/
structure FwCopy where
  svn : Nat
  body : List Byte
  ok : Bool
deriving DecidableEq, Repr

/-- The boot flash and the fuses that change (19, R444 to R451, R458; 21, R488, R493): firmware copies by 2 × stage + copy; policy,
membership certificate and route image as last accepted; ISK generations held; boot counter; SVN floors of stages 1 to 3, policy
floor; hashes of the owner keys written; whether an over-current was latched; the life measures: hours (0), the sum of the hours' means as
a fraction (1, above 3), and the hours over (2); and the public keys that the device certificate carries (R444). The generations of the ISK are wrapped with the DWK (R458). -/
structure Flash where
  fw : KV FwCopy
  policy : List Byte
  membership : List Byte
  routeImage : List Byte
  isk : List (Nat × List Byte)
  bootCount : Nat
  floors : List Nat
  policyFloor : Nat
  owners : List (List Byte)
  overCurrent : Bool
  life : KV Nat
  certRsa : List Byte
  certPq : List Byte
deriving DecidableEq, Repr

/-- The SEC domain (19): whether a policy is accepted; what SEC SRAM holds of the device secret, the device identity key, the device wrap key and the
generations of the ISK, all of it clear while no Management Complex has derived its keys (R444, R445); the scopes opened, the unlock counter, the
high words latched by reads of SEC_UNLOCK_CTR_LO and CLK_AON_LO, firmware copies that run, by stage, and which Management Complexes
have failed. -/
structure Sec where
  policy : Bool
  secret : List Byte
  dik : Dik
  dwk : List Byte
  isk : List (Nat × List Byte)
  scopes : Nat
  unlockCtr : DWord
  unlockHi : Word
  aonHi : Word
  running : KV Nat
  failedMc : List Bool
deriving DecidableEq, Repr

/-- A connection of the Lerux Control Protocol (20, R476): its number, whether its client holds the owner's certificate chain, and the number of its
TLS session. -/
structure LcpConn where
  id : Nat
  full : Bool
  tls : Nat
deriving DecidableEq, Repr

/-- A job image that a connection sends: the bytes received so far, in order (20, R477, R478). -/
structure JobLoad where
  conn : Nat
  bytes : List Byte
deriving DecidableEq, Repr

/-- A stream of a host port (20, R474, R475): port, connection, direction (true is OUT), FORM, tile, base offset, window, length, next
block, final status, QPN, rate of its QP in Gb/s, data key, checkpoint header, whether the header was checked, blocks written, and the time
of the last congestion notification sent. -/
structure Stream where
  port : Nat
  conn : Nat
  dirOut : Bool
  form : Nat
  lt : Nat
  base : Nat
  window : Nat
  len : Nat
  next : Nat
  status : Option (BitVec 8)
  qpn : Nat
  rate : Nat
  key : List Byte
  header : List Byte
  opened : Bool
  acked : Nat
  lastCnp : Option Nat
deriving DecidableEq, Repr

/-- Management (20): whether 50 V is present, connections, alert causes, dynamic address of the I3C target, whether in-band interrupts
are enabled, maximum write and read lengths, the parts block's entries and the time of its last read, whether USB is attached, the job
image being sent, streams by number, failed reads of the shelf in a row, the time since which the input has exceeded CAP, whether the
input sags beyond 10 ms, the last READ_VIN, READ_IIN and STATUS_WORD, the bundles without a fabric cable, the transmit presets of fabric ports
(R470), the cages whose Application Select has been written (R470), and of the hour under way the sum and the number of the sensors'
readings (21, R493). -/
structure Mgt where
  powered : Bool
  conns : List LcpConn
  alerts : Nat
  i3c : Option (BitVec 7)
  ibi : Bool
  mwl : Nat
  mrl : Nat
  parts : KV (List Byte)
  partsAon : Nat
  usb : Bool
  loading : Option JobLoad
  streams : KV Stream
  pinFails : Nat
  overSince : Option Nat
  sagging : Bool
  shelf : List Int
  absent : List Nat
  presets : KV Nat
  appSel : List Nat
  heat : Int × Nat
deriving DecidableEq, Repr


/-- The state of the module: the commands that wait; the free values drawn; the AON count; tiles; field controllers;
synchronisation objects and groups; the module ID; the Gesso map; the Management Complex; regions; MGMT cycles; placement
groups to halt and the group of each tile; messages in flight, those at one node in the order they came there; answers; the job's step barrier; the networks; packets of
reductions that routers hold, by physical tile; chunks at their destinations, by 2^18 × RID + chunk, and the run of leading
completed chunks of each reduction; units with an error in their storage that has not been found (18,
R425); the fabric; the clock monitors; the boot flash and fuses; the SEC domain; management. -/
structure State where
  pending : List Instr
  fresh : Nat
  aon : Nat
  tiles : KV Tile
  fcs : KV Fc
  objs : KV SyncObj
  groups : KV GroupEnt
  moduleId : Option Nat
  gesso : Gesso
  mc : Mc
  regions : KV Region
  mgmtCycles : Nat
  haltGroups : List Nat
  tileGroups : KV Nat
  net : List Flight
  replies : List Reply
  stepBarrier : Option Nat
  mesh : Mesh
  redHeld : KV (List (RedPkt × Flight))
  redChunks : KV RedChunk
  redLead : KV Nat
  upsets : List (UnitId × Bool)
  fab : Fab
  clk : Clk
  flash : Flash
  sec : Sec
  mgt : Mgt
deriving DecidableEq, Repr

/-- Why a step stops. -/
inductive Fault where
  /-- The command names a unit, tile, lane core, field controller, port, PLL, object, connection, part, bundle, link, declared reduction or
  recorder that does not exist, so the spec says nothing of it (log entry 13). Raised by every family's range check on its operands. Safe: the model stops. -/
  | noSuchUnit
deriving DecidableEq, Repr

/-- Why the model gives a command no meaning. -/
inductive Refusal where
  /-- No meaning has been written yet. Raised by the dispatch alone. Safe: the model stops. -/
  | notModelled (mnemonic : String)
deriving DecidableEq, Repr

/-! ### Reset -/

/-- Trap registers reset to zero (R109). -/
def TrapRegs.reset : TrapRegs := ⟨0, 0, 0, 0, 0⟩

/-- The Tile Control Core at reset (R89, R109): at M, interrupts off, held until boot step 11; the general registers are
zero (log entry 1). -/
def Tcc.reset : Tcc :=
  { g := Vector.replicate 32 0, pc := 0xFF00000, prv := .m, ieS := false, ieM := false, pprvS := .u, pprvM := .u,
    pieS := false, pieM := false, trapS := false, trapM := false, xlat := false, ts := TrapRegs.reset,
    tm := TrapRegs.reset, intEn := 0, swiS := false, swiM := false, route := 0, timer := 0xFFFFFFFFFFFF, retired := 0,
    held := true, stopped := false, wait := none }

/-- No fault record (05). -/
def FRec.none : FRec := ⟨0, 0, 0, false, 0, 0⟩

/-- A lane core at reset: not started; registers zero (log entry 1). -/
def LaneCore.reset : LaneCore :=
  { g := Vector.replicate 32 0, v := Vector.replicate 32 0, pc := 0, st := .idle, fcsr := 0, srTensor := 0, srIndex := 0,
    retired := 0, started := false, parked := false, frec := FRec.none, wait := Option.none, ibuf := [] }

/-- A completion record that has not been written (R321: reset all zero). -/
def CRec.zero : CRec := ⟨0, false, 0, 0, 0, 0⟩

/-- A slot at reset. -/
def Slot.reset : Slot := ⟨0, false, false, CRec.zero⟩

/-- A free grant-table entry at reset. -/
def Grant.reset : Grant := ⟨false, 0, 0, 0, 0, 0, 0, 0, 0, 0, 0⟩

/-- A recorder at power-on: no record valid (R437). -/
def Recorder.reset : Recorder := ⟨[], [], []⟩

/-- An empty weight buffer. -/
def MeBuf.empty (b : Nat) : MeBuf := ⟨b, false, 0, 0, 0, 0, 0, 0, 0, []⟩

/-- The Matrix Engine at reset (R168). -/
def MeState.reset : MeState :=
  { items := [], buf0 := MeBuf.empty 0, buf1 := MeBuf.empty 1, active := MeBuf.empty 0, sets := [], accErrs := [],
    saved := none, stopping := none, mmaCount := 0, preds := [] }

/-- An EMPTY slot. -/
def SkSlot.empty : SkSlot :=
  { st := 0, gen := 0, image := [], queues := [], spilled := [], inUse := [], batch := [], sentBatches := [], failed := [],
    owed := [] }

/-- The Sketch store at reset. -/
def SkStore.reset : SkStore :=
  { slots := [], active := none, switching := false, items := [], hist := [], reported := [], trigDue := [], trigHeld := none }

/-- A tile at reset. -/
def Tile.reset : Tile :=
  { regs := [], tcc := Tcc.reset, lanes := [], slots := [], mem := [], istore := [], errs := [],
    banks := [], bankQ := [], isoBanks := [], scrubPos := 0, laneSaved := false, window := [], ovfMsgs := [], reqQ := [], 
    grants := [], reqs := [], nextTag := 0, retries := 0, xacts := [], xactOrder := 0, dma := [], dmaSaved := [], dmaTurns := [], dmaKept := [], preSaving := false, lostLanes := [], discard := false,
    tlb := [], semTurn := [], delayed := [], preReq := false, pwrNotice := false, mailbox := false, studyInt := false,
    fatal := false, bypassed := false, isolated := false, cycleBase := 0, recorder := Recorder.reset
    , counters := []
    , boltOwned := []
    , stepQueue := []
    , steps := 0
    , stallsTold := []
    , loaded := false
    , preStop := false
    , asleep := 0
    , me := MeState.reset
    , palMarks := []
    , rtu := []
    , rtuHeldIn := []
    , sk := SkStore.reset
    , cntPrev := []
    , cntDelta := []
    , estRaw := 0
    , slotsUsed := 0
    , winJob := 0
    , winFill := 0
    , fillGate := 64
    , preL := 0
    , rampB0 := 0
  }

/-- A field controller at power-on. -/
def Fc.reset : Fc :=
  { regs := [], log := [], tests := [], history := [], ceWins := [], recorder := Recorder.reset, reloading := false
  }

/-- An unused object (R330). -/
def SyncObj.unused : SyncObj :=
  { typ := 0, scope := 0, fieldOnly := false, field := 0, power := false, region := 0, group := 0, parts := 0,
    count := 0, value := 0, stale := false, broken := false, reported := [], upSent := false,
    told := [] }

/-- An unused group entry. -/
def GroupEnt.unused : GroupEnt := ⟨false, false, [], 0⟩

/-- The boot flash as shipped: a factory map without entries that verifies, and no device map (log entry 4). -/
def Gesso.shipped : Gesso :=
  { slotF := shippedImage, slotD0 := [], slotD1 := [], entries := [], generation := 0,
    counts := List.replicate 30 44, valid := false, factoryOnly := false, inD1 := false, failed := false,
    fullBusy := false, isoPorts := [] }

/-- The Management Complex at power-on. -/
def Mc.reset : Mc :=
  { regs := [], log := [], recorder := Recorder.reset
  }

/-- A region at power-on. -/
def Region.reset : Region :=
  { cycles := 0
    , samples := []
    , sampleSeq := 0
    , studyItems := 0
    , studyDue := false
    , range := []
    , budgetSlots := 64
    , quota := 0
    , ppre := 0
    , ramp := none
    , fatalHalt := false
    , droopNotice := []
    , guarded := false
    , sagHeld := false
    , estRaw := 0
    , demand := 0
    , arrayFull := 0
    , nonArray := 0
    , tmax := (0, 0) }

/-- A port with nothing sent or received. -/
def FabPort.reset : FabPort :=
  { rxSeq := 0, txSeq := 0, replay := [], resend := [], wire := none, queues := [], headSent := [], reserved := [], credits := [],
    owed := [], rx := [], dropping := false, nakAt := none, fails := 0, round := [], ownEnd := false, trainedAt := 0 }

/-- A pair without history. -/
def FabTx.reset : FabTx := { psn := [], out := [], rate := 0, cut := false, cc := ⟨false, 0, 0, 0, 0⟩, budget := 4160 }
def FabRx.reset : FabRx := { base := 0, seen := [], acks := [], held := [] }

/-- No session. -/
def Sess.none : Sess :=
  { phase := 0, initiator := false, xchg := 0, gen := 0, tries := 0, initBody := [], replyBody := [], peerAuth := false, cur := Option.none,
    prev := Option.none, since := 0, firstNew := Option.none, failedAt := Option.none, frags := [],
    gens := [] }

/-- The fabric at reset. -/
def Fab.reset : Fab := { ports := [], routes := none, tx := [], rx := [], segs := [], sess := [], toSend := [], swapping := false }

/-- A firmware copy as shipped (log entry 4). -/
def FwCopy.shipped : FwCopy := { svn := 0, body := [], ok := true }

/-- The boot flash and fuses as shipped: both copies of each stage in place, nothing enrolled (log entry 4). -/
def Flash.shipped : Flash :=
  { fw := [(2, FwCopy.shipped), (3, FwCopy.shipped), (4, FwCopy.shipped), (5, FwCopy.shipped), (6, FwCopy.shipped), (7, FwCopy.shipped)],
    policy := [], membership := [], routeImage := [], isk := [], bootCount := 0, floors := [0, 0, 0], policyFloor := 0, owners := [],
    overCurrent := false, life := [], certRsa := (dikOf Config.deviceSecret).rsa, certPq := (dikOf Config.deviceSecret).pq }

/-- The SEC domain at power-on. -/
def Sec.reset : Sec :=
  { policy := false, secret := [], dik := Dik.none, dwk := [], isk := [], scopes := 0, unlockCtr := 0, unlockHi := 0, aonHi := 0, running := [], failedMc := [] }

/-- Management at power-on, before 50 V is present. -/
def Mgt.reset : Mgt :=
  { powered := false, conns := [], alerts := 0, i3c := none, ibi := true, mwl := 0, mrl := 0, parts := [], partsAon := 0, usb := false,
    loading := none, streams := [], pinFails := 0, overSince := none, sagging := false, shelf := [0, 0, 0], absent := [],
    presets := [], appSel := [], heat := (0, 0) }


/-- The module right after power-on, before the boot of Table 20.2 has run. -/
def State.reset : State :=
  { pending := [], fresh := 0, aon := 0, tiles := [], fcs := [], objs := [], groups := [], moduleId := none
    , gesso := Gesso.shipped
    , mc := Mc.reset
    , regions := [], mgmtCycles := 0, haltGroups := [], tileGroups := []
    , net := [], replies := []
    , stepBarrier := none
    , mesh := { active := ⟨[], [], [], [], []⟩, shadow := none, epoch := 0, replays := [], outLinks := [], outRouters := [], isoLinks := [],
                isoRouters := [], outs := [],
                injected := 0 }
    , redHeld := []
    , redChunks := []
    , redLead := []
    , upsets := []
    , fab := Fab.reset
    , clk := { good := 0, bad := 0, trimmed := false, trimGood := 0, waitStart := [], relocked := [] }
    , flash := Flash.shipped
    , sec := Sec.reset
    , mgt := Mgt.reset
  }

end Sys2Proof.Machine
end

