-- ==== Sys2Proof/Machine/Status.lean ====
section
/-!
DEFINITION. Completion status codes (00, R18, Table 0.5) and trap causes (04, Table 4.8).
-/
namespace Sys2Proof.Machine

abbrev Status := BitVec 8

abbrev stOk : Status := 0x00
abbrev stPartial : Status := 0x01
abbrev stPreempted : Status := 0x02
abbrev stXlatFault : Status := 0x10
abbrev stProtFault : Status := 0x11
abbrev stBankOff : Status := 0x12
abbrev stRegionOff : Status := 0x13
abbrev stPeerClosed : Status := 0x14
abbrev stCreditDenied : Status := 0x15
abbrev stSparseMeta : Status := 0x16
abbrev stBoltEmpty : Status := 0x17
abbrev stChannelStall : Status := 0x18
abbrev stSketchBusy : Status := 0x19
abbrev stEccUncorr : Status := 0x20
abbrev stLinkLost : Status := 0x21
abbrev stTimeout : Status := 0x22
abbrev stIntegrity : Status := 0x23
abbrev stCapacityDrop : Status := 0x24
abbrev stAborted : Status := 0x30

/-- The status codes of Table 0.5. -/
def statusCodes : List Status :=
  [stOk, stPartial, stPreempted, stXlatFault, stProtFault, stBankOff, stRegionOff, stPeerClosed, stCreditDenied, stSparseMeta, stBoltEmpty,
   stChannelStall, stSketchBusy, stEccUncorr, stLinkLost, stTimeout, stIntegrity, stCapacityDrop, stAborted]

abbrev Cause := BitVec 6

abbrev causeFetch : Cause := 0x01
abbrev causeIllegal : Cause := 0x02
abbrev causeOperand : Cause := 0x03
abbrev causePriv : Cause := 0x04
abbrev causeAlign : Cause := 0x05
abbrev causeLoad : Cause := 0x06
abbrev causeStore : Cause := 0x07
abbrev causeBolt : Cause := 0x08
abbrev causeChannel : Cause := 0x09
abbrev causeBrk : Cause := 0x0A
abbrev causeScallU : Cause := 0x0B
abbrev causeScallS : Cause := 0x0C
abbrev causeScallM : Cause := 0x0D
abbrev causeNested : Cause := 0x0E
abbrev causeMachine : Cause := 0x10

end Sys2Proof.Machine
end

