-- ==== Sys2Proof/Machine/Base.lean ====
section
/-!
DEFINITION. Access to the parts of the state: tiles, register files, free values.
-/
namespace Sys2Proof.Machine

open Sys2Proof

/-- The number of a level (R89). -/
def lvNum : Level → Nat
  | .u => 0 | .s => 1 | .m => 2

/-- The level that a stored two-bit encoding names; 3 is never stored and reads as 0 (R89). -/
def levelOf (n : Nat) : Level :=
  if n % 4 = 1 then .s else if n % 4 = 2 then .m else .u

/-- Whether level `a` is at least level `b`. -/
def lvAtLeast (a b : Level) : Bool := lvNum b ≤ lvNum a

/-! ### Tiles -/

/-- Tile `lt` of the module. -/
def State.tile (s : State) (lt : Nat) : Tile := kvGet Tile.reset s.tiles lt

/-- The state with tile `lt` replaced. -/
def State.setTile (s : State) (lt : Nat) (t : Tile) : State := { s with tiles := kvSet s.tiles lt t }

/-- The state with tile `lt` changed by `f`. -/
def State.modTile (s : State) (lt : Nat) (f : Tile → Tile) : State := s.setTile lt (f (s.tile lt))

/-- Field controller `f`. -/
def State.fc (s : State) (f : Nat) : Fc := kvGet Fc.reset s.fcs f

/-- The state with field controller `f` changed by `g`. -/
def State.modFc (s : State) (f : Nat) (g : Fc → Fc) : State := { s with fcs := kvSet s.fcs f (g (s.fc f)) }

/-! ### Register words -/

/-- The word of a register file at `off`, with the reset values of `rows` behind it. -/
def RegFile.get (rows : List RegRow) (r : RegFile) (off : Nat) : Word :=
  match kvFind r off with
  | some v => v
  | none => resetOf rows off

/-- The register word of tile `lt` at `off`, as it is held. -/
def State.treg (s : State) (lt off : Nat) : Word := RegFile.get tileRows (s.tile lt).regs off

/-- The state with a register word of tile `lt` set. -/
def State.setTreg (s : State) (lt off : Nat) (v : Word) : State :=
  s.modTile lt (fun t => { t with regs := kvSet t.regs off v })

/-- Bits [hi:lo] of a register word of tile `lt`. -/
def State.tfld (s : State) (lt off hi lo : Nat) : Nat := fld (s.treg lt off) hi lo

/-- The state with bits [hi:lo] of a register word of tile `lt` set. -/
def State.setTfld (s : State) (lt off hi lo v : Nat) : State := s.setTreg lt off (setFld (s.treg lt off) hi lo v)

/-- One bit of a register word of tile `lt`. -/
def State.tbit (s : State) (lt off i : Nat) : Bool := bit (s.treg lt off) i

/-- The state with one bit of a register word of tile `lt` set to `b`. -/
def State.setTbit (s : State) (lt off i : Nat) (b : Bool) : State := s.setTfld lt off i i (b2n b)

/-- The register word of field controller `f` at `off`. -/
def State.freg (s : State) (f off : Nat) : Word := RegFile.get (fcRows ++ regionRows) (s.fc f).regs off

/-- The state with a register word of field controller `f` set. -/
def State.setFreg (s : State) (f off : Nat) (v : Word) : State :=
  s.modFc f (fun t => { t with regs := kvSet t.regs off v })

/-- Bits [hi:lo] of a register word of field controller `f`. -/
def State.ffld (s : State) (f off hi lo : Nat) : Nat := fld (s.freg f off) hi lo

/-- The state with bits [hi:lo] of a register word of field controller `f` set. -/
def State.setFfld (s : State) (f off hi lo v : Nat) : State := s.setFreg f off (setFld (s.freg f off) hi lo v)

/-- The register word of the Management Complex at `off`. -/
def State.mreg (s : State) (off : Nat) : Word := RegFile.get mcRows s.mc.regs off

/-- The state with a register word of the Management Complex set. -/
def State.setMreg (s : State) (off : Nat) (v : Word) : State :=
  { s with mc := { s.mc with regs := kvSet s.mc.regs off v } }

/-- Bits [hi:lo] of a register word of the Management Complex. -/
def State.mfld (s : State) (off hi lo : Nat) : Nat := fld (s.mreg off) hi lo

/-- The state with bits [hi:lo] of a register word of the Management Complex set. -/
def State.setMfld (s : State) (off hi lo v : Nat) : State := s.setMreg off (setFld (s.mreg off) hi lo v)

/-! ### Free values -/

/-- The state after a free value has been drawn. -/
def State.drawn (s : State) : State := { s with fresh := s.fresh + 1 }

/-- A free 64-bit value of this state (log entry 2). -/
def State.freeWord (s : State) : DWord := Config.freeWord s.fresh

/-- A free choice below `n` (log entry 2). -/
def State.freeBelow (s : State) (n : Nat) : Nat := if n = 0 then 0 else Config.freeNat s.fresh % n

/-- A status of Table 0.5 that the spec does not name (log entry 2). -/
def State.freeStatus (s : State) : Status := statusCodes.getD (s.freeBelow statusCodes.length) stOk

/-- A status as read from memory: one that Table 0.5 does not list is never produced, and a free one stands for it (00, R18; log entry 2). -/
def listedStatus (s : State) (st : Status) : State × Status := if statusCodes.contains st then (s, st) else (s.drawn, s.freeStatus)

/-- `n` free bytes (log entry 2). -/
def State.freeBytes (s : State) (n : Nat) : List Byte := (List.range n).map (Config.freeByte s.fresh)

/-! ### Outcomes -/

/-- The outcome of a step of the module. -/
abbrev Out := Host.Outcome State Fault Refusal

/-- The number of logical tile selectors of the address layout (R16, Table 0.4). -/
def maxTiles : Nat := 1320

/-- A command on tile `lt`, where that tile selector exists (R16). -/
def onTile (lt : Nat) (s : State) (f : State → State) : Out :=
  if lt < maxTiles then .next (f s) else .fault .noSuchUnit

end Sys2Proof.Machine
end

