-- ==== Sys2Proof/Machine/Topology.lean ====
section
/-!
DEFINITION. Where logical tiles lie in the map in effect (02, R36, R37, R40, R51).
-/
namespace Sys2Proof.Machine

open Sys2Proof

/-- The module ID that stands for this module in a global address (R16): its ID, or 0 while it holds none. -/
def hereId (s : State) : Nat := s.moduleId.getD 0

/-- Whether a global address names this module (R16). -/
def namesThis (s : State) (ga : Nat) : Bool := ga / 2 ^ 48 == hereId s

/-- The global address of a tile of this module (R16). -/
def tileGa (s : State) (lt : Nat) : Nat := hereId s * 2 ^ 48 + lt * 2 ^ 28

/-- Selector of a global address: MA[39:28]. -/
def gaSel (ga : Nat) : Nat := (ga / 2 ^ 28) % 2 ^ 12

/-- Offset of a global address: MA[27:0]. -/
def gaOff (ga : Nat) : Nat := ga % 2 ^ 28

/-- The number of logical tiles that the module presents (R51). -/
def ltCount (s : State) : Nat := s.gesso.counts.foldl (· + ·) 0

/-- Region and index in the region of the logical tile `lt`, by the region counts (R51). -/
def locate : List Nat → Nat → Nat → Nat × Nat
  | [], r, lt => (r, lt)
  | c :: cs, r, lt => if lt < c then (r, lt) else locate cs (r + 1) (lt - c)

/-- The region of a logical tile (R36, R51). -/
def regionOf (s : State) (lt : Nat) : Nat := (locate s.gesso.counts 0 lt).1

/-- The logical tiles of a region (R51). -/
def regionTiles (s : State) (r : Nat) : List Nat :=
  (List.range (s.gesso.counts.getD r 0)).map (fun i => (s.gesso.counts.take r).foldl (· + ·) 0 + i)

/-- Every logical tile of the module. -/
def allTiles (s : State) : List Nat := List.range (ltCount s)

/-- The home position's physical tile of a logical tile (R37, R51). -/
def homeOf (s : State) (lt : Nat) : Nat :=
  let p := locate s.gesso.counts 0 lt
  homePt p.1 ((servedHomes (appliedEntries s.gesso.entries) p.1).getD p.2 p.2)

/-- The physical tile that serves a logical tile (R40). -/
def ptOf (s : State) (lt : Nat) : Nat :=
  let p := locate s.gesso.counts 0 lt
  let h := (servedHomes (appliedEntries s.gesso.entries) p.1).getD p.2 p.2
  (servingPt (appliedEntries s.gesso.entries) p.1 h).getD (homePt p.1 h)

/-- The logical tile that a physical tile serves, if any. -/
def ltOfPt (s : State) (pt : Nat) : Option Nat := (allTiles s).find? (fun lt => ptOf s lt == pt)

/-- The field, and so the field controller, of a logical tile. -/
def fieldOf (s : State) (lt : Nat) : Nat := ptOf s lt / 24

/-- The upper field's controller of a logical tile's region: the region's registers lie there (R16). -/
def regionFc (s : State) (lt : Nat) : Nat := upperField (regionOf s lt)

/-- The state of a region's power: PWR_REG_STATE.STATE (16, R407). -/
def regionState (s : State) (r : Nat) : Nat := s.ffld (upperField r) regPwrRegState 2 0

/-- The state of PLL `n` (17, R424): 0 OFF, 1 STARTING, 2 RUN, 3 SLOW, 4 COAST. -/
def pllState (s : State) (n : Nat) : Nat := s.mfld (regClkPll n) 2 0

/-- Whether the active Management Complex is MC-B (R448). -/
def mcIsB (s : State) : Bool := bit (s.mreg regSecStatus) 0

end Sys2Proof.Machine
end

