-- ==== Sys2Proof/Machine/GessoMap.lean ====
section
/-!
DEFINITION. The Gesso map: state, image bytes, measurement, writing a generation, applying pending entries (02, R38 to R53; 19, R447).
-/
namespace Sys2Proof.Machine

open Sys2Proof

/-! ### Measurement -/

/-- Measurement register `n`, 32 B (19, R447). -/
def mrBytes (s : State) (n : Nat) : List Byte := ((List.range 8).map (fun w => leBytes 4 (s.mreg (regSecMr (8 * n + w))).toNat)).flatten

/-- The state with measurement register `n` set. -/
def setMr (s : State) (n : Nat) (h : List Byte) : State :=
  (List.range 8).foldl (fun st w => st.setMreg (regSecMr (8 * n + w)) (BitVec.ofNat 32 (fieldAt h (4 * w) 4))) s

/-- Measuring a digest into MR `n` (19, R447). -/
def measure (s : State) (n : Nat) (d : List Byte) : State := setMr s n (sha256 (mrBytes s n ++ d))

/-! ### State -/

/-- Whether the map in effect takes a port down. -/
def portMapped (s : State) (p : Nat) : Bool := mapsDown (appliedEntries s.gesso.entries) p

/-- STATE of the module (MGT_GESSO_STATUS): failed by its map, by a map write (R48) or by slot F (R46). -/
def gessoState (s : State) : Nat := if s.gesso.failed then 2 else mapState s.gesso.counts

/-- The physical bank that serves a visible bank under entries: the spare of its last BANK_REMAP, else its own (R39, R47). -/
def bankServing (es : List MapEnt) (pt v : Nat) : Nat :=
  match (es.filter (fun e => e.typ == 4 && e.pt == pt && e.arg0 == v)).getLast? with
  | some e => e.arg1
  | none => v

/-- The physical bank that serves a visible bank: the spare of its last BANK_REMAP, as entries are never removed (R55; 02, R47). -/
def physBank (s : State) (lt b : Nat) : Nat :=
  bankServing (appliedEntries s.gesso.entries) (ptOf s lt) b

/-! ### The image -/

/-- The image in effect: slot F, or the device slot that was accepted or last written (R46). -/
def mapInEffect (s : State) : List Byte :=
  if s.gesso.generation = 0 then s.gesso.slotF else if s.gesso.inD1 then s.gesso.slotD1 else s.gesso.slotD0

/-- The Gesso map hash: SHA-256 of the header and entries of the map in effect (R44). -/
def mapHash (s : State) : List Byte := sha256 (imgSigned (mapInEffect s))

/-- The next generation is written to the other device slot, counter-signed, and measured into MR5 (R44, R46; 19, Table 19.3). -/
def putMap (s : State) (es : List MapEnt) : State :=
  let g := s.gesso
  let b := deviceImage s.sec.dik es (g.generation + 1) (s.mreg regMgtBootCount).toNat (imgWhole g.slotF)
  let g1 := { g with entries := es, generation := g.generation + 1, inD1 := !g.inD1 }
  let s1 := { s with gesso := if g.inD1 then { g1 with slotD0 := b } else { g1 with slotD1 := b } }
  measure s1 5 (mapHash s1)

/-- Whether a write of a map to the boot flash fails, which the spec does not tie to anything: a free choice (R48, R49; log entry 5). -/
def flashFails (s : State) : Bool := s.freeBelow 2 == 1

/-! ### Applying pending entries (R40, R49) -/

/-- The spare banks of a physical tile that are free: not remapped to, not failed. Where both are, a remap takes 64 (DESIGN CHOICE, log entry
54: the spec names no order). -/
def freeSpares (es : List MapEnt) (pt : Nat) : List Nat :=
  [64, 65].filter (fun b => !es.any (fun e => e.pt == pt && ((e.typ == 4 && e.arg1 == b) || (e.typ == 3 && e.arg0 == b))))

/-- The visible bank that a physical bank serves, if it still serves one: a bank already remapped, so recorded twice, does not. -/
def visibleOf (es : List MapEnt) (pt bank : Nat) : Option Nat := (List.range 64).find? (fun v => bankServing es pt v == bank)

/-- A failed bank: its visible bank is remapped to a spare, or the tile is defective (02, R39). -/
def remapBank (boot : Nat) (es : List MapEnt) (e : MapEnt) : List MapEnt :=
  match visibleOf es e.pt e.arg0, freeSpares es e.pt with
  | some v, sp :: _ => es ++ [⟨4, false, false, false, e.pt, v, sp, boot⟩]
  | none, _ => es
  | some _, [] => es ++ [⟨1, false, false, false, e.pt, 5, 0, boot⟩]

/-- The free spare of a region nearest to a home, ties to the lower PT (R40). -/
def nearestSpare (es : List MapEnt) (r pt : Nat) : Option Nat :=
  let used := (List.range 44).filterMap (fun h => subInEffect es (homePt r h))
  let free := (sparePts r).filter (fun sp => !used.contains sp && !recordedBad es sp)
  match free with
  | [] => none
  | a :: q => some (q.foldl (fun m x => if ptDist x pt < ptDist m pt ∨ (ptDist x pt = ptDist m pt ∧ x < m) then x else m) a)

/-- A defective home without a substitution takes a spare (R40). -/
def substitute (boot r : Nat) (es : List MapEnt) (h : Nat) : List MapEnt :=
  let pt := homePt r h
  if recordedBad es pt && (subInEffect es pt).isNone then
    match nearestSpare es r pt with
    | some sp => es ++ [⟨2, false, false, false, pt, sp, h, boot⟩]
    | none => es
  else es

/-- The entries once the pending ones are applied: bank remaps, then substitutions (R49 steps 1 to 3). -/
def applied (boot : Nat) (es : List MapEnt) : List MapEnt :=
  let fresh := es.filter (fun e => e.pending && e.typ == 3)
  let e1 := es.map (fun e => { e with pending := false })
  let e2 := fresh.foldl (remapBank boot) e1
  (List.range 30).foldl (fun e r => (List.range 44).foldl (substitute boot r) e) e2

end Sys2Proof.Machine
end

