-- ==== Sys2Proof/Machine/MeshPath.lean ====
section
/-!
DEFINITION. Links and routes of the on-wafer networks, the routing tables of an epoch, and the status registers that show them (10, R257 to
R261).
-/
namespace Sys2Proof.Machine

open Sys2Proof

/-! ### Links and routes -/

/-- The networks with flits on links (Table 2.6's codes): Bulk Mesh, Neighbour link, Control Mesh. -/
def isMeshNet (n : Nat) : Bool := n == 0 || n == 1 || n == 2

/-- The link code of a network and a direction (Table 2.6). -/
def linkCode (net dir : Nat) : Nat := net + 16 * dir

/-- The key of a link direction: its physical tile and link code. -/
def linkKey (pt code : Nat) : Nat := 256 * pt + code

/-- The position one step in a direction: 0 north, 1 east, 2 south, 3 west (R35, Table 2.6). -/
def stepXY (p : Nat × Nat) (dir : Nat) : Option (Nat × Nat) :=
  match dir with
  | 0 => if p.2 = 0 then none else some (p.1, p.2 - 1)
  | 1 => some (p.1 + 1, p.2)
  | 2 => some (p.1, p.2 + 1)
  | _ => if p.1 = 0 then none else some (p.1 - 1, p.2)

/-- The physical tile in a direction, where there is one (R258). -/
def neighbourPt (pt dir : Nat) : Option Nat :=
  match stepXY (ptXY pt) dir with
  | some q => ptAt q.1 q.2
  | none => none

/-- The link directions out of routing but for the map's: failed, under test, or isolated by a finding (R48, R257; 18, R432). -/
def linksOut (s : State) : List Nat := s.mesh.outLinks ++ s.mesh.isoLinks

/-- Whether a link direction is out: recorded as failed, or taken out of routing (R48; 18, R432). -/
def linkDown (s : State) (pt net dir : Nat) : Bool :=
  (linksOut s).contains (linkKey pt (linkCode net dir)) ||
    s.gesso.entries.any (fun e => e.typ == 6 && e.pt == pt && e.arg0 == linkCode net dir)

/-- The routers of the tiles that took a FATAL are in bypass until the next job load: Bulk Mesh, Control Mesh, Sync Network (18, R426). -/
def fatalRouters (s : State) : List (Nat × Nat) :=
  (s.tiles.filter (fun p => p.2.bypassed)).flatMap (fun p => [0, 2, 3].map (fun n => (ptOf s p.1, n)))

/-- The bypassed routers, by physical tile and network: by a map entry, pending ones too, for a test, or after a FATAL (R42, R48; 18, R426,
R432). -/
def bypassedNow (s : State) : List (Nat × Nat) :=
  (s.gesso.entries.filter (fun e => e.typ == 7)).map (fun e => (e.pt, e.arg0)) ++ s.mesh.outRouters ++ s.mesh.isoRouters ++
    fatalRouters s

/-- Whether the router of a network at a physical tile is bypassed. -/
def routerBypassed (s : State) (pt net : Nat) : Bool := (bypassedNow s).contains (pt, net)

/-- Whether the routers of a region are off: the region is, or its clock (17, R420). -/
def routersOff (s : State) (r : Nat) : Bool := regionState s r == 5 || pllState s (7 + r) == 0

/-- MESH_LINKS of a tile, by its physical position (10, MESH_LINKS). Links come up at boot, when the map is loaded. -/
def meshLinks (s : State) (lt : Nat) : Word :=
  let pt := ptOf s lt
  let up := fun net d => (neighbourPt pt d).isSome && !linkDown s pt net d
  let rep := fun d => s.gesso.entries.any (fun e => e.typ == 5 && e.pt == pt && nfld e.arg0 5 4 == d)
  let byp := fun d => match neighbourPt pt d with
    | some q => routerBypassed s q 0 || routerBypassed s q 2
    | none => false
  if s.gesso.valid then
    bits32 (fun i =>
      match i / 4 with
      | 0 => up 0 (i % 4)
      | 1 => up 2 (i % 4)
      | 2 => up 1 (i % 4)
      | 3 => rep (i % 4)
      | 4 => byp (i % 4)
      | _ => false)
  else 0

/-- The X range of a tile row (R258, Table 10.2). -/
def rowHas (x y : Nat) : Bool := (ptAt x y).isSome

/-- The positions from `a` up to and with `b` along one axis, without `a`. -/
def axisPath (a b : Nat) : List Nat :=
  if a ≤ b then (List.range (b - a)).map (fun i => a + 1 + i) else (List.range (a - b)).map (fun i => a - 1 - i)

/-- The positions of a dimension-ordered path, without the source (R259). -/
def pathOf (src dst : Nat × Nat) : List (Nat × Nat) :=
  if rowHas dst.1 src.2 then
    (axisPath src.1 dst.1).map (fun x => (x, src.2)) ++ (axisPath src.2 dst.2).map (fun y => (dst.1, y))
  else (axisPath src.2 dst.2).map (fun y => (src.1, y)) ++ (axisPath src.1 dst.1).map (fun x => (x, dst.2))

/-- The position at which a path turns, if it does. -/
def turnOf (src dst : Nat × Nat) : Option (Nat × Nat) :=
  if src.1 = dst.1 ∨ src.2 = dst.2 then none
  else some (if rowHas dst.1 src.2 then (dst.1, src.2) else (src.1, dst.2))

/-- The direction of one step of a path. -/
def dirOf (a b : Nat × Nat) : Nat := if b.2 < a.2 then 0 else if a.1 < b.1 then 1 else if a.2 < b.2 then 2 else 3

/-- Whether a router is bypassed in the tables of an epoch. -/
def MeshTab.byp (m : MeshTab) (net : Nat) (p : Nat × Nat) : Bool :=
  match ptAt p.1 p.2 with
  | some pt => m.bypassed.contains (16 * pt + net)
  | none => false

/-- Whether a router is dead: its region is off, or the Selvage tree does not reach it (R261). -/
def MeshTab.dead (m : MeshTab) (net : Nat) (p : Nat × Nat) : Bool :=
  match ptAt p.1 p.2 with
  | some pt => m.off.contains (regionOfField (pt / 24)) || m.lost.contains (16 * pt + net)
  | none => true

/-- Whether the path from a position meets a failed link, a router that is off, or more than two bypassed routers in a row;
`run` counts the bypassed routers just passed (R260). -/
def pathBlocked (m : MeshTab) (net : Nat) : Nat → (Nat × Nat) → List (Nat × Nat) → Bool
  | _, _, [] => false
  | run, a, b :: r =>
    let bad := match ptAt a.1 a.2 with
      | some pt => m.failed.contains (linkKey pt (linkCode net (dirOf a b)))
      | none => true
    let run' := if m.byp net b then run + 1 else 0
    bad || m.dead net b || decide (2 < run') || pathBlocked m net run' b r

/-- Whether a pair of positions is in the source's detour set on a mesh (R260). -/
def isDetour (m : MeshTab) (net : Nat) (src dst : Nat × Nat) : Bool :=
  (match turnOf src dst with | some t => m.byp net t | none => false) || pathBlocked m net 0 src (pathOf src dst)

/-! ### The tables of an epoch -/

/-- The position of the active Management Complex's router. -/
def mcPt (s : State) : Nat := 24 * (if mcIsB s then 35 else 24) + Config.mcPosition (mcIsB s) % 24

/-- The live routers of a mesh (R261). -/
def liveRouters (m : MeshTab) (net : Nat) : List Nat :=
  (List.range 1440).filter (fun pt => !m.byp net (ptXY pt) && !m.dead net (ptXY pt))

/-- The router that a link from `pt` in a direction reaches, past at most two bypassed ones (R42). -/
def linkEnd (m : MeshTab) (net : Nat) : Nat → Nat → Nat → Option Nat
  | 0, _, _ => none
  | fuel + 1, pt, d =>
    if m.failed.contains (linkKey pt (linkCode net d)) then none
    else match neighbourPt pt d with
      | none => none
      | some q => if m.byp net (ptXY q) then linkEnd m net fuel q d else some q

/-- The live routers that a router's links join it to, both ways. -/
def joined (m : MeshTab) (net pt : Nat) : List Nat :=
  [0, 1, 2, 3].filterMap (fun d =>
    match linkEnd m net 3 pt d with
    | some q => if linkEnd m net 3 q ((d + 2) % 4) == some pt && !m.dead net (ptXY q) then some q else none
    | none => none)

/-- A router joins the tree below another, unless the tree holds it. -/
def joinTree (pt : Nat) (t : List (Nat × Nat)) (q : Nat) : List (Nat × Nat) := if t.any (fun x => x.1 == q) then t else t ++ [(q, pt)]

/-- The Selvage tree, each router with its parent, grown from those of `front` in at most `fuel` rounds: breadth first, directions north,
east, south, west (R261; the order is a DESIGN CHOICE, log entry 54). -/
def growTree (m : MeshTab) (net : Nat) : Nat → List (Nat × Nat) → List Nat → List (Nat × Nat)
  | 0, t, _ => t
  | fuel + 1, t, front =>
    let t1 := front.foldl (fun t pt => (joined m net pt).foldl (joinTree pt) t) t
    let next := (t1.drop t.length).map Prod.fst
    if next.isEmpty then t1 else growTree m net fuel t1 next

/-- What the tables of a new epoch rest on (R48, R267): the map with its pending entries, what tests hold out, the routers of tiles after a
FATAL, and the regions that are off or whose clock is. -/
def baseTab (s : State) : MeshTab :=
  { bypassed := (bypassedNow s).map (fun p => 16 * p.1 + p.2)
    failed := (s.gesso.entries.filter (fun e => e.typ == 6)).map (fun e => linkKey e.pt e.arg0) ++ linksOut s
    off := (List.range 30).filter (routersOff s)
    lost := []
    up := [] }

/-- The tables of a new epoch: the Selvage trees of both meshes, rooted at the active Management Complex's router, and the live routers that
they do not reach (R261). -/
def newTab (s : State) : MeshTab :=
  let b := baseTab s
  let tree := fun net => growTree b net 1440 [(mcPt s, mcPt s)] [mcPt s]
  let bulk := tree 0
  let ctrl := tree 2
  let without := fun net (t : List (Nat × Nat)) => ((liveRouters b net).filter (fun pt => !t.any (fun x => x.1 == pt))).map (fun pt => 16 * pt + net)
  let enter := fun net (t : List (Nat × Nat)) (m : KV Nat) => (t.drop 1).foldl (fun m x => kvSet m (16 * x.1 + net) x.2) m
  { b with lost := without 0 bulk ++ without 2 ctrl, up := enter 2 ctrl (enter 0 bulk []) }

/-- A router and those above it in a mesh's Selvage tree. -/
def treeLine (m : MeshTab) (net : Nat) : Nat → Nat → List Nat
  | 0, pt => [pt]
  | fuel + 1, pt =>
    match kvFind m.up (16 * pt + net) with
    | some q => pt :: treeLine m net fuel q
    | none => [pt]

/-- The router below `pt` on the line up from a destination. -/
def belowIn (pt : Nat) : List Nat → Option Nat
  | a :: b :: r => if b = pt then some a else belowIn pt (b :: r)
  | _ => none

/-- The Selvage port table of a router: the next router toward a destination, down where it lies below, else up (R261). -/
def treeNext (m : MeshTab) (net pt dst : Nat) : Option Nat :=
  match belowIn pt (treeLine m net 1440 dst) with
  | some q => some q
  | none => kvFind m.up (16 * pt + net)

/-- MESH_STATUS of a tile: epoch number, FROZEN, and whether its detour set of either mesh holds a pair (R260, R267). -/
def meshStatus (s : State) (lt : Nat) : Word :=
  let src := ptXY (ptOf s lt)
  let detour := (allTiles s).any (fun d => d != lt &&
    (isDetour s.mesh.active 0 src (ptXY (ptOf s d)) || isDetour s.mesh.active 2 src (ptXY (ptOf s d))))
  BitVec.ofNat 32 (s.mesh.epoch % 2 ^ 16 + b2n s.mesh.shadow.isSome * 2 ^ 16 + b2n detour * 2 ^ 17)

end Sys2Proof.Machine
end

