-- ==== Sys2Proof/Machine/RegRead.lean ====
section
/-!
DEFINITION. What a read of a register returns: the word held, with the status fields that follow the machine's state
(R12, R14 and the register tables of every block).
-/
namespace Sys2Proof.Machine

open Sys2Proof

/-- Lane core `n` of a tile. -/
def Tile.lane (t : Tile) (n : Nat) : LaneCore := kvGet LaneCore.reset t.lanes n

/-- Whether a tile is in cluster mode (05, LC_CFG). -/
def Tile.cluster (t : Tile) : Bool := bit (RegFile.get tileRows t.regs regLcCfg) 0

/-- The number of fault records that a tile holds; in cluster mode each medium core counts once (LC_STATUS.FAULTS). -/
def Tile.faultCount (t : Tile) : Nat :=
  (t.lanes.filter (fun p => p.2.frec.valid && (!t.cluster || p.1 % 16 == 0))).length

/-- The power state of a visible bank (03, R65 to R67). -/
def Tile.bank (t : Tile) (b : Nat) : BankSt := kvGet BankSt.on t.banks b

/-- The bytes of a completion record (Table 12.6). -/
def CRec.bytes (r : CRec) : List Byte :=
  leBytes 4 (r.handle % 2 ^ 20 + b2n r.valid * 2 ^ 31) ++ leBytes 1 r.status.toNat ++ leBytes 1 r.kind ++ leBytes 2 0
    ++ leBytes 4 r.progress ++ leBytes 4 r.aon

/-- Queue size of a unit (R105; R281 for the channel transactions): 64, 64, 16, 2, 64. -/
def unitSlots (u : Nat) : Nat :=
  if u = 0 then 64 else if u = 1 then 64 else if u = 2 then 16 else if u = 3 then 2 else if u = 4 then 64 else 0

/-- Slot `n` of unit `u` of a tile. -/
def Tile.slot (t : Tile) (u n : Nat) : Slot := kvGet Slot.reset t.slots (256 * u + n)

/-- A 32-bit word of a byte record. -/
def recWord (bs : List Byte) (w : Nat) : Word := BitVec.ofNat 32 (fieldAt bs (4 * w) 4)

/-- Slot count of a Bolt, by its configuration word (R69, R70). -/
def boltSlots (cfg : Word) : Nat := 2 ^ (fld cfg 8 4 - fld cfg 30 26)

/-- The live grants of a tile. -/
def Tile.liveGrants (t : Tile) : Nat := (t.grants.filter (fun p => p.2.live)).length

/-- The bytes of an error log entry (Table 18.2). -/
def LogEnt.bytes (e : LogEnt) : List Byte :=
  leBytes 4 e.seq ++ leBytes 1 e.cls ++ leBytes 1 e.unitKind ++ leBytes 2 e.pt ++ leBytes 8 e.aon ++ leBytes 4 e.unit
    ++ leBytes 1 e.status.toNat ++ leBytes 1 e.outcome ++ leBytes 2 e.ceWin ++ leBytes 8 e.detail

/-- The words of a Sketchbook record (Table 18.4). -/
def SkbRec.bytes (r : SkbRec) : List Byte :=
  leBytes 4 r.header.toNat ++ leBytes 4 r.seq ++ leBytes 6 r.aon ++ leBytes 2 r.cycle
    ++ (r.words.map (fun w => leBytes 4 w.toNat)).flatten

/-- A word of the records of a recorder, with the page in force (R442). -/
def readRecord (r : Recorder) (page off : Nat) : Word :=
  match kvFind r.recs (512 * page + (off - 0xF0C8000) / 64) with
  | some x => recWord x.bytes (((off - 0xF0C8000) % 64) / 4)
  | none => 0

/-! ### The blocks of a tile -/

/-- LC block (05): the run, stop and fault bits and the fault records. -/
def readLc (t : Tile) (off : Nat) (w : Word) : Word :=
  if regLcRun 0 ≤ off ∧ off < regLcRun 8 then
    bits32 (fun i => (t.lane (32 * ((off - regLcRun 0) / 4) + i)).st == .running)
  else if regLcStopped 0 ≤ off ∧ off < regLcStopped 8 then
    bits32 (fun i => (t.lane (32 * ((off - regLcStopped 0) / 4) + i)).st == .stopped)
  else if regLcFault 0 ≤ off ∧ off < regLcFault 8 then
    bits32 (fun i => (t.lane (32 * ((off - regLcFault 0) / 4) + i)).frec.valid)
  else if off = regLcStatus then setFld w 9 1 t.faultCount
  else if 0xF021000 ≤ off ∧ off < 0xF022000 then
    let r := (t.lane ((off - 0xF021000) / 16)).frec
    match (off % 16) / 4 with
    | 0 => BitVec.ofNat 32 (r.cause.toNat + r.status.toNat * 2 ^ 8 + r.slice.toNat * 2 ^ 16 + b2n r.valid * 2 ^ 31)
    | 1 => r.pc
    | 2 => r.info
    | _ => 0
  else w

/-- MEM block (03): bank power, grants, and the status of Bolts. -/
def readMem (s : State) (lt : Nat) (off : Nat) (w : Word) : Word :=
  let t := s.tile lt
  if off = regMemPwrOn0 then bits32 (fun i => t.bank i == .on || t.bank i == .draining)
  else if off = regMemPwrOn1 then bits32 (fun i => t.bank (32 + i) == .on || t.bank (32 + i) == .draining)
  else if off = regMemPwrStatus then
    setBit w 8 ((List.range 64).any (fun b => t.bank b == .draining || t.bank b == .ramping))
  else if off = regMemRemap then
    let f := fun sp => ((List.range 64).find? (fun b => physBank s lt b == sp)).getD 0x7F
    BitVec.ofNat 32 (f 64 + f 65 * 2 ^ 8)
  else if off = regMemCreditStatus then setFld w 9 0 t.liveGrants
  else if 0xF031000 ≤ off ∧ off < 0xF031800 then
    let b := (off - 0xF031000) / 32
    let cfg := s.treg lt (regBoltCfg b)
    if off = regBoltGranted b then setFld w 26 20 (kvGet [] t.window b).length
    else if off = regBoltStatus b then
      let h := s.tfld lt (regBoltHead b) 19 0
      let c := s.tfld lt (regBoltCommit b) 19 0
      let r := s.tfld lt (regBoltReserve b) 19 0
      let m := 2 * boltSlots cfg
      setBit (setBit w 0 (h == c)) 1 ((r + m - h % m) % m == boltSlots cfg)
    else w
  else w

/-- DMA block (12): items queued and running, and the slot tables. -/
def readDma (t : Tile) (off : Nat) (w : Word) : Word :=
  if off = regDmaStatus then
    setFld (setFld w 6 0 (t.dma.filter (fun i => !i.running)).length) 10 7 (t.dma.filter (fun i => i.running)).length
  else if 0xF048000 ≤ off ∧ off < 0xF04D000 then
    let u := (off - 0xF048000) / 0x1000
    let n := (off % 0x1000) / 16
    if n < unitSlots u then recWord (t.slot u n).crec.bytes ((off % 16) / 4) else 0
  else w

/-- PWR block of a tile (16): the activity counters of Table 16.1, 64 bits each. -/
def readPwr (t : Tile) (off : Nat) (w : Word) : Word :=
  if regPwrCnt 0 ≤ off ∧ off < regPwrCnt 16 then
    wordAt (kvGet 0 t.counters ((off - regPwrCnt 0) / 8)) (((off - regPwrCnt 0) % 8) / 4)
  else w

/-- ME block (06, R169): the engine's queue, buffers and the item that issues rows. -/
def readMe (t : Tile) (off : Nat) (w : Word) : Word :=
  let m := t.me
  if off = regMeStatus then
    setBit (setBit (setBit (setBit (setFld w 6 0 m.items.length) 7 (m.items.any (fun i => i.started))) 8 m.buf0.valid) 9 m.buf1.valid) 10
      (m.active.num == 1)
  else if off = regMeRate then setFld w 6 0 (min (fld w 14 8) (fld w 22 16))
  else if off = regMeCur then
    match m.items.find? (fun i => i.started && i.plane.isSome && decide (i.issued < i.rows)) with
    | some i => BitVec.ofNat 32 (i.slot + i.issued * 2 ^ 8 + 2 ^ 31)
    | none => 0
  else w

/-- RTU block (08, R226). -/
def readRtu (t : Tile) (off : Nat) (w : Word) : Word :=
  if off = regRtuStatus then
    setFld (setBit (setFld w 4 0 (t.rtu.filter (fun i => !i.running)).length) 5 (t.rtu.any (fun i => i.running))) 14 8
      ((t.rtu.map (fun i => i.flying.length)).foldl (· + ·) 0)
  else w

/-- A slot of the Sketch store. -/
def SkStore.slot (k : SkStore) (n : Nat) : SkSlot := kvGet SkSlot.empty k.slots n

/-- CODE_KIB of a slot's image (09, Table 9.1). -/
def SkSlot.codeKib (x : SkSlot) : Nat := if x.st = 0 then 0 else fieldAt x.image 0x0C 1

/-- The tokens that a slot holds in queues and spill Bolts. -/
def SkSlot.tokens (x : SkSlot) : Nat :=
  ((x.queues.map (fun p => p.2.length)) ++ (x.spilled.map (fun p => p.2.length))).foldl (· + ·) 0

/-- SK block (09, R256). -/
def readSk (t : Tile) (off : Nat) (w : Word) : Word :=
  let k := t.sk
  if off = regSkState then
    let a := k.active.getD 0
    let w1 := (List.range 4).foldl (fun w n => setFld w (2 * n + 5) (2 * n + 4) (k.slot n).st) (0 : Word)
    let w2 := setFld (setBit (setFld w1 1 0 a) 2 k.active.isSome) 14 12
      (((List.range 4).map (fun n => (k.slot n).codeKib)).foldl (· + ·) 0)
    setFld (setBit w2 16 k.trigHeld.isSome) 18 17 (k.trigHeld.getD (0, 0, 0)).2.1
  else if regSkSlot 0 ≤ off ∧ off < regSkSlot 4 then
    let x := k.slot ((off - regSkSlot 0) / 4)
    BitVec.ofNat 32 (min x.tokens (2 ^ 24 - 1) + x.gen.toNat * 2 ^ 24)
  else if regSkHistWord 0 ≤ off ∧ off < regSkHistWord 4096 then
    let n := (off - regSkHistWord 0) / 2
    BitVec.ofNat 32 (kvGet 0 k.hist n + kvGet 0 k.hist (n + 1) * 2 ^ 16)
  else w

/-- What a read of tile `lt` at register offset `off` returns. -/
def tileRead (s : State) (lt off : Nat) : Word :=
  let w := s.treg lt off
  let t := s.tile lt
  match off / 0x10000 with
  | 0xF01 => readMe t off w
  | 0xF02 => readLc t off w
  | 0xF03 => readMem s lt off w
  | 0xF04 => readDma t off w
  | 0xF0C => if 0xF0C8000 ≤ off then readRecord t.recorder 0 off else w
  | 0xF0A => readPwr t off w
  | 0xF08 => if off = regMeshStatus then meshStatus s lt else if off = regMeshLinks then meshLinks s lt
    else if regMeshRedDecl 0 ≤ off ∧ off < regMeshRedDecl 64 then s.mreg off else w
  | 0xF0E => readRtu t off w
  | 0xF07 => readSk t off w
  | _ => w

/-- A word of an error log (R428). -/
def readLog (log : KV LogEnt) (off : Nat) : Word :=
  match kvFind log ((off - 0xF0B1000) / 32) with
  | some e => recWord e.bytes ((off % 32) / 4)
  | none => 0

/-- What a read of field controller `f` at register offset `off` returns. -/
def fcRead (s : State) (f off : Nat) : Word :=
  let w := s.freg f off
  let c := s.fc f
  match off / 0x10000 with
  | 0xF0B =>
    if 0xF0B1000 ≤ off ∧ off < 0xF0B1000 + 32 * 64 then readLog c.log off
    else if off = regRasStStatus then
      setFld (setBit (setFld w 4 0 (c.tests.filter (fun j => !j.running && !j.deferred)).length) 5
        (c.tests.any (fun j => j.running))) 24 16 c.history.length
    else w
  | 0xF0C => if 0xF0C8000 ≤ off then readRecord c.recorder 0 off else w
  | 0xF0A => if upperField (regionOfField f) = f ∨ regPwrTemp 0 ≤ off ∧ off < regPwrTemp 16 then w else 0
  | 0xF10 => if off = regFabPortCfg 0 ∨ off = regFabPortCfg 1 then
      setBit w 1 (s.fab.routes.any (fun t => nbit t.dateline (2 * f + (off - regFabPortCfg 0) / 64))) else w
  | 0xF08 => if off = regStudyDrop then setFld w 20 16 (kvGet Region.reset s.regions (regionOfField f)).samples.length else w
  | _ => w

/-- Fabric ports in state UP (14, FAB_STATUS). -/
def portsUp (s : State) : Nat := (List.range 120).countP (fun p => s.ffld (p / 2) (regFabPortStatus (p % 2)) 2 0 == 3)

/-- MGT block (02, R53; 20, R481): the map in effect and its tests. PORTS_DOWN counts the ports that entries in effect take down, and no others
(DESIGN CHOICE, log entry 54). -/
def readMgt (s : State) (off : Nat) (w : Word) : Word :=
  let g := s.gesso
  let pend := g.entries.countP (fun e => e.pending)
  if off = regMgtGessoStatus then
    BitVec.ofNat 32 ((if g.valid then ltCount s else 0) + gessoState s * 2 ^ 11 + b2n (0 < pend) * 2 ^ 13 + b2n g.factoryOnly * 2 ^ 14 +
      b2n g.valid * 2 ^ 15 + (if g.valid then (List.range 120).countP (portMapped s) else 0) * 2 ^ 16)
  else if off = regMgtGessoGen then BitVec.ofNat 32 g.generation
  else if off = regMgtGessoCtrl then setFld (setBit w 1 g.fullBusy) 31 16 pend
  else if regMgtRegionTiles 0 ≤ off ∧ off < regMgtRegionTiles 8 ∧ g.valid = true then
    let n := off - regMgtRegionTiles 0
    BitVec.ofNat 32 (g.counts.getD n 0 + g.counts.getD (n + 1) 0 * 2 ^ 8 + g.counts.getD (n + 2) 0 * 2 ^ 16 + g.counts.getD (n + 3) 0 * 2 ^ 24)
  else w

/-- FAB block of the Management Complex (14, R379): the ID, the table in effect, the transactions outstanding. -/
def readFab (s : State) (off : Nat) (w : Word) : Word :=
  if off = regFabId then BitVec.ofNat 32 (s.moduleId.getD 0 % 2 ^ 16 + b2n s.moduleId.isSome * 2 ^ 16)
  else if off = regFabStatus then
    BitVec.ofNat 32 (portsUp s + b2n s.fab.routes.isSome * 2 ^ 7 + b2n s.fab.swapping * 2 ^ 8 + (s.fab.routes.map (fun t => t.version)).getD 0 % 2 ^ 16 * 2 ^ 16)
  else if off = regFabXact then
    BitVec.ofNat 32 (((List.range 1320).map (fun lt => s.mfld (regFabUse lt) 16 0)).foldl (· + ·) 0)
  else w

/-- CLK block (17, R424): the AON count, its high word as latched. -/
def readClk (s : State) (off : Nat) (w : Word) : Word :=
  if off = regClkAonLo then wordAt s.aon 0 else if off = regClkAonHi then s.sec.aonHi else w

/-- SEC block (19, R463). -/
def readSec (s : State) (off : Nat) (w : Word) : Word :=
  if off = regSecStatus then
    setFld (setBit (setBit (setBit w 2 s.sec.policy) 3 (!s.sec.isk.isEmpty)) 5 Config.pqRequired) 7 6 (s.flash.owners.length - 1)
  else if off = regSecUnlockCtrLo then wordAt s.sec.unlockCtr.toNat 0
  else if off = regSecUnlockCtrHi then s.sec.unlockHi
  else w

/-- HOST block (20, R481): QPs and streams of a port. Each stream takes one QP. -/
def readHost (s : State) (off : Nat) (w : Word) : Word :=
  if off = regHostPortStatus 0 ∨ off = regHostPortStatus 1 then
    let n := s.mgt.streams.countP (fun p => regHostPortStatus p.2.port == off)
    setFld (setFld w 12 4 n) 24 16 n
  else w

/-- What a read of the Management Complex at register offset `off` returns. -/
def mcRead (s : State) (off : Nat) : Word :=
  let w := s.mreg off
  match off / 0x10000 with
  | 0xF0B => if 0xF0B1000 ≤ off ∧ off < 0xF0B1000 + 32 * 1024 then readLog s.mc.log off else w
  | 0xF0C => if 0xF0C8000 ≤ off then readRecord s.mc.recorder (s.mfld regSkbCfg 3 1) off else w
  | 0xF09 =>
    let o := kvGet SyncObj.unused s.objs (s.mfld regSyncObjSel 13 0)
    if off = regSyncObjState then BitVec.ofNat 32 (o.count % 2 ^ 21 + b2n o.stale * 2 ^ 21 + b2n o.broken * 2 ^ 22)
    else if off = regSyncObjValue then o.value
    else w
  | 0xF00 => readMgt s off w
  | 0xF10 => readFab s off w
  | 0xF11 => readClk s off w
  | 0xF12 => readSec s off w
  | 0xF13 => readHost s off w
  | _ => w

/-! ### Selectors -/

/-- Where a selector of a module address leads (R16, Table 0.4). -/
inductive Target where
  | tile (lt : Nat)
  | fc (f : Nat)
  | mc
deriving DecidableEq, Repr

/-- The target of a selector; none where it is reserved, or where it names the Management Complex that is not active
(R16, R17, R51). -/
def targetOf (s : State) (sel : Nat) : Option Target :=
  if sel < ltCount s then some (.tile sel)
  else if 0x800 ≤ sel ∧ sel ≤ 0x83B then some (.fc (sel - 0x800))
  else if sel = 0xC00 then some .mc
  else if sel = 0xC01 then (if mcIsB s then none else some .mc)
  else if sel = 0xC02 then (if mcIsB s then some .mc else none)
  else none

/-- Whether a register block exists at offset `off` under a target (R16, Table 0.4). -/
def blockExists (tg : Target) (off : Nat) : Bool :=
  let b := off / 0x10000
  match tg with
  | .tile _ => 0xF00 ≤ b && b ≤ 0xF0E
  | .fc f => b == 0xF0A || b == 0xF0B || b == 0xF0C || b == 0xF10 || (b == 0xF08 && upperField (regionOfField f) == f)
  | .mc => b == 0xF00 || b == 0xF09 || b == 0xF0A || b == 0xF0B || b == 0xF0C || b == 0xF10 || b == 0xF11 || b == 0xF12
      || b == 0xF13

/-- What a read of a register of a target returns, without the side effects that a few reads have. -/
def regRead (s : State) (tg : Target) (off : Nat) : Word :=
  match tg with
  | .tile lt => tileRead s lt off
  | .fc f => fcRead s f off
  | .mc => mcRead s off

end Sys2Proof.Machine
end

