-- ==== Sys2Proof/Machine/Skb.lean ====
section
/-!
DEFINITION. The Sketchbook: taking a trigger, sampling its words, writing records (18, R437 to R442).
-/
namespace Sys2Proof.Machine

open Sys2Proof

/-- Region `r`. -/
def State.region (s : State) (r : Nat) : Region := kvGet Region.reset s.regions r

/-- The state with region `r` changed by `f`. -/
def State.modRegion (s : State) (r : Nat) (f : Region → Region) : State :=
  { s with regions := kvSet s.regions r (f (s.region r)) }

/-- The register word held under a target. -/
def rget (s : State) (tg : Target) (off : Nat) : Word :=
  match tg with
  | .tile lt => s.treg lt off
  | .fc f => s.freg f off
  | .mc => s.mreg off

/-- The state with the register word under a target set. -/
def rset (s : State) (tg : Target) (off : Nat) (v : Word) : State :=
  match tg with
  | .tile lt => s.setTreg lt off v
  | .fc f => s.setFreg f off v
  | .mc => s.setMreg off v

/-- The state with bits [hi:lo] of a register under a target set. -/
def rsetFld (s : State) (tg : Target) (off hi lo v : Nat) : State :=
  rset s tg off (setFld (rget s tg off) hi lo v)

/-- The recorder of a target. -/
def recorderOf (s : State) (tg : Target) : Recorder :=
  match tg with
  | .tile lt => (s.tile lt).recorder
  | .fc f => (s.fc f).recorder
  | .mc => s.mc.recorder

/-- The state with the recorder of a target replaced. -/
def setRecorder (s : State) (tg : Target) (r : Recorder) : State :=
  match tg with
  | .tile lt => s.modTile lt (fun t => { t with recorder := r })
  | .fc f => s.modFc f (fun c => { c with recorder := r })
  | .mc => { s with mc := { s.mc with recorder := r } }

/-- The number of records of a recorder (18, the Sketchbook). -/
def recorderSize (tg : Target) : Nat :=
  match tg with
  | .mc => 4096
  | _ => 512

/-- The count of region cycles of a tile since its last reset (R109). -/
def tileCycles (s : State) (lt : Nat) : Nat := (s.region (regionOf s lt)).cycles - (s.tile lt).cycleBase

/-- The cycle count that a record takes: TILE_CYCLE, or the MGMT count (Table 18.4). -/
def recorderCycle (s : State) (tg : Target) : Nat :=
  match tg with
  | .tile lt => tileCycles s lt % 2 ^ 16
  | _ => s.mgmtCycles % 2 ^ 16

/-- The word that a selection entry takes: zero where it is disabled or names no block (R440). -/
def sampleWord (s : State) (tg : Target) (sel : Word) : Word :=
  let off := 0xF000000 + 4 * fld sel 19 2
  if bit sel 0 && blockExists tg off then regRead s tg off else 0

/-- Whether FREEZE stops a recorder from taking one more trigger (R441). -/
def skbFull (s : State) (tg : Target) : Bool :=
  bit (rget s tg regSkbCfg) 0 &&
    decide (recorderSize tg <
      ((rget s tg regSkbHead).toNat + (recorderOf s tg).queue.length + 1 + 2 ^ 32 - (rget s tg regSkbTail).toNat) % 2 ^ 32)

/-- Whether a recorder takes a trigger now: its queue of 8 has room, and FREEZE does not stop it (R441). -/
def skbTakes (s : State) (tg : Target) : Bool := decide ((recorderOf s tg).queue.length < 8) && !skbFull s tg

/-- A trigger `id` with snapshot `words` is taken into the recorder's queue, or lost (R441). -/
def skbQueue (s : State) (tg : Target) (id : Nat) (words : List Word) : State :=
  let r := recorderOf s tg
  let n := satInc 16 (kvGet 0 r.fired id)
  let r := { r with fired := kvSet r.fired id n }
  if r.queue.length ≥ 8 then
    rsetFld (setRecorder s tg r) tg regSkbLost 15 0 (satInc 16 (fld (rget s tg regSkbLost) 15 0))
  else if skbFull s tg then
    rsetFld (setRecorder s tg r) tg regSkbLost 31 16 (satInc 16 (fld (rget s tg regSkbLost) 31 16))
  else
    setRecorder s tg { r with queue := r.queue ++
      [{ id := id, count := n, aon := s.aon % 2 ^ 48, cycle := recorderCycle s tg, words := words }] }

/-- Programmable trigger `n` is taken with the words of its own selection (R440). -/
def skbProg (s : State) (tg : Target) (n : Nat) : State :=
  skbQueue s tg (0x40 + n) ((List.range 12).map (fun w => sampleWord s tg (rget s tg (regSkbSel n + 4 * w))))

/-- Hardware event `id` with arguments `args` is taken, and where it is recorded every enabled programmable trigger whose COND names it follows
it (R439, R440). -/
def skbEvent (s : State) (tg : Target) (id : Nat) (args : List Nat) : State :=
  let ws := args.map (BitVec.ofNat 32)
    ++ (List.range (12 - args.length)).map (fun w => sampleWord s tg (rget s tg (regSkbEvsel w)))
  let s1 := skbQueue s tg id ws
  if !skbTakes s tg then s1
  else (List.range 16).foldl (fun st n =>
    let tr := rget st tg (regSkbTrig n)
    if bit tr 0 && fld tr 2 1 == 2 && fld tr 15 8 == id then skbProg st tg n else st) s1

/-- The next queued record is written to the recorder (R437, R438). -/
def skbWrite (s : State) (tg : Target) : State :=
  let r := recorderOf s tg
  match r.queue with
  | [] => s
  | x :: rest =>
    let seq := (rget s tg regSkbHead).toNat
    let h := BitVec.ofNat 32 (1 + x.id * 2 ^ 8 + x.count * 2 ^ 16)
    let rc : SkbRec := { header := h, seq := seq, aon := x.aon, cycle := x.cycle, words := x.words }
    rset (setRecorder s tg { r with queue := rest, recs := kvSet r.recs (seq % recorderSize tg) rc }) tg regSkbHead
      (BitVec.ofNat 32 (seq + 1))

end Sys2Proof.Machine
end

