-- ==== Sys2Proof/Machine/Ras.lean ====
section
/-!
DEFINITION. Errors: classing, logging, targeted tests, and the findings that reach the Gesso map (18, R425 to R435;
02, R48).
-/
namespace Sys2Proof.Machine

open Sys2Proof

/-- The generations of the sealing key that SEC SRAM holds (19, R458). -/
def heldIsk (s : State) : List (Nat × List Byte) := s.sec.isk

/-- The log of a field controller or of the Management Complex. -/
def logOf (s : State) (tg : Target) : KV LogEnt :=
  match tg with
  | .fc f => (s.fc f).log
  | .mc => s.mc.log
  | .tile _ => []

/-- The state with a log replaced. -/
def setLog (s : State) (tg : Target) (l : KV LogEnt) : State :=
  match tg with
  | .fc f => s.modFc f (fun c => { c with log := l })
  | .mc => { s with mc := { s.mc with log := l } }
  | .tile _ => s

/-- The size of a log (18, Error logs). -/
def logSize (tg : Target) : Nat :=
  match tg with
  | .mc => 1024
  | _ => 64

/-- The sequence number that the next entry of a log takes. -/
def nextSeq (s : State) (tg : Target) : Nat := (rget s tg regRasLogHead).toNat

/-- A message of the Lerux Control Protocol: its 16 B header and its body (20, R477). -/
def lcpMsg (typ result req detail : Nat) (body : List Byte) : List Byte :=
  leBytes 2 typ ++ leBytes 2 result ++ leBytes 4 req ++ leBytes 4 body.length ++ leBytes 4 detail ++ body

/-- An EVENT notice goes out on every connection (20, Table 20.10). -/
def lcpEvent (s : State) (body : List Byte) : State :=
  { s with replies := s.replies ++ s.mgt.conns.map (fun c => ⟨c.id, 0, lcpMsg 0x4001 0 0 0 body⟩) }

/-- A UE or FATAL entry of the Management Complex log is copied in an EVENT notice (20, Table 20.10). -/
def eventCopy (s : State) (tg : Target) (e : LogEnt) : State := if tg == .mc && 2 ≤ e.cls then lcpEvent s e.bytes else s

/-- An entry is written to a log ring; a full log keeps it only in place of a CE or RESULT entry (R428). -/
def logAppend (s0 : State) (tg : Target) (e : LogEnt) : State :=
  let s := eventCopy s0 tg { e with seq := (rget s0 tg regRasLogHead).toNat, aon := s0.aon % 2 ^ 48 }
  let head := (rget s tg regRasLogHead).toNat
  let tail := (rget s tg regRasLogTail).toNat
  let e := { e with seq := head, aon := s.aon % 2 ^ 48 }
  let put := fun st : State => rset (setLog st tg (kvSet (logOf st tg) (head % logSize tg) e)) tg regRasLogHead
    (BitVec.ofNat 32 (head + 1))
  if (head + 2 ^ 32 - tail) % 2 ^ 32 < logSize tg then put s
  else
    match kvFind (logOf s tg) (tail % logSize tg) with
    | some old =>
      if e.cls ≥ 2 && old.cls ≤ 1 then
        let s1 := rset (put s) tg regRasLogTail (BitVec.ofNat 32 (tail + 1))
        rsetFld s1 tg regRasLogStatus 15 1 (satInc 15 (fld (rget s1 tg regRasLogStatus) 15 1))
      else
        rset s tg regRasLogStatus (setBit (setFld (rget s tg regRasLogStatus) 31 16
          (satInc 16 (fld (rget s tg regRasLogStatus) 31 16))) 0 true)
    | none => put s

/-- A log entry before its sequence number and time are put in (Table 18.2). -/
def logEnt (cls unitKind pt unit : Nat) (status : BitVec 8) (outcome ceWin detail : Nat) : LogEnt :=
  ⟨0, cls, unitKind, pt, 0, unit, status, outcome, ceWin, detail⟩

/-- The physical tile number of units outside tiles (Table 18.2). -/
def noPt : Nat := 0xFFFF

/-- The field controller that records an error of a unit outside tiles: that of the unit's field, where the unit lies in one; else that of the
active Management Complex's field (Table 18.5; DESIGN CHOICE, log entry 54). -/
def errorFc (s : State) (unitKind pt unit : Nat) : Nat :=
  match unitKind with
  | 9 => unit
  | 12 => if unit < 120 then unit / 2 else mcPt s / 24
  | 15 => if unit < 30 then upperField unit else mcPt s / 24
  | _ => if pt < 1440 then pt / 24 else mcPt s / 24

/-- The event ERROR_LOGGED in the recorder of the tile that a physical tile serves, or of a field controller for a unit outside tiles
(Table 18.5). -/
def errorEvent (s : State) (tg : Target) (unitKind pt seq cls detail : Nat) : State :=
  skbEvent s tg 0x01 [seq, cls + unitKind * 2 ^ 8 + pt * 2 ^ 16, detail % 2 ^ 32, detail / 2 ^ 32]

/-- An entry of the Management Complex log for a module-level event (18, Error logs); a UE or FATAL is recorded (Table 18.5). -/
def mcLog (s : State) (cls unitKind pt unit : Nat) (status : BitVec 8) (detail : Nat) : State :=
  let s1 := logAppend s .mc (logEnt cls unitKind pt unit status 0 0 detail)
  if 2 ≤ cls then errorEvent s1 (.fc (errorFc s unitKind pt unit)) unitKind pt (nextSeq s .mc) cls detail else s1

/-- An entry of the Management Complex log whose class the spec does not state (18, Error logs): the class is a free value. -/
def mcNote (s : State) (unitKind pt unit detail : Nat) : State := mcLog s.drawn (s.freeBelow 4) unitKind pt unit 0 detail

/-- An event of which every connection is told, whatever the class of its log entry (20, Table 20.10). -/
def mcEvent (s : State) (unitKind pt unit detail : Nat) : State :=
  let c := s.freeBelow 4
  let e := { logEnt c unitKind pt unit 0 0 0 detail with seq := nextSeq s .mc, aon := s.aon % 2 ^ 48 }
  let s1 := mcLog s.drawn c unitKind pt unit 0 detail
  if 2 ≤ c then s1 else lcpEvent s1 e.bytes

/-- An alert cause becomes pending: ALERT_N falls, and an in-band interrupt is raised in I3C mode (20, R468, Table 20.4). -/
def raiseAlert (s : State) (i : Nat) : State :=
  let s1 := { s with mgt := { s.mgt with alerts := s.mgt.alerts ||| 2 ^ i } }
  if s.mgt.i3c.isSome && s.mgt.ibi then { s1 with replies := s1.replies ++ [⟨5, 1, leBytes 2 (2 ^ i)⟩] } else s1

/-- The module enters failed state, of which alert cause 2 tells (02, R53; 20, Table 20.4). -/
def failState (s : State) : State := raiseAlert (s.setMfld regMgtBootStatus 6 6 1) 2

/-- Whether a unit of this kind has a targeted test (R431, R432). -/
def hasTest (kind : Nat) : Bool := 1 ≤ kind && kind ≤ 7

/-! ### Findings -/

/-- A placement group whose tiles the Management Complex must halt (R327). -/
def haltGroup (s : State) (g : Nat) : State :=
  if s.haltGroups.contains g then s else { s with haltGroups := s.haltGroups ++ [g] }

/-- The placement group of a logical tile (R327: group 0 where the image names none). -/
def groupOfTile (s : State) (lt : Nat) : Nat := kvGet 0 s.tileGroups lt

/-- The tile is isolated until the next job load and its placement group is to be halted (R34, R48). -/
def isolateTile (s : State) (lt : Nat) : State :=
  haltGroup ((s.modTile lt (fun t => { t with isolated := true })).setTbit lt regRasTileStatus 18 true)
    (groupOfTile s lt)

/-- Steps 1 to 3 of Table 10.4: the new tables are computed and written as shadow tables, injection freezes, and a tile
whose router cannot be reached is isolated (10, R261, R267). -/
def startEpoch (s : State) : State :=
  let m := newTab s
  ((m.lost.map (· / 16)).eraseDups).foldl (fun st pt =>
    match ltOfPt st pt with
    | some lt => isolateTile st lt
    | none => st) { s with mesh := { s.mesh with shadow := some m } }

/-- A finding takes its unit out of use at once (R48): a bank, a tile; a link, a router or a port until the next job load. A link
or a router leaves routing at an epoch that starts then (10, R267). -/
def isolateUnit (s : State) (typ pt arg0 : Nat) : State :=
  let s0 := if typ = 8 then { s with gesso := { s.gesso with isoPorts := s.gesso.isoPorts ++ [arg0] } }
    else if typ = 5 ∨ typ = 6 then { s with mesh := { s.mesh with isoLinks := s.mesh.isoLinks.insert (linkKey pt arg0) } }
    else if typ = 7 then { s with mesh := { s.mesh with isoRouters := s.mesh.isoRouters.insert (pt, arg0) } }
    else s
  let s1 := if 5 ≤ typ ∧ typ ≤ 7 then startEpoch s0 else s0
  match ltOfPt s1 pt with
  | none => s1
  | some lt =>
    if typ = 3 then
      (s1.modTile lt (fun t => { t with isoBanks := t.isoBanks ++ [arg0] })).setTbit lt regRasTileStatus 18 true
    else if typ = 1 then isolateTile s1 lt
    else s1.setTbit lt regRasTileStatus 18 true

/-- The map in effect is written to the other device slot with the next generation, and the write is logged (R46; 18, Error logs); false
where the image would pass 4,096 entries or the flash write fails (R48). -/
def writeMap (s : State) (es : List MapEnt) : State × Bool :=
  if 4096 < es.length ∨ flashFails s = true then (s.drawn, false)
  else
    let s1 := putMap s.drawn es
    (mcNote s1 16 noPt 0 s1.gesso.generation, true)

/-- An entry that could not be written: it is recorded in no map, a UE tells of it, and the module fails (R48). -/
def unwritten (s : State) (e : MapEnt) : State :=
  let s1 := mcLog s 2 16 e.pt e.typ 0 (e.arg0 + e.arg1 * 2 ^ 32)
  failState { s1 with gesso := { s1.gesso with failed := true } }

/-- The entry of a finding, PENDING (R48). A lane is repaired on the Bulk Mesh and Neighbour links only: elsewhere its link has failed
(Table 2.6). -/
def pendingEntry (s : State) (typ pt arg0 arg1 : Nat) (transients : Bool) : MapEnt :=
  let boot := (s.mreg regMgtBootCount).toNat
  if typ = 5 ∧ 2 ≤ arg0 % 16 then ⟨6, true, false, transients, pt, arg0, 0, boot⟩ else ⟨typ, true, false, transients, pt, arg0, arg1, boot⟩

/-- A finding becomes a pending entry and isolates its unit; where it cannot be written the module fails (R48). -/
def gessoFinding (s : State) (typ pt arg0 arg1 : Nat) (transients : Bool) : State :=
  let e := pendingEntry s typ pt arg0 arg1 transients
  let p := writeMap (isolateUnit s e.typ e.pt e.arg0) (s.gesso.entries ++ [e])
  if p.2 then p.1 else unwritten p.1 e

/-- The map entry of a lasting unit (R435): type, PT, ARG0, ARG1. `lane` is the failing lane's group and lane, where a
link test found one whose spare is free. -/
def lastingEntry (u : UnitId) (lane : Option Nat) : Option (Nat × Nat × Nat × Nat) :=
  match u.kind with
  | 1 => some (3, u.pt, u.num, 0)
  | 2 | 3 => some (1, u.pt, 3, 0)
  | 4 => match lane with
    | some l => if u.num % 16 < 2 then some (5, u.pt, u.num, l) else some (6, u.pt, u.num, 0)
    | none => some (6, u.pt, u.num, 0)
  | 5 => some (7, u.pt, u.num, 0)
  | 6 => some (1, u.pt, 1, 0)
  | 7 => some (1, u.pt, 2, 0)
  | _ => none

/-- A unit is lasting: it becomes a pending entry (R435). -/
def makeLasting (s : State) (u : UnitId) (lane : Option Nat) (outcome : Nat) : State :=
  match lastingEntry u lane with
  | some (t, pt, a0, a1) => gessoFinding s t pt a0 a1 (outcome == 4)
  | none => s

/-! ### Reporting an error -/

/-- Count a CE of a unit in its window; answers the count (R430). -/
def ceWindow (s : State) (f : Nat) (u : UnitId) : State × Nat :=
  let len := 2 ^ s.ffld f regRasCeCfg 12 8
  let ws := (s.fc f).ceWins
  match ws.find? (fun w => w.unit == u) with
  | some w =>
    let w' : CeWin := if s.aon < w.start + len then { w with count := w.count + 1 } else { w with start := s.aon, count := 1 }
    (s.modFc f (fun c => { c with ceWins := ws.map (fun x => if x.unit == u then w' else x) }), w'.count)
  | none => (s.modFc f (fun c => { c with ceWins := ws ++ [{ unit := u, start := s.aon, count := 1 }] }), 1)

/-- The CEs of a unit in the window that is open now: CE_WIN of an entry (Table 18.2). -/
def ceNow (s : State) (f : Nat) (u : UnitId) : Nat :=
  match (s.fc f).ceWins.find? (fun w => w.unit == u) with
  | some w => if s.aon < w.start + 2 ^ s.ffld f regRasCeCfg 12 8 then w.count else 0
  | none => 0

/-- Change RAS_TILE_STATUS of the logical tile that a physical tile serves. -/
def onRasTile (s : State) (pt : Nat) (f : Word → Word) : State :=
  match ltOfPt s pt with
  | some lt => s.setTreg lt regRasTileStatus (f (s.treg lt regRasTileStatus))
  | none => s

/-- A test of a unit ended or was abandoned (18, RAS_TILE_STATUS): ST_DONE where it `ended`, and TESTING while another test runs on the tile. -/
def markTests (s : State) (u : UnitId) (ended : Bool) : State :=
  let more := (s.fc (u.pt / 24)).tests.any (fun k => k.running && k.unit.pt == u.pt)
  onRasTile s u.pt (fun w => setBit (if ended then setBit w 17 true else w) 19 more)

/-- The end of a test is logged as a RESULT entry, an event is recorded in the field controller, and the tile is told (R433). An abandoned one
has not ended for ST_DONE: it runs again (R429; DESIGN CHOICE, log entry 54). -/
def testEnded (s : State) (f : Nat) (j : TestJob) (outcome dur : Nat) : State :=
  let u := j.unit
  let s1 := logAppend s (.fc f) (logEnt 0 u.kind u.pt u.num 0 outcome (ceNow s f u) (j.seq % 2 ^ 32 + dur % 2 ^ 32 * 2 ^ 32))
  markTests (skbEvent s1 (.fc f) 0x02 [j.seq, u.kind + outcome * 2 ^ 8 + u.pt * 2 ^ 16, u.num, dur]) u (outcome != 8)

/-- Queue a targeted test; true where the queue had room (R430). -/
def queueTest (s : State) (f : Nat) (j : TestJob) : State × Bool :=
  if ((s.fc f).tests.filter (fun x => !x.running && !x.deferred)).length < 16 then
    (s.modFc f (fun c => { c with tests := c.tests ++ [j] }), true)
  else (s, false)

/-- A corrected error of a unit: counted, logged, and a test started when the window reaches the threshold (R426, R430,
R432). -/
def reportCE (s : State) (f : Nat) (u : UnitId) (detail : Nat) : State :=
  let (s1, n) := ceWindow s f u
  let s2 := onRasTile s1 u.pt (fun w => setFld w 15 0 (satInc 16 (fld w 15 0)))
  let th := s2.ffld f regRasCeCfg 7 0
  let seq := nextSeq s2 (.fc f)
  let ent : Nat → LogEnt := fun o => logEnt 1 u.kind u.pt u.num 0 o n detail
  if th ≠ 0 ∧ n = th ∧ hasTest u.kind = true then
    if u.kind = 6 ∨ u.kind = 7 then
      logAppend (s2.modFc f (fun c => { c with tests := c.tests ++
        [⟨u, seq, false, false, true⟩] })) (.fc f) (ent 7)
    else
      match queueTest s2 f ⟨u, seq, false, false, false⟩ with
      | (s3, true) => logAppend s3 (.fc f) (ent 1)
      | (s3, false) =>
        logAppend (s3.setFfld f regRasStStatus 15 8 (satInc 8 (s3.ffld f regRasStStatus 15 8))) (.fc f) (ent 0)
  else logAppend s2 (.fc f) (ent 0)

/-- An uncorrected or fatal error is logged in the field controller and copied to the Management Complex log (R426). -/
def logBoth (s : State) (f : Nat) (u : UnitId) (cls : Nat) (status : BitVec 8) (outcome detail : Nat) : State :=
  let e : LogEnt := logEnt cls u.kind u.pt u.num status outcome (ceNow s f u) detail
  let tg : Target := match ltOfPt s u.pt with
    | some lt => .tile lt
    | none => .fc f
  errorEvent (logAppend (logAppend s (.fc f) e) .mc e) tg u.kind u.pt (nextSeq s (.fc f)) cls detail

/-- An uncorrected error of a unit (R426, R430, R434): logged, copied, marked on the tile, and its test queued; a second
one during the unit's own test, which ends there after a time that the spec does not give (a free value), or one that finds the queue full,
makes the unit lasting. -/
def reportUE (s : State) (f : Nat) (u : UnitId) (status : BitVec 8) (detail : Nat) : State :=
  let s0 := onRasTile s u.pt (fun w => setBit w 16 true)
  let seq := nextSeq s0 (.fc f)
  if !hasTest u.kind then logBoth s0 f u 2 status 0 detail
  else
    match (s0.fc f).tests.find? (fun j => j.unit == u && j.running) with
    | some j =>
      let s1 := s0.modFc f (fun c => { c with tests := c.tests.filter (fun j => !(j.unit == u && j.running)) })
      let s2 := logBoth s1 f u 2 status 5 detail
      makeLasting (testEnded s2.drawn f j 5 (s2.freeBelow (2 ^ 32))) u none 5
    | none =>
      match queueTest s0 f ⟨u, seq, true, false, false⟩ with
      | (s1, true) => logBoth s1 f u 2 status 1 detail
      | (s1, false) => makeLasting (logBoth s1 f u 2 status 6 detail) u none 6

/-- A FATAL error in a tile (R426, R429, R432): logged and copied; the tile's running tests are abandoned with OUTCOME 8, after times that the
spec does not give (free values), and deferred; the test of a core that failed runs at once; machine check becomes due, the tile is isolated, and
its routers go to bypass. `software` marks a FATAL that arises from software. -/
def reportFatal (s : State) (lt : Nat) (u : UnitId) (software : Bool) (detail : Nat) : State :=
  let f := u.pt / 24
  let hit := (s.fc f).tests.filter (fun j => j.unit.pt == u.pt && j.running)
  let s0 := s.modFc f (fun c => { c with tests := c.tests.map (fun j =>
    if j.unit.pt == u.pt && j.running then { j with running := false, deferred := true } else j) })
  let s1 := hit.foldl (fun st j => testEnded st.drawn f j 8 (st.freeBelow (2 ^ 32))) s0
  let seq := nextSeq s1 (.fc f)
  let test := !software && (u.kind == 6 || u.kind == 7)
  let s2 := logBoth s1 f u 3 0 (if test then 1 else 0) detail
  let s3 := if test then s2.modFc f (fun c => { c with tests := c.tests ++
    [⟨u, seq, true, true, false⟩] }) else s2
  let s4 := if test || !hit.isEmpty then markTests s3 u false else s3
  startEpoch (isolateTile (s4.modTile lt (fun t => { t with fatal := true, bypassed := true })) lt)

end Sys2Proof.Machine
end

