-- ==== Sys2Proof/Machine/Mem.lean ====
section
/-!
DEFINITION. Tile memory: bytes in one canonical form, banks and their power, error correction (03, R55 to R68).
-/
namespace Sys2Proof.Machine

open Sys2Proof

/-! ### Bytes -/

/-- What an address that a memory does not list reads as (log entry 3). -/
def memDefault : Byte := 0

/-- The byte at an address. -/
def memGet : Memory → Nat → Byte
  | [], _ => memDefault
  | (a, b) :: r, x => if a = x then b else if x < a then memDefault else memGet r x

/-- The memory with a byte written; writing what an unlisted address reads as takes the entry out. -/
def memSet : Memory → Nat → Byte → Memory
  | [], x, v => if v = memDefault then [] else [(x, v)]
  | (a, b) :: r, x, v =>
    if a = x then (if v = memDefault then r else (x, v) :: r)
    else if x < a then (if v = memDefault then (a, b) :: r else (x, v) :: (a, b) :: r)
    else (a, b) :: memSet r x v

/-- Whether the addresses rise above `lo` and no entry is what an unlisted address reads as. -/
def memWfFrom : Nat → Memory → Bool
  | _, [] => true
  | lo, (a, b) :: r => decide (lo ≤ a) && decide (b ≠ memDefault) && memWfFrom (a + 1) r

/-- The canonical form of a memory: addresses strictly rising, no default entry. -/
def Memory.wf (m : Memory) : Bool := memWfFrom 0 m

/-- `n` bytes from an address. -/
def memBytes (m : Memory) (a n : Nat) : List Byte := (List.range n).map (fun i => memGet m (a + i))

/-- The memory with bytes written from an address. -/
def memPut : Memory → Nat → List Byte → Memory
  | m, _, [] => m
  | m, a, b :: r => memPut (memSet m a b) (a + 1) r

/-! ### Addresses and banks -/

/-- The first offset of the save area (R55). -/
def saveBase : Nat := 0x2700000

/-- The first offset above tile memory. -/
def tileMemTop : Nat := 0x2800000

/-- The visible bank of a tile-memory offset, under the map in force (R56, R57). -/
def bankOf (interleaved : Bool) (off : Nat) : Nat :=
  if off < saveBase then (if interleaved then (off / 256) % 64 else off / 0x9C000) else (off - saveBase) / 0x4000

/-- Whether a tile uses the INTERLEAVED map (R58). -/
def interleavedOf (s : State) (lt : Nat) : Bool := s.tbit lt regMemCfg 0

/-- Whether the banks of a tile refuse accesses because its region is halted or off (R68). -/
def regionRefuses (s : State) (lt : Nat) : Bool := 4 ≤ regionState s (regionOf s lt)

/-- Whether the units of a tile stand still: its region is halted or off, or its region's clock is OFF (16, R407; 17, R416). -/
def unitsStop (s : State) (lt : Nat) : Bool := regionRefuses s lt || pllState s (7 + regionOf s lt) == 0

/-- The 8 B words that a range touches (R63). -/
def wordsOf (off n : Nat) : List Nat :=
  if n = 0 then [] else (List.range ((off + n - 1) / 8 - off / 8 + 1)).map (fun i => off / 8 + i)

/-- The 64 B lines that a range touches. -/
def linesOf (off n : Nat) : Nat := if n = 0 then 0 else (off + n - 1) / 64 - off / 64 + 1

/-- Activity counter `n` of a tile advances by `k`, wrapping at 64 bits (16, R392). -/
def bumpCnt (s : State) (lt n k : Nat) : State :=
  s.modTile lt (fun t => { t with counters := kvSet t.counters n ((kvGet 0 t.counters n + k) % 2 ^ 64) })

/-- The number of bits in error in an 8 B word: 0, 1, or 2 for a double-bit error or a poison mark (R63). -/
def wordErr (s : State) (lt w : Nat) : Nat := kvGet 0 (s.tile lt).errs w

/-- The bank unit of a tile-memory offset (R427, kind 1). -/
def bankUnit (s : State) (lt off : Nat) : UnitId :=
  { kind := 1, pt := ptOf s lt, num := physBank s lt (bankOf (interleavedOf s lt) off) }

/-- A single-bit error found in a word is corrected, written back, counted and reported (R63). -/
def eccCorrect (s : State) (lt w : Nat) : State :=
  let s1 := s.modTile lt (fun t => { t with errs := kvDel t.errs w })
  let s2 := s1.setTfld lt regMemEccStatus 15 0 (satInc 16 (s1.tfld lt regMemEccStatus 15 0))
  reportCE s2 (ptOf s2 lt / 24) (bankUnit s2 lt (8 * w)) (8 * w)

/-- A double-bit error found in a word: the word is poisoned, the UE is recorded and reported (R63, MEM_ECC_STATUS). -/
def eccUncorr (s : State) (lt w : Nat) : State :=
  let s1 := s.modTile lt (fun t => { t with errs := kvSet t.errs w 2 })
  let e := s1.treg lt regMemEccStatus
  let e1 := if bit e 16 then setBit e 17 true else setBit e 16 true
  let s2 := s1.setTreg lt regMemEccStatus (setFld e1 23 18 (bankOf (interleavedOf s lt) (8 * w)))
  let s3 := s2.setTreg lt regMemEccAddr (BitVec.ofNat 32 (8 * w))
  reportUE s3 (ptOf s3 lt / 24) (bankUnit s3 lt (8 * w)) stEccUncorr (8 * w)

/-- Why a word cannot be reached now, if it cannot: its bank is off (R66), or isolated (R48). -/
def wordBlocked (s : State) (lt w : Nat) : Option Status :=
  let b := bankOf (interleavedOf s lt) (8 * w)
  if (s.tile lt).bank b != .on then some stBankOff
  else if (s.tile lt).isoBanks.contains (physBank s lt b) then some stEccUncorr
  else none

/-- Read one word: what stops the read, if anything, and the state with the error handling done (R63). -/
def touchRead (s : State) (lt w : Nat) : State × Option Status :=
  match wordBlocked s lt w with
  | some st => (s, some st)
  | none =>
    if wordErr s lt w ≥ 2 then (eccUncorr s lt w, some stEccUncorr)
    else if wordErr s lt w = 1 then (eccCorrect s lt w, none)
    else (s, none)

/-- Read words in rising order up to the first that fails; answers its status and offset. -/
def touchReads (s : State) (lt : Nat) : List Nat → State × Option (Status × Nat)
  | [] => (s, none)
  | w :: r =>
    match touchRead s lt w with
    | (s1, none) => touchReads s1 lt r
    | (s1, some st) => (s1, some (st, 8 * w))

/-- Lines of 64 B pass through the tile crossbar, unless they take a bank's local path (16, R392; 03, R60). -/
def bumpXbar (s : State) (loc : Bool) (lt k : Nat) : State := if loc then s else bumpCnt s lt 14 k

/-- A read of `n` bytes of tile memory at `off`, over a bank's local path or the crossbar: the bytes, or the status that ends it and the offset
that failed (R60, R63, R66, R68). -/
def memReadBy (loc : Bool) (s : State) (lt off n : Nat) : State × Except (Status × Nat) (List Byte) :=
  if regionRefuses s lt then (s, .error (stRegionOff, off))
  else
    match touchReads s lt (wordsOf off n) with
    | (s1, some st) => (s1, .error st)
    | (s1, none) => (bumpXbar (bumpCnt s1 lt 4 (linesOf off n)) loc lt (linesOf off n), .ok (memBytes (s1.tile lt).mem off n))

/-- A read over the crossbar. -/
def memRead (s : State) (lt off n : Nat) : State × Except (Status × Nat) (List Byte) := memReadBy false s lt off n

/-- Whether a write of the range covers the whole of word `w`. -/
def coversWord (off n w : Nat) : Bool := off ≤ 8 * w && 8 * w + 8 ≤ off + n

/-- Prepare one word of a write: a word that the write covers only in part is read first (R63). -/
def touchWrite (s : State) (lt off n w : Nat) : State × Option Status :=
  if coversWord off n w then (s, wordBlocked s lt w) else touchRead s lt w

/-- Prepare the words of a write in rising order, up to the first that fails. -/
def touchWrites (s : State) (lt off n : Nat) : List Nat → State × Option (Status × Nat)
  | [] => (s, none)
  | w :: r =>
    match touchWrite s lt off n w with
    | (s1, none) => touchWrites s1 lt off n r
    | (s1, some st) => (s1, some (st, 8 * w))

/-- The bytes stored: the words covered are no longer in error (R63). -/
def memStore (s : State) (lt off : Nat) (bs : List Byte) : State :=
  s.modTile lt (fun t => { t with
    mem := memPut t.mem off bs
    errs := t.errs.filter (fun p => !(off ≤ 8 * p.1 && 8 * p.1 + 8 ≤ off + bs.length)) })

/-- A write of bytes at `off`, over a bank's local path or the crossbar, performed whole or not at all; the status that stops it and the offset
that failed, if any (R60, R63, R66, R68). -/
def memWriteBy (loc : Bool) (s : State) (lt off : Nat) (bs : List Byte) : State × Option (Status × Nat) :=
  if regionRefuses s lt then (s, some (stRegionOff, off))
  else
    match touchWrites s lt off bs.length (wordsOf off bs.length) with
    | (s1, some st) => (s1, some st)
    | (s1, none) => (bumpXbar (bumpCnt (memStore s1 lt off bs) lt 5 (linesOf off bs.length)) loc lt (linesOf off bs.length), none)

/-- A write over the crossbar. -/
def memWrite (s : State) (lt off : Nat) (bs : List Byte) : State × Option (Status × Nat) := memWriteBy false s lt off bs

/-- Whether a core's access to a range of tile memory takes the local path of a bank: a lane core in grid mode in its own window, whose bank no
spare serves (R56, R60; 05, R123). -/
def localPath (s : State) (lt : Nat) (c : CoreId) (off n : Nat) : Bool :=
  match c with
  | .tcc => false
  | .lane k => !bit (s.treg lt regLcCfg) 0 && decide (k * 0x27000 ≤ off) && decide (off + n ≤ (k + 1) * 0x27000) && physBank s lt (k / 4) == k / 4

/-- Whether a tile-local offset lies among the register blocks of a tile (00, Table 0.4). -/
def inBlocks (off : Nat) : Bool := 0xF000000 ≤ off && off < 0xF0F0000

/-- Whether a range lies within visible memory (R55). -/
def visible (off n : Nat) : Bool := off + n ≤ saveBase

/-- Whether a range lies within the tile memory that a level may reach: the save area at M only (R17, R97). -/
def permitted (lv : Level) (off n : Nat) : Bool :=
  if lv = .m then off + n ≤ tileMemTop else off + n ≤ saveBase

end Sys2Proof.Machine
end

