-- ==== Sys2Proof/Machine/Flight.lean ====
section
/-!
DEFINITION. Messages in flight on the wafer: where they enter and leave the networks, channels and lanes, injection, the order of arrival (10,
R259 to R267; 15, R383).
-/
namespace Sys2Proof.Machine

open Sys2Proof

/-! ### Nodes -/

/-- Activity counter `n` of the logical tile at a physical tile advances by `k` (16, R392). -/
def bumpAt (s : State) (pt n k : Nat) : State :=
  match ltOfPt s pt with
  | some lt => bumpCnt s lt n k
  | none => s

/-- Object `o`. -/
def State.obj (s : State) (o : Nat) : SyncObj := kvGet SyncObj.unused s.objs o

/-- The Sync Network's root, at the active Management Complex, as a node of `Flight`. -/
abbrev rootNode : Nat := 1530

/-- The node above another in the Sync Network's tree: tile, field controller, region node, root (R266). -/
def nodeUp (n : Nat) : Nat := if n < 1440 then 1440 + n / 24 else if n < 1500 then 1500 + regionOfField (n - 1440) else rootNode

/-- A node and those above it. -/
def nodeLine (n : Nat) : List Nat := [n, nodeUp n, nodeUp (nodeUp n), nodeUp (nodeUp (nodeUp n))].eraseDups

/-- The next node on the tree toward a destination (R266). -/
def nodeNext (n dst : Nat) : Nat := (belowIn n (nodeLine dst)).getD (nodeUp n)

/-- The nodes that a tree message still passes, from `n` up to its destination. -/
def nodePath (dst : Nat) : Nat → Nat → List Nat
  | 0, n => [n]
  | fuel + 1, n => if n = dst then [n] else n :: nodePath dst fuel (nodeNext n dst)

/-- The node of an object's home: a field's controller, a region's node, the root (13, R330, R340). -/
def homeNode (s : State) (o : Nat) : Nat :=
  let x := s.obj o
  if x.scope ≠ 0 then rootNode
  else if x.fieldOnly then 1440 + (if x.field = 0 then upperField x.region else lowerField x.region)
  else 1500 + x.region

/-- The position of what a global address names: a tile of this module, else the Management Complex, beside which the fabric transport lies
(14, R365). -/
def gaPt (s : State) (ga : Nat) : Nat := if ga / 2 ^ 48 = hereId s ∧ gaSel ga < ltCount s then ptOf s (gaSel ga) else mcPt s

/-- Where a message enters the networks and where it leaves them, as its fields tell. -/
def msgEnds (s : State) (m : NetMsg) : Nat × Nat :=
  match m with
  | .credit dst _ c => (gaPt s c.peer.toNat, gaPt s dst)
  | .write dst w => (gaPt s w.sender.toNat, gaPt s dst)
  | .sync true lt _ o _ _ _ _ => (ptOf s lt, homeNode s o)
  | .sync false lt typ o _ _ _ _ => (if typ = 6 then rootNode else homeNode s o, ptOf s lt)
  | .power r _ => (1500 + r, 1500 + r)
  | .token dst t => (gaPt s t.srcTile.toNat, gaPt s dst)
  | .skCredit t _ => (mcPt s, gaPt s t.srcTile.toNat)
  | .batch dst _ ts => ((ts.head?.map (fun t => gaPt s t.srcTile.toNat)).getD (mcPt s), gaPt s dst)
  | .batchEnd t _ => (gaPt s t.srcTile.toNat, gaPt s t.srcTile.toNat)
  | .chunkEnd lt _ _ => (ptOf s lt, ptOf s lt)
  | .segment x => (mcPt s, gaPt s x.ga.toNat)
  | .groupIn _ _ _ _ => (mcPt s, rootNode)
  | .access _ a b => (a, b)
  | _ => (mcPt s, mcPt s)

/-! ### Channels -/

/-- The network of a channel, by Table 2.6's codes: Bulk Mesh, Neighbour link, Control Mesh, Sync Network. -/
def Chan.net (c : Chan) : Nat :=
  match c with
  | .write => 0
  | .reduce => 0
  | .transit => 0
  | .selvage => 0
  | .neighbour => 1
  | .hp => 2
  | .req => 2
  | .rsp => 2
  | .sync => 3
  | .inside => 4

/-- The place of a channel among those that share an output in turn (R263, R264). -/
def Chan.turn (c : Chan) : Nat :=
  match c with
  | .write => 0
  | .reduce => 1
  | .transit => 2
  | .req => 0
  | .rsp => 1
  | _ => 3

/-- The channel of a message (Table 10.3): a fabric packet that crosses from port to port takes T, or S where it escapes (14, R363); one of a
tile of this module takes B0, and of the control class HP. -/
def msgChan (m : NetMsg) : Chan :=
  match m with
  | .write _ _ => .write
  | .token _ _ => .write
  | .batch _ _ _ => .write
  | .segment _ => .write
  | .red _ => .reduce
  | .sync _ _ _ _ _ _ _ _ => .sync
  | .power _ _ => .sync
  | .group _ _ _ _ => .sync
  | .groupIn _ _ _ _ => .sync
  | .access rsp _ _ => if rsp then .rsp else .req
  | .cross _ _ e => if e.pkt.esc then .selvage else if e.ingress.isSome then .transit else if e.pkt.cls = 5 then .hp else .write
  | _ => .hp

/-- The flits of a message on its channel: 256 B of payload each on the Bulk Mesh (R263), one elsewhere (Table 10.1). -/
def msgFlits (m : NetMsg) : Nat :=
  match m with
  | .write _ w => max 1 (ceilDiv w.data.length 256)
  | .batch _ _ ts => max 1 (ceilDiv (16 * ts.length) 256)
  | .segment x => max 1 (ceilDiv x.length.toNat 256)
  | .cross _ _ e => if e.pkt.cls = 5 then 1 else ceilDiv (64 + e.pkt.length.toNat) 256
  | _ => 1

/-! ### Injection -/

/-- A message before it is injected at `src`, `flits` long; `unit` names the DMA engine (4) or the Sketch store (5), whose messages to an
adjacent position take the Neighbour link where it is up and are relayed on B0 where they cannot (R265; 02, R41). -/
def newFlight (s : State) (m : NetMsg) (src dst flits : Nat) (unit : Option Nat) : Flight :=
  let link := [0, 1, 2, 3].find? (fun d => neighbourPt src d == some dst && !linkDown s src 1 d)
  let chan := if unit.isSome && link.isSome then .neighbour else msgChan m
  { msg := m, chan := if src = dst ∧ chan.net ≠ 3 then .inside else chan, lane := .xy, src := src, dst := dst, pos := src, came := unit.getD 4,
    age := 0, left := flits, size := flits, waiting := true }

/-- A message is injected: its lane is fixed by the route order, or it takes the Selvage channel where its pair is in the detour set (R259,
R260); a message for its own node has arrived. On the Control Mesh, which has no Selvage channel, a detour keeps its channel and follows the
tree (DESIGN CHOICE, log entry 54). -/
def inject (s : State) (f : Flight) : Flight :=
  let a := ptXY f.src
  let b := ptXY f.dst
  let detour := (f.chan.net == 0 || f.chan.net == 2) && isDetour s.mesh.active f.chan.net a b
  { f with
    chan := if detour && f.chan.net == 0 then .selvage else f.chan
    lane := if detour || f.chan == .selvage then .tree else if rowHas b.1 a.2 then .xy else .yx
    age := s.mesh.injected, left := if f.src = f.dst then 0 else f.size, waiting := false }

/-- A message is sent on its way: injected, or, while injection is frozen, kept at its source (R267). -/
def pushFlight (s : State) (f : Flight) : State :=
  if s.mesh.shadow.isSome then { s with net := s.net ++ [f] }
  else { s with net := s.net ++ [inject s f], mesh := { s.mesh with injected := s.mesh.injected + 1 } }

/-- A message is sent from one node to another. -/
def pushFrom (s : State) (m : NetMsg) (src dst : Nat) : State := pushFlight s (newFlight s m src dst (msgFlits m) none)

/-- A message is sent between the nodes that its fields name. -/
def push (s : State) (m : NetMsg) : State := pushFrom s m (msgEnds s m).1 (msgEnds s m).2

/-- A register access or a remote read has its REQ on the Control Mesh, which its RSP answers; its effect is that of the command or item that makes it
(R264; log entry 54). The response space at the requester is its own state. -/
def pushAccess (s : State) (src dst : Nat) : State := push s (.access false src dst)

/-! ### Arrival -/

/-- The messages in flight. -/
def State.msgs (s : State) : List NetMsg := s.net.map Flight.msg

/-- Whether a flight is ahead of another of its pair on its channel: injected before it (R262). A reduction packet that has come to a router on
its way is taken there whatever has gone on before it (R272). -/
def aheadOf (f g : Flight) : Bool :=
  !f.waiting && f.chan == g.chan && f.src == g.src && f.dst == g.dst && decide (f.age < g.age) &&
    (g.left != 0 || g.pos == g.dst || f.pos == g.pos)

/-- Whether a flight waits on a link of the Sync Network's tree that another has still to pass (R266). -/
def onLink (f g : Flight) : Bool :=
  f.chan == .sync && g.chan == .sync && !f.waiting && f.pos != f.dst && f.pos != g.dst && (nodePath g.dst 6 g.pos).contains f.pos &&
    nodeNext f.pos f.dst == nodeNext f.pos g.dst

/-- Whether a flight is a Sketch token that its tile does not accept, its region halted or off: it stays with its sender and is in no one's way. A
batch of tokens stays while the region is halted, and fails where it is off (09, R255). -/
def tokenStays (s : State) (f : Flight) : Bool :=
  match f.msg with
  | .token dst _ => regionRefuses s (gaSel dst)
  | .batch dst _ _ => regionRefuses s (gaSel dst) && regionState s (regionOf s (gaSel dst)) != 5
  | _ => false

/-- Whether two tokens come from the same route of the same generation of a slot. -/
def sameRoute (a b : SkToken) : Bool :=
  a.srcTile == b.srcTile && a.srcLane == b.srcLane && a.srcRoute == b.srcRoute && a.srcSlot == b.srcSlot && a.srcGen == b.srcGen

/-- Whether a flight is a Sketch token behind another of its route: tokens of one route arrive in the order they were put, whatever carries them
(09, R232). -/
def routeAhead (s : State) (g : Flight) : Bool :=
  match g.msg with
  | .token _ t => s.net.any (fun f => !f.waiting && decide (f.age < g.age) && match f.msg with
    | .token _ u => sameRoute u t
    | _ => false)
  | _ => false

/-- Whether a flight can arrive next: it is injected, and none is ahead of it. -/
def arrivesNext (s : State) (g : Flight) : Bool :=
  !g.waiting && !routeAhead s g && !s.net.any (fun f => (aheadOf f g && !tokenStays s f) || (onLink f g && f.pos != g.pos)) &&
    !(s.net.takeWhile (fun f => f != g)).any (fun f => onLink f g && f.pos == g.pos)

/-- Whether a message can arrive now: of its flights, one must be injected and be the next of its way; a message that is not in flight comes from
outside the module. -/
def mayArrive (s : State) (m : NetMsg) : Bool := s.net.any (fun f => f.msg == m && arrivesNext s f) || !s.net.any (fun f => f.msg == m)

/-- The node's region, for nodes other than the root. -/
def nodeRegion (n : Nat) : Nat := if n < 1440 then regionOfField (n / 24) else if n < 1500 then regionOfField (n - 1440) else n - 1500

/-- A message reaches its end: the flight of it that can arrive is over. -/
def netArrive (s : State) (m : NetMsg) : State := { s with net := s.net.eraseP (fun f => f.msg == m && arrivesNext s f) }

/-- The effect of an arriving message. One that cannot arrive yet stays in flight, and the command has no effect (R262; log entry 11). -/
def arriving (s : State) (m : NetMsg) (g : State → State) : State := if mayArrive s m then g (netArrive s m) else s

end Sys2Proof.Machine
end

