-- ==== Sys2Proof/Machine/Items.lean ====
section
/-!
DEFINITION. Tracked items: slots, handles, completion records and the completion ring (04, R105, R106; 12, R320, R321).
-/
namespace Sys2Proof.Machine

open Sys2Proof

/-- The handle of slot `n` of unit `u` at a generation (R105). -/
def mkHandle (u n gen : Nat) : Nat := n + u * 2 ^ 8 + (gen % 256) * 2 ^ 12

/-- The free slots of a unit. -/
def freeSlots (s : State) (lt u : Nat) : List Nat :=
  (List.range (unitSlots u)).filter (fun n => !((s.tile lt).slot u n).busy)

/-- The state with slot `n` of unit `u` replaced. -/
def setSlot (s : State) (lt u n : Nat) (x : Slot) : State :=
  s.modTile lt (fun t => { t with slots := kvSet t.slots (256 * u + n) x })

/-- Take a free slot of a unit for a new item: its number and handle. Which free slot is taken is a free choice (log
entry 5); the generation advances when the slot is reused (R105). -/
def takeSlot (s : State) (lt u : Nat) : Option (State × Nat × Nat) :=
  let fs := freeSlots s lt u
  if fs.length = 0 then none
  else
    let n := fs.getD (s.freeBelow fs.length) 0
    let x := (s.tile lt).slot u n
    let g := if x.used then x.gen + 1 else x.gen
    some (setSlot s.drawn lt u n { x with gen := g, used := true, busy := true }, n, mkHandle u n g.toNat)

/-- Whether a record can be written to the completion ring at `off` (R321). -/
def ringWritable (s : State) (lt off : Nat) : Bool :=
  visible off 16 && !regionRefuses s lt &&
    (wordsOf off 16).all (fun w => (wordBlocked s lt w).isNone && wordErr s lt w < 2)

/-- The record is appended to the completion ring, or the ring is skipped (R321). -/
def ringAppend (s : State) (lt : Nat) (r : CRec) : State :=
  if s.tbit lt regDmaCringCfg 0 then
    let size := 2 ^ (s.tfld lt regDmaCringCfg 4 1 + 8)
    let head := (s.treg lt regDmaCringHead).toNat
    let tail := (s.treg lt regDmaCringTail).toNat
    let off := s.tfld lt regDmaCringBase 27 12 * 2 ^ 12 + 16 * (head % size)
    if (head + 2 ^ 32 - tail) % 2 ^ 32 < size && ringWritable s lt off then
      (bumpCnt (memStore s lt off r.bytes) lt 5 1).setTreg lt regDmaCringHead (BitVec.ofNat 32 (head + 1))
    else s.setTreg lt regDmaCringLost (BitVec.ofNat 32 (satInc 32 (s.treg lt regDmaCringLost).toNat))
  else s

/-- The item in slot `n` of unit `u` completes: its one record is written to the slot table and offered to the ring
(R320, R321). -/
def completeItem (s : State) (lt u n kind : Nat) (st : Status) (progress : Nat) : State :=
  let x := (s.tile lt).slot u n
  let r : CRec := ⟨mkHandle u n x.gen.toNat, true, st, kind, progress % 2 ^ 32, s.aon % 2 ^ 32⟩
  ringAppend (setSlot s lt u n { x with busy := false, crec := r }) lt r

/-- The unit, slot and generation that a handle names (R105). -/
def handleParts (h : Nat) : Nat × Nat × Nat := ((h / 2 ^ 8) % 16, h % 256, (h / 2 ^ 12) % 256)

/-- The slot that a handle names, where its generation is the slot's current one (R106); none for a handle with bits above [19:0], a slot
that the unit does not have, or one that no item has used (log entry 54). -/
def slotOfHandle (s : State) (lt h : Nat) : Option Slot :=
  let p := handleParts h
  let x := (s.tile lt).slot p.1 p.2.1
  if h < 2 ^ 20 ∧ p.2.1 < unitSlots p.1 ∧ x.used = true ∧ x.gen.toNat = p.2.2 then some x else none

end Sys2Proof.Machine
end

