-- ==== Sys2Proof/Machine/Xlat.lean ====
section
/-!
DEFINITION. Translation of virtual addresses: the TLB and the table walk (12, R300 to R305).
-/
namespace Sys2Proof.Machine

open Sys2Proof

/-- What an access does, for the permissions of Table 12.2. -/
inductive Access where
  | read | write | fetch
deriving DecidableEq, Repr

/-- A failed translation: level of the failing entry, KIND and status (XLAT_FAULT_INFO). KIND 7 marks an address that
translates but lies outside what R97 permits; no record is made of it. -/
structure XFault where
  level : Nat
  kind : Nat
  status : Status
deriving DecidableEq, Repr

/-- Index bits of a walk level (Table 12.1). -/
def walkIdx (lvl va : Nat) : Nat :=
  if lvl = 1 then nfld va 47 39 else if lvl = 2 then nfld va 38 30 else if lvl = 3 then nfld va 29 21 else nfld va 20 16

/-- Whether a leaf's permissions allow the access (R302, R303). -/
def leafAllows (e : TlbEnt) (a : Access) (lv : Level) : Bool :=
  (if lv = .u then e.u else true) && (match a with | .read => e.r | .write => e.w | .fetch => e.x)

/-- A walker read by tile `lt` of the 8 B entry at a module address (R303, R305); of an entry on another tile a REQ of the Control Mesh asks (10,
R264). -/
def walkRead (s : State) (lt ma : Nat) : State × Except Status Nat :=
  if ma / 2 ^ 28 < ltCount s ∧ visible (ma % 2 ^ 28) 8 then
    match memRead (if ma / 2 ^ 28 = lt then s else pushAccess s (ptOf s lt) (ptOf s (ma / 2 ^ 28))) (ma / 2 ^ 28) (ma % 2 ^ 28) 8 with
    | (s1, .ok bs) => (s1, .ok (leNat bs))
    | (s1, .error st) => (s1, .error st.1)
  else (s, .error stProtFault)

/-- The leaf that an entry at level `lvl` gives for `va` (R302). -/
def leafOf (s : State) (lvl va e : Nat) : TlbEnt :=
  { vpn := if lvl = 3 then va / 2 ^ 21 else va / 2 ^ 16
    large := lvl == 3
    ga := (if nbit e 6 then hereId s else nfld e 55 40) * 2 ^ 48 + nfld e 39 8 * 2 ^ 8
    r := nbit e 2, w := nbit e 3, x := nbit e 4, u := nbit e 5 }

/-- The walk for tile `lt` from the table at module address `ma`, level `lvl`, with `fuel` levels left (R301). -/
def walk : Nat → State → Nat → Nat → Nat → Nat → State × Except XFault TlbEnt
  | 0, s, _, _, lvl, _ => (s, .error ⟨lvl, 1, stXlatFault⟩)
  | fuel + 1, s, lt, ma, lvl, va =>
    match walkRead s lt (ma + 8 * walkIdx lvl va) with
    | (s1, .error st) => (s1, .error ⟨lvl, 4, st⟩)
    | (s1, .ok e) =>
      if !nbit e 0 then (s1, .error ⟨lvl, 0, stXlatFault⟩)
      else if nbit e 1 then
        if lvl ≤ 2 then (s1, .error ⟨lvl, 1, stXlatFault⟩)
        else if nfld e 39 8 * 2 ^ 8 % (if lvl = 3 then 2 ^ 21 else 2 ^ 16) ≠ 0 then (s1, .error ⟨lvl, 2, stXlatFault⟩)
        else (s1, .ok (leafOf s1 lvl va e))
      else if lvl = 4 then (s1, .error ⟨lvl, 1, stXlatFault⟩)
      else if ltCount s1 ≤ nfld e 39 28 then (s1, .error ⟨lvl, 2, stXlatFault⟩)
      else walk fuel s1 lt (nfld e 39 8 * 2 ^ 8) (lvl + 1) va

/-- Whether a TLB entry maps a virtual address (R304). -/
def tlbMaps (va : Nat) (e : TlbEnt) : Bool := if e.large then e.vpn == va / 2 ^ 21 else e.vpn == va / 2 ^ 16

/-- A translation is added to the TLB; which entry a full TLB gives up is a free choice (R304, log entry 5). -/
def tlbFill (s : State) (lt : Nat) (e : TlbEnt) : State :=
  let tl := (s.tile lt).tlb
  if tl.length < 512 then s.modTile lt (fun t => { t with tlb := t.tlb ++ [e] })
  else s.drawn.modTile lt (fun t => { t with tlb := t.tlb.eraseIdx (s.freeBelow tl.length) ++ [e] })

/-- The global address that an entry gives for a virtual address (R302). -/
def leafGa (e : TlbEnt) (va : Nat) : Nat := e.ga + va % (if e.large then 2 ^ 21 else 2 ^ 16)

/-- Translate a virtual address for an access of tile `lt` at a level (R300 to R304). -/
def translate (s : State) (lt va : Nat) (a : Access) (lv : Level) : State × Except XFault Nat :=
  if va / 2 ^ 48 ≠ 0 then (s.drawn, .error ⟨s.freeBelow 8, 5, stXlatFault⟩)
  else
    match (s.tile lt).tlb.find? (tlbMaps va) with
    | some e => if leafAllows e a lv then (s, .ok (leafGa e va)) else (s, .error ⟨if e.large then 3 else 4, 3, stProtFault⟩)
    | none =>
      match walk 4 s lt (s.tfld lt regXlatRoot 27 0 * 2 ^ 12) 1 va with
      | (s1, .error f) => (s1, .error f)
      | (s1, .ok e) =>
        if leafAllows e a lv then (tlbFill s1 lt e, .ok (leafGa e va))
        else (s1, .error ⟨if e.large then 3 else 4, 3, stProtFault⟩)

/-- The address of a TCC access or of a DMA end, as an offset on the issuing tile: translated where translation is on at
U or S, else a tile-local offset (R97, R300). -/
def localAddr (s : State) (lt : Nat) (addr : Nat) (a : Access) (lv : Level) (xlat : Bool) : State × Except XFault Nat :=
  if xlat && lv != .m then
    match translate s lt addr a lv with
    | (s1, .error f) => (s1, .error f)
    | (s1, .ok ga) =>
      if namesThis s1 ga && gaSel ga == lt then (s1, .ok (gaOff ga)) else (s1, .error ⟨0, 7, stProtFault⟩)
  else if addr < 2 ^ 28 then (s, .ok addr) else (s, .error ⟨0, 7, stProtFault⟩)

/-- XLAT_FAULT_INFO and XLAT_FAULT_VA take the first failed DMA translation since they were cleared (R303, R329). -/
def recordXlat (s : State) (lt va slot : Nat) (write : Bool) (f : XFault) : State :=
  if s.tbit lt regXlatFaultInfo 31 || f.kind == 7 then s
  else
    let w := f.level % 8 + (f.kind % 8) * 2 ^ 3 + b2n write * 2 ^ 6 + f.status.toNat * 2 ^ 8 + slot * 2 ^ 16 + 2 ^ 31
    ((s.setTreg lt regXlatFaultInfo (BitVec.ofNat 32 w)).setTreg lt regXlatFaultVaLo (BitVec.ofNat 32 va)).setTreg lt
      regXlatFaultVaHi (BitVec.ofNat 32 (va / 2 ^ 32))

end Sys2Proof.Machine
end

