-- ==== Sys2Proof/Machine/Ops.lean ====
section
/-!
DEFINITION. The cores of a tile: their registers, the trap entry and the return from it, interrupts, and the one
operation that attempts an instruction (04, R86 to R116).
-/
namespace Sys2Proof.Machine

open Sys2Proof

/-! ### Cores and their registers -/

/-- The lane cores that execute an instruction of lane core `n`: itself, or the sixteen of its medium core in cluster
mode (R87). -/
def coreLanes (t : Tile) (n : Nat) : List Nat :=
  if t.cluster then (List.range 16).map (fun j => 16 * (n / 16) + j) else [n]

/-- The lane core that holds the shared state of the core that lane core `n` belongs to. -/
def leadLane (t : Tile) (n : Nat) : Nat := if t.cluster then 16 * (n / 16) else n

/-- The state with lane core `n` of a tile changed by `f`. -/
def modLane (s : State) (lt n : Nat) (f : LaneCore → LaneCore) : State :=
  s.modTile lt (fun t => { t with lanes := kvSet t.lanes n (f (t.lane n)) })

/-- The state with every lane core in a list changed by `f`. -/
def modLanes (s : State) (lt : Nat) (ns : List Nat) (f : Nat → LaneCore → LaneCore) : State :=
  ns.foldl (fun st n => modLane st lt n (f n)) s

/-- Whether a core exists. -/
def coreExists (c : CoreId) : Bool :=
  match c with
  | .tcc => true
  | .lane n => n < 256

/-- Whether the core is the TCC. -/
def isTcc (c : CoreId) : Bool := c == .tcc

/-- General register `r` of a core, zero-extended to 64 bits on a lane core; g0 reads as zero (R86 to R88). -/
def gRead (s : State) (lt : Nat) (c : CoreId) (r : BitVec 5) : DWord :=
  if r = 0 then 0
  else match c with
    | .tcc => (s.tile lt).tcc.g[r.toNat]'r.isLt
    | .lane n => (((s.tile lt).lane (leadLane (s.tile lt) n)).g[r.toNat]'r.isLt).setWidth 64

/-- Write general register `r` of a core; a write to g0 is discarded; the sixteen copies of a medium core are written
alike (R87, R88). -/
def gWrite (s : State) (lt : Nat) (c : CoreId) (r : BitVec 5) (v : DWord) : State :=
  if r = 0 then s
  else match c with
    | .tcc => s.modTile lt (fun t => { t with tcc := { t.tcc with g := t.tcc.g.set r.toNat v r.isLt } })
    | .lane n => modLanes s lt (coreLanes (s.tile lt) n) (fun _ l => { l with g := l.g.set r.toNat (v.setWidth 32) r.isLt })

/-- The program counter of a core. -/
def pcOf (s : State) (lt : Nat) (c : CoreId) : DWord :=
  match c with
  | .tcc => (s.tile lt).tcc.pc
  | .lane n => ((s.tile lt).lane (leadLane (s.tile lt) n)).pc.setWidth 64

/-- Set the program counter of a core. -/
def setPc (s : State) (lt : Nat) (c : CoreId) (v : DWord) : State :=
  match c with
  | .tcc => s.modTile lt (fun t => { t with tcc := { t.tcc with pc := v } })
  | .lane n => modLanes s lt (coreLanes (s.tile lt) n) (fun _ l => { l with pc := v.setWidth 32 })

/-- Note why a core waits, or that it does not. -/
def setWait (s : State) (lt : Nat) (c : CoreId) (w : Option Wait) : State :=
  match c with
  | .tcc => s.modTile lt (fun t => { t with tcc := { t.tcc with wait := w } })
  | .lane n => modLanes s lt (coreLanes (s.tile lt) n) (fun _ l => { l with wait := w })

/-- The place of a core in a tile's order: the TCC, then the lane cores. -/
def coreTurn : CoreId → Nat
  | .tcc => 0
  | .lane n => n + 1

/-- A core's wait has ended: the next one is reported anew (R292, R343). -/
def endWait (s : State) (lt : Nat) (c : CoreId) : State :=
  s.modTile lt (fun t => { t with stallsTold := t.stallsTold.filter (· != coreTurn c) })

/-- Whether a core's present wait has not been reported, and the state in which it is. -/
def stallNew (s : State) (lt : Nat) (c : CoreId) : Bool := !(s.tile lt).stallsTold.contains (coreTurn c)
def tellStall (s : State) (lt : Nat) (c : CoreId) : State :=
  s.modTile lt (fun t => { t with stallsTold := coreTurn c :: t.stallsTold })

/-- The privilege level of a core; lane cores run at U (R89). -/
def levelAt (s : State) (lt : Nat) (c : CoreId) : Level :=
  match c with
  | .tcc => (s.tile lt).tcc.prv
  | .lane _ => .u

/-- Whether the TCC runs an active-message handler (11, R297): IN_HANDLER is set and the level is S. -/
def inHandler (s : State) (lt : Nat) : Bool := s.tbit lt regChAmStatus 0 && (s.tile lt).tcc.prv == .s

/-- Whether a core may attempt instructions now: out of reset and running, not between the steps of a Sketch switch (09, R242), in a region whose compute clocks run, on a
tile that is awake (R89, R111, R113, R116, R130; 16, R407; 17, R421). -/
def canIssue (s : State) (lt : Nat) (c : CoreId) : Bool :=
  !unitsStop s lt && (s.tile lt).asleep == 0 &&
    (match c with
     | .tcc => !(s.tile lt).tcc.held && !(s.tile lt).tcc.stopped
     | .lane n =>
       let l := (s.tile lt).lane (leadLane (s.tile lt) n)
       l.st == .running && !l.parked && !(s.tile lt).preStop && !(s.tile lt).sk.switching)

/-- A core counts one retired instruction (LC_RETIRED, TILE_RETIRED; activity counter 13). -/
def countRetired (s : State) (lt : Nat) (c : CoreId) : State :=
  match c with
  | .tcc => bumpCnt (s.modTile lt (fun t => { t with tcc := { t.tcc with retired := t.tcc.retired + 1 } })) lt 13 1
  | .lane n =>
    let ls := coreLanes (s.tile lt) n
    bumpCnt (modLanes s lt ls (fun _ l => { l with retired := l.retired + 1 })) lt 13 ls.length

/-! ### Traps of the TCC -/

/-- The layout of TILE_TRAP_CAUSE_x (R109). -/
def causeWord (code : Nat) (st : Status) (frm : Level) (intr : Bool) : DWord :=
  BitVec.ofNat 64 (code % 64 + st.toNat * 2 ^ 8 + lvNum frm * 2 ^ 16 + b2n intr * 2 ^ 63)

/-- A trap to S or M, the four steps of R110: level and interrupt enable saved, interrupts off and TRAP set, the trap
registers written, and the TCC continues at the handler address. `pc` is what TILE_TRAP_PC_x takes, `base` where the TCC
continues. -/
def enterTrap (t : Tcc) (toM : Bool) (pc cause info base : DWord) : Tcc :=
  if toM then
    { t with
      pprvM := t.prv, pieM := t.ieM, ieM := false, trapM := true, prv := .m, pc := base, wait := none
      tm := { t.tm with pc := pc, cause := cause, info := info } }
  else
    { t with
      pprvS := t.prv, pieS := t.ieS, ieS := false, trapS := true, prv := .s, pc := base, wait := none
      ts := { t.ts with pc := pc, cause := cause, info := info } }

/-- The TCC of a tile replaced. -/
def modTcc (s : State) (lt : Nat) (f : Tcc → Tcc) : State := s.modTile lt (fun t => { t with tcc := f t.tcc })

/-- What TILE_TRAP_INFO_x takes: a stated value, or a free one where the spec names none for the cause (log entry 2). -/
def infoOr (s : State) (info : Option DWord) : DWord :=
  match info with
  | some v => v
  | none => s.freeWord

/-- A synchronous cause of the TCC, the one operation by which it takes an exception (R110, R111): routed to S or M,
nested at S it goes to M as cause 0x0E, nested at M it is a FATAL that stops the TCC. -/
def tccTrap (s : State) (lt : Nat) (cause : Cause) (st : Status) (info : Option DWord) : State :=
  let t := (s.tile lt).tcc
  let toS := t.prv != .m && bit t.route cause.toNat
  let i := infoOr s info
  let s := if info.isNone then s.drawn else s
  if toS && !t.trapS then
    modTcc s lt (fun t => enterTrap t false t.pc (causeWord cause.toNat st t.prv false) i t.ts.base)
  else if toS && !t.trapM then
    modTcc s lt (fun t => enterTrap t true t.pc (causeWord causeNested.toNat stOk t.prv false) (cause.setWidth 64) t.tm.base)
  else if !t.trapM then
    modTcc s lt (fun t => enterTrap t true t.pc (causeWord cause.toNat st t.prv false) i t.tm.base)
  else
    reportFatal (modTcc s lt (fun t => { t with stopped := true, wait := none })) lt
      { kind := 6, pt := ptOf s lt, num := 0 } true cause.toNat

/-- `eret` at level S or M: level and interrupt enable restored, TRAP cleared, and the TCC continues at
TILE_TRAP_PC_x (R110). -/
def leaveTrap (t : Tcc) : Tcc :=
  if t.prv = .m then { t with prv := t.pprvM, ieM := t.pieM, trapM := false, pc := t.tm.pc }
  else { t with prv := t.pprvS, ieS := t.pieS, trapS := false, pc := t.ts.pc }

/-! ### Faults of lane cores -/

/-- The fault record of a lane core or medium core: it stops before the instruction takes effect (R113, R131). -/
def laneFault (s : State) (lt n : Nat) (cause : Cause) (st : Status) (slice : Nat) (info : Word) : State :=
  let t := s.tile lt
  let lead := leadLane t n
  modLanes s lt (coreLanes t n) (fun k l =>
    { l with
      st := .fault, wait := none
      frec := if k = lead then ⟨cause, st, BitVec.ofNat 4 slice, true, l.pc, info⟩ else l.frec })

/-- What the record of a lane core takes as INFO: the offset for causes 0x01 and 0x05 to 0x08, the instruction word for
0x02 and 0x03, else 0 (LC_FREC_ADDR). -/
def laneInfo (s : State) (cause : Cause) (info : Option DWord) : Word :=
  if cause = 0x01 ∨ cause = 0x02 ∨ cause = 0x03 ∨ (0x05 ≤ cause.toNat ∧ cause.toNat ≤ 0x08) then
    (infoOr s info).setWidth 32
  else 0

/-! ### Interrupts -/

/-- The AM Bolt of a tile (CH_AM_CFG.BOLT). -/
def amBolt (s : State) (lt : Nat) : Nat := s.tfld lt regChAmCfg 6 1

/-- HEAD differs from COMMIT: a committed slot is to be read (R70). -/
def boltHasData (s : State) (lt b : Nat) : Bool := s.tfld lt (regBoltHead b) 19 0 != s.tfld lt (regBoltCommit b) 19 0

/-- Whether the AM Bolt holds a committed message (11, R286, R296). -/
def amPending (s : State) (lt : Nat) : Bool := s.tbit lt regChAmCfg 0 && boltHasData s lt (amBolt s lt)

/-- Whether interrupt `i` of Table 4.10 is pending on a tile (R109, TILE_INT_PEND). -/
def intPending (s : State) (lt i : Nat) : Bool :=
  let t := s.tile lt
  match i with
  | 0 => t.tcc.swiS
  | 1 => t.tcc.swiM
  | 2 => decide (t.tcc.timer.toNat ≤ s.aon % 2 ^ 48)
  | 3 => t.lanes.any (fun p => p.2.frec.valid)
  | 4 => t.lanes.any (fun p => p.2.started) && t.lanes.all (fun p => !p.2.started || p.2.st == .stopped)
  | 5 => s.tbit lt regMeInt 0
  | 6 => s.tbit lt regMeInt 1
  | 7 => s.tfld lt regDmaInt 1 0 != 0
  | 8 => s.tfld lt regRtuInt 1 0 != 0
  | 9 => s.tfld lt regChStatus 3 0 != 0 || s.tfld lt regSkStatus 1 0 != 0 || amPending s lt
  | 10 => s.tfld lt regSyncStatus 2 0 != 0
  | 11 => t.studyInt
  | 12 => s.tfld lt regRasTileStatus 17 16 != 0
  | 13 => t.pwrNotice
  | 14 => t.preReq
  | 15 => t.mailbox
  | _ => false

/-- Whether an interrupt is routed to S (TILE_ROUTE.INT; interrupts 1, 12, 13 and 14 never are). -/
def intToS (t : Tcc) (i : Nat) : Bool := bit t.route (32 + i)

/-- Whether interrupt 9 is an active-message entry: routed to S, a committed message in the AM Bolt (11, R296). -/
def amNext (s : State) (lt : Nat) : Bool := amPending s lt && intToS (s.tile lt).tcc 9

/-- Whether an interrupt that is pending and enabled may be taken now (R112). Active messages are handled one at a time (11, R296). -/
def intTakable (s : State) (lt i : Nat) : Bool :=
  let t := (s.tile lt).tcc
  intPending s lt i && bit t.intEn i && !(i == 9 && amNext s lt && s.tbit lt regChAmStatus 0) &&
    (if intToS t i then t.prv == .u || (t.prv == .s && t.ieS) else t.prv != .m || t.ieM)

/-- The order in which interrupts of one level are taken: PRE first, the others in increasing number (R112). -/
def intOrder : List Nat := [14, 0, 1, 2, 3, 4, 5, 6, 7, 8, 9, 10, 11, 12, 13, 15]

/-- The interrupt to take, if any: those routed to M go before those routed to S (R112). -/
def intToTake (s : State) (lt : Nat) : Option Nat :=
  match intOrder.find? (fun i => intTakable s lt i && !intToS (s.tile lt).tcc i) with
  | some i => some i
  | none => intOrder.find? (fun i => intTakable s lt i && intToS (s.tile lt).tcc i)

/-- Interrupt `i` is taken: the trap steps of R110 with INTR set; a waiting instruction is abandoned (R112, R115). -/
def takeInterrupt (s : State) (lt i : Nat) : State :=
  let toM := !intToS (s.tile lt).tcc i
  let v := s.freeWord
  modTcc s.drawn lt (fun t => enterTrap t toM t.pc (causeWord i stOk t.prv true) v (if toM then t.tm.base else t.ts.base))

end Sys2Proof.Machine
end

