-- ==== Sys2Proof/Machine/BoltBase.lean ====
section
/-!
DEFINITION. The counters of a Bolt and the bytes behind them (03, R69 to R71).
-/
namespace Sys2Proof.Machine

open Sys2Proof

/-! ### Counters -/

/-- Configuration word of Bolt `b`. -/
def boltCfg (s : State) (lt b : Nat) : Word := s.treg lt (regBoltCfg b)

/-- Base offset of a Bolt. -/
def cfgBase (cfg : Word) : Nat := fld cfg 25 12 * 2 ^ 12

/-- Size of a Bolt in bytes. -/
def cfgSize (cfg : Word) : Nat := 2 ^ fld cfg 8 4

/-- Slot size of a Bolt in bytes. -/
def cfgSlot (cfg : Word) : Nat := 2 ^ fld cfg 30 26

/-- The modulus of a Bolt's counters: twice the slot count. -/
def boltMod (s : State) (lt b : Nat) : Nat := 2 * boltSlots (boltCfg s lt b)

/-- HEAD, COMMIT and RESERVE of a Bolt. -/
def boltHead (s : State) (lt b : Nat) : Nat := s.tfld lt (regBoltHead b) 19 0
def boltCommit (s : State) (lt b : Nat) : Nat := s.tfld lt (regBoltCommit b) 19 0
def boltReserve (s : State) (lt b : Nat) : Nat := s.tfld lt (regBoltReserve b) 19 0

/-- The distance from counter `a` up to counter `b`, modulo `m`. -/
def ringDist (m a b : Nat) : Nat := (b + m - a % m) % m

/-- Slots in use: RESERVE − HEAD (R70). -/
def boltInUse (s : State) (lt b : Nat) : Nat := ringDist (boltMod s lt b) (boltHead s lt b) (boltReserve s lt b)

/-- Committed slots to be read: COMMIT − HEAD. -/
def boltReady (s : State) (lt b : Nat) : Nat := ringDist (boltMod s lt b) (boltHead s lt b) (boltCommit s lt b)

/-- Free slots. -/
def boltFree (s : State) (lt b : Nat) : Nat := boltSlots (boltCfg s lt b) - boltInUse s lt b

/-- The completion window of a Bolt. -/
def boltWindow (s : State) (lt b : Nat) : List Resv := kvGet [] (s.tile lt).window b

/-- Whether a Bolt counts as enabled for instructions, DMA and requests: EN set, and not owned by the Sketch store
(R100; 09, R237). -/
def boltOpen (s : State) (lt b : Nat) : Bool := bit (boltCfg s lt b) 0 && !(s.tile lt).boltOwned.contains b

/-- The offset of the slot that a counter value names (03, Bolts). -/
def slotOff (s : State) (lt b cnt : Nat) : Nat :=
  cfgBase (boltCfg s lt b) + (cnt % boltSlots (boltCfg s lt b)) * cfgSlot (boltCfg s lt b)

/-- Set the completion window of a Bolt. -/
def setWindow (s : State) (lt b : Nat) (w : List Resv) : State :=
  s.modTile lt (fun t => { t with window := kvSet t.window b w })

/-- The messages that lie in Bolt `b` as overflow Bolt. -/
def ovfMsgs (s : State) (lt b : Nat) : List OvfMsg := kvGet [] (s.tile lt).ovfMsgs b

/-- Set the messages that lie in Bolt `b`. -/
def setOvfMsgs (s : State) (lt b : Nat) (l : List OvfMsg) : State :=
  s.modTile lt (fun t => { t with ovfMsgs := kvSet t.ovfMsgs b l })

/-- Only messages whose last slot is still in use stay known. -/
def trimOvf (s : State) (lt b : Nat) : State :=
  if ovfMsgs s lt b = [] then s
  else setOvfMsgs s lt b ((ovfMsgs s lt b).filter (fun m =>
    decide (ringDist (boltMod s lt b) (boltHead s lt b) (m.start + m.slots - 1) < boltInUse s lt b)))

/-- HEAD advances by `k` (R70, R72). -/
def boltRelease (s : State) (lt b k : Nat) : State :=
  trimOvf (s.setTfld lt (regBoltHead b) 19 0 ((boltHead s lt b + k) % boltMod s lt b)) lt b

end Sys2Proof.Machine
end

