-- ==== Sys2Proof/Machine/Attempt.lean ====
section
/-!
DEFINITION. What comes before an instruction (machine check, interrupts, active-message entry), and the one operation that attempts an
instruction (04, R90 to R94, R111 to R115; 11, R296).
-/
namespace Sys2Proof.Machine

open Sys2Proof

/-! ### Active-message entry -/

/-- `n` bytes of a Bolt from the slot that a counter value names, going on at BASE when they pass its end (03, R71). -/
def boltRead (s : State) (lt b start n : Nat) : State × Except (Status × Nat) (List Byte) :=
  let cfg := boltCfg s lt b
  let off := slotOff s lt b start
  let room := cfgBase cfg + cfgSize cfg - off
  if n ≤ room then memRead s lt off n
  else
    match memRead s lt off room with
    | (s1, .error e) => (s1, .error e)
    | (s1, .ok a) =>
      match memRead s1 lt (cfgBase cfg) (n - room) with
      | (s2, .error e) => (s2, .error e)
      | (s2, .ok c) => (s2, .ok (a ++ c))

/-- The slots that a message of `n` bytes fills. -/
def bytesSlots (s : State) (lt b n : Nat) : Nat := max 1 (ceilDiv n (cfgSlot (boltCfg s lt b)))

/-- Up to `k` committed slots of the AM Bolt are released. -/
def amFree (s : State) (lt k : Nat) : State :=
  let b := amBolt s lt
  boltRelease s lt b (min k (boltReady s lt b))

/-- The slots that the message at the head of the AM Bolt fills (R283, R284, R295): its header, argument block and payload, or the
reservation that a void header stands for; one slot where the header cannot be read (log entry 54). -/
def amLength (s : State) (lt : Nat) : State × Nat :=
  let b := amBolt s lt
  match boltRead s lt b (boltHead s lt b) 32 with
  | (s1, .error _) => (s1, 1)
  | (s1, .ok h) => (s1, bytesSlots s lt b ((if fieldAt h 0x11 1 = 0xFF then 32 else 64) + fieldAt h 8 4))

/-- The active message at the head of the AM Bolt is released. -/
def amRelease (s : State) (lt : Nat) : State :=
  let x := amLength s lt
  amFree x.1 lt x.2

/-- A message that is not entered: its slots are released, BAD_HANDLER advances and event 0x05 is recorded (R296). -/
def amBad (s : State) (lt hd : Nat) (bs : List Byte) : State :=
  let s3 := amRelease s lt
  let s4 := s3.setTfld lt regChAmStatus 31 16 (satInc 16 (s3.tfld lt regChAmStatus 31 16))
  skbEvent s4 (.tile lt) 0x05 [hd, fieldAt bs 0 4, fieldAt bs 4 4, fieldAt bs 0x0C 4]

/-- The head message of the AM Bolt is entered: the trap steps of R110 to S with CODE 9 and INTR, at the handler table
entry; a void header is released, and so is a message whose handler is not valid (R284, R296), or whose header or table entry cannot be
read (log entry 54). -/
def amEnter (s : State) (lt : Nat) : State :=
  let b := amBolt s lt
  let head := slotOff s lt b (boltHead s lt b)
  match boltRead s lt b (boltHead s lt b) 64 with
  | (s1, .error _) => amBad s1 lt 0 []
  | (s1, .ok bs) =>
    if fieldAt bs 0x11 1 = 0xFF then amRelease s1 lt
    else
      let hd := fieldAt bs 0x20 1
      let entry := s1.tfld lt regChAmBase 27 11 * 2 ^ 11 + 8 * hd
      match memRead s1 lt entry 8 with
      | (s2, .error _) => amBad s2 lt hd bs
      | (s2, .ok eb) =>
        if nbit (leNat eb) 0 then
          let s3 := modTcc s2 lt (fun t =>
            enterTrap t false t.pc (causeWord 9 stOk t.prv true) (BitVec.ofNat 64 head) (BitVec.ofNat 64 (leNat eb / 4 * 4)))
          (s3.setTbit lt regChAmStatus 0 true).setTfld lt regChAmStatus 15 8 hd
        else amBad s2 lt hd bs

/-! ### Interrupts and machine check -/

/-- A waiting `wfi` retires when an interrupt is taken (17, R422). -/
def retireWfi (s : State) (lt : Nat) : State :=
  if (s.tile lt).tcc.wait = some .interrupt then
    countRetired (setPc (setWait s lt .tcc none) lt .tcc (pcOf s lt .tcc + 4)) lt .tcc
  else s

/-- Interrupt `i` of Table 4.10 taken at a pre-emption point. Interrupt 9 routed to S with a committed message in the AM
Bolt is an active-message entry (11, R296); interrupt 14 consumes the request and stops the lane cores (R116). The notices 11, 13 and 15 have no
register that clears them: they clear when taken (log entry 7). The wait that the TCC was in has ended: a stall after it is a new one (11, R292). -/
def interruptEntry (s : State) (lt i : Nat) : State :=
  let s1 := endWait (retireWfi s lt) lt .tcc
  if i = 9 ∧ amNext s lt = true then amEnter s1 lt
  else
    let s2 := takeInterrupt s1 lt i
    if i = 14 then s2.modTile lt (fun t => { t with preReq := false, preStop := true })
    else if i = 11 then s2.modTile lt (fun t => { t with studyInt := false })
    else if i = 13 then s2.modTile lt (fun t => { t with pwrNotice := false })
    else if i = 15 then s2.modTile lt (fun t => { t with mailbox := false })
    else s2

/-- Whether the TCC is at a pre-emption point at which it takes traps: out of reset, running, awake, its region not halted
(R112; 16, R407; 17, R422). -/
def tccLive (s : State) (lt : Nat) : Bool := canIssue s lt .tcc

/-- What goes before the next instruction of the TCC at a pre-emption point: machine check first of all, whatever IE_M holds, and then the
interrupt that R112 takes; none while the region drains for a halt (R111, R112; 16, R407). -/
def takeFirst (s : State) (lt : Nat) : Option State :=
  if (s.tile lt).fatal then
    some (tccTrap (endWait (retireWfi (s.modTile lt (fun t => { t with fatal := false })) lt) lt .tcc) lt causeMachine stOk none)
  else if regionState s (regionOf s lt) = 3 then none
  else (intToTake s lt).map (interruptEntry s lt)

/-- What goes before the next instruction of a core; interrupts are the TCC's (R112, R113). -/
def coreFirst (s : State) (lt : Nat) (c : CoreId) : Option State := if isTcc c then takeFirst s lt else none

/-! ### Attempting an instruction -/

/-- What an instruction does: it retires, jumps, traps or waits (R110, R113, R115). A trap carries the state that its
data movement left (R110), its cause, status, what TILE_TRAP_INFO takes, and the slice that faulted (R131). -/
inductive InsnOut where
  | done (s : State)
  | jump (s : State) (pc : DWord)
  | trap (s : State) (cause : Cause) (st : Status) (info : Option DWord) (slice : Nat)
  | wait (s : State) (w : Wait)

/-- Where an instruction may run (Table 4.4): on the TCC, on lane cores, from which level, and whether an active-message
handler may use it (R297). -/
structure Where where
  onT : Bool
  onL : Bool
  level : Level
  inAm : Bool

/-- The lines of a lane core's 4 KiB instruction buffer that no Sketch holds; a single one where Sketches hold it all (09, R228). -/
def bufferLines (s : State) (lt : Nat) : Nat :=
  max 1 (64 - 16 * ((List.range 4).map (fun n => ((s.tile lt).sk.slot n).codeKib)).foldl (· + ·) 0)

/-- A line of 64 B is fetched into the instruction buffer of a lane core; a full buffer loses one line, which one is not stated: a free choice
(05, R119; log entry 5). -/
def fillLine (s : State) (lt n line : Nat) : State :=
  let k := bufferLines s lt
  if ((s.tile lt).lane n).ibuf.length < k then modLane s lt n (fun l => { l with ibuf := line :: l.ibuf })
  else modLane s.drawn lt n (fun l => { l with ibuf := line :: (l.ibuf.eraseIdx (s.freeBelow k)).take (k - 1) })

/-- The fetch of a lane core from visible memory: from its buffer, or the line of 64 B from tile memory (05, R119). A medium core fetches
through its lane core 0. -/
def lineFetch (s : State) (lt n pc : Nat) : State × Option Status :=
  let lead := leadLane (s.tile lt) n
  if (((s.tile lt).lane lead).ibuf.take (bufferLines s lt)).contains (pc / 64) then (s, none)
  else if !visible pc 4 then (s, some stProtFault)
  else
    match memRead s lt (pc / 64 * 64) 64 with
    | (s1, .error e) => (s1, some e.1)
    | (s1, .ok _) => (fillLine s1 lt lead (pc / 64), none)

/-- Fetch faults of the attempt at the core's program counter (R90, R119, R303; 09, R230; 20, R467): the state after the fetch and
the status of cause 0x01, if any. The instruction store is fetched at M only; elsewhere the fetch reads tile memory. -/
def fetchWord (s : State) (lt : Nat) (c : CoreId) (pc : Nat) : State × Option Status :=
  match c with
  | .tcc =>
    let t := (s.tile lt).tcc
    if t.prv = .m ∧ 0xFF00000 ≤ pc ∧ pc < 0xFF10000 then (s, none)
    else
      match localAddr s lt pc .fetch t.prv (t.xlat && !inHandler s lt) with
      | (s1, .error f) => (s1, some f.status)
      | (s1, .ok off) =>
        if permitted t.prv off 4 then
          match memRead s1 lt off 4 with
          | (s2, .error e) => (s2, some e.1)
          | (s2, .ok _) => (s2, none)
        else (s1, some stProtFault)
  | .lane n =>
    if (s.tile lt).sk.active.isSome then
      (if pc + 4 ≤ 1024 * ((s.tile lt).sk.slot ((s.tile lt).sk.active.getD 0)).codeKib then (s, none) else (s, some stProtFault))
    else lineFetch s lt n pc

/-- The fetch of an instruction of `len` bytes; a wide instruction's second word is fetched as well (R90). -/
def fetchInsn (s : State) (lt : Nat) (c : CoreId) (len : Nat) : State × Option Status :=
  let pc := (pcOf s lt c).toNat
  if pc % 4 ≠ 0 then (s, some stProtFault)
  else
    match fetchWord s lt c pc with
    | (s1, some st) => (s1, some st)
    | (s1, none) => if len = 8 then fetchWord s1 lt c (pc + 4) else (s1, none)

/-- A trap of either kind of core, which ends the wait that the core was in. -/
def coreTrap (s0 : State) (lt : Nat) (c : CoreId) (cause : Cause) (st : Status) (info : Option DWord) (slice : Nat) : State :=
  let s := endWait s0 lt c
  match c with
  | .tcc => tccTrap s lt cause st info
  | .lane n => laneFault (if info.isNone then s.drawn else s) lt n cause st slice (laneInfo s cause info)

/-- The end of an attempted instruction of `len` bytes. -/
def finish (lt : Nat) (c : CoreId) (len : Nat) (o : InsnOut) : State :=
  match o with
  | .done s => countRetired (setPc (endWait s lt c) lt c (pcOf s lt c + BitVec.ofNat 64 len)) lt c
  | .jump s pc => countRetired (setPc (endWait s lt c) lt c pc) lt c
  | .trap s cause st info slice => coreTrap s lt c cause st info slice
  | .wait s w => setWait s lt c (some w)

/-- The bytes that a core fetches for an instruction of `len` bytes: wide instructions are the TCC's, so that a lane core stops at the first
word (R90). -/
def fetchLen (c : CoreId) (len : Nat) : Nat := if isTcc c then len else 4

/-- The attempt of one instruction, whose first word is `word`: what goes before it, fetch, core type, level, and then its own effect
`body`. A core that issues nothing now is left as it is. -/
def attempt (lt : Nat) (c : CoreId) (len : Nat) (word : Word) (w : Where) (body : State → InsnOut) (s : State) : State :=
  if !canIssue s lt c then s
  else
    match coreFirst s lt c with
    | some s1 => s1
    | none =>
      let s0 := setWait s lt c none
      match fetchInsn s0 lt c (fetchLen c len) with
      | (s1, some st) => coreTrap s1 lt c causeFetch st (some (pcOf s1 lt c)) 0
      | (s1, none) =>
        if !(if isTcc c then w.onT else w.onL) || (isTcc c && inHandler s1 lt && !w.inAm) then
          coreTrap s1 lt c causeIllegal stOk (some (word.setWidth 64)) 0
        else if !lvAtLeast (levelAt s1 lt c) w.level then
          coreTrap s1 lt c causePriv stOk (some (word.setWidth 64)) 0
        else finish lt c len (body s1)

/-- The command of one instruction on a core of a tile. -/
def insn (lt : Nat) (c : CoreId) (len : Nat) (word : Word) (w : Where) (body : State → InsnOut) (s : State) : Out :=
  if lt < maxTiles ∧ coreExists c = true then .next (attempt lt c len word w body s) else .fault .noSuchUnit

/-- Both core types, any level, permitted in an active-message handler. -/
def anyCore : Where := ⟨true, true, .u, true⟩

/-- An illegal-instruction trap with the instruction's word. -/
def illegalInsn (s : State) (word : Word) : InsnOut := .trap s causeIllegal stOk (some (word.setWidth 64)) 0

/-- An illegal-operand trap with the instruction's word. -/
def illegalOperand (s : State) (word : Word) : InsnOut := .trap s causeOperand stOk (some (word.setWidth 64)) 0

end Sys2Proof.Machine
end

