-- ==== Sys2Proof/Machine/Encode.lean ====
section
/-!
DEFINITION. The first word of an instruction, by the formats of Table 4.1 and Table 4.2 (04, R91, R93): what
TILE_TRAP_INFO_x and the fault record take for causes 0x02 to 0x04.
-/
namespace Sys2Proof.Machine

open Sys2Proof

/-- Format R. -/
def wordR (op : Nat) (rd rs1 rs2 : BitVec 5) (fn : Nat) : Word :=
  BitVec.ofNat 32 (op * 2 ^ 2 + rd.toNat * 2 ^ 8 + rs1.toNat * 2 ^ 13 + rs2.toNat * 2 ^ 18 + fn * 2 ^ 23)

/-- Format I. -/
def wordI (op : Nat) (rd rs1 : BitVec 5) (imm : BitVec 14) : Word :=
  BitVec.ofNat 32 (op * 2 ^ 2 + rd.toNat * 2 ^ 8 + rs1.toNat * 2 ^ 13 + imm.toNat * 2 ^ 18)

/-- Format U. -/
def wordU (op : Nat) (rd : BitVec 5) (imm : BitVec 19) : Word :=
  BitVec.ofNat 32 (op * 2 ^ 2 + rd.toNat * 2 ^ 8 + imm.toNat * 2 ^ 13)

/-- Formats L and S; format B with COND in place of SZ. -/
def wordL (op : Nat) (rd rs1 : BitVec 5) (sz : Nat) (imm : BitVec 11) : Word :=
  BitVec.ofNat 32 (op * 2 ^ 2 + rd.toNat * 2 ^ 8 + rs1.toNat * 2 ^ 13 + sz * 2 ^ 18 + imm.toNat * 2 ^ 21)

/-- Format C. -/
def wordC (op : Nat) (rd rs1 : BitVec 5) (fn : Nat) (csr : BitVec 12) : Word :=
  BitVec.ofNat 32 (op * 2 ^ 2 + rd.toNat * 2 ^ 8 + rs1.toNat * 2 ^ 13 + fn * 2 ^ 18 + csr.toNat * 2 ^ 20)

/-- Format T. -/
def wordT (op : Nat) (rd rs1 rs2 : BitVec 5) (idx : BitVec 6) (fn : Nat) : Word :=
  BitVec.ofNat 32 (op * 2 ^ 2 + rd.toNat * 2 ^ 8 + rs1.toNat * 2 ^ 13 + rs2.toNat * 2 ^ 18 + idx.toNat * 2 ^ 23
    + fn * 2 ^ 29)

/-- Format V. -/
def wordV (op : Nat) (vd vs1 vs2 : BitVec 5) (fn3 : Nat) (fmt : BitVec 2) (lcnt : BitVec 4) : Word :=
  BitVec.ofNat 32 (op * 2 ^ 2 + vd.toNat * 2 ^ 8 + vs1.toNat * 2 ^ 13 + vs2.toNat * 2 ^ 18 + fn3 * 2 ^ 23
    + fmt.toNat * 2 ^ 26 + lcnt.toNat * 2 ^ 28)

/-- Format VP. -/
def wordVP (op : Nat) (vd vs1 : BitVec 5) (pal : BitVec 8) (dir : Nat) (lcnt : BitVec 4) : Word :=
  BitVec.ofNat 32 (op * 2 ^ 2 + vd.toNat * 2 ^ 8 + vs1.toNat * 2 ^ 13 + pal.toNat * 2 ^ 18 + dir * 2 ^ 26
    + lcnt.toNat * 2 ^ 28)

/-- The first word of a wide instruction. -/
def wordWide (wop unit : Nat) (rd rs1 rs2 rs3 : BitVec 5) : Word :=
  BitVec.ofNat 32 (3 + wop * 2 ^ 2 + unit * 2 ^ 8 + rd.toNat * 2 ^ 12 + rs1.toNat * 2 ^ 17 + rs2.toNat * 2 ^ 22
    + rs3.toNat * 2 ^ 27)

end Sys2Proof.Machine
end

