-- ==== Sys2Proof/Machine/Alu.lean ====
section
/-!
DEFINITION. Integer arithmetic of the cores: OP 0x01 to 0x08 (04, R94, R95, Tables 4.4 and 4.5).
-/
namespace Sys2Proof.Machine

open Sys2Proof

/-! ### The operations, on words of any width -/

def aluAdd {n : Nat} (a b : BitVec n) : BitVec n := a + b
def aluSub {n : Nat} (a b : BitVec n) : BitVec n := a - b
def aluAnd {n : Nat} (a b : BitVec n) : BitVec n := a &&& b
def aluOr {n : Nat} (a b : BitVec n) : BitVec n := a ||| b
def aluXor {n : Nat} (a b : BitVec n) : BitVec n := a ^^^ b
def aluSll {n : Nat} (a : BitVec n) (k : Nat) : BitVec n := a <<< k
def aluSrl {n : Nat} (a : BitVec n) (k : Nat) : BitVec n := a >>> k
def aluSra {n : Nat} (a : BitVec n) (k : Nat) : BitVec n := a.sshiftRight k
def aluSlt {n : Nat} (a b : BitVec n) : BitVec n := if a.slt b then 1 else 0
def aluSltu {n : Nat} (a b : BitVec n) : BitVec n := if a.ult b then 1 else 0
def aluMin {n : Nat} (a b : BitVec n) : BitVec n := if a.slt b then a else b
def aluMax {n : Nat} (a b : BitVec n) : BitVec n := if a.slt b then b else a
def aluMinu {n : Nat} (a b : BitVec n) : BitVec n := if a.ult b then a else b
def aluMaxu {n : Nat} (a b : BitVec n) : BitVec n := if a.ult b then b else a
def aluMul {n : Nat} (a b : BitVec n) : BitVec n := a * b

/-- The high part of the signed product. -/
def aluMulh {n : Nat} (a b : BitVec n) : BitVec n := BitVec.ofInt n ((a.toInt * b.toInt) / 2 ^ n)

/-- The high part of the unsigned product. -/
def aluMulhu {n : Nat} (a b : BitVec n) : BitVec n := BitVec.ofNat n ((a.toNat * b.toNat) / 2 ^ n)

/-- Signed division: truncated toward zero; by zero, the largest positive or the most negative value; the most negative
value by −1 saturates (R95). -/
def aluDiv {n : Nat} (a b : BitVec n) : BitVec n :=
  if b = 0 then (if 0 ≤ a.toInt then BitVec.intMax n else BitVec.intMin n)
  else if a = BitVec.intMin n ∧ b = -1 then BitVec.intMax n
  else BitVec.ofInt n (a.toInt.tdiv b.toInt)

/-- Unsigned division: all ones by zero (R95). -/
def aluDivu {n : Nat} (a b : BitVec n) : BitVec n := if b = 0 then BitVec.allOnes n else a.udiv b

/-- Signed remainder: it takes the sign of the dividend; by zero, the dividend; zero for the most negative value by
−1 (R95). -/
def aluRem {n : Nat} (a b : BitVec n) : BitVec n :=
  if b = 0 then a
  else if a = BitVec.intMin n ∧ b = -1 then 0
  else BitVec.ofInt n (a.toInt.tmod b.toInt)

/-- Unsigned remainder: by zero, the dividend (R95). -/
def aluRemu {n : Nat} (a b : BitVec n) : BitVec n := if b = 0 then a else a.umod b

/-- The number of leading zeros of the low `k` bits of `a`. -/
def leadingZeros {n : Nat} (a : BitVec n) : Nat → Nat
  | 0 => 0
  | k + 1 => if a.getLsbD k then 0 else 1 + leadingZeros a k

/-- The number of trailing zeros of `a` from bit `i`, in the next `k` bits. -/
def trailingZeros {n : Nat} (a : BitVec n) (i : Nat) : Nat → Nat
  | 0 => 0
  | k + 1 => if a.getLsbD i then 0 else 1 + trailingZeros a (i + 1) k

def aluClz {n : Nat} (a : BitVec n) : BitVec n := BitVec.ofNat n (leadingZeros a n)
def aluCtz {n : Nat} (a : BitVec n) : BitVec n := BitVec.ofNat n (trailingZeros a 0 n)
def aluPopc {n : Nat} (a : BitVec n) : BitVec n := BitVec.ofNat n (popcount n a.toNat)

/-! ### The forms -/

/-- An operation at the width of the core: 64 bits on the TCC, 32 bits on a lane core (R86, R87). -/
def atWidth (c : CoreId) (f64 : DWord → DWord) (f32 : Word → Word) (a : DWord) : DWord :=
  match c with
  | .tcc => f64 a
  | .lane _ => (f32 (a.setWidth 32)).setWidth 64

/-- A two-operand operation at the width of the core; a `.w` form operates on bits [31:0] and sign-extends the result
(Table 4.5). -/
def atWidth2 (c : CoreId) (w : Bool) (f64 : DWord → DWord → DWord) (f32 : Word → Word → Word) (a b : DWord) : DWord :=
  match c with
  | .tcc => if w then (f32 (a.setWidth 32) (b.setWidth 32)).signExtend 64 else f64 a b
  | .lane _ => (f32 (a.setWidth 32) (b.setWidth 32)).setWidth 64

/-- OP 0x01: rd takes the operation's result on rs1 and rs2; a `.w` form is illegal on a lane core (Table 4.5). -/
def aluR (fn : Nat) (f64 : DWord → DWord → DWord) (f32 : Word → Word → Word)
    (lt : Nat) (c : CoreId) (rd rs1 rs2 : BitVec 5) (w : Bool) (s : State) : Out :=
  let word := wordR 0x01 rd rs1 rs2 (fn + b2n w * 2 ^ 8)
  insn lt c 4 word anyCore (fun s =>
    if w && !isTcc c then illegalInsn s word
    else .done (gWrite s lt c rd (atWidth2 c w f64 f32 (gRead s lt c rs1) (gRead s lt c rs2)))) s

/-- OP 0x02 to 0x07: rd takes the operation's result on rs1 and the sign-extended immediate (R91). -/
def aluI (op : Nat) (f64 : DWord → DWord) (f32 : Word → Word)
    (lt : Nat) (c : CoreId) (rd rs1 : BitVec 5) (imm : BitVec 14) (s : State) : Out :=
  insn lt c 4 (wordI op rd rs1 imm) anyCore (fun s =>
    .done (gWrite s lt c rd (atWidth c f64 f32 (gRead s lt c rs1)))) s

/-- OP 0x08: a shift by an immediate amount; an amount above 31 is an illegal operand on a lane core (R95). -/
def aluShiftI (sel : Nat) (f64 : DWord → Nat → DWord) (f32 : Word → Nat → Word)
    (lt : Nat) (c : CoreId) (rd rs1 : BitVec 5) (amt : BitVec 6) (s : State) : Out :=
  let word := wordI 0x08 rd rs1 (BitVec.ofNat 14 (sel * 2 ^ 12 + amt.toNat))
  insn lt c 4 word anyCore (fun s =>
    if !isTcc c && 31 < amt.toNat then illegalOperand s word
    else .done (gWrite s lt c rd (atWidth c (fun a => f64 a amt.toNat) (fun a => f32 a amt.toNat) (gRead s lt c rs1)))) s

/-! ### The instructions -/

/-- `add` (04, R94, Table 4.5). -/
def execAdd (lt : Nat) (c : CoreId) (rd rs1 rs2 : BitVec 5) (w : Bool) (s : State) : Out :=
  aluR 0x00 aluAdd aluAdd lt c rd rs1 rs2 w s

/-- `sub` (04, R94, Table 4.5). -/
def execSub (lt : Nat) (c : CoreId) (rd rs1 rs2 : BitVec 5) (w : Bool) (s : State) : Out :=
  aluR 0x01 aluSub aluSub lt c rd rs1 rs2 w s

/-- `and` (04, R94, Table 4.5). -/
def execAnd (lt : Nat) (c : CoreId) (rd rs1 rs2 : BitVec 5) (w : Bool) (s : State) : Out :=
  aluR 0x02 aluAnd aluAnd lt c rd rs1 rs2 w s

/-- `or` (04, R94, Table 4.5). -/
def execOr (lt : Nat) (c : CoreId) (rd rs1 rs2 : BitVec 5) (w : Bool) (s : State) : Out :=
  aluR 0x03 aluOr aluOr lt c rd rs1 rs2 w s

/-- `xor` (04, R94, Table 4.5). -/
def execXor (lt : Nat) (c : CoreId) (rd rs1 rs2 : BitVec 5) (w : Bool) (s : State) : Out :=
  aluR 0x04 aluXor aluXor lt c rd rs1 rs2 w s

/-- `sll` (04, R95, Table 4.5). -/
def execSll (lt : Nat) (c : CoreId) (rd rs1 rs2 : BitVec 5) (w : Bool) (s : State) : Out :=
  aluR 0x05 (fun a b => aluSll a (b.toNat % 64)) (fun a b => aluSll a (b.toNat % 32)) lt c rd rs1 rs2 w s

/-- `srl` (04, R95, Table 4.5). -/
def execSrl (lt : Nat) (c : CoreId) (rd rs1 rs2 : BitVec 5) (w : Bool) (s : State) : Out :=
  aluR 0x06 (fun a b => aluSrl a (b.toNat % 64)) (fun a b => aluSrl a (b.toNat % 32)) lt c rd rs1 rs2 w s

/-- `sra` (04, R95, Table 4.5). -/
def execSra (lt : Nat) (c : CoreId) (rd rs1 rs2 : BitVec 5) (w : Bool) (s : State) : Out :=
  aluR 0x07 (fun a b => aluSra a (b.toNat % 64)) (fun a b => aluSra a (b.toNat % 32)) lt c rd rs1 rs2 w s

/-- `slt` (04, R94, Table 4.5). -/
def execSlt (lt : Nat) (c : CoreId) (rd rs1 rs2 : BitVec 5) (w : Bool) (s : State) : Out :=
  aluR 0x08 aluSlt aluSlt lt c rd rs1 rs2 w s

/-- `sltu` (04, R94, Table 4.5). -/
def execSltu (lt : Nat) (c : CoreId) (rd rs1 rs2 : BitVec 5) (w : Bool) (s : State) : Out :=
  aluR 0x09 aluSltu aluSltu lt c rd rs1 rs2 w s

/-- `min` (04, R94, Table 4.5). -/
def execMin (lt : Nat) (c : CoreId) (rd rs1 rs2 : BitVec 5) (w : Bool) (s : State) : Out :=
  aluR 0x0A aluMin aluMin lt c rd rs1 rs2 w s

/-- `max` (04, R94, Table 4.5). -/
def execMax (lt : Nat) (c : CoreId) (rd rs1 rs2 : BitVec 5) (w : Bool) (s : State) : Out :=
  aluR 0x0B aluMax aluMax lt c rd rs1 rs2 w s

/-- `minu` (04, R94, Table 4.5). -/
def execMinu (lt : Nat) (c : CoreId) (rd rs1 rs2 : BitVec 5) (w : Bool) (s : State) : Out :=
  aluR 0x0C aluMinu aluMinu lt c rd rs1 rs2 w s

/-- `maxu` (04, R94, Table 4.5). -/
def execMaxu (lt : Nat) (c : CoreId) (rd rs1 rs2 : BitVec 5) (w : Bool) (s : State) : Out :=
  aluR 0x0D aluMaxu aluMaxu lt c rd rs1 rs2 w s

/-- `mul` (04, R94, Table 4.5). -/
def execMul (lt : Nat) (c : CoreId) (rd rs1 rs2 : BitVec 5) (w : Bool) (s : State) : Out :=
  aluR 0x10 aluMul aluMul lt c rd rs1 rs2 w s

/-- `mulh` (04, R94, Table 4.5). -/
def execMulh (lt : Nat) (c : CoreId) (rd rs1 rs2 : BitVec 5) (w : Bool) (s : State) : Out :=
  aluR 0x11 aluMulh aluMulh lt c rd rs1 rs2 w s

/-- `mulhu` (04, R94, Table 4.5). -/
def execMulhu (lt : Nat) (c : CoreId) (rd rs1 rs2 : BitVec 5) (w : Bool) (s : State) : Out :=
  aluR 0x12 aluMulhu aluMulhu lt c rd rs1 rs2 w s

/-- `div` (04, R95, Table 4.5). -/
def execDiv (lt : Nat) (c : CoreId) (rd rs1 rs2 : BitVec 5) (w : Bool) (s : State) : Out :=
  aluR 0x14 aluDiv aluDiv lt c rd rs1 rs2 w s

/-- `divu` (04, R95, Table 4.5). -/
def execDivu (lt : Nat) (c : CoreId) (rd rs1 rs2 : BitVec 5) (w : Bool) (s : State) : Out :=
  aluR 0x15 aluDivu aluDivu lt c rd rs1 rs2 w s

/-- `rem` (04, R95, Table 4.5). -/
def execRem (lt : Nat) (c : CoreId) (rd rs1 rs2 : BitVec 5) (w : Bool) (s : State) : Out :=
  aluR 0x16 aluRem aluRem lt c rd rs1 rs2 w s

/-- `remu` (04, R95, Table 4.5). -/
def execRemu (lt : Nat) (c : CoreId) (rd rs1 rs2 : BitVec 5) (w : Bool) (s : State) : Out :=
  aluR 0x17 aluRemu aluRemu lt c rd rs1 rs2 w s

/-- `clz` (04, R94, Table 4.5). -/
def execClz (lt : Nat) (c : CoreId) (rd rs1 rs2 : BitVec 5) (w : Bool) (s : State) : Out :=
  aluR 0x18 (fun a _ => aluClz a) (fun a _ => aluClz a) lt c rd rs1 rs2 w s

/-- `ctz` (04, R94, Table 4.5). -/
def execCtz (lt : Nat) (c : CoreId) (rd rs1 rs2 : BitVec 5) (w : Bool) (s : State) : Out :=
  aluR 0x19 (fun a _ => aluCtz a) (fun a _ => aluCtz a) lt c rd rs1 rs2 w s

/-- `popc` (04, R94, Table 4.5). -/
def execPopc (lt : Nat) (c : CoreId) (rd rs1 rs2 : BitVec 5) (w : Bool) (s : State) : Out :=
  aluR 0x1A (fun a _ => aluPopc a) (fun a _ => aluPopc a) lt c rd rs1 rs2 w s

/-- `addi` (04, R91, R94). -/
def execAddi (lt : Nat) (c : CoreId) (rd rs1 : BitVec 5) (imm : BitVec 14) (s : State) : Out :=
  aluI 0x02 (fun a => aluAdd a (imm.signExtend 64)) (fun a => aluAdd a (imm.signExtend 32)) lt c rd rs1 imm s

/-- `andi` (04, R91, R94). -/
def execAndi (lt : Nat) (c : CoreId) (rd rs1 : BitVec 5) (imm : BitVec 14) (s : State) : Out :=
  aluI 0x03 (fun a => a &&& imm.signExtend 64) (fun a => a &&& imm.signExtend 32) lt c rd rs1 imm s

/-- `ori` (04, R91, R94). -/
def execOri (lt : Nat) (c : CoreId) (rd rs1 : BitVec 5) (imm : BitVec 14) (s : State) : Out :=
  aluI 0x04 (fun a => a ||| imm.signExtend 64) (fun a => a ||| imm.signExtend 32) lt c rd rs1 imm s

/-- `xori` (04, R91, R94). -/
def execXori (lt : Nat) (c : CoreId) (rd rs1 : BitVec 5) (imm : BitVec 14) (s : State) : Out :=
  aluI 0x05 (fun a => a ^^^ imm.signExtend 64) (fun a => a ^^^ imm.signExtend 32) lt c rd rs1 imm s

/-- `cmpi.lt` (04, R91, R94). -/
def execCmpiLt (lt : Nat) (c : CoreId) (rd rs1 : BitVec 5) (imm : BitVec 14) (s : State) : Out :=
  aluI 0x06 (fun a => aluSlt a (imm.signExtend 64)) (fun a => aluSlt a (imm.signExtend 32)) lt c rd rs1 imm s

/-- `cmpi.ltu` (04, R91, R94). -/
def execCmpiLtu (lt : Nat) (c : CoreId) (rd rs1 : BitVec 5) (imm : BitVec 14) (s : State) : Out :=
  aluI 0x07 (fun a => aluSltu a (imm.signExtend 64)) (fun a => aluSltu a (imm.signExtend 32)) lt c rd rs1 imm s

/-- `slli` (04, R95). -/
def execSlli (lt : Nat) (c : CoreId) (rd rs1 : BitVec 5) (amt : BitVec 6) (s : State) : Out :=
  aluShiftI 0 aluSll aluSll lt c rd rs1 amt s

/-- `srli` (04, R95). -/
def execSrli (lt : Nat) (c : CoreId) (rd rs1 : BitVec 5) (amt : BitVec 6) (s : State) : Out :=
  aluShiftI 1 aluSrl aluSrl lt c rd rs1 amt s

/-- `srai` (04, R95). -/
def execSrai (lt : Nat) (c : CoreId) (rd rs1 : BitVec 5) (amt : BitVec 6) (s : State) : Out :=
  aluShiftI 2 aluSra aluSra lt c rd rs1 amt s

end Sys2Proof.Machine
end

