-- ==== Sys2Proof/Machine/FabSend.lean ====
section
/-!
DEFINITION. Sending over the fabric: egress queues, route lookup, packets on their way to a port, packets of this module, the start of a
session (14, R350 to R373; 15, R383; 19, R453).
-/
namespace Sys2Proof.Machine

open Sys2Proof

/-! ### Ports -/

/-- Fabric port `p`. -/
def fabPort (s : State) (p : Nat) : FabPort := kvGet FabPort.reset s.fab.ports p

/-- The state with fabric port `p` changed. -/
def modPort (s : State) (p : Nat) (f : FabPort → FabPort) : State :=
  { s with fab := { s.fab with ports := kvSet s.fab.ports p (f (fabPort s p)) } }

/-- STATE of a port (FAB_PORT_STATUS): 0 DISABLED, 1 TRAINING, 2 HELLO, 3 UP, 4 DOWN. -/
def portState (s : State) (p : Nat) : Nat := s.ffld (p / 2) (regFabPortStatus (p % 2)) 2 0

/-- Whether routes may use a port: UP, and not connected to its own module for test (R347). -/
def portUp (s : State) (p : Nat) : Bool := portState s p == 3 && !(fabPort s p).ownEnd

/-- The flits of a packet (14, Packets and transport). -/
def pktFlits (x : FabPkt) : Nat := ceilDiv (64 + x.length.toNat) 244

/-- The flits of packets that wait. -/
def pktsFlits (q : List FabPkt) : Nat := q.foldl (fun a x => a + pktFlits x) 0

/-- The packets queued on a VC of a port. -/
def portQueue (x : FabPort) (vc : Nat) : List EgPkt := kvGet [] x.queues vc

/-- The flits that wait in the queue of a VC: those of its packets but for what has been sent of the first. -/
def queueFlits (x : FabPort) (vc : Nat) : Nat := pktsFlits ((portQueue x vc).map EgPkt.pkt) - kvGet 0 x.headSent vc

/-- The flits that a link VC's buffer holds (Table 14.5). -/
def vcFlits (vc : Nat) : Nat := if vc < 5 then 64 else 32

/-- Whether an egress port has room for a whole packet in the queue of a link VC, beside what is reserved there (15, R383). That the queue is of
Table 14.5's size is DEDUCED (log entry 54). -/
def egressRoom (s : State) (p vc n : Nat) : Bool :=
  decide (queueFlits (fabPort s p) vc + kvGet 0 (fabPort s p).reserved vc + n ≤ vcFlits vc)

/-! ### Routes -/

/-- The route entry for a module (R364). -/
def routeEntry (s : State) (d : Nat) : Word :=
  match s.fab.routes with
  | some t => kvGet 0 t.entries d
  | none => 0

/-- The port that an entry names in [lo+6:lo], where its valid bit is set, the port is UP and is not the one of ingress (R365). -/
def entryPort (s : State) (e : Word) (lo : Nat) (ingress : Option Nat) : Option Nat :=
  let p := fld e (lo + 6) lo
  if bit e (lo + 7) && portUp s p && ingress != some p then some p else none

/-- The egress port of a packet (R364, R365): the ESC port where it escapes or is of the control class, else PRIMARY and ALT. -/
def egress (s : State) (d psn : Nat) (esc : Bool) (ingress : Option Nat) : Option Nat :=
  let e := routeEntry s d
  if esc then entryPort s e 16 ingress
  else
    let a := entryPort s e 0 ingress
    let b := entryPort s e 8 ingress
    if bit e 24 && a.isSome && b.isSome then (if psn % 2 = 0 then a else b)
    else if a.isSome then a else b

/-! ### Pairs and packets -/

/-- The fields that govern rates, as they are now: a pair takes them at the start of a period (R370). -/
def ccNow (s : State) : CcHeld :=
  ⟨true, s.mfld regFabCcCfg1 7 0, s.mfld regFabCcCfg1 15 8, s.mfld regFabCcCfg1 18 16, s.mfld regFabCcCfg0 23 12⟩

/-- The sending side of the pair to module `d`; a pair first used starts at INIT_RATE (R370). -/
def fabTx (s : State) (d : Nat) : FabTx :=
  let x := kvGet FabTx.reset s.fab.tx d
  if x.cc.used then x else { x with rate := s.mfld regFabCcCfg0 11 0, cc := ccNow s }

/-- The state with a pair changed. -/
def modTx (s : State) (d : Nat) (f : FabTx → FabTx) : State :=
  { s with fab := { s.fab with tx := kvSet s.fab.tx d (f (fabTx s d)) } }

/-- The session with module `d`. -/
def sessOf (s : State) (d : Nat) : Sess := kvGet Sess.none s.fab.sess d

/-- The state with a session changed. -/
def modSess (s : State) (d : Nat) (f : Sess → Sess) : State :=
  { s with fab := { s.fab with sess := kvSet s.fab.sess d (f (sessOf s d)) } }

/-- The fabric transaction slots that the tiles of the module hold (R375). -/
def fabUsed (s : State) : Nat := ((List.range 1320).map (fun t => s.mfld (regFabUse t) 16 0)).foldl (· + ·) 0

/-- Whether a tile may take another fabric transaction slot: within its allowance, and one of the module's 65,536 is free (R375, R376). -/
def fabMayTake (s : State) (lt : Nat) : Bool := decide (s.mfld (regFabUse lt) 16 0 < s.mfld (regFabAllow lt) 16 0) && decide (fabUsed s < 65536)

/-- A fabric transaction slot is taken by a tile, or given back (R375). -/
def fabTake (s : State) (lt : Nat) : State := s.setMfld (regFabUse lt) 16 0 (s.mfld (regFabUse lt) 16 0 + 1)
def fabGive (s : State) (lt : Nat) : State := s.setMfld (regFabUse lt) 16 0 (s.mfld (regFabUse lt) 16 0 - 1)

/-- What a tile of this module learns at once of a packet that cannot be sent or was given up: LINK_LOST, or another status. A batch of tokens and a
reduction chunk give back their slots (R253, R340, R359, R366, R375). -/
def lostLocal (s : State) (st : Status) (x : FabPkt) : State :=
  let put := push s
  let note := fun (peer target : Nat) (tag : BitVec 16) => ({
    target := BitVec.ofNat 8 target, reqTag := tag, creditTag := 0, status := st, kind := 0, bytes := 0, offset := 0,
    peer := BitVec.ofNat 64 peer, am := false } : CreditMsg)
  match x.body with
  | .write w => put (.credit w.sender.toNat 6 (note w.sender.toNat w.target.toNat w.reqTag))
  | .credit typ m => if typ = 1 then put (.credit m.peer.toNat 4 (note m.peer.toNat m.target.toNat m.reqTag)) else s
  | .sync _ obj _ => put (.lost obj.toNat)
  | .batch (t :: _) => push (fabGive s x.srcTile.toNat) (.batchEnd t st)
  | .reduce p => push (fabGive s x.srcTile.toNat) (.chunkEnd x.srcTile.toNat p st)
  | _ => s

/-- Whether packet `o` of the pair is the one named. -/
def isOut (key psn : Nat) (o : FabOut) : Bool := !o.waiting && o.pkt.keyId.toNat == key && o.pkt.psn.toNat == psn

/-- A packet of this module ends undelivered, and its source learns it (R359, R360, R366). -/
def loseOut (s : State) (d key psn : Nat) (st : Status) : State :=
  match (fabTx s d).out.find? (isOut key psn) with
  | none => s
  | some o => lostLocal (modTx s d (fun t => { t with out := t.out.filter (fun x => !isOut key psn x) })) st o.pkt

/-! ### Toward an egress port -/

/-- The link VC on which a packet leaves by port `out` (R361 to R363): of its class where it leaves its source module, F0 or F1 in transit. -/
def outVc (s : State) (e : EgPkt) (out : Nat) : Nat :=
  if e.pkt.esc then 6
  else if e.pkt.cls = 5 then 5
  else if e.ingress.isNone then e.pkt.cls.toNat
  else if e.vc = 3 ∨ s.fab.routes.any (fun t => nbit t.dateline out) = true then 3
  else 2

/-- The egress port of a packet that waits. -/
def egRoute (s : State) (e : EgPkt) : Option Nat := egress s e.pkt.dst.toNat e.pkt.psn.toNat (e.pkt.esc || e.pkt.cls == 5) e.ingress

/-- AGE of a packet that has waited at its place: its wait there counts, in units of 64 ns, to the microsecond that the model's clock has (R363; log
entry 54). -/
def ageNow (now : Nat) (e : EgPkt) : Nat := min 0xFFFF (e.pkt.age.toNat + (now - e.since) * 1000 / 64)

/-- A packet as it leaves the place where it waited (R363). -/
def aged (now : Nat) (e : EgPkt) : EgPkt := { e with pkt := { e.pkt with age := BitVec.ofNat 16 (ageNow now e) }, since := now }

/-- A packet sets out for egress port `q`, with its room there reserved (15, R383). -/
def crossTo (s : State) (e : EgPkt) (q : Nat) : State :=
  let v := outVc s e q
  let x := aged s.aon e
  pushFrom (modPort s q (fun y => { y with reserved := kvSet y.reserved v (kvGet 0 y.reserved v + pktFlits e.pkt) }))
    (.cross q v { x with vc := if e.ingress.isNone then v else e.vc }) e.pos (portPt q)

/-- A message in flight is lost; a fabric packet gives up its room at its egress port. -/
def unreserve (s : State) (f : Flight) : State :=
  match f.msg with
  | .cross q v e => modPort s q (fun y => { y with reserved := kvSet y.reserved v (kvGet 0 y.reserved v - pktFlits e.pkt) })
  | _ => s

/-- The messages in flight of which a property holds are lost. -/
def dropFlights (s : State) (p : Flight → Bool) : State := (s.net.filter p).foldl unreserve { s with net := s.net.filter (fun f => !p f) }

/-- A packet without a usable port ends (R366, R389): at its source its transaction does, with LINK_LOST; in transit it is counted. An ACK, which
has no PSN of its own, ends nothing (R358). -/
def noRoute (s : State) (e : EgPkt) : State :=
  if e.ingress.isSome then s.setMfld regFabDrops 11 0 (satInc 12 (s.mfld regFabDrops 11 0))
  else match e.pkt.body with
    | .ack .. => s
    | _ => loseOut s e.pkt.dst.toNat e.pkt.keyId.toNat e.pkt.psn.toNat stLinkLost

/-- The place of the VC in a packet of this module that has none yet. -/
abbrev noVc : Nat := 7

/-- The bytes of a packet that its pair's rate counts: header, payload and tag (R370). -/
def paceBytes (x : FabPkt) : Nat := 64 + x.length.toNat

/-- Whether a packet is paced: this module's own, other than control, as it is first put on its way: it has no VC yet (R370). -/
def paced (e : EgPkt) : Bool := e.ingress.isNone && e.pkt.cls != 5 && e.vc == noVc

/-- A packet sets out where injection is not frozen, its pair's rate allows it and its egress port has room (R267, R370; 15, R383); none where it
must wait. -/
def trySend (s : State) (e : EgPkt) : Option State :=
  let d := e.pkt.dst.toNat
  match egRoute s e with
  | none => some (noRoute s e)
  | some q =>
    if s.mesh.shadow.isSome || !egressRoom s q (outVc s e q) (pktFlits e.pkt) then none
    else if !paced e then some (crossTo s e q)
    else if (fabTx s d).budget < paceBytes e.pkt then none
    else some (crossTo (modTx s d (fun t => { t with budget := t.budget - paceBytes e.pkt })) e q)

/-- A microsecond at a pair's rate: 125 bytes for each Gb/s, up to a burst of one packet of 4,160 bytes (R370). -/
def refill (t : FabTx) : FabTx := { t with budget := min 4160 (t.budget + 125 * t.rate) }

/-- Every pair's budget after a microsecond. -/
def refillAll (s : State) : State := { s with fab := { s.fab with tx := s.fab.tx.map (fun p => (p.1, refill p.2)) } }

/-- A packet sets out, or waits at its place behind those for the same module and class. -/
def sendOrWait (s : State) (e : EgPkt) : State :=
  let wait := { s with fab := { s.fab with toSend := s.fab.toSend ++ [e] } }
  if s.fab.toSend.any (fun y => y.pos == e.pos && y.pkt.dst == e.pkt.dst && y.pkt.cls == e.pkt.cls && y.pkt.esc == e.pkt.esc) then wait
  else (trySend s e).getD wait

/-- The packets that wait to be injected are considered in turn. -/
def drainSend (s : State) : State := s.fab.toSend.foldl sendOrWait { s with fab := { s.fab with toSend := [] } }

/-- Whether the fabric's transport makes a packet, which lies beside the Management Complex (R365), or a tile. -/
def fromTransport (x : FabPkt) : Bool :=
  match x.body with
  | .ack .. => true
  | .cancel _ => true
  | .session .. => true
  | .sync .. => true
  | _ => false

/-- A packet of this module is put on its way, where a port is usable. -/
def launch (s : State) (x : FabPkt) : State :=
  match egress s x.dst.toNat x.psn.toNat (x.esc || x.cls == 5) none with
  | some _ => sendOrWait s ⟨x, none, noVc, if fromTransport x then mcPt s else gaPt s (tileGa s x.srcTile.toNat), s.aon⟩
  | none => s

/-! ### Packets -/

/-- A packet before it has a PSN. -/
def rawPkt (s : State) (d cls typ : Nat) (flagged : Bool) (ga srcTile len xid segs : Nat) (body : FabBody) : FabPkt :=
  { dst := BitVec.ofNat 16 d, src := BitVec.ofNat 16 (hereId s), cls := BitVec.ofNat 3 cls, esc := false, flagged := flagged, ce := false,
    typ := BitVec.ofNat 8 typ, ttl := BitVec.ofNat 8 (s.mfld regFabXportCfg 23 16), keyId := 0, psn := 0, ga := BitVec.ofNat 64 ga,
    srcTile := BitVec.ofNat 16 srcTile, age := 0, length := BitVec.ofNat 32 len, xid := BitVec.ofNat 32 xid, segs := BitVec.ofNat 32 segs,
    orderBase := 0, clean := true, genuine := true, body := body }

/-- The lowest PSN of a pair under a key that is not acknowledged (R371). -/
def lowestPsn (x : FabTx) (key own : Nat) : Nat :=
  (x.out.filter (fun o => !o.waiting && o.pkt.keyId.toNat == key)).foldl (fun a o => min a o.pkt.psn.toNat) own

/-- A packet takes the next PSN of its pair under a key and is sent; it is kept until it is acknowledged (R358). -/
def sendPkt (s : State) (d key : Nat) (x : FabPkt) : State :=
  let t := fabTx s d
  let n := kvGet 0 t.psn key
  let y := { x with
    keyId := BitVec.ofNat 4 key, psn := BitVec.ofNat 64 n
    orderBase := if x.flagged then BitVec.ofNat 64 (lowestPsn t key n) else 0 }
  launch (modTx s d (fun t => { t with psn := kvSet t.psn key (n + 1), out := t.out ++ [⟨y, 0, 0, false⟩] })) y

/-! ### The start of a session -/

/-- The pieces of at most 4,088 B of a session message's body. -/
def sessPieces (body : List Byte) : List (List Byte) :=
  (List.range (max 1 (ceilDiv body.length 4088))).map (fun i => (body.drop (4088 * i)).take 4088)

/-- A session message goes to module `d` under a key (R453). -/
def sendSess (s : State) (d key msg gen xchg : Nat) (body : List Byte) : State :=
  let ps := sessPieces body
  (ps.zipIdx).foldl (fun st q => sendPkt st d key (rawPkt st d 5 8 false 0 0 (8 + q.1.length) 0 1
    (.session (BitVec.ofNat 8 msg) (BitVec.ofNat 8 q.2) (BitVec.ofNat 8 ps.length) (BitVec.ofNat 4 gen) (BitVec.ofNat 32 xchg) q.1))) s

/-- The key that carries an exchange: the current session's, or the handshake key (R453). -/
def kexKey (s : State) (d : Nat) : Nat := (sessOf s d).cur.getD 15

/-- The head of KEX_INIT and KEX_REPLY: serial, module ID, zero (Table 19.6). -/
def kexHead (s : State) : List Byte := Config.serial ++ leBytes 2 (hereId s) ++ leBytes 2 0

/-- An exchange starts with KEX_INIT, unless one runs or one failed within the last second (R454 to R456). Nonce, ECDH and ML-KEM keys
are free values. -/
def startExchange (s : State) (d : Nat) : State :=
  let x := sessOf s d
  if x.phase ≠ 0 ∨ x.failedAt.any (fun t => s.aon < t + 1000000) = true then s
  else
    let body := kexHead s ++ s.freeBytes 1313
    let xchg := s.freeBelow (2 ^ 32)
    let gen := match x.cur with | some g => (g + 1) % 15 | none => 0
    let s1 := modSess s.drawn d (fun y => { y with
      phase := 1, initiator := true, xchg := xchg, gen := gen, tries := 1, initBody := body, replyBody := [], peerAuth := false })
    sendSess s1 d (kexKey s1 d) 1 gen xchg body

/-! ### Messages of this module -/

/-- A packet of this module: sent under the session's key, or kept until there is one (R360, R450); with no route, no ID or no policy it
is lost at once (R366, R294, R450). -/
def fabPost (s : State) (d : Nat) (x : FabPkt) : State :=
  if s.moduleId.isNone || !s.sec.policy || (egress s d 0 (x.cls == 5) none).isNone then lostLocal s stLinkLost x
  else
    match (sessOf s d).cur with
    | some g => sendPkt s d g x
    | none => startExchange (modTx s d (fun t => { t with out := t.out ++ [⟨x, 0, 0, true⟩] })) d

/-- The class of a write's DATA: by CLASS of the channel for a channel transaction, else request (R294, R361). -/
def writeClass (s : State) (w : WriteMsg) : Nat :=
  let lt := gaSel w.sender.toNat
  match kvFind (s.tile lt).reqs w.reqTag.toNat with
  | some r =>
    match r.owner with
    | .xact slot =>
      match kvFind (s.tile lt).xacts slot with
      | some x => b2n (s.tbit lt (regChCfg x.ch) 2)
      | none => 0
    | _ => 0
  | none => 0

/-- The segments of a credited write (R357). -/
def segments (s : State) (d dst : Nat) (w : WriteMsg) : List FabPkt :=
  let n := max 1 (ceilDiv w.data.length 4096)
  (List.range n).map (fun i =>
    let piece := (w.data.drop (4096 * i)).take 4096
    rawPkt s d (writeClass s w) 1 false (dst + w.offset.toNat + 4096 * i) (gaSel w.sender.toNat) piece.length
      (w.reqTag.toNat + i * 2 ^ 16) n (.write { w with data := piece, offset := w.offset + BitVec.ofNat 32 (4096 * i) }))

/-- A message to another module becomes fabric packets (R357, R361). -/
def fabSend (s : State) (d : Nat) (m : NetMsg) : State :=
  match m with
  | .write dst w =>
    if w.abort then fabPost s d (rawPkt s d 5 6 false 0 (gaSel w.sender.toNat) 8 w.reqTag.toNat 1 (.abort (BitVec.ofNat 32 w.reqTag.toNat)))
    else (segments s d dst w).foldl (fun st x => fabPost st d x) s
  | .credit dst typ c =>
    fabPost s d (rawPkt s d 5 2 false (dst / 2 ^ 28 * 2 ^ 28) (gaSel c.peer.toNat) 32 0 1 (.credit (BitVec.ofNat 8 typ) c))
  | .batch dst tag ts =>
    fabPost s d (rawPkt s d 0 1 true dst (match ts with | t :: _ => gaSel t.srcTile.toNat | [] => 0) (16 * ts.length) tag 1 (.batch ts))
  | .group _ typ o v => fabPost s d (rawPkt s d 5 5 true 0 0 8 0 1 (.sync (BitVec.ofNat 8 typ) (BitVec.ofNat 14 o) v))
  | .skCredit t n => fabPost s d (rawPkt s d 5 2 false (t.srcTile.toNat / 2 ^ 28 * 2 ^ 28) 0 32 0 1 (.skCredit t n))
  | _ => s

/-- A reduction chunk of tile `lt` goes to another module (R378). -/
def fabReduce (s : State) (d lt len : Nat) (p : RedPkt) : State := fabPost s d (rawPkt s d 4 4 false 0 lt len 0 1 (.reduce p))

/-- The module that a message goes to, where it is not this one. -/
def foreignOf (s : State) (m : NetMsg) : Option Nat :=
  let far := fun ga => if ga / 2 ^ 48 = hereId s then none else some (ga / 2 ^ 48)
  match m with
  | .write dst _ => far dst
  | .credit dst _ _ => far dst
  | .batch dst _ _ => far dst
  | .skCredit t _ => far t.srcTile.toNat
  | .group d _ _ _ => some d
  | _ => none

/-- A message is sent: on its way through the module's networks, or over the fabric. -/
def netSend (s : State) (m : NetMsg) : State :=
  match foreignOf s m with
  | some d => fabSend s d m
  | none => push s m

/-- A message is sent from a node of its own to another (reduction packets, 10, R271; returned route credits, 09, R247). -/
def netSendFrom (s : State) (m : NetMsg) (src dst : Nat) : State :=
  match foreignOf s m with
  | some d => fabSend s d m
  | none => pushFrom s m src dst

/-- Whether two logical tiles are adjacent, by their home positions (09, R232). -/
def tilesAdjacent (s : State) (a b : Nat) : Bool := ptDist (homeOf s a) (homeOf s b) == 1

/-- A message of the DMA engine (unit 4) or of a Sketch route of kind NEIGHBOUR (unit 5): where it names an adjacent logical tile (`near`), on the
Neighbour link if it can, else relayed on B0 (R265). -/
def netSendNear (s : State) (m : NetMsg) (unit : Nat) (near : Bool) : State :=
  match foreignOf s m with
  | some d => fabSend s d m
  | none => pushFlight s (newFlight s m (msgEnds s m).1 (msgEnds s m).2 (msgFlits m) (if near then some unit else none))

/-- Whether a write to another module has begun (R377). -/
def writeBegun (s : State) (lt : Nat) (tag : BitVec 16) (o : FabOut) : Bool :=
  match o.pkt.body with
  | .write w => w.sender == BitVec.ofNat 64 (tileGa s lt) && w.reqTag == tag
  | _ => false

/-- ABORT is sent for a write to another module that has begun (R357, R377). -/
def fabAbort (s : State) (lt : Nat) (tag : BitVec 16) : State :=
  s.fab.tx.foldl (fun st p =>
    match p.2.out.find? (writeBegun s lt tag) with
    | some o =>
      match o.pkt.body with
      | .write _ => fabPost st p.1 (rawPkt st p.1 5 6 false 0 lt 8 tag.toNat 1 (.abort (BitVec.ofNat 32 tag.toNat)))
      | _ => st
    | none => st) s

end Sys2Proof.Machine
end

