-- ==== Sys2Proof/Machine/Operands.lean ====
section
/-!
DEFINITION. How an instruction forms its memory addresses and moves bytes under them (04, R96, R97; 11, R297).
-/
namespace Sys2Proof.Machine

open Sys2Proof

/-- The address operand of a core: rs1 plus a scaled displacement, at the width of the core. -/
def addrOf (s : State) (lt : Nat) (c : CoreId) (rs1 : BitVec 5) (disp : DWord) : DWord :=
  match c with
  | .tcc => gRead s lt c rs1 + disp
  | .lane _ => ((gRead s lt c rs1 + disp).setWidth 32).setWidth 64

/-- The offset on the issuing tile that an access of `n` bytes reaches, within one page (R97): tile memory that the level
permits, visible memory only for lane cores and active-message handlers (R297). -/
def coreOffset (s : State) (lt : Nat) (c : CoreId) (addr n : Nat) (a : Access) : State × Except Status Nat :=
  match c with
  | .lane _ => if visible addr n then (s, .ok addr) else (s, .error stProtFault)
  | .tcc =>
    let t := (s.tile lt).tcc
    match localAddr s lt addr a t.prv (t.xlat && !inHandler s lt) with
    | (s1, .error f) => (s1, .error f.status)
    | (s1, .ok off) =>
      if permitted t.prv off n then (s1, .ok off) else (s1, .error stProtFault)

/-- The pieces of a range that lie within one 64 KiB page each: address and length. -/
def pagePieces : Nat → Nat → Nat → List (Nat × Nat)
  | 0, _, _ => []
  | fuel + 1, a, n =>
    if n = 0 then []
    else
      let k := min n (2 ^ 16 - a % 2 ^ 16)
      (a, k) :: pagePieces fuel (a + k) (n - k)

/-- The page pieces of `n` bytes at an address. -/
def piecesOf (a n : Nat) : List (Nat × Nat) := pagePieces (n / 2 ^ 16 + 2) a n

/-- Read pieces in order: the bytes, or the status and the address that failed. -/
def readPieces (s : State) (lt : Nat) (c : CoreId) : List (Nat × Nat) → State × Except (Status × Nat) (List Byte)
  | [] => (s, .ok [])
  | (a, n) :: r =>
    match coreOffset s lt c a n .read with
    | (s1, .error st) => (s1, .error (st, a))
    | (s1, .ok off) =>
      match memReadBy (localPath s1 lt c off n) s1 lt off n with
      | (s2, .error e) => (s2, .error (e.1, a + (e.2 - off)))
      | (s2, .ok bs) =>
        match readPieces s2 lt c r with
        | (s3, .error e) => (s3, .error e)
        | (s3, .ok bs') => (s3, .ok (bs ++ bs'))

/-- A read of `n` bytes by a core at an address (R97). -/
def coreRead (s : State) (lt : Nat) (c : CoreId) (addr n : Nat) : State × Except (Status × Nat) (List Byte) :=
  readPieces s lt c (piecesOf addr n)

/-- Whether a range of tile memory meets an enabled Bolt that plain stores may not enter (03, R74). -/
def boltForbids (s : State) (lt off n : Nat) : Bool :=
  (List.range 64).any (fun b =>
    let cfg := s.treg lt (regBoltCfg b)
    let base := fld cfg 25 12 * 2 ^ 12
    bit cfg 0 && !bit cfg 2 && decide (off < base + 2 ^ fld cfg 8 4) && decide (base < off + n))

/-- A plain store of bytes by a core within one page (R74, R97); the status and address that stop it, if any. -/
def coreStore (s : State) (lt : Nat) (c : CoreId) (addr : Nat) (bs : List Byte) : State × Option (Status × Nat) :=
  match coreOffset s lt c addr bs.length .write with
  | (s1, .error st) => (s1, some (st, addr))
  | (s1, .ok off) =>
    if boltForbids s1 lt off bs.length then (s1, some (stProtFault, addr))
    else
      match memWriteBy (localPath s1 lt c off bs.length) s1 lt off bs with
      | (s2, some e) => (s2, some (e.1, addr + (e.2 - off)))
      | (s2, none) => (s2, none)

/-- Store the pieces of a byte list in order; on a failure, the status and address. -/
def storePieces (s : State) (lt : Nat) (c : CoreId) (bs : List Byte) : List (Nat × Nat) → State × Option (Status × Nat)
  | [] => (s, none)
  | (a, n) :: r =>
    match coreStore s lt c a (bs.take n) with
    | (s1, some e) => (s1, some e)
    | (s1, none) => storePieces s1 lt c (bs.drop n) r

/-- The visible bytes of a range become undefined: free values, in the banks that are on (R110; log entry 2). -/
def scramble (s : State) (lt off n : Nat) : State :=
  let bs := s.freeBytes n
  (List.range n).foldl (fun st i =>
    if (wordBlocked st lt ((off + i) / 8)).isNone then memStore st lt (off + i) [bs.getD i 0] else st) s.drawn

/-- A load fault trap. -/
def loadFault (s : State) (e : Status × Nat) : InsnOut := .trap s causeLoad e.1 (some (BitVec.ofNat 64 e.2)) 0

/-- A store fault trap. -/
def storeFault (s : State) (e : Status × Nat) : InsnOut := .trap s causeStore e.1 (some (BitVec.ofNat 64 e.2)) 0

/-- A misaligned-access trap (R96). -/
def alignFault (s : State) (addr : DWord) : InsnOut := .trap s causeAlign stOk (some addr) 0

end Sys2Proof.Machine
end

