-- ==== Sys2Proof/Machine/Bolts.lean ====
section
/-!
DEFINITION. Bolts: their counters, reservations, completion window, and the register writes that open, close and set them
(03, R69 to R75; 11, R287, R288).
-/
namespace Sys2Proof.Machine

open Sys2Proof

/-! ### Counters -/

/-- The landed reservations at the front of a window, their slots, and whether one asks for NOTIFY. -/
def retireFront : List Resv → Nat × Bool × List Resv
  | [] => (0, false, [])
  | r :: rest =>
    if r.landed then
      let x := retireFront rest
      (r.slots + x.1, r.notify || x.2.1, x.2.2)
    else (0, false, r :: rest)

/-- COMMIT advances over the longest run of reserved slots whose writes have landed (R70); a NOTIFY message that commits
sets CH_STATUS.ARRIVE (11, R286). -/
def boltAdvance (s : State) (lt b : Nat) : State :=
  let x := retireFront (boltWindow s lt b)
  let s1 := setWindow s lt b x.2.2
  let s2 := s1.setTfld lt (regBoltCommit b) 19 0 ((boltCommit s lt b + x.1) % boltMod s lt b)
  if x.2.1 then s2.setTbit lt regChStatus 2 true else s2

/-- Slots RESERVE to RESERVE + k − 1 are reserved (R70). -/
def boltTake (s : State) (lt b k : Nat) : State :=
  (setWindow s lt b (boltWindow s lt b ++ [⟨boltReserve s lt b, k, false, false⟩])).setTfld lt (regBoltReserve b) 19 0
    ((boltReserve s lt b + k) % boltMod s lt b)

/-- The reservation that starts at counter `start` has landed; COMMIT advances (R70). -/
def boltLand (s : State) (lt b start : Nat) (notify : Bool) : State :=
  boltAdvance (setWindow s lt b ((boltWindow s lt b).map (fun r =>
    if r.start == start && !r.landed then { r with landed := true, notify := notify } else r))) lt b

/-- The parts of a write from the slot that `start` names: it continues at BASE when it passes the Bolt's end (R71). -/
def boltParts (s : State) (lt b start : Nat) (bs : List Byte) : List (Nat × List Byte) :=
  let cfg := boltCfg s lt b
  let off := slotOff s lt b start
  let room := cfgBase cfg + cfgSize cfg - off
  if bs.length ≤ room then [(off, bs)] else [(off, bs.take room), (cfgBase cfg, bs.drop room)]

/-- A core's write of parts in order, each over the bank-local path where it lies in the core's own window (R60); the status and offset that
stop it, if any. -/
def writeParts (s : State) (lt : Nat) (c : CoreId) : List (Nat × List Byte) → State × Option (Status × Nat)
  | [] => (s, none)
  | (off, bs) :: r =>
    match memWriteBy (localPath s lt c off bs.length) s lt off bs with
    | (s1, some e) => (s1, some e)
    | (s1, none) => writeParts s1 lt c r

/-- Prepare every part of a write, so that it is performed whole or not at all (R79). -/
def touchParts (s : State) (lt : Nat) : List (Nat × List Byte) → State × Option (Status × Nat)
  | [] => (s, none)
  | (off, bs) :: r =>
    match touchWrites s lt off bs.length (wordsOf off bs.length) with
    | (s1, some e) => (s1, some e)
    | (s1, none) => touchParts s1 lt r

/-- The first word of parts that lies in a bank that is off, if any. -/
def partsOff (s : State) (lt : Nat) (ps : List (Nat × List Byte)) : Option Nat :=
  (ps.flatMap (fun p => wordsOf p.1 p.2.length)).find? (fun w => wordBlocked s lt w == some stBankOff)

/-- What refuses a write of parts, if anything: an off bank anywhere comes before an error met in a read-modify-write (R79). -/
def readyAll (s : State) (lt : Nat) (ps : List (Nat × List Byte)) : State × Option (Status × Nat) :=
  if regionRefuses s lt then (s, some (stRegionOff, (ps.headD (0, [])).1))
  else
    match partsOff s lt ps with
    | some w => (s, some (stBankOff, 8 * w))
    | none => touchParts s lt ps

/-- Parts written whole or not at all (R79). -/
def writeAll (s : State) (lt : Nat) (ps : List (Nat × List Byte)) : State × Option (Status × Nat) :=
  match readyAll s lt ps with
  | (s1, some e) => (s1, some e)
  | (s1, none) => (ps.foldl (fun st p => 
      bumpXbar (bumpCnt (memStore st lt p.1 p.2) lt 5 (linesOf p.1 p.2.length)) false lt (linesOf p.1 p.2.length)) s1, none)

/-- A header of 32 B with a value of `n` bytes at one offset and a byte at another, every other byte zero. -/
def markHeader (o1 n v o2 b : Nat) : List Byte :=
  let z := List.replicate 32 (0 : Byte)
  let z1 := z.take o1 ++ leBytes n v ++ z.drop (o1 + n)
  z1.take o2 ++ leBytes 1 b ++ z1.drop (o2 + 1)

/-- The marking of a reservation of `bytes` bytes that ends without a successful write, by the KIND of its request
(11, R284): a void header (Table 11.3), a landing header with VOID (08, Table 8.12), or nothing. -/
def voidHeader (kind bytes : Nat) : List Byte :=
  if kind = 1 then markHeader 8 4 (bytes - 32) 0x11 0xFF
  else if kind = 2 then markHeader 0 8 (bytes - 32) 0x17 0x40
  else []

/-- A reservation ends without a successful write: it is marked, committed, and counts as filled (R80, R284). The header wraps as every write
into slots does (R71); one slot of 16 B, which only the mover voids (11, R291), takes the header's first 16 B (DESIGN CHOICE, log entry 54). -/
def boltVoid (s : State) (lt b start slots kind : Nat) : State :=
  let n := slots * cfgSlot (boltCfg s lt b)
  let s1 := (writeParts s lt .tcc (boltParts s lt b start ((voidHeader kind n).take n))).1
  boltLand s1 lt b start false

/-! ### Configuration -/

/-- The range that a landing window covers, from its base and size words. -/
def lwinRange (base size : Word) : Nat × Nat := (fld base 25 12 * 2 ^ 12, fld size 13 0 * 2 ^ 12)

/-- Whether two ranges (offset and length) overlap. -/
def overlaps (a b : Nat × Nat) : Bool := decide (a.1 < b.1 + b.2) && decide (b.1 < a.1 + a.2)

/-- The range of a Bolt. -/
def boltRange (cfg : Word) : Nat × Nat := (cfgBase cfg, cfgSize cfg)

/-- Whether a range overlaps an enabled Bolt other than `b`. -/
def meetsBolt (s : State) (lt : Nat) (r : Nat × Nat) (b : Nat) : Bool :=
  (List.range 64).any (fun i => i != b && bit (boltCfg s lt i) 0 && overlaps r (boltRange (boltCfg s lt i)))

/-- Whether a range overlaps an enabled landing window other than `m`. -/
def meetsLwin (s : State) (lt : Nat) (r : Nat × Nat) (m : Nat) : Bool :=
  (List.range 16).any (fun i => i != m && bit (s.treg lt (regMemLwinBase i)) 0 &&
    overlaps r (lwinRange (s.treg lt (regMemLwinBase i)) (s.treg lt (regMemLwinSize i))))

/-- Whether a configuration may be enabled (R69). -/
def boltCfgValid (s : State) (lt b : Nat) (cfg : Word) : Bool :=
  let sz := fld cfg 8 4
  let sl := fld cfg 30 26
  decide (12 ≤ sz) && decide (sz ≤ 23) && decide (4 ≤ sl) && decide (sl ≤ 16) && decide (sl + 1 ≤ sz) &&
    decide (cfgBase cfg % cfgSize cfg = 0) && visible (cfgBase cfg) (cfgSize cfg) &&
    !meetsBolt s lt (boltRange cfg) b && !meetsLwin s lt (boltRange cfg) 16

/-- The writable bits of BOLT_CFG: EN, STRICT, PLAIN_WR, REMOTE, SIZE_LOG2, BASE and SLOT_LOG2. -/
def boltCfgMask : Word := 0x7FFFF1FF

/-- A closed target refuses every request that waits in its queue (11, R288). -/
def refuseQueue (s : State) (lt : Nat) (target : Nat) : State :=
  let q := kvGet [] (s.tile lt).reqQ target
  let s1 := s.modTile lt (fun t => { t with reqQ := kvSet t.reqQ target [] })
  q.foldl (fun st m => netSend st (.credit m.peer.toNat 4
    { m with status := stPeerClosed, kind := 0, creditTag := 0, peer := BitVec.ofNat 64 (tileGa st lt), am := false })) s1

/-- Every request that waits at a tile is refused: job load closes every Bolt and window (11, R287, R288). -/
def refuseAll (s : State) (lt : Nat) : State := ((s.tile lt).reqQ.map (·.1)).foldl (fun x t => refuseQueue x lt t) s

/-- A write of BOLT_CFGn (R69, R75): while EN is 1 only EN and STRICT are taken; setting EN opens the Bolt where the
configuration is valid, and else leaves it closed and sets CFG_ERR; clearing EN closes it. A Bolt owned by the Sketch
store ignores the write (09, R237). -/
def writeBoltCfg (s : State) (lt b : Nat) (v : Word) : State :=
  let old := boltCfg s lt b
  if (s.tile lt).boltOwned.contains b then s
  else if bit old 0 then
    let w := setBit (setBit old 1 (bit v 1)) 0 (bit v 0)
    let s1 := s.setTreg lt (regBoltCfg b) w
    if bit v 0 then s1 else refuseQueue s1 lt b
  else
    let w := v &&& boltCfgMask
    if bit w 0 then
      if boltCfgValid s lt b w then s.setTreg lt (regBoltCfg b) w
      else (s.setTreg lt (regBoltCfg b) (setBit w 0 false)).setTbit lt (regBoltStatus b) 5 true
    else s.setTreg lt (regBoltCfg b) w

/-- The offset of a Bolt counter register. -/
def counterReg (b : Nat) : BoltCounter → Nat
  | .head => regBoltHead b
  | .commit => regBoltCommit b
  | .reserve => regBoltReserve b

/-- A write of HEAD, COMMIT or RESERVE: stored only while EN, GRANTED and WINDOW are 0 (R75). -/
def writeBoltCounter (s : State) (lt b : Nat) (w : BoltCounter) (v : Word) : State :=
  if bit (boltCfg s lt b) 0 || s.tfld lt (regBoltGranted b) 19 0 != 0 || !(boltWindow s lt b).isEmpty ||
      (s.tile lt).boltOwned.contains b then s
  else (setOvfMsgs s lt b []).setTreg lt (counterReg b w) (v &&& 0xFFFFF)

/-- A write of MEM_LWIN_BASEm (R82): BASE is taken only while EN is 0; enabling takes effect only on a valid base and
size; clearing EN closes the window and refuses its queue. A refused enabling write stores its BASE all the same, EN being 0 (DESIGN CHOICE,
log entry 54). -/
def writeLwinBase (s : State) (lt m : Nat) (v : Word) : State :=
  let old := s.treg lt (regMemLwinBase m)
  if bit old 0 then
    if bit v 0 then s else refuseQueue (s.setTreg lt (regMemLwinBase m) (setBit old 0 false)) lt (128 + m)
  else
    let w := v &&& 0x03FFF001
    let r := lwinRange w (s.treg lt (regMemLwinSize m))
    if bit w 0 && !(decide (1 ≤ r.2) && visible r.1 r.2 && !meetsBolt s lt r 64) then
      s.setTreg lt (regMemLwinBase m) (setBit w 0 false)
    else s.setTreg lt (regMemLwinBase m) w

/-- A write of MEM_LWIN_RELm releases granted bytes (R81). -/
def writeLwinRel (s : State) (lt m : Nat) (v : Word) : State :=
  let g := s.tfld lt (regMemLwinCred m) 25 0
  s.setTfld lt (regMemLwinCred m) 25 0 (g - min g (fld v 25 0))

/-- The answer to a register access: its status, and the word read (R17). -/
def accessReply (s : State) (st : Status) (v : Word) : State :=
  { s with replies := s.replies ++ [⟨0, st.toNat, leBytes 4 v.toNat⟩] }

/-- A register write from a level: at U it completes with PROT_FAULT and is not performed (R59). -/
def regCommand (lt : Nat) (lv : Level) (f : State → State) (s : State) : Out :=
  onTile lt s (fun s => if lv = .u then accessReply s stProtFault 0 else accessReply (f s) stOk 0)

/-- A write of a register that is written at M only (16, R411; 17, R424; 19, R463; 20, R481): PROT_FAULT at U, ignored from S. -/
def mCommand (lv : Level) (f : State → State) (s : State) : State :=
  match lv with
  | .u => accessReply s stProtFault 0
  | .s => accessReply s stOk 0
  | .m => accessReply (f s) stOk 0

/-! ### The commands -/

/-- A write of BOLT_CFGn that sets EN (R69). -/
def execBoltEnable (lt : Nat) (lv : Level) (b : BitVec 6) (v : Word) (s : State) : Out :=
  regCommand lt lv (fun s => writeBoltCfg s lt b.toNat (setBit v 0 true)) s

/-- A write of BOLT_CFGn that clears EN (11, R287, R288). -/
def execBoltClose (lt : Nat) (lv : Level) (b : BitVec 6) (v : Word) (s : State) : Out :=
  regCommand lt lv (fun s => writeBoltCfg s lt b.toNat (setBit v 0 false)) s

/-- A write of HEAD, COMMIT or RESERVE (R75). -/
def execBoltCounterWrite (lt : Nat) (lv : Level) (b : BitVec 6) (which : BoltCounter) (v : Word) (s : State) : Out :=
  regCommand lt lv (fun s => writeBoltCounter s lt b.toNat which v) s

/-- Whether some core of the tile waits on Bolt `b`. -/
def someoneWaits (t : Tile) (w : Wait) : Bool :=
  t.tcc.wait == some w || t.lanes.any (fun p => p.2.wait == some w)

/-- A stall on a Bolt longer than the channel stall timeout: STALLED is set and event 0x03 recorded; the stall goes on
(R73). -/
def execBoltStallTimeout (lt : Nat) (b : BitVec 6) (s : State) : Out :=
  onTile lt s (fun s =>
    if someoneWaits (s.tile lt) (.bolt b.toNat) then
      skbEvent (s.setTbit lt (regBoltStatus b.toNat) 2 true) (.tile lt) 0x03
        [b.toNat, boltHead s lt b.toNat, boltCommit s lt b.toNat, boltReserve s lt b.toNat]
    else s)

/-- A write of MEM_LWIN_BASEm that sets EN (R82). -/
def execLwinEnable (lt : Nat) (lv : Level) (m : BitVec 4) (v : Word) (s : State) : Out :=
  regCommand lt lv (fun s => writeLwinBase s lt m.toNat (setBit v 0 true)) s

/-- A write of MEM_LWIN_RELm (R81). -/
def execLwinRelease (lt : Nat) (lv : Level) (m : BitVec 4) (v : Word) (s : State) : Out :=
  regCommand lt lv (fun s => writeLwinRel s lt m.toNat v) s

end Sys2Proof.Machine
end

