-- ==== Sys2Proof/Machine/Banks.lean ====
section
/-!
DEFINITION. Bank power and the patrol scrubber (03, R64 to R68).
-/
namespace Sys2Proof.Machine

open Sys2Proof

/-- The state with the power state of a bank set. -/
def setBank (s : State) (lt b : Nat) (x : BankSt) : State := s.modTile lt (fun t => { t with banks := kvSet t.banks b x })

/-- The requests that wait on a bank, true for a power-up (R67). -/
def bankWaits (s : State) (lt b : Nat) : List Bool := kvGet [] (s.tile lt).bankQ b

/-- The state with the waiting requests of a bank replaced. -/
def setBankWaits (s : State) (lt b : Nat) (q : List Bool) : State :=
  s.modTile lt (fun t => { t with bankQ := kvSet t.bankQ b q })

/-- Whether a power operation runs on a bank. -/
def bankBusy (s : State) (lt b : Nat) : Bool := (s.tile lt).bank b == .draining || (s.tile lt).bank b == .ramping

/-- The visible part of a bank under the LINEAR map (R56). -/
def bankRange (b : Nat) : Nat × Nat := (0x9C000 * b, 0x9C000)

/-- Why a power-down is refused, if it is (R65; MEM_PWR_STATUS.CAUSE). Where several causes hold the lowest number is reported (DESIGN CHOICE,
log entry 54: the spec gives no order). -/
def downCause (s : State) (lt b : Nat) : Option Nat :=
  if interleavedOf s lt then some 1
  else if meetsBolt s lt (bankRange b) 64 then some 2
  else if meetsLwin s lt (bankRange b) 16 then some 3
  else if (s.tile lt).laneSaved then some 4
  else if (s.tile lt).bank b = .off ∨ (s.tile lt).bank b = .ramping then some 5
  else none

/-- A refused request (R65, R67): the flag and its cause; the bank is left as it is. -/
def refuseBank (s : State) (lt cause : Nat) : State := (s.setTfld lt regMemPwrStatus 12 10 cause).setTbit lt regMemPwrStatus 9 true

/-- A request that does not wait: refused, or its operation starts. From the fence on a bank that powers down accepts no access
(R66), and a bank that powers up none before it is on (R67). -/
def startBank (s : State) (lt b : Nat) (up : Bool) : State :=
  if up then (if (s.tile lt).bank b = .on then refuseBank s lt 6 else setBank s lt b .ramping)
  else
    match downCause s lt b with
    | some c => refuseBank s lt c
    | none => setBank s lt b .draining

/-- A power request for a bank (R65, R67): one made while an operation runs on the bank waits, but for a power-down of a bank that
powers up, which is refused. -/
def requestBank (s : State) (lt b : Nat) (up : Bool) : State :=
  let s1 := s.setTfld lt regMemPwrStatus 5 0 b
  if bankBusy s1 lt b then
    (if !up && (s1.tile lt).bank b == .ramping then refuseBank s1 lt 5 else setBankWaits s1 lt b (bankWaits s1 lt b ++ [up]))
  else startBank s1 lt b up

/-- A write of MEM_PWR_CTRL: BANK and OP are stored, and GO submits the request. -/
def writeMemPwr (s : State) (lt : Nat) (v : Word) : State :=
  let s1 := s.setTreg lt regMemPwrCtrl (v &&& 0x13F)
  if bit v 9 then requestBank s1 lt (fld v 5 0) (bit v 8) else s1

/-- The word of MEM_PWR_CTRL that submits a request. -/
def pwrWord (b : BitVec 6) (up : Bool) : Word := BitVec.ofNat 32 (b.toNat + b2n up * 2 ^ 8 + 2 ^ 9)

/-- BANK_POWER_DOWN (R65). -/
def execBankPowerDown (lt : Nat) (lv : Level) (bank : BitVec 6) (s : State) : Out :=
  regCommand lt lv (fun s => writeMemPwr s lt (pwrWord bank false)) s

/-- BANK_POWER_UP (R67). -/
def execBankPowerUp (lt : Nat) (lv : Level) (bank : BitVec 6) (s : State) : Out :=
  regCommand lt lv (fun s => writeMemPwr s lt (pwrWord bank true)) s

/-- A bank's contents, check bits and poison marks become zero: its visible lines and its part of the save area (R55, R66, R67). -/
def eraseBank (s : State) (lt b : Nat) : State :=
  let m := interleavedOf s lt
  s.modTile lt (fun t => { t with
    mem := t.mem.filter (fun p => bankOf m p.1 != b)
    errs := t.errs.filter (fun p => bankOf m (8 * p.1) != b) })

/-- BANK_POWER_OFF_DONE (R66): the bank is off and keeps no contents. -/
def execBankPowerOffDone (lt : Nat) (bank : BitVec 6) (s : State) : Out :=
  onTile lt s (fun s =>
    if (s.tile lt).bank bank.toNat = .draining then eraseBank (setBank s lt bank.toNat .off) lt bank.toNat else s)

/-- BANK_POWER_UP_DONE (R67): every line is zero with valid check bits, and the bank is on. -/
def execBankPowerUpDone (lt : Nat) (bank : BitVec 6) (s : State) : Out :=
  onTile lt s (fun s =>
    if (s.tile lt).bank bank.toNat = .ramping then eraseBank (setBank s lt bank.toNat .on) lt bank.toNat else s)

/-- BANK_POWER_QUEUED_START (R67): the oldest request that waited on a bank, once no operation runs on it. MEM_PWR_STATUS.BANK then names its
bank (DESIGN CHOICE, log entry 54). -/
def execBankPowerQueuedStart (lt : Nat) (bank : BitVec 6) (s : State) : Out :=
  onTile lt s (fun s =>
    match bankWaits s lt bank.toNat with
    | up :: rest =>
      if bankBusy s lt bank.toNat then s
      else startBank ((setBankWaits s lt bank.toNat rest).setTfld lt regMemPwrStatus 5 0 bank.toNat) lt bank.toNat up
    | [] => s)

/-! ### The patrol scrubber -/

/-- The lines of a bank: 9,984 visible and 256 of the save area (R55). -/
def bankLines : Nat := 10240

/-- The tile-memory offset of line `i` of visible bank `b` (R55 to R57). -/
def bankLine (interleaved : Bool) (b i : Nat) : Nat :=
  if 9984 ≤ i then saveBase + 0x4000 * b + 64 * (i - 9984)
  else if interleaved then 0x4000 * (i / 4) + 256 * b + 64 * (i % 4)
  else 0x9C000 * b + 64 * i

/-- The scrubber reads one line of a bank (R63, R64). A bank that is off is not read. -/
def scrubLine (lt i : Nat) (s : State) (b : Nat) : State :=
  if (s.tile lt).bank b = .on then
    (wordsOf (bankLine (interleavedOf s lt) b i) 64).foldl (fun st w => (touchRead st lt w).1) s
  else s

/-- SCRUB_TICK (R64). -/
def execScrubTick (lt : Nat) (s : State) : Out :=
  onTile lt s (fun s =>
    if s.tbit lt regMemCfg 1 && !unitsStop s lt then
      ((List.range 64).foldl (scrubLine lt (s.tile lt).scrubPos) s).modTile lt
        (fun t => { t with scrubPos := (t.scrubPos + 1) % bankLines })
    else s)

end Sys2Proof.Machine
end

