-- ==== Sys2Proof/Machine/BoltInsn.lean ====
section
/-!
DEFINITION. The Bolt instructions: OP 0x12 (04, R100; 03, R70 to R74).
-/
namespace Sys2Proof.Machine

open Sys2Proof

/-- A Bolt fault trap. What TILE_TRAP_INFO_x takes for it is not stated: a free value (log entry 2). -/
def boltFault (s : State) (st : Status) : InsnOut := .trap s causeBolt st none 0

/-- Both core types at any level; not in an active-message handler (11, R297). -/
def anyCoreNoAm : Where := ⟨true, true, .u, false⟩

/-- The reachable bytes of a destination become undefined (R110). -/
def scramblePieces (s : State) (lt : Nat) (c : CoreId) : List (Nat × Nat) → State
  | [] => s
  | (a, n) :: r =>
    match coreOffset s lt c a n .write with
    | (s1, .error _) => scramblePieces s1 lt c r
    | (s1, .ok off) => scramblePieces (if boltForbids s1 lt off n then s1 else scramble s1 lt off n) lt c r

/-- `bolt.push`: `n` bytes from an address into newly reserved slots (R70, R71, R100). -/
def boltPush (s : State) (lt : Nat) (c : CoreId) (rd : BitVec 5) (b addr n : Nat) (word : Word) : InsnOut :=
  if !boltOpen s lt b then boltFault s stPeerClosed
  else
    let slot := cfgSlot (boltCfg s lt b)
    let k := ceilDiv n slot
    if n = 0 ∨ 65536 < n ∨ boltSlots (boltCfg s lt b) < k then illegalOperand s word
    else if boltFree s lt b < k ∨ 64 ≤ (boltWindow s lt b).length then .wait s (.bolt b)
    else
      let start := boltReserve s lt b
      match coreRead s lt c addr n with
      | (s1, .error e) => loadFault s1 e
      | (s1, .ok bs) =>
        match writeParts s1 lt c (boltParts s1 lt b start bs) with
        | (s2, some e) =>
          storeFault ((boltParts s1 lt b start bs).foldl (fun st p => scramble st lt p.1 p.2.length) s2) e
        | (s2, none) => .done (gWrite (boltLand (boltTake s2 lt b k) lt b start false) lt c rd (BitVec.ofNat 64 start))

/-- A consumer of a Bolt: `body` where HEAD differs from COMMIT; else a stall, or a fault while STRICT is set (R72). -/
def boltConsume (s : State) (lt b : Nat) (body : State → InsnOut) : InsnOut :=
  if !boltOpen s lt b then boltFault s stPeerClosed
  else if boltReady s lt b = 0 then
    if bit (boltCfg s lt b) 1 then boltFault (s.setTbit lt (regBoltStatus b) 3 true) stBoltEmpty
    else .wait s (.bolt b)
  else body s

/-- `bolt.pop`: the head slot is copied out and released (R72, R100). -/
def boltPop (s : State) (lt : Nat) (c : CoreId) (rd : BitVec 5) (b addr : Nat) : InsnOut :=
  boltConsume s lt b (fun s =>
    let slot := cfgSlot (boltCfg s lt b)
    let off := slotOff s lt b (boltHead s lt b)
    match memReadBy (localPath s lt c off slot) s lt off slot with
    | (s1, .error e) => loadFault s1 e
    | (s1, .ok bs) =>
      match storePieces s1 lt c bs (piecesOf addr slot) with
      | (s2, some e) => storeFault (scramblePieces s2 lt c (piecesOf addr slot)) e
      | (s2, none) => .done (gWrite (boltRelease s2 lt b 1) lt c rd (BitVec.ofNat 64 slot)))

/-- `bolt.rel`: `k` slots are released, never past COMMIT (R72). -/
def boltRel (s : State) (lt b k : Nat) (word : Word) : InsnOut :=
  if !boltOpen s lt b then boltFault s stPeerClosed
  else if k = 0 then illegalOperand s word
  else if boltReady s lt b < k then boltFault (s.setTbit lt (regBoltStatus b) 3 true) stBoltEmpty
  else .done (boltRelease s lt b k)

/-- `bolt.push` (04, R100). -/
def execBoltPush (lt : Nat) (c : CoreId) (rd rs1 rs2 : BitVec 5) (idx : BitVec 6) (s : State) : Out :=
  let word := wordT 0x12 rd rs1 rs2 idx 0
  insn lt c 4 word anyCoreNoAm (fun s =>
    boltPush s lt c rd idx.toNat (gRead s lt c rs1).toNat (gRead s lt c rs2).toNat word) s

/-- `bolt.peek` (04, R100). -/
def execBoltPeek (lt : Nat) (c : CoreId) (rd rs1 rs2 : BitVec 5) (idx : BitVec 6) (s : State) : Out :=
  insn lt c 4 (wordT 0x12 rd rs1 rs2 idx 1) anyCoreNoAm (fun s =>
    boltConsume s lt idx.toNat (fun s =>
      .done (gWrite s lt c rd (BitVec.ofNat 64 (slotOff s lt idx.toNat (boltHead s lt idx.toNat)))))) s

/-- `bolt.pop` (04, R100). -/
def execBoltPop (lt : Nat) (c : CoreId) (rd rs1 rs2 : BitVec 5) (idx : BitVec 6) (s : State) : Out :=
  insn lt c 4 (wordT 0x12 rd rs1 rs2 idx 2) anyCoreNoAm (fun s =>
    boltPop s lt c rd idx.toNat (gRead s lt c rs1).toNat) s

/-- `bolt.rel` (03, R72). -/
def execBoltRel (lt : Nat) (c : CoreId) (rd rs1 rs2 : BitVec 5) (idx : BitVec 6) (s : State) : Out :=
  let word := wordT 0x12 rd rs1 rs2 idx 3
  insn lt c 4 word anyCoreNoAm (fun s => boltRel s lt idx.toNat (gRead s lt c rs2).toNat word) s

end Sys2Proof.Machine
end

