-- ==== Sys2Proof/Machine/Flags.lean ====
section
/-!
DEFINITION. The sticky floating-point flags of LC_FCSR (04, LC_FCSR.FLAGS). The machine has no other flags.
-/
namespace Sys2Proof.Machine

open Sys2Proof

/-- The five sticky flags, one instruction's contribution to them. -/
structure FpFlags where
  invalid : Bool
  divZero : Bool
  overflow : Bool
  underflow : Bool
  inexact : Bool
deriving DecidableEq, Repr

/-- No flag. -/
def FpFlags.none : FpFlags := ⟨false, false, false, false, false⟩

/-- Both contributions. -/
def FpFlags.or (a b : FpFlags) : FpFlags :=
  ⟨a.invalid || b.invalid, a.divZero || b.divZero, a.overflow || b.overflow, a.underflow || b.underflow,
    a.inexact || b.inexact⟩

/-- LC_FCSR with flags added; they are sticky. -/
def fcsrWith (w : Word) (f : FpFlags) : Word :=
  w ||| BitVec.ofNat 32 (b2n f.invalid * 2 ^ 4 + b2n f.divZero * 2 ^ 5 + b2n f.overflow * 2 ^ 6 + b2n f.underflow * 2 ^ 7
    + b2n f.inexact * 2 ^ 8)

/-- Rounding mode of LC_FCSR: 0 nearest even, 1 toward zero, 2 down, 3 up, 4 stochastic; 5 to 7 are treated as 0. -/
def fcsrRm (w : Word) : Nat := if fld w 2 0 ≤ 4 then fld w 2 0 else 0

end Sys2Proof.Machine
end

