-- ==== Sys2Proof/Machine/Numerics.lean ====
section
/-!
DEFINITION. Numbers and their formats: exact values, rounding, encoding, arithmetic (07, R170 to R180; 05, R120).
-/
namespace Sys2Proof.Machine

open Sys2Proof

/-! ### Exact values -/

/-- Positive zero. -/
def FVal.zero : FVal := .fin false 0 0

/-- `m × 2 ^ k` for a non-negative shift. -/
def shl (m : Nat) (k : Int) : Nat := m * 2 ^ k.toNat

/-- The significand of a signed finite value at exponent `e ≤ its own`. -/
def sigAt (neg : Bool) (m : Nat) (e e0 : Int) : Int :=
  if neg then -(shl m (e - e0) : Int) else (shl m (e - e0) : Int)

/-- A signed significand at an exponent as a value; `zneg` is the sign of a zero. -/
def ofSig (x : Int) (e : Int) (zneg : Bool) : FVal :=
  if x = 0 then .fin zneg 0 0 else .fin (decide (x < 0)) x.natAbs e

/-- The negated value. -/
def FVal.neg : FVal → FVal
  | .nan => .nan
  | .inf s => .inf (!s)
  | .fin s m e => .fin (!s) m e

/-- The magnitude of a value. -/
def FVal.abs : FVal → FVal
  | .nan => .nan
  | .inf _ => .inf false
  | .fin _ m e => .fin false m e

/-- The value times a power of two. -/
def FVal.scale (v : FVal) (k : Int) : FVal :=
  match v with
  | .fin s m e => .fin s m (e + k)
  | x => x

/-- Whether a value is a NaN. -/
def FVal.isNan (v : FVal) : Bool := match v with | .nan => true | _ => false

/-- Whether a value is finite. -/
def FVal.isFin (v : FVal) : Bool := match v with | .fin _ _ _ => true | _ => false

/-- Whether a value is a zero. -/
def FVal.isZero (v : FVal) : Bool := match v with | .fin _ m _ => m == 0 | _ => false

/-- The exact product; infinity times zero is a NaN. -/
def FVal.mul (a b : FVal) : FVal :=
  match a, b with
  | .nan, _ => .nan
  | _, .nan => .nan
  | .inf s, .inf t => .inf (s != t)
  | .inf s, .fin t m _ => if m = 0 then .nan else .inf (s != t)
  | .fin s m _, .inf t => if m = 0 then .nan else .inf (s != t)
  | .fin s m e, .fin t n f => .fin (s != t) (m * n) (e + f)

/-- The exact sum; opposite infinities give a NaN. `rd` is true where an exact zero from unlike signs is negative
(rounding down). -/
def FVal.add (rd : Bool) (a b : FVal) : FVal :=
  match a, b with
  | .nan, _ => .nan
  | _, .nan => .nan
  | .inf s, .inf t => if s = t then .inf s else .nan
  | .inf s, .fin _ _ _ => .inf s
  | .fin _ _ _, .inf t => .inf t
  | .fin s m e, .fin t n f =>
    let e0 := min e f
    ofSig (sigAt s m e e0 + sigAt t n f e0) e0 (if s = t then s else rd)

/-- The sign and magnitude order of two values that are not NaN: −1, 0 or 1. -/
def FVal.cmp (a b : FVal) : Int :=
  match a, b with
  | .inf s, .inf t => if s = t then 0 else if s then -1 else 1
  | .inf s, _ => if s then -1 else 1
  | _, .inf t => if t then 1 else -1
  | .fin s m e, .fin t n f =>
    let d := sigAt s m e (min e f) - sigAt t n f (min e f)
    if d = 0 then 0 else if d < 0 then -1 else 1
  | _, _ => 0

/-- Whether a sum or product of operands that are not NaN is one: the invalid operation. -/
def newNan (ops : List FVal) (r : FVal) : Bool := r.isNan && ops.all (fun x => !x.isNan)

/-! ### Formats -/

/-- A floating-point format: its bits, significand bits, bias, and which encodings are special: 0 all-ones exponents are
infinity and NaN, 1 the all-ones encodings are NaN (E4M3), 2 none (Table 7.1). -/
structure FloatFmt where
  bits : Nat
  mb : Nat
  bias : Nat
  kind : Nat
deriving DecidableEq, Repr

def fp32 : FloatFmt := ⟨32, 23, 127, 0⟩
def bf16 : FloatFmt := ⟨16, 7, 127, 0⟩
def fp16 : FloatFmt := ⟨16, 10, 15, 0⟩
def e4m3 : FloatFmt := ⟨8, 3, 7, 1⟩
def e5m2 : FloatFmt := ⟨8, 2, 15, 0⟩
def e3m2 : FloatFmt := ⟨6, 2, 3, 2⟩
def e2m3 : FloatFmt := ⟨6, 3, 1, 2⟩
def e2m1 : FloatFmt := ⟨4, 1, 1, 2⟩
def fp64 : FloatFmt := ⟨64, 52, 1023, 0⟩

/-- Exponent bits of a format. -/
def FloatFmt.eb (f : FloatFmt) : Nat := f.bits - 1 - f.mb

/-- The canonical NaN of a format that has one (Table 7.1, R177). -/
def FloatFmt.nan (f : FloatFmt) : Nat :=
  if f.kind = 1 then 2 ^ (f.bits - 1) - 1 else (2 ^ f.eb - 1) * 2 ^ f.mb + 2 ^ (f.mb - 1)

/-- The infinity of a format that has one. -/
def FloatFmt.inf (f : FloatFmt) (neg : Bool) : Nat := (2 ^ f.eb - 1) * 2 ^ f.mb + b2n neg * 2 ^ (f.bits - 1)

/-- The exponent of the spacing of subnormal values. -/
def FloatFmt.qmin (f : FloatFmt) : Int := 1 - (f.bias : Int) - f.mb

/-- The largest finite value: significand and exponent. -/
def FloatFmt.top (f : FloatFmt) : Nat × Int :=
  if f.kind = 0 then (2 ^ (f.mb + 1) - 1, (2 ^ f.eb : Int) - 2 - f.bias - f.mb)
  else if f.kind = 1 then (2 ^ (f.mb + 1) - 2, (2 ^ f.eb : Int) - 1 - f.bias - f.mb)
  else (2 ^ (f.mb + 1) - 1, (2 ^ f.eb : Int) - 1 - f.bias - f.mb)

/-- The value of an encoding (R171). -/
def FloatFmt.decode (f : FloatFmt) (x : Nat) : FVal :=
  let neg := nbit x (f.bits - 1)
  let ef := nfld x (f.bits - 2) f.mb
  let mf := x % 2 ^ f.mb
  if f.kind = 0 ∧ ef = 2 ^ f.eb - 1 then (if mf = 0 then .inf neg else .nan)
  else if f.kind = 1 ∧ ef = 2 ^ f.eb - 1 ∧ mf = 2 ^ f.mb - 1 then .nan
  else if ef = 0 then .fin neg mf f.qmin
  else .fin neg (2 ^ f.mb + mf) ((ef : Int) - f.bias - f.mb)

/-! ### Rounding -/

/-- How a value between two neighbours is rounded: R120, R178, R179 with its random bits, R186 for ties up. -/
inductive Rnd where
  | near | zero | down | up
  | stoch (r : Nat)
  | tiesUp
deriving DecidableEq, Repr

/-- `m / 2 ^ d` rounded, for a value of the given sign; and whether it was exact. -/
def roundDiv (r : Rnd) (neg : Bool) (m d : Nat) : Nat × Bool :=
  let p := 2 ^ d
  let lo := m / p
  let rem := m % p
  if rem = 0 then (lo, true)
  else
    let hi := match r with
      | .near => decide (2 * rem > p) || (decide (2 * rem = p) && lo % 2 == 1)
      | .zero => false
      | .down => neg
      | .up => !neg
      | .stoch x => decide (rem * 2 ^ 32 / p + x ≥ 2 ^ 32)
      | .tiesUp => decide (2 * rem > p) || (decide (2 * rem = p) && !neg)
    (if hi then lo + 1 else lo, false)

/-- A magnitude rounded to a multiple of `2 ^ q`. -/
def roundAt (r : Rnd) (neg : Bool) (m : Nat) (e q : Int) : Nat × Bool :=
  if q ≤ e then (shl m (e - q), true) else roundDiv r neg m (q - e).toNat

/-- The exponent of the spacing of a format at a magnitude that is not zero; the exponent range is unbounded above (R173
step 5). -/
def FloatFmt.spacing (f : FloatFmt) (m : Nat) (e : Int) : Int := max ((Nat.log2 m : Int) + e - f.mb) f.qmin

/-- A magnitude rounded to a format's grid: significand, exponent, and whether it was exact. -/
def FloatFmt.round (f : FloatFmt) (r : Rnd) (neg : Bool) (m : Nat) (e : Int) : Nat × Int × Bool :=
  if m = 0 then (0, f.qmin, true)
  else
    let q := f.spacing m e
    let x := roundAt r neg m e q
    (x.1, q, x.2)

/-- Whether a rounded magnitude exceeds the largest finite value. -/
def FloatFmt.exceeds (f : FloatFmt) (k : Nat) (q : Int) : Bool :=
  (FVal.fin false k q).cmp (.fin false f.top.1 f.top.2) == 1

/-- The encoding of a magnitude on the grid that does not exceed the largest finite value. -/
def FloatFmt.pack (f : FloatFmt) (neg : Bool) (k : Nat) (q : Int) : Nat :=
  let s := b2n neg * 2 ^ (f.bits - 1)
  if k < 2 ^ f.mb then s + k
  else
    let x := if k = 2 ^ (f.mb + 1) then (2 ^ f.mb, q + 1) else (k, q)
    s + (x.2 + f.mb + f.bias).toNat * 2 ^ f.mb + (x.1 - 2 ^ f.mb)

/-- The largest finite encoding with a sign. -/
def FloatFmt.maxBits (f : FloatFmt) (neg : Bool) : Nat := f.pack neg f.top.1 f.top.2

/-- Whether a rounded magnitude lies below the smallest normal value. -/
def FloatFmt.tiny (f : FloatFmt) (k : Nat) : Bool := decide (k < 2 ^ f.mb)

/-- What an arithmetic result that overflows becomes, by the rounding mode (IEEE 754 under Table 7.2). -/
def FloatFmt.overflow (f : FloatFmt) (r : Rnd) (neg : Bool) : Nat :=
  match r with
  | .zero => f.maxBits neg
  | .down => if neg then f.inf true else f.maxBits false
  | .up => if neg then f.maxBits true else f.inf false
  | _ => f.inf neg

/-- An arithmetic result rounded once to a format with infinities, with its flags (R120, R172). -/
def FloatFmt.result (f : FloatFmt) (r : Rnd) (v : FVal) : Nat × FpFlags :=
  match v with
  | .nan => (f.nan, .none)
  | .inf s => (f.inf s, .none)
  | .fin s m e =>
    let x := f.round r s m e
    if f.exceeds x.1 x.2.1 then (f.overflow r s, { FpFlags.none with overflow := true, inexact := true })
    else (f.pack s x.1 x.2.1, { FpFlags.none with underflow := !x.2.2 && f.tiny x.1, inexact := !x.2.2 })

/-- The largest FP32 magnitude not above a finite magnitude (R173 step 2). -/
def fp32Below (m : Nat) (e : Int) : Nat :=
  let x := fp32.round .zero false m e
  if fp32.exceeds x.1 x.2.1 then fp32.maxBits false else fp32.pack false x.1 x.2.1

/-- A value decoded into FP32 (R173): beyond the range it becomes an infinity; below, it rounds to nearest even. -/
def toFp32 (v : FVal) : Nat := (fp32.result .near v).1

/-- `floor(log2)` of a finite magnitude that is not zero. -/
def numLog2 (m : Nat) (e : Int) : Int := (Nat.log2 m : Int) + e

/-! ### The rounding stream -/

/-- The 32 random bits for a key (R180). -/
def roundStream (seed step tid idx : Nat) : Nat :=
  let w := 2 ^ 32
  let p := (seed % w) ^^^ (step * 0x9E3779B9 % w)
  let q := (seed / w % w) ^^^ (tid * 0x85EBCA6B % w)
  let x := (idx % w) ^^^ p
  let y := (idx / w % w) ^^^ q
  let x := (x * 0xC2B2AE35 + y) % w
  let x := x ^^^ (x / 2 ^ 15)
  let x := x * 0x85EBCA6B % w
  x ^^^ (x / 2 ^ 16)

/-! ### The compensated residual format -/

/-- The exponent of an FP32 value (R185): that of its significand, −126 for zero and subnormal values. -/
def fp32Exp (s : Nat) : Int := if nfld s 30 23 = 0 then -126 else (nfld s 30 23 : Int) - 127

/-- A 16-bit tail as a signed number. -/
def tailInt (t : Nat) : Int := sgn 16 t

/-- The exact value of an FP32+C pair (R185). -/
def fp32cValue (s t : Nat) : FVal :=
  match fp32.decode s with
  | .fin n m e =>
    if tailInt t = 0 then .fin n m e
    else (FVal.fin n m e).add false (ofSig (tailInt t) (fp32Exp s - 39) false)
  | x => x

/-- Steps 2 and 3 of R186: a value rounded to FP32 with ties toward +∞, and its tail. `zneg` is the sign of an exact
zero. -/
def fp32cRound (v : FVal) (zneg : Bool) : Nat × Nat :=
  match v with
  | .nan => (fp32.nan, 0)
  | .inf s => (fp32.inf s, 0)
  | .fin s m e =>
    if m = 0 then (b2n zneg * 2 ^ 31, 0)
    else
      let x := fp32.round .tiesUp s m e
      if fp32.exceeds x.1 x.2.1 then (fp32.inf s, 0)
      else
        let w := fp32.pack s x.1 x.2.1
        match (FVal.fin s m e).add false ((FVal.fin s x.1 x.2.1).neg) with
        | .fin ns nm ne =>
          let t := (roundAt .zero ns nm ne (fp32Exp w - 39)).1
          (w, if ns then (2 ^ 16 - t) % 2 ^ 16 else t % 2 ^ 16)
        | _ => (w, 0)

/-- An FP32 value added into an FP32+C pair (R186). -/
def fp32cAdd (s t x : Nat) : Nat × Nat :=
  let a := fp32.decode s
  let b := fp32.decode x
  let v := (fp32cValue s t).add false b
  let zneg := a.isZero && b.isZero && nbit s 31 && nbit x 31 && tailInt t == 0
  fp32cRound v zneg

end Sys2Proof.Machine
end

