-- ==== Sys2Proof/Machine/Palette.lean ====
section
/-!
DEFINITION. Conversions through Palette entries (07, R173 to R179, R182, R183, R187).
-/
namespace Sys2Proof.Machine

open Sys2Proof

/-! ### Entries -/

def PalCfg.format (p : PalCfg) : Nat := fld p.w0 3 0
def PalCfg.sat (p : PalCfg) : Bool := bit p.w0 8
def PalCfg.ftz (p : PalCfg) : Bool := bit p.w0 9
def PalCfg.study (p : PalCfg) : Bool := bit p.w0 11
def PalCfg.role (p : PalCfg) : Nat := fld p.w0 18 16
def PalCfg.roundCode (p : PalCfg) : Nat := fld p.w0 25 24
def PalCfg.scaleExp (p : PalCfg) : Int := sgn 8 (fld p.w1 7 0)

/-- Word `w` of entry `n` of a tile's Palette. -/
def palWord (s : State) (lt n w : Nat) : Word := s.treg lt (regPalEntry n + 4 * w)

/-- The state with a word of a Palette entry set. -/
def setPalWord (s : State) (lt n w : Nat) (v : Word) : State := s.setTreg lt (regPalEntry n + 4 * w) v

/-- The configuration of entry `n`, read now (R183). -/
def palCfg (s : State) (lt n : Nat) : PalCfg := ⟨n, palWord s lt n 0, palWord s lt n 1⟩

/-- Whether conversions into an entry draw from the rounding stream (R178). -/
def PalCfg.stochastic (p : PalCfg) : Bool := p.role == 2 || p.roundCode == 2

/-- The rounding of one element of a conversion into an entry, with the element's random bits (R178). -/
def PalCfg.rnd (p : PalCfg) (r : Nat) : Rnd :=
  if p.stochastic then .stoch r else if p.roundCode = 1 then .zero else .near

/-- SEED of a tile (R181). -/
def palSeed (s : State) (lt : Nat) : Nat := (s.treg lt regPalSeedLo).toNat + (s.treg lt regPalSeedHi).toNat * 2 ^ 32

/-- STEP of a tile (R181). -/
def palStep (s : State) (lt : Nat) : Nat := (s.treg lt regPalStep).toNat

/-- The random bits of an element on a tile (R180, R181). -/
def tileRandom (s : State) (lt tid idx : Nat) : Nat := roundStream (palSeed s lt) (palStep s lt) tid idx

/-! ### What a conversion counts -/

/-- What conversions add to their entry (R173 step 2, R174, R175): the largest magnitude as FP32 among finite values, where there was
one, overflows, underflows. -/
structure Tally where
  amax : Option Nat
  ovf : Nat
  unf : Nat
deriving DecidableEq, Repr

/-- Nothing counted. -/
def Tally.none : Tally := ⟨Option.none, 0, 0⟩

/-- AMAX takes a finite value's magnitude. -/
def Tally.see (t : Tally) (v : FVal) : Tally :=
  match v with
  | .fin _ m e => { t with amax := some (max (t.amax.getD 0) (fp32Below m e)) }
  | _ => t

def Tally.ovfOne (t : Tally) : Tally := { t with ovf := t.ovf + 1 }
def Tally.under (t : Tally) : Tally := { t with unf := t.unf + 1 }

/-- The larger of AMAX as held and a magnitude. A held NaN, which only software can put there, has no order: the outcome
is a free choice (log entry 2). -/
def amaxMax (s : State) (held : Word) (taken : Nat) : Word :=
  match fp32.decode held.toNat with
  | .nan => if s.freeBelow 2 = 0 then held else BitVec.ofNat 32 taken
  | v => if v.cmp (fp32.decode taken) = -1 then BitVec.ofNat 32 taken else held

/-- AMAX of an entry takes a magnitude (R173 step 2). -/
def takeAmax (s : State) (lt n taken : Nat) : State :=
  setPalWord (if (fp32.decode (palWord s lt n 2).toNat).isNan then s.drawn else s) lt n 2 (amaxMax s (palWord s lt n 2) taken)

/-- What OVF and UNF of an entry rise by is kept until the next step boundary (R195). -/
def markRise (s : State) (lt n ovf unf : Nat) : State :=
  if ovf = 0 ∧ unf = 0 then s
  else s.modTile lt (fun t =>
    let x := kvGet (0, 0) t.palMarks n
    { t with palMarks := kvSet t.palMarks n (x.1 + ovf, x.2 + unf) })

/-- A tally is added to its entry: AMAX only where a finite value was met; the counters saturate (R173, R182). -/
def applyTally (s : State) (lt n : Nat) (t : Tally) : State :=
  let s1 := match t.amax with
    | some a => takeAmax s lt n a
    | none => s
  let ovf := satAdd 32 (palWord s lt n 3).toNat t.ovf
  let unf := satAdd 32 (palWord s lt n 4).toNat t.unf
  let s2 := setPalWord (setPalWord s1 lt n 3 (BitVec.ofNat 32 ovf)) lt n 4 (BitVec.ofNat 32 unf)
  markRise s2 lt n (ovf - (palWord s lt n 3).toNat) (unf - (palWord s lt n 4).toNat)

/-! ### Format codes -/

/-- The element format of a code that is a floating-point format (Table 7.1). -/
def floatOf (fmt : Nat) : Option FloatFmt :=
  match fmt with
  | 0 => some fp32 | 1 => some bf16 | 2 => some fp16 | 3 => some e4m3 | 4 => some e5m2
  | 5 => some e4m3 | 6 => some e5m2 | 7 => some e3m2 | 8 => some e2m3 | 9 => some e2m1
  | 13 => some fp64
  | _ => none

/-- Whether a code is an MX format. -/
def isMx (fmt : Nat) : Bool := 5 ≤ fmt && fmt ≤ 10

/-- The bits that an element takes in memory (Table 7.1; MXFP6 takes one byte). -/
def elemBits (fmt : Nat) : Nat :=
  match fmt with
  | 0 => 32 | 1 => 16 | 2 => 16 | 9 => 4 | 12 => 4 | 13 => 64 | 14 => 48 | _ => 8

/-- The scale of an MX block (R171): 0xFF is NaN. -/
def scaleValue (b : Nat) : FVal := if b = 0xFF then .nan else .fin false 1 ((b : Int) - 127)

/-- The value of an element: floating point, or an integer scaled by a power of two (R171). -/
def elemValue (fmt x : Nat) : FVal :=
  match fmt with
  | 10 => ofSig (sgn 8 x) (-6) false
  | 11 => ofSig (sgn 8 x) 0 false
  | 12 => ofSig (sgn 4 x) 0 false
  | 14 => fp32cValue (x % 2 ^ 32) (x / 2 ^ 32)
  | _ => match floatOf fmt with
    | some f => f.decode (x % 2 ^ f.bits)
    | none => .nan

/-- The value of an element with its block scale, where its format has one. -/
def decodeElem (fmt x scale : Nat) : FVal :=
  if isMx fmt then (match scaleValue scale with
    | .fin _ _ k => (elemValue fmt x).scale k
    | _ => .nan)
  else elemValue fmt x

/-- Decoding through a source entry: its scale is 2 ^ −SCALE_EXP (R173 step 1). -/
def decodeThrough (p : PalCfg) (x scale : Nat) : FVal := (decodeElem p.format x scale).scale (-p.scaleExp)

/-! ### Converting one element -/

/-- An integer element: rounded on the grid `2 ^ q`, saturating at `lo` and `hi` (R174); a NaN gives 0. -/
def toInteger (bits : Nat) (lo hi : Int) (q : Int) (r : Rnd) (v : FVal) (t : Tally) : Nat × Tally :=
  let enc := fun x : Int => (x % (2 ^ bits : Int)).toNat
  match v with
  | .nan => (0, t.ovfOne)
  | .inf s => (enc (if s then lo else hi), t.ovfOne)
  | .fin s m e =>
    let k := (roundAt r s m e q).1
    let x : Int := if s then -(k : Int) else k
    if x < lo then (enc lo, t.ovfOne)
    else if hi < x then (enc hi, t.ovfOne)
    else if k = 0 ∧ m ≠ 0 then (0, t.under)
    else (enc x, t)

/-- A floating-point element: rounded, then overflow, then flush to zero (R173 steps 5 to 7, R174, R175). -/
def toFloat (f : FloatFmt) (sat ftz : Bool) (r : Rnd) (v : FVal) (t : Tally) : Nat × Tally :=
  let ovfVal := fun s : Bool => if sat || f.kind == 2 then f.maxBits s else if f.kind = 1 then f.nan else f.inf s
  match v with
  | .nan => (f.nan, t)
  | .inf s => (ovfVal s, t.ovfOne)
  | .fin s m e =>
    let x := f.round r s m e
    if f.exceeds x.1 x.2.1 then (ovfVal s, t.ovfOne)
    else
      let k := if ftz && f.tiny x.1 then 0 else x.1
      (f.pack s k x.2.1, if k = 0 ∧ m ≠ 0 then t.under else t)

/-- A conversion into FP32+C (R187): the FP32 word in bits [31:0], the tail above. An infinite input counts in OVF, as its s' is infinite
(DESIGN CHOICE, log entry 54). -/
def toFp32c (v : FVal) (t : Tally) : Nat × Tally :=
  let zneg := match v with | .fin n _ _ => n | _ => false
  let x := fp32cRound v zneg
  let t' := match v with
    | .nan => t
    | .inf _ => t.ovfOne
    | .fin _ m _ => if nfld x.1 30 23 = 255 then t.ovfOne
      else if x.1 % 2 ^ 31 = 0 ∧ x.2 = 0 ∧ m ≠ 0 then t.under else t
  (x.1 + x.2 * 2 ^ 32, t')

/-- An element converted into a format without block scales, from a value already scaled for the entry. -/
def encodeElem (fmt : Nat) (sat ftz : Bool) (r : Rnd) (v : FVal) (t : Tally) : Nat × Tally :=
  match fmt with
  | 11 => toInteger 8 (-128) 127 0 r v t
  | 12 => toInteger 4 (-8) 7 0 r v t
  | 14 => toFp32c v t
  | _ => match floatOf fmt with
    | some f => toFloat f sat ftz r v t
    | none => (0, t)

/-- The whole conversion of one value into an entry whose format has no block scales (R173); `r` are the element's random
bits. -/
def convElem (p : PalCfg) (r : Nat) (v : FVal) (t : Tally) : Nat × Tally :=
  encodeElem p.format p.sat p.ftz (p.rnd r) (v.scale p.scaleExp) (t.see v)

/-! ### Converting an MX block -/

/-- The exponent of the largest element of an MX format (R176). -/
def mxEmax (fmt : Nat) : Int :=
  match fmt with
  | 5 => 8 | 6 => 15 | 7 => 4 | 8 => 2 | 9 => 2 | _ => 0

/-- The exponent of the largest magnitude among values, where one is not zero. -/
def maxLog2 (vs : List FVal) : Option Int :=
  vs.foldl (fun a v => match v with
    | .fin _ m e => if m = 0 then a else match a with
      | none => some (numLog2 m e)
      | some x => some (max x (numLog2 m e))
    | _ => a) none

/-- One element of an MX block, divided by the block scale; it saturates (R174, R176). -/
def mxElem (p : PalCfg) (r : Nat) (v : FVal) (t : Tally) : Nat × Tally :=
  if p.format = 10 then toInteger 8 (-127) 127 (-6) (p.rnd r) v t
  else match floatOf p.format with
    | some f =>
      match v with
      | .fin _ _ _ => toFloat f true p.ftz (p.rnd r) v t
      | _ => (0, t)
    | none => (0, t)

/-- The elements of a block in order. -/
def mxElems (p : PalCfg) (rnd : Nat → Nat) (k : Int) : Nat → List FVal → Tally → List Nat × Tally
  | _, [], t => ([], t)
  | i, v :: vs, t =>
    let x := mxElem p (rnd i) (v.scale k) t
    let y := mxElems p rnd k (i + 1) vs x.2
    (x.1 :: y.1, y.2)

/-- The conversion of one MX block (R176): its scale byte, its elements in order, and what it counts. `rnd i` are the
random bits of element i. -/
def convBlock (p : PalCfg) (rnd : Nat → Nat) (vs : List FVal) (t : Tally) : Nat × List Nat × Tally :=
  let t1 := vs.foldl Tally.see t
  let ws := vs.map (fun v => v.scale p.scaleExp)
  if ws.any (fun v => !v.isFin) then (0xFF, vs.map (fun _ => 0), t1.ovfOne)
  else
    match maxLog2 ws with
    | none => (0, vs.map (fun _ => 0), t1)
    | some l =>
      let sh := max (-127) (min 127 (l - mxEmax p.format))
      let x := mxElems p rnd (-sh) 0 ws t1
      ((sh + 127).toNat, x.1, x.2)

/-- A run of elements converted into an entry: their encodings in order, the scale bytes of its blocks, what it counts.
Each block of an MX format starts at a multiple of 32 of the run. -/
def convRun (p : PalCfg) (rnd : Nat → Nat) : Nat → List FVal → Tally → List Nat × Tally
  | _, [], t => ([], t)
  | i, v :: vs, t =>
    let x := convElem p (rnd i) v t
    let y := convRun p rnd (i + 1) vs x.2
    (x.1 :: y.1, y.2)

/-- A row of values converted into an MX entry, block by block (`fuel` bounds the blocks). -/
def convBlocks (p : PalCfg) (rnd : Nat → Nat) : Nat → Nat → List FVal → Tally → List Nat × List Nat × Tally
  | 0, _, _, t => ([], [], t)
  | fuel + 1, i, vs, t =>
    if vs.isEmpty then ([], [], t)
    else
      let x := convBlock p (fun j => rnd (i + j)) (vs.take 32) t
      let y := convBlocks p rnd fuel (i + 32) (vs.drop 32) x.2.2
      (x.2.1 ++ y.1, x.1 :: y.2.1, y.2.2)

/-! ### Packing -/

/-- Elements of `w` bits (4, or a multiple of 8) packed in memory order, low nibble first. -/
def packElems (w : Nat) : List Nat → List Byte
  | [] => []
  | x :: r =>
    if w = 4 then
      match r with
      | [] => [BitVec.ofNat 8 (x % 16)]
      | y :: r' => BitVec.ofNat 8 (x % 16 + (y % 16) * 16) :: packElems w r'
    else leBytes (w / 8) x ++ packElems w r

/-- The value plane and the tail plane of FP32+C elements (R185). -/
def valuePlane (xs : List Nat) : List Byte := packElems 32 (xs.map (fun v => v % 2 ^ 32))
def tailPlane (xs : List Nat) : List Byte := packElems 16 (xs.map (fun v => v / 2 ^ 32))

/-- FP32+C elements from their two planes (R185). -/
def joinPlanes (n : Nat) (vb tb : List Byte) : List Nat := (List.range n).map (fun j => fieldAt vb (4 * j) 4 + fieldAt tb (2 * j) 2 * 2 ^ 32)

/-- Whether conversion sites outside the lane cores accept a format: 0xD and 0xF they do not (R170, R179). -/
def siteFormat (f : Nat) : Bool := f ≤ 12 || f == 14

/-- Elements of an MX format filled up with zeros to whole blocks (R176). -/
def fillBlocks (fmt : Nat) (xs : List Nat) : List Nat := if isMx fmt then xs ++ List.replicate ((32 - xs.length % 32) % 32) 0 else xs

/-- Element `i` of `w` bits of packed bytes. -/
def unpackElem (w : Nat) (bs : List Byte) (i : Nat) : Nat :=
  if w = 4 then (fieldAt bs (i / 2) 1 / (if i % 2 = 0 then 1 else 16)) % 16 else fieldAt bs (i * (w / 8)) (w / 8)

end Sys2Proof.Machine
end

