-- ==== Sys2Proof/Machine/BlockRead.lean ====
section
/-!
DEFINITION. Block reads through the memory-side transpose (03, R83, R84).
-/
namespace Sys2Proof.Machine

open Sys2Proof

/-- A block request (03, R83): start offset, element size code (0 for 4 bits, else 2 ^ (code − 1) bytes), ROWS, COLS, row
stride, TRANSPOSE. -/
structure BlockReq where
  start : Nat
  esize : Nat
  rows : Nat
  cols : Nat
  stride : Nat
  transpose : Bool
deriving DecidableEq, Repr

/-- The bits of an element. -/
def BlockReq.bits (q : BlockReq) : Nat := if q.esize = 0 then 4 else 8 * 2 ^ (q.esize - 1)

/-- The bytes of a row. -/
def BlockReq.rowBytes (q : BlockReq) : Nat := q.cols * q.bits / 8

/-- The bytes of the packed result. -/
def BlockReq.size (q : BlockReq) : Nat := q.rows * q.rowBytes

/-- The limits of R83. -/
def BlockReq.valid (q : BlockReq) : Bool :=
  decide (q.esize ≤ 4) && decide (1 ≤ q.rows) && decide (q.rows ≤ 4096) && decide (1 ≤ q.cols) &&
    decide (q.stride < 2 ^ 24) && decide (q.rowBytes ≤ 4096) && (q.esize != 0 || q.cols % 2 == 0) &&
    (!q.transpose || (decide (1 ≤ q.esize) && decide (q.esize ≤ 3) && decide (q.rows ≤ 128) && decide (q.cols ≤ 128)))

/-- The span of a request in memory. -/
def BlockReq.span (q : BlockReq) : Nat := (q.rows - 1) * q.stride + q.rowBytes

/-- The rows of a request from row `r`, read in order; the first failing access in row order ends it (R84). -/
def readRows (s : State) (lt : Nat) (q : BlockReq) : Nat → Nat → State × Except (Status × Nat) (List (List Byte))
  | 0, _ => (s, .ok [])
  | n + 1, r =>
    match memRead s lt (q.start + r * q.stride) q.rowBytes with
    | (s1, .error e) => (s1, .error e)
    | (s1, .ok bs) =>
      match readRows s1 lt q n (r + 1) with
      | (s2, .error e) => (s2, .error e)
      | (s2, .ok rs) => (s2, .ok (bs :: rs))

/-- The packed result of rows that have been read. -/
def BlockReq.pack (q : BlockReq) (rs : List (List Byte)) : List Byte :=
  if q.transpose then
    (List.range q.cols).flatMap (fun c => rs.flatMap (fun row => slice row (c * (q.bits / 8)) (q.bits / 8)))
  else rs.flatten

/-- A block request within limits: the packed result, or the status and offset that end it whole (R84). -/
def blockRead (s : State) (lt : Nat) (lv : Level) (q : BlockReq) : State × Except (Status × Nat) (List Byte) :=
  if !permitted lv q.start q.span then (s, .error (stProtFault, q.start))
  else
    match readRows s lt q q.rows 0 with
    | (s1, .error e) => (s1, .error e)
    | (s1, .ok rs) => (s1, .ok (q.pack rs))

end Sys2Proof.Machine
end

