-- ==== Sys2Proof/Machine/Credit.lean ====
section
/-!
DEFINITION. Credits at the receiver: requests, grants, returns and credited writes (03, R76 to R81; 11, R291; 15, R384),
and the sender's requests.
-/
namespace Sys2Proof.Machine

open Sys2Proof

/-! ### Types of Table 3.2 -/

abbrev tyRequest : Nat := 1
abbrev tyGrant : Nat := 2
abbrev tyNack : Nat := 3
abbrev tyRefuse : Nat := 4
abbrev tyReturn : Nat := 5
abbrev tyAck : Nat := 6

/-- An answer of tile `lt` to a request: it goes to the request's peer and names this tile. -/
def answer (s : State) (lt typ : Nat) (m : CreditMsg) (st : Status) (tag bytes off : Nat) : State :=
  netSend s (.credit m.peer.toNat typ
    { target := m.target, reqTag := m.reqTag, creditTag := BitVec.ofNat 16 tag, status := st, kind := 0,
      bytes := BitVec.ofNat 32 bytes, offset := BitVec.ofNat 32 off, peer := BitVec.ofNat 64 (tileGa s lt), am := false })

/-- Whether a credit message is an answer of tile `lt`: GRANT, NACK, REFUSE or ACK. -/
def isAnswer (s : State) (lt typ : Nat) (m : CreditMsg) : Bool := (typ == 2 || typ == 3 || typ == 4 || typ == 6) && m.peer.toNat == tileGa s lt

/-- The answers of a tile that have not reached their senders fill its answer buffer of 64 entries: those on the module's networks, and those to
other modules that wait or are not acknowledged (15, R384). -/
def answersOut (s : State) (lt : Nat) : Nat :=
  s.msgs.countP (fun x => match x with
    | .credit _ typ m => isAnswer s lt typ m
    | _ => false) +
  (s.fab.tx.map (fun p => p.2.out.countP (fun o => match o.pkt.body with
    | .credit typ m => isAnswer s lt typ.toNat m
    | _ => false))).sum

/-- The Bolt or window that a request concerns: its target byte, or the receiver's AM Bolt (11, R295). -/
def reqTarget (s : State) (lt : Nat) (m : CreditMsg) : Nat := if m.am then amBolt s lt else m.target.toNat

/-- The overflow Bolt of a Bolt, where its mapping is enabled (11, R290). -/
def overflowOf (s : State) (lt b : Nat) : Option Nat :=
  let w := s.treg lt (regChOvfMap (b / 4))
  let j := b % 4
  if bit w (8 * j + 7) then some (fld w (8 * j + 5) (8 * j)) else none

/-- Why a request is refused at once, if it is (R78; 09, R237; 11, R287, R295). A KIND above 2 is reserved whatever its bits [7:2], and is
refused before the target is looked at (DESIGN CHOICE, log entry 54). -/
def refusal (s : State) (lt : Nat) (m : CreditMsg) : Option Status :=
  let t := reqTarget s lt m
  if m.am && !s.tbit lt regChAmCfg 0 then some stPeerClosed
  else if m.kind.toNat ≥ 3 then some stCreditDenied
  else if t < 128 then
    if 64 ≤ t then some stCreditDenied
    else if !boltOpen s lt t then some stPeerClosed
    else if !bit (boltCfg s lt t) 3 then some stCreditDenied
    else if boltSlots (boltCfg s lt t) < ceilDiv m.bytes.toNat (cfgSlot (boltCfg s lt t)) then some stCreditDenied
    else none
  else if 16 ≤ t - 128 then some stCreditDenied
  else if !s.tbit lt (regMemLwinBase (t - 128)) 0 then some stPeerClosed
  else
    let r := lwinRange (s.treg lt (regMemLwinBase (t - 128))) (s.treg lt (regMemLwinSize (t - 128)))
    if r.1 ≤ m.offset.toNat ∧ m.offset.toNat + m.bytes.toNat ≤ r.1 + r.2 then none else some stCreditDenied

/-- Whether a Bolt can take a grant of `k` slots now (R70, R78, R81). -/
def boltFits (s : State) (lt b k : Nat) : Bool :=
  decide (boltInUse s lt b + k ≤ boltSlots (boltCfg s lt b)) && decide ((boltWindow s lt b).length < 64) &&
    decide (s.tfld lt (regBoltGranted b) 19 0 + k ≤ s.tfld lt (regBoltClim b) 19 0)

/-- The Bolt in which a request to Bolt `b` can be granted now, if any (R78; 11, R291). -/
def placeFor (s : State) (lt b bytes : Nat) : Option Nat :=
  let fits := fun x => boltFits s lt x (ceilDiv bytes (cfgSlot (boltCfg s lt x)))
  match overflowOf s lt b with
  | none => if fits b then some b else none
  | some o =>
    if boltInUse s lt o = 0 ∧ fits b = true then some b
    else if fits o = true ∧ boltOpen s lt o = true then some o else none

/-- The free entries of the grant table. -/
def freeGrants (s : State) (lt : Nat) : List Nat :=
  (List.range 512).filter (fun i => !(kvGet Grant.reset (s.tile lt).grants i).live)

/-- The state with entry `i` of the grant table replaced. -/
def setGrant (s : State) (lt i : Nat) (g : Grant) : State :=
  s.modTile lt (fun t => { t with grants := kvSet t.grants i g })

/-- GRANTED of a Bolt changes: up by `a`, down by `b`. -/
def addGranted (s : State) (lt b up down : Nat) : State :=
  s.setTfld lt (regBoltGranted b) 19 0 (s.tfld lt (regBoltGranted b) 19 0 + up - down)

/-- A grant is made: the space is reserved, a table entry taken (which one is a free choice, log entry 5), and GRANT sent
(R77, R78). -/
def makeGrant (s : State) (lt t : Nat) (m : CreditMsg) (place : Nat) (start slots off bytes : Nat) : State :=
  let fs := freeGrants s lt
  let i := fs.getD (s.freeBelow fs.length) 0
  let g := kvGet Grant.reset (s.tile lt).grants i
  let g' : Grant := { live := true, gen := g.gen, target := BitVec.ofNat 8 t, sender := m.peer,
                      reqTag := m.reqTag, kind := m.kind.toNat, offset := off, bytes := bytes, bolt := place,
                      start := start, slots := slots }
  answer (setGrant s.drawn lt i g') lt tyGrant { m with target := g'.target } stOk (i + (g.gen % 128) * 2 ^ 9) bytes off

/-- Grant a request to target `t` now, where that is possible (R78). A request of 0 bytes takes a grant of no slots and an entry of the window
(DESIGN CHOICE, log entry 54: the spec does not speak of it). -/
def tryGrant (s : State) (lt t : Nat) (m : CreditMsg) : Option State :=
  if 512 ≤ (s.tile lt).liveGrants ∨ 64 ≤ answersOut s lt then none
  else if t < 128 then
    match placeFor s lt t m.bytes.toNat with
    | none => none
    | some p =>
      let slot := cfgSlot (boltCfg s lt p)
      let k := ceilDiv m.bytes.toNat slot
      let start := boltReserve s lt p
      some (makeGrant (addGranted (boltTake s lt p k) lt p k 0) lt t m p start k (slotOff s lt p start) (k * slot))
  else
    let w := t - 128
    let granted := s.tfld lt (regMemLwinCred w) 25 0
    if granted + m.bytes.toNat ≤ s.tfld lt (regMemLwinSize w) 13 0 * 2 ^ 12 then
      some (makeGrant (s.setTfld lt (regMemLwinCred w) 25 0 (granted + m.bytes.toNat)) lt t m t 0 0 m.offset.toNat
        m.bytes.toNat)
    else none

/-- The request queue of a target. -/
def queueOf (s : State) (lt t : Nat) : List CreditMsg := kvGet [] (s.tile lt).reqQ t

/-- The state with the request queue of a target replaced. -/
def setQueue (s : State) (lt t : Nat) (q : List CreditMsg) : State :=
  s.modTile lt (fun x => { x with reqQ := kvSet x.reqQ t q })

/-- A REQUEST arrives: refused, granted, queued, answered NACK, or discarded without an answer (R78; 15, R384). -/
def onRequest (s : State) (lt : Nat) (m : CreditMsg) : State :=
  let t := reqTarget s lt m
  let room := answersOut s lt < 64
  match refusal s lt m with
  | some st => if room then answer s lt tyRefuse m st 0 m.bytes.toNat 0 else s
  | none =>
    let q := queueOf s lt t
    match (if q.isEmpty then tryGrant s lt t m else none) with
    | some s1 => s1
    | none =>
      if q.length < 16 then setQueue s lt t (q ++ [m])
      else if room then answer s lt tyNack m stOk 0 m.bytes.toNat 0
      else s

/-- The request at the front of a target's queue is granted, once there is room (R78). An active message waits at the AM Bolt of its arrival
(DESIGN CHOICE, log entry 54), and is refused where CH_AM_CFG.EN has been cleared since (11, R295). -/
def onDeferred (s : State) (lt t : Nat) : State :=
  match queueOf s lt t with
  | [] => s
  | m :: rest =>
    if m.am && !s.tbit lt regChAmCfg 0 then
      (if answersOut s lt < 64 then setQueue (answer s lt tyRefuse m stPeerClosed 0 m.bytes.toNat 0) lt t rest else s)
    else
      match tryGrant s lt t m with
      | some s1 => setQueue s1 lt t rest
      | none => s

/-- The live grant that a tag names, where the entry's generation is the tag's. -/
def grantOfTag (s : State) (lt : Nat) (tag : BitVec 16) : Option (Nat × Grant) :=
  let i := fld tag 8 0
  let g := kvGet Grant.reset (s.tile lt).grants i
  if g.live && g.gen % 128 == fld tag 15 9 then some (i, g) else none

/-- A grant is used up: the entry is free and its generation advances (R79). -/
def endGrant (s : State) (lt i : Nat) (g : Grant) : State :=
  setGrant s lt i { Grant.reset with gen := g.gen + 1 }

/-- What lies in an overflow Bolt is remembered until it is moved: nothing where the grant's slots are in its own target (11, R291). -/
def noteOvf (s : State) (lt : Nat) (g : Grant) (seq : Nat) (notify : Bool) : State :=
  if g.bolt = g.target.toNat then s
  else setOvfMsgs s lt g.bolt (ovfMsgs s lt g.bolt ++ [⟨g.start, g.slots, g.kind, seq, notify⟩])

/-- The reservation of a grant ends without a successful write (R80, R284): a Bolt's slots are marked and committed; a
landing window's bytes are released. -/
def voidGrant (s : State) (lt i : Nat) (g : Grant) : State :=
  let s1 := endGrant s lt i g
  if g.target.toNat < 128 then
    noteOvf (boltVoid (addGranted s1 lt g.bolt 0 g.slots) lt g.bolt g.start g.slots g.kind) lt g 0 false
  else s1

/-- A RETURN arrives: an unused grant's space is freed (R80). -/
def onReturn (s : State) (lt : Nat) (m : CreditMsg) : State :=
  match grantOfTag s lt m.creditTag with
  | none => s
  | some (i, g) =>
    if g.sender != m.peer then s
    else if g.target.toNat < 128 then voidGrant s lt i g
    else
      let w := g.target.toNat - 128
      endGrant (s.setTfld lt (regMemLwinCred w) 25 0 (s.tfld lt (regMemLwinCred w) 25 0 - g.bytes)) lt i g

/-- Whether the target that a write names is open. -/
def targetOpen (s : State) (lt : Nat) (t : Nat) : Bool :=
  if t < 128 then boltOpen s lt t else s.tbit lt (regMemLwinBase (t - 128)) 0

/-- How far into the range of a grant an offset lies, if it lies in it: a Bolt's range continues at BASE past the Bolt's end (R71). -/
def grantPos (s : State) (lt : Nat) (g : Grant) (off : Nat) : Option Nat :=
  let r := boltRange (boltCfg s lt g.bolt)
  if 128 ≤ g.target.toNat then (if g.offset ≤ off then some (off - g.offset) else none)
  else if g.offset ≤ off ∧ off < r.1 + r.2 then some (off - g.offset)
  else if r.1 ≤ off ∧ off < g.offset then some (r.1 + r.2 - g.offset + (off - r.1))
  else none

/-- Whether a write lies wholly within the range of a grant. -/
def withinGrant (s : State) (lt : Nat) (g : Grant) (w : WriteMsg) : Bool :=
  match grantPos s lt g w.offset.toNat with
  | some x => decide (x + w.data.length ≤ g.bytes)
  | none => false

/-- The parts in which a credited write lands: it wraps at the end of the Bolt that holds its slots (R71). -/
def landParts (s : State) (lt : Nat) (g : Grant) (w : WriteMsg) : List (Nat × List Byte) :=
  if g.target.toNat < 128 then
    let cfg := boltCfg s lt g.bolt
    let room := cfgBase cfg + cfgSize cfg - w.offset.toNat
    if w.data.length ≤ room then [(w.offset.toNat, w.data)]
    else [(w.offset.toNat, w.data.take room), (cfgBase cfg, w.data.drop room)]
  else [(w.offset.toNat, w.data)]

/-- Whether a live grant covers a write: its tag, target, sender and range (R79). -/
def covered (s : State) (lt : Nat) (w : WriteMsg) : Bool :=
  match grantOfTag s lt w.creditTag with
  | none => false
  | some (_, g) => g.target == w.target && g.sender == w.sender && withinGrant s lt g w

/-- The checks of R79 before any byte is written, in order: the status of the first that fails. The save area is not visible to a write, and
register blocks are valid offsets (00, R16, R17). -/
def arriveCheck (s : State) (lt : Nat) (w : WriteMsg) : Option Status :=
  if !visible w.offset.toNat 1 && !inBlocks w.offset.toNat then some stProtFault
  else if regionRefuses s lt then some stRegionOff
  else if covered s lt w then none
  else if !targetOpen s lt w.target.toNat then some stPeerClosed
  else some stCreditDenied

/-- A failed write is counted: one that ends with CREDIT_DENIED in MEM_CREDIT_STATUS.DENIED, one that ends with any status in
BOLT_STATUS.DENIED (DESIGN CHOICE, log entry 54: the spec's "denied" tells neither). -/
def countDenied (s : State) (lt : Nat) (w : WriteMsg) (st : Status) : State :=
  let s1 := if st = stCreditDenied then
      s.setTfld lt regMemCreditStatus 31 16 (satInc 16 (s.tfld lt regMemCreditStatus 31 16)) else s
  if w.target.toNat < 64 then s1.setTbit lt (regBoltStatus w.target.toNat) 4 true else s1

/-- The acknowledgement of a credited write. -/
def ackWrite (s : State) (lt : Nat) (w : WriteMsg) (st : Status) : State :=
  netSend s (.credit w.sender.toNat tyAck
    { target := w.target, reqTag := w.reqTag, creditTag := w.creditTag, status := st, kind := 0,
      bytes := BitVec.ofNat 32 w.data.length, offset := w.offset, peer := BitVec.ofNat 64 (tileGa s lt), am := false })

/-- The grant that covers an arriving write, whatever the write's outcome (R79: used by exactly one write). -/
def ownGrant (s : State) (lt : Nat) (w : WriteMsg) : Option (Nat × Grant) :=
  match grantOfTag s lt w.creditTag with
  | some (i, g) => if g.target == w.target && g.sender == w.sender then some (i, g) else none
  | none => none

/-- A write fails: none of its bytes is performed, its grant is used up and its reservation voided, and the sender is
told (R79, R284). -/
def failWrite (s : State) (lt : Nat) (w : WriteMsg) (st : Status) : State :=
  let s1 := countDenied s lt w st
  let s2 := match ownGrant s1 lt w with
    | some (i, g) => voidGrant s1 lt i g
    | none => s1
  ackWrite s2 lt w st

/-- A credited write that passed its checks lands and commits, or fails wholly where memory refuses it (R79). -/
def performWrite (s : State) (lt : Nat) (w : WriteMsg) : State :=
  match grantOfTag s lt w.creditTag with
  | none => failWrite s lt w stCreditDenied
  | some (i, g) =>
    match writeAll s lt (landParts s lt g w) with
    | (s1, some e) => failWrite s1 lt w e.1
    | (s1, none) =>
      let s2 := endGrant s1 lt i g
      let s3 := if g.target.toNat < 128 then
          noteOvf (boltLand (addGranted s2 lt g.bolt 0 g.slots) lt g.bolt g.start (w.notify && g.bolt == g.target.toNat)) lt g
            (fieldAt w.data 0x14 4) w.notify
        else if w.notify then s2.setTbit lt regChStatus 2 true else s2
      ackWrite s3 lt w stOk

/-- A write that its sender aborted: its reservation is voided (R284, R285). -/
def abortedWrite (s : State) (lt : Nat) (w : WriteMsg) : State :=
  match ownGrant s lt w with
  | some (i, g) => voidGrant s lt i g
  | none => s

/-- Whether a live grant is the one that a sender's request with a tag obtained. -/
def grantFor (ga tag : Nat) (g : Grant) : Bool := g.live && g.sender.toNat == ga && g.reqTag.toNat == tag

/-- The sender at a global address aborts the write of its request with a tag, of which no more may be known here: its reservation is voided
(R284; 14, R357). -/
def abortedRequest (s : State) (ga tag : Nat) : State :=
  match (allTiles s).find? (fun lt => (s.tile lt).grants.any (fun p => grantFor ga tag p.2)) with
  | none => s
  | some lt =>
    match (s.tile lt).grants.find? (fun p => grantFor ga tag p.2) with
    | some p => voidGrant s lt p.1 p.2
    | none => s

/-- A credited write arrives (R79): checked in order, then landed and committed, or failed wholly. A write that its
sender marked as aborted is voided (R284, R285). -/
def onWrite (s : State) (lt : Nat) (w : WriteMsg) : State :=
  if w.abort then abortedWrite s lt w
  else
    match arriveCheck s lt w with
    | some st => failWrite s lt w st
    | none => performWrite s lt w

/-! ### The sender's requests -/

/-- The cycles that the sender adds to a base wait `b`: j of R385, with the tile's retries since job load. -/
def jitter (s : State) (lt b : Nat) : Nat :=
  let x := (hereId s * 2 ^ 16) ^^^ (lt * 2 ^ 5) ^^^ (s.tile lt).retries
  (((x % 2 ^ 32) * 0x9E3779B9 % 2 ^ 32) / 2 ^ 20) % (b / 8)

/-- The cycles after which a tile that has had no answer to a REQUEST sends it again: 4,096 on the module, 2 × RTO_US across modules, at 850 MHz,
with its jitter (15, R384, R385). -/
def answerWait (s : State) (lt dst : Nat) : Nat :=
  let b := if dst / 2 ^ 48 = hereId s then 4096 else 850 * (2 * s.mfld regFabXportCfg 9 0)
  b + jitter s lt b

/-- A new credit request of a tile: it takes a tag, and REQUEST is sent (R77). -/
def sendRequest (s : State) (lt : Nat) (owner : ReqOwner) (dst target kind bytes off : Nat) (am : Bool)
    (data : List Byte) : State :=
  let tag := (s.tile lt).nextTag
  let m : CreditMsg :=
    { target := BitVec.ofNat 8 target, reqTag := BitVec.ofNat 16 tag, creditTag := 0, status := 0,
      kind := BitVec.ofNat 8 kind, bytes := BitVec.ofNat 32 bytes, offset := BitVec.ofNat 32 off,
      peer := BitVec.ofNat 64 (tileGa s lt), am := am }
  let r : SendReq := ⟨owner, BitVec.ofNat 64 dst, m, .asked, 0, answerWait s lt dst, 0, data⟩
  netSend (s.modTile lt (fun t => { t with reqs := kvSet t.reqs (tag % 2 ^ 16) r, nextTag := tag + 1 }))
    (.credit dst tyRequest m)

/-- The request of a tile with a tag. -/
def reqOf (s : State) (lt : Nat) (tag : BitVec 16) : Option SendReq := kvFind (s.tile lt).reqs tag.toNat

/-- The state with a request replaced. -/
def setReq (s : State) (lt : Nat) (tag : BitVec 16) (r : SendReq) : State :=
  s.modTile lt (fun t => { t with reqs := kvSet t.reqs tag.toNat r })

/-- The write of a request is sent, at this cycle of the region's clock (11, Table 11.4). -/
def markSent (s : State) (lt : Nat) (r : SendReq) : State :=
  setReq s lt r.msg.reqTag { r with phase := .sent, sentAt := (s.region (regionOf s lt)).cycles }

/-- The state without a request. -/
def dropReq (s : State) (lt : Nat) (tag : BitVec 16) : State :=
  s.modTile lt (fun t => { t with reqs := kvDel t.reqs tag.toNat })

/-- A grant that is not used goes back with RETURN (R80). -/
def returnGrant (s : State) (lt : Nat) (m : CreditMsg) : State :=
  netSend s (.credit m.peer.toNat tyReturn
    { target := m.target, reqTag := m.reqTag, creditTag := m.creditTag, status := 0, kind := 0, bytes := m.bytes, offset := m.offset,
      peer := BitVec.ofNat 64 (tileGa s lt), am := false })

/-- The backoff before the next try, 64 cycles doubling up to 4,096, with its jitter (R78, R385). -/
def backoffWait (s : State) (lt tries : Nat) : Nat :=
  let b := min 4096 (64 * 2 ^ tries)
  b + jitter s lt b

/-- A NACK reaches the sender: a retry is scheduled after its backoff (R78, R385). -/
def onNack (s : State) (lt : Nat) (tag : BitVec 16) : State :=
  match reqOf s lt tag with
  | none => s
  | some r =>
    if r.phase = .asked then
      let w := backoffWait s lt r.tries
      let s1 := s.modTile lt (fun t => { t with retries := t.retries + 1 })
      setReq s1 lt tag { r with phase := .backoff, tries := r.tries + 1, wait := w }
    else if r.phase = .givenUp then dropReq s lt tag
    else s

/-- A request is sent again: after its backoff (R385), or when no answer came in time (R384). -/
def resend (s : State) (lt : Nat) (tag : BitVec 16) : State :=
  match reqOf s lt tag with
  | none => s
  | some r => netSend (setReq s lt tag { r with phase := .asked, wait := answerWait s lt r.dst.toNat }) (.credit r.dst.toNat tyRequest r.msg)

/-! ### The commands at the receiver -/

/-- A credit message arrives at tile `lt`. -/
def onCredit (s : State) (lt typ : Nat) (m : CreditMsg) (g : State → State) : State := arriving s (.credit (tileGa s lt) typ m) g

/-- CREDIT_REQUEST (03, R78). A tile whose region is off receives nothing. -/
def execCreditRequest (lt : Nat) (m : CreditMsg) (s : State) : Out :=
  onTile lt s (fun s =>
    onCredit s lt tyRequest m (fun s1 => if regionState s1 (regionOf s1 lt) = 5 then s1 else onRequest s1 lt m))

/-- CREDIT_GRANT_DEFERRED (03, R78). -/
def execCreditGrantDeferred (lt : Nat) (target : BitVec 8) (s : State) : Out :=
  onTile lt s (fun s => onDeferred s lt target.toNat)

/-- CREDIT_NACK (03, R78). -/
def execCreditNack (lt : Nat) (m : CreditMsg) (s : State) : Out :=
  onTile lt s (fun s => onCredit s lt tyNack m (fun s1 => onNack s1 lt m.reqTag))

/-- CREDIT_RETRY (15, R385). -/
def execCreditRetry (lt : Nat) (tag : BitVec 16) (s : State) : Out :=
  onTile lt s (fun s =>
    match reqOf s lt tag with
    | some r => if r.phase = .backoff then resend s lt tag else s
    | none => s)

/-- CREDIT_ANSWER_TIMEOUT (15, R384): the request is sent again, and counts as a retry. -/
def execCreditAnswerTimeout (lt : Nat) (tag : BitVec 16) (s : State) : Out :=
  onTile lt s (fun s =>
    match reqOf s lt tag with
    | some r =>
      if r.phase = .asked then
        resend (setReq (s.modTile lt (fun t => { t with retries := t.retries + 1 })) lt tag
          { r with tries := r.tries + 1 }) lt tag
      else s
    | none => s)

/-- CREDIT_RETURN (03, R80). -/
def execCreditReturn (lt : Nat) (m : CreditMsg) (s : State) : Out :=
  onTile lt s (fun s => onCredit s lt tyReturn m (fun s1 => onReturn s1 lt m))

/-- CREDITED_WRITE_ARRIVE (03, R79). -/
def execCreditedWriteArrive (lt : Nat) (w : WriteMsg) (s : State) : Out :=
  onTile lt s (fun s =>
    arriving s (.write (tileGa s lt) w) (fun s1 => if regionState s1 (regionOf s1 lt) = 5 then s1 else onWrite s1 lt w))

end Sys2Proof.Machine
end

