-- ==== Sys2Proof/Machine/Channel.lean ====
section
/-!
DEFINITION. Channels, descriptor messages and active messages (11_channels_and_messages).
-/
namespace Sys2Proof.Machine

open Sys2Proof

/-! ### The channel table -/

/-- STATE of a channel: 0 OFF, 1 OPEN, 2 CLOSED (R279). -/
def chState (s : State) (lt n : Nat) : Nat := s.tfld lt (regChCfg n) 1 0

/-- The state with a channel's STATE set. -/
def setChState (s : State) (lt n v : Nat) : State := s.setTfld lt (regChCfg n) 1 0 v

/-- Whether a channel's destination lies on another module (R294, by the rule of R16). -/
def chForeign (s : State) (lt n : Nat) : Bool := s.tfld lt (regChDst n) 31 16 != hereId s

/-- The global address of a channel's destination tile. -/
def chDest (s : State) (lt n : Nat) : Nat :=
  s.tfld lt (regChDst n) 31 16 * 2 ^ 48 + s.tfld lt (regChDst n) 11 0 * 2 ^ 28

/-- The TARGET byte of a channel (Table 3.2): its Bolt, or its landing window with bit 7. -/
def chTarget (s : State) (lt n : Nat) : Nat := s.tfld lt (regChCfg n) 9 4 + 128 * s.tfld lt (regChCfg n) 3 3

/-- Whether a request of a tile goes to another module (R294, R314). -/
def reqForeign (s : State) (r : SendReq) : Bool := r.dst.toNat / 2 ^ 48 != hereId s

/-- The number of a module in a global address. -/
def gaModule (ga : Nat) : Nat := ga / 2 ^ 48

/-- LENGTH of a message (Tables 11.2 and 11.5). -/
def msgLength (m : List Byte) : Nat := fieldAt m 8 4

/-- The units of a message (R281, R295). -/
def msgUnits (am window : Bool) (len : Nat) : Nat :=
  if am then ceilDiv (64 + len) 256 else if window then max 1 (ceilDiv len 256) else ceilDiv (32 + len) 256

/-- Whether every reserved field of a message is zero and every field in its range (R280 step 5, Tables 11.2, 11.5). -/
def msgValid (am window : Bool) (m : List Byte) : Bool :=
  if am then decide (msgLength m ≤ 1984) && nfld (fieldAt m 0x11 1) 7 2 == 0 && !nbit (fieldAt m 0x11 1) 0
    && fieldAt m 0x12 2 == 0
  else decide (msgLength m ≤ 1048544) && nfld (fieldAt m 0x14 2) 15 2 == 0 && fieldAt m 0x16 10 == 0
    && (window || fieldAt m 0x10 4 == 0)

/-- A channel fault trap carrying PEER_CLOSED (R101, R280). -/
def channelFault (s : State) : InsnOut := .trap s causeChannel stPeerClosed none 0

/-- A message is accepted: slot, units, sequence number, handle (R280, R281). -/
def acceptMsg (s : State) (lt : Nat) (rd : BitVec 5) (n : Nat) (am : Bool) (m : List Byte) (units : Nat) : InsnOut :=
  match takeSlot s lt 4 with
  | none => .wait s (.channel n)
  | some (s1, slot, handle) =>
    let t := s.tile lt
    let x : Xact := ⟨n, am, m, units, (s.treg lt (regChSeq n)).toNat, t.tcc.prv, t.tcc.xlat, t.xactOrder, .queued, false⟩
    let s2 := s1.modTile lt (fun t => { t with xacts := kvSet t.xacts slot x, xactOrder := t.xactOrder + 1 })
    let s3 := s2.setTfld lt (regChUse n) 15 0 (s2.tfld lt (regChUse n) 15 0 + units)
    let s4 := s3.setTfld lt (regChUse n) 22 16 (s3.tfld lt (regChUse n) 22 16 + 1)
    let s5 := s4.setTreg lt (regChSeq n) (s4.treg lt (regChSeq n) + 1)
    .done (gWrite s5 lt .tcc rd (BitVec.ofNat 64 handle))

/-- `ch.send` and `ch.am`: the checks of R280 in order. -/
def chSend (s : State) (lt : Nat) (am : Bool) (rd rs1 rs2 : BitVec 5) (idx : BitVec 6) (word : Word) : InsnOut :=
  let r2 := gRead s lt .tcc rs2
  let n := idx.toNat + 64 * fld r2 1 0
  let window := s.tbit lt (regChCfg n) 3
  if 4 ≤ r2.toNat then illegalOperand s word
  else if chState s lt n = 0 then illegalOperand s word
  else if !s.tbit lt (regChCfg n) (if am then 11 else 10) then illegalOperand s word
  else if chState s lt n = 2 then channelFault s
  else
    match coreRead s lt .tcc (gRead s lt .tcc rs1).toNat 32 with
    | (s1, .error e) => loadFault s1 e
    | (s1, .ok m) =>
      let units := msgUnits am window (msgLength m)
      let limit := s1.tfld lt (regChCfg n) 31 16
      if !msgValid am window m || limit < units then illegalOperand s1 word
      else if (freeSlots s1 lt 4).isEmpty || decide (limit < s1.tfld lt (regChUse n) 15 0 + units)
          || (chForeign s1 lt n && s1.moduleId.isSome && !fabMayTake s1 lt) then .wait s1 (.channel n)
      else acceptMsg s1 lt rd n am m units

/-! ### Transactions -/

/-- The transaction in slot `n` of a tile. -/
def xactOf (s : State) (lt n : Nat) : Option Xact := kvFind (s.tile lt).xacts n

/-- The state with a transaction replaced. -/
def setXact (s : State) (lt n : Nat) (x : Xact) : State :=
  s.modTile lt (fun t => { t with xacts := kvSet t.xacts n x })

/-- A transaction completes with its one status (R285): units and slot given back, LAST_STATUS set, and the channel closed
by PEER_CLOSED (R288). A transaction that held a fabric slot gives it back. -/
def endXact (s : State) (lt slot : Nat) (x : Xact) (st : Status) : State :=
  let s0 := if x.phase != .queued && chForeign s lt x.ch then fabGive s lt else s
  let s1 := s0.modTile lt (fun t => { t with xacts := kvDel t.xacts slot })
  let s2 := s1.setTfld lt (regChUse x.ch) 15 0 (s1.tfld lt (regChUse x.ch) 15 0 - x.units)
  let s3 := s2.setTfld lt (regChUse x.ch) 22 16 (s2.tfld lt (regChUse x.ch) 22 16 - 1)
  let s4 := if st = stOk then s3 else s3.setTfld lt (regChUse x.ch) 31 24 st.toNat
  let s5 := if st = stPeerClosed then (setChState s4 lt x.ch 2).setTbit lt regChStatus 1 true else s4
  completeItem s5 lt 4 slot (b2n x.am) st (if st = stOk then msgLength x.msg else 0)

/-- The offset that a piece of a transaction's or a DMA item's memory has, at a level and translation setting. -/
def rangeOffset (s : State) (lt addr n : Nat) (a : Access) (lv : Level) (xlat : Bool) : State × Except XFault Nat :=
  match localAddr s lt addr a lv xlat with
  | (s1, .error f) => (s1, .error f)
  | (s1, .ok off) => if permitted lv off n then (s1, .ok off) else (s1, .error ⟨0, 7, stProtFault⟩)

/-- Check that every page of a source range translates and may be read (R282 step 1). -/
def checkPieces (s : State) (lt : Nat) (lv : Level) (xlat : Bool) : List (Nat × Nat) → State × Option Status
  | [] => (s, none)
  | (a, n) :: r =>
    match rangeOffset s lt a n .read lv xlat with
    | (s1, .error f) => (s1, some f.status)
    | (s1, .ok _) => checkPieces s1 lt lv xlat r

/-- Read a source range page by page; the status that ends it, if any. -/
def readRange (s : State) (lt : Nat) (lv : Level) (xlat : Bool) : List (Nat × Nat) → State × Except Status (List Byte)
  | [] => (s, .ok [])
  | (a, n) :: r =>
    match rangeOffset s lt a n .read lv xlat with
    | (s1, .error f) => (s1, .error f.status)
    | (s1, .ok off) =>
      match memRead s1 lt off n with
      | (s2, .error e) => (s2, .error e.1)
      | (s2, .ok bs) =>
        match readRange s2 lt lv xlat r with
        | (s3, .error st) => (s3, .error st)
        | (s3, .ok bs') => (s3, .ok (bs ++ bs'))

/-- Whether a transaction asks for ORDERED (Tables 11.2, 11.5). -/
def xactOrdered (x : Xact) : Bool := if x.am then nbit (fieldAt x.msg 0x11 1) 1 else nbit (fieldAt x.msg 0x14 2) 1

/-- Whether an earlier transaction of the channel is outstanding. -/
def earlierXact (s : State) (lt : Nat) (x : Xact) : Bool :=
  (s.tile lt).xacts.any (fun p => p.2.ch == x.ch && decide (p.2.order < x.order))

/-- The bytes for which a transaction asks a credit (R282, R295). -/
def xactBytes (s : State) (lt : Nat) (x : Xact) : Nat :=
  if x.am then 64 + msgLength x.msg
  else if s.tbit lt (regChCfg x.ch) 3 then msgLength x.msg else 32 + msgLength x.msg

/-- Steps 1 to 3 of R282: source check, order, credit request. A request to a reserved selector of this module is not made (00, R17). -/
def startXact (s : State) (lt slot : Nat) (x : Xact) : State :=
  match checkPieces s lt x.lv x.xlat (piecesOf (fieldAt x.msg 0 8) (msgLength x.msg)) with
  | (s1, some st) => endXact s1 lt slot x st
  | (s1, none) =>
    if xactOrdered x && earlierXact s1 lt x then s1
    else if chForeign s1 lt x.ch && s1.moduleId.isNone then endXact s1 lt slot x stLinkLost
    else
      let window := s1.tbit lt (regChCfg x.ch) 3 && !x.am
      if window && msgLength x.msg == 0 then endXact s1 lt slot x stOk
      else if !chForeign s1 lt x.ch && decide (ltCount s1 ≤ s1.tfld lt (regChDst x.ch) 11 0) then endXact s1 lt slot x stProtFault
      else if chForeign s1 lt x.ch && !fabMayTake s1 lt then s1
      else
        let s2 := if chForeign s1 lt x.ch then fabTake s1 lt else s1
        sendRequest (setXact s2 lt slot { x with phase := .credit }) lt (.xact slot) (chDest s2 lt x.ch)
          (chTarget s2 lt x.ch) 1 (xactBytes s2 lt x) (if window then fieldAt x.msg 0x10 4 else 0) x.am []

/-- The delivered header of Table 11.3. -/
def deliveredHeader (s : State) (lt : Nat) (x : Xact) : List Byte :=
  leBytes 8 (tileGa s lt) ++ leBytes 4 (msgLength x.msg) ++ slice x.msg 0x0C 4 ++ leBytes 1 x.ch ++ leBytes 1 (b2n x.am)
    ++ (if x.am then leBytes 2 (fieldAt x.msg 0x11 1) else slice x.msg 0x14 2) ++ leBytes 4 x.seq ++ leBytes 8 0

/-- The argument block of Table 11.6. -/
def argBlock (m : List Byte) : List Byte :=
  slice m 0x10 1 ++ leBytes 3 0 ++ slice m 0x14 4 ++ slice m 0x18 8 ++ leBytes 16 0

/-- What a transaction's write carries before its data (R283, R295). -/
def xactHead (s : State) (lt : Nat) (x : Xact) : List Byte :=
  if x.am then deliveredHeader s lt x ++ argBlock x.msg
  else if s.tbit lt (regChCfg x.ch) 3 then [] else deliveredHeader s lt x

/-- Whether a descriptor message asks for NOTIFY (Table 11.2). -/
def xactNotify (x : Xact) : Bool := !x.am && nbit (fieldAt x.msg 0x14 2) 0

/-- The write of a granted transaction, as it is sent: aborted where the source cannot be read (R282, R285). -/
def xactWrite (s : State) (lt : Nat) (x : Xact) (r : SendReq) (m : CreditMsg) (data : List Byte) (abort : Bool) : WriteMsg :=
  { sender := BitVec.ofNat 64 (tileGa s lt), reqTag := r.msg.reqTag, creditTag := m.creditTag, target := m.target,
    offset := m.offset, data := if abort then [] else xactHead s lt x ++ data, abort := abort, notify := xactNotify x }

/-- A GRANT reaches a channel transaction (R282 step 4, R285): the source is read and the write sent; an off bank or a UE
ends the write with an abort mark and the transaction with its status. -/
def grantXact (s : State) (lt slot : Nat) (x : Xact) (r : SendReq) (m : CreditMsg) : State :=
  match readRange s lt x.lv x.xlat (piecesOf (fieldAt x.msg 0 8) (msgLength x.msg)) with
  | (s1, .error st) =>
    endXact (netSend (dropReq s1 lt r.msg.reqTag) (.write r.dst.toNat (xactWrite s1 lt x r m [] true))) lt slot x st
  | (s1, .ok data) =>
    netSend (markSent (setXact s1 lt slot { x with phase := .sent }) lt r)
      (.write r.dst.toNat (xactWrite s1 lt x r m data false))

/-! ### Closing and reopening -/

/-- CLOSE or REOPEN through CH_CTRL (R289). -/
def chControl (s : State) (lt n : Nat) (close : Bool) : State :=
  let st := chState s lt n
  if st = 0 then s.setTbit lt regChStatus 3 true
  else if close then (if st = 1 then setChState s lt n 2 else s)
  else if st = 2 then
    (if s.tfld lt (regChUse n) 22 16 = 0 then setChState s lt n 1 else s.setTbit lt regChStatus 3 true)
  else s

/-- A write of CH_CTRL: CHANNEL and OP are stored, and GO performs OP (R289). -/
def writeChCtrl (s : State) (lt : Nat) (v : Word) : State :=
  let s1 := s.setTreg lt regChCtrl (v &&& 0x1FF)
  if bit v 9 then chControl s1 lt (fld v 7 0) (bit v 8) else s1

/-- Whether overflow mapping of Bolt `b` to Bolt `o` may be enabled (R290). -/
def ovfValid (s : State) (lt b o : Nat) : Bool :=
  o != b && boltOpen s lt o && !bit (boltCfg s lt o) 3 && fld (boltCfg s lt o) 30 26 == fld (boltCfg s lt b) 30 26 &&
    (List.range 64).all (fun x => x == b || overflowOf s lt x != some o)

/-- A write of byte `j` of CH_OVF_MAPn: enabling is accepted or refused with OVF_CFG_ERR (R290). -/
def writeOvf (s : State) (lt b : Nat) (v : Nat) : State :=
  let n := regChOvfMap (b / 4)
  let j := 8 * (b % 4)
  let s1 := (s.setTfld lt n (j + 5) j (v % 64)).setTbit lt n (j + 7) false
  if nbit v 7 then
    if ovfValid s1 lt b (v % 64) then s1.setTbit lt n (j + 7) true else s1.setTbit lt regChStatus 4 true
  else s1

/-- A write of CH_OVF_MAPn: its four bytes in turn. -/
def writeOvfMap (s : State) (lt n : Nat) (v : Word) : State :=
  (List.range 4).foldl (fun st j => writeOvf st lt (4 * n + j) (fld v (8 * j + 7) (8 * j))) s

/-! ### The instructions -/

/-- TCC only, any level, not in an active-message handler. -/
def tccNoAm : Where := ⟨true, false, .u, false⟩

/-- `ch.send` (R280). -/
def execChSend (lt : Nat) (c : CoreId) (rd rs1 rs2 : BitVec 5) (idx : BitVec 6) (s : State) : Out :=
  let word := wordT 0x13 rd rs1 rs2 idx 0
  insn lt c 4 word tccNoAm (fun s => chSend s lt false rd rs1 rs2 idx word) s

/-- `ch.am` (R295). -/
def execChAm (lt : Nat) (c : CoreId) (rd rs1 rs2 : BitVec 5) (idx : BitVec 6) (s : State) : Out :=
  let word := wordT 0x13 rd rs1 rs2 idx 1
  insn lt c 4 word tccNoAm (fun s => chSend s lt true rd rs1 rs2 idx word) s

/-- `ch.close` (R280, R289). -/
def execChClose (lt : Nat) (c : CoreId) (rd rs1 rs2 : BitVec 5) (idx : BitVec 6) (s : State) : Out :=
  let word := wordT 0x13 rd rs1 rs2 idx 2
  insn lt c 4 word tccNoAm (fun s =>
    let r2 := gRead s lt .tcc rs2
    let n := idx.toNat + 64 * fld r2 1 0
    if 4 ≤ r2.toNat ∨ rd ≠ 0 ∨ rs1 ≠ 0 then illegalOperand s word
    else if chState s lt n = 0 then illegalOperand s word
    else .done (setChState s lt n 2)) s

/-- `ch.state` (R280). -/
def execChState (lt : Nat) (c : CoreId) (rd rs1 rs2 : BitVec 5) (idx : BitVec 6) (s : State) : Out :=
  let word := wordT 0x13 rd rs1 rs2 idx 3
  insn lt c 4 word tccNoAm (fun s =>
    let r2 := gRead s lt .tcc rs2
    let n := idx.toNat + 64 * fld r2 1 0
    if 4 ≤ r2.toNat ∨ rs1 ≠ 0 then illegalOperand s word
    else .done (gWrite s lt .tcc rd
      (BitVec.ofNat 64 ((tileRead s lt (regChUse n)).toNat + chState s lt n * 2 ^ 32)))) s

/-! ### The events -/

/-- CH_XACT_START (R282). -/
def execChXactStart (lt : Nat) (slot : BitVec 6) (s : State) : Out :=
  onTile lt s (fun s =>
    match xactOf s lt slot.toNat with
    | some x => if x.phase = .queued then startXact s lt slot.toNat x else s
    | none => s)

/-- CH_XACT_TIMEOUT (R285, Table 11.4): a transaction whose write was sent and not acknowledged completes with TIMEOUT. -/
def execChXactTimeout (lt : Nat) (slot : BitVec 6) (s : State) : Out :=
  onTile lt s (fun s =>
    match xactOf s lt slot.toNat with
    | some x =>
      if x.phase = .sent then
        endXact (s.modTile lt (fun t => { t with reqs := t.reqs.filter (fun p => p.2.owner != .xact slot.toNat) })) lt
          slot.toNat x stTimeout
      else s
    | none => s)

/-- CH_REOPEN (R289). -/
def execChReopen (lt : Nat) (lv : Level) (ch : BitVec 8) (s : State) : Out :=
  regCommand lt lv (fun s => writeChCtrl s lt (BitVec.ofNat 32 (ch.toNat + 2 ^ 9))) s

/-- CH_CLOSE_CTRL (R289). -/
def execChCloseCtrl (lt : Nat) (lv : Level) (ch : BitVec 8) (s : State) : Out :=
  regCommand lt lv (fun s => writeChCtrl s lt (BitVec.ofNat 32 (ch.toNat + 2 ^ 8 + 2 ^ 9))) s

/-- CH_OVF_MAP_WRITE (R290). -/
def execChOvfMapWrite (lt : Nat) (lv : Level) (n : BitVec 4) (v : Word) (s : State) : Out :=
  regCommand lt lv (fun s => writeOvfMap s lt n.toNat v) s

/-- The message of which Bolt `o`'s head slot is part, and whether that slot is its last. A slot that no message of this record fills (a local
push) counts as a plain write. -/
def headMsg (s : State) (lt o : Nat) : OvfMsg × Bool :=
  let d := fun (m : OvfMsg) => ringDist (boltMod s lt o) m.start (boltHead s lt o)
  match (ovfMsgs s lt o).find? (fun m => decide (d m < m.slots)) with
  | some m => (m, d m + 1 == m.slots)
  | none => (⟨0, 1, 0, 0, false⟩, true)

/-- A message one slot of which was voided is no longer one that commits: it sets no ARRIVE (R286; DESIGN CHOICE, log entry 54). -/
def dropNotify (s : State) (lt o : Nat) (m : OvfMsg) : State :=
  setOvfMsgs s lt o ((ovfMsgs s lt o).map (fun x => if x = m then { x with notify := false } else x))

/-- The mover copies the overflow Bolt's committed head slot to the Bolt's RESERVE position, advances RESERVE and COMMIT and releases the slot
in the overflow Bolt; ARRIVE comes with the last slot of a message with NOTIFY (R286). A UE voids the slot by the KIND of the message's request
and records event 0x06 with the sender's SEQ; of a slot that is no channel message's, the SEQ is a free value (R284, R291). -/
def ovfMove (s : State) (lt b o : Nat) : State :=
  let slot := cfgSlot (boltCfg s lt o)
  let src := slotOff s lt o (boltHead s lt o)
  let start := boltReserve s lt b
  let m := headMsg s lt o
  match memRead s lt src slot with
  | (s1, .error e) =>
    if e.1 = stEccUncorr then
      let s2 := if m.1.kind = 1 then s1 else s1.drawn
      let seq := if m.1.kind = 1 then m.1.seq else s1.freeBelow (2 ^ 32)
      let s3 := boltVoid (boltTake (dropNotify s2 lt o m.1) lt b 1) lt b start 1 m.1.kind
      boltRelease (skbEvent s3 (.tile lt) 0x06 [b, seq, e.2]) lt o 1
    else s1
  | (s1, .ok bs) =>
    match memWrite s1 lt (slotOff s1 lt b start) bs with
    | (s2, some _) => s2
    | (s2, none) => boltRelease (boltLand (boltTake s2 lt b 1) lt b start (m.1.notify && m.2)) lt o 1

/-- OVF_MOVE (R291). -/
def execOvfMove (lt : Nat) (b : BitVec 6) (s : State) : Out :=
  onTile lt s (fun s =>
    match overflowOf s lt b.toNat with
    | some o =>
      if boltReady s lt o ≠ 0 ∧ boltFree s lt b.toNat ≠ 0 ∧ (boltWindow s lt b.toNat).length < 64 then ovfMove s lt b.toNat o
      else s
    | none => s)

/-- The report of a stalled send or a waiting transaction (R292). -/
def chStallReport (s : State) (lt ch kind : Nat) : State :=
  let w := BitVec.ofNat 32 (ch + kind * 2 ^ 8 + stChannelStall.toNat * 2 ^ 16 + 2 ^ 31)
  let s1 := s.setTbit lt regChStatus 0 true
  let s2 := if s1.tbit lt regChStall 31 then s1 else s1.setTreg lt regChStall w
  skbEvent s2 (.tile lt) 0x04 [w.toNat, (tileRead s2 lt (regChUse ch)).toNat, (s2.treg lt (regChSeq ch)).toNat]

/-- CH_STALL_TIMEOUT (R292): of the TCC's stalled send (`slot` none), or of a transaction that waits for its credit. -/
def execChStallTimeout (lt : Nat) (slot : Option (BitVec 6)) (s : State) : Out :=
  onTile lt s (fun s =>
    match slot with
    | none =>
      match (s.tile lt).tcc.wait with
      | some (.channel n) => if stallNew s lt .tcc then chStallReport (tellStall s lt .tcc) lt n 0 else s
      | _ => s
    | some k =>
      match xactOf s lt k.toNat with
      | some x =>
        if x.phase = .credit ∧ x.reported = false then
          chStallReport (setXact s lt k.toNat { x with reported := true }) lt x.ch 1
        else s
      | none => s)

/-! ### Active messages at the receiver -/

/-- AM_ENTRY (R296): taken in place of interrupt 9 where an S interrupt could be taken and no other goes first (04, R112). -/
def execAmEntry (lt : Nat) (s : State) : Out :=
  onTile lt s (fun s =>
    if tccLive s lt && !(s.tile lt).fatal && regionState s (regionOf s lt) != 3 && intToTake s lt == some 9 && amNext s lt then
      interruptEntry s lt 9
    else s)

end Sys2Proof.Machine
end

