-- ==== Sys2Proof/Machine/Crc.lean ====
section
/-!
DEFINITION. The check codes over bytes that the spec names: CRC-32 of IEEE 802.3 and CRC-32C, in reflected form (09, Table
9.1; 20, R475), and the packet error code of SMBus (20, R468).
-/
namespace Sys2Proof.Machine

open Sys2Proof

/-- Eight steps of a reflected CRC. -/
def crcBits (poly : Nat) : Nat → Nat → Nat
  | 0, c => c
  | n + 1, c => crcBits poly n (if c % 2 = 1 then (c / 2) ^^^ poly else c / 2)

/-- A reflected CRC of 32 bits over bytes, with all ones before and after. -/
def crcReflected (poly : Nat) (bs : List Byte) : Nat :=
  (bs.foldl (fun c b => crcBits poly 8 (c ^^^ b.toNat)) 0xFFFFFFFF) ^^^ 0xFFFFFFFF

/-- CRC-32 with the IEEE 802.3 polynomial. -/
def crc32 (bs : List Byte) : Nat := crcReflected 0xEDB88320 bs

/-- CRC-32C. -/
def crc32c (bs : List Byte) : Nat := crcReflected 0x82F63B78 bs

/-- Eight steps of a CRC of 8 bits with the polynomial 0x07, the highest bit first. -/
def crc8Bits : Nat → Nat → Nat
  | 0, c => c
  | n + 1, c => crc8Bits n ((2 * c % 256) ^^^ (if 128 ≤ c then 0x07 else 0))

/-- The packet error code of SMBus over all the bytes of a transaction (PRESUMED, log entry 54). -/
def crc8 (bs : List Byte) : Nat := bs.foldl (fun c b => crc8Bits 8 (c ^^^ b.toNat)) 0

end Sys2Proof.Machine
end

