-- ==== Sys2Proof/Machine/FabWire.lean ====
section
/-!
DEFINITION. The bytes that a fabric port sends: packets with their envelope, flits, HELLO (14, Table 14.4, Table 14.6, Table 14.7, R350, R352,
R373).
-/
namespace Sys2Proof.Machine

open Sys2Proof

/-- INSTALL_ID of the policy in effect, or zero (Table 19.4). -/
def installId (s : State) : List Byte := if s.sec.policy then slice s.flash.policy 0x08 16 else leBytes 16 0

/-- The key of a generation of the session with module `d`, for packets to it (`out`) or from it: HKDF-Expand of the exchange's PRK under the label
of the direction (19, R454). -/
def genKey (s : State) (d gen : Nat) (out : Bool) : List Byte :=
  match kvFind (sessOf s d).gens gen with
  | some (prk, init) => hkdfExpand prk (asciiBytes (if init == out then "xmw1 i>r" else "xmw1 r>i"))
  | none => []

/-- The key of this module's packets to another under a KEY_ID: that generation's, or for 15 the handshake key (R373; 19, R453). A packet that is
sent again is so sealed to the same bytes, whatever generation is current then (R358). -/
def txKey (s : State) (d key : Nat) : List Byte := if key = 15 then sha256 (asciiBytes "xmw1 hs" ++ installId s) else genKey s d key true

/-- A credit message's flit (03, Table 3.2). -/
def creditFlit (typ : BitVec 8) (m : CreditMsg) : List Byte :=
  leBytes 1 typ.toNat ++ leBytes 1 m.target.toNat ++ leBytes 2 m.reqTag.toNat ++ leBytes 2 m.creditTag.toNat ++ leBytes 1 m.status.toNat
    ++ leBytes 1 m.kind.toNat ++ leBytes 4 m.bytes.toNat ++ leBytes 4 m.offset.toNat ++ leBytes 8 m.peer.toNat ++ leBytes 8 0

/-- An element of a reduction chunk of `n` bytes an element, as the contribution's format has it: BF16, FP32, or FP32+C (10, R273). -/
def redBytes (n : Nat) (e : Word × BitVec 16) : List Byte :=
  if n = 2 then leBytes 2 (e.1.toNat / 2 ^ 16) else if n = 4 then leBytes 4 e.1.toNat else leBytes 4 e.1.toNat ++ leBytes 2 e.2.toNat

/-- What a packet of this module carries, as bytes (Table 14.7). Where the spec gives no layout (tokens of a batch, elements of a chunk, a return
of route credits) the order here is the model's (DESIGN CHOICE, log entry 54); what is sent is its ciphertext. -/
def bodyBytes (x : FabPkt) : List Byte :=
  match x.body with
  | .write w => w.data
  | .batch ts => (ts.map (fun t => leBytes 16 t.data.toNat)).flatten
  | .credit typ m => creditFlit typ m
  | .ack base bitmap ece st => leBytes 8 base.toNat ++ leBytes 2 bitmap.toNat ++ leBytes 1 (b2n ece) ++ leBytes 1 st.toNat ++ leBytes 4 0
  | .reduce p => (p.elems.map (redBytes (x.length.toNat / 64))).flatten
  | .sync typ o v => leBytes 4 (typ.toNat + o.toNat * 2 ^ 4) ++ leBytes 4 v.toNat
  | .abort xid => leBytes 4 xid.toNat ++ leBytes 4 0
  | .cancel psn => leBytes 8 psn.toNat
  | .session msg frag frags gen xchg bs =>
    leBytes 1 msg.toNat ++ leBytes 1 frag.toNat ++ leBytes 1 frags.toNat ++ leBytes 1 gen.toNat ++ leBytes 4 xchg.toNat ++ bs
  | .skCredit _ n => leBytes 4 n
  | .unread bs => bs

/-- The header of a packet (Table 14.6); with `aad`, as the envelope authenticates it: ESC, CE, TTL and AGE zero (R373). -/
def pktHead (x : FabPkt) (aad : Bool) : List Byte :=
  let m := fun n => if aad then 0 else n
  leBytes 2 x.dst.toNat ++ leBytes 2 x.src.toNat
    ++ leBytes 1 (x.cls.toNat + m (b2n x.esc) * 2 ^ 3 + b2n x.flagged * 2 ^ 4 + m (b2n x.ce) * 2 ^ 5)
    ++ leBytes 1 x.typ.toNat ++ leBytes 1 (m x.ttl.toNat) ++ leBytes 1 x.keyId.toNat ++ leBytes 8 x.psn.toNat ++ leBytes 8 x.ga.toNat
    ++ leBytes 2 x.srcTile.toNat ++ leBytes 2 (m x.age.toNat) ++ leBytes 4 x.length.toNat ++ leBytes 4 x.xid.toNat ++ leBytes 4 x.segs.toNat
    ++ leBytes 8 x.orderBase.toNat

/-- Ciphertext and tag of a packet (R373). This module makes them for its own packets; those of another's it passes on as they came: bytes that
it cannot read, or free values where the command that brought the packet does not give them. -/
def pktSealed (s : State) (x : FabPkt) : List Byte :=
  let n := x.length.toNat + 16
  if x.src.toNat = hereId s then
    slice (Config.seal (txKey s x.dst.toNat x.keyId.toNat) (leBytes 8 x.psn.toNat ++ leBytes 2 x.dst.toNat ++ leBytes 2 x.src.toNat) (pktHead x true)
      (slice (bodyBytes x) 0 x.length.toNat)) 0 n
  else match x.body with
    | .unread bs => slice bs 0 n
    | _ => (List.range n).map (Config.freeByte x.psn.toNat)

/-- A packet as bytes: header, ciphertext, tag. -/
def pktImage (s : State) (x : FabPkt) : List Byte := pktHead x false ++ pktSealed s x

/-- The payload of the k-th flit of a packet: its next 244 bytes, then zeros (R352). -/
def flitPayload (s : State) (x : FabPkt) (k : Nat) : List Byte := slice ((pktImage s x).drop (244 * k)) 0 244

/-- A flit as the 256 bytes on the wire (Table 14.4). -/
def flitImage (f : FabFlit) (payload : List Byte) : List Byte :=
  let b := leBytes 2 f.seq.toNat ++ leBytes 2 f.ack.toNat
    ++ leBytes 1 (f.vc.toNat + b2n f.idle * 2 ^ 3 + b2n f.sop * 2 ^ 4 + b2n f.eop * 2 ^ 5 + b2n f.nak * 2 ^ 6 + b2n f.hello * 2 ^ 7)
    ++ leBytes 1 f.cvc.toNat ++ leBytes 2 f.credits.toNat ++ slice payload 0 244
  b ++ leBytes 4 (crc32c b)

end Sys2Proof.Machine
end

