-- ==== Sys2Proof/Machine/FabPort.lean ====
section
/-!
DEFINITION. Fabric ports: bring-up, pairing, going down, flits (14, R346 to R355; 15, R389; 20, R471).
-/
namespace Sys2Proof.Machine

open Sys2Proof

/-! ### Causes -/

abbrev causeDisabled : Nat := 1
abbrev causeLos : Nat := 2
abbrev causeTraining : Nat := 3
abbrev causeRetry : Nat := 4
abbrev causeFec : Nat := 5
abbrev causeCoast : Nat := 6
abbrev causeRegion : Nat := 7
abbrev causePairing : Nat := 8
abbrev causeSelf : Nat := 9
abbrev causeGesso : Nat := 10

/-- A command on a fabric port, where it exists (R345). -/
def onPort (p : Nat) (s : State) (f : State → State) : Out := if p < 120 then .next (f s) else .fault .noSuchUnit

/-- The PLL of a fabric port: FAB_W for field columns 0 to 5, else FAB_E (R346). -/
def fabPll (p : Nat) : Nat := if fieldCol (p / 2) ≤ 5 then 5 else 6

/-- The cause of Table 14.3 that holds a port down now, or 0 (R351, R368; 21, R484). A port is down while the router of either mesh at its
position is bypassed, by whatever cause (02, R38). Where several hold, an absent cable end comes first (21, R484), then the order here (DESIGN CHOICE,
log entry 54). -/
def heldCause (s : State) (p : Nat) : Nat :=
  if s.mgt.absent.contains (p / 10) then causeLos
  else if !bit (s.freg (p / 2) (regFabPortCfg (p % 2))) 0 || s.fab.routes.any (fun t => !nbit t.portEn p) then causeDisabled
  else if pllState s (fabPll p) != 2 then causeCoast
  else if regionState s (regionOfField (p / 2)) = 5 then causeRegion
  else if portMapped s p || s.gesso.isoPorts.contains p || routerBypassed s (portPt p) 0 || routerBypassed s (portPt p) 2 then causeGesso
  else 0

/-- STATE and CAUSE of a port, with LANES (FAB_PORT_STATUS). -/
def setPortState (s : State) (p st cause lanes : Nat) : State :=
  let o := regFabPortStatus (p % 2)
  ((s.setFfld (p / 2) o 2 0 st).setFfld (p / 2) o 7 4 cause).setFfld (p / 2) o 23 16 lanes

/-- Step 1 of Table 14.2, where nothing holds the port down. -/
def startPort (s : State) (p : Nat) : State :=
  if heldCause s p = 0 then setPortState s p 1 0 0 else setPortState s p 4 (heldCause s p) 0

/-! ### Packets that end -/

/-- The packets that wait at a port, by VC. -/
def portPackets (x : FabPort) : List EgPkt := ((List.range 7).map (portQueue x)).flatten

/-- A packet that waited for a port that went down is looked up again (R351, R366, R389), from that port's place: it takes another port and its
room there, waits for it in its ingress port's receive buffer, or ends. An ACK of this module is never queued again (15, R384). -/
def relookup (p : Nat) (s : State) (e : EgPkt) : State :=
  let x := { e with pos := portPt p }
  match e.ingress, e.pkt.body with
  | none, .ack .. => (trySend s x).getD s
  | _, _ => sendOrWait s x

/-- A port goes DOWN (R351): its buffers are discarded, with the packets that wait in its receive buffer for another port, DOWN_EVT is set, the event
is logged, and packets that wait for it are looked up again. -/
def portDown (s : State) (p cause : Nat) : State :=
  if portState s p = 0 ∨ portState s p = 4 then s
  else
    let moved := portPackets (fabPort s p)
    let s0 := { s with fab := { s.fab with toSend := s.fab.toSend.filter (fun e => e.ingress != some p) } }
    let s1 := setPortState (modPort s0 p (fun _ => FabPort.reset)) p 4 cause 0
    let s2 := mcLog (s1.setFfld (p / 2) (regFabPortStatus (p % 2)) 8 8 1) 2 12 noPt p 0 cause
    moved.foldl (relookup p) s2

/-- A port is held DOWN with a cause, whatever its state was: one that is not DOWN goes down, and one that is off or DOWN takes the cause (R368; 21,
R484). -/
def holdPort (s : State) (p cause : Nat) : State :=
  if portState s p = 0 ∨ portState s p = 4 then setPortState s p 4 cause 0 else portDown s p cause

/-- FAB_PORT_ENABLE (R350): a write of EN at M. -/
def portEnable (s : State) (p : Nat) : State :=
  let s1 := s.setFfld (p / 2) (regFabPortCfg (p % 2)) 0 0 1
  if portState s p = 0 ∨ (portState s p = 4 ∧ s.ffld (p / 2) (regFabPortStatus (p % 2)) 7 4 = causeDisabled) then startPort s1 p else s1

/-- FAB_PORT_DISABLE (R351): EN is cleared. -/
def portDisable (s : State) (p : Nat) : State :=
  let s1 := s.setFfld (p / 2) (regFabPortCfg (p % 2)) 0 0 0
  if portState s p = 4 then s1.setFfld (p / 2) (regFabPortStatus (p % 2)) 7 4 causeDisabled else portDown s1 p causeDisabled

/-- A write of FAB_PORT_CFG at M (R379): EN and LOOPBACK. -/
def writePortCfg (s : State) (p : Nat) (v : Word) : State :=
  let s1 := s.setFfld (p / 2) (regFabPortCfg (p % 2)) 2 2 (b2n (bit v 2))
  if bit v 0 == bit (s.freg (p / 2) (regFabPortCfg (p % 2))) 0 then s1
  else if bit v 0 then portEnable s1 p else portDisable s1 p

/-- A port command by a core or the management: PROT_FAULT at U, ignored from S (R379). -/
def portCommand (p : Nat) (lv : Level) (s : State) (f : State → State) : Out :=
  onPort p s (mCommand lv f)

/-- FAB_PORT_ENABLE (R350). -/
def execFabPortEnable (lv : Level) (p : Nat) (s : State) : Out := portCommand p lv s (fun s => portEnable s p)

/-- FAB_PORT_DISABLE (R351). -/
def execFabPortDisable (lv : Level) (p : Nat) (s : State) : Out := portCommand p lv s (fun s => portDisable s p)

/-! ### Sending flits -/

/-- The bits of a flit, sent or received, count at the tile of the port: activity counter 15 (16, R392). -/
def countBits (s : State) (p : Nat) : State := bumpAt s (portPt p) 15 2048

/-- Whether a flit of the head packet of a VC can be sent (R353). -/
def vcReady (x : FabPort) (vc : Nat) : Bool := !(portQueue x vc).isEmpty && decide (0 < kvGet 0 x.credits vc)

/-- The AGE of the head packet of a VC, with its wait here. -/
def headAge (now : Nat) (x : FabPort) (vc : Nat) : Nat := ((portQueue x vc).head?.map (ageNow now)).getD 0

/-- The first VC of the oldest head packet among those given. -/
def oldestVc (now : Nat) (x : FabPort) : List Nat → Option Nat
  | [] => none
  | v :: r => some (r.foldl (fun a w => if headAge now x a < headAge now x w then w else a) v)

/-- The VC that a port sends from next, and the rest of its round (R353; 15, R386): SELVAGE, CONTROL, then the others in age-ordered rounds, a flit
each; those ready join when a round begins. -/
def nextVc (now : Nat) (x : FabPort) : Option (Nat × List Nat) :=
  if vcReady x 6 then some (6, x.round)
  else if vcReady x 5 then some (5, x.round)
  else
    let left := x.round.filter (vcReady x)
    let ready := if left.isEmpty then (List.range 5).filter (vcReady x) else left
    (oldestVc now x ready).map (fun v => (v, ready.filter (· != v)))

/-- The queue of the SELVAGE VC puts the packet with the largest AGE first (R353); a packet that is being sent stays first. -/
def bestFirst (now : Nat) (q : List EgPkt) (sending : Bool) : List EgPkt :=
  match q with
  | [] => []
  | a :: r =>
    if sending then q
    else
      let m := r.foldl (fun b x => if ageNow now b < ageNow now x then x else b) a
      m :: q.erase m

/-- The credits that the next flit returns: those owed of the lowest VC that has any (Table 14.4; which VC goes first is a DESIGN CHOICE, log
entry 54). -/
def creditsToReturn (x : FabPort) : Nat × Nat := ((List.range 7).find? (fun v => decide (0 < kvGet 0 x.owed v))).elim (0, 0) (fun v => (v, kvGet 0 x.owed v))

/-- A flit with the port's next number goes on the wire and is kept until it is acknowledged (R354); it carries the last number received in
order, NAK while flits are discarded, and credits (Table 14.4). -/
def putFlit (x : FabPort) (f : FabFlit) (payload : List Byte) : FabPort :=
  let c := creditsToReturn x
  let g := { f with
    seq := BitVec.ofNat 16 x.txSeq, ack := BitVec.ofNat 16 (x.rxSeq + 2 ^ 16 - 1), nak := x.dropping, cvc := BitVec.ofNat 3 c.1, credits := BitVec.ofNat 16 c.2 }
  { x with
    txSeq := (x.txSeq + 1) % 2 ^ 16, replay := x.replay ++ [(g, payload)], owed := if c.2 = 0 then x.owed else kvSet x.owed c.1 0
    wire := some (g, payload) }

/-- A flit that carries no packet bytes (R352). -/
def idleFlit : FabFlit :=
  { seq := 0, ack := 0, vc := 0, idle := true, sop := false, eop := false, nak := false, hello := false, cvc := 0, credits := 0, good := true, pkt := none }

/-- One flit of a VC's packet is sent (R352, R353); as its first flit goes, its wait here is in its AGE (R363). -/
def sendFlit (s : State) (x : FabPort) (vc : Nat) (round : List Nat) : FabPort :=
  let k := kvGet 0 x.headSent vc
  match (if vc = 6 then bestFirst s.aon (portQueue x vc) (k != 0) else portQueue x vc) with
  | [] => x
  | a0 :: r =>
    let a := if k = 0 then aged s.aon a0 else a0
    let last := decide (pktFlits a.pkt ≤ k + 1)
    let y := putFlit x { idleFlit with vc := BitVec.ofNat 3 vc, idle := false, sop := k == 0, eop := last, pkt := if last then some a.pkt else none }
      (flitPayload s a.pkt k)
    { y with
      queues := kvSet y.queues vc (if last then r else a :: r)
      headSent := kvSet y.headSent vc (if last then 0 else k + 1)
      credits := kvSet y.credits vc (kvGet 0 y.credits vc - 1)
      round := round }

/-- The HELLO that a port of this module sends: its ID and whether it has one, the port, the serial number, the cable's SERIAL and END as read
at its bundle (R350; 20, R471). -/
def ownHello (s : State) (p : Nat) : Hello :=
  let m := kvGet [] s.mgt.parts (2 + p / 10)
  { peer := BitVec.ofNat 16 (hereId s), idValid := s.moduleId.isSome, port := BitVec.ofNat 7 p, serial := Config.serial,
    cable := slice m 0x28 16, cableEnd := fieldAt m 7 1 }

/-- The payload of a HELLO flit. The spec names its fields and not their places, so their order here is the model's (DESIGN CHOICE, log entry
54). -/
def helloBytes (h : Hello) : List Byte :=
  slice (leBytes 2 h.peer.toNat ++ leBytes 1 (b2n h.idValid) ++ leBytes 1 h.port.toNat ++ slice h.serial 0 12 ++ slice h.cable 0 16 ++
    leBytes 1 h.cableEnd) 0 244

/-- A HELLO goes on the wire as the next flit (R350 step 4, R352). -/
def putHello (s : State) (p : Nat) (x : FabPort) : FabPort := putFlit x { idleFlit with hello := true } (helloBytes (ownHello s p))

/-- What is on the wire while 512 flits are not acknowledged and none is to be sent again: IDLE under the number last sent, which the far end
takes as one that it has had (DESIGN CHOICE, log entry 54: the stream is continuous, R352, and no more flits can be kept, R354). -/
def stalledFlit (x : FabPort) : FabFlit :=
  { idleFlit with seq := BitVec.ofNat 16 (x.txSeq + 2 ^ 16 - 1), ack := BitVec.ofNat 16 (x.rxSeq + 2 ^ 16 - 1), nak := x.dropping }

/-- What a port in HELLO or UP puts on the wire next: a flit to be sent again, with the acknowledgement of now; else, in HELLO, IDLE for 10 µs and
then its HELLO; else, when UP, a flit of a packet, or IDLE (R350, R352 to R354). -/
def transmit (s : State) (p : Nat) : State :=
  let st := portState s p
  if st ≠ 2 ∧ st ≠ 3 then s
  else modPort (countBits s p) p (fun x =>
    match x.resend with
    | a :: r => { x with resend := r, wire := some ({ a.1 with ack := BitVec.ofNat 16 (x.rxSeq + 2 ^ 16 - 1), nak := x.dropping }, a.2) }
    | [] =>
      if 512 ≤ x.replay.length then { x with wire := some (stalledFlit x, leBytes 244 0) }
      else if st = 2 then (if s.aon < x.trainedAt + 10 then putFlit x idleFlit (leBytes 244 0) else putHello s p x)
      else match nextVc s.aon x with
        | some v => sendFlit s x v.1 v.2
        | none => putFlit x idleFlit (leBytes 244 0))

/-- FAB_PORT_TRAINED (R350 step 3): training, FEC lock and deskew complete; flit sequence numbers start at 0, IDLE flits flow, and the port is in
HELLO. Where a cause holds it down it goes DOWN instead (R351; 02, R38). -/
def execFabPortTrained (p : Nat) (s : State) : Out :=
  onPort p s (fun s =>
    if portState s p ≠ 1 then s
    else if heldCause s p ≠ 0 then portDown s p (heldCause s p)
    else setPortState (modPort s p (fun _ => putFlit { FabPort.reset with trainedAt := s.aon } idleFlit (leBytes 244 0))) p 2 0 0xFF)

/-! ### Receiving flits -/

/-- Whether flit number `a` is at or before `b`, within half the wrapping range. -/
def seqLe (a b : Nat) : Bool := decide ((b + 2 ^ 16 - a) % 2 ^ 16 < 2 ^ 15)

/-- The flits up to the acknowledged one are freed (R354). -/
def ackFlits (x : FabPort) (ack : Nat) : FabPort :=
  { x with replay := x.replay.filter (fun f => !seqLe f.1.seq.toNat ack), resend := x.resend.filter (fun f => !seqLe f.1.seq.toNat ack) }

/-- A packet is complete in a receive buffer; one for this module is marked behind more than MARK_TH flits (R369). -/
def receive (s : State) (p vc : Nat) (x : FabPkt) : State :=
  let q := kvGet [] (fabPort s p).rx vc
  let mark := x.dst.toNat == hereId s && vc < 5 && decide (s.mfld regFabMark 6 0 < pktsFlits q)
  modPort s p (fun y => { y with rx := kvSet y.rx vc (q ++ [{ x with ce := x.ce || mark }]) })

/-- A flit that came in order (R352, R353): its credits, and the packet that it ends. -/
def takeFlit (s : State) (p : Nat) (f : FabFlit) : State :=
  let s1 := modPort s p (fun x => { x with
    rxSeq := (x.rxSeq + 1) % 2 ^ 16, dropping := false, credits := kvSet x.credits f.cvc.toNat (kvGet 0 x.credits f.cvc.toNat + f.credits.toNat) })
  match (if f.idle then none else if f.eop then f.pkt else none) with
  | some x => receive s1 p f.vc.toNat x
  | none => s1

/-- A NAK asks for a replay from the flit that follows `ack`: every flit kept is sent again, and the replay is counted. A NAK that comes before
that flit has been sent again is the same NAK; one that comes after it shows that the replay failed, and after 16 failed replays in a row the port
goes down (R354, R355). -/
def replayFlits (s : State) (p ack : Nat) : State :=
  let x := fabPort s p
  let next := fun (f : FabFlit × List Byte) => f.1.seq.toNat == (ack + 1) % 2 ^ 16
  if !x.replay.any next || (x.nakAt == some ack && x.resend.any next) then s
  else
    let n := if x.nakAt = some ack then x.fails + 1 else 0
    let e := regFabPortErr (p % 2)
    if 16 ≤ n then portDown s p causeRetry
    else (modPort s p (fun y => { y with nakAt := some ack, fails := n, resend := y.replay })).setFfld (p / 2) e 15 0
      (satInc 16 (s.ffld (p / 2) e 15 0))

/-- What a good flit says of the flits sent to the far end: those that it acknowledges are freed, a NAK has the others sent again, and one that
goes past the flit that a NAK named ends the count of failed replays (R354, R355). -/
def heedFlit (s : State) (p : Nat) (f : FabFlit) : State :=
  let s1 := modPort s p (fun x => ackFlits x f.ack.toNat)
  if f.nak then replayFlits s1 p f.ack.toNat
  else if (fabPort s1 p).nakAt.any (fun a => seqLe (a + 1) f.ack.toNat) then modPort s1 p (fun x => { x with nakAt := none, fails := 0 })
  else s1

/-- A flit reaches a port in HELLO or UP (R352 to R355): `fec` says that the codeword was uncorrectable, which counts as a CRC failure. A flit in
order is taken; one that came before is heeded for its acknowledgement; a later one is discarded. Answers whether the flit was taken. -/
def flitIn (s : State) (p : Nat) (fec : Bool) (f : FabFlit) : State × Bool :=
  let e := regFabPortErr (p % 2)
  let s0 := countBits (if fec then s.setFfld (p / 2) e 31 16 (satInc 16 (s.ffld (p / 2) e 31 16)) else s) p
  let n := (fabPort s p).rxSeq
  if fec || !f.good then (modPort s0 p (fun x => { x with dropping := true }), false)
  else if f.seq.toNat = n then (heedFlit (takeFlit s0 p f) p f, true)
  else if seqLe f.seq.toNat (n + 2 ^ 16 - 1) then (heedFlit s0 p f, false)
  else (s0, false)

/-- FAB_FLIT_RECEIVE (R352 to R355). -/
def execFabFlitReceive (p : Nat) (fec : Bool) (f : FabFlit) (s : State) : Out :=
  onPort p s (fun s => if portState s p = 2 ∨ portState s p = 3 then (flitIn s p fec f).1 else s)

/-! ### Pairing -/

/-- The EEPROM of the cable end at bundle `b`, as read (20, Table 20.6). -/
def cableMem (s : State) (b : Nat) : List Byte := kvGet [] s.mgt.parts (2 + b)

/-- Check 1 of R471: the EEPROM reads with a valid CRC, KIND is not reserved, a passive copper LENGTH is at most 200. -/
def cableOk (m : List Byte) : Bool :=
  m.length == 256 && crc32 (slice m 0 0xFC) == fieldAt m 0xFC 4 && fieldAt m 0 4 == 0x4C424143 && fieldAt m 4 2 == 1 &&
    decide (1 ≤ fieldAt m 6 1) && decide (fieldAt m 6 1 ≤ 3) && (fieldAt m 6 1 != 1 || decide (fieldAt m 0x38 2 ≤ 200))

/-- The cause with which the pairing checks take a port down, or 0 where they pass (R471, R347). -/
def pairing (s : State) (p : Nat) (h : Hello) : Nat :=
  let m := cableMem s (p / 10)
  let far := fieldAt m (0x46 + p % 10) 1
  if !cableOk m then causePairing
  else if h.serial = Config.serial then (if bit (s.freg (p / 2) (regFabPortCfg (p % 2))) 2 then 0 else causeSelf)
  else if h.cable = slice m 0x28 16 ∧ far % 16 = h.cableEnd ∧ far / 16 = h.port.toNat % 10 ∧ Config.partAccepted (slice m 0x18 16) = true then 0
  else causePairing

/-- Step 5 of Table 14.2: link credits for every receive buffer are to be advertised (Table 14.5); the port notes whether the far end is its own
module's, since then it carries no routed traffic (R347). -/
def advertise (own : Bool) (x : FabPort) : FabPort := { x with owed := (List.range 7).map (fun v => (v, vcFlits v)), ownEnd := own }

/-- FAB_HELLO_RECEIVE (R350 step 4, R352; 20, R471): a HELLO flit that is taken in state HELLO has the peer recorded, and the port goes UP, its own
HELLO sent, or DOWN. -/
def execFabHelloReceive (p : Nat) (x : HelloFlit) (s : State) : Out :=
  let h := x.hello
  onPort p s (fun s =>
    if portState s p ≠ 2 ∧ portState s p ≠ 3 then s
    else
      let r := flitIn s p x.fec { x.flit with idle := true }
      if !r.2 || portState r.1 p != 2 then r.1
      else
        let s1 := r.1.setFreg (p / 2) (regFabPortPeer (p % 2)) (BitVec.ofNat 32 (h.peer.toNat + h.port.toNat * 2 ^ 16 + 2 ^ 23 + b2n h.idValid * 2 ^ 24))
        if heldCause s p ≠ 0 then portDown s1 p (heldCause s p)
        else match pairing s p h with
          | 0 => setPortState (modPort s1 p (fun x => advertise (h.serial == Config.serial) (putHello s p x))) p 3 0 0xFF
          | c => portDown s1 p c)

/-- FAB_PORT_DOWN (R351): a cause of Table 14.3 arises. -/
def execFabPortDown (p : Nat) (cause : BitVec 4) (s : State) : Out :=
  onPort p s (fun s => if 1 ≤ cause.toNat ∧ cause.toNat ≤ 10 then portDown s p cause.toNat else s)

/-- FAB_PORT_RETRY (R351): a DOWN port with EN set restarts; one whose cause still holds it stays down. -/
def execFabPortRetry (p : Nat) (s : State) : Out :=
  onPort p s (fun s => if portState s p = 4 ∧ bit (s.freg (p / 2) (regFabPortCfg (p % 2))) 0 = true then startPort s p else s)

/-- A packet that waits moves to the Selvage class (R363): it is sent on VC SELVAGE and follows the ESC ports. `wait` is its wait at its place, in
units of 64 ns. -/
def escape (now : Nat) (e : EgPkt) (wait : Nat) : EgPkt :=
  { e with pkt := { e.pkt with esc := true, age := BitVec.ofNat 16 (min 0xFFFF (e.pkt.age.toNat + wait)) }, since := now }

end Sys2Proof.Machine
end

