-- ==== Sys2Proof/Machine/LaneCtl.lean ====
section
/-!
DEFINITION. Starting lane cores and disposing of their faults (05, R129 to R132).
-/
namespace Sys2Proof.Machine

open Sys2Proof

/-- BAD_ACTION of LC_STATUS is set. -/
def badAction (s : State) (lt : Nat) : State := s.setTbit lt regLcStatus 0 true

/-- Lane core `n` starts at an address (R129); in cluster mode its medium core. -/
def startLane (s : State) (lt n : Nat) (pc : Word) : State :=
  modLanes s lt (coreLanes (s.tile lt) n) (fun _ l => { l with st := .running, pc := pc, started := true, wait := none })

/-- A start of one lane core: ignored where it runs or holds a record (R129). -/
def tryStart (lt : Nat) (pc : Word) (s : State) (n : Nat) : State :=
  let t := s.tile lt
  let l := t.lane (leadLane t n)
  if (t.cluster && n % 16 != 0) || l.st == .running || l.frec.valid then s else startLane s lt n pc

/-- A write of LC_STARTn (R129). -/
def writeLcStart (s : State) (lt n : Nat) (v : Word) : State :=
  if v = 0 then s
  else if (s.tile lt).sk.active.isSome then badAction s lt
  else
    ((List.range 32).filter (fun i => bit v i)).foldl
      (fun st i => tryStart lt (s.treg lt regLcEntry) st (32 * n + i)) s

/-- An action of LC_ACTION on the record of a lane core (R132): 0 RESUME, 1 SKIP, 2 END, 3 REDIRECT. SKIP goes on at the next
instruction: 8 bytes further behind a wide instruction, which a lane core refuses as illegal, and 4 behind any other (04, R90). -/
def lcAction (s : State) (lt lane op : Nat) : State :=
  let t := s.tile lt
  let lead := leadLane t lane
  if t.sk.active.isSome || !(t.lane lead).frec.valid || 4 ≤ op then badAction s lt
  else
    let pc := (t.lane lead).frec.pc
    let wide := (t.lane lead).frec.cause == causeIllegal && fld (t.lane lead).frec.info 1 0 == 3
    let pc' : Word := if op = 1 then pc + (if wide then 8 else 4) else if op = 3 then s.treg lt regLcNewpc else pc
    modLanes s lt (coreLanes t lane) (fun _ l =>
      { l with
        frec := { l.frec with valid := false }
        st := if op = 2 then .stopped else .running
        pc := pc' })

/-- A write of LC_ACTION: LANE and OP are stored, and GO performs OP. -/
def writeLcAction (s : State) (lt : Nat) (v : Word) : State :=
  let s1 := s.setTreg lt regLcAction (v &&& 0x7FF)
  if bit v 11 then lcAction s1 lt (fld v 7 0) (fld v 10 8) else s1

/-- The write of LC_ACTION that performs an action on a lane core. -/
def lcCommand (op lt : Nat) (lv : Level) (lane : BitVec 8) (s : State) : Out :=
  regCommand lt lv (fun s => writeLcAction s lt (BitVec.ofNat 32 (lane.toNat + op * 2 ^ 8 + 2 ^ 11))) s

/-- LC_START (R129). -/
def execLcStart (lt : Nat) (lv : Level) (n : BitVec 3) (v : Word) (s : State) : Out :=
  regCommand lt lv (fun s => writeLcStart s lt n.toNat v) s

/-- LC_RESUME (R132). -/
def execLcResume (lt : Nat) (lv : Level) (lane : BitVec 8) (s : State) : Out := lcCommand 0 lt lv lane s

/-- LC_SKIP (R132). -/
def execLcSkip (lt : Nat) (lv : Level) (lane : BitVec 8) (s : State) : Out := lcCommand 1 lt lv lane s

/-- LC_END (R132). -/
def execLcEnd (lt : Nat) (lv : Level) (lane : BitVec 8) (s : State) : Out := lcCommand 2 lt lv lane s

/-- LC_REDIRECT (R132). -/
def execLcRedirect (lt : Nat) (lv : Level) (lane : BitVec 8) (s : State) : Out := lcCommand 3 lt lv lane s

end Sys2Proof.Machine
end

