-- ==== Sys2Proof/Machine/Sfu.lean ====
section
/-!
DEFINITION. The special functions of the lane cores (05, R122, Table 5.2): special cases, and a value within the stated
accuracy.
-/
namespace Sys2Proof.Machine

open Sys2Proof

/-! ### Reference values, to about 60 bits -/

/-- One bit of an integer square root after the other. -/
def isqrtFrom (n : Nat) : Nat → Nat → Nat
  | 0, r => r
  | k + 1, r =>
    let r' := r + 2 ^ k
    isqrtFrom n k (if r' * r' ≤ n then r' else r)

/-- The integer square root. -/
def isqrt (n : Nat) : Nat := isqrtFrom n (Nat.log2 n / 2 + 1) 0

/-- Fraction bits of the fixed-point numbers below. -/
def fxBits : Nat := 62

/-- `2 ^ f` for a fixed-point fraction below 1: `c` runs through `2 ^ (1/2)`, `2 ^ (1/4)` and so on. -/
def exp2Fx (f : Nat) : Nat → Nat → Nat → Nat
  | 0, _, a => a
  | k + 1, c, a =>
    let c' := isqrt (c * 2 ^ fxBits)
    exp2Fx f k c' (if nbit f k then a * c' / 2 ^ fxBits else a)

/-- The fraction bits of `log2 y` for a fixed-point `y` in [1, 2), most significant first. -/
def log2Fx : Nat → Nat → Nat → Nat
  | 0, _, a => a
  | k + 1, y, a =>
    let s := y * y / 2 ^ fxBits
    if s ≥ 2 ^ (fxBits + 1) then log2Fx k (s / 2) (2 * a + 1) else log2Fx k s (2 * a)

/-- The point at `f` of a turn on the unit circle, by halving the quarter turn; `(cc, cs)` runs through the halves. -/
def turnFx (f : Nat) : Nat → Int → Int → Int → Int → Int × Int
  | 0, _, _, x, y => (x, y)
  | k + 1, cc, cs, x, y =>
    let one : Int := 2 ^ fxBits
    let r := if nbit f k then ((x * cc - y * cs) / one, (x * cs + y * cc) / one) else (x, y)
    let c' : Int := isqrt ((one + cc).toNat * 2 ^ (fxBits - 1))
    turnFx f k c' (if c' = 0 then 0 else cs * one / (2 * c')) r.1 r.2

/-- cosine and sine of a fixed-point number of turns below 1. -/
def circleFx (f : Nat) : Int × Int :=
  let one : Int := 2 ^ fxBits
  let r := turnFx (f % 2 ^ (fxBits - 1)) (fxBits - 1) 0 one one 0
  if nbit f (fxBits - 1) then (-r.1, -r.2) else r

/-- The fraction of a magnitude as a fixed-point number. -/
def fracFx (m : Nat) (e : Int) : Nat := (if 0 ≤ e + fxBits then shl m (e + fxBits) else m / 2 ^ (-(e + fxBits)).toNat) % 2 ^ fxBits

/-- The integer part of a magnitude. -/
def intPart (m : Nat) (e : Int) : Nat := if 0 ≤ e then shl m e else m / 2 ^ (-e).toNat

/-- `2 ^ x` for a finite x, and the exact value where it is one. -/
def refExp2 (neg : Bool) (m : Nat) (e : Int) : FVal × Bool :=
  let i := intPart m e
  let f := fracFx m e
  let exact := decide (shl i (-e) = m) || decide (0 ≤ e)
  let n : Int := if neg then (if f = 0 then -(i : Int) else -(i : Int) - 1) else i
  let g := if neg && f != 0 then 2 ^ fxBits - f else f
  if n > 200 then (.fin false 1 200, false) else if n < -300 then (.fin false 1 (-300), false)
  else if exact then (.fin false 1 n, true)
  else (.fin false (exp2Fx g fxBits (2 ^ (fxBits + 1)) (2 ^ fxBits)) (n - fxBits), false)

/-- `log2 x` for a finite x above 0. -/
def refLog2 (m : Nat) (e : Int) : FVal × Bool :=
  let l := Nat.log2 m
  let y := m * 2 ^ fxBits / 2 ^ l
  let n : Int := (l : Int) + e
  (ofSig (n * 2 ^ 48 + (log2Fx 48 y 0 : Nat)) (-48) false, decide (m = 2 ^ l))

/-- `1 / x`. -/
def refRcp (neg : Bool) (m : Nat) (e : Int) : FVal × Bool :=
  let l := Nat.log2 m
  (.fin neg (2 ^ (l + 64) / m) (-(l : Int) - 64 - e), decide (m = 2 ^ l))

/-- `1 / √x` for x above 0. -/
def refRsqrt (m : Nat) (e : Int) : FVal × Bool :=
  let m' := if e % 2 = 0 then m else 2 * m
  let e' := if e % 2 = 0 then e else e - 1
  let l := Nat.log2 m'
  let r := isqrt (2 ^ (2 * (l + 64)) / m')
  (.fin false r (-(l : Int) - 64 - e' / 2), decide (m' = 2 ^ l ∧ l % 2 = 0))

/-- sine and cosine of a number of turns; exact at quarter turns. -/
def refTurn (cosine neg : Bool) (m : Nat) (e : Int) : FVal × Bool :=
  let f := fracFx m e
  let g := if neg && f != 0 then 2 ^ fxBits - f else f
  let p := circleFx g
  (ofSig (if cosine then p.1 else p.2) (-fxBits) neg,
    decide (f % 2 ^ (fxBits - 2) = 0 ∧ (0 ≤ e + fxBits ∨ m = 0)))

/-! ### The functions -/

/-- Whether two finite values differ by at most `k × 2 ^ q`. -/
def within (a b : FVal) (k : Nat) (q : Int) : Bool :=
  (((a.add false b.neg).abs).cmp (.fin false k q)) ≤ 0

/-- A value of function `fn` at `x` near a reference: any FP32 value within the stated accuracy (Table 5.2), with its
flags. -/
def sfuNear (fn : Nat) (x : Word) (r : FVal × Bool) (k : Nat) (q : Int) : Nat × FpFlags :=
  let d := fp32.result .near r.1
  let w := Config.sfuValue fn x
  let v := fp32.decode w.toNat
  if v.isFin && within v r.1 k q then
    let inex := !(r.2 && v.cmp r.1 == 0)
    (w.toNat, { FpFlags.none with inexact := inex, underflow := inex && nfld w.toNat 30 23 == 0 })
  else (d.1, { d.2 with inexact := d.2.inexact || !r.2 })

/-- The spacing of FP32 at a finite value. -/
def ulpOf (v : FVal) : Int :=
  match v with
  | .fin _ m e => if m = 0 then fp32.qmin else fp32.spacing m e
  | _ => 0

/-- A NaN result with the invalid flag. -/
def sfuInvalid : Nat × FpFlags := (fp32.nan, { FpFlags.none with invalid := true })

/-- A special function of one lane (R122, Table 5.2): 0 exp2, 1 log2, 2 reciprocal, 3 reciprocal square root, 4 sine, 5
cosine. -/
def sfu (fn : Nat) (x : Word) : Nat × FpFlags :=
  match fp32.decode x.toNat with
  | .nan => (fp32.nan, .none)
  | .inf s =>
    match fn with
    | 0 => (if s then 0 else fp32.inf false, .none)
    | 1 => if s then sfuInvalid else (fp32.inf false, .none)
    | 2 => (b2n s * 2 ^ 31, .none)
    | 3 => if s then sfuInvalid else (0, .none)
    | _ => sfuInvalid
  | .fin s m e =>
    match fn with
    | 0 =>
      if !s && decide (intPart m e ≥ 128) then
        (fp32.inf false, { FpFlags.none with overflow := true, inexact := true })
      else
        let r := refExp2 s m e
        sfuNear fn x r 1 (ulpOf r.1)
    | 1 =>
      if m = 0 then (fp32.inf true, { FpFlags.none with divZero := true })
      else if s then sfuInvalid
      else
        let r := refLog2 m e
        let mid := (FVal.fin false m e).cmp (.fin false 1 (-1)) ≥ 0 && (FVal.fin false m e).cmp (.fin false 1 1) ≤ 0
        if mid then sfuNear fn x r 1 (-22) else sfuNear fn x r 1 (ulpOf r.1)
    | 2 =>
      if m = 0 then (fp32.inf s, { FpFlags.none with divZero := true })
      else
        let r := refRcp s m e
        sfuNear fn x r 1 (ulpOf r.1)
    | 3 =>
      if m = 0 then (fp32.inf s, { FpFlags.none with divZero := true })
      else if s then sfuInvalid
      else
        let r := refRsqrt m e
        sfuNear fn x r 2 (ulpOf r.1)
    | 4 => sfuNear fn x (refTurn false s m e) 1 (-22)
    | _ => sfuNear fn x (refTurn true s m e) 1 (-22)

end Sys2Proof.Machine
end

