-- ==== Sys2Proof/Machine/Vector.lean ====
section
/-!
DEFINITION. Vector instructions of the lane cores: OP 0x20 to 0x29 (04, R92, R98, R103, R104; 05, R120 to R128).
-/
namespace Sys2Proof.Machine

open Sys2Proof

/-! ### Slices and lanes -/

/-- Lane cores only, any level. -/
def laneOnly : Where := ⟨false, true, .u, false⟩

/-- The lane core number of a core; the TCC has none and never reaches a use of it. -/
def laneNo : CoreId → Nat
  | .tcc => 0
  | .lane n => n

/-- The active lane cores of an executing core for LCNT, lowest first; none where LCNT is illegal (R92). -/
def activeLanes (t : Tile) (n lcnt : Nat) : Option (List Nat) :=
  if lcnt = 0 then some (coreLanes t n)
  else if t.cluster then some ((coreLanes t n).take lcnt)
  else none

/-- Vector register `r` of a lane core. -/
def vGet (s : State) (lt n : Nat) (r : BitVec 5) : VWord := ((s.tile lt).lane n).v[r.toNat]'r.isLt

/-- The state with a vector register of a lane core set. -/
def vSet (s : State) (lt n : Nat) (r : BitVec 5) (x : VWord) : State :=
  modLane s lt n (fun l => { l with v := l.v.set r.toNat x r.isLt })

/-- The lanes of `w` bits of a vector register, lane 0 first (R87). -/
def lanesOf (w : Nat) (x : VWord) : List Nat := (List.range (128 / w)).map (fun i => nfld x.toNat (w * i + w - 1) (w * i))

/-- A vector register made of lanes of `w` bits. -/
def ofLanes (w : Nat) (xs : List Nat) : VWord :=
  BitVec.ofNat 128 (xs.foldr (fun x a => x % 2 ^ w + a * 2 ^ w) 0)

/-- Flags are added to a lane core's LC_FCSR (R104, R128). -/
def addFlags (s : State) (lt n : Nat) (f : FpFlags) : State := modLane s lt n (fun l => { l with fcsr := fcsrWith l.fcsr f })

/-- The rounding mode of a lane core. -/
def laneRm (s : State) (lt n : Nat) : Nat := fcsrRm ((s.tile lt).lane n).fcsr

/-- The rounding that a mode names, with an element's random bits for mode 4. -/
def rmRnd (rm r : Nat) : Rnd :=
  match rm with
  | 1 => .zero | 2 => .down | 3 => .up | 4 => .stoch r | _ => .near

/-- LC_SR_INDEX of an executing core (R128). -/
def srIndex (s : State) (lt n : Nat) : Nat := ((s.tile lt).lane (leadLane (s.tile lt) n)).srIndex.toNat

/-- The random bits of element `k` of an instruction on an executing core (R120, R181). -/
def laneRandom (s : State) (lt n k : Nat) : Nat :=
  let l := (s.tile lt).lane (leadLane (s.tile lt) n)
  tileRandom s lt l.srTensor.toNat ((l.srIndex.toNat + k) % 2 ^ 64)

/-- LC_SR_INDEX advances by `k` (R103, R120). -/
def advanceSr (s : State) (lt n k : Nat) : State :=
  modLanes s lt (coreLanes (s.tile lt) n) (fun _ l => { l with srIndex := l.srIndex + BitVec.ofNat 64 k })

/-- A vector instruction: `body` gets the lane core number and the active lane cores; a bad LCNT is illegal (R92). -/
def vinsn (lt : Nat) (c : CoreId) (word : Word) (lcnt : BitVec 4) (body : State → Nat → List Nat → InsnOut) (s : State) : Out :=
  insn lt c 4 word laneOnly (fun s =>
    match activeLanes (s.tile lt) (laneNo c) lcnt.toNat with
    | none => illegalInsn s word
    | some ls => body s (laneNo c) ls) s

/-- Every active slice of vd is set to a function of the lane core. -/
def eachSlice (s : State) (lt : Nat) (ls : List Nat) (vd : BitVec 5) (f : Nat → VWord) : State :=
  ls.foldl (fun st j => vSet st lt j vd (f j)) s

/-! ### Floating point -/

/-- The float format of FMT of `vf`: 0 FP32, 1 FP64, 2 BF16 (Table 4.5). -/
def vfFmt (fmt : Nat) : Option FloatFmt :=
  match fmt with
  | 0 => some fp32 | 1 => some fp64 | 2 => some bf16 | _ => none

/-- One of two operands, unchanged (R120): the smaller or the larger; with a NaN, or between zeros, the spec names neither
(log entry 2). -/
def pickNum (f : FloatFmt) (larger : Bool) (a b : Nat) : Nat :=
  let x := f.decode a
  let y := f.decode b
  if x.isNan || y.isNan || x.cmp y == 0 then (if Config.takesFirst (b2n larger) f.bits a b then a else b)
  else if (x.cmp y == 1) == larger then a else b

/-- One lane of a `vf` instruction (Table 4.5): old vd, vs1, vs2. -/
def vfLane (op : Nat) (f : FloatFmt) (r : Rnd) (d a b : Nat) : Nat × FpFlags :=
  let rd := r == .down
  let x := f.decode a
  let y := f.decode b
  let z := f.decode d
  let arith := fun (ops : List FVal) (v : FVal) =>
    let o := f.result r v
    (o.1, { o.2 with invalid := newNan ops v })
  match op with
  | 0 => arith [x, y, z] ((x.mul y).add rd z)
  | 1 => arith [x, y, z] ((x.mul y).add rd z.neg)
  | 2 => arith [x, y, z] (z.add rd (x.mul y).neg)
  | 3 => arith [x, y] (x.mul y)
  | 4 => arith [x, y] (x.add rd y)
  | 5 => arith [x, y] (x.add rd y.neg)
  | 6 => (pickNum f false a b, .none)
  | _ => (pickNum f true a b, .none)

/-- The lanes of one slice, from element number `k`. -/
def vfSlice (op : Nat) (f : FloatFmt) (rnd : Nat → Rnd) : Nat → List Nat → List Nat → List Nat → List Nat × FpFlags
  | k, d :: ds, a :: as, b :: bs =>
    let x := vfLane op f (rnd k) d a b
    let y := vfSlice op f rnd (k + 1) ds as bs
    (x.1 :: y.1, x.2.or y.2)
  | _, _, _, _ => ([], .none)

/-- A `vf` instruction (R94, R120): every active slice; with RM 4 the element index advances by the active lanes. -/
def vf (op : Nat) (lt : Nat) (c : CoreId) (vd vs1 vs2 : BitVec 5) (fmt : BitVec 2) (lcnt : BitVec 4) (s : State) : Out :=
  let word := wordV 0x20 vd vs1 vs2 op fmt lcnt
  vinsn lt c word lcnt (fun s n ls =>
    match vfFmt fmt.toNat with
    | none => illegalInsn s word
    | some f =>
      let per := 128 / f.bits
      let s1 := ls.foldl (fun st j =>
        let x := vfSlice op f (fun k => rmRnd (laneRm s lt j) (laneRandom s lt n k)) (per * (j - ls.headD 0))
          (lanesOf f.bits (vGet s lt j vd)) (lanesOf f.bits (vGet s lt j vs1)) (lanesOf f.bits (vGet s lt j vs2))
        addFlags (vSet st lt j vd (ofLanes f.bits x.1)) lt j x.2) s
      let s2 := bumpCnt s1 lt (9 + fmt.toNat) (per * ls.length)
      .done (if laneRm s lt (ls.headD 0) = 4 then advanceSr s2 lt n (per * ls.length) else s2)) s

/-! ### Integers -/

/-- The lane width of FMT of `vi`: INT32, INT16, INT8 (Table 4.5). -/
def viWidth (fmt : Nat) : Option Nat :=
  match fmt with
  | 0 => some 32 | 1 => some 16 | 2 => some 8 | _ => none

/-- One lane of a `vi` instruction; shift amounts use bits [4:0] of the lane (R95). -/
def viLane (op w a b : Nat) : Nat :=
  let x := BitVec.ofNat w a
  let y := BitVec.ofNat w b
  let k := b % 32
  (match op with
   | 0 => x + y | 1 => x - y | 2 => x &&& y | 3 => x ||| y | 4 => x ^^^ y
   | 5 => x <<< k | 6 => x >>> k | _ => x.sshiftRight k).toNat

/-- A `vi` instruction (R94). -/
def vi (op : Nat) (lt : Nat) (c : CoreId) (vd vs1 vs2 : BitVec 5) (fmt : BitVec 2) (lcnt : BitVec 4) (s : State) : Out :=
  let word := wordV 0x21 vd vs1 vs2 op fmt lcnt
  vinsn lt c word lcnt (fun s _ ls =>
    match viWidth fmt.toNat with
    | none => illegalInsn s word
    | some w =>
      .done (bumpCnt (eachSlice s lt ls vd (fun j => ofLanes w
        (List.zipWith (viLane op w) (lanesOf w (vGet s lt j vs1)) (lanesOf w (vGet s lt j vs2))))) lt 9
        (128 / w * ls.length))) s

/-! ### Special functions -/

/-- The lanes of one slice and their flags. -/
def sfuSlice (fn : Nat) : List Nat → List Nat × FpFlags
  | [] => ([], .none)
  | a :: as =>
    let x := sfu fn (BitVec.ofNat 32 a)
    let y := sfuSlice fn as
    (x.1 :: y.1, x.2.or y.2)

/-- A `vsfu` instruction (R122); FMT must be 0 (Table 4.5). -/
def vsfu (fn : Nat) (lt : Nat) (c : CoreId) (vd vs1 vs2 : BitVec 5) (fmt : BitVec 2) (lcnt : BitVec 4) (s : State) : Out :=
  let word := wordV 0x23 vd vs1 vs2 fn fmt lcnt
  vinsn lt c word lcnt (fun s _ ls =>
    if fmt ≠ 0 then illegalInsn s word
    else
      .done (bumpCnt (ls.foldl (fun st j =>
        let x := sfuSlice fn (lanesOf 32 (vGet s lt j vs1))
        addFlags (vSet st lt j vd (ofLanes 32 x.1)) lt j x.2) s) lt 12 (4 * ls.length))) s

/-! ### Moves, reductions, comparisons -/

/-- A `vmov` instruction acts on 32-bit lanes; Table 4.5 lists no FMT but 0. -/
def vmov (fn : Nat) (lt : Nat) (c : CoreId) (vd vs1 vs2 : BitVec 5) (fmt : BitVec 2) (lcnt : BitVec 4)
    (body : State → Nat → List Nat → Word → InsnOut) (s : State) : Out :=
  let word := wordV 0x26 vd vs1 vs2 fn fmt lcnt
  vinsn lt c word lcnt (fun s n ls => if fmt ≠ 0 then illegalInsn s word else body s n ls word) s

/-- The pairwise tree over values: adjacent ones first (R121). -/
def pairUp {α : Type} (f : α → α → α) : List α → List α
  | a :: b :: r => f a b :: pairUp f r
  | l => l

/-- The tree repeated until one value is left. -/
def treeReduce {α : Type} (f : α → α → α) : Nat → List α → List α
  | 0, l => l
  | n + 1, l => treeReduce f n (pairUp f l)

/-- One step of a reduction, with its flags. -/
def vredStep (op : Nat) (f : FloatFmt) (r : Rnd) (a b : Nat × FpFlags) : Nat × FpFlags :=
  match op with
  | 0 =>
    let x := f.decode a.1
    let y := f.decode b.1
    let v := x.add (r == .down) y
    let o := f.result r v
    (o.1, (a.2.or b.2).or { o.2 with invalid := newNan [x, y] v })
  | 1 => (pickNum f true a.1 b.1, a.2.or b.2)
  | _ => (pickNum f false a.1 b.1, a.2.or b.2)

/-- A `vred` instruction (R121, R127): inside each slice, then across the active slices; the result goes to lane 0 of the
first slice, and every other lane of the active slices is zeroed. Rounding mode 4 rounds to nearest even. FMT is read as for `vf`, with 3
reserved: Table 4.5 gives none (log entry 54). -/
def vred (op : Nat) (lt : Nat) (c : CoreId) (vd vs1 vs2 : BitVec 5) (fmt : BitVec 2) (lcnt : BitVec 4) (s : State) : Out :=
  let word := wordV 0x27 vd vs1 vs2 op fmt lcnt
  vinsn lt c word lcnt (fun s n ls =>
    match vfFmt fmt.toNat with
    | none => illegalInsn s word
    | some f =>
      let rm := laneRm s lt (leadLane (s.tile lt) n)
      let st := vredStep op f (rmRnd (if rm = 4 then 0 else rm) 0)
      let slices := ls.map (fun j => ((treeReduce st 4 ((lanesOf f.bits (vGet s lt j vs1)).map (fun x => (x, FpFlags.none)))).headD
        (0, .none)))
      let out := (treeReduce st 4 slices).headD (0, .none)
      let s1 := eachSlice s lt ls vd (fun j => if j = ls.headD 0 then BitVec.ofNat 128 (out.1 % 2 ^ f.bits) else 0)
      .done (addFlags s1 lt (leadLane (s.tile lt) n) out.2)) s

/-- A comparison of a `vcmp` lane: 0 eq, 1 lt, 2 le, 3 ne; a NaN is unordered. -/
def vcmpLane (op : Nat) (f : FloatFmt) (a b : Nat) : Nat :=
  let x := f.decode a
  let y := f.decode b
  let un := x.isNan || y.isNan
  let o := x.cmp y
  let r := match op with
    | 0 => !un && o == 0
    | 1 => !un && o == -1
    | 2 => !un && o != 1
    | _ => un || o != 0
  if r then 2 ^ f.bits - 1 else 0

/-- A `vcmp` instruction (R94); FMT is read as for `vf`, with 3 reserved: Table 4.5 gives none (log entry 54). -/
def vcmp (op : Nat) (lt : Nat) (c : CoreId) (vd vs1 vs2 : BitVec 5) (fmt : BitVec 2) (lcnt : BitVec 4) (s : State) : Out :=
  let word := wordV 0x29 vd vs1 vs2 op fmt lcnt
  vinsn lt c word lcnt (fun s _ ls =>
    match vfFmt fmt.toNat with
    | none => illegalInsn s word
    | some f =>
      .done (eachSlice s lt ls vd (fun j => ofLanes f.bits
        (List.zipWith (vcmpLane op f) (lanesOf f.bits (vGet s lt j vs1)) (lanesOf f.bits (vGet s lt j vs2)))))) s

/-! ### Conversions -/

/-- Whether `vcvt` accepts a format code (07, after R179). -/
def vcvtAccepts (fmt : Nat) : Bool := fmt ≤ 4 || fmt == 11 || fmt == 12 || fmt == 13

/-- The elements that `vcvt` moves for a format: four, or two for FP64. -/
def vcvtCount (fmt : Nat) : Nat := if fmt = 13 then 2 else 4

/-- The flags of one lane converted into a format: they follow the value it was converted from (R104). -/
def cvtFlags (fmt : Nat) (v : FVal) (out : Nat) (overs : Bool) : FpFlags :=
  match v with
  | .fin _ _ _ =>
    let inex := overs || (decodeElem fmt out 127).cmp v != 0
    let small := match floatOf fmt with
      | some f => nfld out (f.bits - 2) f.mb == 0
      | none => false
    { FpFlags.none with overflow := overs, inexact := inex, underflow := inex && small && !overs }
  | .inf _ => { FpFlags.none with overflow := overs, inexact := overs }
  | .nan => .none

/-- The lanes of one slice converted into an entry, from element number `k` (R103). -/
def cvtTo (p : PalCfg) (rnd : Nat → Nat) : Nat → List Nat → Tally → List Nat × FpFlags × Tally
  | _, [], t => ([], .none, t)
  | k, a :: as, t =>
    let v := fp32.decode a
    let x := convElem p (rnd k) v t
    let y := cvtTo p rnd (k + 1) as x.2
    (x.1 :: y.1, (cvtFlags p.format (v.scale p.scaleExp) x.1 (x.2.ovf != t.ovf)).or y.2.1, y.2.2)

/-- One value decoded into FP32 with an entry's rounding; beyond the FP32 range it becomes an infinity (05, R121; 07, R173). -/
def cvtDecode (r : Rnd) (v : FVal) : Nat × FpFlags :=
  let x := fp32.result r v
  if x.2.overflow then (fp32.inf (match v with
    | .fin n _ _ => n
    | _ => false), x.2) else x

/-- The lanes of one slice converted from an entry into FP32, from element number `k` (R103). -/
def cvtFrom (p : PalCfg) (rnd : Nat → Nat) : Nat → List Nat → List Nat × FpFlags
  | _, [] => ([], .none)
  | k, a :: as =>
    let x := cvtDecode (p.rnd (rnd k)) (decodeThrough p a 127)
    let y := cvtFrom p rnd (k + 1) as
    (x.1 :: y.1, x.2.or y.2)

/-- `vcvt` with DIR 0 (R103): the FP32 lanes of each active slice into the entry's format, packed from bit 0. -/
def execVcvtTo (lt : Nat) (c : CoreId) (vd vs1 : BitVec 5) (pal : BitVec 8) (lcnt : BitVec 4) (s : State) : Out :=
  let word := wordVP 0x22 vd vs1 pal 0 lcnt
  vinsn lt c word lcnt (fun s n ls =>
    let p := palCfg s lt pal.toNat
    if !vcvtAccepts p.format then illegalOperand s word
    else
      let k := vcvtCount p.format
      let x := ls.foldl (fun (a : State × Tally) j =>
        let y := cvtTo p (laneRandom s lt n) (k * (j - ls.headD 0)) ((lanesOf 32 (vGet s lt j vs1)).take k) a.2
        (addFlags (vSet a.1 lt j vd (ofLanes (elemBits p.format) y.1)) lt j y.2.1, y.2.2)) (s, Tally.none)
      let s1 := applyTally x.1 lt pal.toNat x.2
      .done (if p.stochastic then advanceSr s1 lt n (k * ls.length) else s1)) s

/-- `vcvt` with DIR 1 (R103): elements of the entry's format into FP32 lanes, rounded as the entry states. -/
def execVcvtFrom (lt : Nat) (c : CoreId) (vd vs1 : BitVec 5) (pal : BitVec 8) (lcnt : BitVec 4) (s : State) : Out :=
  let word := wordVP 0x22 vd vs1 pal 1 lcnt
  vinsn lt c word lcnt (fun s n ls =>
    let p := palCfg s lt pal.toNat
    if !vcvtAccepts p.format then illegalOperand s word
    else
      let k := vcvtCount p.format
      let s1 := ls.foldl (fun st j =>
        let x := cvtFrom p (laneRandom s lt n) (k * (j - ls.headD 0)) ((List.range k).map (fun i =>
          nfld (vGet s lt j vs1).toNat (elemBits p.format * i + elemBits p.format - 1) (elemBits p.format * i)))
        addFlags (vSet st lt j vd (ofLanes 32 x.1)) lt j x.2) s
      .done (if p.stochastic then advanceSr s1 lt n (k * ls.length) else s1)) s

/-! ### The compensated add -/

/-- One lane of `radd` (R104, R186): the new value and tail, and its flags. -/
def raddLane (sv t x : Nat) : Nat × Nat × FpFlags :=
  let r := fp32cAdd sv t x
  let a := fp32cValue sv t
  let b := fp32.decode x
  let v := a.add false b
  let big := v.isFin && nfld r.1 30 23 == 255
  let inex := big || (v.isFin && (fp32cValue r.1 r.2).cmp v != 0)
  (r.1, r.2, { FpFlags.none with invalid := newNan [a, b] v, overflow := big, inexact := inex,
                                 underflow := inex && !big && nfld r.1 30 23 == 0 })

/-- The lanes of one slice: values, tails, flags. -/
def raddSlice : List Nat → List Nat → List Nat → List Nat × List Nat × FpFlags
  | a :: as, t :: ts, x :: xs =>
    let r := raddLane a (t % 2 ^ 16) x
    let y := raddSlice as ts xs
    (r.1 :: y.1, r.2.1 :: y.2.1, r.2.2.or y.2.2)
  | _, _, _ => ([], [], .none)

/-- `radd` (R104): four FP32+C accumulators in vd and vd + 1 take the FP32 lanes of vs1. -/
def execRadd (lt : Nat) (c : CoreId) (vd vs1 vs2 : BitVec 5) (fmt : BitVec 2) (lcnt : BitVec 4) (s : State) : Out :=
  let word := wordV 0x28 vd vs1 vs2 0 fmt lcnt
  vinsn lt c word lcnt (fun s _ ls =>
    if vd.toNat % 2 = 1 ∨ fmt ≠ 0 then illegalOperand s word
    else
      .done (ls.foldl (fun st j =>
        let x := raddSlice (lanesOf 32 (vGet s lt j vd)) (lanesOf 32 (vGet s lt j (vd + 1))) (lanesOf 32 (vGet s lt j vs1))
        addFlags (vSet (vSet st lt j vd (ofLanes 32 x.1)) lt j (vd + 1) (ofLanes 32 x.2.1)) lt j x.2.2) s)) s

/-! ### Loads and stores -/

/-- The displacement of `vld` and `vst`: IMM11 × 16. -/
def vecAddr (s : State) (lt : Nat) (c : CoreId) (rs1 : BitVec 5) (imm : BitVec 11) : DWord :=
  addrOf s lt c rs1 (imm.signExtend 64 <<< 4)

/-- The parts of a vector access, one for each lane core (R98). -/
def readSlices (s : State) (lt addr : Nat) : Nat → List Nat → State × Except (Status × Nat × Nat) (List (Nat × VWord))
  | _, [] => (s, .ok [])
  | j, n :: ns =>
    match coreRead s lt (.lane n) ((addr + 16 * j) % 2 ^ 32) 16 with
    | (s1, .error e) => (s1, .error (e.1, e.2, j))
    | (s1, .ok bs) =>
      match readSlices s1 lt addr (j + 1) ns with
      | (s2, .error e) => (s2, .error e)
      | (s2, .ok r) => (s2, .ok ((n, BitVec.ofNat 128 (leNat bs)) :: r))

/-- `vld` (R98): 16 B for each lane core; a fault anywhere stops the whole instruction. -/
def execVld (lt : Nat) (c : CoreId) (vd rs1 : BitVec 5) (imm : BitVec 11) (s : State) : Out :=
  vinsn lt c (wordL 0x24 vd rs1 7 imm) 0 (fun s _ ls =>
    let a := vecAddr s lt c rs1 imm
    if a.toNat % 16 ≠ 0 then alignFault s a
    else
      match readSlices s lt a.toNat 0 ls with
      | (s1, .error e) => .trap s1 causeLoad e.1 (some (BitVec.ofNat 64 e.2.1)) e.2.2
      | (s1, .ok r) => .done (r.foldl (fun st p => vSet st lt p.1 vd p.2) s1)) s

/-- The slices stored in order. -/
def writeSlices (s : State) (lt addr : Nat) (vd : BitVec 5) : Nat → List Nat → State × Option (Status × Nat × Nat)
  | _, [] => (s, none)
  | j, n :: ns =>
    match coreStore s lt (.lane n) ((addr + 16 * j) % 2 ^ 32) (leBytes 16 (vGet s lt n vd).toNat) with
    | (s1, some e) => (s1, some (e.1, e.2, j))
    | (s1, none) => writeSlices s1 lt addr vd (j + 1) ns

/-- `vst` (R98): a fault anywhere leaves memory as it was. -/
def execVst (lt : Nat) (c : CoreId) (vd rs1 : BitVec 5) (imm : BitVec 11) (s : State) : Out :=
  vinsn lt c (wordL 0x25 vd rs1 7 imm) 0 (fun s _ ls =>
    let a := vecAddr s lt c rs1 imm
    if a.toNat % 16 ≠ 0 then alignFault s a
    else
      match writeSlices s lt a.toNat vd 0 ls with
      | (_, some e) => .trap s causeStore e.1 (some (BitVec.ofNat 64 e.2.1)) e.2.2
      | (s1, none) => .done s1) s

/-! ### The instructions -/

/-- `vf` fma (05, R120). -/
def execVfFma (lt : Nat) (c : CoreId) (vd vs1 vs2 : BitVec 5) (fmt : BitVec 2) (lcnt : BitVec 4) (s : State) : Out :=
  vf 0 lt c vd vs1 vs2 fmt lcnt s

/-- `vf` fms (05, R120). -/
def execVfFms (lt : Nat) (c : CoreId) (vd vs1 vs2 : BitVec 5) (fmt : BitVec 2) (lcnt : BitVec 4) (s : State) : Out :=
  vf 1 lt c vd vs1 vs2 fmt lcnt s

/-- `vf` fnma (05, R120). -/
def execVfFnma (lt : Nat) (c : CoreId) (vd vs1 vs2 : BitVec 5) (fmt : BitVec 2) (lcnt : BitVec 4) (s : State) : Out :=
  vf 2 lt c vd vs1 vs2 fmt lcnt s

/-- `vf` mul (05, R120). -/
def execVfMul (lt : Nat) (c : CoreId) (vd vs1 vs2 : BitVec 5) (fmt : BitVec 2) (lcnt : BitVec 4) (s : State) : Out :=
  vf 3 lt c vd vs1 vs2 fmt lcnt s

/-- `vf` add (05, R120). -/
def execVfAdd (lt : Nat) (c : CoreId) (vd vs1 vs2 : BitVec 5) (fmt : BitVec 2) (lcnt : BitVec 4) (s : State) : Out :=
  vf 4 lt c vd vs1 vs2 fmt lcnt s

/-- `vf` sub (05, R120). -/
def execVfSub (lt : Nat) (c : CoreId) (vd vs1 vs2 : BitVec 5) (fmt : BitVec 2) (lcnt : BitVec 4) (s : State) : Out :=
  vf 5 lt c vd vs1 vs2 fmt lcnt s

/-- `vf` min (05, R120). -/
def execVfMin (lt : Nat) (c : CoreId) (vd vs1 vs2 : BitVec 5) (fmt : BitVec 2) (lcnt : BitVec 4) (s : State) : Out :=
  vf 6 lt c vd vs1 vs2 fmt lcnt s

/-- `vf` max (05, R120). -/
def execVfMax (lt : Nat) (c : CoreId) (vd vs1 vs2 : BitVec 5) (fmt : BitVec 2) (lcnt : BitVec 4) (s : State) : Out :=
  vf 7 lt c vd vs1 vs2 fmt lcnt s

/-- `vi` add (04, R94). -/
def execViAdd (lt : Nat) (c : CoreId) (vd vs1 vs2 : BitVec 5) (fmt : BitVec 2) (lcnt : BitVec 4) (s : State) : Out :=
  vi 0 lt c vd vs1 vs2 fmt lcnt s

/-- `vi` sub (04, R94). -/
def execViSub (lt : Nat) (c : CoreId) (vd vs1 vs2 : BitVec 5) (fmt : BitVec 2) (lcnt : BitVec 4) (s : State) : Out :=
  vi 1 lt c vd vs1 vs2 fmt lcnt s

/-- `vi` and (04, R94). -/
def execViAnd (lt : Nat) (c : CoreId) (vd vs1 vs2 : BitVec 5) (fmt : BitVec 2) (lcnt : BitVec 4) (s : State) : Out :=
  vi 2 lt c vd vs1 vs2 fmt lcnt s

/-- `vi` or (04, R94). -/
def execViOr (lt : Nat) (c : CoreId) (vd vs1 vs2 : BitVec 5) (fmt : BitVec 2) (lcnt : BitVec 4) (s : State) : Out :=
  vi 3 lt c vd vs1 vs2 fmt lcnt s

/-- `vi` xor (04, R94). -/
def execViXor (lt : Nat) (c : CoreId) (vd vs1 vs2 : BitVec 5) (fmt : BitVec 2) (lcnt : BitVec 4) (s : State) : Out :=
  vi 4 lt c vd vs1 vs2 fmt lcnt s

/-- `vi` sll (04, R94). -/
def execViSll (lt : Nat) (c : CoreId) (vd vs1 vs2 : BitVec 5) (fmt : BitVec 2) (lcnt : BitVec 4) (s : State) : Out :=
  vi 5 lt c vd vs1 vs2 fmt lcnt s

/-- `vi` srl (04, R94). -/
def execViSrl (lt : Nat) (c : CoreId) (vd vs1 vs2 : BitVec 5) (fmt : BitVec 2) (lcnt : BitVec 4) (s : State) : Out :=
  vi 6 lt c vd vs1 vs2 fmt lcnt s

/-- `vi` sra (04, R94). -/
def execViSra (lt : Nat) (c : CoreId) (vd vs1 vs2 : BitVec 5) (fmt : BitVec 2) (lcnt : BitVec 4) (s : State) : Out :=
  vi 7 lt c vd vs1 vs2 fmt lcnt s

/-- `vsfu` exp2 (05, R122). -/
def execVsfuExp2 (lt : Nat) (c : CoreId) (vd vs1 vs2 : BitVec 5) (fmt : BitVec 2) (lcnt : BitVec 4) (s : State) : Out :=
  vsfu 0 lt c vd vs1 vs2 fmt lcnt s

/-- `vsfu` log2 (05, R122). -/
def execVsfuLog2 (lt : Nat) (c : CoreId) (vd vs1 vs2 : BitVec 5) (fmt : BitVec 2) (lcnt : BitVec 4) (s : State) : Out :=
  vsfu 1 lt c vd vs1 vs2 fmt lcnt s

/-- `vsfu` rcp (05, R122). -/
def execVsfuRcp (lt : Nat) (c : CoreId) (vd vs1 vs2 : BitVec 5) (fmt : BitVec 2) (lcnt : BitVec 4) (s : State) : Out :=
  vsfu 2 lt c vd vs1 vs2 fmt lcnt s

/-- `vsfu` rsqrt (05, R122). -/
def execVsfuRsqrt (lt : Nat) (c : CoreId) (vd vs1 vs2 : BitVec 5) (fmt : BitVec 2) (lcnt : BitVec 4) (s : State) : Out :=
  vsfu 3 lt c vd vs1 vs2 fmt lcnt s

/-- `vsfu` sin (05, R122). -/
def execVsfuSin (lt : Nat) (c : CoreId) (vd vs1 vs2 : BitVec 5) (fmt : BitVec 2) (lcnt : BitVec 4) (s : State) : Out :=
  vsfu 4 lt c vd vs1 vs2 fmt lcnt s

/-- `vsfu` cos (05, R122). -/
def execVsfuCos (lt : Nat) (c : CoreId) (vd vs1 vs2 : BitVec 5) (fmt : BitVec 2) (lcnt : BitVec 4) (s : State) : Out :=
  vsfu 5 lt c vd vs1 vs2 fmt lcnt s

/-- `vred` sum (05, R121, R127). -/
def execVredSum (lt : Nat) (c : CoreId) (vd vs1 vs2 : BitVec 5) (fmt : BitVec 2) (lcnt : BitVec 4) (s : State) : Out :=
  vred 0 lt c vd vs1 vs2 fmt lcnt s

/-- `vred` max (05, R121, R127). -/
def execVredMax (lt : Nat) (c : CoreId) (vd vs1 vs2 : BitVec 5) (fmt : BitVec 2) (lcnt : BitVec 4) (s : State) : Out :=
  vred 1 lt c vd vs1 vs2 fmt lcnt s

/-- `vred` min (05, R121, R127). -/
def execVredMin (lt : Nat) (c : CoreId) (vd vs1 vs2 : BitVec 5) (fmt : BitVec 2) (lcnt : BitVec 4) (s : State) : Out :=
  vred 2 lt c vd vs1 vs2 fmt lcnt s

/-- `vcmp` eq (04, R94). -/
def execVcmpEq (lt : Nat) (c : CoreId) (vd vs1 vs2 : BitVec 5) (fmt : BitVec 2) (lcnt : BitVec 4) (s : State) : Out :=
  vcmp 0 lt c vd vs1 vs2 fmt lcnt s

/-- `vcmp` lt (04, R94). -/
def execVcmpLt (lt : Nat) (c : CoreId) (vd vs1 vs2 : BitVec 5) (fmt : BitVec 2) (lcnt : BitVec 4) (s : State) : Out :=
  vcmp 1 lt c vd vs1 vs2 fmt lcnt s

/-- `vcmp` le (04, R94). -/
def execVcmpLe (lt : Nat) (c : CoreId) (vd vs1 vs2 : BitVec 5) (fmt : BitVec 2) (lcnt : BitVec 4) (s : State) : Out :=
  vcmp 2 lt c vd vs1 vs2 fmt lcnt s

/-- `vcmp` ne (04, R94). -/
def execVcmpNe (lt : Nat) (c : CoreId) (vd vs1 vs2 : BitVec 5) (fmt : BitVec 2) (lcnt : BitVec 4) (s : State) : Out :=
  vcmp 3 lt c vd vs1 vs2 fmt lcnt s

/-- `vmov` broadcast (05, R126): g[vs1] to every lane of every active slice. -/
def execVmovBroadcast (lt : Nat) (c : CoreId) (vd vs1 vs2 : BitVec 5) (fmt : BitVec 2) (lcnt : BitVec 4) (s : State) : Out :=
  vmov 0 lt c vd vs1 vs2 fmt lcnt (fun s _ ls _ =>
    let x := (gRead s lt c vs1).toNat
    .done (eachSlice s lt ls vd (fun _ => ofLanes 32 [x, x, x, x]))) s

/-- `vmov` extract (05, R126): lane vs2 of vs1, of the first lane core's slice, to g[vd]. -/
def execVmovExtract (lt : Nat) (c : CoreId) (vd vs1 vs2 : BitVec 5) (fmt : BitVec 2) (lcnt : BitVec 4) (s : State) : Out :=
  vmov 1 lt c vd vs1 vs2 fmt lcnt (fun s n _ word =>
    if 4 ≤ vs2.toNat then illegalOperand s word
    else
      .done (gWrite s lt c vd (BitVec.ofNat 64
        ((lanesOf 32 (vGet s lt (leadLane (s.tile lt) n) vs1)).getD vs2.toNat 0)))) s

/-- `vmov` insert (05, R126): g[vs2] into lane vs1 of every active slice of vd. -/
def execVmovInsert (lt : Nat) (c : CoreId) (vd vs1 vs2 : BitVec 5) (fmt : BitVec 2) (lcnt : BitVec 4) (s : State) : Out :=
  vmov 2 lt c vd vs1 vs2 fmt lcnt (fun s _ ls word =>
    if 4 ≤ vs1.toNat then illegalOperand s word
    else
      let x := (gRead s lt c vs2).toNat
      .done (eachSlice s lt ls vd (fun j => ofLanes 32 ((lanesOf 32 (vGet s lt j vd)).set vs1.toNat x)))) s

/-- `vmov` permute (05, R126): within each active slice, lane i takes the lane of vs1 that lane i of vs2 names; an index above 3 is an
illegal operand of the lowest lane core that holds one (R131). -/
def execVmovPermute (lt : Nat) (c : CoreId) (vd vs1 vs2 : BitVec 5) (fmt : BitVec 2) (lcnt : BitVec 4) (s : State) : Out :=
  vmov 3 lt c vd vs1 vs2 fmt lcnt (fun s _ ls word =>
    match ls.find? (fun j => (lanesOf 32 (vGet s lt j vs2)).any (fun i => decide (4 ≤ i))) with
    | some j => .trap s causeOperand stOk (some (word.setWidth 64)) (j - leadLane (s.tile lt) j)
    | none =>
      .done (eachSlice s lt ls vd (fun j => ofLanes 32
        ((lanesOf 32 (vGet s lt j vs2)).map (fun i => (lanesOf 32 (vGet s lt j vs1)).getD i 0))))) s

end Sys2Proof.Machine
end

