-- ==== Sys2Proof/Machine/Sketch.lean ====
section
/-!
DEFINITION. The Sketch store: images, loading and flushing, switching, tokens, spill, stalls, histograms, batches (09).
-/
namespace Sys2Proof.Machine

open Sys2Proof

/-! ### Images (Tables 9.1 to 9.3) -/

def imBytes (im : List Byte) : Nat := fieldAt im 0x08 4
def imKib (im : List Byte) : Nat := fieldAt im 0x0C 1
def imBlocks (im : List Byte) : Nat := fieldAt im 0x0E 2
def imRoutes (im : List Byte) : Nat := fieldAt im 0x10 2
def imRouteOff (im : List Byte) : Nat := fieldAt im 0x14 4
def imCodeOff (im : List Byte) : Nat := fieldAt im 0x18 4
def imGraph (im : List Byte) : Nat := fieldAt im 0x20 8

/-- A field of the entry of lane core `l`. -/
def laneFld (im : List Byte) (l off n : Nat) : Nat := fieldAt im (0x40 + 16 * l + off) n

def laneUsed (im : List Byte) (l : Nat) : Bool := nbit (laneFld im l 0 1) 0
def laneEntry (im : List Byte) (l : Nat) : Nat := laneFld im l 2 2
def laneDepth (im : List Byte) (l q : Nat) : Nat := if laneUsed im l then laneFld im l (4 + q) 1 else 0
def laneSpill (im : List Byte) (l q : Nat) : Nat := if laneUsed im l then laneFld im l (8 + q) 1 else 0xFF
def laneRouteBase (im : List Byte) (l : Nat) : Nat := laneFld im l 0xC 2

/-- A field of route entry `n`. -/
def routeFld (im : List Byte) (n off k : Nat) : Nat := fieldAt im (imRouteOff im + 8 * n + off) k

/-- The number of the entry of output route `r` of lane core `l`. -/
def routeNo (im : List Byte) (l r : Nat) : Nat := laneRouteBase im l + r

/-- KIND of output route `r` of lane core `l`. -/
def routeKind (im : List Byte) (l r : Nat) : Nat := routeFld im (routeNo im l r) 0 1

/-- The key of a queue and of a route. -/
def qKey (l q : Nat) : Nat := 4 * l + q
def rKey (l r : Nat) : Nat := 8 * l + r

/-- The lane cores of a tile with an entry in use. -/
def usedLanes (im : List Byte) : List Nat := (List.range 256).filter (laneUsed im)

/-- The spill Bolts of an image with the lane cores that name them. -/
def imSpills (im : List Byte) : List (Nat × Nat) :=
  (usedLanes im).flatMap (fun l => (List.range 4).filterMap (fun q => if laneSpill im l q = 0xFF then none else some (laneSpill im l q, l)))

/-! ### The store -/

/-- The state with the Sketch store of a tile changed. -/
def modSk (s : State) (lt : Nat) (f : SkStore → SkStore) : State := s.modTile lt (fun t => { t with sk := f t.sk })

/-- Slot `n` of a tile's store. -/
def skSlot (s : State) (lt n : Nat) : SkSlot := (s.tile lt).sk.slot n

/-- The state with a slot changed. -/
def modSlot (s : State) (lt n : Nat) (f : SkSlot → SkSlot) : State :=
  modSk s lt (fun k => { k with slots := kvSet k.slots n (f (k.slot n)) })

/-- Bit `b` of SK_STATUS is set. -/
def skMark (s : State) (lt b : Nat) : State := s.setTbit lt regSkStatus b true

/-- A counter register of the block advances, saturating at `w` bits from bit `lo`. -/
def skCount (s : State) (lt off hi lo n : Nat) : State :=
  s.setTfld lt off hi lo (satAdd (hi + 1 - lo) (s.tfld lt off hi lo) n)

/-! ### Loading -/

/-- A reserved field of Table 9.1 or 9.2 or a range of Table 9.1 or 9.3 that is broken, MAGIC, VERSION, HDR_SIZE or CRC wrong, a
table or block beyond the image (check 4 of Table 9.4). -/
def imCheck4 (im : List Byte) : Bool :=
  let n := imBytes im
  fieldAt im 0 4 == 0x4B535444 && fieldAt im 4 2 == 1 && fieldAt im 6 2 == 64 && decide (n ≤ 1069120)
    && decide (1 ≤ imKib im) && decide (imKib im ≤ 4) && fieldAt im 0xD 1 == 0 && decide (1 ≤ imBlocks im)
    && decide (imBlocks im ≤ 256) && decide (imRoutes im ≤ 2048) && fieldAt im 0x12 2 == 0 && imRouteOff im % 8 == 0
    && decide (0x1040 ≤ imRouteOff im) && imCodeOff im % 64 == 0 && fieldAt im 0x28 24 == 0
    && decide (0x1040 ≤ n) && decide (imRouteOff im + 8 * imRoutes im ≤ n)
    && decide (imCodeOff im + imBlocks im * imKib im * 1024 ≤ n)
    && fieldAt im 0x1C 4 == crc32 (im.take 0x1C ++ leBytes 4 0 ++ im.drop 0x20)
    && (List.range 256).all (fun l => nfld (laneFld im l 0 1) 7 1 == 0 && (!laneUsed im l || laneFld im l 0xE 2 == 0))
    && (List.range (imRoutes im)).all (fun r => nfld (routeFld im r 1 1) 7 4 == 0
        && (routeFld im r 0 1 == 4 || routeFld im r 3 1 == 0) && (routeFld im r 0 1 != 0 || routeFld im r 6 2 == 0))

/-- Whether a used lane entry passes check 5. -/
def imCheck5 (im : List Byte) (l : Nat) : Bool :=
  decide (laneFld im l 1 1 < imBlocks im) && laneEntry im l % 4 == 0 && decide (laneEntry im l < imKib im * 1024)
    && (List.range 4).all (fun q => decide (laneDepth im l q ≤ 32)) && decide (laneRouteBase im l + 8 ≤ imRoutes im)

/-- Whether a route entry passes check 6. -/
def imCheck6 (s : State) (lt : Nat) (im : List Byte) (n : Nat) : Bool :=
  let kind := routeFld im n 0 1
  let tgt := routeFld im n 4 2
  decide (tgt < ltCount s) && (kind == 0 || (decide (kind ≤ 4) && routeFld im n 6 2 != 0
    && (kind != 1 || tgt == lt) && (kind != 2 || tilesAdjacent s tgt lt)))

/-- The other slots that are LOADED or LOADING. -/
def otherSlots (s : State) (lt n : Nat) : List SkSlot :=
  ((List.range 4).filter (fun k => k != n && (skSlot s lt k).st != 0)).map (skSlot s lt)

/-- The queue entries that an image takes of a lane core. -/
def laneEntries (im : List Byte) (l : Nat) : Nat := ((List.range 4).map (laneDepth im l)).foldl (· + ·) 0

/-- Whether a Bolt may serve as a spill Bolt of a new image in slot `n` (check 8): enabled, 16 B slots, REMOTE clear, serving no
queue of another slot. The image it replaces gives its own Bolts up. -/
def spillOk (s : State) (lt n b : Nat) : Bool :=
  let cfg := boltCfg s lt b
  decide (b < 64) && bit cfg 0 && fld cfg 30 26 == 4 && !bit cfg 3
    && (otherSlots s lt n).all (fun x => !(imSpills x.image).any (fun p => p.1 == b))

/-- The first failing check of Table 9.4 from 4 on: check, status, INDEX. -/
def imageFails (s : State) (lt n : Nat) (im : List Byte) : Option (Nat × Status × Nat) :=
  if !imCheck4 im then some (4, stProtFault, 0)
  else
    match (usedLanes im).find? (fun l => !imCheck5 im l) with
    | some l => some (5, stProtFault, l)
    | none =>
      match ((usedLanes im).flatMap (fun l => (List.range 8).map (routeNo im l))).find? (fun r => !imCheck6 s lt im r) with
      | some r => some (6, stProtFault, r)
      | none =>
        if 4 < imKib im + ((otherSlots s lt n).map (fun x => imKib x.image)).foldl (· + ·) 0 then some (7, stProtFault, 0)
        else
          match (List.range 256).find? (fun l =>
              128 < laneEntries im l + ((otherSlots s lt n).map (fun x => laneEntries x.image l)).foldl (· + ·) 0) with
          | some l => some (7, stProtFault, l)
          | none =>
            match (imSpills im).find? (fun p => !spillOk s lt n p.1 || decide (1 < ((imSpills im).filter (fun x => x.1 == p.1)).length)) with
            | some p => some (8, stProtFault, p.2)
            | none => none

/-- An item of the Sketch store completes. -/
def endSk (s : State) (lt : Nat) (i : SkItem) (st : Status) (prog : Nat) : State :=
  completeItem (modSk s lt (fun k => { k with items := k.items.filter (fun j => j.slot != i.slot) })) lt 3 i.slot i.wop st prog

/-- A load that fails a check (R235). -/
def loadFail (s : State) (lt : Nat) (i : SkItem) (check : Nat) (st : Status) (index : Nat) : State :=
  endSk (s.setTreg lt regSkLoadErr (BitVec.ofNat 32 (check + index * 2 ^ 16 + 2 ^ 31))) lt i st 0

/-- The Bolts that an image owns are released. -/
def releaseBolts (s : State) (lt : Nat) (bs : List Nat) : State :=
  s.modTile lt (fun t => { t with boltOwned := t.boltOwned.filter (fun b => !bs.contains b) })

/-- A load that passes every check: the slot is LOADING and owns its spill Bolts (R236, R237). -/
def beginCopy (s : State) (lt : Nat) (i : SkItem) (im : List Byte) : State :=
  let old := skSlot s lt i.sk
  let s1 := releaseBolts s lt ((imSpills old.image).map Prod.fst)
  let s2 := s1.modTile lt (fun t => { t with boltOwned := t.boltOwned ++ (imSpills im).map Prod.fst })
  let s3 := modSlot s2 lt i.sk (fun _ => { SkSlot.empty with st := 1, gen := old.gen, image := im, sentBatches := old.sentBatches })
  modSk s3 lt (fun k => { k with items := k.items.map (fun j => if j.slot == i.slot then { j with copying := true } else j) })

/-- The whole of a load's start (R235): the image is read and the checks are applied in order. -/
def loadStart (s : State) (lt : Nat) (i : SkItem) : State :=
  let x := skSlot s lt i.sk
  let a := i.addr.toNat
  if (s.tile lt).sk.active == some i.sk || x.st == 1 || x.tokens != 0 then loadFail s lt i 1 stSketchBusy 0
  else if !visible a 64 then loadFail s lt i 2 stProtFault 0
  else
    match memRead s lt a 64 with
    | (s1, .error e) => loadFail s1 lt i 3 e.1 0
    | (s1, .ok h) =>
      if !visible a (imBytes h) then loadFail s1 lt i 2 stProtFault 0
      else
        match memRead s1 lt a (max 64 (imBytes h)) with
        | (s2, .error e) => loadFail s2 lt i 3 e.1 0
        | (s2, .ok im) =>
          match imageFails s2 lt i.sk im with
          | some (c, st, idx) => loadFail s2 lt i c st idx
          | none => beginCopy s2 lt i im

/-- The item that is first in the store's queue (R234). -/
def firstSk (s : State) (lt : Nat) : Option SkItem := (s.tile lt).sk.items.head?

/-- SK_LOAD_START (R235). -/
def execSkLoadStart (lt : Nat) (s : State) : Out :=
  onTile lt s (fun s =>
    match firstSk s lt with
    | some i => if i.wop = 0 ∧ i.copying = false ∧ unitsStop s lt = false then loadStart s lt i else s
    | none => s)

/-- A load's copy ends: the slot is LOADED with the next GENERATION (R236). -/
def loadDone (s : State) (lt : Nat) (i : SkItem) : State :=
  endSk (modSlot s lt i.sk (fun x => { x with st := 2, gen := x.gen + 1 })) lt i stOk (imBytes (skSlot s lt i.sk).image)

/-- SK_LOAD_DONE (R236). -/
def execSkLoadDone (lt : Nat) (s : State) : Out :=
  onTile lt s (fun s =>
    match firstSk s lt with
    | some i => if i.copying then loadDone s lt i else s
    | none => s)

/-- A credit return on its way to the route that a token came from (R240, R247). -/
def skReturn (s : State) (lt : Nat) (t : SkToken) (n : Nat) : State := netSendFrom s (.skCredit t n) (ptOf s lt) (gaPt s t.srcTile.toNat)

/-- The counters of a Bolt return to zero. -/
def zeroBolt (lt : Nat) (s : State) (b : Nat) : State :=
  setWindow (((s.setTfld lt (regBoltHead b) 19 0 0).setTfld lt (regBoltCommit b) 19 0 0).setTfld lt (regBoltReserve b) 19 0 0) lt b []

/-- A flush (R238). A queue that it empties sends the credits owed for it first (R247). -/
def flush (s : State) (lt : Nat) (i : SkItem) : State :=
  let x := skSlot s lt i.sk
  if (s.tile lt).sk.active = some i.sk then endSk s lt i stSketchBusy 0
  else if x.st = 0 then endSk s lt i stOk 0
  else
    let bs := (imSpills x.image).map Prod.fst
    let s0 := x.owed.foldl (fun st o => skReturn st lt o.2.1 o.2.2) s
    let s1 := releaseBolts (bs.foldl (zeroBolt lt) s0) lt bs
    let s2 := modSlot s1 lt i.sk (fun y => { SkSlot.empty with gen := y.gen, sentBatches := y.sentBatches })
    endSk (s2.setTfld lt regSkFlushed 23 0 (min x.tokens (2 ^ 24 - 1))) lt i stOk x.tokens

/-- SK_FLUSH_START (R238). -/
def execSkFlushStart (lt : Nat) (s : State) : Out :=
  onTile lt s (fun s =>
    match firstSk s lt with
    | some i => if i.wop = 1 ∧ unitsStop s lt = false then flush s lt i else s
    | none => s)

/-- `sk.load` and `sk.flush` (R234). -/
def skInsn (wop lt : Nat) (c : CoreId) (rd rs1 rs2 rs3 : BitVec 5) (pl : BitVec 32) (s : State) : Out :=
  let word := wordWide wop 3 rd rs1 rs2 rs3
  insn lt c 8 word tccNoAm (fun s =>
    if pl &&& ~~~3 ≠ 0 ∨ rs2 ≠ 0 ∨ rs3 ≠ 0 ∨ (wop = 1 ∧ rs1 ≠ 0) ∨ (wop = 0 ∧ (s.tile lt).cluster = true) then illegalInsn s word
    else
      match takeSlot s lt 3 with
      | none => .wait s (.queueFull 3)
      | some (s1, n, h) =>
        let i : SkItem := ⟨n, wop, gRead s lt c rs1, fld pl 1 0, false⟩
        .done (gWrite (modSk s1 lt (fun k => { k with items := k.items ++ [i] })) lt c rd (BitVec.ofNat 64 h))) s

/-- `sk.load` (R234). -/
def execSkLoad (lt : Nat) (c : CoreId) (rd rs1 rs2 rs3 : BitVec 5) (pl : BitVec 32) (s : State) : Out := skInsn 0 lt c rd rs1 rs2 rs3 pl s

/-- `sk.flush` (R234). -/
def execSkFlush (lt : Nat) (c : CoreId) (rd rs1 rs2 rs3 : BitVec 5) (pl : BitVec 32) (s : State) : Out := skInsn 1 lt c rd rs1 rs2 rs3 pl s

/-! ### Switching -/

/-- Whether a wait is a `q.get` or `q.put` stall. -/
def isSkWait (w : Option Wait) : Bool :=
  match w with
  | some (.token _) => true
  | some (.route _) => true
  | _ => false

/-- Step 1 and 2 of Table 9.5: ACTIVE changes, stalled `q.get` and `q.put` are abandoned (R242, R243). A switch to the slot
that is active has no effect (R241). -/
def skRequest (s : State) (lt : Nat) (target : Option Nat) : State :=
  if (s.tile lt).sk.active = target then s
  else
    s.modTile lt (fun t => { t with
      sk := { t.sk with active := target, switching := true, reported := [] }
      lanes := t.lanes.map (fun p => (p.1, if isSkWait p.2.wait then { p.2 with wait := none } else p.2)) })

/-- `sk.switch` (R241, R242). -/
def execSkSwitch (lt : Nat) (c : CoreId) (rd rs1 : BitVec 5) (imm : BitVec 14) (s : State) : Out :=
  let word := wordI 0x15 rd rs1 imm
  insn lt c 4 word ⟨true, false, .s, false⟩ (fun s =>
    if (s.tile lt).cluster then illegalInsn s word
    else if imm.toNat / 8 ≠ 0 then illegalOperand s word
    else if bit imm 2 then .done (skRequest s lt none)
    else if (skSlot s lt (fld imm 1 0)).st ≠ 2 then illegalOperand s word
    else .done (skRequest s lt (some (fld imm 1 0)))) s

/-- Step 4 of Table 9.5: lane cores of the new Sketch without a fault record start at their ENTRY; the others stop (R242,
R244). -/
def skStartLanes (s : State) (lt : Nat) : State :=
  let s0 := modSk s lt (fun k => { k with switching := false })
  (List.range 256).foldl (fun st n =>
    let l := (st.tile lt).lane n
    match (s.tile lt).sk.active with
    | some a =>
      let im := (skSlot s lt a).image
      if laneUsed im n && !l.frec.valid then startLane st lt n (BitVec.ofNat 32 (laneEntry im n))
      else if l.st == .running then modLane st lt n (fun x => { x with st := .stopped, wait := none }) else st
    | none => if l.st == .running then modLane st lt n (fun x => { x with st := .stopped, wait := none }) else st) s0

/-- SK_SWITCH_LANE_START (R242). -/
def execSkSwitchLaneStart (lt : Nat) (s : State) : Out :=
  onTile lt s (fun s => if (s.tile lt).sk.switching then skStartLanes s lt else s)

/-- The activation that trigger `n` asks for (R241): ignored where its target is not LOADED. On a cluster-mode tile it is not performed and
raises illegal instruction on the TCC (01, R26); no instruction is at fault, so what TRAP_INFO holds is free (log entry 54). -/
def triggerActs (s : State) (lt n target obj : Nat) : State :=
  if (s.tile lt).cluster then tccTrap s.drawn lt causeIllegal stOk (some s.freeWord)
  else if (skSlot s lt target).st = 2 then skRequest s lt (some target)
  else skbEvent (skMark s lt 5) (.tile lt) 0x0A [n, target, obj]

/-- The request of trigger `n` (R241, R254): held while the tile is pre-empted. -/
def trigger (s : State) (lt n : Nat) : State :=
  let w := s.treg lt (regSkTrig n)
  if (s.tile lt).preStop then modSk s lt (fun k => { k with trigHeld := some (n, fld w 15 14, fld w 13 0) })
  else triggerActs s lt n (fld w 15 14) (fld w 13 0)

/-- An object is released on a tile: each enabled trigger that names it is due; while the tile is pre-empted only the latest is held
(R241, R254). -/
def releaseTriggers (s : State) (lt o : Nat) : State :=
  let ns := (List.range 4).filter (fun n => s.tbit lt (regSkTrig n) 16 && s.tfld lt (regSkTrig n) 13 0 == o)
  if (s.tile lt).preStop then ns.reverse.foldl (fun st n => trigger st lt n) s
  else modSk s lt (fun k => { k with trigDue := k.trigDue ++ ns.filter (fun n => !k.trigDue.contains n) })

/-- SK_TRIGGER_SWITCH (R241, R245): the requests of the due triggers among `ns` take effect in one cycle, with an `sk.switch` where `sw` says
so; the lowest wins, unless the instruction does. -/
def execSkTriggerSwitch (lt : Nat) (ns : List (BitVec 2)) (sw : Bool) (s : State) : Out :=
  onTile lt s (fun s0 =>
    let on := (List.range 4).filter (fun n => ns.any (fun m => m.toNat == n) && (s0.tile lt).sk.trigDue.contains n)
    let s := modSk s0 lt (fun k => { k with trigDue := k.trigDue.filter (fun n => !on.contains n) })
    match on with
    | [] => s
    | n :: rest =>
      if sw && !(s.tile lt).cluster then skMark s lt 6
      else trigger (if rest.isEmpty then s else skMark s lt 6) lt n)

/-- A trigger held under R254 takes effect once the tile's state is restored (R241). -/
def releaseHeld (s : State) (lt : Nat) : State :=
  match (s.tile lt).sk.trigHeld with
  | none => s
  | some (n, t, o) => triggerActs (modSk s lt (fun k => { k with trigHeld := none })) lt n t o

/-! ### Tokens -/


/-- One more credit is owed for a token taken from a queue: 8 owed on one route go back as a batch (R247). -/
def oweCredit (s : State) (lt n key : Nat) (t : SkToken) : State :=
  let x := skSlot s lt n
  match x.owed.find? (fun o => o.1 == key && sameRoute o.2.1 t) with
  | some o =>
    if 8 ≤ o.2.2 + 1 then
      skReturn (modSlot s lt n (fun y => { y with owed := y.owed.erase o })) lt t 8
    else modSlot s lt n (fun y => { y with owed := y.owed.map (fun p => if p == o then (o.1, o.2.1, o.2.2 + 1) else p) })
  | none => modSlot s lt n (fun y => { y with owed := y.owed ++ [(key, t, 1)] })

/-- Every credit owed for a queue goes back when the queue becomes empty (R247). -/
def flushOwed (s : State) (lt n key : Nat) : State :=
  let mine := (skSlot s lt n).owed.filter (fun o => o.1 == key)
  mine.foldl (fun st o => skReturn st lt o.2.1 o.2.2) (modSlot s lt n (fun y => { y with owed := y.owed.filter (fun o => o.1 != key) }))

/-- The tokens in a queue, and the tokens behind it in its spill Bolt. -/
def queueToks (s : State) (lt n key : Nat) : List SkToken := kvGet [] (skSlot s lt n).queues key
def spillToks (s : State) (lt n key : Nat) : List SkToken := kvGet [] (skSlot s lt n).spilled key

/-- The state with a queue, or the record of its spill Bolt, replaced. -/
def setToks (s : State) (lt n key : Nat) (ts : List SkToken) : State := modSlot s lt n (fun y => { y with queues := kvSet y.queues key ts })
def setSpill (s : State) (lt n key : Nat) (ts : List SkToken) : State := modSlot s lt n (fun y => { y with spilled := kvSet y.spilled key ts })

/-- `q.get` (R246, R247). -/
def execQGet (lt : Nat) (c : CoreId) (rd rs1 rs2 : BitVec 5) (idx : BitVec 6) (s : State) : Out :=
  let word := wordT 0x16 rd rs1 rs2 idx 0
  insn lt c 4 word laneOnly (fun s =>
    let n := laneNo c
    match (s.tile lt).sk.active with
    | none => illegalInsn s word
    | some a =>
      let q := fld idx 1 0
      let key := qKey n q
      if (s.tile lt).cluster ∨ rs1 ≠ 0 ∨ rs2 ≠ 0 ∨ fld idx 5 2 ≠ 0 ∨ laneDepth (skSlot s lt a).image n q = 0 then illegalInsn s word
      else
        match queueToks s lt a key with
        | [] => .wait s (.token q)
        | t :: r =>
          let s1 := oweCredit (setToks s lt a key r) lt a key t
          let s2 := if r.isEmpty then flushOwed s1 lt a key else s1
          let s3 := modSk s2 lt (fun k => { k with reported := k.reported.filter (fun m => m != n) })
          .done (vSet s3 lt n rd t.data)) s

/-- The key of the batches in flight of a route of one generation of a slot. -/
def batchKey (gen : BitVec 8) (key : Nat) : Nat := 2048 * gen.toNat + key

/-- A batch of a FABRIC route is sent, up to 64 tokens, where a fabric transaction is free (R252). Its number as a transaction of the tile is the next
request tag (DESIGN CHOICE, log entry 54). -/
def sendBatch (s : State) (lt n key : Nat) : State :=
  let ts := kvGet [] (skSlot s lt n).batch key
  let ch := routeFld (skSlot s lt n).image (routeNo (skSlot s lt n).image (key / 8) (key % 8)) 3 1
  if ts.isEmpty || !fabMayTake s lt then s
  else
    let s1 := modSlot (fabTake s lt) lt n (fun y => { y with
      batch := kvSet y.batch key (ts.drop 64), sentBatches := kvSet y.sentBatches (batchKey y.gen key) (kvGet 0 y.sentBatches (batchKey y.gen key) + 1) })
    let im := (skSlot s lt n).image
    let dst := s.tfld lt (regChDst ch) 31 16 * 2 ^ 48 + routeFld im (routeNo im (key / 8) (key % 8)) 4 2 * 2 ^ 28
    let tag := (s.tile lt).nextTag
    netSend (s1.modTile lt (fun t => { t with nextTag := tag + 1 })) (.batch dst (tag % 2 ^ 16) (ts.take 64))

/-- A route fails (R253): the first failure fills SK_ROUTE_ERR. -/
def failRoute (s : State) (lt n key : Nat) (st : Status) : State :=
  let s1 := modSlot s lt n (fun y => { y with failed := if y.failed.contains key then y.failed else y.failed ++ [key], batch := kvDel y.batch key })
  let s2 := skMark s1 lt 1
  if s2.tbit lt regSkRouteErr 31 then s2
  else s2.setTreg lt regSkRouteErr (BitVec.ofNat 32 (key / 8 + key % 8 * 2 ^ 8 + n * 2 ^ 11 + st.toNat * 2 ^ 16 + 2 ^ 31))

/-- The token that lane core `l` of slot `n` puts on its route `r`. -/
def newToken (s : State) (lt n l r : Nat) (x : VWord) : SkToken :=
  let im := (skSlot s lt n).image
  let e := routeNo im l r
  { srcTile := BitVec.ofNat 64 (tileGa s lt), srcLane := BitVec.ofNat 8 l, srcRoute := BitVec.ofNat 3 r, srcSlot := BitVec.ofNat 2 n,
    srcGen := (skSlot s lt n).gen, slot := BitVec.ofNat 2 (routeFld im e 1 1 / 4), lane := BitVec.ofNat 8 (routeFld im e 2 1),
    queue := BitVec.ofNat 2 (routeFld im e 1 1), data := x }

/-- A token leaves on a route that has a credit (R247, R252). -/
def putToken (s : State) (lt n l r : Nat) (x : VWord) : State :=
  let im := (skSlot s lt n).image
  let key := rKey l r
  let t := newToken s lt n l r x
  let s1 := modSlot s lt n (fun y => { y with inUse := kvSet y.inUse key (kvGet 0 y.inUse key + 1) })
  if routeKind im l r = 4 then
    let s2 := modSlot s1 lt n (fun y => { y with batch := kvSet y.batch key (kvGet [] y.batch key ++ [t]) })
    if 64 ≤ (kvGet [] (skSlot s2 lt n).batch key).length then sendBatch s2 lt n key else s2
  else
    let dst := routeFld im (routeNo im l r) 4 2
    netSendNear s1 (.token (hereId s * 2 ^ 48 + dst * 2 ^ 28) t) 5 (routeKind im l r == 2 && tilesAdjacent s1 lt dst)

/-- `q.put` (R246, R247, R253). -/
def execQPut (lt : Nat) (c : CoreId) (rd rs1 rs2 : BitVec 5) (idx : BitVec 6) (s : State) : Out :=
  let word := wordT 0x16 rd rs1 rs2 idx 1
  insn lt c 4 word laneOnly (fun s =>
    let n := laneNo c
    match (s.tile lt).sk.active with
    | none => illegalInsn s word
    | some a =>
      let r := fld idx 2 0
      let im := (skSlot s lt a).image
      let key := rKey n r
      let ch := routeFld im (routeNo im n r) 3 1
      let s0 := modSk s lt (fun k => { k with reported := k.reported.filter (fun m => m != n) })
      if (s.tile lt).cluster ∨ rd ≠ 0 ∨ rs2 ≠ 0 ∨ fld idx 5 3 ≠ 0 ∨ routeKind im n r = 0 then illegalInsn s word
      else if (skSlot s lt a).failed.contains key then .done (skCount s0 lt regSkDiscarded 31 0 1)
      else if routeKind im n r = 4 ∧ chState s lt ch ≠ 1 then
        .done (skCount (failRoute s0 lt a key stPeerClosed) lt regSkDiscarded 31 0 1)
      else if routeFld im (routeNo im n r) 6 2 ≤ kvGet 0 (skSlot s lt a).inUse key then .wait s (.route r)
      else .done (putToken s0 lt a n r (vGet s lt n rs1))) s

/-- An arriving token that finds queue and spill Bolt full, or no spill Bolt (R249). -/
def overrun (s : State) (lt : Nat) (t : SkToken) : State :=
  skbEvent (skMark (skCount s lt regSkOverrun 15 0 1) lt 2) (.tile lt) 0x09
    [gaSel t.srcTile.toNat + t.srcTile.toNat / 2 ^ 48 * 2 ^ 16,
     t.srcLane.toNat + t.srcRoute.toNat * 2 ^ 8 + t.srcSlot.toNat * 2 ^ 12, t.lane.toNat + t.queue.toNat * 2 ^ 8]

/-- The spill Bolt of a queue, if it has one. -/
def spillOf (im : List Byte) (l q : Nat) : Option Nat := if laneSpill im l q = 0xFF then none else some (laneSpill im l q)

/-- A token arrives at its slot (R239, R248, R249). -/
def tokenArrive (s : State) (lt : Nat) (t : SkToken) : State :=
  let n := t.slot.toNat
  let x := skSlot s lt n
  if x.st ≠ 2 then skReturn (skMark (skCount s lt regSkLate 31 0 1) lt 3) lt t 1
  else
    let l := t.lane.toNat
    let q := t.queue.toNat
    let key := qKey l q
    let ts := queueToks s lt n key
    let sp := spillToks s lt n key
    if ts.length < laneDepth x.image l q ∧ sp.isEmpty = true then setToks s lt n key (ts ++ [t])
    else
      match spillOf x.image l q with
      | none => overrun s lt t
      | some b =>
        if boltFree s lt b = 0 ∨ 64 ≤ (boltWindow s lt b).length then overrun s lt t
        else
          let start := boltReserve s lt b
          match memWrite s lt (slotOff s lt b start) (leBytes 16 t.data.toNat) with
          | (s1, some _) => overrun s1 lt t
          | (s1, none) => setSpill (boltLand (boltTake s1 lt b 1) lt b start false) lt n key (sp ++ [t])

/-- SK_TOKEN_ARRIVE (R248): a halted region does not accept it, and it stays with its sender (R255). -/
def execSkTokenArrive (lt : Nat) (t : SkToken) (s : State) : Out :=
  onTile lt s (fun s =>
    if unitsStop s lt then s
    else arriving s (.token (tileGa s lt) t) (fun s1 => tokenArrive s1 lt t))

/-- The spill head moves into a queue that has room; a UE loses the token and returns its credit (R248, R249). -/
def spillMove (s : State) (lt n l q : Nat) : State :=
  let x := skSlot s lt n
  let key := qKey l q
  match spillToks s lt n key, spillOf x.image l q with
  | t :: r, some b =>
    if laneDepth x.image l q ≤ (queueToks s lt n key).length then s
    else
      match memRead s lt (slotOff s lt b (boltHead s lt b)) 16 with
      | (s1, .error e) =>
        if e.1 = stEccUncorr then
          skReturn (skMark (skCount (setSpill (boltRelease s1 lt b 1) lt n key r) lt regSkOverrun 31 16 1) lt 4) lt t 1
        else s1
      | (s1, .ok bs) =>
        let t' := { t with data := BitVec.ofNat 128 (leNat bs) }
        setToks (setSpill (boltRelease s1 lt b 1) lt n key r) lt n key (queueToks s lt n key ++ [t'])
  | _, _ => s

/-- SK_SPILL_MOVE (R248). -/
def execSkSpillMove (lt : Nat) (slot : BitVec 2) (lane : BitVec 8) (q : BitVec 2) (s : State) : Out :=
  onTile lt s (fun s => if unitsStop s lt then s else spillMove s lt slot.toNat lane.toNat q.toNat)

/-- SK_CREDIT_RETURN (R240, R247): a return for an earlier generation is ignored. -/
def execSkCreditReturn (lt : Nat) (slot : BitVec 2) (lane : BitVec 8) (route : BitVec 3) (gen : BitVec 8) (n : Nat) (s : State) : Out :=
  onTile lt s (fun s =>
    let mine := fun m => match m with
      | .skCredit t k => t.srcTile == BitVec.ofNat 64 (tileGa s lt) && t.srcSlot == slot && t.srcLane == lane && t.srcRoute == route
          && t.srcGen == gen && k == n
      | _ => false
    let back := fun s1 =>
      let x := skSlot s1 lt slot.toNat
      if x.gen ≠ gen ∨ x.st ≠ 2 then s1
      else
        let key := rKey lane.toNat route.toNat
        modSlot s1 lt slot.toNat (fun y => { y with inUse := kvSet y.inUse key (kvGet 0 y.inUse key - n) })
    match s.net.find? (fun f => mine f.msg && arrivesNext s f) with
    | some f => back (netArrive s f.msg)
    | none => if s.msgs.any mine then s else back s)

/-! ### Stalls, histograms, batches -/

/-- SK_STALL_TIMEOUT (R250): each stalled instruction is reported once. -/
def execSkStallTimeout (lt : Nat) (lane : BitVec 8) (s : State) : Out :=
  onTile lt s (fun s =>
    let n := lane.toNat
    let at_ : Option (Nat × Nat) := match ((s.tile lt).lane n).wait with
      | some (.token q) => some (0, q)
      | some (.route r) => some (1, r)
      | _ => none
    match at_, (s.tile lt).sk.active with
    | some (put, i), some a =>
      if (s.tile lt).sk.reported.contains n then s
      else
        let w := n + put * 2 ^ 8 + i * 2 ^ 9 + a * 2 ^ 12 + stChannelStall.toNat * 2 ^ 16 + 2 ^ 31
        let s1 := modSk s lt (fun k => { k with reported := k.reported ++ [n] })
        let s2 := if s1.tbit lt regSkStall 31 then s1 else skMark (s1.setTreg lt regSkStall (BitVec.ofNat 32 w)) lt 0
        let g := imGraph (skSlot s lt a).image
        skbEvent s2 (.tile lt) 0x08 [w, g % 2 ^ 32, g / 2 ^ 32]
    | _, _ => s)

/-- The bin of an occupancy (Table 9.7). -/
def histBin (d n o : Nat) : Nat :=
  if d = 0 ∨ o = 0 then 0
  else if 4 * o ≤ d then 1
  else if 4 * o ≤ 2 * d then 2
  else if 4 * o ≤ 3 * d then 3
  else if o < d then 4
  else if o = d then 5
  else if 2 * o < 2 * d + n then 6
  else 7

/-- One sampling instant (R251). -/
def histSample (s : State) (lt : Nat) : State :=
  let n := s.tfld lt regSkHistCfg 7 6
  let im := (skSlot s lt n).image
  let h := (List.range 1024).foldl (fun h k =>
    let l := k / 4
    let q := k % 4
    let o := (queueToks s lt n k).length + (spillToks s lt n k).length
    let slots := match spillOf im l q with | some b => boltSlots (boltCfg s lt b) | none => 0
    let d := if (skSlot s lt n).st = 0 then 0 else laneDepth im l q
    let c := 8 * k + histBin d slots o
    kvSet h c (satInc 16 (kvGet 0 h c))) (s.tile lt).sk.hist
  skCount (modSk s lt (fun k => { k with hist := h })) lt regSkHistSamples 31 0 1

/-- SK_HIST_SAMPLE (R251). -/
def execSkHistSample (lt : Nat) (s : State) : Out :=
  onTile lt s (fun s => if s.tbit lt regSkHistCfg 0 then histSample s lt else s)

/-- A write of SK_HIST_CFG (R251): LOG2 is clamped to 8 to 24; CLEAR, or a new SLOT or LOG2, zeroes the histograms. -/
def writeHistCfg (s : State) (lt : Nat) (v : Word) : State :=
  let log := max 8 (min 24 (fld v 5 1))
  let changed := log != s.tfld lt regSkHistCfg 5 1 || fld v 7 6 != s.tfld lt regSkHistCfg 7 6
  let s1 := s.setTreg lt regSkHistCfg (setFld (v &&& 0xFF) 5 1 log)
  if bit v 8 || changed then (modSk s1 lt (fun k => { k with hist := [] })).setTreg lt regSkHistSamples 0 else s1

/-- SK_HIST_CFG_WRITE (R251). -/
def execSkHistCfgWrite (lt : Nat) (lv : Level) (v : Word) (s : State) : Out := regCommand lt lv (fun s => writeHistCfg s lt v) s

/-- SK_BATCH_TIMER (R252). -/
def execSkBatchTimer (lt : Nat) (slot : BitVec 2) (lane : BitVec 8) (route : BitVec 3) (s : State) : Out :=
  onTile lt s (fun s => sendBatch s lt slot.toNat (rKey lane.toNat route.toNat))

/-- The completion record of a batch: which handle and KIND it carries is not stated (R252; log entry 2). -/
def batchRecord (s : State) (lt : Nat) (st : Status) : State :=
  ringAppend s.drawn lt ⟨s.freeBelow (2 ^ 20), true, st, s.freeBelow 256, s.freeBelow (2 ^ 32), s.aon % 2 ^ 32⟩

/-- A batch that generation `gen` of slot `n` sent ends with a status (R252, R253); a failed one fails its route while that generation is loaded.
Where none is outstanding nothing happens. -/
def endBatch (s : State) (lt n key : Nat) (gen : BitVec 8) (st : Status) : State :=
  let x := skSlot s lt n
  let k := kvGet 0 x.sentBatches (batchKey gen key)
  if k = 0 then s
  else
    let s1 := batchRecord (modSlot s lt n (fun y => { y with sentBatches := kvSet y.sentBatches (batchKey gen key) (k - 1) })) lt st
    if st = stOk ∨ x.gen ≠ gen ∨ x.st ≠ 2 then s1 else failRoute s1 lt n key st

/-- SK_BATCH_COMPLETE (R252, R253): the batch gives back its fabric transaction slot. -/
def execSkBatchComplete (lt : Nat) (slot : BitVec 2) (lane : BitVec 8) (route : BitVec 3) (gen st : BitVec 8) (s : State) : Out :=
  onTile lt s (fun s =>
    let key := rKey lane.toNat route.toNat
    if kvGet 0 (skSlot s lt slot.toNat).sentBatches (batchKey gen key) = 0 then s
    else endBatch (fabGive s lt) lt slot.toNat key gen st)

/-- The batch of which a token was part ends at its tile, its slot given back already (R253; 14, R359, R366). -/
def tokenBatchEnds (s : State) (t : SkToken) (st : Status) : State :=
  endBatch s (gaSel t.srcTile.toNat) t.srcSlot.toNat (rKey t.srcLane.toNat t.srcRoute.toNat) t.srcGen st

/-- A batch arrives at its tile (R248, R252); one of this module, which no packet acknowledges, has ended with OK. -/
def batchArrive (s : State) (lt : Nat) (ts : List SkToken) : State :=
  let s1 := ts.foldl (fun st t => tokenArrive st lt t) s
  match ts with
  | t :: _ => if t.srcTile.toNat / 2 ^ 48 = hereId s then netSend (fabGive s1 (gaSel t.srcTile.toNat)) (.batchEnd t stOk) else s1
  | [] => s1

/-- Every outstanding batch of a tile ends with a status, route by route (R252; 14, R377). -/
def endBatches (s : State) (lt : Nat) (st : Status) : State :=
  (List.range 4).foldl (fun x n =>
    let y := (skSlot x lt n).sentBatches.foldl (fun z p => (List.range p.2).foldl (fun w _ => batchRecord w lt st) z) x
    modSlot y lt n (fun k => { k with sentBatches := [] })) s

/-- The region's halt: a running load completes with REGION_OFF and leaves the slot EMPTY (R255). -/
def skHalt (s : State) (lt : Nat) : State :=
  match firstSk s lt with
  | some i =>
    if i.copying then
      let s1 := releaseBolts s lt ((imSpills (skSlot s lt i.sk).image).map Prod.fst)
      endSk (modSlot s1 lt i.sk (fun y => { SkSlot.empty with gen := y.gen, sentBatches := y.sentBatches })) lt i stRegionOff 0
    else s
  | none => s

end Sys2Proof.Machine
end

