-- ==== Sys2Proof/Machine/Sync.lean ====
section
/-!
DEFINITION. Synchronisation objects, mirrors and semaphores (13_synchronisation).
-/
namespace Sys2Proof.Machine

open Sys2Proof

/-! ### Objects and their homes -/

/-- The state with object `o` replaced. -/
def setObj (s : State) (o : Nat) (x : SyncObj) : State := { s with objs := kvSet s.objs o x }

abbrev objBarrier : Nat := 1
abbrev objCounter : Nat := 2
abbrev objEvent : Nat := 3

/-- Whether an object's home accepts operations of a tile (R331). -/
def homeAccepts (s : State) (x : SyncObj) (lt : Nat) : Bool :=
  if x.typ = 0 then false
  else if x.scope = 0 then
    regionOf s lt == x.region &&
      (!x.fieldOnly || homeOf s lt / 24 == (if x.field = 0 then upperField x.region else lowerField x.region))
  else decide (lt < ltCount s)

/-- The tiles that an object's home accepts, to which every broadcast goes (R337). -/
def scopeTiles (s : State) (x : SyncObj) : List Nat := (allTiles s).filter (homeAccepts s x)

/-- The recorder of an object's home: the controller of its field, of its region's upper field, or the Management
Complex. -/
def homeRecorder (x : SyncObj) : Target :=
  if x.scope = 0 then .fc (if x.fieldOnly && x.field == 1 then lowerField x.region else upperField x.region) else .mc

/-- The group entry of a group object (R339). -/
def groupOf (s : State) (x : SyncObj) : GroupEnt := kvGet GroupEnt.unused s.groups x.group

/-- Whether the object's value is held above this module: a group object below the tree's top (R339). -/
def heldAbove (s : State) (x : SyncObj) : Bool := x.scope == 2 && !(groupOf s x).top

/-- UPDATE of an object to every tile that its home accepts (R337). -/
def broadcast (s : State) (o : Nat) (v : BitVec 32) : State :=
  (scopeTiles s (s.obj o)).foldl (fun st lt => netSend st (.sync false lt 4 o false false 0 v)) s

/-- A group message to each child module (R339). -/
def toChildren (s : State) (x : SyncObj) (typ o : Nat) (v : BitVec 32) : State :=
  if x.scope = 2 then (groupOf s x).children.foldl (fun st c => netSend st (.group c typ o v)) s else s

/-- The regions whose tiles an object's release reaches. -/
def scopeRegions (s : State) (x : SyncObj) : List Nat :=
  (List.range 30).filter (fun r => (regionTiles s r).any (homeAccepts s x))

/-- Whether an object's rounds are told to the power controllers (R341): POWER set, or the step barrier. -/
def tellsPower (s : State) (o : Nat) : Bool := (s.obj o).power || s.stepBarrier == some o

/-- RELEASE notices to the power controllers (R341): the release of an object homed in a field's controller passes no region node. -/
def powerRelease (s : State) (o : Nat) : State :=
  if tellsPower s o && !((s.obj o).scope == 0 && (s.obj o).fieldOnly) then (scopeRegions s (s.obj o)).foldl (fun st r => netSend st (.power r true)) s else s

/-- A barrier round is released: the generation advances and is broadcast, here and down the group's tree (R334, R339). -/
def releaseRound (s : State) (o : Nat) (carry : Nat) : State :=
  let x := s.obj o
  let v := x.value + 1
  let s1 := setObj s o { x with value := v, count := carry, reported := [], upSent := false, told := [] }
  powerRelease (toChildren (broadcast s1 o v) x 4 o v) o

/-- Whether a barrier's open round is complete on this module: its own arrivals and its children's reports (R339). -/
def roundFull (s : State) (x : SyncObj) : Bool :=
  decide (x.parts ≤ x.count) && (x.scope != 2 || (groupOf s x).children.all (fun c => x.reported.contains c))

/-- A complete round is released by the home, or reported to the parent once (R334, R339). -/
def settleRound (s : State) (o : Nat) : State :=
  let x := s.obj o
  if !roundFull s x then s
  else if heldAbove s x then
    if x.upSent then s
    else netSend (setObj s o { x with upSent := true }) (.group (groupOf s x).parent 1 o x.value)
  else releaseRound s o (x.count - x.parts)

/-- Rounds that untagged arrivals carried over complete in turn. -/
def settleRounds : Nat → State → Nat → State
  | 0, s, _ => s
  | n + 1, s, o => if roundFull s (s.obj o) then settleRounds n (settleRound s o) o else s

/-- A stale arrival is refused, marked and recorded (R334). -/
def staleArrival (s : State) (o tag lt : Nat) : State :=
  skbEvent (setObj s o { s.obj o with stale := true }) (homeRecorder (s.obj o)) 0x0D [o, tag, lt % 2 ^ 11]

/-- One arrival of a cycle: whether it carries a tag, the tag, the source tile, and COUNT, how many arrivals it combines (Table 13.3). -/
abbrev Arrival := Bool × BitVec 32 × Nat × BitVec 11

/-- A stale arrival of a cycle is refused. -/
def refuseStale (o : Nat) (s : State) (a : Arrival) : State := staleArrival s o a.2.1.toNat a.2.2.1

/-- A tagged arrival of the open round is counted as far as the round needs it; what it combines beyond that is stale (R334). -/
def countTagged (o : Nat) (s : State) (a : Arrival) : State :=
  let x := s.obj o
  let n := min (x.parts - x.count) a.2.2.2.toNat
  let s1 := setObj s o { x with count := x.count + n }
  if n < a.2.2.2.toNat then refuseStale o s1 a else s1

/-- The arrivals that reach a barrier's home in one cycle (R334): stale ones refused; tagged ones counted before untagged
ones, and those beyond what the round needs are stale; untagged ones beyond it carry over. -/
def homeArrivals (s : State) (o : Nat) (as : List Arrival) : State :=
  let x := s.obj o
  let s1 := (as.filter (fun a => a.1 && a.2.1 != x.value)).foldl (refuseStale o) s
  let s2 := (as.filter (fun a => a.1 && a.2.1 == x.value)).foldl (countTagged o) s1
  let n := (as.filter (fun a => !a.1)).foldl (fun k a => k + a.2.2.2.toNat) 0
  let s3 := setObj s2 o { s2.obj o with count := (s2.obj o).count + n }
  settleRounds ((s3.obj o).count + 1) s3 o

/-- The adds and sets that reach a home in one cycle (R335): adds to a counter; for an event a clear wins; the value left
is broadcast. Below a group's top they travel up (R339). -/
def homeUpdates (s : State) (o : Nat) (adds : List (BitVec 32)) (sets : List Bool) : State :=
  let x := s.obj o
  if heldAbove s x then
    sets.foldl (fun st b => netSend st (.group (groupOf s x).parent 3 o (if b then 1 else 0)))
      (adds.foldl (fun st a => netSend st (.group (groupOf s x).parent 2 o a)) s)
  else
    let v := if x.typ = objCounter then adds.foldl (· + ·) x.value
      else if sets.isEmpty then x.value else if sets.contains false then 0 else 1
    let s1 := setObj s o { x with value := v }
    toChildren (broadcast s1 o v) x 4 o v

/-! ### Mirrors -/

/-- The mirror entry of an object on a tile (R336). -/
def mirrorOf (s : State) (lt o : Nat) : Option Nat :=
  (List.range 256).find? (fun n => s.tbit lt (regSyncMir n) 31 && s.tfld lt (regSyncMir n) 13 0 == o)

/-- The mirrored value of an entry. -/
def mirrorVal (s : State) (lt n : Nat) : BitVec 32 := s.treg lt (regSyncMval n)

/-- Whether a value has reached a target (R333). -/
def hasReached (v t : BitVec 32) : Bool := !(v - t).msb

/-- Whether `sync.wait` on an object with mirrored value `v` and operand `t` is satisfied (Table 13.2). -/
def syncHolds (typ : Nat) (v t : BitVec 32) : Bool :=
  if typ = objBarrier then v != t else if typ = objCounter then hasReached v t else v == t &&& 1

/-- A waiting core's instruction is done: rd is written and the core goes on at the next instruction. -/
def serveCore (s : State) (lt : Nat) (c : CoreId) (rd : BitVec 5) (v : BitVec 32) : State :=
  let s1 := gWrite (endWait (setWait s lt c none) lt c) lt c rd (v.setWidth 64)
  countRetired (setPc s1 lt c (pcOf s1 lt c + 4)) lt c

/-- What a core waits for. -/
def waitOf (s : State) (lt : Nat) (c : CoreId) : Option Wait :=
  match c with
  | .tcc => (s.tile lt).tcc.wait
  | .lane n => ((s.tile lt).lane n).wait

/-- The cores of a tile, the TCC first; in cluster mode each medium core counts once (R342). -/
def tileCores (s : State) (lt : Nat) : List CoreId :=
  .tcc :: (((s.tile lt).lanes.map Prod.fst).filter (fun n => !(s.tile lt).cluster || n % 16 == 0)).map .lane

/-- Every `sync.wait` that an object's mirrored value now satisfies is served; on a BROKEN object waits go on (R340). -/
def wakeSync (s : State) (lt o : Nat) (v : BitVec 32) : State :=
  (tileCores s lt).foldl (fun st c =>
    match waitOf st lt c with
    | some (.sync o' t rd) =>
      if o' = o ∧ (s.obj o).broken = false ∧ syncHolds (s.obj o).typ v (BitVec.ofNat 32 t) = true then serveCore st lt c rd v else st
    | _ => st) s

/-- Whether a new value is a release of its object: a barrier's next generation, or an event that becomes set (R338). That a counter's update
releases nothing is DEDUCED (log entry 54). -/
def isRelease (x : SyncObj) (v : BitVec 32) : Bool := x.typ == objBarrier || (x.typ == objEvent && v != 0)

/-- A value takes effect on a tile's mirror (R338): an entry with IRQ raises UPDATE when it changes, and triggers and waiting instructions see
it at that moment. PENDING stays until the FETCH is answered (R336). -/
def showMirror (s : State) (lt o : Nat) (v : BitVec 32) : State :=
  match mirrorOf s lt o with
  | none => s
  | some n =>
    if mirrorVal s lt n = v then wakeSync s lt o v
    else
      let s1 := s.setTreg lt (regSyncMval n) v
      let s2 := if s.tbit lt (regSyncMir n) 29 then s1.setTbit lt regSyncStatus 0 true else s1
      wakeSync (if isRelease (s.obj o) v then releaseTriggers s2 lt o else s2) lt o v

/-- The release of the step barrier reaches a tile (R188): its boundary is to come, before which the program does not see the release; a tile
whose region is halted or powered off misses it. -/
def stepReceived (s : State) (lt o : Nat) (v : BitVec 32) : State :=
  if regionRefuses s lt then
    showMirror ((s.setTbit lt regPalCtrl 1 true).modTile lt (fun t => { t with steps := t.steps + 1 })) lt o v
  else s.modTile lt (fun t => { t with stepQueue := t.stepQueue ++ [(v, (s.region (regionOf s lt)).sampleSeq)] })

/-- An UPDATE applies to a tile (R337, R338). A release of an object that tells the power controllers ends the tile's hold (16, R403). -/
def applyMirror (s : State) (lt o : Nat) (v : BitVec 32) : State :=
  let s1 := if tellsPower s o then (s.setTbit lt regPwrStatus 0 false).setTfld lt regPwrStatus 14 8 0 else s
  if s.stepBarrier == some o then stepReceived s1 lt o v else showMirror s1 lt o v

/-- Whether an UPDATE takes effect only after the tile's release delay (R338). -/
def isDelayed (x : SyncObj) (directed : Bool) (v : BitVec 32) : Bool :=
  !directed && (x.typ == objBarrier || (x.typ == objEvent && v != 0))

/-- The release delay of a tile: bits [5:0] of its number in reverse order (R338). -/
def releaseDelay (lt : Nat) : Nat := revBits 6 lt

/-- A tile learns that an object is BROKEN (R340). -/
def tileBroken (o : Nat) (s : State) (lt : Nat) : State :=
  match mirrorOf s lt o with
  | none => s
  | some n => skbEvent ((s.setTbit lt (regSyncMir n) 28 true).setTbit lt regSyncStatus 2 true) (.tile lt) 0x0C [o]

/-- How many releases of an object have reached a tile and are not yet seen by its program: those of the step barrier whose boundaries are to
come (R188). -/
def unseen (s : State) (lt o : Nat) : Nat :=
  if s.stepBarrier == some o then (s.tile lt).stepQueue.length + ((s.tile lt).delayed.filter (fun d => d.1 == o)).length else 0

/-- A directed UPDATE answers a FETCH: the entry is ready; of a BROKEN object it becomes BROKEN (R336, R340). -/
def applyFetched (s : State) (lt o : Nat) (v : BitVec 32) : State :=
  match mirrorOf s lt o with
  | none => s
  | some n =>
    let s1 := s.setTbit lt (regSyncMir n) 30 false
    let s2 := if (s.obj o).broken then tileBroken o s1 lt else s1
    showMirror s2 lt o (v - BitVec.ofNat 32 (unseen s lt o))

/-- A write of SYNC_MIRn (R336): a valid write sends FETCH and marks the entry PENDING; one that names an object mirrored
elsewhere is ignored and sets BAD_CFG. -/
def writeMirror (s : State) (lt n : Nat) (v : Word) : State :=
  let o := fld v 13 0
  let w := v &&& 0xA0003FFF
  if bit v 31 then
    match mirrorOf s lt o with
    | some k =>
      if k = n then netSend (s.setTreg lt (regSyncMir n) (setBit w 30 true)) (.sync true lt 5 o false false (BitVec.ofNat 11 lt) 0)
      else s.setTbit lt regSyncStatus 3 true
    | none => netSend (s.setTreg lt (regSyncMir n) (setBit w 30 true)) (.sync true lt 5 o false false (BitVec.ofNat 11 lt) 0)
  else s.setTreg lt (regSyncMir n) w

/-! ### Semaphores -/

/-- The value of a semaphore. -/
def semVal (s : State) (lt n : Nat) : Nat := (s.treg lt (regSyncSem n)).toNat

/-- The state with a semaphore set. -/
def setSem (s : State) (lt n v : Nat) : State := s.setTreg lt (regSyncSem n) (BitVec.ofNat 32 v)

/-- A core that waits in `sem.p` on semaphore `n` is served where the value covers it (R342). -/
def semServe (lt n : Nat) (s : State) (c : CoreId) : State :=
  match waitOf s lt c with
  | some (.sem n' amount rd) =>
    if n' = n ∧ amount ≤ semVal s lt n then
      let left := semVal s lt n - amount
      let s1 := serveCore (setSem s lt n left) lt c rd (BitVec.ofNat 32 left)
      s1.modTile lt (fun t => { t with semTurn := kvSet t.semTurn n (coreTurn c) })
    else s
  | _ => s

/-- Every waiting `sem.p` is considered once, in round-robin order starting after the one served last (R342). -/
def semWake (s : State) (lt n : Nat) : State :=
  let cs := tileCores s lt
  let order := match kvFind (s.tile lt).semTurn n with
    | none => cs
    | some k => cs.filter (fun c => decide (k < coreTurn c)) ++ cs.filter (fun c => decide (coreTurn c ≤ k))
  order.foldl (semServe lt n) s

/-! ### The instructions -/

/-- `sem.p` (R342). -/
def execSemP (lt : Nat) (c : CoreId) (rd rs1 rs2 : BitVec 5) (s : State) : Out :=
  let word := wordR 0x14 rd rs1 rs2 0
  insn lt c 4 word anyCoreNoAm (fun s =>
    let n := (gRead s lt c rs1).toNat
    let a := (gRead s lt c rs2).toNat
    if 64 ≤ n then illegalOperand s word
    else if a ≤ semVal s lt n then
      .done (gWrite (setSem s lt n (semVal s lt n - a)) lt c rd (BitVec.ofNat 64 (semVal s lt n - a)))
    else .wait s (.sem n a rd)) s

/-- `sem.v` (R342). -/
def execSemV (lt : Nat) (c : CoreId) (rd rs1 rs2 : BitVec 5) (s : State) : Out :=
  let word := wordR 0x14 rd rs1 rs2 1
  insn lt c 4 word anyCore (fun s =>
    let n := (gRead s lt c rs1).toNat
    let v := semVal s lt n + (gRead s lt c rs2).toNat
    if 64 ≤ n ∨ 2 ^ 32 ≤ v then illegalOperand s word
    else .done (gWrite (semWake (setSem s lt n v) lt n) lt c rd 0)) s

/-- A `sync.*` instruction on the object that rs1 names: illegal operand where rs1 is too large, or the object is unused or
not accepted from this tile (R331, R332). -/
def onObject (s : State) (lt : Nat) (c : CoreId) (rs1 : BitVec 5) (word : Word) (body : Nat → SyncObj → InsnOut) : InsnOut :=
  let o := (gRead s lt c rs1).toNat
  if 2 ^ 14 ≤ o then illegalOperand s word
  else if !homeAccepts s (s.obj o) lt then illegalOperand s word
  else body o (s.obj o)

/-- An instruction that reads the mirror of an object: illegal operand without one, a stall while it is PENDING (R332,
R336). -/
def onMirror (s : State) (lt o : Nat) (word : Word) (body : BitVec 32 → InsnOut) : InsnOut :=
  match mirrorOf s lt o with
  | none => illegalOperand s word
  | some n => if s.tbit lt (regSyncMir n) 30 then .wait s (.mirror o) else body (mirrorVal s lt n)

/-- `sync.arrive` (R332, Table 13.2). -/
def execSyncArrive (lt : Nat) (c : CoreId) (rd rs1 rs2 : BitVec 5) (s : State) : Out :=
  let word := wordR 0x14 rd rs1 rs2 2
  insn lt c 4 word anyCore (fun s => onObject s lt c rs1 word (fun o x => onMirror s lt o word (fun v =>
    if x.typ = objBarrier then
      .done (gWrite (netSend s (.sync true lt 1 o true false 1 v)) lt c rd (v.setWidth 64))
    else if x.typ = objCounter then
      .done (gWrite (netSend s (.sync true lt 2 o false false 0 1)) lt c rd (BitVec.allOnes 64))
    else
      .done (gWrite (netSend s (.sync true lt 3 o false false 0
        (if (gRead s lt c rs2).setWidth 32 ≠ 0 then 1 else 0))) lt c rd (BitVec.allOnes 64))))) s

/-- `sync.wait` (R332, Table 13.2). -/
def execSyncWait (lt : Nat) (c : CoreId) (rd rs1 rs2 : BitVec 5) (s : State) : Out :=
  let word := wordR 0x14 rd rs1 rs2 3
  insn lt c 4 word anyCoreNoAm (fun s => onObject s lt c rs1 word (fun o x => onMirror s lt o word (fun v =>
    let t := (gRead s lt c rs2).setWidth 32
    if syncHolds x.typ v t then
      .done (gWrite s lt c rd (v.setWidth 64))
    else .wait s (.sync o t.toNat rd)))) s

/-- `sync.add` (R332, Table 13.2): on a counter only. -/
def execSyncAdd (lt : Nat) (c : CoreId) (rd rs1 rs2 : BitVec 5) (s : State) : Out :=
  let word := wordR 0x14 rd rs1 rs2 4
  insn lt c 4 word anyCore (fun s => onObject s lt c rs1 word (fun o x =>
    if x.typ = objCounter then
      .done (gWrite (netSend s (.sync true lt 2 o false false 0 ((gRead s lt c rs2).setWidth 32))) lt c rd 0)
    else illegalOperand s word)) s

/-- `sync.read` (R332, Table 13.2). -/
def execSyncRead (lt : Nat) (c : CoreId) (rd rs1 rs2 : BitVec 5) (s : State) : Out :=
  let word := wordR 0x14 rd rs1 rs2 5
  insn lt c 4 word anyCore (fun s => onObject s lt c rs1 word (fun o _ => onMirror s lt o word (fun v =>
    .done (gWrite s lt c rd (v.setWidth 64))))) s

/-! ### The events -/

/-- A command on an object of the module. -/
def onObj (o : Nat) (s : State) (f : State → State) : Out := if o < 16384 then .next (f s) else .fault .noSuchUnit

/-- The operations of a cycle reach the home, each with its message: those that can arrive, with the state without their messages (R262, R266). -/
def takeSync {α : Type} (msg : α → NetMsg) (s : State) (as : List α) : State × List α :=
  as.foldl (fun p a => if mayArrive p.1 (msg a) then (netArrive p.1 (msg a), p.2 ++ [a]) else p) (s, [])

/-- The ARRIVE message that combines `n` arrivals on an object (Table 13.3). -/
def arriveMsg (o : Nat) (a : Arrival) (n : BitVec 11) : NetMsg := .sync true a.2.2.1 1 o a.1 false n (if a.1 then a.2.1 else 0)

/-- The ARRIVE message of an arrival: the one of its COUNT, where it is in flight, else the first of those that it combines. -/
def arrivalMsg (s : State) (o : Nat) (a : Arrival) : NetMsg :=
  if s.msgs.contains (arriveMsg o a a.2.2.2) then arriveMsg o a a.2.2.2 else arriveMsg o a 1

/-- An arrival that combines others, and has no message of its own, has taken them with it: ARRIVE messages of its region on the same object with
the same TAG state and tag (R337). -/
def takeCombined (o : Nat) (s : State) (a : Arrival) : State :=
  (List.range (a.2.2.2.toNat - 1)).foldl (fun st _ =>
    match ((regionTiles st (regionOf st a.2.2.1)).map (fun lt => arriveMsg o (a.1, a.2.1, lt, 1) 1)).find? (fun m => st.msgs.contains m) with
    | some m => netArrive st m
    | none => st) s

/-- Whether an arrival counts toward the open round of an object: it carries no tag, or the round's (R334). -/
def ofRound (x : SyncObj) (a : Arrival) : Bool := !a.1 || a.2.1 == x.value

/-- A region's node passes arrivals from its tiles: the first of a round has WAIT tell the region's power controller (R341). A stale arrival is none
of the round, and the arrivals on an object homed in a field's controller pass no region node. -/
def powerWait (s : State) (o : Nat) (as : List Arrival) : State :=
  if tellsPower s o && !((s.obj o).scope == 0 && (s.obj o).fieldOnly) then
    let rs := (((as.filter (ofRound (s.obj o))).map (fun a => regionOf s a.2.2.1)).eraseDups).filter (fun r => !(s.obj o).told.contains r)
    rs.foldl (fun st r => netSend st (.power r false)) (setObj s o { s.obj o with told := (s.obj o).told ++ rs })
  else s

/-- SYNC_ARRIVAL (R334): the arrivals that reach the home of a barrier in one cycle. An arrival combines 1 to 2,047 (Table 13.3); a BROKEN
object's rounds are not released (R340). -/
def execSyncArrival (o : BitVec 14) (as0 : List Arrival) (s : State) : Out :=
  onObj o.toNat s (fun s =>
    let as := as0.filter (fun a => a.2.2.2 != 0)
    let x := s.obj o.toNat
    if x.typ = objBarrier then
      let p := takeSync (arrivalMsg s o.toNat) s as
      let s1 := (p.2.filter (fun a => !s.msgs.contains (arriveMsg o.toNat a a.2.2.2))).foldl (takeCombined o.toNat) p.1
      if x.broken then s1 else homeArrivals (powerWait s1 o.toNat p.2) o.toNat p.2
    else s)

/-- SYNC_HOME_UPDATE (R335): the adds and sets that reach the home of a counter or event in one cycle, each with its
source tile. -/
def execSyncHomeUpdate (o : BitVec 14) (adds : List (Nat × BitVec 32)) (sets : List (Nat × Bool)) (s : State) : Out :=
  onObj o.toNat s (fun s =>
    let x := s.obj o.toNat
    if x.typ = objCounter ∨ x.typ = objEvent then
      let p := takeSync (fun a => .sync true a.1 2 o.toNat false false 0 a.2) s adds
      let q := takeSync (fun a => .sync true a.1 3 o.toNat false false 0 (if a.2 then 1 else 0)) p.1 sets
      if x.broken then q.1 else homeUpdates q.1 o.toNat (p.2.map Prod.snd) (q.2.map Prod.snd)
    else s)

/-- SYNC_FETCH (R336). -/
def execSyncFetch (lt : Nat) (o : BitVec 14) (s : State) : Out :=
  onTile lt s (fun s =>
    arriving s (.sync true lt 5 o.toNat false false (BitVec.ofNat 11 lt) 0) (fun s1 =>
      let x := s1.obj o.toNat
      if homeAccepts s1 x lt then netSend s1 (.sync false lt 4 o.toNat false true (BitVec.ofNat 11 lt) x.value)
      else netSend s1 (.sync false lt 8 o.toNat false true (BitVec.ofNat 11 lt) 0)))

/-- SYNC_UPDATE_ARRIVE (R338). -/
def execSyncUpdateArrive (lt : Nat) (o : BitVec 14) (directed : Bool) (v : BitVec 32) (s : State) : Out :=
  onTile lt s (fun s =>
    arriving s (.sync false lt 4 o.toNat false directed (if directed then BitVec.ofNat 11 lt else 0) v) (fun s1 =>
      if directed then applyFetched s1 lt o.toNat v
      else if isDelayed (s1.obj o.toNat) directed v && releaseDelay lt != 0 then
        s1.modTile lt (fun t => { t with delayed := t.delayed ++ [(o.toNat, v.toNat)] })
      else applyMirror s1 lt o.toNat v))

/-- SYNC_UPDATE_APPLY (R338): an UPDATE that waited out the tile's release delay applies. -/
def execSyncUpdateApply (lt : Nat) (o : BitVec 14) (v : BitVec 32) (s : State) : Out :=
  onTile lt s (fun s =>
    if (s.tile lt).delayed.contains (o.toNat, v.toNat) then
      applyMirror (s.modTile lt (fun t => { t with delayed := t.delayed.erase (o.toNat, v.toNat) })) lt o.toNat v
    else s)

/-- SYNC_REFUSE_ARRIVE (R336). -/
def execSyncRefuseArrive (lt : Nat) (o : BitVec 14) (s : State) : Out :=
  onTile lt s (fun s =>
    arriving s (.sync false lt 8 o.toNat false true (BitVec.ofNat 11 lt) 0) (fun s1 =>
      match mirrorOf s1 lt o.toNat with
      | some n =>
        if s1.tbit lt (regSyncMir n) 30 then
          ((s1.setTbit lt (regSyncMir n) 31 false).setTbit lt (regSyncMir n) 30 false).setTbit lt regSyncStatus 3 true
        else s1
      | none => s1))

/-- An object becomes BROKEN, and the root sends BROKEN to every tile of its scope (R337, R340). -/
def breakObj (s : State) (o : Nat) : State :=
  let x := s.obj o
  if x.typ = 0 ∨ x.broken = true then s
  else (scopeTiles s x).foldl (fun st lt => netSend st (.sync false lt 6 o false false 0 0)) (setObj s o { x with broken := true })

/-- SYNC_BROKEN (R340). -/
def execSyncBroken (o : BitVec 14) (s : State) : Out :=
  onObj o.toNat s (fun s => arriving s (.lost o.toNat) (fun s1 => breakObj s1 o.toNat))

/-- SYNC_MIRROR_WRITE (R336). -/
def execSyncMirrorWrite (lt : Nat) (lv : Level) (n : BitVec 8) (v : Word) (s : State) : Out :=
  regCommand lt lv (fun s => writeMirror s lt n.toNat v) s

/-- SYNC_SEM_WRITE (R344). -/
def execSyncSemWrite (lt : Nat) (lv : Level) (n : BitVec 6) (v : Word) (s : State) : Out :=
  regCommand lt lv (fun s => semWake (setSem s lt n.toNat v.toNat) lt n.toNat) s

/-- SYNC_WAIT_STALL (R343): a wait longer than the stall timeout is reported, once. -/
def execSyncWaitStall (lt : Nat) (c : CoreId) (s : State) : Out :=
  onTile lt s (fun s =>
    let report := fun (id sem awaited held : Nat) =>
      skbEvent (tellStall (s.setTbit lt regSyncStatus 1 true) lt c) (.tile lt) 0x0B [id + sem * 2 ^ 15, awaited, held]
    let held := fun o => match mirrorOf s lt o with
      | some n => (mirrorVal s lt n).toNat
      | none => 0
    if !stallNew s lt c then s
    else match waitOf s lt c with
    | some (.sem n a _) => report n 1 a (semVal s lt n)
    | some (.sync o t _) => report o 0 t (held o)
    | some (.mirror o) => report o 0 0 (held o)
    | _ => s)

end Sys2Proof.Machine
end

