-- ==== Sys2Proof/Machine/Mesh.lean ====
section
/-!
DEFINITION. The on-wafer networks: links, routes, epochs and in-network reductions (10_on_wafer_networks).
-/
namespace Sys2Proof.Machine

open Sys2Proof

/-! ### Epochs -/

/-- The state with the networks changed. -/
def modMesh (s : State) (f : Mesh → Mesh) : State := { s with mesh := f s.mesh }

/-- Whether every router is empty, as the Sync Network's tree gathers it (R266, R267): no message is in flight but those that wait to be
injected, and no router holds a reduction packet. -/
def netDrained (s : State) : Bool := s.net.all (fun f => f.waiting || tokenStays s f) && s.redHeld.all (fun p => p.2.isEmpty)

/-- A message that waited out the freeze is injected on the new tables (R267); one already in flight is left alone. -/
def resumeFlight (s : State) (f : Flight) : State := if f.waiting then pushFlight s f else { s with net := s.net ++ [f] }

/-- A port whose router an epoch takes out goes down with cause GESSO (02, R38). -/
def dropPort (s : State) (p : Nat) : State := if heldCause s p = causeGesso then portDown s p causeGesso else s

/-- Steps 5 and 6 of Table 10.4: once every router is empty the shadow tables become active, EPOCH advances, and injection restarts on the new
tables (R267). -/
def swapEpoch (s : State) : State :=
  match s.mesh.shadow with
  | none => s
  | some m =>
    if netDrained s then
      let s1 := modMesh { s with net := [] } (fun x => { x with active := m, shadow := none, epoch := (x.epoch + 1) % 2 ^ 16, outs := [] })
      (List.range 120).foldl dropPort (s.net.foldl resumeFlight s1)
    else s

/-- EPOCH_CHANGE_START (R267). -/
def execEpochChangeStart (s : State) : Out := .next (startEpoch s)

/-- EPOCH_SWAP (R267). -/
def execEpochSwap (s : State) : Out := .next (swapEpoch s)

/-- Whether a link direction exists (Table 10.1): of a mesh, toward an adjacent position; of the Sync Network (net 3), between a tile, a field
controller (1,440 on) or a region node (1,500 on) and the node above it, up (direction 0) or down (1). -/
def linkExists (pt net dir : Nat) : Bool :=
  if net = 3 then decide (pt < 1530) && decide (dir < 2) else decide (pt < 1440) && isMeshNet net && (neighbourPt pt dir).isSome

/-- The unit that the error of a link names: the link, and for the Sync Network, whose links have no link code, the router of that network at
the tile (Table 2.6; DESIGN CHOICE, log entry 54), or the field controller's or region node's first tile. -/
def linkUnit (pt net code : Nat) : UnitId :=
  if net = 3 then { kind := 5, pt := if pt < 1440 then pt else if pt < 1500 then 24 * (pt - 1440) else 24 * upperField (pt - 1500), num := 3 }
  else { kind := 4, pt := pt, num := code }

/-- MESH_FLIT_RECEIVE (R257; 18, Table 18.1): a flit that arrives good after 2 to 8 replays is a CE; the eighth failed
replay fails the link direction, a UE, and an epoch takes it out of routing (R267). -/
def execMeshFlitReceive (pt : Nat) (net : BitVec 4) (dir : BitVec 2) (good : Bool) (s : State) : Out :=
  if !linkExists pt net.toNat dir.toNat then .fault .noSuchUnit
  else
    let code := linkCode net.toNat dir.toNat
    let key := linkKey pt code
    let u := linkUnit pt net.toNat code
    let f := u.pt / 24
    let n := kvGet 0 s.mesh.replays key
    if linkDown s pt net.toNat dir.toNat then .next s
    else if good then
      let s1 := modMesh s (fun x => { x with replays := kvDel x.replays key })
      .next (if 2 ≤ n then reportCE s1 f u code else s1)
    else if n < 8 then .next (modMesh s (fun x => { x with replays := kvSet x.replays key (n + 1) }))
    else
      .next (reportUE (startEpoch (modMesh s (fun x => { x with replays := kvDel x.replays key, outLinks := x.outLinks ++ [key] }))) f u 0 code)

/-! ### Reductions -/

/-- A word of a reduction's declaration, as every router holds it (R270). -/
def redWord (s : State) (rid w : Nat) : Word := s.mreg (regMeshRedDecl rid + 4 * w)

def redFmt (s : State) (rid : Nat) : Nat := fld (redWord s rid 0) 15 8
def redPal (s : State) (rid : Nat) : Nat := fld (redWord s rid 0) 23 16
def redValid (s : State) (rid : Nat) : Bool := decide (rid < 64) && bit (redWord s rid 0) 24
def redParts (s : State) (rid : Nat) : Nat := fld (redWord s rid 1) 15 0
def redDest (s : State) (rid : Nat) : Nat := fld (redWord s rid 1) 31 16
def redElements (s : State) (rid : Nat) : Nat := (redWord s rid 2).toNat
def redWindow (s : State) (rid : Nat) : Nat := fld (redWord s rid 3) 15 0
/-- A reduction packet before it is injected at a node toward its destination, on B1: 64 elements of 4 B, or of 6 B for FP32+C (R271, R273). -/
def newRed (s : State) (p : RedPkt) (src : Nat) : Flight :=
  newFlight s (.red p) src (ptOf s (redDest s p.rid)) (if redFmt s p.rid = 14 then 2 else 1) none

/-- A reduction packet sets out from a node toward its destination (R271). -/
def pushRed (s : State) (p : RedPkt) (src : Nat) : State := pushFlight s (newRed s p src)

def redSync (s : State) (rid : Nat) : Nat := fld (redWord s rid 3) 31 16

/-- The number of chunks of a reduction (R271). -/
def redChunkCount (s : State) (rid : Nat) : Nat := redElements s rid / 64

/-- ceil(log2 P). -/
def clog2 (p : Nat) : Nat := if p ≤ 1 then 0 else Nat.log2 (p - 1) + 1

/-- Whether a packet belongs to a declared reduction and a chunk of it. -/
def redKnown (s : State) (p : RedPkt) : Bool :=
  redValid s p.rid && decide (p.chunk < redChunkCount s p.rid) && decide (p.elems.length = 64)

/-- The start of a span's sibling (R272). -/
def sibling (lo k : Nat) : Nat := lo ^^^ 2 ^ k

/-- The start of a span's parent (R272). -/
def parentLo (lo k : Nat) : Nat := if nbit lo k then lo - 2 ^ k else lo

/-- A span whose sibling starts at or beyond P becomes its parent, as often as that holds (R272). -/
def promoteSpan (parts : Nat) : Nat → RedPkt → RedPkt
  | 0, p => p
  | fuel + 1, p =>
    if p.k < clog2 parts ∧ parts ≤ sibling p.lo p.k then
      promoteSpan parts fuel { p with lo := parentLo p.lo p.k, k := p.k + 1 }
    else p

/-- The sum of two elements (R273): one rounding to FP32 to nearest even, or the exact sum rounded as R186 does. -/
def redAdd (fmt : Nat) (a b : Word × BitVec 16) : Word × BitVec 16 :=
  if fmt = 14 then
    let v := (fp32cValue a.1.toNat a.2.toNat).add false (fp32cValue b.1.toNat b.2.toNat)
    let x := fp32cRound v (match v with | .fin n _ _ => n | _ => false)
    (BitVec.ofNat 32 x.1, BitVec.ofNat 16 x.2)
  else (BitVec.ofNat 32 (toFp32 ((fp32.decode a.1.toNat).add false (fp32.decode b.1.toNat))), 0)

/-- Whether two packets combine: same reduction and chunk, sibling spans (R272). -/
def areSiblings (p q : RedPkt) : Bool := p.rid == q.rid && p.chunk == q.chunk && p.k == q.k && q.lo == sibling p.lo p.k

/-- Two sibling packets combined into their parent (R272, R273). -/
def combinePkts (s : State) (p q : RedPkt) : RedPkt :=
  promoteSpan (redParts s p.rid) 12
    { p with lo := parentLo p.lo p.k, k := p.k + 1, elems := List.zipWith (redAdd (redFmt s p.rid)) p.elems q.elems }

/-- A partial is combined with those held at the destination as long as its sibling is among them (R272). -/
def absorb (s : State) : Nat → List RedPkt → RedPkt → List RedPkt
  | 0, ps, p => ps ++ [p]
  | fuel + 1, ps, p =>
    match ps.find? (areSiblings p) with
    | some q => absorb s fuel (ps.erase q) (combinePkts s p q)
    | none => ps ++ [p]

/-- The key of a chunk at its destination. -/
def chunkKey (rid chunk : Nat) : Nat := 2 ^ 18 * rid + chunk

/-- A chunk at its destination. -/
def redChunk (s : State) (rid chunk : Nat) : RedChunk := kvGet ⟨[], [], false⟩ s.redChunks (chunkKey rid chunk)

/-- The run of leading completed chunks, from a chunk on. -/
def leadRun (s : State) (rid : Nat) : Nat → Nat → Nat
  | 0, c => c
  | fuel + 1, c => if (redChunk s rid c).done then leadRun s rid fuel (c + 1) else c

/-- SYNC advances over the run of leading completed chunks; when the last chunk has completed, the reduction stands open for
its next contributions (R274). -/
def advanceLead (s : State) (rid : Nat) : State :=
  let old := kvGet 0 s.redLead rid
  let n := redChunkCount s rid
  let lead := leadRun s rid (n - old) old
  let s1 := if lead = old then s
    else netSend s (.sync true (redDest s rid) 2 (redSync s rid) false false 0 (BitVec.ofNat 32 (lead - old)))
  if lead = n then
    { s1 with
      redLead := kvDel s1.redLead rid
      redChunks := s1.redChunks.filter (fun p => p.1 / 2 ^ 18 != rid) }
  else { s1 with redLead := kvSet s1.redLead rid lead }

/-- The value of a sum's element. -/
def redValue (fmt : Nat) (x : Word × BitVec 16) : FVal :=
  if fmt = 14 then fp32cValue x.1.toNat x.2.toNat else fp32.decode x.1.toNat

/-- A completed chunk is converted through RES_PAL and written to RESULT and TAIL (R274). -/
def writeResult (s : State) (rid chunk : Nat) (elems : List (Word × BitVec 16)) : State :=
  let lt := redDest s rid
  let cfg := palCfg s lt (redPal s rid)
  let base := (redWord s rid 8).toNat + (redWord s rid 9).toNat * 2 ^ 32 + 64 * chunk
  let x := convRun cfg (fun e => tileRandom s lt (redWord s rid 7).toNat (base + e)) 0
    (elems.map (redValue (redFmt s rid))) Tally.none
  let s1 := applyTally s lt cfg.n x.2
  let result := (redWord s rid 4).toNat
  if cfg.format = 14 then
    let s2 := (memWrite s1 lt (result + 4 * (64 * chunk)) (valuePlane x.1)).1
    (memWrite s2 lt ((redWord s rid 5).toNat + 2 * (64 * chunk)) (tailPlane x.1)).1
  else (memWrite s1 lt (result + 64 * chunk * (elemBits cfg.format / 8)) (packElems (elemBits cfg.format) x.1)).1

/-- A packet that the destination discards (R275). -/
def redDiscard (s : State) (p : RedPkt) (range : Bool) : State :=
  let lt := redDest s p.rid
  let w := setBit (s.treg lt regMeshRedStatus) (if range then 2 else 1) true
  let s1 := s.setTreg lt regMeshRedStatus (setFld (setFld w 13 8 p.rid) 31 16 p.chunk)
  skbEvent s1 (.tile lt) 0x0E [p.rid + 2 ^ 8 * b2n range, p.chunk, p.lo, p.k]

/-- Whether two spans share a participant: of two such spans one contains the other (R272). -/
def spansMeet (a b : Nat × Nat) : Bool := a.1 / 2 ^ max a.2 b.2 == b.1 / 2 ^ max a.2 b.2

/-- The formats of RES_PAL's entry (Table 10.5): a reduction whose entry holds another writes no result, and its chunk
stays incomplete (DESIGN CHOICE, log entry 54; R170, R179). -/
def redFormatOk (f : Nat) : Bool := f ≤ 4 || f == 14

/-- A packet at its destination: discarded, or combined with what its chunk holds; a complete chunk is converted and
written (R271 to R275). Its partial lies in the staging area, whose contents the spec does not lay out. A span is taken as
already received where it shares a participant with a received one (DEDUCED, log entry 54). -/
def redArrive (s : State) (p : RedPkt) : State :=
  let parts := redParts s p.rid
  let c := redChunk s p.rid p.chunk
  let lt := redDest s p.rid
  if parts ≤ p.lo then redDiscard s p true
  else if c.done || c.spans.any (spansMeet (p.lo, p.k)) then redDiscard s p false
  else
    let stage := (redWord s p.rid 6).toNat + ((p.chunk % max 1 (redWindow s p.rid)) * parts + p.lo) * 512
    let s1 := scramble s lt stage 512
    let ps := absorb s1 12 c.parts (promoteSpan parts 12 p)
    match ps.find? (fun q => q.lo == 0 && q.k == clog2 parts) with
    | some q =>
      if !redFormatOk (palCfg s1 lt (redPal s p.rid)).format then
        { s1 with redChunks := kvSet s1.redChunks (chunkKey p.rid p.chunk) ⟨c.spans ++ [(p.lo, p.k)], ps, false⟩ }
      else
      let s2 := { s1 with redChunks := kvSet s1.redChunks (chunkKey p.rid p.chunk) ⟨c.spans ++ [(p.lo, p.k)], [], true⟩ }
      advanceLead (writeResult s2 p.rid p.chunk q.elems) p.rid
    | none => { s1 with redChunks := kvSet s1.redChunks (chunkKey p.rid p.chunk) ⟨c.spans ++ [(p.lo, p.k)], ps, false⟩ }

/-- The packets that a router holds, each with what carried it there. -/
def heldAt (s : State) (pt : Nat) : List (RedPkt × Flight) := kvGet [] s.redHeld pt

/-- What carries a reduction packet that reaches a router: its flight, which keeps channel, lane, source and age on its way, also through an epoch's
freeze (R259, R260, R267); for one from outside the module a new one from that router. -/
def carrierOf (s : State) (pt : Nat) (p : RedPkt) : Flight :=
  (s.net.find? (fun f => f.msg == .red p && arrivesNext s f)).getD (newRed s p pt)

/-- A packet leaves the router of a physical tile, carried on as it came (R259, R272). -/
def redOn (s : State) (pt : Nat) (p : RedPkt) (f : Flight) : State :=
  if f.waiting then pushFlight s { f with msg := .red p }
  else { s with net := s.net ++ [{ f with msg := .red p, pos := pt, left := f.size }] }

/-- A router on the way: the packet combines with its sibling and goes on, goes on at once, or is held (R272). A packet
whose participant index is P or above combines with nothing and goes on at once to the destination, which discards it
(R275). A combined packet goes on in the place of the one that came last (DESIGN CHOICE, log entry 54). -/
def redRoute (s : State) (pt : Nat) (p0 : RedPkt) (f : Flight) : State :=
  if redParts s p0.rid ≤ p0.lo then redOn s pt p0 f else
  let p := promoteSpan (redParts s p0.rid) 12 p0
  let held := heldAt s pt
  match held.find? (fun h => areSiblings p h.1) with
  | some q => redOn { s with redHeld := kvSet s.redHeld pt (held.erase q) } pt (combinePkts s p q.1) f
  | none =>
    if 16 ≤ held.length then redOn s pt p f else { s with redHeld := kvSet s.redHeld pt (held ++ [(p, f)]) }

/-- RED_PACKET_ARRIVE (R272): at the router of a physical tile, or at the destination tile there. -/
def execRedPacketArrive (pt : Nat) (p : RedPkt) (s : State) : Out :=
  if pt < 1440 ∧ redKnown s p = true then
    .next (arriving s (.red p) (fun s1 =>
      if ptOf s1 (redDest s1 p.rid) = pt then redArrive s1 p else redRoute s1 pt p (carrierOf s pt p)))
  else .fault .noSuchUnit

/-- RED_WAIT_EXPIRE (R272): a packet held for WAIT cycles goes on. -/
def execRedWaitExpire (pt : Nat) (p : RedPkt) (s : State) : Out :=
  if pt < 1440 ∧ redKnown s p = true then
    .next (match (heldAt s pt).find? (fun h => h.1 == p) with
      | some h => redOn { s with redHeld := kvSet s.redHeld pt ((heldAt s pt).erase h) } pt p h.2
      | none => s)
  else .fault .noSuchUnit

/-- RED_CHUNK_STALL (R275): a chunk that stays incomplete for the stall timeout. -/
def execRedChunkStall (rid : BitVec 6) (chunk : Nat) (s : State) : Out :=
  if redValid s rid.toNat = true ∧ chunk < redChunkCount s rid.toNat then
    let c := redChunk s rid.toNat chunk
    let lt := redDest s rid.toNat
    if c.done || chunk < kvGet 0 s.redLead rid.toNat then .next s
    else
      let w := setBit (s.treg lt regMeshRedStatus) 0 true
      .next (skbEvent (s.setTreg lt regMeshRedStatus (setFld (setFld w 13 8 rid.toNat) 31 16 chunk)) (.tile lt) 0x0F
        [rid.toNat, chunk])
  else .fault .noSuchUnit

end Sys2Proof.Machine
end

