-- ==== Sys2Proof/Machine/Csr.lean ====
section
/-!
DEFINITION. Control and status registers (04, R109, Table 4.9).
-/
namespace Sys2Proof.Machine

open Sys2Proof

/-! ### The registers of the TCC -/

/-- TILE_STATE (R109). -/
def tileStateWord (t : Tcc) : DWord :=
  BitVec.ofNat 64 (lvNum t.prv + b2n t.ieS * 2 ^ 2 + b2n t.ieM * 2 ^ 3 + lvNum t.pprvS * 2 ^ 4 + b2n t.pieS * 2 ^ 6
    + lvNum t.pprvM * 2 ^ 8 + b2n t.pieM * 2 ^ 10 + b2n t.trapS * 2 ^ 11 + b2n t.trapM * 2 ^ 12 + b2n t.xlat * 2 ^ 13)

/-- TILE_INT_PEND: every source of Table 4.10. -/
def pendWord (s : State) (lt : Nat) : DWord :=
  BitVec.ofNat 64 ((List.range 16).foldl (fun a i => a + b2n (intPending s lt i) * 2 ^ i) 0)

/-- TILE_LT (R109): the number given by job load, the module's ID, the organisation. -/
def tileLtWord (s : State) (lt : Nat) : DWord :=
  BitVec.ofNat 64 ((if (s.tile lt).loaded then lt % 2 ^ 11 else 0) + (s.moduleId.getD 0 % 2 ^ 16) * 2 ^ 16
    + b2n (s.tile lt).cluster * 2 ^ 32 + b2n s.moduleId.isSome * 2 ^ 33)

/-- The value of a CSR of the TCC; none where the number is not assigned. -/
def csrOfTcc (s : State) (lt num : Nat) : Option DWord :=
  let t := (s.tile lt).tcc
  match num with
  | 0x200 => some (BitVec.ofNat 64 (tileCycles s lt))
  | 0x201 => some t.retired
  | 0x202 => some (BitVec.ofNat 64 (s.aon % 2 ^ 48))
  | 0x203 => some (tileLtWord s lt)
  | 0x400 => some (tileStateWord t)
  | 0x401 => some t.ts.base
  | 0x402 => some t.ts.pc
  | 0x403 => some t.ts.cause
  | 0x404 => some t.ts.info
  | 0x405 => some t.ts.save
  | 0x406 => some (t.intEn.setWidth 64)
  | 0x407 => some (pendWord s lt)
  | 0x408 => some (t.timer.setWidth 64)
  | 0xC01 => some t.tm.base
  | 0xC02 => some t.tm.pc
  | 0xC03 => some t.tm.cause
  | 0xC04 => some t.tm.info
  | 0xC05 => some t.tm.save
  | 0xC06 => some t.route
  | 0xE00 => some (BitVec.ofNat 64 (ptOf s lt % 2 ^ 11))
  | _ => none

/-- A level field of two bits as it is stored: 3 is stored as 0 (R89). -/
def storedLevel (n : Nat) : Level := levelOf n

/-- PPRV_S as it is stored: U or S; other values are stored as 0 (R89, TILE_STATE). -/
def storedPprvS (n : Nat) : Level := if n % 4 = 1 then .s else .u

/-- A write of TILE_STATE; from S the fields of M are ignored (R109). -/
def writeTileState (t : Tcc) (v : DWord) : Tcc :=
  let t1 := { t with ieS := bit v 2, pprvS := storedPprvS (fld v 5 4), pieS := bit v 6 }
  if t.prv = .m then { t1 with ieM := bit v 3, pprvM := storedLevel (fld v 9 8), pieM := bit v 10, xlat := bit v 13 }
  else t1

/-- TILE_TRAP_CAUSE_x as it is stored: CODE, STATUS, FROM, INTR (R109). -/
def storedCause (v : DWord) : DWord :=
  let w := v &&& 0x800000000003FF3F
  if fld w 17 16 = 3 then setFld w 17 16 0 else w

/-- The bits of TILE_ROUTE that are kept: causes 0x0D, 0x0E and 0x10 to 0x1F and interrupts 1, 12, 13 and 14 read 0. -/
def routeMask : DWord := 0x00008FFD00009FFF

/-- A write of a CSR of the TCC at its level (R109). -/
def csrWriteTcc (t : Tcc) (num : Nat) (v : DWord) : Tcc :=
  match num with
  | 0x400 => writeTileState t v
  | 0x401 => { t with ts := { t.ts with base := v &&& ~~~3#64 } }
  | 0x402 => { t with ts := { t.ts with pc := v } }
  | 0x403 => { t with ts := { t.ts with cause := storedCause v } }
  | 0x404 => { t with ts := { t.ts with info := v } }
  | 0x405 => { t with ts := { t.ts with save := v } }
  | 0x406 =>
    let m : BitVec 16 := if t.prv = .m then 0xFFFF else BitVec.ofNat 16 (fld t.route 47 32)
    { t with intEn := (t.intEn &&& ~~~m) ||| (v.setWidth 16 &&& m) }
  | 0x407 => { t with swiS := bit v 0, swiM := if t.prv = .m then bit v 1 else t.swiM }
  | 0x408 => { t with timer := v.setWidth 48 }
  | 0xC01 => { t with tm := { t.tm with base := v &&& ~~~3#64 } }
  | 0xC02 => { t with tm := { t.tm with pc := v } }
  | 0xC03 => { t with tm := { t.tm with cause := storedCause v } }
  | 0xC04 => { t with tm := { t.tm with info := v } }
  | 0xC05 => { t with tm := { t.tm with save := v } }
  | 0xC06 => { t with route := v &&& routeMask }
  | _ => t

/-! ### The registers of a lane core -/

/-- LC_FCSR as `csr.r` reads it: in cluster mode RM of lane core 0 and the OR of the sixteen FLAGS fields (05, R128). -/
def fcsrRead (s : State) (lt n : Nat) : Word :=
  let t := s.tile lt
  let own := (t.lane (leadLane t n)).fcsr
  (coreLanes t n).foldl (fun w j => w ||| ((t.lane j).fcsr &&& 0x1F0)) own

/-- The value of a CSR of a lane core; none where the number is not assigned. -/
def csrOfLane (s : State) (lt n num : Nat) : Option Word :=
  let t := s.tile lt
  let l := t.lane (leadLane t n)
  match num with
  | 0x000 => some (fcsrRead s lt n)
  | 0x001 => some l.srTensor
  | 0x002 => some (l.srIndex.setWidth 32)
  | 0x003 => some ((l.srIndex >>> 32).setWidth 32)
  | 0x200 => some (BitVec.ofNat 32 (tileCycles s lt))
  | 0x201 => some l.retired
  | 0x203 => some (BitVec.ofNat 32 (leadLane t n + leadLane t n / 16 * 2 ^ 8 + b2n t.cluster * 2 ^ 12))
  | _ => none

/-- A write of a CSR of a lane core; all sixteen copies of a medium core take it (05, R128). -/
def csrWriteLane (l : LaneCore) (num : Nat) (v : Word) : LaneCore :=
  match num with
  | 0x000 => { l with fcsr := v &&& 0x1F7 }
  | 0x001 => { l with srTensor := v }
  | 0x002 => { l with srIndex := BitVec.ofNat 64 (l.srIndex.toNat / 2 ^ 32 * 2 ^ 32 + v.toNat) }
  | 0x003 => { l with srIndex := BitVec.ofNat 64 (l.srIndex.toNat % 2 ^ 32 + v.toNat * 2 ^ 32) }
  | _ => l

/-! ### The instructions -/

/-- The value of a CSR for a core. -/
def csrValue (s : State) (lt : Nat) (c : CoreId) (num : Nat) : Option DWord :=
  match c with
  | .tcc => csrOfTcc s lt num
  | .lane n => (csrOfLane s lt n num).map (fun w => w.setWidth 64)

/-- The state with a CSR of a core written. -/
def csrStore (s : State) (lt : Nat) (c : CoreId) (num : Nat) (v : DWord) : State :=
  match c with
  | .tcc => modTcc s lt (fun t => csrWriteTcc t num v)
  | .lane n => modLanes s lt (coreLanes (s.tile lt) n) (fun _ l => csrWriteLane l num (v.setWidth 32))

/-- The state with a CSR changed by a function of its value `old`; each of the sixteen copies of LC_FCSR of a medium core by the function of its
own value (05, R128). -/
def csrUpdate (s : State) (lt : Nat) (c : CoreId) (num : Nat) (old : DWord) (f : DWord → DWord) : State :=
  match c, num with
  | .lane n, 0x000 =>
    modLanes s lt (coreLanes (s.tile lt) n) (fun _ l => csrWriteLane l 0 ((f (l.fcsr.setWidth 64)).setWidth 32))
  | _, _ => csrStore s lt c num (f old)

/-- The lowest level that may access a CSR number (R109). -/
def csrLevel (num : Nat) : Level := if num / 2 ^ 10 = 0 then .u else if num / 2 ^ 10 = 1 then .s else .m

/-- A `csr` instruction: `f` gives what it writes, from the old value and rs1, where it writes at all (R109). An
active-message handler may only read (11, R297). A level too low is found before a write to a read-only number: the order is not stated
(log entry 54). On LC_FCSR each copy of a medium core takes the function of its own value (05, R128). -/
def csrInsn (fn : Nat) (f : DWord → DWord → DWord) (writes : Bool) (lt : Nat) (c : CoreId) (rd rs1 : BitVec 5)
    (csr : BitVec 12) (s : State) : Out :=
  let word := wordC 0x17 rd rs1 fn csr
  insn lt c 4 word ⟨true, true, .u, fn == 0⟩ (fun s =>
    match csrValue s lt c csr.toNat with
    | none => illegalInsn s word
    | some old =>
      if !lvAtLeast (levelAt s lt c) (csrLevel csr.toNat) then .trap s causePriv stOk (some (word.setWidth 64)) 0
      else if writes && bit csr 9 then illegalInsn s word
      else
        let a := gRead s lt c rs1
        .done (gWrite (if writes then csrUpdate s lt c csr.toNat old (fun v => f v a) else s) lt c rd old)) s

/-- `csr.r` (R109). -/
def execCsrR (lt : Nat) (c : CoreId) (rd rs1 : BitVec 5) (csr : BitVec 12) (s : State) : Out :=
  csrInsn 0 (fun old _ => old) false lt c rd rs1 csr s

/-- `csr.w` (R109). -/
def execCsrW (lt : Nat) (c : CoreId) (rd rs1 : BitVec 5) (csr : BitVec 12) (s : State) : Out :=
  csrInsn 1 (fun _ a => a) true lt c rd rs1 csr s

/-- `csr.set` (R109): with g0 it writes nothing. -/
def execCsrSet (lt : Nat) (c : CoreId) (rd rs1 : BitVec 5) (csr : BitVec 12) (s : State) : Out :=
  csrInsn 2 (fun old a => old ||| a) (rs1 != 0) lt c rd rs1 csr s

/-- `csr.clr` (R109): with g0 it writes nothing. -/
def execCsrClr (lt : Nat) (c : CoreId) (rd rs1 : BitVec 5) (csr : BitVec 12) (s : State) : Out :=
  csrInsn 3 (fun old a => old &&& ~~~a) (rs1 != 0) lt c rd rs1 csr s

end Sys2Proof.Machine
end

