-- ==== Sys2Proof/Machine/System.lean ====
section
/-!
DEFINITION. System instructions and the events of a core: OP 0x18, interrupts, machine check, reserved encodings (04, R90 to
R94, R106, R107, R110 to R112; 17, R422).
-/
namespace Sys2Proof.Machine

open Sys2Proof

/-! ### System instructions -/

/-- The word of a system instruction. -/
def sysWord (rd rs1 rs2 : BitVec 5) (fn : Nat) : Word := wordR 0x18 rd rs1 rs2 fn

/-- `scall` (R110, Table 4.8): the cause of the level. -/
def execScall (lt : Nat) (c : CoreId) (rd rs1 rs2 : BitVec 5) (s : State) : Out :=
  insn lt c 4 (sysWord rd rs1 rs2 0) anyCoreNoAm (fun s =>
    .trap s (match levelAt s lt c with
      | .u => causeScallU
      | .s => causeScallS
      | .m => causeScallM) stOk none 0) s

/-- `brk` (R110). -/
def execBrk (lt : Nat) (c : CoreId) (rd rs1 rs2 : BitVec 5) (s : State) : Out :=
  insn lt c 4 (sysWord rd rs1 rs2 5) anyCore (fun s => .trap s causeBrk stOk none 0) s

/-- `eret` (R110): the return from a trap; at S in an active-message handler it releases the message and clears IN_HANDLER
(11, R297). -/
def execEret (lt : Nat) (c : CoreId) (rd rs1 rs2 : BitVec 5) (s : State) : Out :=
  insn lt c 4 (sysWord rd rs1 rs2 1) ⟨true, false, .s, true⟩ (fun s =>
    let s1 := if inHandler s lt then (amRelease s lt).setTbit lt regChAmStatus 0 false else s
    let s2 := modTcc s1 lt leaveTrap
    .jump s2 (pcOf s2 lt .tcc)) s

/-- `wfi` (17, R421, R422): it waits, and retires when an interrupt is taken. -/
def execWfi (lt : Nat) (c : CoreId) (rd rs1 rs2 : BitVec 5) (s : State) : Out :=
  insn lt c 4 (sysWord rd rs1 rs2 2) ⟨true, false, .s, false⟩ (fun s =>
    .wait s .interrupt) s

/-- `fence` (R107): accesses take effect in order here. -/
def execFence (lt : Nat) (c : CoreId) (rd rs1 rs2 : BitVec 5) (s : State) : Out :=
  insn lt c 4 (sysWord rd rs1 rs2 3) anyCore (fun s => .done s) s

/-- `fence.i` (R107; 05, R119): fetched instructions are discarded. -/
def execFenceI (lt : Nat) (c : CoreId) (rd rs1 rs2 : BitVec 5) (s : State) : Out :=
  insn lt c 4 (sysWord rd rs1 rs2 4) anyCoreNoAm (fun s =>
    .done (match c with
      | .tcc => s
      | .lane n => modLane s lt (leadLane (s.tile lt) n) (fun l => { l with ibuf := [] }))) s

/-- `tlb.inv` (12, R304): every entry, or those that map the VA in rs1. -/
def execTlbInv (lt : Nat) (c : CoreId) (rd rs1 rs2 : BitVec 5) (s : State) : Out :=
  insn lt c 4 (sysWord rd rs1 rs2 6) ⟨true, false, .s, false⟩ (fun s =>
    let va := (gRead s lt .tcc rs1).toNat
    .done (s.modTile lt (fun t => { t with tlb := if rs1 = 0 then [] else t.tlb.filter (fun e => !tlbMaps va e) }))) s

/-- `item.wait` (R106). -/
def execItemWait (lt : Nat) (c : CoreId) (rd rs1 rs2 : BitVec 5) (s : State) : Out :=
  let word := sysWord rd rs1 rs2 7
  insn lt c 4 word tccNoAm (fun s =>
    let h := (gRead s lt .tcc rs1).toNat
    match slotOfHandle s lt h with
    | none => illegalOperand s word
    | some x => if x.busy then .wait s (.item h) else .done (gWrite s lt .tcc rd (x.crec.status.setWidth 64))) s

/-- `item.poll` (R106): all ones while the item has not completed. -/
def execItemPoll (lt : Nat) (c : CoreId) (rd rs1 rs2 : BitVec 5) (s : State) : Out :=
  let word := sysWord rd rs1 rs2 8
  insn lt c 4 word tccNoAm (fun s =>
    match slotOfHandle s lt (gRead s lt .tcc rs1).toNat with
    | none => illegalOperand s word
    | some x => .done (gWrite s lt .tcc rd (if x.busy then BitVec.allOnes 64 else x.crec.status.setWidth 64))) s

/-- `stop` (05, R130): the lane core, or the whole medium core, ceases issue. -/
def execStop (lt : Nat) (c : CoreId) (rd rs1 rs2 : BitVec 5) (s : State) : Out :=
  insn lt c 4 (sysWord rd rs1 rs2 9) ⟨false, true, .u, false⟩ (fun s =>
    .done (modLanes s lt (coreLanes (s.tile lt) (laneNo c)) (fun _ l => { l with st := .stopped }))) s

/-! ### Interrupts and machine check -/

/-- TAKE_INTERRUPT (R112): a machine check goes first (R111). -/
def execTakeInterrupt (lt : Nat) (s : State) : Out :=
  onTile lt s (fun s =>
    if tccLive s lt then (takeFirst s lt).getD s else s)

/-- A FATAL in a unit of a tile is reported (18, R426). -/
def fatalIn (s : State) (lt : Nat) (u : FatalUnit) (detail : Nat) : State :=
  match u with
  | .tcc => reportFatal s lt ⟨6, ptOf s lt, 0⟩ false detail
  | .lane n => reportFatal s lt ⟨7, ptOf s lt, n⟩ false detail
  | .control n => reportFatal s lt ⟨8, ptOf s lt, n.toNat⟩ false detail

/-- MACHINE_CHECK (R111): taken at M whatever IE_M holds, once a FATAL has been reported in one of the tile's units. -/
def execMachineCheck (r : FatalReport) (s : State) : Out :=
  let lt := r.tile
  onTile lt s (fun s0 =>
    let s := match r.found with
      | some (u, d) => if regionState s0 (regionOf s0 lt) = 5 then s0 else fatalIn s0 lt u d.toNat
      | none => s0
    if tccLive s lt && (s.tile lt).fatal then (takeFirst s lt).getD s else s)

/-- TILE_TIMER_EXPIRE (R109): the AON count has reached COMPARE, so that interrupt 2 is pending. -/
def execTileTimerExpire (lt : Nat) (s : State) : Out :=
  onTile lt s (fun s =>
    let c := (s.tile lt).tcc.timer.toNat
    if s.aon % 2 ^ 48 < c then { s with aon := s.aon / 2 ^ 48 * 2 ^ 48 + c } else s)

/-! ### Reserved encodings -/

/-- Whether a 32-bit instruction word has a listed opcode and listed values in every field that is not an operand
(Tables 4.1, 4.4, 4.5; R91). -/
def listedWord (w : Word) : Bool :=
  let op := fld w 7 2
  let fn9 := fld w 31 23
  let fn3 := fld w 25 23
  let fmt := fld w 27 26
  let sz := fld w 20 18
  match op with
  | 0x01 =>
    let k := fn9 % 2 ^ 8
    k ≤ 0x0D || (0x10 ≤ k && k ≤ 0x12) || (0x14 ≤ k && k ≤ 0x1A)
  | 0x08 => fld w 31 30 ≤ 2 && fld w 29 24 == 0
  | 0x0D => sz ≤ 5
  | 0x0E => sz ≤ 6
  | 0x0F => sz ≤ 3
  | 0x10 => fn9 == 0
  | 0x11 => fn9 % 2 ^ 4 ≤ 9 && fn9 / 2 ^ 5 == 0
  | 0x12 => fld w 31 29 ≤ 3
  | 0x13 => fld w 31 29 ≤ 3
  | 0x14 => fn9 ≤ 5
  | 0x16 => fld w 31 29 ≤ 1
  | 0x18 => fn9 ≤ 9
  | 0x20 => fmt ≤ 2
  | 0x21 => fmt ≤ 2
  | 0x22 => !bit w 27
  | 0x23 => fn3 ≤ 5
  | 0x24 => sz == 7
  | 0x25 => sz == 7
  | 0x26 => fn3 ≤ 3
  | 0x27 => fn3 ≤ 2
  | 0x28 => fn3 == 0
  | 0x29 => fn3 ≤ 3
  | _ => (0x02 ≤ op && op ≤ 0x0C) || op == 0x15 || op == 0x17

/-- Whether a wide instruction's UNIT and WOP are listed (Table 4.3). -/
def listedWide (w : Word) : Bool :=
  let wop := fld w 7 2
  match fld w 11 8 with
  | 0 => wop ≤ 5 || wop == 8 || wop == 9 || (0x10 ≤ wop && wop ≤ 0x14)
  | 1 => wop ≤ 6
  | 2 => wop ≤ 1
  | 3 => wop ≤ 1
  | _ => false

/-- Whether an instruction is reserved on a core (R90, R91, R93, R94). -/
def reservedInsn (c : CoreId) (w0 : Word) : Bool :=
  match fld w0 1 0 with
  | 0 => !listedWord w0
  | 3 => if isTcc c then !listedWide w0 else true
  | _ => true

end Sys2Proof.Machine
end

