-- ==== Sys2Proof/Machine/Dma.lean ====
section
/-!
DEFINITION. The DMA engine: descriptors and their checks, chunks, remote writes, reductions, faults, re-arm, abort (12,
R306 to R319).
-/
namespace Sys2Proof.Machine

open Sys2Proof

abbrev wopCopy : Nat := 0
abbrev wopCvt : Nat := 1
abbrev wopGather : Nat := 2
abbrev wopScatter : Nat := 3
abbrev wop2d : Nat := 4
abbrev wopRemote : Nat := 5

/-! ### Descriptors -/

def DmaItem.src (i : DmaItem) : Nat := fieldAt i.desc 0 8
def DmaItem.dst (i : DmaItem) : Nat := fieldAt i.desc 8 8
def DmaItem.length (i : DmaItem) : Nat := fieldAt i.desc 0x10 4
def DmaItem.flags (i : DmaItem) : Nat := fieldAt i.desc 0x16 2
def DmaItem.tid (i : DmaItem) : Nat := fieldAt i.desc 0x18 4
def DmaItem.target (i : DmaItem) : Nat := fieldAt i.desc 0x1C 1
def DmaItem.rid (i : DmaItem) : Nat := fieldAt i.desc 0x1D 1
def DmaItem.elemBase (i : DmaItem) : Nat := fieldAt i.desc 0x20 8
def DmaItem.a0 (i : DmaItem) : Nat := fieldAt i.desc 0x28 4
def DmaItem.a1 (i : DmaItem) : Nat := fieldAt i.desc 0x2C 4
def DmaItem.a2 (i : DmaItem) : Nat := fieldAt i.desc 0x30 4
def DmaItem.a3 (i : DmaItem) : Nat := fieldAt i.desc 0x34 4
def DmaItem.index (i : DmaItem) : Nat := fieldAt i.desc 0x38 8
def DmaItem.flag (i : DmaItem) (b : Nat) : Bool := nbit i.flags b
def DmaItem.srcBolt (i : DmaItem) : Bool := i.flag 2
def DmaItem.dstBolt (i : DmaItem) : Bool := i.flag 3
def DmaItem.transpose (i : DmaItem) : Bool := i.wop == wop2d && i.flag 5
def DmaItem.reduce (i : DmaItem) : Bool := i.wop == wopRemote && i.flag 9

/-- The block request of a transposed `dma.2d` (R83, R308). -/
def DmaItem.block (i : DmaItem) : BlockReq :=
  { start := i.src, esize := nfld i.flags 8 6, rows := i.a0, cols := i.a1, stride := i.a2, transpose := true }

/-- What an item moves in all, in the units of its progress (R311). -/
def dmaTotal (s : State) (i : DmaItem) : Nat :=
  if i.transpose then i.block.size
  else if i.wop = wop2d then i.a0 * i.a1
  else if i.reduce then redElements s i.rid
  else i.length

/-- Check 3 of Table 12.4: reserved fields and FLAGS bits, and the flags of each type (R308). -/
def dmaCheck3 (i : DmaItem) : Bool :=
  nfld i.flags 15 10 == 0 && fieldAt i.desc 0x1E 2 == 0
    && (!i.flag 2 || i.wop == wopCopy || (i.wop == wopRemote && !i.flag 9))
    && (!i.flag 3 || i.wop == wopCopy)
    && (!i.flag 4 || i.flag 2)
    && (!i.flag 5 || i.wop == wop2d)
    && (nfld i.flags 8 6 == 0 || i.transpose)
    && (!i.flag 9 || i.wop == wopRemote)

/-- Check 4 of Table 12.4. -/
def dmaCheck4 (s : State) (lt : Nat) (i : DmaItem) : Bool :=
  (!i.srcBolt || decide (i.src < 64)) && (!i.dstBolt || decide (i.dst < 64)) &&
  (match i.wop with
   | 0 => decide (i.length < 2 ^ 28)
   | 1 => decide (i.length ≤ 2 ^ 26) && siteFormat i.cfgS.format && siteFormat i.cfgD.format
   | 2 | 3 => decide (i.length ≤ 2 ^ 26) && decide (1 ≤ i.a0) && decide (i.a0 ≤ 4096)
   | 4 => i.length == 0 && (if i.transpose then i.block.valid
       else decide (1 ≤ i.a0) && decide (i.a0 < 2 ^ 16) && decide (1 ≤ i.a1) && decide (i.a1 < 2 ^ 24))
   | _ =>
     if i.reduce then
       i.length == 0 && redValid s i.rid && decide (i.a0 < redParts s i.rid) && (mirrorOf s lt (redSync s i.rid)).isSome
     else
       decide (i.length < 2 ^ 28) && nfld i.target 7 7 == 0 && (nbit i.target 6 || nfld i.dst 27 0 == 0)
         && (!nbit i.target 6 || decide (nfld i.target 5 0 < 16)) && nfld i.dst 47 40 == 0)

/-- Check 5 of Table 12.4: a named Bolt is open. -/
def dmaCheck5 (s : State) (lt : Nat) (i : DmaItem) : Bool :=
  (!i.srcBolt || boltOpen s lt (i.src % 64)) && (!i.dstBolt || boltOpen s lt (i.dst % 64))

/-! ### Completion -/

/-- The state with the DMA items of a tile changed. -/
def modDma (s : State) (lt : Nat) (f : List DmaItem → List DmaItem) : State := s.modTile lt (fun t => { t with dma := f t.dma })

/-- The state with one item replaced. -/
def putDma (s : State) (lt : Nat) (i : DmaItem) : State := modDma s lt (fun is => is.map (fun j => if j.slot == i.slot then i else j))

/-- The item in a slot. -/
def dmaOf (s : State) (lt slot : Nat) : Option DmaItem := (s.tile lt).dma.find? (fun i => i.slot == slot)

/-- An item leaves the engine with its status at its progress (R309, R312, R317); `check` is the failed check of Table 12.4
or 0. -/
def endDma (s : State) (lt : Nat) (i : DmaItem) (st : Status) (check : Nat) : State :=
  let s1 := modDma s lt (fun is => is.filter (fun j => j.slot != i.slot))
  let resumable := st != stOk && st != stAborted && check == 0
  let s2 := s1.modTile lt (fun t => { t with
    dmaKept := if resumable then kvSet t.dmaKept i.slot { i with running := false, failed := none, inFlight := [] }
               else kvDel t.dmaKept i.slot })
  let s3 := if i.flag 0 || s2.tbit lt regDmaCtrl 0 then s2.setTbit lt regDmaInt 0 true else s2
  let s4 :=
    if st = stOk ∨ st = stPartial then s3
    else
      let s4 := s3.setTbit lt regDmaInt 1 true
      if s4.tbit lt regDmaFault 31 then s4
      else
        (s4.setTreg lt regDmaFault (BitVec.ofNat 32 (i.slot + st.toNat * 2 ^ 8 + check * 2 ^ 16 + 2 ^ 31))).setTreg lt
          regDmaFaultProg (BitVec.ofNat 32 i.progress)
  completeItem s4 lt 1 i.slot i.wop st i.progress

/-- Whether a request is a write of an item. -/
def isDmaReq (slot : Nat) (r : SendReq) : Bool :=
  match r.owner with
  | .dma n _ => n == slot
  | _ => false

/-- The offset of an item's write. -/
def dmaReqOff (r : SendReq) : Nat :=
  match r.owner with
  | .dma _ o => o
  | _ => 0

/-- Whether the target of an item's remote writes lies on another module (R314, by the rule of R16). -/
def dmaForeign (s : State) (i : DmaItem) : Bool := i.wop == wopRemote && !i.flag 9 && !namesThis s i.dst

/-- A request that still waits for its grant is given up; a later grant is returned (R314). -/
def giveUp (s : State) (lt : Nat) (r : SendReq) : State :=
  let s1 := if r.dst.toNat / 2 ^ 48 != hereId s then fabGive s lt else s
  match r.phase with
  | .asked => setReq s1 lt r.msg.reqTag { r with phase := .givenUp }
  | .backoff => dropReq s1 lt r.msg.reqTag
  | _ => s1

/-- An item stops (R312, R314, R318): it starts no further chunk; its writes at or above `from_` that wait for a grant are
given up; once no write of it is in flight it completes, counting up to `at_` or the lowest write given up. -/
def stopDma (s : State) (lt : Nat) (i : DmaItem) (st : Status) (at_ from_ : Nat) : State :=
  let waiting := ((s.tile lt).reqs.map Prod.snd).filter (fun r =>
    isDmaReq i.slot r && (r.phase == .asked || r.phase == .backoff) && decide (from_ ≤ dmaReqOff r))
  let lost := waiting.map dmaReqOff
  let s1 := waiting.foldl (fun x r => giveUp x lt r) s
  let upTo := lost.foldl min at_
  let flying := i.inFlight.filter (fun o => !lost.contains o)
  let p := flying.foldl min upTo
  let j := { i with inFlight := flying, failed := some (st, upTo), progress := if i.wop = wopRemote then max i.progress p else i.progress }
  if flying.isEmpty then endDma s1 lt j st 0 else putDma s1 lt j

/-! ### Addresses -/

/-- The offset of a piece of an item's memory; a failed translation is recorded (R303, R313). -/
def dmaOff (s : State) (lt : Nat) (i : DmaItem) (a n : Nat) (acc : Access) : State × Except Status Nat :=
  match rangeOffset s lt a n acc i.lv i.xlat with
  | (s1, .error f) => (recordXlat s1 lt a i.slot (acc == .write) f, .error f.status)
  | (s1, .ok off) => (s1, .ok off)

/-- The offsets of the pieces of a range, every one translated before any byte moves (R313). -/
def dmaOffs (s : State) (lt : Nat) (i : DmaItem) (acc : Access) : List (Nat × Nat) → State × Except Status (List (Nat × Nat))
  | [] => (s, .ok [])
  | (a, n) :: r =>
    match dmaOff s lt i a n acc with
    | (s1, .error st) => (s1, .error st)
    | (s1, .ok off) =>
      match dmaOffs s1 lt i acc r with
      | (s2, .error st) => (s2, .error st)
      | (s2, .ok os) => (s2, .ok ((off, n) :: os))

/-- Read ranges of tile memory in order. -/
def readOffs (s : State) (lt : Nat) : List (Nat × Nat) → State × Except Status (List Byte)
  | [] => (s, .ok [])
  | (off, n) :: r =>
    match memRead s lt off n with
    | (s1, .error e) => (s1, .error e.1)
    | (s1, .ok bs) =>
      match readOffs s1 lt r with
      | (s2, .error st) => (s2, .error st)
      | (s2, .ok bs') => (s2, .ok (bs ++ bs'))

/-- Source reads of one chunk, every one translated before any byte is read (R313, causes 1 and 2). -/
def dmaReads (s : State) (lt : Nat) (i : DmaItem) (rs : List (Nat × Nat)) : State × Except Status (List Byte) :=
  match dmaOffs s lt i .read (rs.flatMap (fun r => piecesOf r.1 r.2)) with
  | (s1, .error st) => (s1, .error st)
  | (s1, .ok os) => readOffs s1 lt os

/-- A source read of `n` bytes. -/
def dmaRead (s : State) (lt : Nat) (i : DmaItem) (a n : Nat) : State × Except Status (List Byte) := dmaReads s lt i [(a, n)]

/-- Bytes written line by line from an offset, each line whole; the lines before one that fails stay written (R313). `fuel`
bounds the lines. -/
def writeLines (s : State) (lt : Nat) : Nat → Nat → List Byte → State × Option Status
  | 0, _, _ => (s, none)
  | fuel + 1, off, bs =>
    if bs.isEmpty then (s, none)
    else
      let n := 64 - off % 64
      match memWrite s lt off (bs.take n) with
      | (s1, some e) => (s1, some e.1)
      | (s1, none) => writeLines s1 lt fuel (off + n) (bs.drop n)

/-- Bytes written to ranges in order; a range in an enabled Bolt that plain stores may not enter fails (R74). -/
def writeOffs (s : State) (lt : Nat) : List (Nat × Nat) → List Byte → State × Option Status
  | [], _ => (s, none)
  | (off, n) :: r, bs =>
    if boltForbids s lt off n then (s, some stProtFault)
    else
      match writeLines s lt (n / 64 + 2) off (bs.take n) with
      | (s1, some st) => (s1, some st)
      | (s1, none) => writeOffs s1 lt r (bs.drop n)

/-- Destination writes of one chunk, every one translated before any byte is written (R313, causes 4 and 5). -/
def dmaWrites (s : State) (lt : Nat) (i : DmaItem) (ws : List (Nat × List Byte)) : State × Option Status :=
  match dmaOffs s lt i .write (ws.flatMap (fun w => piecesOf w.1 w.2.length)) with
  | (s1, .error st) => (s1, some st)
  | (s1, .ok os) => writeOffs s1 lt os (ws.map Prod.snd).flatten

/-- A destination write. -/
def dmaWrite (s : State) (lt : Nat) (i : DmaItem) (a : Nat) (bs : List Byte) : State × Option Status := dmaWrites s lt i [(a, bs)]

/-! ### Chunks -/

/-- What a chunk does: it is done, having moved `n` units; it waits; or it fails with a status. -/
inductive ChunkOut where
  | done (s : State) (n : Nat)
  | wait (s : State)
  | fail (s : State) (st : Status)

/-- The outcome of a chunk's last write. -/
def chunkWritten (r : State × Option Status) (n : Nat) : ChunkOut :=
  match r with
  | (s, some st) => .fail s st
  | (s, none) => .done s n

/-- The chunk of a Bolt source: the head slot's bytes, or why there are none (R72, R316). -/
def boltSource (s : State) (lt b n : Nat) (untilEmpty : Bool) (body : State → List Byte → ChunkOut) : ChunkOut :=
  if !boltOpen s lt b then .fail s stPeerClosed
  else if boltReady s lt b = 0 then
    if untilEmpty then .fail s stPartial
    else if bit (boltCfg s lt b) 1 then .fail (s.setTbit lt (regBoltStatus b) 3 true) stBoltEmpty
    else .wait s
  else
    match memRead s lt (slotOff s lt b (boltHead s lt b)) n with
    | (s1, .error e) => .fail s1 e.1
    | (s1, .ok bs) => body s1 bs

/-- Write the parts of a Bolt chunk line by line. -/
def boltLines (s : State) (lt : Nat) : List (Nat × List Byte) → State × Option Status
  | [] => (s, none)
  | (off, bs) :: r =>
    match writeLines s lt (bs.length / 64 + 2) off bs with
    | (s1, some st) => (s1, some st)
    | (s1, none) => boltLines s1 lt r

/-- A chunk into a Bolt: its slots were reserved at `start` and commit whatever the outcome (R71, R310). -/
def boltDest (s : State) (lt b start : Nat) (bs : List Byte) : State × Option Status :=
  let r := boltLines s lt (boltParts s lt b start bs)
  (boltLand r.1 lt b start false, r.2)

/-- Whether a destination Bolt has room for `k` slots now. -/
def boltRoom (s : State) (lt b k : Nat) : Bool := decide (k ≤ boltFree s lt b) && decide ((boltWindow s lt b).length < 64)

/-- A chunk of `dma.copy` (R308, R310, R313, R316). -/
def copyChunk (s : State) (lt : Nat) (i : DmaItem) : ChunkOut :=
  let rest := i.length - i.progress
  let p := i.progress
  let sb := i.src % 64
  let db := i.dst % 64
  if (i.srcBolt && !boltOpen s lt sb) || (i.dstBolt && !boltOpen s lt db) then .fail s stPeerClosed
  else if i.dstBolt then
    let n := min rest (cfgSlot (boltCfg s lt (if i.srcBolt then sb else db)))
    let k := ceilDiv n (cfgSlot (boltCfg s lt db))
    if i.srcBolt && boltReady s lt sb == 0 then
      boltSource s lt sb n (i.flag 4) (fun s1 _ => .wait s1)
    else if !boltRoom s lt db k then .wait s
    else
      let start := boltReserve s lt db
      let s1 := boltTake s lt db k
      let src := if i.srcBolt then
          (match memRead s1 lt (slotOff s1 lt sb (boltHead s1 lt sb)) n with
           | (s2, .error e) => (s2, Except.error e.1)
           | (s2, .ok bs) => (s2, Except.ok bs))
        else dmaRead s1 lt i (i.src + p) n
      match src with
      | (s2, .error st) => .fail (boltLand s2 lt db start false) st
      | (s2, .ok bs) =>
        match boltDest s2 lt db start bs with
        | (s3, some st) => .fail s3 st
        | (s3, none) => .done (if i.srcBolt then boltRelease s3 lt sb 1 else s3) n
  else if i.srcBolt then
    let n := min rest (cfgSlot (boltCfg s lt sb))
    boltSource s lt sb n (i.flag 4) (fun s1 bs =>
      match dmaWrite s1 lt i (i.dst + p) bs with
      | (s2, some st) => .fail s2 st
      | (s2, none) => .done (boltRelease s2 lt sb 1) n)
  else
    let n := min rest (64 - (i.dst + p) % 64)
    match dmaRead s lt i (i.src + p) n with
    | (s1, .error st) => .fail s1 st
    | (s1, .ok bs) => chunkWritten (dmaWrite s1 lt i (i.dst + p) bs) n

/-- The bytes of a run of elements that starts at a byte boundary. -/
def runBytes (w n : Nat) : Nat := (n * w + 7) / 8

/-- The source ranges of `n` elements from element `p`: the elements, and an MX block's scale byte. FP32+C has its value plane at the elements'
address and its tail plane at the scale's (07, R185; the descriptor names no other address: DESIGN CHOICE, log entry 54). -/
def cvtRanges (fmt base side p n : Nat) : List (Nat × Nat) :=
  let w := elemBits fmt
  if fmt = 14 then [(base + 4 * p, 4 * n), (side + 2 * p, 2 * n)]
  else if isMx fmt then [(base + p * w / 8, runBytes w n), (side + p / 32, 1)]
  else [(base + p * w / 8, runBytes w n)]

/-- The values of `n` elements that have been read from those ranges. -/
def cvtVals (c : PalCfg) (n : Nat) (bs : List Byte) : List FVal :=
  let w := elemBits c.format
  if c.format = 14 then (joinPlanes n bs (bs.drop (4 * n))).map (fun x => decodeThrough c x 127)
  else
    let sc := if isMx c.format then fieldAt bs (runBytes w n) 1 else 127
    (List.range n).map (fun j => decodeThrough c (unpackElem w bs j) sc)

/-- The encodings of a chunk's elements, its scale byte if the format has one, and what it counts (R173, R176, R308). -/
def cvtRun (s : State) (lt : Nat) (i : DmaItem) (vs : List FVal) : List Nat × Option Nat × Tally :=
  let rnd := fun j => tileRandom s lt i.tid (i.elemBase + i.progress + j)
  if isMx i.cfgD.format then
    let x := convBlock i.cfgD rnd vs Tally.none
    (x.2.1, some x.1, x.2.2)
  else
    let x := convRun i.cfgD rnd 0 vs Tally.none
    (x.1, none, x.2)

/-- The packed elements; an odd 4-bit tail keeps the other half of its byte. -/
def packKeep (w : Nat) (xs : List Nat) (old : Byte) : List Byte :=
  if w = 4 ∧ xs.length % 2 = 1 then packElems w (xs ++ [old.toNat / 16]) else packElems w xs

/-- The byte that holds the last element of an odd 4-bit run, as it is now. -/
def oldByte (s : State) (lt : Nat) (i : DmaItem) (a : Nat) : Byte :=
  match dmaOff s lt i a 1 .write with
  | (_, .ok off) => memGet (s.tile lt).mem off
  | (_, .error _) => 0

/-- The destination writes of a conversion: elements, a short MX block filled up with zeros (07, R176), then the scale byte; or the two planes of
FP32+C (07, R185). -/
def cvtParts (s : State) (lt : Nat) (i : DmaItem) (n : Nat) (xs : List Nat) (sc : Option Nat) : List (Nat × List Byte) :=
  let w := elemBits i.cfgD.format
  let p := i.progress
  let a := i.dst + p * w / 8
  if i.cfgD.format = 14 then [(i.dst + 4 * p, valuePlane xs), (i.a3 + 2 * p, tailPlane xs)]
  else
    match sc with
    | some b => [(a, packElems w (fillBlocks i.cfgD.format xs)), (i.a3 + p / 32, leBytes 1 b)]
    | none => [(a, packKeep w xs (oldByte s lt i (a + n / 2)))]

/-- A chunk of `dma.cvt`: 32 elements (R308, R310). -/
def cvtChunk (s : State) (lt : Nat) (i : DmaItem) : ChunkOut :=
  let n := min 32 (i.length - i.progress)
  match dmaReads s lt i (cvtRanges i.cfgS.format i.src i.a2 i.progress n) with
  | (s1, .error st) => .fail s1 st
  | (s1, .ok bs) =>
    let x := cvtRun s1 lt i (cvtVals i.cfgS n bs)
    let s2 := applyTally s1 lt i.cfgD.n x.2.2
    chunkWritten (dmaWrites s2 lt i (cvtParts s2 lt i n x.1 x.2.1)) n

/-- A chunk of `dma.gather` or `dma.scatter`: one element, or 64 B of a longer one (R308, R310). `sentTo` counts the bytes of
the present element that have been moved; the chunk answers one unit when its element is whole. -/
def indexChunk (s : State) (lt : Nat) (i : DmaItem) : ChunkOut :=
  let e := i.progress
  let n := min 64 (i.a0 - i.sentTo)
  match dmaRead s lt i (i.index + 4 * e) 4 with
  | (s1, .error st) => .fail s1 st
  | (s1, .ok ib) =>
    let x := leNat ib
    let a := (if i.wop = wopGather then i.src + x * i.a1 else i.src + e * i.a0) + i.sentTo
    let d := (if i.wop = wopGather then i.dst + e * i.a0 else i.dst + x * i.a1) + i.sentTo
    match dmaRead s1 lt i (a % 2 ^ 64) n with
    | (s2, .error st) => .fail s2 st
    | (s2, .ok bs) => chunkWritten (dmaWrite s2 lt i (d % 2 ^ 64) bs) (if i.sentTo + n = i.a0 then 1 else 0)

/-- The rows of a transposed item: the whole block is translated and checked before any row is read, in row order (R83, R84, R313). -/
def dmaRows (s : State) (lt : Nat) (i : DmaItem) (q : BlockReq) : State × Except Status (List (List Byte)) :=
  match dmaOffs s lt i .read ((List.range q.rows).flatMap (fun r => piecesOf (q.start + r * q.stride) q.rowBytes)) with
  | (s1, .error st) => (s1, .error st)
  | (s1, .ok os) =>
    match readOffs s1 lt os with
    | (s2, .error st) => (s2, .error st)
    | (s2, .ok bs) => (s2, .ok ((List.range q.rows).map (fun r => slice bs (r * q.rowBytes) q.rowBytes)))

/-- A chunk of `dma.2d`: a line of a row, or the whole of a transposed block (R308, R310, R311). -/
def rowChunk (s : State) (lt : Nat) (i : DmaItem) : ChunkOut :=
  if i.transpose then
    match dmaRows s lt i i.block with
    | (s1, .error st) => .fail s1 st
    | (s1, .ok rs) => chunkWritten (dmaWrite s1 lt i i.dst (i.block.pack rs)) i.block.size
  else
    let r := i.progress / i.a1
    let c := i.progress % i.a1
    let d := i.dst + r * i.a3 + c
    let n := min (i.a1 - c) (64 - d % 64)
    match dmaRead s lt i (i.src + r * i.a2 + c) n with
    | (s1, .error st) => .fail s1 st
    | (s1, .ok bs) => chunkWritten (dmaWrite s1 lt i d bs) n

/-- Whether the gate of a reduction's chunk is open (R271, R315). -/
def redGate (s : State) (lt : Nat) (i : DmaItem) : Bool :=
  match mirrorOf s lt (redSync s i.rid) with
  | some m => !s.tbit lt (regSyncMir m) 30 &&
      hasReached (mirrorVal s lt m) (BitVec.ofInt 32 ((i.progress / 64 : Nat) + 1 - (redWindow s i.rid : Int)))
  | none => false

/-- The source ranges of a contribution's chunk; the tail plane of FP32+C follows the value plane of all ELEMENTS (07, R185; DESIGN CHOICE, log
entry 54). -/
def redRanges (s : State) (i : DmaItem) : List (Nat × Nat) :=
  cvtRanges (redFmt s i.rid) i.src (i.src + 4 * redElements s i.rid) i.progress 64

/-- The elements of a contribution's chunk, as its packet carries them (R273). -/
def redElems (fmt : Nat) (bs : List Byte) : List (Word × BitVec 16) :=
  (List.range 64).map (fun j =>
    if fmt = 14 then (BitVec.ofNat 32 (fieldAt bs (4 * j) 4), BitVec.ofNat 16 (fieldAt bs (256 + 2 * j) 2))
    else if fmt = 1 then (BitVec.ofNat 32 (unpackElem 16 bs j * 2 ^ 16), 0)
    else (BitVec.ofNat 32 (unpackElem 32 bs j), 0))

/-- Whether the packets of a reduction go to another module (14, R378). -/
def redAway (s : State) (rid : Nat) : Bool := bit (s.mreg (regFabRedMap rid)) 16

/-- A chunk of a contribution: its B1 packet is injected, which waits while injection is frozen (R271, R315), or a REDUCE packet goes to the module that FAB_RED_MAP names (14,
R375, R378). -/
def reduceChunk (s : State) (lt : Nat) (i : DmaItem) : ChunkOut :=
  let away := redAway s i.rid
  let d := s.mfld (regFabRedMap i.rid) 15 0
  if !redGate s lt i || (away && !fabMayTake s lt) || (!away && s.mesh.shadow.isSome) then .wait s
  else if away && (s.moduleId.isNone || !s.sec.policy || (egress s d 0 false none).isNone) then .fail s stLinkLost
  else
    let fmt := redFmt s i.rid
    let w := elemBits fmt
    match dmaReads s lt i (redRanges s i) with
    | (s1, .error st) => .fail s1 st
    | (s1, .ok bs) =>
      let p : RedPkt := ⟨i.rid, i.progress / 64, i.a0, 0, redElems fmt bs⟩
      .done (if away then fabReduce (fabTake s1 lt) d lt (8 * w) p else pushRed s1 p (ptOf s1 lt)) 64

/-! ### Remote writes -/

/-- The bytes of the write of a remote item at an offset (R310, R314). -/
def remoteLen (s : State) (lt : Nat) (i : DmaItem) (o : Nat) : Nat :=
  min (i.length - o) (if i.srcBolt then min 65536 (cfgSlot (boltCfg s lt (i.src % 64))) else 65536)

/-- How many writes a remote item may have outstanding: one to a Bolt or from one, else 8 (R314). -/
def remoteWindow (i : DmaItem) : Nat := if nbit i.target 6 && !i.srcBolt then 8 else 1

/-- The next write of a remote item asks for its credit (R314); its source is translated and read before the receiver's and the fabric's
statuses are looked at (R313). -/
def startRemote (s : State) (lt : Nat) (i : DmaItem) : ChunkOut :=
  let o := i.sentTo
  let n := remoteLen s lt i o
  let foreign := dmaForeign s i
  let go := fun st : State =>
    if foreign && st.moduleId.isNone then .fail st stLinkLost
    else if !foreign && decide (ltCount st ≤ gaSel i.dst) then .fail st stProtFault
    else if foreign && !fabMayTake st lt then .wait st
    else
      let s1 := if foreign then fabTake st lt else st
      let s2 := putDma s1 lt { i with sentTo := o + n, inFlight := i.inFlight ++ [o], reported := false }
      let window := nbit i.target 6
      ChunkOut.done (sendRequest s2 lt (.dma i.slot o) (i.dst / 2 ^ 28 * 2 ^ 28) (nfld i.target 5 0 + 128 * b2n window) 0 n
        (if window then gaOff i.dst + o else 0) false []) 0
  if i.srcBolt then boltSource s lt (i.src % 64) n (i.flag 4) (fun st _ => go st)
  else
    match dmaRead s lt i (i.src + o) n with
    | (s1, .error st) => .fail s1 st
    | (s1, .ok _) => go s1

/-- The source of a granted write: a Bolt that has closed or run empty since the credit was asked for ends or holds the write (R316), and
nothing of the source is read then. -/
def grantSource (s : State) (lt : Nat) (i : DmaItem) (o n : Nat) : ChunkOut × List Byte :=
  if i.srcBolt then
    match boltSource s lt (i.src % 64) n (i.flag 4) (fun st _ => .done st n) with
    | .done s1 k => (.done s1 k, memBytes (s1.tile lt).mem (slotOff s1 lt (i.src % 64) (boltHead s1 lt (i.src % 64))) n)
    | x => (x, [])
  else
    match dmaRead s lt i (i.src + o) n with
    | (s1, .error st) => (.fail s1 st, [])
    | (s1, .ok bs) => (.done s1 n, bs)

/-- A write of a remote item ends without being sent: the item fails at it. -/
def failGranted (s : State) (lt : Nat) (i : DmaItem) (o : Nat) (st : Status) : State :=
  let at_ := match i.failed with | some (_, a) => min a o | none => min o i.sentTo
  let st' := match i.failed with | some (st0, a) => if a < o then st0 else st | none => st
  stopDma s lt { i with inFlight := i.inFlight.erase o } st' at_ o

/-- A GRANT reaches a write of a remote item (R314): the source is read and the write sent; a source that cannot be read ends the write with an
abort mark, and the item fails at that write; a source Bolt that is closed or empty gives the grant back (R80, R316). -/
def grantDma (s : State) (lt : Nat) (i : DmaItem) (o : Nat) (r : SendReq) (m : CreditMsg) : State :=
  let n := remoteLen s lt i o
  let wr := fun (data : List Byte) (ab : Bool) => NetMsg.write r.dst.toNat
    { sender := BitVec.ofNat 64 (tileGa s lt), reqTag := r.msg.reqTag, creditTag := m.creditTag, target := m.target,
      offset := m.offset, data := data, abort := ab, notify := false }
  let free := fun st : State => if dmaForeign st i then fabGive st lt else st
  let away := i.srcBolt && (!boltOpen s lt (i.src % 64) || boltReady s lt (i.src % 64) == 0)
  match grantSource s lt i o n with
  | (.fail s1 st, _) =>
    let s2 := free (dropReq s1 lt r.msg.reqTag)
    failGranted (if away then returnGrant s2 lt m else netSendNear s2 (wr [] true) 4 (tilesAdjacent s2 lt (gaSel r.dst.toNat))) lt i o st
  | (.wait s1, _) =>
    putDma (returnGrant (free (dropReq s1 lt r.msg.reqTag)) lt m) lt { i with sentTo := o, inFlight := i.inFlight.erase o }
  | (.done s1 _, data) =>
    bumpCnt (netSendNear (markSent s1 lt r) (wr data false) 4 (tilesAdjacent s1 lt (gaSel r.dst.toNat))) lt 14
      (ceilDiv n 64)

/-- The answer to a write of a remote item: done, or failed with a status (R314). Progress counts no byte past a write that was given up (R311);
a write that it counts has consumed its slot of a source Bolt (R72). -/
def ackDma (s : State) (lt : Nat) (i : DmaItem) (o : Nat) (st : Status) : State :=
  let s0 := if dmaForeign s i then fabGive s lt else s
  let fl := i.inFlight.erase o
  if st = stOk then
    let s1 := if i.srcBolt && (match i.failed with | none => true | some (_, a) => decide (o < a)) then boltRelease s0 lt (i.src % 64) 1 else s0
    match i.failed with
    | some (fst, at_) =>
      let j := { i with inFlight := fl, progress := max i.progress (fl.foldl min at_) }
      if fl.isEmpty then endDma s1 lt j fst 0 else putDma s1 lt j
    | none =>
      let j := { i with inFlight := fl, progress := fl.foldl min i.sentTo }
      if fl.isEmpty ∧ j.sentTo = i.length then endDma s1 lt j stOk 0 else putDma s1 lt j
  else
    match i.failed with
    | some (fst, at_) => stopDma s0 lt { i with inFlight := fl } (if o < at_ then st else fst) (min at_ o) (min at_ o)
    | none => stopDma s0 lt { i with inFlight := fl } st (min o i.sentTo) o

/-! ### Items and chunks -/

/-- The chunk of an item that runs. -/
def chunkOf (s : State) (lt : Nat) (i : DmaItem) : ChunkOut :=
  match i.wop with
  | 0 => copyChunk s lt i
  | 1 => cvtChunk s lt i
  | 2 | 3 => indexChunk s lt i
  | 4 => rowChunk s lt i
  | _ => if i.reduce then reduceChunk s lt i else startRemote s lt i

/-- An item after a chunk of it has moved `n` units: it completes when nothing is left (R311). -/
def chunkDone (s : State) (lt : Nat) (i : DmaItem) (n : Nat) : State :=
  if i.wop = wopRemote ∧ !i.reduce = true then s
  else
    let sub := if (i.wop = wopGather ∨ i.wop = wopScatter) ∧ n = 0 then i.sentTo + min 64 (i.a0 - i.sentTo) else 0
    let j := { i with progress := i.progress + n, sentTo := sub, reported := false }
    let s1 := bumpCnt s lt 14 (max 1 (ceilDiv n 64))
    if j.progress = dmaTotal s i then endDma s1 lt j stOk 0 else putDma s1 lt j

/-- Whether an item may start a chunk now. -/
def mayChunk (s : State) (lt : Nat) (i : DmaItem) : Bool :=
  i.running && i.failed.isNone && !(s.tile lt).preSaving && !unitsStop s lt &&
    (i.wop != wopRemote || i.reduce || (decide (i.inFlight.length < remoteWindow i) && decide (i.sentTo < i.length)))

/-- The running items of a tile in the order in which they are served next (R310). -/
def dmaOrder (s : State) (lt : Nat) : List Nat :=
  let run := ((s.tile lt).dma.filter (fun i => i.running)).map (fun i => i.slot)
  let seen := (s.tile lt).dmaTurns.filter (fun n => run.contains n)
  seen ++ run.filter (fun n => !seen.contains n)

/-- Whether the item in a slot has a chunk that can be performed now. -/
def chunkReady (s : State) (lt n : Nat) : Bool :=
  match dmaOf s lt n with
  | some i => mayChunk s lt i && (match chunkOf s lt i with | .wait _ => false | _ => true)
  | none => false

/-- The item whose turn it is: the first in order that does not wait (R310). -/
def dmaTurn (s : State) (lt : Nat) : Option Nat := (dmaOrder s lt).find? (chunkReady s lt)

/-- An item has been served: its next turn comes after those of the others (R310). -/
def servedDma (s : State) (lt n : Nat) : State :=
  let order := dmaOrder s lt
  s.modTile lt (fun t => { t with dmaTurns := order.filter (· != n) ++ [n] })

/-- DMA_CHUNK (R310 to R316): the next chunk of the item in a slot, when it is that item's turn. -/
def execDmaChunk (lt : Nat) (slot : BitVec 6) (s : State) : Out :=
  onTile lt s (fun s =>
    match dmaOf s lt slot.toNat with
    | none => s
    | some i =>
      if dmaTurn s lt = some slot.toNat then
        let s0 := servedDma s lt slot.toNat
        match chunkOf s0 lt i with
        | .done s1 n => chunkDone s1 lt i n
        | .wait s1 => s1
        | .fail s1 st => stopDma s1 lt i st (if i.wop = wopRemote then i.sentTo else i.progress) i.sentTo
      else s)

/-- The descriptor read of an item (R307; checks 1 and 2 of Table 12.4): its bytes, or the check that fails and the status. -/
def readDescriptor (s : State) (lt : Nat) (i : DmaItem) : State × Except (Nat × Status) (List Byte) :=
  if i.addr.toNat % 64 ≠ 0 then (s, .error (1, stProtFault))
  else
    match dmaOff s lt i i.addr.toNat 64 .read with
    | (s1, .error st) => (s1, .error (1, st))
    | (s1, .ok off) =>
      match memRead s1 lt off 64 with
      | (s2, .error e) => (s2, .error (2, e.1))
      | (s2, .ok bs) => (s2, .ok bs)

/-- The first check from 3 to 5 of Table 12.4 that fails, with its status. -/
def dmaChecks (s : State) (lt : Nat) (i : DmaItem) : Option (Nat × Status) :=
  let sized := i.wop != wop2d && !i.reduce
  if sized && i.length == 0 then none
  else if !dmaCheck3 i then some (3, stProtFault)
  else if !dmaCheck4 s lt i then some (4, stProtFault)
  else if !dmaCheck5 s lt i then some (5, stPeerClosed)
  else none

/-- An item whose descriptor has been read and that no earlier item holds back: its checks, and it runs (R309). -/
def beginDma (s : State) (lt : Nat) (i : DmaItem) : State :=
  let j := if i.checked then i else
    { i with cfgS := palCfg s lt (fieldAt i.desc 0x14 1), cfgD := palCfg s lt (fieldAt i.desc 0x15 1) }
  match (if j.checked then none else dmaChecks s lt j) with
  | some (c, st) => endDma s lt j st c
  | none =>
    if dmaTotal s j ≤ j.progress then endDma s lt j stOk 0
    else putDma s lt { j with running := true, checked := true, sentTo := if j.wop = wopRemote then j.progress else 0 }

/-- The first item of the queue that does not run, with whether it is the first of all. -/
def nextDma (t : Tile) : Option (DmaItem × Bool) :=
  match t.dma.find? (fun i => !i.running) with
  | some i => some (i, (t.dma.head?.map (fun j => j.slot)) == some i.slot)
  | none => none

/-- DMA_ITEM_START (R307, R309, R310): the next item of the queue reads its descriptor, waits for the earlier items where it
is ORDERED, passes the checks and runs; at most 8 run. -/
def execDmaItemStart (lt : Nat) (s : State) : Out :=
  onTile lt s (fun s =>
    match nextDma (s.tile lt) with
    | none => s
    | some (i, first) =>
      if 8 ≤ ((s.tile lt).dma.filter (fun j => j.running)).length || (s.tile lt).preSaving || unitsStop s lt then s
      else
        match (if i.desc = [] then readDescriptor s lt i else (s, .ok i.desc)) with
        | (s1, .error (c, st)) => endDma s1 lt i st c
        | (s1, .ok bs) =>
          let j := { i with desc := bs }
          let s2 := putDma s1 lt j
          if j.flag 1 && !first then s2 else beginDma s2 lt j)

/-! ### Waits, abort, halt -/

/-- What an item waits for: 0 a Bolt, 1 a credit, or the tile's allowance of fabric transactions, 2 a reduction's gate (R316; 14, R376). -/
def dmaWaits (s : State) (lt : Nat) (i : DmaItem) : Option Nat :=
  if !i.running || i.failed.isSome then none
  else if i.wop = wopRemote ∧ !i.reduce = true ∧
      ((s.tile lt).reqs.any (fun p => isDmaReq i.slot p.2 && p.2.phase != .sent && p.2.phase != .givenUp)) = true then some 1
  else if i.reduce then (if !redGate s lt i then some 2 else if redAway s i.rid && !fabMayTake s lt then some 1 else none)
  else
    match chunkOf s lt i with
    | .wait _ => some (if i.wop = wopRemote && !i.srcBolt then 1 else 0)
    | _ => none

/-- DMA_STALL_TIMEOUT (R316): STALL is set and event 0x07 recorded, once for each wait. -/
def execDmaStallTimeout (lt : Nat) (slot : BitVec 6) (s : State) : Out :=
  onTile lt s (fun s =>
    match dmaOf s lt slot.toNat with
    | none => s
    | some i =>
      match (if i.reported then none else dmaWaits s lt i) with
      | none => s
      | some k =>
        let s1 := (putDma s lt { i with reported := true }).setTbit lt regDmaStatus 11 true
        skbEvent s1 (.tile lt) 0x07
          [mkHandle 1 i.slot ((s.tile lt).slot 1 i.slot).gen.toNat, k + stChannelStall.toNat * 2 ^ 8, i.progress])

/-- Every item stops at its next chunk boundary with a status (R318); one that has failed keeps its own (R312), and what it still asks for is
given up. -/
def dmaStopAll (s : State) (lt : Nat) (st : Status) : State :=
  (s.tile lt).dma.foldl (fun x i =>
    match i.failed with
    | some (fst, at_) => stopDma x lt i fst at_ 0
    | none => stopDma x lt i st (if i.wop = wopRemote then i.sentTo else i.progress) 0) s

/-- A write of DMA_CTRL (12, DMA_CTRL; R318). -/
def writeDmaCtrl (s : State) (lt : Nat) (v : Word) : State :=
  let s1 := s.setTbit lt regDmaCtrl 0 (bit v 0)
  if bit v 1 then dmaStopAll s1 lt stAborted else s1

/-- DMA_ABORT (R318). -/
def execDmaAbort (lt : Nat) (lv : Level) (s : State) : Out := regCommand lt lv (fun s => dmaStopAll s lt stAborted) s

/-- A write that is on its way is ended with an abort mark (R319). -/
def abortWrite (s0 : State) (lt : Nat) (tag : BitVec 16) : State :=
  let s := fabAbort s0 lt tag
  { s with net := s.net.map (fun f => match f.msg with
    | .write d w => if w.sender == BitVec.ofNat 64 (tileGa s lt) && w.reqTag == tag then { f with msg := .write d { w with abort := true } } else f
    | _ => f) }

/-- The region's halt ends the items of a tile with REGION_OFF (R319). -/
def dmaHalt (s : State) (lt : Nat) : State :=
  let mine := (s.tile lt).reqs.filter (fun p => match p.2.owner with | .dma _ _ => p.2.phase != .givenUp | _ => false)
  let s1 := mine.foldl (fun x p =>
    if p.2.phase == .sent then
      dropReq (abortWrite (if p.2.dst.toNat / 2 ^ 48 != hereId x then fabGive x lt else x) lt p.2.msg.reqTag) lt p.2.msg.reqTag
    else giveUp x lt p.2) s
  (s1.tile lt).dma.foldl (fun x i => endDma x lt i stRegionOff 0) s1

/-! ### The instructions -/

/-- An item as it is queued. -/
def newDma (slot wop : Nat) (addr : DWord) (lv : Level) (xlat : Bool) : DmaItem :=
  { slot := slot, wop := wop, addr := addr, desc := [], lv := lv, xlat := xlat, progress := 0, running := false,
    checked := false, sentTo := 0, inFlight := [], failed := none, reported := false, cfgS := PalCfg.blank,
    cfgD := PalCfg.blank }

/-- A wide instruction of UNIT 1 other than `dma.rearm` (R306). -/
def dmaInsn (wop lt : Nat) (c : CoreId) (rd rs1 rs2 rs3 : BitVec 5) (pl : BitVec 32) (s : State) : Out :=
  let word := wordWide wop 1 rd rs1 rs2 rs3
  insn lt c 8 word tccNoAm (fun s =>
    if pl ≠ 0 ∨ rs2 ≠ 0 ∨ rs3 ≠ 0 then illegalInsn s word
    else
      match takeSlot s lt 1 with
      | none => .wait s (.queueFull 1)
      | some (s1, n, h) =>
        let t := (s.tile lt).tcc
        let s2 := s1.modTile lt (fun x => { x with
          dma := x.dma ++ [newDma n wop (gRead s lt c rs1) t.prv t.xlat], dmaKept := kvDel x.dmaKept n })
        .done (gWrite s2 lt c rd (BitVec.ofNat 64 h))) s

/-- `dma.copy` (R308). -/
def execDmaCopy (lt : Nat) (c : CoreId) (rd rs1 rs2 rs3 : BitVec 5) (pl : BitVec 32) (s : State) : Out := dmaInsn wopCopy lt c rd rs1 rs2 rs3 pl s

/-- `dma.cvt` (R308). -/
def execDmaCvt (lt : Nat) (c : CoreId) (rd rs1 rs2 rs3 : BitVec 5) (pl : BitVec 32) (s : State) : Out := dmaInsn wopCvt lt c rd rs1 rs2 rs3 pl s

/-- `dma.gather` (R308). -/
def execDmaGather (lt : Nat) (c : CoreId) (rd rs1 rs2 rs3 : BitVec 5) (pl : BitVec 32) (s : State) : Out := dmaInsn wopGather lt c rd rs1 rs2 rs3 pl s

/-- `dma.scatter` (R308). -/
def execDmaScatter (lt : Nat) (c : CoreId) (rd rs1 rs2 rs3 : BitVec 5) (pl : BitVec 32) (s : State) : Out := dmaInsn wopScatter lt c rd rs1 rs2 rs3 pl s

/-- `dma.2d` (R308). -/
def execDma2d (lt : Nat) (c : CoreId) (rd rs1 rs2 rs3 : BitVec 5) (pl : BitVec 32) (s : State) : Out := dmaInsn wop2d lt c rd rs1 rs2 rs3 pl s

/-- `dma.remote` (R308, R314). -/
def execDmaRemote (lt : Nat) (c : CoreId) (rd rs1 rs2 rs3 : BitVec 5) (pl : BitVec 32) (s : State) : Out := dmaInsn wopRemote lt c rd rs1 rs2 rs3 pl s

/-- The item that a handle names, where it is complete with a resumable status (R317). -/
def rearmable (s : State) (lt h : Nat) : Option (Nat × Slot × DmaItem) :=
  let p := handleParts h
  match slotOfHandle s lt h, kvFind (s.tile lt).dmaKept p.2.1 with
  | some x, some i => if p.1 = 1 ∧ x.busy = false ∧ x.crec.valid = true ∧ x.crec.handle = h then some (p.2.1, x, i) else none
  | _, _ => none

/-- `dma.rearm` (R317). -/
def execDmaRearm (lt : Nat) (c : CoreId) (rd rs1 rs2 rs3 : BitVec 5) (pl : BitVec 32) (s : State) : Out :=
  let word := wordWide 6 1 rd rs1 rs2 rs3
  insn lt c 8 word tccNoAm (fun s =>
    if pl ≠ 0 ∨ rs2 ≠ 0 ∨ rs3 ≠ 0 then illegalInsn s word
    else
      match rearmable s lt (gRead s lt c rs1).toNat with
      | none => illegalOperand s word
      | some (n, x, i) =>
        let g := x.gen + 1
        let s1 := setSlot s lt 1 n { x with gen := g, busy := true }
        let j := { i with progress := x.crec.progress, sentTo := 0, reported := false }
        let s2 := s1.modTile lt (fun t => { t with dma := t.dma ++ [j], dmaKept := kvDel t.dmaKept n })
        .done (gWrite s2 lt c rd (BitVec.ofNat 64 (mkHandle 1 n g.toNat)))) s

end Sys2Proof.Machine
end

