-- ==== Sys2Proof/Machine/HostStream.lean ====
section
/-!
DEFINITION. Streams of the host ports (19, R457, R459; 20, R473 to R475).
-/
namespace Sys2Proof.Machine

open Sys2Proof

/-- The stream with a number. -/
def streamOf (s : State) (id : Nat) : Option Stream := kvFind s.mgt.streams id

/-- The state with a stream replaced. -/
def putStream (s : State) (id : Nat) (x : Stream) : State := { s with mgt := { s.mgt with streams := kvSet s.mgt.streams id x } }

/-- An answer of a host port: 0 data or acknowledgement, 1 remote access error, 2 congestion notification. -/
def hostReply (s : State) (code : Nat) (data : List Byte) : State := { s with replies := s.replies ++ [⟨7, code, data⟩] }

/-- A stream ends with its final status, once; an EVENT notice tells of it (R474, Table 20.10). -/
def endStream (s : State) (id : Nat) (x : Stream) (st : Status) : State :=
  if x.status.isSome then s else lcpEvent (putStream s id { x with status := some st }) (leBytes 4 id ++ leBytes 4 st.toNat)

/-- The plaintext bytes of a block of a stream: 4 KiB, or 64 KiB for a checkpoint (R457, R459). -/
def blockSize (x : Stream) : Nat := if x.form = 0 then 4096 else 65536

/-- The number of blocks of a stream. -/
def streamBlocks (x : Stream) : Nat := ceilDiv x.len (blockSize x)

/-- The plaintext bytes of block `i`. -/
def blockBytes (x : Stream) (i : Nat) : Nat := min (blockSize x) (x.len - blockSize x * i)

/-- The remote offset at which block `i` lies (R474, R475). -/
def blockAt (x : Stream) (i : Nat) : Nat := (if x.form = 0 then 0 else 256) + (blockSize x + 16) * i

/-- CKPT_ID bytes 0 to 7 of a checkpoint header (R459). -/
def ckptId (x : Stream) : List Byte := slice x.header 0x20 8

/-- The IV of block `i` of stream `id`: the 8 B block counter and the 4 B stream number (R457), or the 4 B chunk number and CKPT_ID
(R459). -/
def blockIv (x : Stream) (id i : Nat) : List Byte :=
  if x.form = 0 then leBytes 8 i ++ leBytes 4 id else leBytes 4 i ++ ckptId x

/-- The additional data of a block: none, or the checkpoint header but for its tag (R459). -/
def blockAad (x : Stream) : List Byte := if x.form = 0 then [] else slice x.header 0 0xF0

/-- A block whose tag fails is counted and ends its stream with INTEGRITY (R457, R474; HOST_PORT_ERR). -/
def tagFailed (s : State) (id : Nat) (x : Stream) : State :=
  let o := regHostPortErr x.port
  endStream (s.setMfld o 15 0 (satInc 16 (s.mfld o 15 0))) id x stIntegrity

/-- A congestion notification goes out for a packet marked CE, at most once in 50 µs (R473). -/
def congestion (s : State) (id : Nat) (x : Stream) (ce : Bool) : State × Stream :=
  if ce && x.lastCnp.all (fun t => decide (t + 50 ≤ s.aon)) then
    let y := { x with lastCnp := some s.aon }
    (hostReply (putStream s id y) 2 (leBytes 4 x.qpn), y)
  else (s, x)

/-! ### Delivery to a tile -/

/-- A checked block is to be written: the port asks for a credit for it (R474). The tile named stands as the requester. -/
def deliver (s : State) (id : Nat) (x : Stream) (i : Nat) (plain : List Byte) : State :=
  sendRequest s x.lt (.stream id i) (tileGa s x.lt) (128 + x.window) 0 plain.length (x.base + blockSize x * i) false plain

/-- The GRANT of a stream's block: it is written (R474). -/
def grantStream (s : State) (lt id : Nat) (r : SendReq) (m : CreditMsg) : State :=
  match streamOf s id with
  | none => dropReq s lt r.msg.reqTag
  | some _ =>
    netSend (markSent s lt r) (.write r.dst.toNat
      { sender := BitVec.ofNat 64 (tileGa s lt), reqTag := r.msg.reqTag, creditTag := m.creditTag, target := m.target, offset := m.offset,
        data := r.data, abort := false, notify := false })

/-- The end of a block's write: the last one ends its stream with OK; a failure or a refusal ends it with that status (R474). -/
def ackStream (s : State) (id : Nat) (st : Status) : State :=
  match streamOf s id with
  | none => s
  | some x =>
    if st = stOk then
      let y := { x with acked := x.acked + 1 }
      if y.acked = streamBlocks y then endStream (putStream s id y) id y stOk else putStream s id y
    else endStream s id x st

/-! ### RDMA WRITE and SEND -/

/-- The blocks that a write from remote offset `off` of `n` bytes covers wholly, if it covers whole blocks only. -/
def wholeBlocks (x : Stream) (off n : Nat) : Option (Nat × Nat) :=
  let i := (off - blockAt x 0) / (blockSize x + 16)
  let k := ceilDiv n (blockSize x + 16)
  if blockAt x 0 ≤ off ∧ off = blockAt x i ∧ 0 < k ∧ i + k ≤ streamBlocks x ∧
      off + n = blockAt x (i + k - 1) + blockBytes x (i + k - 1) + 16 then some (i, k) else none

/-- Blocks are checked and delivered in turn, up to one whose tag fails (R474, R475). -/
def takeBlocks (id : Nat) : Nat → State → Stream → Nat → List Byte → State
  | 0, s, _, _, _ => s
  | n + 1, s, x, i, bs =>
    let k := blockBytes x i + 16
    match Config.open_ x.key (blockIv x id i) (blockAad x) (bs.take k) with
    | none => tagFailed s id x
    | some p =>
      let y := { x with next := i + 1 }
      takeBlocks id n (deliver (putStream s id y) id y i (slice p 0 (blockBytes x i))) y (i + 1) (bs.drop k)

/-- The header of a checkpoint is checked (R459, R475): its fields, INSTALL_ID, the generation held, the data key, the header tag. -/
def takeHeader (s : State) (id : Nat) (x : Stream) (h : List Byte) : State :=
  let isk := (heldIsk s).find? (fun g => g.1 == fieldAt h 0x18 4)
  match (if fieldAt h 0 4 == 0x54504B43 && fieldAt h 4 2 == 1 && fieldAt h 6 2 == 256 && slice h 8 16 == slice s.flash.policy 8 16
      && slice h 0x84 108 == List.replicate 108 0 && fieldAt h 0x40 8 == x.len && fieldAt h 0x1C 4 == streamBlocks x then isk else none) with
  | none => tagFailed s id x
  | some g =>
    match Config.open_ g.2 (slice h 0x78 12) (slice h 0 0x48) (slice h 0x48 48) with
    | none => tagFailed s id x
    | some key =>
      let y := { x with header := h, key := key, opened := true }
      match Config.open_ key (leBytes 4 0xFFFFFFFF ++ ckptId y) (slice h 0 0xF0) (slice h 0xF0 16) with
      | none => tagFailed s id x
      | some _ => putStream s id y

/-- An RDMA WRITE into a stream (R474, R475). -/
def rdmaWrite (s : State) (id : Nat) (x : Stream) (off : Nat) (bs : List Byte) : State :=
  if x.dirOut || x.status.isSome then hostReply s 1 []
  else if x.form = 2 ∧ off = 0 ∧ bs.length = 256 ∧ x.opened = false then takeHeader (hostReply s 0 []) id x bs
  else
    match wholeBlocks x off bs.length with
    | none => hostReply s 1 []
    | some (i, k) =>
      if x.form = 2 ∧ (x.opened = false ∨ i ≠ x.next) then hostReply s 1 []
      else takeBlocks id k (hostReply s 0 []) x i bs

/-- The MAC address of host port `n`: the base, its first byte the most significant, plus `n` (00, R4; R473). -/
def macOf (n : Nat) : BitVec 48 := BitVec.ofNat 48 (beNat (slice Config.macBase 0 6) + n)

/-- A frame that an up host port takes: under its own MAC address and VLAN; one with unsupported parts is dropped and counted
(R473, Table 20.9; HOST_PORT_ERR). -/
def onFrame (f : HostFrame) (s : State) (g : State → State) : State :=
  let n := f.port.toNat
  if s.mfld (regHostPortStatus n) 1 0 ≠ 2 ∨ f.dst ≠ macOf n ∨ f.vlan.toNat ≠ s.mfld (regHostPortCfg n) 27 16 then s
  else if f.odd then s.setMfld (regHostPortErr n) 31 16 (satInc 16 (s.mfld (regHostPortErr n) 31 16))
  else g s

/-- A request of a frame on a stream of its port; one that names no such stream meets a remote access error. -/
def onStream (id : Nat) (f : HostFrame) (s : State) (g : State → Stream → State) : Out :=
  .next (onFrame f s (fun s =>
    match streamOf s id with
    | none => hostReply s 1 []
    | some x =>
      if x.port = f.port.toNat then
        let r := congestion s id x f.ce
        g r.1 r.2
      else hostReply s 1 []))

/-- RDMA_WRITE_RECEIVE (R474, R475). -/
def execRdmaWriteReceive (id : Nat) (f : HostFrame) (off : Nat) (data : List Byte) (s : State) : Out :=
  onStream id f s (fun s x => rdmaWrite s id x off data)

/-- A SEND carries one sealed block, of as many bytes as the next block of an IN stream or fewer, into that block (R474). -/
def sendBlock (s : State) (id : Nat) (x : Stream) (bs : List Byte) : State :=
  if x.dirOut || x.status.isSome || x.form != 0 || decide (streamBlocks x ≤ x.next) || decide (bs.length ≤ 16) ||
      decide (blockBytes x x.next + 16 < bs.length) then hostReply s 1 []
  else
    match Config.open_ x.key (blockIv x id x.next) [] bs with
    | none => tagFailed (hostReply s 0 []) id x
    | some p => deliver (putStream (hostReply s 0 []) id { x with next := x.next + 1 }) id x x.next (slice p 0 (bs.length - 16))

/-- RDMA_SEND_RECEIVE (R474): one sealed block into the next block of an IN stream. -/
def execRdmaSendReceive (id : Nat) (f : HostFrame) (data : List Byte) (s : State) : Out :=
  onStream id f s (fun s x => sendBlock s id x data)

/-! ### RDMA READ -/

/-- Sealed blocks built from tile memory, from block `i` (R474, R475). -/
def sealBlocks (id : Nat) (x : Stream) : Nat → State → Nat → State × Except Status (List Byte)
  | 0, s, _ => (s, .ok [])
  | n + 1, s, i =>
    match memRead s x.lt (x.base + blockSize x * i) (blockBytes x i) with
    | (s1, .error e) => (s1, .error e.1)
    | (s1, .ok bs) =>
      let c := Config.seal x.key (blockIv x id i) (blockAad x) bs
      match sealBlocks id x n s1 (i + 1) with
      | (s2, .error e) => (s2, .error e)
      | (s2, .ok r) => (s2, .ok (slice c 0 (blockBytes x i + 16) ++ r))

/-- An RDMA READ of a stream: the bytes of its header and sealed blocks that the range covers. -/
def rdmaRead (s : State) (id : Nat) (x : Stream) (off n : Nat) : State :=
  let top := blockAt x (streamBlocks x - 1) + blockBytes x (streamBlocks x - 1) + 16
  if !x.dirOut || x.status.isSome || decide (top < off + n) then hostReply s 1 []
  else
    let i := (off - blockAt x 0) / (blockSize x + 16)
    let k := if off + n ≤ blockAt x 0 then 0 else (off + n - 1 - blockAt x 0) / (blockSize x + 16) + 1 - i
    match sealBlocks id x k s i with
    | (s1, .error st) => endStream (hostReply s1 1 []) id x st
    | (s1, .ok bs) =>
      let all := if i = 0 ∧ off < blockAt x 0 then slice x.header 0 (blockAt x 0) ++ bs else bs
      let at_ := if i = 0 ∧ off < blockAt x 0 then off else off - blockAt x i
      let s2 := hostReply s1 0 (slice all at_ n)
      if off + n = top then endStream s2 id x stOk else s2

/-- RDMA_READ_RECEIVE (R474, R475). A stream ends with OK when its last byte has been served. -/
def execRdmaReadReceive (id : Nat) (f : HostFrame) (off n : Nat) (s : State) : Out :=
  onStream id f s (fun s x => rdmaRead s id x off n)

/-! ### Congestion and links -/

/-- ROCE_CNP_RECEIVE (R473): the rate is halved, never below 1 Gb/s. -/
def execRoceCnpReceive (id : Nat) (s : State) : Out :=
  match streamOf s id with
  | some x => .next (putStream s id { x with rate := max 1 (x.rate / 2) })
  | none => .next s

/-- ROCE_RATE_TIMER (R473): 10 Gb/s more, up to the line rate of 800 Gb/s. -/
def execRoceRateTimer (id : Nat) (s : State) : Out :=
  match streamOf s id with
  | some x => .next (putStream s id { x with rate := min 800 (x.rate + 10) })
  | none => .next s

/-- A host port goes down (R473; 17, Table 17.2; 18, Table 18.1). -/
def hostDown (s : State) (n : Nat) : State :=
  let o := regHostPortStatus n
  if s.mfld o 1 0 = 0 then s
  else mcLog ((s.setMfld o 1 0 0).setMfld o 2 2 1) 2 13 noPt n 0 0

/-- An enabled host port that is down trains, once the host ports have been brought up and while its PLL runs (R466, R473; 17, R418). -/
def trainHost (s : State) (n : Nat) : State :=
  if bit (s.mreg (regHostPortCfg n)) 0 && s.mfld (regHostPortStatus n) 1 0 == 0 && decide (14 ≤ s.mfld regMgtBootStatus 3 0) && pllState s (3 + n) == 2 then
    s.setMfld (regHostPortStatus n) 1 0 1
  else s

/-- HOST_PORT_DOWN (R473). -/
def execHostPortDown (n : BitVec 1) (s : State) : Out := .next (hostDown s n.toNat)

/-- HOST_PORT_UP (R473): an enabled port that trains, or that trains again after it has gone down, comes up. -/
def execHostPortUp (n : BitVec 1) (s : State) : Out :=
  let o := regHostPortStatus n.toNat
  let s1 := trainHost s n.toNat
  if s1.mfld o 1 0 = 1 ∧ bit (s.mreg (regHostPortCfg n.toNat)) 0 = true then .next (s1.setMfld o 1 0 2) else .next s

end Sys2Proof.Machine
end

