-- ==== Sys2Proof/Machine/Rtu.lean ====
section
/-!
DEFINITION. The Routing Unit: expert dispatch and combine (08, R218 to R226).
-/
namespace Sys2Proof.Machine

open Sys2Proof

/-! ### The control block (Table 8.8) -/

abbrev Block := List Byte

def cbT (b : Block) : Nat := fieldAt b 0 2
def cbE (b : Block) : Nat := fieldAt b 2 2
def cbK (b : Block) : Nat := fieldAt b 4 1
def cbMode (b : Block) : Nat := fieldAt b 5 1
def cbPolicy (b : Block) : Nat := nfld (cbMode b) 1 0
def cbSoftmax (b : Block) : Bool := nbit (cbMode b) 2
def cbResume (b : Block) : Bool := nbit (cbMode b) 3
def cbDepth (b : Block) : Nat := nfld (cbMode b) 7 4
def cbReturn (b : Block) : Nat := fieldAt b 6 1
def cbCmode (b : Block) : Nat := fieldAt b 7 1
def cbScores (b : Block) : Nat := fieldAt b 8 4
def cbScoreStride (b : Block) : Nat := fieldAt b 0xC 4
def cbAct (b : Block) : Nat := fieldAt b 0x10 4
def cbActStride (b : Block) : Nat := fieldAt b 0x14 4
def cbActBytes (b : Block) : Nat := fieldAt b 0x18 4
def cbTable (b : Block) : Nat := fieldAt b 0x1C 4
def cbCount (b : Block) : Nat := fieldAt b 0x20 4
def cbAssign (b : Block) : Nat := fieldAt b 0x24 4
def cbReport (b : Block) : Nat := fieldAt b 0x28 4
def cbDropMax (b : Block) : Nat := fieldAt b 0x2C 2
def cbHoldMax (b : Block) : Nat := fieldAt b 0x2E 2
def cbHold (b : Block) : Nat := fieldAt b 0x30 4
def cbStart (b : Block) : Nat := fieldAt b 0x34 4
def cbTokenBase (b : Block) : Nat := fieldAt b 0x38 8
def cbMicro (b : Block) : Nat := fieldAt b 0x40 4
def cbResult (b : Block) : Nat := fieldAt b 0x44 4
def cbResultStride (b : Block) : Nat := fieldAt b 0x48 4
def cbH (b : Block) : Nat := fieldAt b 0x4C 2
def cbResPal (b : Block) : Nat := fieldAt b 0x4E 1
def cbOutPal (b : Block) : Nat := fieldAt b 0x4F 1
def cbOut (b : Block) : Nat := fieldAt b 0x50 4
def cbOutStride (b : Block) : Nat := fieldAt b 0x54 4
def cbTail (b : Block) : Nat := fieldAt b 0x58 4
def cbTailStride (b : Block) : Nat := fieldAt b 0x5C 4
def cbTid (b : Block) : Nat := fieldAt b 0x60 4

/-- The number of assignments (R221). -/
def cbAssigns (b : Block) : Nat := cbT b * cbK b + cbHoldMax b

/-- The bytes of a row of H elements of a Palette entry: whole blocks of an MX format (07, R176), the value plane of FP32+C (07, R185). -/
def rowBytesOf (s : State) (lt : Nat) (b : Block) (pal : Nat) : Nat :=
  let f := (palCfg s lt pal).format
  if f = 14 then 4 * cbH b else runBytes (elemBits f) (if isMx f then ceilDiv (cbH b) 32 * 32 else cbH b)

/-- The bytes of a result: a row of RES_PAL, and for FP32+C its tail plane behind it (07, R185; the landing area names no second plane: DESIGN
CHOICE, log entry 54). -/
def resBytesOf (s : State) (lt : Nat) (b : Block) : Nat :=
  rowBytesOf s lt b (cbResPal b) + (if (palCfg s lt (cbResPal b)).format = 14 then 2 * cbH b else 0)

/-- Whether `n` rows at a stride lie in visible memory. -/
def rowsVisible (base stride n bytes : Nat) : Bool := visible base ((n - 1) * stride + bytes)

/-- The checks of R218. -/
def cbValid (s : State) (lt : Nat) (b : Block) : Bool :=
  let t := cbT b
  let resid := cbCmode b == 2
  let tails := resid || (palCfg s lt (cbOutPal b)).format == 14
  decide (1 ≤ t) && decide (t ≤ 4096) && decide (1 ≤ cbE b) && decide (cbE b ≤ 4096) && decide (1 ≤ cbK b) &&
    decide (cbK b ≤ 8) && decide (cbPolicy b ≤ 2) && decide (1 ≤ cbDepth b) && decide (cbDepth b ≤ 8) &&
    decide (cbReturn b < 64) && decide (cbCmode b ≤ 2) && decide (16 ≤ cbActBytes b) && decide (cbActBytes b ≤ 65504) &&
    cbActBytes b % 16 == 0 && decide (1 ≤ cbH b) && decide (cbH b ≤ 32768) && fieldAt b 0x64 28 == 0 &&
    rowsVisible (cbScores b) (cbScoreStride b) t (4 * cbE b) && rowsVisible (cbAct b) (cbActStride b) t (cbActBytes b) &&
    visible (cbTable b) (16 * cbE b) && visible (cbCount b) (2 * cbE b) && visible (cbAssign b) (8 * cbAssigns b) &&
    visible (cbReport b) (0x40 + 16 * cbDropMax b) && visible (cbHold b) (16 + 32 * cbHoldMax b) &&
    rowsVisible (cbResult b) (cbResultStride b) (cbAssigns b) (resBytesOf s lt b) &&
    rowsVisible (cbOut b) (cbOutStride b) t (if resid then 4 * cbH b else rowBytesOf s lt b (cbOutPal b)) &&
    (!tails || rowsVisible (cbTail b) (cbTailStride b) t (2 * cbH b)) &&
    boltOpen s lt (cbReturn b) && decide (cbAssigns b ≤ 65536) && !(cbPolicy b == 2 && cbCmode b == 0)

/-! ### Memory -/

/-- A result of work on tile memory, or the status that ends it. -/
abbrev Try (α : Type) := State × Except Status α

/-- Go on with a result, where there is one. -/
def andThen {α β : Type} (r : Try α) (f : State → α → Try β) : Try β :=
  match r with
  | (s, .error e) => (s, .error e)
  | (s, .ok a) => f s a

/-- Read bytes. -/
def tryRead (s : State) (lt off n : Nat) : Try (List Byte) :=
  match memRead s lt off n with
  | (s1, .error e) => (s1, .error e.1)
  | (s1, .ok bs) => (s1, .ok bs)

/-- Read a little-endian number. -/
def tryNat (s : State) (lt off n : Nat) : Try Nat := andThen (tryRead s lt off n) (fun s1 bs => (s1, .ok (leNat bs)))

/-- Write bytes. -/
def tryWrite (s : State) (lt off : Nat) (bs : List Byte) : Try Unit :=
  match memWrite s lt off bs with
  | (s1, some e) => (s1, .error e.1)
  | (s1, none) => (s1, .ok ())

/-- A number of the report advances by `n` (Table 8.11). -/
def addReport (s : State) (lt : Nat) (b : Block) (off n : Nat) : Try Unit :=
  andThen (tryNat s lt (cbReport b + off) 4) (fun s1 v => tryWrite s1 lt (cbReport b + off) (leBytes 4 (v + n)))

/-- An entry of the assignment table (R222). -/
def putAssign (s : State) (lt : Nat) (b : Block) (num expert st : Nat) (status : Status) (gate : Nat) : Try Unit :=
  tryWrite s lt (cbAssign b + 8 * num) (leBytes 2 expert ++ leBytes 1 st ++ leBytes 1 status.toNat ++ leBytes 4 gate)

/-! ### Ranking and gates -/

/-- Insert an expert into the best `m`: decreasing score, ties to the lower expert number (R219). -/
def rankIn (m : Nat) (l : List (Nat × Nat)) (x : Nat × Nat) : List (Nat × Nat) :=
  let keep := l.takeWhile (fun y => decide (0 ≤ (fp32.decode y.2).cmp (fp32.decode x.2)))
  (keep ++ x :: l.drop keep.length).take m

/-- The best `m` experts of a token with their scores (R219). -/
def ranking (s : State) (lt : Nat) (b : Block) (t m : Nat) : Try (List (Nat × Nat)) :=
  andThen (tryRead s lt (cbScores b + t * cbScoreStride b) (4 * cbE b)) (fun s1 sc =>
    andThen (tryRead s1 lt (cbTable b) (16 * cbE b)) (fun s2 tb =>
      (s2, .ok ((List.range (cbE b)).foldl (fun l e =>
        let w := fieldAt sc (4 * e) 4
        if nbit (fieldAt tb (16 * e + 9) 1) 0 && !(fp32.decode w).isNan then rankIn m l (e, w) else l) []))))

/-- FP32 operations on words, each rounded to nearest even. -/
def fAdd (a b : Nat) : Nat := toFp32 ((fp32.decode a).add false (fp32.decode b))
def fSub (a b : Nat) : Nat := toFp32 ((fp32.decode a).add false (fp32.decode b).neg)
def fMul (a b : Nat) : Nat := toFp32 ((fp32.decode a).mul (fp32.decode b))

/-- The gates of a token's slots, from the scores of its ranks (R219). -/
def gates (softmax : Bool) (ss : List Nat) : List Nat :=
  if !softmax then ss
  else
    let s0 := ss.headD 0
    let es := ss.map (fun x => (sfu 0 (BitVec.ofNat 32 (fMul (fSub x s0) 0x3FB8AA3B))).1)
    let sum := (es.drop 1).foldl fAdd (es.headD 0)
    let r := (sfu 2 (BitVec.ofNat 32 sum)).1
    es.map (fun e => fMul e r)

/-! ### Assignments -/

/-- An assignment: number, token ID, expert or none, slot, gate, activation, output row and tail row offsets, whether it is
held-in, and the experts it may spill to. -/
structure Asg where
  num : Nat
  token : Nat
  expert : Option Nat
  slot : Nat
  gate : Nat
  act : Nat
  out : Nat
  tail : Nat
  held : Bool
  spill : List Nat

/-- An entry of the hold list (Table 8.10), in the order in which the spec lists its fields (log entry 8). -/
def holdEntry (a : Asg) (e : Nat) : List Byte :=
  leBytes 8 a.token ++ leBytes 2 e ++ leBytes 1 a.slot ++ leBytes 1 0 ++ leBytes 4 a.gate ++ leBytes 4 a.out
    ++ leBytes 4 a.tail ++ leBytes 4 a.act ++ leBytes 4 0

/-- The assignment of a position (R220, R221). -/
def asgOf (s : State) (lt : Nat) (i : RtuItem) : Try Asg :=
  let b := i.cb
  if i.pos < i.heldIn then
    let h := (s.tile lt).rtuHeldIn.getD i.pos []
    (s, .ok { num := cbT b * cbK b + i.pos, token := fieldAt h 0 8, expert := some (fieldAt h 8 2), slot := fieldAt h 10 1,
              gate := fieldAt h 12 4, act := fieldAt h 24 4, out := fieldAt h 16 4, tail := fieldAt h 20 4, held := true,
              spill := [] })
  else
    let r := (i.pos - i.heldIn) / cbT b
    let t := (i.pos - i.heldIn) % cbT b
    let extra := if cbPolicy b = 1 then cbDepth b else 0
    andThen (ranking s lt b t (cbK b + extra)) (fun s1 ranks =>
      let g := gates (cbSoftmax b) ((ranks.take (cbK b)).map Prod.snd)
      (s1, .ok { num := t * cbK b + r, token := cbTokenBase b + t, expert := (ranks[r]?).map Prod.fst, slot := r,
                 gate := g.getD r 0, act := cbAct b + t * cbActStride b, out := cbOut b + t * cbOutStride b,
                 tail := cbTail b + t * cbTailStride b, held := false, spill := (ranks.drop (cbK b)).map Prod.fst }))

/-- Whether an expert's counter is below its capacity (R220). That its entry is VALID is asked where tokens are ranked (R219). -/
def hasRoom (s : State) (lt : Nat) (b : Block) (e : Nat) : Try Bool :=
  if cbE b ≤ e then (s, .ok false)
  else
    andThen (tryRead s lt (cbTable b + 16 * e) 16) (fun s1 x =>
      andThen (tryNat s1 lt (cbCount b + 2 * e) 2) (fun s2 c =>
        (s2, .ok (decide (c < fieldAt x 10 2)))))

/-- The first expert with room, with its place in the list. -/
def firstRoom (s : State) (lt : Nat) (b : Block) : List Nat → Nat → Try (Option (Nat × Nat))
  | [], _ => (s, .ok none)
  | e :: r, k => andThen (hasRoom s lt b e) (fun s1 ok => if ok then (s1, .ok (some (e, k))) else firstRoom s1 lt b r (k + 1))

/-- The landing header of an assignment (Table 8.12). -/
def landingHeader (s : State) (lt : Nat) (b : Block) (a : Asg) (e rank : Nat) : List Byte :=
  leBytes 8 a.token ++ leBytes 8 (tileGa s lt) ++ leBytes 4 (cbMicro b) ++ leBytes 2 a.num ++ leBytes 1 (cbReturn b)
    ++ leBytes 1 (rank % 16 + 128 * b2n a.held) ++ leBytes 4 (cbResult b + a.num * cbResultStride b) ++ leBytes 2 e
    ++ leBytes 2 (cbActBytes b)

/-- The state with the running item of the unit changed. -/
def modRtu (s : State) (lt : Nat) (f : RtuItem → RtuItem) : State :=
  s.modTile lt (fun t => { t with rtu := t.rtu.map (fun i => if i.running then f i else i) })

/-- A drop: assignment, report, drop list and RTU_DROPS (R220, R222). -/
def dropAsg (s : State) (lt : Nat) (b : Block) (a : Asg) (e cause : Nat) : Try Unit :=
  andThen (putAssign s lt b a.num e 2 stOk a.gate) (fun s1 _ =>
    andThen (tryNat s1 lt (cbReport b + 4) 4) (fun s2 n =>
      andThen (tryWrite s2 lt (cbReport b + 4) (leBytes 4 (n + 1))) (fun s3 _ =>
        let s4 := s3.setTreg lt regRtuDrops (BitVec.ofNat 32 (satInc 32 (s3.treg lt regRtuDrops).toNat))
        if n < cbDropMax b then
          tryWrite s4 lt (cbReport b + 0x40 + 16 * n)
            (leBytes 8 a.token ++ leBytes 2 e ++ leBytes 1 a.slot ++ leBytes 1 cause ++ leBytes 4 0)
        else addReport s4 lt b 0x1C 1)))

/-- A failed assignment: its state and status, and the report (R222, Table 8.11). -/
def failAsg (s : State) (lt : Nat) (b : Block) (num pos : Nat) (st : Status) : Try Unit :=
  andThen (tryWrite s lt (cbAssign b + 8 * num + 2) (leBytes 1 4 ++ leBytes 1 st.toNat)) (fun s1 _ =>
    andThen (tryNat s1 lt (cbReport b + 0x10) 4) (fun s2 n =>
      andThen (tryWrite s2 lt (cbReport b + 0x10) (leBytes 4 (n + 1))) (fun s3 _ =>
        andThen (tryNat s3 lt (cbReport b + 0x18) 4) (fun s4 first =>
          if n = 0 ∨ pos < first then
            tryWrite s4 lt (cbReport b + 0x14) (leBytes 1 st.toNat ++ leBytes 3 0 ++ leBytes 4 pos)
          else (s4, .ok ())))))

/-- An assignment is sent to an expert (R220, R221). The answer says whether its write is in flight. -/
def sendAsg (s : State) (lt : Nat) (b : Block) (pos : Nat) (a : Asg) (e rank : Nat) (owner bolt : Nat) : Try Unit :=
  andThen (tryNat s lt (cbCount b + 2 * e) 2) (fun s1 c =>
    andThen (tryWrite s1 lt (cbCount b + 2 * e) (leBytes 2 (c + 1))) (fun s2 _ =>
      andThen (putAssign s2 lt b a.num e 0 stOk a.gate) (fun s3 _ =>
        andThen (addReport s3 lt b 0 1) (fun s4 _ =>
          if !namesThis s4 owner && s4.moduleId.isNone then failAsg s4 lt b a.num pos stLinkLost
          else if namesThis s4 owner && decide (ltCount s4 ≤ gaSel owner) then failAsg s4 lt b a.num pos stProtFault
          else
            let s5 := if namesThis s4 owner then s4 else fabTake s4 lt
            let s6 := modRtu s5 lt (fun i => { i with flying := i.flying ++ [pos] })
            (sendRequest s6 lt (.rtu pos) owner bolt 2 (32 + cbActBytes b) 0 false
              (landingHeader s6 lt b a e rank ++ leBytes 4 a.act), .ok ())))))

/-- A held assignment is appended to the hold list, or dropped where the list is full (Table 8.10). -/
def holdAsg (s : State) (lt : Nat) (b : Block) (a : Asg) (e : Nat) : Try Unit :=
  andThen (tryNat s lt (cbHold b) 4) (fun s1 n =>
    if n < cbHoldMax b then
      andThen (tryWrite s1 lt (cbHold b + 16 + 32 * n) (holdEntry a e)) (fun s2 _ =>
        andThen (tryWrite s2 lt (cbHold b) (leBytes 4 (n + 1))) (fun s3 _ =>
          andThen (addReport s3 lt b 0xC 1) (fun s4 _ => putAssign s4 lt b a.num e 3 stOk a.gate)))
    else dropAsg s1 lt b a e 1)

/-- The overflow of an assignment whose expert is full (Table 8.10). -/
def overflowAsg (s : State) (lt : Nat) (b : Block) (a : Asg) (e : Nat) : Try Unit :=
  if a.held then dropAsg s lt b a e 0
  else if cbPolicy b = 2 then holdAsg s lt b a e
  else dropAsg s lt b a e (if cbPolicy b = 1 then 2 else 0)

/-- One position of a dispatch (R220): sent, spilled, held, dropped, or NONE. The answer says whether the position was taken:
it waits where a write across the fabric finds no transaction slot. -/
def position (s : State) (lt : Nat) (i : RtuItem) : Try Bool :=
  let b := i.cb
  let took := fun r : Try Unit => andThen r (fun s1 _ => (s1, Except.ok true))
  andThen (asgOf s lt i) (fun s1 a =>
    match a.expert with
    | none => took (putAssign s1.drawn lt b a.num (s1.freeBelow 65536) 5 stOk (s1.freeBelow (2 ^ 32)))
    | some e =>
      andThen (firstRoom s1 lt b (e :: a.spill) 0) (fun s2 got =>
        match got with
        | none => took (overflowAsg s2 lt b a e)
        | some (x, k) =>
          andThen (tryRead s2 lt (cbTable b + 16 * x) 16) (fun s3 row =>
            let owner := fieldAt row 0 8
            if !namesThis s3 owner && s3.moduleId.isSome && !fabMayTake s3 lt then (s3, .ok false)
            else
              let rank := if k = 0 then a.slot else cbK b + k - 1
              let r := took (sendAsg s3 lt b i.pos a x rank owner (fieldAt row 8 1))
              if k = 0 then r else andThen r (fun s4 _ => took (addReport s4 lt b 8 1)))))

/-! ### Items -/

/-- The item that runs. -/
def rtuRunning (s : State) (lt : Nat) : Option RtuItem := (s.tile lt).rtu.find? (fun i => i.running)

/-- The progress of an item (R222, R224). -/
def RtuItem.progress (i : RtuItem) : Nat := i.flying.foldl min i.pos

/-- An item completes (R223 to R225). -/
def endRtu (s : State) (lt : Nat) (i : RtuItem) (st : Status) : State :=
  let s1 := s.modTile lt (fun t => { t with rtu := t.rtu.filter (fun j => j.slot != i.slot) })
  let s2 := if i.int || s1.tbit lt regRtuCtrl 0 then s1.setTbit lt regRtuInt 0 true else s1
  let s3 := if st = stOk then s2 else s2.setTbit lt regRtuInt 1 true
  completeItem s3 lt 2 i.slot i.wop st (if i.running then i.progress else 0)

/-- The running item is to stop with a status: it starts nothing further, and completes once no write is in flight (R225). -/
def stopRtu (s : State) (lt : Nat) (st : Status) : State :=
  match rtuRunning s lt with
  | none => s
  | some i =>
    if i.stop.isSome then s
    else if i.flying.isEmpty then endRtu s lt i st
    else modRtu s lt (fun j => { j with stop := some st })

/-- Pre-emption or abort: the running item stops, every queued item completes (R225). -/
def rtuStopAll (s : State) (lt : Nat) (st : Status) : State :=
  ((s.tile lt).rtu.filter (fun i => !i.running)).foldl (fun x i => endRtu x lt i st) (stopRtu s lt st)

/-- Work of the running item has ended, well or with a status. -/
def rtuResult (lt : Nat) (r : Try State) : State :=
  match r with
  | (s, .error st) => stopRtu s lt st
  | (_, .ok s) => s

/-- A dispatch with RESUME clear begins: counters zeroed, report cleared, the hold list moved to the held-in area (R220). A
COUNT above HOLD_MAX is taken as HOLD_MAX (DESIGN CHOICE, log entry 54). -/
def freshDispatch (s : State) (lt : Nat) (b : Block) : Try Nat :=
  andThen (tryWrite s lt (cbCount b) (List.replicate (2 * cbE b) 0)) (fun s1 _ =>
    andThen (tryNat s1 lt (cbHold b) 4) (fun s2 n0 =>
      let n := min n0 (cbHoldMax b)
      andThen (tryRead s2 lt (cbHold b + 16) (32 * n)) (fun s3 bs =>
        andThen (tryWrite s3 lt (cbHold b) (leBytes 4 0)) (fun s4 _ =>
          let s5 := s4.modTile lt (fun t => { t with rtuHeldIn := (List.range n).map (fun h => slice bs (32 * h) 32) })
          andThen (tryWrite s5 lt (cbReport b) (List.replicate 0x20 0 ++ leBytes 4 n ++ List.replicate 0x1C 0)) (fun s6 _ =>
            (s6, .ok n))))))

/-- The first item of the queue reads its control block, passes the checks and runs (R218, R220, R224). -/
def beginRtu (s : State) (lt : Nat) (i : RtuItem) : State :=
  if i.addr.toNat % 64 ≠ 0 ∨ !visible i.addr.toNat 128 = true then endRtu s lt i stProtFault
  else
    match tryRead s lt i.addr.toNat 128 with
    | (s1, .error st) => endRtu s1 lt i st
    | (s1, .ok b) =>
      if !cbValid s1 lt b then endRtu s1 lt i stProtFault
      else
        let start := fun (s : State) (n pos : Nat) => s.modTile lt (fun t => { t with
          rtu := t.rtu.map (fun j => if j.slot == i.slot then { j with cb := b, running := true, pos := pos, heldIn := n } else j) })
        if i.wop = 1 then start s1 0 (if cbResume b then cbStart b else 0)
        else if cbResume b then start s1 (s1.tile lt).rtuHeldIn.length (cbStart b)
        else
          match freshDispatch s1 lt b with
          | (s2, .error st) => endRtu s2 lt i st
          | (s2, .ok n) => start s2 n 0

/-- RTU_ITEM_START (R218): items run one at a time, in queue order. -/
def execRtuItemStart (lt : Nat) (s : State) : Out :=
  onTile lt s (fun s =>
    match (s.tile lt).rtu with
    | i :: _ => if i.running || (s.tile lt).preSaving || unitsStop s lt then s else beginRtu s lt i
    | [] => s)

/-- The positions of a dispatch. -/
def RtuItem.total (i : RtuItem) : Nat := i.heldIn + cbT i.cb * cbK i.cb

/-- RTU_POSITION (R220): the next position of the running dispatch; at most 64 writes are in flight. -/
def execRtuPosition (lt : Nat) (s : State) : Out :=
  onTile lt s (fun s =>
    match rtuRunning s lt with
    | none => s
    | some i =>
      if i.wop ≠ 0 ∨ i.stop.isSome = true ∨ i.total ≤ i.pos ∨ 64 ≤ i.flying.length then s
      else
        rtuResult lt (andThen (position s lt i) (fun s1 took =>
          (s1, .ok (if took then modRtu s1 lt (fun j => { j with pos := j.pos + 1 }) else s1)))))

/-- RTU_DISPATCH_DONE (R223). The counts and FIRST_STATUS are those of the report in memory, which RESUME keeps (R220). -/
def execRtuDispatchDone (lt : Nat) (s : State) : Out :=
  onTile lt s (fun s =>
    match rtuRunning s lt with
    | none => s
    | some i =>
      if i.wop ≠ 0 ∨ i.stop.isSome = true ∨ i.pos < i.total ∨ !i.flying.isEmpty = true then s
      else
        rtuResult lt (andThen (tryRead s lt (cbReport i.cb) 0x18) (fun s1 r =>
          let p : State × Status := if fieldAt r 0x10 4 ≠ 0 then listedStatus s1 (BitVec.ofNat 8 (fieldAt r 0x14 1))
            else (s1, if fieldAt r 4 4 ≠ 0 then stCapacityDrop else stOk)
          (s1, .ok (endRtu p.1 lt i p.2)))))

/-- A position's write is no longer in flight; a stopped item completes with its last one (R225). -/
def rtuLanded (s : State) (lt pos : Nat) : State :=
  let s1 := modRtu s lt (fun i => { i with flying := i.flying.erase pos })
  match rtuRunning s1 lt with
  | some i =>
    (match i.stop with
     | some st => if i.flying.isEmpty then endRtu s1 lt i st else s1
     | none => s1)
  | none => s1

/-- The number of the assignment at a position (R221). -/
def RtuItem.asgNum (i : RtuItem) (pos : Nat) : Nat :=
  if pos < i.heldIn then cbT i.cb * cbK i.cb + pos
  else (pos - i.heldIn) % cbT i.cb * cbK i.cb + (pos - i.heldIn) / cbT i.cb

/-- The answer to an assignment's write (R222). -/
def ackRtu (s : State) (lt pos : Nat) (foreign : Bool) (st : Status) : State :=
  let s0 := if foreign then fabGive s lt else s
  match rtuRunning s0 lt with
  | none => s0
  | some i =>
    if st = stOk then rtuLanded s0 lt pos
    else
      match failAsg s0 lt i.cb (i.asgNum pos) pos st with
      | (s1, .ok _) => rtuLanded s1 lt pos
      | (s1, .error e) => stopRtu (rtuLanded s1 lt pos) lt e

/-- A GRANT reaches an assignment's write: header and activation are sent, or the write is ended with an abort mark (R221). -/
def grantRtu (s : State) (lt pos : Nat) (r : SendReq) (m : CreditMsg) : State :=
  let wr := fun (data : List Byte) (ab : Bool) => NetMsg.write r.dst.toNat
    { sender := BitVec.ofNat 64 (tileGa s lt), reqTag := r.msg.reqTag, creditTag := m.creditTag, target := m.target,
      offset := m.offset, data := data, abort := ab, notify := false }
  match tryRead s lt (fieldAt r.data 32 4) (fieldAt r.data 30 2) with
  | (s1, .ok act) => netSend (markSent s1 lt r) (wr (r.data.take 32 ++ act) false)
  | (s1, .error st) =>
    ackRtu (netSend (dropReq s1 lt r.msg.reqTag) (wr [] true)) lt pos (r.dst.toNat / 2 ^ 48 != hereId s) st

/-! ### Combine -/

/-- The state and gate of an assignment. -/
def readAssign (s : State) (lt : Nat) (b : Block) (num : Nat) : Try (Nat × Nat) :=
  andThen (tryRead s lt (cbAssign b + 8 * num) 8) (fun s1 x => (s1, .ok (fieldAt x 2 1, fieldAt x 4 4)))

/-- The result of an assignment as exact values. A block scale, which the landing area does not hold, is a free value (log
entry 2). An entry whose format this site does not accept ends the item with PROT_FAULT (07, R170, R179; which status is DESIGN CHOICE, log
entry 54). The entry is read anew for each result, and that of the output for each row (DESIGN CHOICE, log entry 54: R183 does not speak of
`rtu.combine`). -/
def readResult (s : State) (lt : Nat) (b : Block) (num : Nat) : Try (List FVal) :=
  let p := palCfg s lt (cbResPal b)
  let w := elemBits p.format
  if !siteFormat p.format then (s, .error stProtFault)
  else
    andThen (tryRead s lt (cbResult b + num * cbResultStride b) (resBytesOf s lt b)) (fun s1 bs =>
      (if isMx p.format then s1.drawn else s1,
       .ok (if p.format = 14 then (joinPlanes (cbH b) bs (bs.drop (4 * cbH b))).map (fun x => decodeThrough p x 127)
         else (List.range (cbH b)).map (fun h => decodeThrough p (unpackElem w bs h) (s1.freeBelow 256)))))

/-- A fused multiply-add of a gate and results into a running FP32 sum (R224). -/
def fmaRow (g : Nat) (xs : List FVal) (acc : List Nat) : List Nat :=
  List.zipWith (fun x a => toFp32 (((fp32.decode g).mul x).add false (fp32.decode a))) xs acc

/-- The states and gates of assignments. -/
def readAssigns (lt : Nat) (b : Block) : List Nat → State → Try (List (Nat × Nat × Nat))
  | [], s => (s, .ok [])
  | num :: r, s =>
    andThen (readAssign s lt b num) (fun s1 x => andThen (readAssigns lt b r s1) (fun s2 xs => (s2, .ok ((num, x.1, x.2) :: xs))))

/-- The sum over assignments that have ARRIVED, in order (R224). -/
def sumArrived (lt : Nat) (b : Block) : List (Nat × Nat × Nat) → State → List Nat → Try (List Nat)
  | [], s, acc => (s, .ok acc)
  | x :: r, s, acc =>
    if x.2.1 = 1 then andThen (readResult s lt b x.1) (fun s2 xs => sumArrived lt b r s2 (fmaRow x.2.2 xs acc))
    else sumArrived lt b r s acc

/-- The sum over the ARRIVED slots of a token, none while one is SENT; no result is read before that is known (R224). -/
def sumSlots (lt : Nat) (b : Block) (nums : List Nat) (s : State) (acc : List Nat) : Try (Option (List Nat)) :=
  andThen (readAssigns lt b nums s) (fun s1 xs =>
    if xs.any (fun x => x.2.1 == 0) then (s1, .ok none)
    else andThen (sumArrived lt b xs s1 acc) (fun s2 sums => (s2, .ok (some sums))))

/-- A row of values is converted through OUT_PAL and written: an MX row in whole blocks (07, R176), FP32+C in its two planes (07, R185). -/
def storeOut (s : State) (lt : Nat) (b : Block) (token out tail : Nat) (vs : List FVal) : Try Unit :=
  let p := palCfg s lt (cbOutPal b)
  let rnd := fun h => tileRandom s lt (cbTid b) (token * cbH b + h)
  let x := if isMx p.format then
      let y := convBlocks p rnd (cbH b / 32 + 1) 0 vs Tally.none
      (y.1, y.2.2)
    else convRun p rnd 0 vs Tally.none
  let s1 := applyTally s lt p.n x.2
  if p.format = 14 then andThen (tryWrite s1 lt out (valuePlane x.1)) (fun s2 _ => tryWrite s2 lt tail (tailPlane x.1))
  else tryWrite s1 lt out (packElems (elemBits p.format) (fillBlocks p.format x.1))

/-- A row of the output as exact values; block scales are free values, as for results. -/
def readOut (s : State) (lt : Nat) (b : Block) (out tail : Nat) : Try (List FVal) :=
  let p := palCfg s lt (cbOutPal b)
  let w := elemBits p.format
  if p.format = 14 then
    andThen (tryRead s lt out (4 * cbH b)) (fun s1 vb =>
      andThen (tryRead s1 lt tail (2 * cbH b)) (fun s2 tb => (s2, .ok ((joinPlanes (cbH b) vb tb).map (fun x => decodeThrough p x 127)))))
  else
    andThen (tryRead s lt out (runBytes w (cbH b))) (fun s1 db =>
      (if isMx p.format then s1.drawn else s1,
       .ok ((List.range (cbH b)).map (fun h => decodeThrough p (unpackElem w db h) (s1.freeBelow 256)))))

/-- A row of sums is written under CMODE (R224, Table 6.5): converted, added, or added into FP32+C pairs. A held-in entry's row is added to, also
under STORE. -/
def writeOut (s : State) (lt : Nat) (b : Block) (held : Bool) (token out tail : Nat) (sums : List Nat) : Try Unit :=
  let add := cbCmode b == 1 || held
  if cbCmode b = 2 then
    andThen (tryRead s lt out (4 * cbH b)) (fun s1 vb =>
      andThen (tryRead s1 lt tail (2 * cbH b)) (fun s2 tb =>
        let ps := sums.zipIdx.map (fun x => fp32cAdd (fieldAt vb (4 * x.2) 4) (fieldAt tb (2 * x.2) 2) x.1)
        andThen (tryWrite s2 lt out (packElems 32 (ps.map Prod.fst))) (fun s3 _ => tryWrite s3 lt tail (packElems 16 (ps.map Prod.snd)))))
  else if !siteFormat (palCfg s lt (cbOutPal b)).format then (s, .error stProtFault)
  else if add then
    andThen (readOut s lt b out tail) (fun s1 ds =>
      storeOut s1 lt b token out tail ((ds.zip sums).map (fun x => fp32.decode (fAdd (toFp32 x.1) x.2))))
  else storeOut s lt b token out tail (sums.map fp32.decode)

/-- The next token or held-in entry of a combine; none where it waits for a result (R224). -/
def combineNext (s : State) (lt : Nat) (i : RtuItem) : Try (Option Unit) :=
  let b := i.cb
  let zero := List.replicate (cbH b) 0
  let finish := fun (held : Bool) (token out tail : Nat) (s1 : State) (r : Option (List Nat)) =>
    match r with
    | none => (s1, Except.ok none)
    | some sums => andThen (writeOut s1 lt b held token out tail sums) (fun s2 _ => (s2, Except.ok (some ())))
  if i.pos < cbT b then
    andThen (sumSlots lt b ((List.range (cbK b)).map (fun j => i.pos * cbK b + j)) s zero)
      (finish false (cbTokenBase b + i.pos) (cbOut b + i.pos * cbOutStride b) (cbTail b + i.pos * cbTailStride b))
  else
    let n := i.pos - cbT b
    let h := (s.tile lt).rtuHeldIn.getD n []
    andThen (readAssign s lt b (cbT b * cbK b + n)) (fun s1 x =>
      if x.1 = 0 then (s1, .ok none)
      else if x.1 = 1 then
        andThen (sumSlots lt b [cbT b * cbK b + n] s1 zero) (finish true (fieldAt h 0 8) (fieldAt h 16 4) (fieldAt h 20 4))
      else (s1, .ok (some ())))

/-- Tokens and held-in entries of a combine. -/
def combineTotal (s : State) (lt : Nat) (i : RtuItem) : Nat := cbT i.cb + (s.tile lt).rtuHeldIn.length

/-- RTU_COMBINE_TOKEN (R224): the next token or held-in entry of the running combine. -/
def execRtuCombineToken (lt : Nat) (s : State) : Out :=
  onTile lt s (fun s =>
    match rtuRunning s lt with
    | none => s
    | some i =>
      if i.wop ≠ 1 ∨ unitsStop s lt = true then s
      else if combineTotal s lt i ≤ i.pos then endRtu s lt i stOk
      else
        rtuResult lt (andThen (combineNext s lt i) (fun s1 r =>
          match r with
          | none => (s1, .ok s1)
          | some _ =>
            andThen (addReport s1 lt i.cb 0x28 (if i.pos < cbT i.cb then 1 else 0)) (fun s2 _ =>
              let j := { i with pos := i.pos + 1 }
              let s3 := modRtu s2 lt (fun _ => j)
              (s3, .ok (if combineTotal s3 lt j ≤ j.pos then endRtu s3 lt j stOk else s3))))))

/-- RTU_NOTICE_POP (R224): a notice is popped from the return Bolt. -/
def execRtuNoticePop (lt : Nat) (s : State) : Out :=
  onTile lt s (fun s =>
    match rtuRunning s lt with
    | none => s
    | some i =>
      let b := i.cb
      let bolt := cbReturn b
      let k := ceilDiv 32 (cfgSlot (boltCfg s lt bolt))
      if i.wop ≠ 1 ∨ !boltOpen s lt bolt = true ∨ boltReady s lt bolt < k ∨ unitsStop s lt = true then s
      else
        rtuResult lt (andThen (readOffs s lt ((boltParts s lt bolt (boltHead s lt bolt) (List.replicate 32 0)).map
            (fun p => (p.1, p.2.length)))) (fun s1 n =>
          let s2 := boltRelease s1 lt bolt k
          let a := fieldAt n 0x14 2
          let stray := andThen (addReport s2 lt b 0x24 1) (fun s3 _ => (s3, Except.ok s3))
          if fieldAt n 0x10 4 ≠ cbMicro b ∨ cbAssigns b ≤ a then stray
          else
            andThen (readAssign s2 lt b a) (fun s3 x =>
              if x.1 ≠ 0 then stray
              else andThen (tryWrite s3 lt (cbAssign b + 8 * a + 2) (leBytes 1 1)) (fun s4 _ => (s4, .ok s4))))))

/-- RTU_COMBINE_TIMEOUT (R224): a combine that waits too long. -/
def execRtuCombineTimeout (lt : Nat) (s : State) : Out :=
  onTile lt s (fun s =>
    match rtuRunning s lt with
    | none => s
    | some i =>
      if i.wop ≠ 1 ∨ combineTotal s lt i ≤ i.pos then s
      else
        match combineNext s lt i with
        | (_, .ok none) => endRtu s lt i stTimeout
        | _ => s)

/-- RTU_ABORT (R225). -/
def execRtuAbort (lt : Nat) (lv : Level) (s : State) : Out := regCommand lt lv (fun s => rtuStopAll s lt stAborted) s

/-- A write of RTU_CTRL (R226). -/
def writeRtuCtrl (s : State) (lt : Nat) (v : Word) : State :=
  let s1 := s.setTbit lt regRtuCtrl 0 (bit v 0)
  if bit v 1 then rtuStopAll s1 lt stAborted else s1

/-- The region's halt: writes in flight are marked FAILED, every item completes with REGION_OFF (R225). -/
def rtuHalt (s : State) (lt : Nat) : State :=
  let mine := (s.tile lt).reqs.filter (fun p => match p.2.owner with | .rtu _ => p.2.phase != .givenUp | _ => false)
  let s1 := mine.foldl (fun x p =>
    let pos := match p.2.owner with | .rtu n => n | _ => 0
    let x1 := match rtuRunning x lt with
      | some i => (failAsg x lt i.cb (i.asgNum pos) pos stRegionOff).1
      | none => x
    if p.2.phase == .sent then
      dropReq (abortWrite (if p.2.dst.toNat / 2 ^ 48 != hereId x1 then fabGive x1 lt else x1) lt p.2.msg.reqTag) lt p.2.msg.reqTag
    else giveUp x1 lt p.2) s
  ((s1.tile lt).rtu).foldl (fun x i => endRtu x lt { i with flying := [] } stRegionOff) s1

/-! ### The instructions -/

/-- `rtu.dispatch` and `rtu.combine` (R218). -/
def rtuInsn (wop lt : Nat) (c : CoreId) (rd rs1 rs2 rs3 : BitVec 5) (pl : BitVec 32) (s : State) : Out :=
  let word := wordWide wop 2 rd rs1 rs2 rs3
  insn lt c 8 word tccNoAm (fun s =>
    if pl &&& ~~~1 ≠ 0 ∨ rs2 ≠ 0 ∨ rs3 ≠ 0 then illegalInsn s word
    else
      match takeSlot s lt 2 with
      | none => .wait s (.queueFull 2)
      | some (s1, n, h) =>
        let i : RtuItem := { slot := n, wop := wop, addr := gRead s lt c rs1, int := bit pl 0, running := false, cb := [],
                             pos := 0, heldIn := 0, flying := [], stop := none }
        .done (gWrite (s1.modTile lt (fun t => { t with rtu := t.rtu ++ [i] })) lt c rd (BitVec.ofNat 64 h))) s

/-- `rtu.dispatch` (R218). -/
def execRtuDispatch (lt : Nat) (c : CoreId) (rd rs1 rs2 rs3 : BitVec 5) (pl : BitVec 32) (s : State) : Out := rtuInsn 0 lt c rd rs1 rs2 rs3 pl s

/-- `rtu.combine` (R224). -/
def execRtuCombine (lt : Nat) (c : CoreId) (rd rs1 rs2 rs3 : BitVec 5) (pl : BitVec 32) (s : State) : Out := rtuInsn 1 lt c rd rs1 rs2 rs3 pl s

end Sys2Proof.Machine
end

