-- ==== Sys2Proof/Machine/CreditSend.lean ====
section
/-!
DEFINITION. Credit answers at the sender: GRANT, REFUSE, ACK and loss notices (03, R77, R78, R80; 10, R268; 11, R282; 12, R314).
-/
namespace Sys2Proof.Machine

open Sys2Proof

/-- A GRANT reaches the tile that asked: its owner sends the write; a request given up, or one whose write was sent already, returns
it (R77, R80, R384). -/
def onGrant (s : State) (lt : Nat) (m : CreditMsg) : State :=
  match reqOf s lt m.reqTag with
  | none => returnGrant s lt m
  | some r =>
    if r.phase = .givenUp then returnGrant (dropReq s lt m.reqTag) lt m
    else if r.phase = .sent then returnGrant s lt m
    else
      match r.owner with
      | .xact slot =>
        match xactOf s lt slot with
        | some x => grantXact s lt slot x r m
        | none => returnGrant (dropReq s lt m.reqTag) lt m
      | .dma slot off =>
        match dmaOf s lt slot with
        | some i => grantDma s lt i off r m
        | none => returnGrant (dropReq s lt m.reqTag) lt m
      | .rtu pos => grantRtu s lt pos r m
      | .stream id _ => grantStream s lt id r m
      | .sketch _ => returnGrant (dropReq s lt m.reqTag) lt m

/-- A request ends with a status: refused, or its write acknowledged or lost (R77, R78). -/
def endReq (s : State) (lt : Nat) (tag : BitVec 16) (st : Status) : State :=
  match reqOf s lt tag with
  | none => s
  | some r =>
    let s1 := dropReq s lt tag
    if r.phase = .givenUp then s1
    else
      match r.owner with
      | .xact slot =>
        match xactOf s1 lt slot with
        | some x => endXact s1 lt slot x st
        | none => s1
      | .dma slot off =>
        match dmaOf s1 lt slot with
        | some i => ackDma s1 lt i off st
        | none => s1
      | .rtu pos => ackRtu s1 lt pos (reqForeign s r) st
      | .stream id _ => ackStream s1 id st
      | .sketch _ => s1

/-- CREDIT_GRANT (R77). -/
def execCreditGrant (lt : Nat) (m : CreditMsg) (s : State) : Out :=
  onTile lt s (fun s => onCredit s lt tyGrant m (fun s1 => onGrant s1 lt m))

/-- CREDIT_REFUSE (R78). -/
def execCreditRefuse (lt : Nat) (m : CreditMsg) (s : State) : Out :=
  onTile lt s (fun s => onCredit s lt tyRefuse m (fun s1 => endReq s1 lt m.reqTag m.status))

/-- CREDIT_ACK (R77). -/
def execCreditAck (lt : Nat) (m : CreditMsg) (s : State) : Out :=
  onTile lt s (fun s => onCredit s lt tyAck m (fun s1 => endReq s1 lt m.reqTag m.status))

end Sys2Proof.Machine
end

