-- ==== Sys2Proof/Machine/MeDesc.lean ====
section
/-!
DEFINITION. Tensor descriptors and the item checks of the Matrix Engine (06, R141 to R143, R155, Tables 6.3, 6.4, 6.6; 08,
R200, R203, R207 to R212).
-/
namespace Sys2Proof.Machine

open Sys2Proof

/-! ### Descriptors -/

/-- A tensor descriptor's fields (Table 6.3), with its bytes. -/
structure TDesc where
  base : Nat
  rows : Nat
  cols : Nat
  stride : Nat
  pal : Nat
  layout : Nat
  scaleBase : Nat
  scaleStride : Nat
  tid : Nat
  elemBase : Nat
  elemRow : Nat
  metaBase : Nat
  metaStride : Nat
  raw : List Byte
deriving DecidableEq, Repr

/-- The fields of 64 descriptor bytes. -/
def tdesc (bs : List Byte) : TDesc :=
  { base := fieldAt bs 0 4 % 2 ^ 28, rows := fieldAt bs 4 2, cols := fieldAt bs 6 2, stride := fieldAt bs 8 4 % 2 ^ 24,
    pal := fieldAt bs 0xC 1, layout := fieldAt bs 0xD 1 % 16, scaleBase := fieldAt bs 0x10 4 % 2 ^ 28,
    scaleStride := fieldAt bs 0x14 4 % 2 ^ 24, tid := fieldAt bs 0x18 4, elemBase := fieldAt bs 0x20 8,
    elemRow := fieldAt bs 0x28 8, metaBase := fieldAt bs 0x30 4, metaStride := fieldAt bs 0x34 4, raw := bs }

/-- The logical element index of element (r, c) (R143). -/
def TDesc.index (d : TDesc) (r c : Nat) : Nat := (d.elemBase + r * d.elemRow + c) % 2 ^ 64

/-- Group size M of a SPARSE pattern (08, R203). -/
def TDesc.groupM (d : TDesc) : Nat := if nbit d.metaStride 19 then 8 else 4

/-- Non-zero values N of a SPARSE pattern. -/
def TDesc.groupN (d : TDesc) : Nat := nfld d.metaStride 18 16

/-- Metadata row stride of a SPARSE operand. -/
def TDesc.metaRow (d : TDesc) : Nat := d.metaStride % 2 ^ 16

/-- The bits of COUNT and of an index. -/
def TDesc.idxBits (d : TDesc) : Nat := if d.groupM = 4 then 2 else 3

/-- The bits of a metadata entry. -/
def TDesc.metaBits (d : TDesc) : Nat := d.idxBits + d.groupN * d.idxBits

/-- The groups of a SPARSE operand. -/
def TDesc.groups (d : TDesc) : Nat := ceilDiv d.rows d.groupM

/-- Whether a SPARSE pattern is supported (08, R199). -/
def TDesc.patternOk (d : TDesc) : Bool :=
  decide (1 ≤ d.groupN) && decide (d.groupN ≤ (if d.groupM = 4 then 2 else 4)) && d.metaStride / 2 ^ 20 == 0

/-- The roles of an operand. -/
inductive Role where
  | a | b | d
deriving DecidableEq, Repr

/-! ### Tables 6.1 and 6.4 -/

/-- The row of Table 6.1 in which a format code stands, by WOP; 6 where none. -/
def insnRow (fmt : Nat) : Nat :=
  match fmt with
  | 1 => 0 | 2 => 1 | 3 => 2 | 4 => 2 | 5 => 3 | 6 => 3 | 7 => 3 | 8 => 3 | 9 => 3 | 10 => 3 | 11 => 4 | 12 => 5 | _ => 6

/-- Whether a layout admits a format (Table 6.4; 08, R203, R212). -/
def layoutFormat (role : Role) (layout fmt : Nat) : Bool :=
  match layout with
  | 0 => fmt ≤ 4 || fmt == 11 || fmt == 12
  | 1 => (1 ≤ fmt && fmt ≤ 4) || fmt == 11
  | 2 => isMx fmt
  | 3 => isMx fmt
  | 4 => fmt == 14
  | 6 => if role = .b then 1 ≤ fmt && fmt ≤ 12 else (1 ≤ fmt && fmt ≤ 4) || fmt == 11 || fmt == 12
  | 7 => fmt ≤ 12
  | _ => false

abbrev wopSp : Nat := 0x10
abbrev wopPr : Nat := 0x11
abbrev wopPrune : Nat := 0x12
abbrev wopPred : Nat := 0x13
abbrev wopSel : Nat := 0x14
abbrev wopWload : Nat := 0x08
abbrev wopFence : Nat := 0x09

/-- Whether a WOP is an item that runs rows through the array. -/
def isMma (wop : Nat) : Bool := wop ≤ 5 || wop == wopSp || wop == wopPr || wop == wopPred

/-- Fields of the payload (Table 6.2). -/
def meAcc (p : Nat) : Nat := p % 4
def meWbuf (p : Nat) : Nat := nfld p 2 2
def meAccum (p : Nat) : Bool := nbit p 3
def meWb (p : Nat) : Nat := nfld p 6 4
def meMec (p : Nat) : Bool := nbit p 7
def meNowait (p : Nat) : Bool := nbit p 8
def meAbs (p : Nat) : Bool := nbit p 9

/-- The layouts that an operand of an instruction may have (Table 6.4; 08, R208, R209, R212). -/
def roleLayout (wop wb : Nat) (role : Role) (layout : Nat) : Bool :=
  match role with
  | .a =>
    if wop = wopPr then layout == 7 else if wop = wopPrune then layout == 0 else layout ≤ 2
  | .b => layout == 0 || layout == 1 || layout == 3 || layout == 6
  | .d =>
    if wop = wopPrune ∨ wb = 4 then layout == 6
    else if wop = wopPred then layout == 0
    else if wb = 3 then layout == 4
    else layout == 0 || layout == 2

/-! ### Table 6.6 -/

/-- Bytes of an element for alignment (R142). -/
def alignOf (fmt : Nat) : Nat := if elemBits fmt < 8 then 1 else elemBits fmt / 8

/-- Bytes of a row of `n` elements. -/
def spanOf (n fmt : Nat) : Nat := (n * elemBits fmt + 7) / 8

/-- Check 2 of one descriptor: reserved fields and codes. -/
def badFields (d : TDesc) : Bool :=
  let r := d.raw
  fieldAt r 0 4 / 2 ^ 28 != 0 || fieldAt r 8 4 / 2 ^ 24 != 0 || fieldAt r 0xD 1 / 16 != 0 || fieldAt r 0xE 2 != 0 ||
    fieldAt r 0x10 4 / 2 ^ 28 != 0 || fieldAt r 0x14 4 / 2 ^ 24 != 0 || fieldAt r 0x1C 4 != 0 || fieldAt r 0x38 8 != 0 ||
    d.layout == 5 || decide (8 ≤ d.layout) ||
    (!(d.layout == 2 || d.layout == 3 || d.layout == 4 || d.layout == 6 || d.layout == 7) &&
      (d.scaleBase != 0 || d.scaleStride != 0)) ||
    (!(d.layout == 6 || d.layout == 7) && (d.metaBase != 0 || d.metaStride != 0)) ||
    (d.layout == 6 && !d.patternOk) || (d.layout == 7 && d.metaStride / 2 ^ 25 != 0)

/-- Check 3 of one descriptor: its format, by role and against the buffer's. -/
def formatOk (wop wb : Nat) (role : Role) (fmt : Nat) (buf : Option MeBuf) : Bool :=
  match role with
  | .b => 1 ≤ fmt && fmt ≤ 12
  | .a =>
    if wop = wopPrune then fmt ≤ 4 || fmt == 11 || fmt == 12
    else
      (if wop ≤ 5 then insnRow fmt == wop else insnRow fmt ≤ 5) &&
        (match buf with | some b => insnRow b.format == insnRow fmt | none => true)
  | .d => if wop = wopPred then fmt == 0 else if wb = 3 then fmt == 14 else fmt ≤ 12

/-- Check 4 of one descriptor: layout, format and alignment. -/
def layoutOk (wop wb : Nat) (role : Role) (d : TDesc) (fmt : Nat) : Bool :=
  roleLayout wop wb role d.layout && layoutFormat role d.layout fmt &&
    (if d.layout = 4 then d.base % 4 == 0 && d.stride % 4 == 0 && d.scaleBase % 2 == 0 && d.scaleStride % 2 == 0
     else d.base % alignOf fmt == 0 && d.stride % alignOf fmt == 0)

/-- Check 5 of one descriptor: shapes. -/
def shapeOk (wop : Nat) (role : Role) (d : TDesc) (fmt : Nat) (a : Option TDesc) (buf : Option MeBuf) : Bool :=
  decide (1 ≤ d.rows) && decide (d.rows ≤ 4096) && decide (1 ≤ d.cols) && decide (d.cols ≤ 128) &&
    (match role with
     | .b => decide (d.rows ≤ 128) && (!isMx fmt || d.rows % 32 == 0)
     | .a => (match buf with | some b => d.cols == b.k | none => true)
     | .d =>
       (match a with | some x => d.rows == x.rows | none => true) &&
         (if wop = wopPred then d.cols == 1
          else if wop = wopPrune then (match a with | some x => d.cols == x.cols | none => true)
          else (match buf with | some b => d.cols == b.n | none => true)) &&
         (d.layout != 2 || d.cols % 32 == 0))

/-- The ranges of an operand: start and length (check 8). `neurons` bounds the rows that a GATHER names. -/
def extents (d : TDesc) (fmt neurons : Nat) : List (Nat × Nat) :=
  match d.layout with
  | 1 => [(d.base, (d.cols - 1) * d.stride + spanOf d.rows fmt)]
  | 2 => [(d.base, (d.rows - 1) * d.stride + spanOf d.cols fmt),
          (d.scaleBase, (d.rows - 1) * d.scaleStride + ceilDiv d.cols 32)]
  | 3 => [(d.base, (d.rows - 1) * d.stride + spanOf d.cols fmt),
          (d.scaleBase, (d.rows - 1) / 32 * d.scaleStride + d.cols)]
  | 4 => [(d.base, (d.rows - 1) * d.stride + 4 * d.cols), (d.scaleBase, (d.rows - 1) * d.scaleStride + 2 * d.cols)]
  | 6 => [(d.base, (d.groups * d.groupN - 1) * d.stride + spanOf d.cols fmt),
          (d.metaBase, (d.groups - 1) * d.metaRow + ceilDiv (d.cols * d.metaBits) 8)]
         ++ (if isMx fmt then [(d.scaleBase, (d.rows - 1) / 32 * d.scaleStride + d.cols)] else [])
  | 7 => [(d.base, (neurons - 1) * d.stride + spanOf d.cols fmt)]
         ++ (if isMx fmt then [(d.scaleBase, (neurons - 1) * d.scaleStride + ceilDiv d.cols 32)] else [])
  | _ => [(d.base, (d.rows - 1) * d.stride + spanOf d.cols fmt)]

/-! ### Prediction sets -/

/-- A field of the prediction set at an offset, as memory holds it (Table 8.6). -/
def setField (s : State) (lt set off n : Nat) : Nat := leNat (memBytes (s.tile lt).mem (set + off) n)

/-- The state with a field of a prediction set written by the engine; nothing is written where its bank is off. -/
def setSetField (s : State) (lt set off n v : Nat) : State := (memWrite s lt (set + off) (leBytes n v)).1

/-- Whether the reserved fields of a prediction set are zero and its codes in range (check 2). -/
def setFieldsOk (bs : List Byte) : Bool :=
  let m := fieldAt bs 4 1
  m / 8 == 0 && m / 2 != 3 && fieldAt bs 0x2A 2 == 0 && (bs.drop 0x44).all (fun b => b == 0) &&
    (fieldAt bs 0x16 2 ≤ 16383 || fieldAt bs 0x16 2 == 0xFFFF)

end Sys2Proof.Machine
end

