-- ==== Sys2Proof/Machine/MeMath.lean ====
section
/-!
DEFINITION. The arithmetic of the Matrix Engine: exact sums of products, pruning, row groups (06, R135 to R137; 08, R199,
R201, R204, R206).
-/
namespace Sys2Proof.Machine

open Sys2Proof

/-! ### Sums -/

/-- A term truncated toward zero to a multiple of `2 ^ q`, as a signed number of such units (R136 step 5). -/
def termAt (q : Int) (v : FVal) : Int :=
  match v with
  | .fin n m e => if n then -((roundAt .zero n m e q).1 : Int) else ((roundAt .zero n m e q).1 : Int)
  | _ => 0

/-- Whether a value is −0. -/
def isNegZero (v : FVal) : Bool :=
  match v with
  | .fin n m _ => n && m == 0
  | _ => false

/-- The FP32 result of adding exact terms onto an accumulator value (R136, R137). -/
def dot (c : FVal) (ts : List FVal) : Nat :=
  let all := c :: ts
  let pos := all.contains (.inf false)
  let neg := all.contains (.inf true)
  if all.any FVal.isNan || (pos && neg) then fp32.nan
  else if pos || neg then fp32.inf neg
  else
    match maxLog2 all with
    | none => b2n (all.all isNegZero) * 2 ^ 31
    | some x => toFp32 (ofSig (all.foldl (fun a v => a + termAt (x - 60) v) 0) (x - 60) false)

/-- The products of a row of A and a column of B; positions absent from a SPARSE operand are no terms (08, R201). -/
def rowTerms : List FVal → List (Option FVal) → List FVal
  | a :: as, some b :: bs => a.mul b :: rowTerms as bs
  | _ :: as, none :: bs => rowTerms as bs
  | _, _ => []

/-- Column `j` of a weight buffer. -/
def MeBuf.col (b : MeBuf) (j : Nat) : List (Option FVal) := b.vals.map (fun r => r.getD j none)

/-! ### Row groups -/

/-- The rows of A in one issue slot of a dense operand (Table 6.1). -/
def denseGroup (fa fb : Nat) : Nat :=
  match insnRow fa with
  | 0 => 1 | 1 => 1 | 2 => 2 | 3 => if fa = 9 && fb = 9 then 4 else 2 | 4 => 2 | _ => 4

/-- The rows of A in one issue slot of a SPARSE operand (08, Table 8.2). -/
def sparseGroup (fa fb n m : Nat) : Nat :=
  let col := match insnRow fa with
    | 0 => 0 | 1 => 0 | 2 => 1 | 4 => 1 | 3 => if fa = 9 && fb = 9 then 3 else 2 | _ => 3
  if 2 * n = m then [2, 4, 4, 8].getD col 1
  else if 4 * n = m then [4, 8, 2, 4].getD col 1
  else [1, 2, 2, 4].getD col 1

/-- The rows of A in one issue slot. -/
def rowGroup (fa : Nat) (b : MeBuf) : Nat :=
  if b.layout = 6 then sparseGroup fa b.format b.pn b.pm else denseGroup fa b.format

/-- The activity counter that cell operations of an issue slot advance, and by how much (16, Table 16.1): sparse operands
count the operations of the cells. -/
def macCount (fa fb : Nat) : Nat × Nat :=
  let g := denseGroup fa fb
  (if g = 1 then 0 else if g = 4 then 2 else 1, 16384 * g)

/-! ### Metadata -/

/-- `n` bits of a byte list from bit `i`. -/
def bitsAt (bs : List Byte) (i n : Nat) : Nat := (fieldAt bs (i / 8) ((i % 8 + n + 7) / 8) / 2 ^ (i % 8)) % 2 ^ n

/-- COUNT and the indices of the metadata entry of column `c` (08, R203). -/
def metaEntry (d : TDesc) (row : List Byte) (c : Nat) : Nat × List Nat :=
  let w := bitsAt row (c * d.metaBits) d.metaBits
  (w % 2 ^ d.idxBits, (List.range d.groupN).map (fun s => (w / 2 ^ ((s + 1) * d.idxBits)) % 2 ^ d.idxBits))

/-- Whether numbers rise strictly. -/
def rising : List Nat → Bool
  | a :: b :: r => decide (a < b) && rising (b :: r)
  | _ => true

/-- The first check of Table 8.4 that the entry of a group of `len` rows fails, if any. -/
def metaCheck (d : TDesc) (len : Nat) (e : Nat × List Nat) : Option Nat :=
  let ix := e.2.take e.1
  if d.groupN < e.1 then some 1
  else if !rising ix then some 2
  else if ix.any (fun i => decide (d.groupM ≤ i)) then some 3
  else if ix.any (fun i => decide (len ≤ i)) then some 4
  else none

/-- The logical rows of group `g`. -/
def TDesc.groupLen (d : TDesc) (g : Nat) : Nat := min d.groupM (d.rows - g * d.groupM)

/-- The first failing group among groups `gs` with their metadata rows, in increasing group and column (R204): the DETAIL of
R205. -/
def metaFails (d : TDesc) : List (Nat × List Byte) → Option Nat
  | [] => none
  | (g, row) :: r =>
    match (List.range d.cols).findSome? (fun c =>
        (metaCheck d (d.groupLen g) (metaEntry d row c)).map (fun k => k + c * 2 ^ 4 + g * 2 ^ 12)) with
    | some x => some x
    | none => metaFails d r

/-- A metadata row packed from its entries (R203). -/
def metaRowBytes (d : TDesc) (es : List (Nat × List Nat)) : List Byte :=
  let b := d.idxBits
  let word := fun (e : Nat × List Nat) => e.1 + ((List.range d.groupN).map (fun s => e.2.getD s 0 * 2 ^ ((s + 1) * b))).foldl (· + ·) 0
  leBytes (ceilDiv (d.cols * d.metaBits) 8) (es.foldr (fun e a => word e + a * 2 ^ d.metaBits) 0)

/-! ### The pruning unit -/

/-- Whether value `a` at index `i` is kept before value `b` at index `j` (08, R206): the larger magnitude, a NaN above any
number, ties to the lower index. -/
def keepsBefore (a : FVal) (i : Nat) (b : FVal) (j : Nat) : Bool :=
  match a.isNan, b.isNan with
  | true, true => decide (i < j)
  | true, false => true
  | false, true => false
  | false, false => match a.abs.cmp b.abs with
    | 0 => decide (i < j)
    | x => decide (0 < x)

/-- The indices that a group keeps, in increasing order (R206). -/
def keptIndices (n : Nat) (vs : List FVal) : List Nat :=
  (List.range vs.length).filter (fun i =>
    decide (((List.range vs.length).filter (fun j => keepsBefore (vs.getD j .zero) j (vs.getD i .zero) i)).length < min n vs.length))

/-- The score of a row (08, R209): the largest result, or magnitude; a NaN gives a NaN. Of zeros of both signs the first stands (DESIGN CHOICE,
log entry 54). -/
def rowScore (abs : Bool) (vs : List Nat) : Nat :=
  let xs := vs.map (fun v => if abs then v % 2 ^ 31 else v)
  match xs with
  | [] => 0
  | x :: r =>
    if xs.any (fun v => (fp32.decode v).isNan) then fp32.nan
    else r.foldl (fun a v => if (fp32.decode a).cmp (fp32.decode v) = -1 then v else a) x

end Sys2Proof.Machine
end

