-- ==== Sys2Proof/Machine/MeData.lean ====
section
/-!
DEFINITION. What the Matrix Engine reads: blocks of A, weight loads, D rows and frozen masks (06, R142, R144, R149, R151;
08, R203, R204, R207, R208, R212, R213).
-/
namespace Sys2Proof.Machine

open Sys2Proof

/-- A failed read or check of data: status, offset, DETAIL. -/
abbrev DataFail := Status × Nat × Nat

/-- A memory failure as a data failure. -/
def memFail (e : Status × Nat) : DataFail := (e.1, e.2, 0)

/-- The rows of block `b` of `rows` rows (R146). -/
def blockLen (rows b : Nat) : Nat := min 128 (rows - 128 * b)

/-- The number of blocks. -/
def blockCount (rows : Nat) : Nat := ceilDiv rows 128

/-! ### Rows of elements -/

/-- `n` packed elements at an offset. -/
def readElems (s : State) (lt off n fmt : Nat) : State × Except DataFail (List Nat) :=
  match memRead s lt off (spanOf n fmt) with
  | (s1, .error e) => (s1, .error (memFail e))
  | (s1, .ok bs) => (s1, .ok ((List.range n).map (unpackElem (elemBits fmt) bs)))

/-- The block scales of a row of `n` elements, or none where the format has no scales. -/
def readScales (s : State) (lt off n fmt : Nat) : State × Except DataFail (List Nat) :=
  if isMx fmt then
    match memRead s lt off n with
    | (s1, .error e) => (s1, .error (memFail e))
    | (s1, .ok bs) => (s1, .ok (bs.map BitVec.toNat))
  else (s, .ok [])

/-- A row of `n` values: elements at `off`, scales of each 32 at `soff`, decoded through an entry (R142, R173 step 1). -/
def readRowValues (s : State) (lt : Nat) (p : PalCfg) (off soff n : Nat) : State × Except DataFail (List FVal) :=
  match readElems s lt off n p.format with
  | (s1, .error e) => (s1, .error e)
  | (s1, .ok xs) =>
    match readScales s1 lt soff (ceilDiv n 32) p.format with
    | (s2, .error e) => (s2, .error e)
    | (s2, .ok sc) => (s2, .ok ((List.range n).map (fun c => decodeThrough p (xs.getD c 0) (sc.getD (c / 32) 0))))

/-- Rows read one after the other. -/
def readEach {α : Type} (f : State → Nat → State × Except DataFail α) : Nat → State → Nat → State × Except DataFail (List α)
  | 0, s, _ => (s, .ok [])
  | n + 1, s, r =>
    match f s r with
    | (s1, .error e) => (s1, .error e)
    | (s1, .ok x) =>
      match readEach f n s1 (r + 1) with
      | (s2, .error e) => (s2, .error e)
      | (s2, .ok xs) => (s2, .ok (x :: xs))

/-! ### Gather lists -/

/-- The base of a set's gather list or correction list, and the number of its entries (Table 8.6, R213). -/
def listOf (s : State) (lt set : Nat) (which : Bool) : Nat × Nat :=
  if which then (setField s lt set 0x1C 4, setField s lt set 0x38 4)
  else (setField s lt set 0x18 4, setField s lt set 0x2C 4)

/-- Entry `i` of a list. -/
def listEntry (s : State) (lt base i : Nat) : Nat := leNat (memBytes (s.tile lt).mem (base + 4 * i) 4)

/-- The DETAIL of a failed gather check (R205, R213). -/
def gatherDetail (check row : Nat) : Nat := check + 2 ^ 3 + (row % 2 ^ 16) * 2 ^ 12

/-- The neuron that row `r` of an item names (R212): its list entry read, and the first check of R213 that it fails. -/
def gatherNeuron (s : State) (lt : Nat) (d : TDesc) (r : Nat) : State × Except DataFail (Except DataFail Nat) :=
  let set := d.metaBase
  let l := listOf s lt set (nbit d.metaStride 24)
  let i := d.metaStride % 2 ^ 24 + r
  let bad := fun k => Except.error (stSparseMeta, l.1 + 4 * i, gatherDetail k r)
  if l.2 ≤ i then (s, .ok (bad 1))
  else
    match memRead s lt (l.1 + 4 * i) 4 with
    | (s1, .error e) => (s1, .error (memFail e))
    | (s1, .ok bs) =>
      let n := leNat bs
      if r ≠ 0 ∧ n ≤ listEntry s1 lt l.1 (i - 1) then (s1, .ok (bad 2))
      else if setField s1 lt set 0 4 ≤ n then (s1, .ok (bad 4))
      else (s1, .ok (.ok n))

/-! ### Blocks of A -/

/-- Rows of a GATHER operand: a read that fails ends the block at once; a list entry that fails its checks is reported once the block's other
reads have been done, as reads come before the checks of metadata (06, R156; R212, R213). `bad` is the first such entry so far. -/
def gatherRows (lt : Nat) (p : PalCfg) (d : TDesc) : Nat → State → Nat → Option DataFail → State × Except DataFail (List (List FVal))
  | 0, s, _, some e => (s, .error e)
  | 0, s, _, none => (s, .ok [])
  | k + 1, s, r, bad =>
    match gatherNeuron s lt d r with
    | (s1, .error e) => (s1, .error e)
    | (s1, .ok (.error e)) => gatherRows lt p d k s1 (r + 1) (some (bad.getD e))
    | (s1, .ok (.ok n)) =>
      match readRowValues s1 lt p (d.base + n * d.stride) (d.scaleBase + n * d.scaleStride) d.cols with
      | (s2, .error e) => (s2, .error e)
      | (s2, .ok row) =>
        match gatherRows lt p d k s2 (r + 1) bad with
        | (s3, .error e) => (s3, .error e)
        | (s3, .ok rows) => (s3, .ok (row :: rows))

/-- Row `r` of A in a layout whose rows lie apart (Table 6.4). -/
def readARow (lt : Nat) (p : PalCfg) (d : TDesc) (s : State) (r : Nat) : State × Except DataFail (List FVal) :=
  readRowValues s lt p (d.base + r * d.stride) (d.scaleBase + r * d.scaleStride) d.cols

/-- Block `b` of A, in row order; COL through one block read of R83 (R142, R149). -/
def readABlock (s : State) (lt : Nat) (lv : Level) (p : PalCfg) (d : TDesc) (b : Nat) : State × Except DataFail (List (List FVal)) :=
  let n := blockLen d.rows b
  if d.layout = 1 then
    let e := elemBits p.format / 8
    let q : BlockReq := { start := d.base + 128 * b * e, esize := if e = 2 then 2 else 1, rows := d.cols, cols := n, stride := d.stride, transpose := true }
    match blockRead s lt lv q with
    | (s1, .error x) => (s1, .error (memFail x))
    | (s1, .ok bs) => (s1, .ok ((List.range n).map (fun r =>
        (List.range d.cols).map (fun k => decodeThrough p (unpackElem (8 * e) bs (r * d.cols + k)) 0))))
  else if d.layout = 7 then gatherRows lt p d n s (128 * b) none
  else readEach (readARow lt p d) n s (128 * b)

/-! ### Weight loads -/

/-- The rows of a dense B by Table 6.4: row `r` with the scales of its block of 32 rows. -/
def readBRow (lt : Nat) (p : PalCfg) (d : TDesc) (s : State) (r : Nat) : State × Except DataFail (List (Option FVal)) :=
  match readElems s lt (d.base + r * d.stride) d.cols p.format with
  | (s1, .error e) => (s1, .error e)
  | (s1, .ok xs) =>
    match readScales s1 lt (d.scaleBase + r / 32 * d.scaleStride) d.cols p.format with
    | (s2, .error e) => (s2, .error e)
    | (s2, .ok sc) => (s2, .ok ((List.range d.cols).map (fun c => some (decodeThrough p (xs.getD c 0) (sc.getD c 0)))))

/-- One group of a SPARSE B: the elements of its compressed rows, the scales of its rows, its metadata row (08, R203). -/
def readGroup (lt : Nat) (p : PalCfg) (d : TDesc) (s : State) (g : Nat) : State × Except DataFail (List (List Nat) × List Nat × List Byte) :=
  match readEach (fun st q => readElems st lt (d.base + q * d.stride) d.cols p.format) d.groupN s (g * d.groupN) with
  | (s1, .error e) => (s1, .error e)
  | (s1, .ok xs) =>
    match readScales s1 lt (d.scaleBase + g * d.groupM / 32 * d.scaleStride) d.cols p.format with
    | (s2, .error e) => (s2, .error e)
    | (s2, .ok sc) =>
      match memRead s2 lt (d.metaBase + g * d.metaRow) (ceilDiv (d.cols * d.metaBits) 8) with
      | (s3, .error e) => (s3, .error (memFail e))
      | (s3, .ok row) => (s3, .ok (xs, sc, row))

/-- Logical row `i` of a group (08, R201, R203): the value of the slot that names it, if any. -/
def groupRow (p : PalCfg) (d : TDesc) (x : List (List Nat) × List Nat × List Byte) (i : Nat) : List (Option FVal) :=
  (List.range d.cols).map (fun c =>
    let e := metaEntry d x.2.2 c
    match (e.2.take e.1).findIdx? (fun j => j == i) with
    | some k => some (decodeThrough p ((x.1.getD k []).getD c 0) (x.2.1.getD c 0))
    | none => none)

/-- The rows of B through its descriptor (06, R144; 08, R203, R204). -/
def readB (s : State) (lt : Nat) (lv : Level) (p : PalCfg) (d : TDesc) : State × Except DataFail (List (List (Option FVal))) :=
  if d.layout = 6 then
    match readEach (readGroup lt p d) d.groups s 0 with
    | (s1, .error e) => (s1, .error e)
    | (s1, .ok gs) =>
      match metaFails d ((List.range d.groups).zip (gs.map (fun x => x.2.2))) with
      | some x => (s1, .error (stSparseMeta, d.metaBase + (x / 2 ^ 12) * d.metaRow, x))
      | none => (s1, .ok ((List.range d.rows).map (fun r => groupRow p d (gs.getD (r / d.groupM) ([], [], [])) (r % d.groupM))))
  else if d.layout = 1 then
    let e := elemBits p.format / 8
    let q : BlockReq := { start := d.base, esize := if e = 2 then 2 else 1, rows := d.cols, cols := d.rows, stride := d.stride, transpose := true }
    match blockRead s lt lv q with
    | (s1, .error x) => (s1, .error (memFail x))
    | (s1, .ok bs) => (s1, .ok ((List.range d.rows).map (fun r =>
        (List.range d.cols).map (fun c => some (decodeThrough p (unpackElem (8 * e) bs (r * d.cols + c)) 0)))))
  else readEach (readBRow lt p d) d.rows s 0

/-! ### D -/

/-- The FP32+C elements of a row of D under RESID, in pairs (Table 6.4, PLANAR_C). -/
def readPairs (lt : Nat) (d : TDesc) (s : State) (r : Nat) : State × Except DataFail (List (Nat × Nat)) :=
  match memRead s lt (d.base + r * d.stride) (4 * d.cols) with
  | (s1, .error e) => (s1, .error (memFail e))
  | (s1, .ok vs) =>
    match memRead s1 lt (d.scaleBase + r * d.scaleStride) (2 * d.cols) with
    | (s2, .error e) => (s2, .error (memFail e))
    | (s2, .ok ts) => (s2, .ok ((List.range d.cols).map (fun c => (fieldAt vs (4 * c) 4, fieldAt ts (2 * c) 2))))

/-- A row of D under ADD. -/
def readDRow (lt : Nat) (p : PalCfg) (d : TDesc) (s : State) (r : Nat) : State × Except DataFail (List FVal) :=
  readRowValues s lt p (d.base + r * d.stride) (d.scaleBase + r * d.scaleStride) d.cols

/-- The first group of block `b` of a SPARSE D, and the number of its groups. -/
def blockGroups (d : TDesc) (b : Nat) : Nat × Nat := (128 * b / d.groupM, ceilDiv (blockLen d.rows b) d.groupM)

/-- The metadata rows of block `b` of D, read and checked for a frozen mask (08, R204, R207). -/
def readMask (s : State) (lt : Nat) (d : TDesc) (b : Nat) : State × Except DataFail (List (List Byte)) :=
  let g := blockGroups d b
  match readEach (fun st i => match memRead st lt (d.metaBase + i * d.metaRow) (ceilDiv (d.cols * d.metaBits) 8) with
      | (s1, .error e) => (s1, .error (memFail e))
      | (s1, .ok bs) => (s1, .ok bs)) g.2 s g.1 with
  | (s1, .error e) => (s1, .error e)
  | (s1, .ok rows) =>
    match metaFails d (((List.range g.2).map (· + g.1)).zip rows) with
    | some x => (s1, .error (stSparseMeta, d.metaBase + (x / 2 ^ 12) * d.metaRow, x))
    | none => (s1, .ok rows)

end Sys2Proof.Machine
end

