-- ==== Sys2Proof/Machine/MeEngine.lean ====
section
/-!
DEFINITION. The Matrix Engine's queue: issue, start and checks, faults, planes and fills, weight loads (06, R134 to R158).
-/
namespace Sys2Proof.Machine

open Sys2Proof

/-! ### The engine of a tile -/

/-- The engine of a tile. -/
def meOf (s : State) (lt : Nat) : MeState := (s.tile lt).me

/-- The state with the engine of a tile changed. -/
def modMe (s : State) (lt : Nat) (f : MeState → MeState) : State := s.modTile lt (fun t => { t with me := f t.me })

/-- The state with the item in a slot changed. -/
def modItem (s : State) (lt slot : Nat) (f : MeItem → MeItem) : State :=
  modMe s lt (fun m => { m with items := m.items.map (fun i => if i.slot == slot then f i else i) })

/-- Bits of ME_STATUS that are held: FAULT_HOLD, SAVING, SAVED, HALTED, SAVE_REFUSED. -/
def meBit (s : State) (lt i : Nat) : Bool := s.tbit lt regMeStatus i

/-- The state with a bit of ME_STATUS set to `b`. -/
def setMeBit (s : State) (lt i : Nat) (b : Bool) : State := s.setTbit lt regMeStatus i b

/-- Weight buffer `b`. -/
def MeState.buf (m : MeState) (b : Nat) : MeBuf := if b = 0 then m.buf0 else m.buf1

/-- The engine with weight buffer `b` replaced. -/
def MeState.setBuf (m : MeState) (b : Nat) (x : MeBuf) : MeState := if b = 0 then { m with buf0 := x } else { m with buf1 := x }

/-- Kinds of items. -/
def MeItem.isRows (i : MeItem) : Bool := isMma i.wop && !i.drain
def MeItem.isDrain (i : MeItem) : Bool := isMma i.wop && i.drain
def MeItem.wb (i : MeItem) : Nat := if i.wop = wopPrune then 4 else meWb i.payload
def MeItem.dA (i : MeItem) : TDesc := tdesc i.descA
def MeItem.dD (i : MeItem) : TDesc := tdesc i.descD

/-- Whether an item names weight buffer `b` as the one it multiplies by. -/
def MeItem.usesBuf (i : MeItem) (b : Nat) : Bool := i.isRows && meWbuf i.payload == b

/-- Whether an item loads weight buffer `b`. -/
def MeItem.loadsBuf (i : MeItem) (b : Nat) : Bool := i.wop == wopWload && meWbuf i.payload == b

/-- Whether an item writes memory back block by block. -/
def MeItem.writesBack (i : MeItem) : Bool := (isMma i.wop && i.wb != 0) || i.wop == wopPrune

/-- The accumulator set of block `b` (R147). -/
def MeItem.setOf (i : MeItem) (b : Nat) : Nat := if (b + i.flip) % 2 = 0 then meAcc i.payload else meAcc i.payload ^^^ 1

/-- The items that stand before a slot's item in the queue. -/
def earlier (items : List MeItem) (slot : Nat) : List MeItem := items.takeWhile (fun i => i.slot != slot)

/-- Whether the engine's unit is under a targeted test (18, R432: tests 2 and 3). -/
def meTested (s : State) (lt : Nat) : Bool :=
  (s.fc (fieldOf s lt)).tests.any (fun j => j.running && j.unit.pt == ptOf s lt && (j.unit.kind == 2 || j.unit.kind == 3))

/-! ### Completion and faults -/

/-- A sample whose block will not be written leaves the Study unit's queue. -/
def dropSample (s : State) (lt handle : Nat) : State :=
  s.modRegion (regionOf s lt) (fun g => { g with samples := g.samples.filter (fun x => x.ready || x.lt != lt || x.handle != handle) })

/-- An item completes and leaves the queue; MEC or MEC_ALL raises interrupt 5 (R151, Table 6.2). -/
def meComplete (s : State) (lt : Nat) (i : MeItem) (st : Status) (prog : Nat) : State :=
  let s1 := modMe (if i.sample.isSome then dropSample s lt i.handle else s) lt
    (fun m => { m with items := m.items.filter (fun x => x.slot != i.slot) })
  let s2 := completeItem s1 lt 0 i.slot i.wop st prog
  if meMec i.payload || s2.tbit lt regMeCtrl 0 then s2.setTbit lt regMeInt 0 true else s2

/-- Whether an item has issued no row. -/
def MeItem.fresh (i : MeItem) : Bool := i.issued == 0 && i.done == 0

/-- A started item that has issued no row returns to the queue unchanged (R157, R166); a sample drawn for it is drawn again when it starts
again (07, R192). -/
def MeItem.unstart (i : MeItem) : MeItem :=
  if i.fresh then
    { i with
      started := false, checked := false, descA := [], descD := [], staged := [], stagedTo := 0, reading := false
      plane := none, failed := none, refs := [], remask := true }
  else i

/-- An item completes with a fault status: the hold and the ME_FAULT_ registers (R157). -/
def meFault (s : State) (lt : Nat) (i : MeItem) (st : Status) (check prog addr detail : Nat) : State :=
  let s1 := meComplete s lt i st prog
  let s2 := setMeBit (s1.setTbit lt regMeInt 1 true) lt 11 true
  let s3 := s2.setTreg lt regMeFaultItem (BitVec.ofNat 32 (i.slot + st.toNat * 2 ^ 8 + (check % 16) * 2 ^ 16 + 2 ^ 31))
  let s4 := s3.setTreg lt regMeFaultProg (BitVec.ofNat 32 (prog % 2 ^ 13))
  let s5 := s4.setTreg lt regMeFaultAddr (BitVec.ofNat 32 (addr % 2 ^ 28))
  let s6 := s5.setTreg lt regMeFaultDetail (BitVec.ofNat 32 detail)
  let s7 := (meOf s6 lt).items.foldl (fun x j => if j.fresh && j.sample.isSome then dropSample x lt j.handle else x) s6
  modMe s7 lt (fun m => { m with items := m.items.map MeItem.unstart })

/-! ### The checks of Table 6.6 -/

/-- The first check that fails among numbered checks, with the address it names. -/
def firstFail : List (Nat × Nat × Bool) → Option (Nat × Nat)
  | [] => none
  | (k, a, ok) :: r => if ok then firstFail r else some (k, a)

/-- The operands of an item: role, descriptor address, descriptor, format. -/
def MeItem.operands (i : MeItem) : List (Role × Nat × TDesc × Nat) :=
  (if i.descA.isEmpty then [] else [(if i.wop = wopWload then .b else .a, i.r1.toNat, i.dA, i.cfgA.format)])
    ++ (if i.descD.isEmpty then [] else [(.d, i.r2.toNat, i.dD, i.cfgD.format)])

/-- The descriptor addresses of an item. -/
def MeItem.addrs (i : MeItem) : List Nat :=
  (if i.isDrain then [] else [i.r1.toNat])
    ++ (if i.wop = wopWload || (isMma i.wop && i.wb = 0) then [] else [i.r2.toNat])

/-- Check 1 of a 64 B structure. -/
def descAddrOk (lv : Level) (a : Nat) : Bool := a % 64 == 0 && decide (a < 2 ^ 28) && permitted lv a 64

/-- The neurons of the set that a GATHER descriptor names, or 1 where the descriptor is none. -/
def gatherBound (s : State) (lt : Nat) (d : TDesc) : Nat := if d.layout = 7 then setField s lt d.metaBase 0 4 else 1

/-- Check 6 of an item (R147, R148). -/
def MeItem.shapeRule (i : MeItem) : Bool :=
  if i.wop = wopPrune ∨ i.wop = wopWload then true
  else if i.drain then meAccum i.payload && i.wb != 0 && decide (i.dD.rows ≤ 128) && i.wop != wopPred
  else decide (i.dA.rows ≤ 128) || (!meAccum i.payload && i.wb != 0)

/-- What an item is compared with of its weight buffer: nothing where its checks run before an earlier load of the buffer has completed (R145),
else the buffer. -/
inductive BufCheck where
  | later
  | now (b : MeBuf)

/-- Checks 2 to 8 of an item whose descriptors have been read: the first that fails, with the descriptor's address
(Table 6.6; 08, R200, R203, R207, R212). A buffer that is not VALID is not compared with: check 7 reports it. -/
def itemChecks (s : State) (lt : Nat) (i : MeItem) (cmp : BufCheck) : Option (Nat × Nat) :=
  let buf : Option MeBuf := match cmp with
    | .later => none
    | .now raw => if i.isRows && raw.valid then some raw else none
  let loaded : Bool := match cmp with
    | .later => true
    | .now raw => raw.valid
  let ops := i.operands
  let a0 := (i.addrs.headD 0)
  let each := fun (k : Nat) (f : Role × Nat × TDesc × Nat → Bool) => ops.map (fun o => (k, o.2.1, f o))
  let prune := i.wop = wopPrune || (isMma i.wop && i.wb = 4)
  let aDesc := if i.isRows || i.wop = wopPrune then some i.dA else none
  firstFail
    (each 2 (fun o => !badFields o.2.2.1)
      ++ [(2, a0, !prune || i.r3.toNat / 2 ^ 17 == 0)]
      ++ each 3 (fun o => formatOk i.wop i.wb o.1 o.2.2.2 buf)
      ++ each 4 (fun o => layoutOk i.wop i.wb o.1 o.2.2.1 o.2.2.2 && (o.2.2.1.layout != 7 || o.2.2.1.metaBase % 64 == 0))
      ++ [(4, a0, match buf with
          | some b => (b.layout == 6) == (i.wop == wopSp)
          | none => true)]
      ++ each 5 (fun o => shapeOk i.wop o.1 o.2.2.1 o.2.2.2 aDesc buf)
      ++ [(6, a0, i.shapeRule), (7, a0, !i.isRows || loaded)]
      ++ each 8 (fun o => (extents o.2.2.1 o.2.2.2 (gatherBound s lt o.2.2.1)).all (fun x => permitted i.lv x.1 x.2)
          && (o.2.2.1.layout != 7 || (permitted i.lv o.2.2.1.metaBase 128
              && permitted i.lv (listOf s lt o.2.2.1.metaBase (nbit o.2.2.1.metaStride 24)).1
                  (4 * (listOf s lt o.2.2.1.metaBase (nbit o.2.2.1.metaStride 24)).2)))))

/-! ### Reading descriptors -/

/-- The descriptors of an item, read in order; the status and the address of the first that cannot be read (R155). -/
def readDescs (s : State) (lt : Nat) (i : MeItem) : State × Except (Status × Nat) MeItem :=
  match (if i.isDrain then (s, .ok []) else memRead s lt i.r1.toNat 64) with
  | (s1, .error e) => (s1, .error (e.1, i.r1.toNat))
  | (s1, .ok a) =>
    let i1 := if i.isDrain then i else { i with descA := a, cfgA := palCfg s1 lt (tdesc a).pal }
    if i.wop = wopWload ∨ (isMma i.wop ∧ i.wb = 0) then
      (s1, .ok { i1 with rows := i1.dA.rows })
    else
      match memRead s1 lt i.r2.toNat 64 with
      | (s2, .error e) => (s2, .error (e.1, i.r2.toNat))
      | (s2, .ok d) =>
        (s2, .ok { i1 with descD := d, cfgD := palCfg s2 lt (tdesc d).pal, rows := if i.isDrain then (tdesc d).rows else i1.dA.rows })

/-! ### Sampling by the Study unit -/

/-- The `mma` items of Table 6.1 and their sparse and predicted-row variants (07, R192). -/
def isStudied (wop : Nat) : Bool := wop ≤ 5 || wop == wopSp || wop == wopPr

/-- Whether an item can be sampled (07, R192). -/
def studyEligible (i : MeItem) : Bool := isStudied i.wop && !i.drain && (i.wb == 1 || i.wb == 2) && i.cfgD.study

/-- The sample drawn for the `j`-th item started since the last boundary, where seeded sampling chooses it (R192). -/
def seededSample (s : State) (lt j : Nat) (i : MeItem) : Option (Nat × Nat) :=
  let k := s.ffld (regionFc s lt) regStudyCfg 5 1
  let r := tileRandom s lt 0xFFFFFFFF (lt * 2 ^ 32 + 2 * j)
  let r' := tileRandom s lt 0xFFFFFFFF (lt * 2 ^ 32 + 2 * j + 1)
  if studyEligible i && r / 2 ^ (32 - k) == 0 then
    some ((r' % 2 ^ 16) % ceilDiv i.rows 8, (r' / 2 ^ 16) % ceilDiv i.dD.cols 8)
  else none

/-- An item that starts for the first time is counted: its number since the last step boundary, and toward the next unseeded sample; whether it
completes 2^K items (R192). Both counts take the `mma` items with their sparse and predicted-row variants, drains among them, and no other
(DESIGN CHOICE, log entry 54: the rule says items). -/
def studyCount (s : State) (lt : Nat) (i : MeItem) : State × Bool :=
  if !isStudied i.wop || i.num.isSome then (s, false)
  else
    let s1 := modMe s lt (fun m => { m with mmaCount := m.mmaCount + 1 })
    let cfg := s1.freg (regionFc s1 lt) regStudyCfg
    if !bit cfg 0 || bit cfg 6 then (s1, false)
    else
      let n := (s1.region (regionOf s1 lt)).studyItems + 1
      let full := decide (2 ^ fld cfg 5 1 ≤ n)
      (s1.modRegion (regionOf s1 lt) (fun x => { x with studyItems := if full then 0 else n, studyDue := x.studyDue || full }), full)

/-- A sample drawn for an item: it joins the region's queue of 16, or is dropped and counted (R195). -/
def drawSample (s : State) (lt : Nat) (i : MeItem) (blk : Nat × Nat) : State × Option (Nat × Nat) :=
  let r := regionOf s lt
  if (s.region r).samples.length < 16 then
    (s.modRegion r (fun g => { g with
      samples := g.samples ++ [⟨lt, i.handle, i.cfgD.n, g.sampleSeq, false, 0, 0, false⟩], sampleSeq := g.sampleSeq + 1 }), some blk)
  else (s.setFfld (regionFc s lt) regStudyDrop 15 0 (satInc 16 (s.ffld (regionFc s lt) regStudyDrop 15 0)), none)

/-- Whether an item that has started is sampled, and which block (R192); `j` is its number and `due` whether an unseeded sample was due before
it started; `full` says that its start completed 2^K items, after which one is due again. An item that returned to the queue with an unseeded
sample takes it when it starts again. The block of an unseeded sample comes from a free-running count: a free choice (log entry 2). -/
def studyDraw (s : State) (lt j : Nat) (due full : Bool) (i : MeItem) : State × Option (Nat × Nat) :=
  let cfg := s.freg (regionFc s lt) regStudyCfg
  if !bit cfg 0 then (s, none)
  else if bit cfg 6 then
    match seededSample s lt j i with
    | some blk => drawSample s lt i blk
    | none => (s, none)
  else if (due || i.sample.isSome) && studyEligible i then
    let w := s.freeWord.toNat
    let s1 := if i.sample.isSome then s.drawn else s.drawn.modRegion (regionOf s lt) (fun x => { x with studyDue := full })
    drawSample s1 lt i
      (w % ceilDiv i.rows 8, (w / 2 ^ 32) % ceilDiv i.dD.cols 8)
  else (s, none)

/-! ### Planes, fills and loads -/

/-- The plane that the item after `items` finds: that of the last row item among them, else the active one. -/
def lastPlane (active : MeBuf) (items : List MeItem) : MeBuf :=
  items.foldl (fun p i => match i.plane with
    | some q => if i.isRows then q else p
    | none => p) active

/-- Whether an item stands with passed checks and no plane yet. -/
def MeItem.wantsPlane (i : MeItem) : Bool := i.isRows && i.started && i.checked && i.plane.isNone

/-- Items that find their buffer in the plane before them need no fill (R145). -/
def settlePlanes (m : MeState) : MeState :=
  { m with items := m.items.foldl (fun done i =>
      let p := lastPlane m.active done
      let b := m.buf (meWbuf i.payload)
      done ++ [if i.wantsPlane && done.all (fun x => !x.isRows || x.plane.isSome) && p.num == b.num && p.gen == b.gen && p.valid
        then { i with plane := some p } else i]) [] }

/-- Whether a started weight load may begin reading: every earlier item that names its buffer has its plane (R145). -/
def loadMayBegin (m : MeState) (i : MeItem) : Bool :=
  (earlier m.items i.slot).all (fun x => !x.usesBuf (meWbuf i.payload) || x.plane.isSome) &&
    !(earlier m.items i.slot).any (fun x => x.loadsBuf (meWbuf i.payload))

/-- Weight loads that may begin do so; the buffer's VALID bit clears (R144, R145). -/
def beginLoads (m : MeState) : MeState :=
  m.items.foldl (fun m i =>
    if i.wop = wopWload && i.started && i.checked && !i.reading && loadMayBegin m i then
      let b := meWbuf i.payload
      { m.setBuf b { m.buf b with valid := false } with
        items := m.items.map (fun x => if x.slot == i.slot then { x with reading := true } else x) }
    else m) m

/-- What follows at once from a change of the queue. -/
def meSettle (s : State) (lt : Nat) : State := modMe s lt (fun m => beginLoads (settlePlanes m))

/-- Whether an item waits for an earlier load of the buffer that it names (R145). -/
def awaitsLoad (m : MeState) (i : MeItem) : Bool :=
  i.isRows && (earlier m.items i.slot).any (fun x => x.loadsBuf (meWbuf i.payload))

/-- The checks of an item that has read its descriptors: it goes on, or ends with PROT_FAULT at progress 0 (R155). A weight load that fails a
check leaves its buffer as it is, VALID or not: R155 has it change no buffer, and R144 has VALID clear only once a load reads (log
entry 54). -/
def checkItem (s : State) (lt : Nat) (i : MeItem) : State :=
  match itemChecks s lt i (.now ((meOf s lt).buf (meWbuf i.payload))) with
  | some (k, a) => meFault s lt i stProtFault k 0 a 0
  | none => modItem s lt i.slot (fun i => { i with checked := true })

/-- Items that waited for a load are checked once it has completed (R145). -/
def checkWaiting (s : State) (lt : Nat) : State :=
  (meOf s lt).items.foldl (fun st i =>
    match (meOf st lt).items.find? (fun x => x.slot == i.slot) with
    | some x => if x.started && !x.checked && !awaitsLoad (meOf st lt) x then checkItem st lt x else st
    | none => st) s

/-! ### Start -/

/-- Whether the engine starts items now (R157, R158, R164, R167; 18, R432). -/
def meOpen (s : State) (lt : Nat) : Bool :=
  !meBit s lt 11 && !meBit s lt 12 && !meBit s lt 13 && !meBit s lt 14 && (meOf s lt).stopping.isNone && !unitsStop s lt
    && (s.tile lt).asleep == 0 && !meTested s lt

/-- Whether an item may start now, being the next of the queue (R152 to R154; 08, R216). -/
def mayStart (s : State) (lt : Nat) (i : MeItem) : Bool :=
  let m := meOf s lt
  let before := earlier m.items i.slot
  meOpen s lt && decide ((m.items.filter (fun x => x.started)).length < 8) &&
    (before.isEmpty || (meNowait i.payload && i.wop != wopFence && i.wop != wopSel))

/-- Whether an `mma.pr` on list 1 must wait for its set (08, R216). -/
def setNotReady (s : State) (lt : Nat) (i : MeItem) : Bool :=
  let d := tdesc (memBytes (s.tile lt).mem i.r1.toNat 64)
  i.wop == wopPr && !i.drain && descAddrOk i.lv i.r1.toNat && d.layout == 7 && nbit d.metaStride 24 &&
    permitted i.lv d.metaBase 128 && decide (setField s lt d.metaBase 5 1 < 3)

/-- Whether a prune control recomputes the mask, as `PAL_STEP` is when the item starts (08, R207). -/
def recomputes (s : State) (lt : Nat) (r3 : DWord) : Bool :=
  let period := r3.toNat % 2 ^ 16
  !nbit r3.toNat 16 && (period == 0 || palStep s lt % period == 0)

/-- An item starts: check 1, its descriptors, and its checks, of which those against its buffer wait for an earlier load of it (R145,
R155). -/
def startItem (s0 : State) (lt : Nat) (i : MeItem) : State :=
  if i.wop = wopFence then meComplete s0 lt i stOk 0
  else
    let j := i.num.getD (meOf s0 lt).mmaCount
    let due := (s0.region (regionOf s0 lt)).studyDue
    let c := studyCount s0 lt i
    let s := c.1
    match i.addrs.find? (fun a => !descAddrOk i.lv a) with
    | some a => meFault s lt i stProtFault 1 0 a 0
    | none =>
      match readDescs s lt i with
      | (s1, .error e) => meFault s1 lt i e.1 0 0 e.2 0
      | (s1, .ok k) =>
        let x := studyDraw s1 lt j due c.2 k
        let k := { k with started := true, num := some j, sample := x.2, remask := recomputes x.1 lt k.r3 }
        let s2 := modItem x.1 lt i.slot (fun _ => k)
        if awaitsLoad (meOf s2 lt) k then
          match itemChecks s2 lt k .later with
          | some (n, a) => meFault s2 lt k stProtFault n 0 a 0
          | none => s2
        else checkItem s2 lt k

/-! ### Rows -/

/-- Word `i` of the accumulator sets. -/
def accWord (m : MeState) (i : Nat) : Nat := (kvGet (0 : Word) m.sets i).toNat

/-- The index of element (r, c) of a set. -/
def accIdx (set r c : Nat) : Nat := 16384 * set + 128 * r + c

/-- Whether a block may start accumulating into a set: every earlier write-back that reads the set has been done (R149). -/
def setFree (m : MeState) (i : MeItem) (b : Nat) : Bool :=
  let set := i.setOf b
  (earlier m.items i.slot).all (fun x => !(isMma x.wop && x.wb != 0 && decide (x.done < x.rows)) ||
      (if x.drain then meAcc x.payload != set
       else (List.range (blockCount x.rows)).all (fun k => decide (x.setOf k ≠ set) || decide (min x.rows (128 * (k + 1)) ≤ x.done))))
    && (List.range b).all (fun k => decide (i.setOf k ≠ set) || decide (min i.rows (128 * (k + 1)) ≤ i.done))

/-- The FP64 reference of a sampled element: the accumulator value and each product in turn (07, R193). -/
def refSum (c : FVal) (ts : List FVal) : Nat :=
  ts.foldl (fun a t => (fp64.result .near ((fp64.decode a).add false t)).1) (fp64.result .near c).1

/-- One row of A enters the array: the results of its columns, and the references of its sampled elements (R136, R146). -/
def issueRow (i : MeItem) (p : MeBuf) (m : MeState) (r : Nat) (a : List FVal) : MeState :=
  let set := i.setOf (r / 128)
  let cs := (List.range p.n).map (fun j =>
    let ix := accIdx set (r % 128) j
    let c := if meAccum i.payload then fp32.decode (accWord m ix) else FVal.zero
    (ix, j, c, rowTerms a (p.col j)))
  let m1 := { m with
    sets := cs.foldl (fun k x => kvSet k x.1 (BitVec.ofNat 32 (dot x.2.2.1 x.2.2.2))) m.sets
    accErrs := if meAccum i.payload then m.accErrs else m.accErrs.filter (fun w => !(cs.any (fun x => x.1 / 2 == w))) }
  match i.sample with
  | some (rb, cb) =>
    if r / 8 = rb then
      let refs := cs.filter (fun x => x.2.1 / 8 == cb)
      { m1 with items := m1.items.map (fun x => if x.slot == i.slot then
          { x with refs := refs.foldl (fun k y => kvSet k (8 * (r % 8) + y.2.1 % 8) (refSum y.2.2.1 y.2.2.2)) x.refs } else x) }
    else m1
  | none => m1

/-- Whether a row group meets a word of its set that is in error (R156). -/
def rowMeetsErr (m : MeState) (i : MeItem) (p : MeBuf) (r : Nat) : Bool :=
  meAccum i.payload && m.accErrs.any (fun w => decide (accIdx (i.setOf (r / 128)) (r % 128) 0 / 2 ≤ w) &&
    decide (w ≤ accIdx (i.setOf (r / 128)) (r % 128) (p.n - 1) / 2))

/-- A UE in a set: reported, and the set's contents become undefined (R156; log entry 2). -/
def accUncorr (s : State) (lt set : Nat) : State :=
  let s1 := reportUE s (fieldOf s lt) { kind := 2, pt := ptOf s lt, num := set } stEccUncorr 0
  modMe s1.drawn lt (fun m => { m with
    sets := (List.range 16384).foldl (fun k j => kvSet k (16384 * set + j)
      (BitVec.ofNat 32 ((Config.freeByte s1.fresh (4 * j)).toNat + (Config.freeByte s1.fresh (4 * j + 1)).toNat * 2 ^ 8
        + (Config.freeByte s1.fresh (4 * j + 2)).toNat * 2 ^ 16 + (Config.freeByte s1.fresh (4 * j + 3)).toNat * 2 ^ 24))) m.sets
    accErrs := m.accErrs.filter (fun w => w / 8192 != set) })

/-- The next skipped neuron that a VERIFY item verifies (08, R214). -/
def MeState.nextSkip (m : MeState) (set : Nat) : Nat := ((m.preds.find? (fun p => p.set == set)).map (fun p => p.next)).getD 0

/-- Whether an item is a VERIFY that has neurons left to verify as job rows (08, R214). -/
def MeState.verifying (m : MeState) (i : MeItem) : Bool :=
  i.wop == wopSel && i.started && i.failed.isNone && decide (m.nextSkip i.r1.toNat < i.rows)

/-- The item whose row group issues next, where one is ready: the first of the queue with rows left (R149, R152; 08, R214). -/
def readyItem (m : MeState) : Option MeItem :=
  match m.items.find? (fun i => i.isRows && decide (i.issued < i.rows) || m.verifying i || !i.started) with
  | some i =>
    let b := i.issued / 128
    if i.wop = wopSel then (if i.started then some i else none)
    else if i.started && i.checked && i.isRows && i.plane.isSome && i.staged.any (fun x => x.1 == b) &&
        (i.issued % 128 != 0 || setFree m i b) &&
        (match i.failed with | some f => decide (b < f.block) | none => true)
    then some i else none
  | none => none

/-- A row group of an item issues (R145, R149, R161): the planes swap with its first, its rows accumulate, a finished block
leaves the staging. -/
def issueGroup (s : State) (lt : Nat) (i : MeItem) : State :=
  let p := i.plane.getD (MeBuf.empty 0)
  let b := i.issued / 128
  let blk := (i.staged.find? (fun x => x.1 == b)).map Prod.snd |>.getD []
  let n := min (rowGroup i.cfgA.format p) (blockLen i.rows b - i.issued % 128)
  let cnt := macCount i.cfgA.format p.format
  let s0 := bumpCnt (modMe s lt (fun m => { m with active := p })) lt cnt.1 cnt.2
  if (List.range n).any (fun k => rowMeetsErr (meOf s0 lt) i p (i.issued + k)) then
    modItem (accUncorr s0 lt (i.setOf b)) lt i.slot (fun x => { x with failed := some ⟨stEccUncorr, 0, 0, 0, b⟩ })
  else
    let s1 := modMe s0 lt (fun m => (List.range n).foldl (fun m k =>
      issueRow i p m (i.issued + k) (blk.getD (i.issued % 128 + k) [])) m)
    let t := i.issued + n
    modItem s1 lt i.slot (fun x => { x with
      issued := t
      done := if x.wb = 0 then t else x.done
      staged := if t % 128 = 0 ∨ t = x.rows then x.staged.filter (fun y => y.1 != b) else x.staged })

/-- Whether cycle `c` of a window is an issue slot (R161). -/
def isIssueSlot (slots c : Nat) : Bool := decide (c * slots / 64 < (c + 1) * slots / 64)

/-- Whether the engine is in the middle of stopping, or under test, so that only the block that is issuing goes on (R158, R164, R167; 18,
R432). -/
def meStopping (s : State) (lt : Nat) : Bool := meBit s lt 12 || (meOf s lt).stopping.isSome || meTested s lt

/-! ### Stopping -/

/-- Whether block `b` of an item stands before the block at which the item failed, if it did (R156). -/
def MeItem.sound (i : MeItem) (b : Nat) : Bool := match i.failed with
  | some f => decide (b < f.block)
  | none => true

/-- Whether an item has a block that is accumulated and not written back (R150, R156). -/
def MeItem.owesBlock (i : MeItem) : Bool :=
  i.isRows && i.wb != 0 && decide (i.done < i.rows) && decide (min i.rows (128 * (i.done / 128 + 1)) ≤ i.issued) && i.sound (i.done / 128)

/-- Whether nothing is left to finish before a stop completes (R158, R164): no block is issuing, no accumulated block awaits
its write-back, no weight load reads but under an abort, which ends it. -/
def meQuiet (m : MeState) : Bool :=
  m.items.all (fun i =>
    !(i.isRows && i.issued % 128 != 0 && decide (i.issued < i.rows) && i.sound (i.issued / 128)) && !i.owesBlock &&
      !(i.wop == wopWload && i.reading && m.stopping != some stAborted))

/-- Every item completes with a status: those that run at their progress, the others at 0 (R158, R166, R167). -/
def completeAll (s : State) (lt : Nat) (st : Status) : State :=
  (meOf s lt).items.foldl (fun x i =>
    meComplete x lt i st (if i.wop = wopWload || i.wop = wopFence || i.wop = wopSel then 0 else i.done)) s

/-- An abort or a halt that has nothing left to finish ends (R158, R167): the fault hold clears, or HALTED is set and SAVING clears. -/
def settleStop (s : State) (lt : Nat) : State :=
  match (meOf s lt).stopping with
  | some st =>
    if meQuiet (meOf s lt) then
      let s1 := modMe (completeAll s lt st) lt (fun m => { m with stopping := none })
      if st = stAborted then setMeBit s1 lt 11 false else setMeBit (setMeBit s1 lt 12 false) lt 14 true
    else s
  | none => s

/-- Staged blocks that have not begun to issue are given up (R164 step 3). -/
def discardStaged (m : MeState) : MeState :=
  { m with items := m.items.map (fun i =>
      { i with staged := i.staged.filter (fun x => decide (128 * x.1 < i.issued)), stagedTo := ceilDiv i.issued 128 }) }

/-! ### Issue of the instructions -/

/-- An item as it enters the queue. -/
def newItem (slot h wop pl : Nat) (word : Word) (r1 r2 r3 : DWord) (drain : Bool) (lv : Level) : MeItem :=
  { slot := slot, handle := h, wop := wop, payload := pl, word := word.toNat, r1 := r1, r2 := r2, r3 := r3, drain := drain, lv := lv,
    started := false, checked := false, descA := [], descD := [], cfgA := PalCfg.blank, cfgD := PalCfg.blank, rows := 0, staged := [],
    stagedTo := 0, issued := 0, done := 0, reading := false, plane := none, failed := none, sample := none, refs := [], num := none, remask := true, flip := 0 }

/-- A wide instruction of UNIT 0 (R93, R105, R138, R139): illegal where its reserved fields are not zero, a stall on a full
queue, else an item and its handle. -/
def meInsn (wop : Nat) (lt : Nat) (c : CoreId) (rd rs1 rs2 rs3 : BitVec 5) (pl : Nat) (ok : Bool) (s : State) : Out :=
  let word := wordWide wop 0 rd rs1 rs2 rs3
  insn lt c 8 word tccNoAm (fun s =>
    if !ok then illegalInsn s word
    else
      match takeSlot s lt 0 with
      | none => .wait s (.queueFull 0)
      | some (s1, n, h) =>
        let it := newItem n h wop pl word (gRead s lt c rs1) (gRead s lt c rs2) (gRead s lt c rs3) (decide (rs1 = 0)) (levelAt s lt c)
        .done (gWrite (modMe s1 lt (fun m => { m with items := m.items ++ [it] })) lt c rd (BitVec.ofNat 64 h))) s

/-- Whether the payload and registers of an `mma` are legal (R138, R139; 08, R209). -/
def mmaOk (wop pl : Nat) (rs3 : BitVec 5) : Bool :=
  pl / 2 ^ (if wop = wopPred then 10 else 9) == 0 && decide (meWb pl ≤ 4) && (wop != wopPred || meWb pl == 1) &&
    (meWb pl == 4 || rs3 == 0)

/-- An `mma` of Table 6.1 or 8.1. -/
def mma (wop : Nat) (lt : Nat) (c : CoreId) (rd rs1 rs2 rs3 : BitVec 5) (pl : BitVec 32) (s : State) : Out :=
  meInsn wop lt c rd rs1 rs2 rs3 pl.toNat (mmaOk wop pl.toNat rs3) s

/-- `mma.bf16` (R135). -/
def execMmaBf16 (lt : Nat) (c : CoreId) (rd rs1 rs2 rs3 : BitVec 5) (pl : BitVec 32) (s : State) : Out := mma 0 lt c rd rs1 rs2 rs3 pl s

/-- `mma.fp16` (R135). -/
def execMmaFp16 (lt : Nat) (c : CoreId) (rd rs1 rs2 rs3 : BitVec 5) (pl : BitVec 32) (s : State) : Out := mma 1 lt c rd rs1 rs2 rs3 pl s

/-- `mma.fp8` (R135). -/
def execMmaFp8 (lt : Nat) (c : CoreId) (rd rs1 rs2 rs3 : BitVec 5) (pl : BitVec 32) (s : State) : Out := mma 2 lt c rd rs1 rs2 rs3 pl s

/-- `mma.mx` (R135). -/
def execMmaMx (lt : Nat) (c : CoreId) (rd rs1 rs2 rs3 : BitVec 5) (pl : BitVec 32) (s : State) : Out := mma 3 lt c rd rs1 rs2 rs3 pl s

/-- `mma.i8` (R135). -/
def execMmaI8 (lt : Nat) (c : CoreId) (rd rs1 rs2 rs3 : BitVec 5) (pl : BitVec 32) (s : State) : Out := mma 4 lt c rd rs1 rs2 rs3 pl s

/-- `mma.i4` (R135). -/
def execMmaI4 (lt : Nat) (c : CoreId) (rd rs1 rs2 rs3 : BitVec 5) (pl : BitVec 32) (s : State) : Out := mma 5 lt c rd rs1 rs2 rs3 pl s

/-- `mma.sp` (08, R200). -/
def execMmaSp (lt : Nat) (c : CoreId) (rd rs1 rs2 rs3 : BitVec 5) (pl : BitVec 32) (s : State) : Out := mma wopSp lt c rd rs1 rs2 rs3 pl s

/-- `mma.pr` (08, R212). -/
def execMmaPr (lt : Nat) (c : CoreId) (rd rs1 rs2 rs3 : BitVec 5) (pl : BitVec 32) (s : State) : Out := mma wopPr lt c rd rs1 rs2 rs3 pl s

/-- `me.pred` (08, R209). -/
def execMePred (lt : Nat) (c : CoreId) (rd rs1 rs2 rs3 : BitVec 5) (pl : BitVec 32) (s : State) : Out := mma wopPred lt c rd rs1 rs2 rs3 pl s

/-- `me.wload` (R138, R139, R144): its payload has WBUF, MEC and NOWAIT. -/
def execMeWload (lt : Nat) (c : CoreId) (rd rs1 rs2 rs3 : BitVec 5) (pl : BitVec 32) (s : State) : Out :=
  meInsn wopWload lt c rd rs1 rs2 rs3 pl.toNat (pl &&& ~~~(0x184 : BitVec 32) == 0 && rs2 == 0 && rs3 == 0) s

/-- `me.fence` (R138, R139, R154): its payload has MEC. -/
def execMeFence (lt : Nat) (c : CoreId) (rd rs1 rs2 rs3 : BitVec 5) (pl : BitVec 32) (s : State) : Out :=
  meInsn wopFence lt c rd rs1 rs2 rs3 pl.toNat (pl &&& ~~~(0x80 : BitVec 32) == 0 && rs1 == 0 && rs2 == 0 && rs3 == 0) s

/-- `prune` (08, R208): its payload has MEC and NOWAIT. -/
def execPrune (lt : Nat) (c : CoreId) (rd rs1 rs2 rs3 : BitVec 5) (pl : BitVec 32) (s : State) : Out :=
  meInsn wopPrune lt c rd rs1 rs2 rs3 pl.toNat (pl &&& ~~~(0x180 : BitVec 32) == 0) s

/-- `me.sel` SELECT (08, R211): OP is 0; its payload has MEC. -/
def execMeSelSelect (lt : Nat) (c : CoreId) (rd rs1 rs2 rs3 : BitVec 5) (pl : BitVec 32) (s : State) : Out :=
  let p := pl &&& ~~~(1 : BitVec 32)
  meInsn wopSel lt c rd rs1 rs2 rs3 p.toNat (p &&& ~~~(0x80 : BitVec 32) == 0 && rs3 == 0) s

/-- `me.sel` VERIFY (08, R211, R215): OP is 1; its payload has MEC. -/
def execMeSelVerify (lt : Nat) (c : CoreId) (rd rs1 rs2 rs3 : BitVec 5) (pl : BitVec 32) (s : State) : Out :=
  let p := pl ||| 1
  meInsn wopSel lt c rd rs1 rs2 rs3 p.toNat (p &&& ~~~(0x81 : BitVec 32) == 0 && rs2 == 0 && rs3 == 0) s

end Sys2Proof.Machine
end

