-- ==== Sys2Proof/Machine/MePred.lean ====
section
/-!
DEFINITION. Prediction sets: selection, verification of skipped neurons, release (08, R210, R211, R214 to R217).
-/
namespace Sys2Proof.Machine

open Sys2Proof

/-! ### Fields of a set -/

def setNeurons (s : State) (lt set : Nat) : Nat := setField s lt set 0 4
def setMode (s : State) (lt set : Nat) : Nat := setField s lt set 4 1
def setState (s : State) (lt set : Nat) : Nat := setField s lt set 5 1
def setPolicy (s : State) (lt set : Nat) : Nat := nfld (setMode s lt set) 2 1
def setSelected (s : State) (lt set : Nat) : Nat := setField s lt set 0x2C 4

/-- The hardware arrives at an object: once, untagged; on a counter it adds 1, an event it sets (13, R335; R216). Where the object's home does
not accept the tile the operation is refused (R331). -/
def hwArrive (s : State) (lt o : Nat) : State :=
  let x := s.obj o
  if !homeAccepts s x lt then s
  else if x.typ = objBarrier then netSend s (.sync true lt 1 o false false 1 0)
  else if x.typ = objCounter then netSend s (.sync true lt 2 o false false 0 1)
  else netSend s (.sync true lt 3 o false false 0 1)

/-- The run of a set, fresh where there is none. -/
def runOf (s : State) (lt set : Nat) : PredRun :=
  ((meOf s lt).preds.find? (fun p => p.set == set)).getD ⟨set, 0, 0, 0, [], false, false, 0⟩

/-- The state with the run of a set replaced. -/
def setRun (s : State) (lt : Nat) (p : PredRun) : State :=
  modMe s lt (fun m => { m with preds := m.preds.filter (fun x => x.set != p.set) ++ [p] })

/-- A set whose corrections are done is released: STATE 4, and one arrival for the set (R216). -/
def predRelease (s : State) (lt set : Nat) : State :=
  if setState s lt set = 3 ∧ setField s lt set 0x38 4 ≤ setField s lt set 0x3C 4 then
    let s1 := setSetField s lt set 5 1 4
    let o := setField s1 lt set 0x16 2
    if (runOf s1 lt set).released then s1
    else
      let s2 := setRun s1 lt { runOf s1 lt set with released := true }
      if o = 0xFFFF then s2 else hwArrive s2 lt o
  else s

/-- A set closes: its background verification stops and its record is written (R217). -/
def predClose (s : State) (lt set : Nat) : State :=
  if (meOf s lt).preds.any (fun p => p.set == set) then
    let f := fun o n => setField s lt set o n
    skbEvent (modMe s lt (fun m => { m with preds := m.preds.filter (fun p => p.set != set) })) (.tile lt) 0x13
      [f 6 2, f 0x40 4, f 0x2C 4, f 0x30 4, f 0x34 4, f 0x3C 4, (f 0x34 4 + 2 ^ 32 - f 0x3C 4) % 2 ^ 32]
  else s

/-! ### Selection -/

/-- The entries of list 0 that a rule selects from scores, in increasing order (R211 step 2). A NaN ranks above every number. -/
def selectNeurons (mode : Nat) (thresh : Word) (fraction : Nat) (scores : List Nat) : List Nat :=
  let n := scores.length
  let v := fun i => fp32.decode (scores.getD i 0)
  if mode % 2 = 0 then
    (List.range n).filter (fun i => (v i).isNan ||
      (!(fp32.decode thresh.toNat).isNan && decide ((v i).cmp (fp32.decode thresh.toNat) ≠ -1)))
  else
    let k := ceilDiv (n * fraction) 65535
    let before := fun j i => match (v j).isNan, (v i).isNan with
      | true, true => decide (j < i)
      | true, false => true
      | false, true => false
      | false, false => decide ((v j).cmp (v i) = 1) || (decide ((v j).cmp (v i) = 0) && decide (j < i))
    (List.range n).filter (fun i => (v i).isNan || decide (((List.range n).filter (fun j => before j i)).length < k))

/-- The entries that list 1 can take (Table 8.7). -/
def missRoom (s : State) (lt set : Nat) : Nat :=
  match setPolicy s lt set with
  | 0 => setNeurons s lt set
  | 1 => min (setField s lt set 0x14 2) (setNeurons s lt set)
  | _ => 0

/-- Checks 1, 2, 5 and 8 of `me.sel` (R211): the first that fails. SELECT also names its scores. A SYNC object that the tile may not arrive at
fails check 2: the operation is refused when it starts (13, R331; which check is DEDUCED, log entry 54). KCHUNKS is
taken as it stands, whatever it is (DESIGN CHOICE, log entry 54). -/
def selCheck (s : State) (lt : Nat) (i : MeItem) (bs : List Byte) : Option Nat :=
  let set := i.r1.toNat
  let f := setNeurons s lt set
  let select := i.payload % 2 == 0
  let range := fun a n => decide (a < 2 ^ 28) && permitted i.lv a n
  let o := setField s lt set 0x16 2
  (firstFail [(2, 0, setFieldsOk bs && (o == 0xFFFF || homeAccepts s (s.obj o) lt)),
    (4, 0, !select || i.r2.toNat % 4 == 0),
    (5, 0, decide (1 ≤ f) && decide (f ≤ 1048576)),
    (8, 0, permitted i.lv set 128 && range (listOf s lt set false).1 (4 * f) && range (listOf s lt set true).1 (4 * missRoom s lt set)
      && (!select || range i.r2.toNat (4 * f)))]).map Prod.fst

/-- SELECT (R211): the set closes, list 0 is written, the counts start from zero. -/
def predSelect (s : State) (lt : Nat) (i : MeItem) : State × Option DataFail :=
  let set := i.r1.toNat
  let s0 := predClose s lt set
  match memRead s0 lt i.r2.toNat (4 * setNeurons s0 lt set) with
  | (s1, .error e) => (s1, some (memFail e))
  | (s1, .ok bs) =>
    let scores := (List.range (setNeurons s1 lt set)).map (fun k => fieldAt bs (4 * k) 4)
    let sel := selectNeurons (setMode s1 lt set) (BitVec.ofNat 32 (setField s1 lt set 8 4)) (setField s1 lt set 0xC 2) scores
    match memWrite s1 lt (listOf s1 lt set false).1 ((sel.map (leBytes 4)).flatten) with
    | (s2, some e) => (s2, some (memFail e))
    | (s2, none) =>
      match memWrite s2 lt (set + 0x2C) (leBytes 4 sel.length ++ List.replicate 16 0 ++ leBytes 4 (palStep s2 lt)) with
      | (s3, some e) => (s3, some (memFail e))
      | (s3, none) =>
        (modMe (setSetField s3 lt set 5 1 1) lt (fun m => { m with preds := m.preds ++ [⟨set, 0, 0, 0, [], false, false, 0⟩] }), none)

/-! ### Verification -/

/-- The neurons that SELECT left out, in increasing order. -/
def skipped (s : State) (lt set : Nat) : List Nat :=
  let l := listOf s lt set false
  let sel := (List.range l.2).map (listEntry s lt l.1)
  (List.range (setNeurons s lt set)).filter (fun n => !sel.contains n)

/-- How many skipped neurons VERIFY requires (Table 8.7). -/
def required (s : State) (lt set skips : Nat) : Nat :=
  match setPolicy s lt set with
  | 0 => skips
  | 1 => ceilDiv (skips * setField s lt set 0xE 2) 65535
  | _ => 0

/-- `n` values of a shadow operand in MXFP4 (R214): packed elements and scales, each read from memory. -/
def shadowRow (s : State) (lt : Nat) (p : PalCfg) (off soff n : Nat) (perElem : Bool) : State × Except DataFail (List FVal) :=
  if !visible off (n / 2) || !visible soff (if perElem then n else n / 32) then (s, .error (stProtFault, off, 0))
  else
    match memRead s lt off ((n + 1) / 2) with
    | (s1, .error e) => (s1, .error (memFail e))
    | (s1, .ok bs) =>
      match memRead s1 lt soff (if perElem then n else ceilDiv n 32) with
      | (s2, .error e) => (s2, .error (memFail e))
      | (s2, .ok sc) => (s2, .ok ((List.range n).map (fun k =>
          (decodeElem 9 (unpackElem 4 bs k) (fieldAt sc (if perElem then k else k / 32) 1)).scale (-p.scaleExp))))

/-- The terms of each token for neuron `n`, chunk of 128 by chunk along K (R214). -/
def verifyTerms (lt n : Nat) (a b : TDesc) (pa pb : PalCfg) : Nat → State → Nat → List (List FVal) → State × Except DataFail (List (List FVal))
  | 0, s, _, acc => (s, .ok acc)
  | k + 1, s, j, acc =>
    match shadowRow s lt pa (a.base + n * a.stride + 64 * j) (a.scaleBase + n * a.scaleStride + 4 * j) 128 false with
    | (s1, .error e) => (s1, .error e)
    | (s1, .ok row) =>
      match readEach (fun st r => shadowRow st lt pb (b.base + r * b.stride) (b.scaleBase + r / 32 * b.scaleStride) b.cols true)
          128 s1 (128 * j) with
      | (s2, .error e) => (s2, .error e)
      | (s2, .ok rows) =>
        verifyTerms lt n a b pa pb k s2 (j + 1) ((List.range b.cols).map (fun t =>
          acc.getD t [] ++ rowTerms row (rows.map (fun r => some (r.getD t .zero)))))

/-- The shadow operands of a verification: descriptors of W1ᵀ and Xᵀ with their Palette entries as they were read (R214; 07, R183). -/
structure Shadows where
  a : TDesc
  b : TDesc
  pa : PalCfg
  pb : PalCfg

/-- The shadow descriptors of a set and their entries are read; also their bytes. -/
def readShadows (s : State) (lt set : Nat) : State × Except DataFail (Shadows × List Byte × List Byte) :=
  let sa := setField s lt set 0x20 4
  let sb := setField s lt set 0x24 4
  if !visible sa 64 || !visible sb 64 then (s, .error (stProtFault, sa, 0))
  else
    match memRead s lt sa 64 with
    | (s1, .error e) => (s1, .error (memFail e))
    | (s1, .ok da) =>
      match memRead s1 lt sb 64 with
      | (s2, .error e) => (s2, .error (memFail e))
      | (s2, .ok db) => (s2, .ok (⟨tdesc da, tdesc db, palCfg s2 lt (tdesc da).pal, palCfg s2 lt (tdesc db).pal⟩, da, db))

/-- One skipped neuron recomputed from the shadows with the arithmetic of R136 over K = 128 × KCHUNKS: whether it is a miss (R214). -/
def verifyNeuron (s : State) (lt set n : Nat) (x : Shadows) : State × Except DataFail Bool :=
  match verifyTerms lt n x.a x.b x.pa x.pb (setField s lt set 0x28 2) s 0 (List.replicate x.b.cols []) with
  | (s1, .error e) => (s1, .error e)
  | (s1, .ok ts) =>
    let th := fp32.decode (setField s1 lt set 0x10 4)
    (s1, .ok (ts.any (fun l =>
      let v := fp32.decode (dot .zero l)
      v.isNan || (!th.isNan && decide (v.abs.cmp th = 1)))))

/-- Verify neurons in order; each one counts in VERIFIED, a miss in MISSES, and a miss among the first `v` is kept for list 1
(R214, R215). -/
def verifyRun (lt set v : Nat) (x : Shadows) : State → List Nat → State × Option DataFail
  | s, [] => (s, none)
  | s, n :: r =>
    match verifyNeuron s lt set n x with
    | (s1, .error e) => (s1, some e)
    | (s1, .ok miss) =>
      let p := runOf s1 lt set
      let s2 := setSetField s1 lt set 0x30 4 (setField s1 lt set 0x30 4 + 1)
      let s3 := if miss then setSetField s2 lt set 0x34 4 (setField s2 lt set 0x34 4 + 1) else s2
      verifyRun lt set v x (setRun s3 lt { p with
        next := p.next + 1, verified := p.verified + 1, misses := p.misses + b2n miss
        listed := if miss && decide (p.next < v) then p.listed ++ [n] else p.listed, filled := 0 }) r

/-- The neurons of the group that a VERIFY verifies next: up to 128 of those its policy still requires (R214). -/
def verifyGroup (s : State) (lt : Nat) (i : MeItem) : List Nat :=
  (((skipped s lt i.r1.toNat).take i.rows).drop (runOf s lt i.r1.toNat).next).take 128

/-- An issue slot of a VERIFY: four rows of the shadow of W1ᵀ enter the array, a row for each neuron and chunk of the group; with the last of
them the group is verified (R214). -/
def issueVerify (s : State) (lt : Nat) (i : MeItem) : State :=
  let set := i.r1.toNat
  let g := verifyGroup s lt i
  let n := i.issued + 4
  let cnt := macCount 9 9
  let s1 := bumpCnt s lt cnt.1 cnt.2
  if n < g.length * setField s1 lt set 0x28 2 then modItem s1 lt i.slot (fun x => { x with issued := n })
  else
    let x : Shadows := ⟨i.dA, i.dD, i.cfgA, i.cfgD⟩
    match verifyRun lt set i.rows x s1 g with
    | (s2, some e) => modItem s2 lt i.slot (fun y => { y with issued := 0, failed := some ⟨e.1, 0, e.2.1, e.2.2, 0⟩ })
    | (s2, none) => modItem s2 lt i.slot (fun y => { y with issued := 0 })

/-- The end of a VERIFY: list 1 is written, the set is verified, and perhaps released (R215, R216). -/
def predVerify (s1 : State) (lt : Nat) (i : MeItem) : State × Option DataFail :=
  let set := i.r1.toNat
  let ms := (runOf s1 lt set).listed.take (missRoom s1 lt set)
  match memWrite s1 lt (listOf s1 lt set true).1 ((ms.map (leBytes 4)).flatten) with
  | (s2, some e) => (s2, some (memFail e))
  | (s2, none) => (predRelease (setSetField (setSetField s2 lt set 0x38 4 ms.length) lt set 5 1 3) lt set, none)

/-- The group of neurons that Underpainting verifies next for an open set (R214). -/
def backGroup (s : State) (lt : Nat) (p : PredRun) : List Nat := ((skipped s lt p.set).drop p.next).take 128

/-- The rows of that group: one for each neuron and chunk of K (R214). -/
def backRows (s : State) (lt : Nat) (p : PredRun) : Nat := (backGroup s lt p).length * setField s lt p.set 0x28 2

/-- Whether an open set has rows that Underpainting has not issued yet (R214; 16, R401). -/
def wantsFill (s : State) (lt : Nat) (p : PredRun) : Bool := !p.stopped && decide (p.filled < backRows s lt p)

/-- PRED_VERIFY_GROUP_DONE (R214, R217; 16, R401): the next group of an open set, whose rows Underpainting has issued, is verified; a failure
stops the set's background work at the count reached. -/
def execPredVerifyGroupDone (lt : Nat) (set : BitVec 28) (s : State) : Out :=
  onTile lt s (fun s =>
    let k := set.toNat
    if !(meOf s lt).preds.any (fun p => p.set == k && !p.stopped) || unitsStop s lt || wantsFill s lt (runOf s lt k) then s
    else
      let sk := skipped s lt k
      let stop := fun s => setRun s lt { runOf s lt k with stopped := true }
      match readShadows s lt k with
      | (s1, .error _) => stop s1
      | (s1, .ok x) =>
        match verifyRun lt k (required s1 lt k sk.length) x.1 s1 (backGroup s1 lt (runOf s1 lt k)) with
        | (s2, none) => s2
        | (s2, some _) => stop s2)

end Sys2Proof.Machine
end

