-- ==== Sys2Proof/Machine/MeWrite.lean ====
section
/-!
DEFINITION. Write-back: STORE, ADD, RESID, PRUNE and scores, row by row, and what the Study unit measures of it (06, R146 to
R151, R156, R159; 07, R173 to R186, R193 to R195; 08, R206 to R209, R216).
-/
namespace Sys2Proof.Machine

open Sys2Proof

/-! ### Rows of D -/

/-- The random bits of element (r, c) of D (06, R143, R150). -/
def dRandom (s : State) (lt : Nat) (d : TDesc) (r c : Nat) : Nat := tileRandom s lt d.tid (d.index r c)

/-- Values converted into a row of D: element bytes, scale bytes, what the conversions count. -/
def convRow (s : State) (lt : Nat) (p : PalCfg) (d : TDesc) (r : Nat) (vs : List FVal) : List Byte × List Byte × Tally :=
  if isMx p.format then
    let x := convBlocks p (dRandom s lt d r) 5 0 vs Tally.none
    (packElems (elemBits p.format) x.1, x.2.1.map (BitVec.ofNat 8), x.2.2)
  else
    let x := convRun p (dRandom s lt d r) 0 vs Tally.none
    (packElems (elemBits p.format) x.1, [], x.2)

/-- The bytes of a range become a mixture of the old and the new, in the banks that are on: which byte is which is open (R159;
log entry 2). -/
def mixStore (s : State) (lt off : Nat) (bs : List Byte) : State :=
  let pick := s.freeBytes bs.length
  (List.range bs.length).foldl (fun st i =>
    if (wordBlocked st lt ((off + i) / 8)).isNone && (pick.getD i 0).toNat % 2 == 1 then memStore st lt (off + i) [bs.getD i 0]
    else st) s.drawn

/-- Bytes written at two places, the first then the second; on a failure the row is partly written, or undefined where `undef`
says so (R159). -/
def writeTwo (s : State) (lt : Nat) (undef : Bool) (a : Nat) (bs : List Byte) (b : Nat) (cs : List Byte) : State × Option DataFail :=
  let spoil := fun (s : State) =>
    if undef then scramble (scramble s lt a bs.length) lt b cs.length else mixStore (mixStore s lt a bs) lt b cs
  match memWrite s lt a bs with
  | (s1, some e) => (spoil s1, some (memFail e))
  | (s1, none) =>
    if cs.isEmpty then (s1, none)
    else
      match memWrite s1 lt b cs with
      | (s2, some e) => (spoil s2, some (memFail e))
      | (s2, none) => (s2, none)

/-- A row of values converted and written through D's entry (Table 6.5, STORE and ADD). -/
def storeRow (s : State) (lt : Nat) (i : MeItem) (undef : Bool) (r : Nat) (vs : List FVal) : State × Option DataFail :=
  let d := i.dD
  let x := convRow s lt i.cfgD d r vs
  match writeTwo s lt undef (d.base + r * d.stride) x.1 (d.scaleBase + r * d.scaleStride) x.2.1 with
  | (s1, some e) => (s1, some e)
  | (s1, none) => (applyTally s1 lt i.cfgD.n x.2.2, none)

/-- A row of FP32+C elements written in its two planes (Table 6.5, RESID). -/
def storePairs (s : State) (lt : Nat) (d : TDesc) (r : Nat) (ps : List (Nat × Nat)) : State × Option DataFail :=
  writeTwo s lt true (d.base + r * d.stride) ((ps.map (fun p => leBytes 4 p.1)).flatten) (d.scaleBase + r * d.scaleStride)
    ((ps.map (fun p => leBytes 2 p.2)).flatten)

/-- Rows written one after the other: how many were, and what stopped them. -/
def eachRow (f : State → Nat → State × Option DataFail) : Nat → State → Nat → State × Nat × Option DataFail
  | 0, s, _ => (s, 0, none)
  | n + 1, s, r =>
    match f s r with
    | (s1, some e) => (s1, 0, some e)
    | (s1, none) =>
      let x := eachRow f n s1 (r + 1)
      (x.1, x.2.1 + 1, x.2.2)

/-! ### The pruning unit's output -/

/-- The kept indices of a group's columns: by magnitude, or those of a frozen mask (R206, R207). -/
def groupKept (d : TDesc) (frozen : Option (List Byte)) (vals : List (List Nat)) (c : Nat) : List Nat :=
  match frozen with
  | some row =>
    let e := metaEntry d row c
    e.2.take e.1
  | none => keptIndices d.groupN (vals.map (fun r => fp32.decode (r.getD c 0)))

/-- Compressed row `q` of a group (R203, R206): each column's slot, converted at its logical position. -/
def compressedRow (s : State) (lt : Nat) (i : MeItem) (g : Nat) (kept : List (List Nat)) (vals : List (List Nat)) (slot : Nat) :
    List Nat × Tally :=
  let d := i.dD
  (List.range d.cols).foldl (fun a c =>
    match (kept.getD c [])[slot]? with
    | none => (a.1 ++ [0], a.2)
    | some k =>
      let x := convElem i.cfgD (dRandom s lt d (g * d.groupM + k) c) (fp32.decode ((vals.getD k []).getD c 0)) a.2
      (a.1 ++ [x.1], x.2)) ([], Tally.none)

/-- Group `g` of D written: its compressed rows and its metadata row (R203, R206). -/
def storeGroup (lt : Nat) (i : MeItem) (g0 : Nat) (vals : List (List Nat)) (mask : Option (List (List Byte))) (s : State) (g : Nat) :
    State × Option DataFail :=
  let d := i.dD
  let vs := (vals.drop ((g - g0) * d.groupM)).take d.groupM
  let frozen := mask.map (fun m => m.getD (g - g0) [])
  let kept := (List.range d.cols).map (groupKept d frozen vs)
  let rows := (List.range d.groupN).map (compressedRow s lt i g kept vs)
  let es := kept.map (fun ks => (ks.length, ks))
  let w := rows.zipIdx.foldl (fun (a : State × Option DataFail) x =>
    match a.2 with
    | some _ => a
    | none => writeTwo a.1 lt false (d.base + (g * d.groupN + x.2) * d.stride) (packElems (elemBits i.cfgD.format) x.1.1) 0 []) (s, none)
  match w with
  | (s1, some e) => (s1, some e)
  | (s1, none) =>
    match memWrite s1 lt (d.metaBase + g * d.metaRow) (metaRowBytes d es) with
    | (s2, some e) => (s2, some (memFail e))
    | (s2, none) => (rows.foldl (fun st x => applyTally st lt i.cfgD.n x.2) s2, none)

/-- The mask that a block's pruning keeps, none where it is recomputed (R207). -/
def maskFor (s : State) (lt : Nat) (i : MeItem) (b : Nat) : State × Except DataFail (Option (List (List Byte))) :=
  if i.remask then (s, .ok none)
  else
    match readMask s lt i.dD b with
    | (s1, .error e) => (s1, .error e)
    | (s1, .ok m) => (s1, .ok (some m))

/-! ### What the Study unit measures -/

/-- The exponent of the spacing of D's format at a reference, with its scales (07, R193). -/
def ulpExp (p : PalCfg) (sc : Nat) (ref : FVal) : Int :=
  let k : Int := if isMx p.format then (sc : Int) - 127 else 0
  let q : Int := match floatOf p.format with
    | some f =>
      match ref.scale (p.scaleExp - k) with
      | .fin _ m e => if m = 0 then f.qmin else if f.exceeds m e then f.top.2 else f.spacing m e
      | _ => f.top.2
    | none => if p.format = 10 then -6 else 0
  q - p.scaleExp + k

/-- The distance of D from its reference in units of the spacing, truncated and saturated (R193). -/
def ulpDistance (p : PalCfg) (sc : Nat) (d ref : FVal) : Nat :=
  match d.add false ref.neg with
  | .fin _ m e => min 65535 (roundAt .zero false m e (ulpExp p sc ref)).1
  | _ => 65535

/-- A value rounded to FP64, to nearest even. -/
def r64 (v : FVal) : FVal := fp64.decode (fp64.result .near v).1

/-- The sum of the squares of values in FP64, in their order (log entry 54). -/
def sumSquares (vs : List FVal) : FVal := vs.foldl (fun a v => r64 (a.add false (r64 (v.mul v)))) .zero

/-- The FP64 square root of a value that is not negative. -/
def sqrt64 (v : FVal) : FVal :=
  match v with
  | .fin _ m e =>
    if m = 0 then .zero
    else
      let k : Nat := 120 + (if (e - 120) % 2 = 0 then 0 else 1)
      let q := m * 2 ^ k
      let r := isqrt q
      r64 (.fin false (2 * r + b2n (r * r != q)) ((e - (k : Int)) / 2 - 1))
  | x => x

/-- The FP64 quotient of values that are not negative. -/
def div64 (a b : FVal) : FVal :=
  match a, b with
  | .fin _ m e, .fin _ n f =>
    if n = 0 then (if m = 0 then .nan else .inf false)
    else
      let k : Nat := 120 + Nat.log2 n
      r64 (.fin false (2 * (m * 2 ^ k / n) + b2n (m * 2 ^ k % n != 0)) (e - f - (k : Int) - 1))
  | .nan, _ => .nan
  | _, .nan => .nan
  | .inf _, .inf _ => .nan
  | .inf _, _ => .inf false
  | _, .inf _ => .zero

/-- The relative Frobenius error of a block, computed in FP64 and rounded to BF16 (R193): 0 when both norms are zero, +∞ when only the
reference's is. -/
def frobenius (ds refs : List FVal) : Nat :=
  let diff := sqrt64 (sumSquares ((ds.zip refs).map (fun x => r64 (x.1.add false x.2.neg))))
  let base := sqrt64 (sumSquares refs)
  if base.isZero then (if diff.isZero then 0 else if diff.isNan then bf16.nan else bf16.inf false)
  else (bf16.result .near (div64 diff base)).1

/-- Element (r, c) of D as memory holds it, decoded, with its scale byte. -/
def peekD (s : State) (lt : Nat) (i : MeItem) (r c : Nat) : Nat × FVal :=
  let d := i.dD
  let w := elemBits i.cfgD.format
  let bs := memBytes (s.tile lt).mem (d.base + r * d.stride + c * w / 8) ((w + 7) / 8)
  let x := if w = 4 then (leNat bs / (if c % 2 = 0 then 1 else 16)) % 16 else leNat bs
  let sc := if isMx i.cfgD.format then (memGet (s.tile lt).mem (d.scaleBase + r * d.scaleStride + c / 32)).toNat else 0
  (sc, decodeThrough i.cfgD x sc)

/-- The elements of a sampled block that exist: row, column, reference (R192, R193). -/
def sampledElems (i : MeItem) (rb cb : Nat) : List (Nat × Nat × Nat) :=
  ((List.range 8).flatMap (fun a => (List.range 8).map (fun b => (8 * rb + a, 8 * cb + b, kvGet 0 i.refs (8 * a + b))))).filter
    (fun x => decide (x.1 < i.rows) && decide (x.2.1 < i.dD.cols))

/-- References with D's prior values added, under ADD (R193). -/
def addPrior (s : State) (lt : Nat) (i : MeItem) : MeItem :=
  match i.sample with
  | some (rb, cb) =>
    if i.wb = 2 then
      { i with refs := (sampledElems i rb cb).foldl (fun k x => kvSet k (8 * (x.1 % 8) + x.2.1 % 8)
        (fp64.result .near ((fp64.decode x.2.2).add false (peekD s lt i x.1 x.2.1).2)).1) i.refs }
    else i
  | none => i

/-- A sample's block has been written: its measures are known (R193). -/
def fillSample (s : State) (lt handle ulp fro : Nat) (nan : Bool) : State :=
  s.modRegion (regionOf s lt) (fun g => { g with samples := g.samples.map (fun x =>
    if !x.ready && x.lt == lt && x.handle == handle then { x with ready := true, ulp := ulp, fro := fro, nan := nan } else x) })

/-- The measures of an item's sample, once its block has been written (R193). -/
def takeSample (s : State) (lt : Nat) (i : MeItem) (b : Nat) : State :=
  match i.sample with
  | some (rb, cb) =>
    if rb / 16 = b then
      let es := (sampledElems i rb cb).map (fun x => (peekD s lt i x.1 x.2.1, fp64.decode x.2.2))
      let nan := es.any (fun x => x.1.2.isNan || x.2.isNan)
      let ulp := if nan then 65535 else (es.map (fun x => ulpDistance i.cfgD x.1.1 x.1.2 x.2)).foldl max 0
      let fro := if nan then bf16.nan else frobenius (es.map (fun x => x.1.2)) (es.map (fun x => x.2))
      fillSample s lt i.handle ulp fro nan
    else s
  | none => s

/-! ### A block -/

/-- The FP32 results of block `b` of an item, by row. -/
def blockValues (m : MeState) (i : MeItem) (b cols : Nat) : List (List Nat) :=
  (List.range (blockLen i.rows b)).map (fun r => (List.range cols).map (fun c => accWord m (accIdx (i.setOf b) r c)))

/-- Whether the block's words of its set are in error (R156). -/
def blockMeetsErr (m : MeState) (i : MeItem) (b cols : Nat) : Bool :=
  m.accErrs.any (fun w => (List.range (blockLen i.rows b)).any (fun r =>
    decide (accIdx (i.setOf b) r 0 / 2 ≤ w) && decide (w ≤ accIdx (i.setOf b) r (cols - 1) / 2)))

/-- How many columns of results a block has: N of its plane, or COLS of D for a drain (R148). -/
def MeItem.resultCols (i : MeItem) : Nat :=
  if i.drain then i.dD.cols else match i.plane with | some p => p.n | none => i.dD.cols

/-- The rows of a block disposed of by its write-back mode (Table 6.5): how many were written, and what stopped them. -/
def writeBlock (s : State) (lt : Nat) (i : MeItem) (b : Nat) (vals : List (List Nat)) : State × Nat × Option DataFail :=
  let r0 := 128 * b
  let n := vals.length
  let row := fun r => (vals.getD (r - r0) []).map (fun x => fp32.decode x)
  match i.wb with
  | 2 =>
    match readEach (readDRow lt i.cfgD i.dD) n s r0 with
    | (s1, .error e) => (s1, 0, some e)
    | (s1, .ok ds) =>
      eachRow (fun st r => storeRow st lt i true r
        (((ds.getD (r - r0) []).zip (row r)).map (fun x =>
          fp32.decode (toFp32 ((fp32.decode (toFp32 x.1)).add false x.2))))) n s1 r0
  | 3 =>
    match readEach (readPairs lt i.dD) n s r0 with
    | (s1, .error e) => (s1, 0, some e)
    | (s1, .ok ps) =>
      eachRow (fun st r => storePairs st lt i.dD r
        (((ps.getD (r - r0) []).zip (vals.getD (r - r0) [])).map (fun x => fp32cAdd x.1.1 x.1.2 x.2))) n s1 r0
  | 4 =>
    let g := blockGroups i.dD b
    match maskFor s lt i b with
    | (s1, .error e) => (s1, 0, some e)
    | (s1, .ok mask) =>
      let x := eachRow (storeGroup lt i g.1 vals mask) g.2 s1 g.1
      (x.1, min n (x.2.1 * i.dD.groupM), x.2.2)
  | _ =>
    if i.wop = wopPred then
      eachRow (fun st r => storeRow st lt i false r [fp32.decode (rowScore (meAbs i.payload) (vals.getD (r - r0) []))]) n s r0
    else eachRow (fun st r => storeRow st lt i false r (row r)) n s r0

/-- The rows that an item on list 1 has corrected are counted in its set (R216). -/
def countCorrected (s : State) (lt : Nat) (i : MeItem) (n : Nat) : State :=
  if i.wop = wopPr ∧ i.drain = false ∧ i.dA.layout = 7 ∧ nbit i.dA.metaStride 24 = true ∧ 1 ≤ i.wb ∧ i.wb ≤ 3 ∧ n ≠ 0 then
    let set := i.dA.metaBase
    predRelease (setSetField s lt set 0x3C 4 ((setField s lt set 0x3C 4 + n) % 2 ^ 32)) lt set
  else s

/-- Block `b` of an item is written back (R150, R151, R156): its progress advances by the rows written; a failure is kept. -/
def writeBack (s : State) (lt : Nat) (i0 : MeItem) (b : Nat) : State :=
  let m := meOf s lt
  let i := addPrior s lt i0
  let cols := i.resultCols
  if i.wop != wopPrune && blockMeetsErr m i b cols then
    modItem (accUncorr s lt (i.setOf b)) lt i.slot (fun x => { x with failed := some ⟨stEccUncorr, 0, 0, 0, b⟩ })
  else
    let vals := if i.wop = wopPrune then
        (((i.staged.find? (fun x => x.1 == b)).map Prod.snd).getD []).map (fun r => r.map toFp32)
      else blockValues m i b cols
    let x := writeBlock s lt i b vals
    let s1 := modItem x.1 lt i.slot (fun y => { y with
      done := 128 * b + x.2.1
      staged := if y.wop = wopPrune then y.staged.filter (fun z => z.1 != b) else y.staged
      issued := if y.wop = wopPrune ∧ x.2.2.isNone then 128 * b + x.2.1 else y.issued
      failed := match x.2.2 with
        | some e => some ⟨e.1, 0, e.2.1, e.2.2, b⟩
        | none => y.failed })
    let s2 := countCorrected s1 lt i x.2.1
    if x.2.2.isNone then takeSample s2 lt i b else s2

end Sys2Proof.Machine
end

