-- ==== Sys2Proof/Machine/MeCtl.lean ====
section
/-!
DEFINITION. The events of the Matrix Engine and its control register: start, load, fill, staging, issue, write-back,
completion; release, abort, save, restore, discard (06, R144 to R169).
-/
namespace Sys2Proof.Machine

open Sys2Proof

/-! ### Start -/

/-- A VERIFY starts: its set is marked, and the shadows are read where its policy still requires neurons (08, R214, R215, R217; 07, R183). -/
def startVerify (s : State) (lt : Nat) (i : MeItem) : State :=
  let set := i.r1.toNat
  let v := required s lt set (skipped s lt set).length
  let s1 := setSetField (modItem s lt i.slot (fun x => { x with started := true, checked := true, rows := v })) lt set 5 1 2
  if v ≤ (runOf s1 lt set).next then s1
  else
    match readShadows s1 lt set with
    | (s2, .error e) => meFault s2 lt i e.1 0 0 e.2.1 e.2.2
    | (s2, .ok (x, da, db)) => modItem s2 lt i.slot (fun y => { y with descA := da, descD := db, cfgA := x.pa, cfgD := x.pb })

/-- `me.sel` starts: its checks; a VERIFY marks its set (08, R211, R214). -/
def startSel (s : State) (lt : Nat) (i : MeItem) : State :=
  let set := i.r1.toNat
  if !descAddrOk i.lv set then meFault s lt i stProtFault 1 0 set 0
  else
    match memRead s lt set 128 with
    | (s1, .error e) => meFault s1 lt i e.1 0 0 set 0
    | (s1, .ok bs) =>
      match selCheck s1 lt i bs with
      | some k => meFault s1 lt i stProtFault k 0 set 0
      | none =>
        if i.payload % 2 = 1 then startVerify s1 lt i
        else modItem s1 lt i.slot (fun x => { x with started := true, checked := true })

/-- ME_ITEM_START (R152, R155): the next item of the queue starts, where it may. -/
def execMeItemStart (lt : Nat) (s : State) : Out :=
  onTile lt s (fun s =>
    match (meOf s lt).items.find? (fun i => !i.started) with
    | some i =>
      if mayStart s lt i && !setNotReady s lt i then meSettle (if i.wop = wopSel then startSel s lt i else startItem s lt i) lt else s
    | none => s)

/-! ### Loads, fills, staging -/

/-- The buffer that a weight load leaves (R144). -/
def loadedBuf (old : MeBuf) (p : PalCfg) (d : TDesc) (vals : List (List (Option FVal))) : MeBuf :=
  { num := old.num, valid := true, gen := old.gen + 1, k := d.rows, n := d.cols, format := p.format, layout := d.layout,
    pn := if d.layout = 6 then d.groupN else 0, pm := if d.layout = 6 then d.groupM else 0, vals := vals }

/-- A weight load ends (R144; 08, R205): the buffer holds it, or is left not VALID and the item ends with the failure. -/
def finishLoad (s : State) (lt : Nat) (i : MeItem) : State :=
  let b := meWbuf i.payload
  match readB s lt i.lv i.cfgA i.dA with
  | (s1, .ok vals) =>
    meComplete (modMe s1 lt (fun m => m.setBuf b (loadedBuf (m.buf b) i.cfgA i.dA vals))) lt i stOk i.dA.rows
  | (s1, .error e) =>
    meFault (modMe s1 lt (fun m => m.setBuf b { m.buf b with valid := false, gen := (m.buf b).gen + 1 })) lt i e.1 0 0 e.2.1 e.2.2

/-- ME_WLOAD_DONE (R144, R145): not under an abort, which ends a load with ABORTED (R158). -/
def execMeWloadDone (lt : Nat) (s : State) : Out :=
  onTile lt s (fun s =>
    if (meOf s lt).stopping = some stAborted then s
    else match (meOf s lt).items.find? (fun i => i.wop == wopWload && i.reading) with
    | some i => settleStop (meSettle (checkWaiting (finishLoad s lt i) lt) lt) lt
    | none => s)

/-- Whether the shadow plane is free: no item holds a plane that is not active yet (R145). -/
def shadowFree (m : MeState) : Bool := m.items.all (fun i => match i.plane with
  | some p => i.issued != 0 || decide (p = m.active)
  | none => true)

/-- ME_FILL_DONE (R145): the next item that needs a fill has its buffer copied into the shadow plane. -/
def execMeFillDone (lt : Nat) (s : State) : Out :=
  onTile lt s (fun s =>
    let m := meOf s lt
    match m.items.find? (fun i => i.isRows && i.plane.isNone) with
    | some i =>
      if i.wantsPlane && shadowFree m then
        meSettle (modItem s lt i.slot (fun x => { x with plane := some (m.buf (meWbuf i.payload)) })) lt
      else s
    | none => s)

/-- The item whose next block is to be staged: in queue order, two blocks at most are staged (R149; 08, R208). -/
def stagingItem (m : MeState) : Option MeItem :=
  match m.items.find? (fun i => (i.isRows || i.wop == wopPrune) && !(i.checked && (i.stagedTo == blockCount i.rows || i.failed.isSome))) with
  | some i => if i.started && i.checked && decide ((m.items.map (fun x => x.staged.length)).foldl (· + ·) 0 < 2) then some i else none
  | none => none

/-- ME_BLOCK_STAGED (R149, R156): the next block is read and checked; a failure is kept with its block. -/
def execMeBlockStaged (lt : Nat) (s : State) : Out :=
  onTile lt s (fun s =>
    if meStopping s lt || unitsStop s lt then s
    else
      match stagingItem (meOf s lt) with
      | none => s
      | some i =>
        let b := i.stagedTo
        let fail := fun (s : State) (e : DataFail) => modItem s lt i.slot (fun x => { x with failed := some ⟨e.1, 0, e.2.1, e.2.2, b⟩ })
        match readABlock s lt i.lv i.cfgA i.dA b with
        | (s1, .error e) => fail s1 e
        | (s1, .ok rows) =>
          let ok := fun s => modItem s lt i.slot (fun x => { x with staged := x.staged ++ [(b, rows)], stagedTo := b + 1 })
          if i.wb = 4 then
            match maskFor s1 lt i b with
            | (s2, .error e) => fail s2 e
            | (s2, .ok _) => ok s2
          else ok s1)

/-! ### Issue -/

/-- Whether a tile has job rows left to issue (16, R402): of an item, or of a VERIFY. -/
def jobRowsLeft (m : MeState) : Bool := m.items.any (fun i => i.isRows && decide (!i.started || i.issued < i.rows) || m.verifying i)

/-- Whether an issue slot without a job row takes an Underpainting row (16, R401, R403, R407; 08, R214): up to the quota while the tile
holds and has no job row left to issue (R402), up to the filler gate while its region ramps, and elsewhere for verification; none once its
region halts. -/
def underpaints (s : State) (lt : Nat) : Bool :=
  let t := s.tile lt
  if s.tbit lt regPwrStatus 3 then false
  else if s.tbit lt regPwrStatus 0 && !jobRowsLeft (meOf s lt) then decide (t.winFill < s.tfld lt regPwrStatus 14 8)
  else if s.tbit lt regPwrStatus 1 then decide (t.winJob + t.winFill < t.fillGate)
  else (meOf s lt).preds.any (wantsFill s lt)

/-- A slot is used by a job row or by an Underpainting row; the counts of the window of 64 cycles start again at cycle 0. -/
def slotUsed (s : State) (lt : Nat) (fill : Bool) : State :=
  s.modTile lt (fun t => { t with slotsUsed := t.slotsUsed + 1, winJob := t.winJob + b2n !fill, winFill := t.winFill + b2n fill })

/-- An Underpainting row group issues: four rows of activation-miss verification where an open set has them, else a synthetic row (R162; 16, R401). -/
def fillSlot (s : State) (lt : Nat) : State :=
  let s1 := bumpCnt (slotUsed s lt true) lt 3 1
  match (meOf s1 lt).preds.find? (wantsFill s1 lt) with
  | some p => setRun s1 lt { p with filled := p.filled + 4 }
  | none => s1

/-- The slots in force on a tile: the lower of CAP_SLOTS and DROOP_SLOTS (R161). -/
def slotsOf (s : State) (lt : Nat) : Nat := min (s.tfld lt regMeRate 14 8) (s.tfld lt regMeRate 22 16)

/-- One cycle of a window: in an issue slot a row group of the job issues where one is ready, else an Underpainting row (R161, R162); a VERIFY issues
its rows as job rows (08, R214). -/
def issueSlot (s : State) (lt c : Nat) : State :=
  if unitsStop s lt || (s.tile lt).asleep != 0 || !isIssueSlot (slotsOf s lt) c then s
  else
    match readyItem (meOf s lt) with
    | some i =>
      if i.wop = wopSel then (if meStopping s lt then s else issueVerify (slotUsed s lt false) lt i)
      else if meStopping s lt && i.issued % 128 == 0 then s
      else settleStop (issueGroup (slotUsed s lt false) lt i) lt
    | none => if underpaints s lt then fillSlot s lt else s

/-- ME_ISSUE_SLOT (R161, R162): cycle `c` of a window of 64. -/
def execMeIssueSlot (lt : Nat) (c : BitVec 6) (s : State) : Out :=
  onTile lt s (fun s => issueSlot (if c = 0 then s.modTile lt (fun t => { t with winJob := 0, winFill := 0 }) else s) lt c.toNat)

/-! ### Write-back and completion -/

/-- The item whose block is to be written back next, with the block, where it is ready (R148, R150, R152; 08, R208). An engine that stops
writes only the blocks that it has accumulated (R158, R164). -/
def writingItem (m : MeState) (stopping : Bool) : Option (MeItem × Nat) :=
  match (if stopping then m.items.find? MeItem.owesBlock
      else m.items.find? (fun i => i.writesBack && decide (i.done < i.rows) || !i.started)) with
  | some i =>
    let b := i.done / 128
    let ready := if i.wop = wopPrune then i.staged.any (fun x => x.1 == b)
      else if i.drain then (earlier m.items i.slot).all (fun x => !x.isRows || x.issued == x.rows)
      else decide (min i.rows (128 * (b + 1)) ≤ i.issued)
    if i.started && i.checked && ready && i.sound b then some (i, b) else none
  | none => none

/-- ME_BLOCK_WRITEBACK (R150): the next block of the queue is written back. -/
def execMeBlockWriteback (lt : Nat) (s : State) : Out :=
  onTile lt s (fun s =>
    if unitsStop s lt then s
    else
      match writingItem (meOf s lt) (meStopping s lt) with
      | some (i, b) => settleStop (writeBack s lt i b) lt
      | none => s)

/-- Whether an item has come to its end (R151, R156; 08, R211, R215). -/
def MeState.ended (m : MeState) (i : MeItem) : Bool :=
  i.started && i.checked && i.wop != wopWload &&
    (if i.wop = wopSel then !m.verifying i else (match i.failed with
      | some f => decide (128 * f.block ≤ i.done)
      | none => i.done == i.rows))

/-- The end of an item: `OK`, or the failure that ended it (R151, R156, R157); `me.sel` does its work (08, R211, R215). -/
def endItem (s : State) (lt : Nat) (i : MeItem) : State :=
  if i.wop = wopSel && i.failed.isNone then
    match (if i.payload % 2 = 0 then predSelect s lt i else predVerify s lt i) with
    | (s1, none) => meComplete s1 lt i stOk 0
    | (s1, some e) => meFault s1 lt i e.1 0 0 e.2.1 e.2.2
  else
    match i.failed with
    | some f => meFault s lt i f.status f.check i.done f.addr f.detail
    | none => meComplete s lt i stOk i.rows

/-- ME_ITEM_COMPLETE (R151). -/
def execMeItemComplete (lt : Nat) (s : State) : Out :=
  onTile lt s (fun s =>
    match (meOf s lt).items.find? (fun i => (meOf s lt).ended i && !(meStopping s lt && i.wop == wopSel)) with
    | some i => if unitsStop s lt then s else settleStop (meSettle (endItem s lt i) lt) lt
    | none => s)

/-! ### The control register -/

/-- A fault hold ends (R157). -/
def meRelease (s : State) (lt : Nat) : State := setMeBit s lt 11 false

/-- The engine stops at the end of the block that issues, and its items complete with a status (R158, R167). A halt sets SAVING, as step 1 of
R164 does. -/
def meStop (s : State) (lt : Nat) (st : Status) : State :=
  let s1 := if st = stAborted then s else setMeBit s lt 12 true
  settleStop (modMe s1 lt (fun m => { discardStaged m with stopping := some st })) lt

/-- SAVE (R164): refused while one of banks 0 to 26 is off. -/
def meSave (s : State) (lt : Nat) : State :=
  if meBit s lt 12 || meBit s lt 13 then s
  else if (List.range 27).any (fun b => (s.tile lt).bank b != .on) then setMeBit s lt 15 true
  else modMe (setMeBit s lt 12 true) lt discardStaged

/-- Save-area offset of byte `3,072 × p` of the save block (R165). -/
def savePart (p : Nat) : Nat := saveBase + p * 0x1000 + 0x400

/-- Offset of the control record (R165). -/
def saveRecord : Nat := 0x276B400

/-- BUFn_INFO (Table 6.8). -/
def bufInfo (b : MeBuf) : Nat := (b.k + 255) % 256 + (b.n + 255) % 256 * 2 ^ 8 + b.format * 2 ^ 16 + b.layout * 2 ^ 20

/-- The item that a SAVE finds running: started, with rows done, all of them perhaps (R164). -/
def runningItem (m : MeState) : Option MeItem := m.items.find? (fun i => i.started && decide (0 < i.done))

/-- ENGINE of the control record (Table 6.8). -/
def engineWord (s : State) (lt : Nat) : Nat :=
  let m := meOf s lt
  m.items.length + b2n (meBit s lt 11) * 2 ^ 7 + b2n m.buf0.valid * 2 ^ 8 + b2n m.buf1.valid * 2 ^ 9 + b2n (m.active.num == 1) * 2 ^ 10
    + b2n (s.tbit lt regMeCtrl 0) * 2 ^ 11 + s.tfld lt regMeInt 1 0 * 2 ^ 12

/-- An entry of QUEUE (Table 6.8). -/
def queueEntry (running : Bool) (i : MeItem) : List Byte :=
  leBytes 8 (i.word + i.payload * 2 ^ 32) ++ leBytes 8 i.r1.toNat ++ leBytes 8 i.r2.toNat ++ leBytes 4 (i.handle % 2 ^ 20)
    ++ leBytes 4 (1 + b2n running * 2)

/-- The control record (Table 6.8). -/
def controlRecord (s : State) (lt : Nat) : List Byte :=
  let m := meOf s lt
  let run := runningItem m
  let q := m.items.map (fun i => queueEntry (run.any (fun r => r.slot == i.slot)) i)
  leBytes 4 (engineWord s lt) ++ leBytes 4 (bufInfo m.buf0) ++ leBytes 4 (bufInfo m.buf1) ++ leBytes 4 0
    ++ (match run with
        | some i => leBytes 4 (i.handle % 2 ^ 20 + 2 ^ 31) ++ leBytes 2 i.done ++ leBytes 2 ((i.done / 128 + i.flip) % 2) ++ leBytes 8 0
            ++ slice i.descA 0 64 ++ slice i.descD 0 64
        | none => leBytes 16 0 ++ leBytes 128 0)
    ++ leBytes 96 0 ++ slice q.flatten 0 2048

/-- The save block: accumulator sets, then buffer images whose arrangement is implementation-defined (R165; log entry 2). -/
def saveBlock (s : State) (lt : Nat) : List Byte :=
  ((List.range 65536).map (fun k => leBytes 4 (accWord (meOf s lt) k))).flatten ++ s.freeBytes 65536

/-- An item that has ended completes before the engine is saved where its failure ends it, or where a later item is already running: the
running item itself is saved with its progress, a whole number of blocks or M (R164). -/
def completeEnded (s : State) (lt : Nat) : State :=
  (meOf s lt).items.foldl (fun st i =>
    let m := meOf st lt
    let after := (m.items.dropWhile (fun x => x.slot != i.slot)).drop 1
    if m.ended i && (i.failed.isSome || after.any (fun x => decide (0 < x.done))) then endItem st lt i else st) s

/-- An item as a SAVE keeps it: one that has issued no row, and a `me.sel`, return to the queue unchanged; a running item keeps its sample. -/
def MeItem.put (i : MeItem) : MeItem := (if i.wop = wopSel then { i with issued := 0 } else i).unstart

/-- The engine is saved (R164 step 4, R165): what the save area does not hold in a stated form stays with the engine. -/
def saveDone (s0 : State) (lt : Nat) : State :=
  let s := completeEnded s0 lt
  let blk := saveBlock s lt
  let rec1 := controlRecord s lt
  let s1 := (List.range 107).foldl (fun st p => memStore st lt (savePart p) ((blk.drop (3072 * p)).take 3072)) s.drawn
  let s2 := memStore s1 lt saveRecord rec1
  let s3 := (meOf s2 lt).items.foldl (fun x i => if i.sample.isSome then dropSample x lt i.handle else x) s2
  let s4 := modMe s3 lt (fun m => { m with items := [], saved := some ⟨m.items.map MeItem.put, m.buf0, m.buf1, m.active⟩ })
  setMeBit (setMeBit s4 lt 12 false) lt 13 true

/-- ME_SAVE_DONE (R164, R165). -/
def execMeSaveDone (lt : Nat) (s : State) : Out :=
  onTile lt s (fun s => if meBit s lt 12 && (meOf s lt).stopping.isNone && meQuiet (meOf s lt) && !unitsStop s lt then saveDone s lt else s)

/-- The byte of the save block at `j`, as the save area holds it (R165). -/
def savedByte (s : State) (lt j : Nat) : Byte := memGet (s.tile lt).mem (savePart (j / 3072) + j % 3072)

/-- A buffer as the control record describes it (Table 6.8, BUFn_INFO); its contents are the engine's own (R165). -/
def infoBuf (b : MeBuf) (valid : Bool) (w : Nat) : MeBuf :=
  { b with valid := valid, k := w % 2 ^ 8 + 1, n := w / 2 ^ 8 % 2 ^ 8 + 1, format := w / 2 ^ 16 % 2 ^ 4, layout := w / 2 ^ 20 % 2 ^ 4 }

/-- Entry `k` of QUEUE as an item (Table 6.8), with what the record does not hold, its level, its rs3 value and the Palette configuration it
read, from the engine's own copy; the running item goes on from its progress with the saved descriptor copies (R166). -/
def queuedItem (s : State) (lt : Nat) (sv : MeSave) (k : Nat) : Option MeItem :=
  let m := (s.tile lt).mem
  let e := memBytes m (saveRecord + 0x100 + 32 * k) 32
  let w := fieldAt e 0 4
  let h := fieldAt e 24 4 % 2 ^ 20
  let run := fieldAt (memBytes m (saveRecord + 0x10) 4) 0 4
  let old := sv.items.find? (fun i => i.handle % 2 ^ 20 == h)
  if fieldAt e 28 4 % 2 = 0 then none
  else
    let i := newItem (h % 2 ^ 8) h (w / 2 ^ 2 % 2 ^ 6) (fieldAt e 4 4) (BitVec.ofNat 32 w) (BitVec.ofNat 64 (fieldAt e 8 8))
      (BitVec.ofNat 64 (fieldAt e 16 8)) ((old.map (fun x => x.r3)).getD 0) (decide (w / 2 ^ 17 % 2 ^ 5 = 0)) ((old.map (fun x => x.lv)).getD .u)
    let i := { i with handle := (old.map (fun x => x.handle)).getD h, num := (old.map (fun x => x.num)).getD none
                      sample := (old.map (fun x => x.sample)).getD none }
    if run / 2 ^ 31 = 1 ∧ run % 2 ^ 20 = h then
      let a := memBytes m (saveRecord + 0x20) 64
      let d := memBytes m (saveRecord + 0x60) 64
      let rows := if i.isDrain then (tdesc d).rows else (tdesc a).rows
      let p := min rows (leNat (memBytes m (saveRecord + 0x14) 2))
      some { i with
        started := true, checked := true, descA := if i.isDrain then [] else a, descD := d
        cfgA := (old.map (fun x => x.cfgA)).getD (palCfg s lt (tdesc a).pal), cfgD := (old.map (fun x => x.cfgD)).getD (palCfg s lt (tdesc d).pal)
        rows := rows, done := p, issued := p, stagedTo := ceilDiv p 128, plane := (old.map (fun x => x.plane)).getD none
        remask := (old.map (fun x => x.remask)).getD true
        flip := (leNat (memBytes m (saveRecord + 0x16) 2) % 2 + p / 128) % 2 }
    else some i

/-- The sample of a running item joins the region's queue again, where its block is still to be written (07, R192, R195). -/
def requeueSample (s : State) (lt : Nat) (i : MeItem) : State :=
  match i.sample with
  | some blk =>
    if i.started && decide (i.done ≤ 8 * blk.1) then
      let x := drawSample s lt i blk
      modItem x.1 lt i.slot (fun y => { y with sample := x.2 })
    else s
  | none => s

/-- RESTORE (R166): the save block and the control record are reloaded. Items issued while the engine was saved follow the saved ones (DESIGN
CHOICE, log entry 54: the spec does not say what becomes of them). -/
def meRestore (s : State) (lt : Nat) : State :=
  match (meOf s lt).saved with
  | some sv =>
    let m := (s.tile lt).mem
    let eng := leNat (memBytes m saveRecord 4)
    let sets : KV Word := (List.range 65536).filterMap (fun k =>
      let w := leNat ((List.range 4).map (fun b => savedByte s lt (4 * k + b)))
      if w = 0 then none else some (k, BitVec.ofNat 32 w))
    let items := (List.range (min 64 (eng % 2 ^ 7))).filterMap (queuedItem s lt sv)
    let b0 := infoBuf sv.buf0 (nbit eng 8) (leNat (memBytes m (saveRecord + 4) 4))
    let b1 := infoBuf sv.buf1 (nbit eng 9) (leNat (memBytes m (saveRecord + 8) 4))
    let plane := if sv.active.num = b2n (nbit eng 10) then sv.active else if nbit eng 10 then b1 else b0
    let s1 := modMe s lt (fun e => { e with items := items ++ e.items, buf0 := b0, buf1 := b1, active := plane, sets := sets, accErrs := [], saved := none })
    let s2 := (s1.setTbit lt regMeCtrl 0 (nbit eng 11)).setTfld lt regMeInt 1 0 (nfld eng 13 12)
    setMeBit (setMeBit (items.foldl (fun x i => requeueSample x lt i) s2) lt 11 (nbit eng 7)) lt 13 false
  | none => s

/-- Sets and buffers as a job load leaves them (R168). -/
def MeState.cleared (m : MeState) : MeState :=
  { m with
    sets := [], accErrs := [], buf0 := { m.buf0 with valid := false }, buf1 := { m.buf1 with valid := false }
    active := MeBuf.empty 0, saved := none }

/-- DISCARD (R166): saved items complete with PREEMPTED at their saved progress. -/
def meDiscard (s : State) (lt : Nat) : State :=
  match (meOf s lt).saved with
  | some sv =>
    let s1 := modMe (sv.items.foldl (fun st i => meComplete st lt i stPreempted i.done) s) lt MeState.cleared
    setMeBit s1 lt 13 false
  | none => s

/-- A write of ME_CTRL (R169): RELEASE and ABORT from S or M, SAVE, RESTORE and DISCARD from M only. -/
def writeMeCtrl (s : State) (lt : Nat) (lv : Level) (v : Word) : State :=
  let s0 := s.setTbit lt regMeCtrl 0 (bit v 0)
  let s1 := if bit v 1 then meRelease s0 lt else s0
  let s2 := if bit v 2 then meStop s1 lt stAborted else s1
  if lv = .m then
    let s3 := if bit v 3 then meSave s2 lt else s2
    let s4 := if bit v 4 then meRestore s3 lt else s3
    if bit v 5 then meDiscard s4 lt else s4
  else s2

/-- ME_RELEASE (R157). -/
def execMeRelease (lt : Nat) (lv : Level) (s : State) : Out := regCommand lt lv (fun s => meRelease s lt) s

/-- ME_ABORT (R158). -/
def execMeAbort (lt : Nat) (lv : Level) (s : State) : Out := regCommand lt lv (fun s => meStop s lt stAborted) s

/-- ME_SAVE (R164, R169). -/
def execMeSave (lt : Nat) (lv : Level) (s : State) : Out := regCommand lt lv (fun s => if lv = .m then meSave s lt else s) s

/-- ME_RESTORE (R166, R169). -/
def execMeRestore (lt : Nat) (lv : Level) (s : State) : Out := regCommand lt lv (fun s => if lv = .m then meRestore s lt else s) s

/-- ME_DISCARD (R166, R169). -/
def execMeDiscard (lt : Nat) (lv : Level) (s : State) : Out := regCommand lt lv (fun s => if lv = .m then meDiscard s lt else s) s

/-- Job load empties the engine (R168); ME_RATE stays. -/
def meJobLoad (s : State) (lt : Nat) : State :=
  let s1 := modMe s lt (fun _ => MeState.reset)
  [regMeCtrl, regMeStatus, regMeInt, regMeFaultItem, regMeFaultProg, regMeFaultAddr, regMeFaultDetail].foldl (fun st r => st.setTreg lt r 0) s1

end Sys2Proof.Machine
end

