-- ==== Sys2Proof/Machine/ItemEnd.lean ====
section
/-!
DEFINITION. Ending every outstanding item of a tile with ABORTED: at the end of a job, and on an isolated tile whose units still run (12, R319,
R326; 14, R377).
-/
namespace Sys2Proof.Machine

open Sys2Proof

/-- The items of a tile that are outstanding: the busy slots of its slot tables. -/
def busyCount (t : Tile) : Nat := (t.slots.filter (fun p => p.2.busy)).length

/-- The writes of a tile that have begun on the way to another module are ended with ABORT (14, R377). -/
def abortForeign (s : State) (lt : Nat) : State :=
  (s.tile lt).reqs.foldl (fun st p => if p.2.phase == .sent && reqForeign st p.2 then fabAbort st lt p.2.msg.reqTag else st) s

/-- Every outstanding item of a tile ends with ABORTED (R319). -/
def endTileItems (s : State) (lt : Nat) : State :=
  let s1 := modMe (completeAll s lt stAborted) lt (fun m => { m with items := [], stopping := none, preds := [] })
  let saved := match (s1.tile lt).me.saved with
    | some v => v.items
    | none => []
  let s2 := modMe (saved.foldl (fun x i => meComplete x lt i stAborted i.done) s1) lt (fun m => { m with saved := none })
  let s3 := (s2.tile lt).rtu.foldl (fun x i => endRtu x lt { i with flying := [] } stAborted) s2
  let s4 := ((s3.tile lt).dma ++ (s3.tile lt).dmaSaved).foldl (fun x i => endDma x lt i stAborted 0) s3
  let s5 := (s4.tile lt).xacts.foldl (fun x p => endXact x lt p.1 p.2 stAborted) s4
  let s6 := (s5.tile lt).sk.items.foldl (fun x i => endSk x lt i stAborted 0) s5
  let s7 := (abortForeign (endBatches s6 lt stAborted) lt).modTile lt (fun t => { t with reqs := [], dmaSaved := [] })
  s7.setMfld (regFabUse lt) 16 0 0

end Sys2Proof.Machine
end

