-- ==== Sys2Proof/Machine/Preempt.lean ====
section
/-!
DEFINITION. Whole-tile pre-emption (04, R116; 12, R322 to R327).
-/
namespace Sys2Proof.Machine

open Sys2Proof

/-! ### The save area -/

/-- Byte `j` of a region that starts at part `p` (R323). -/
def regionByte (p j : Nat) : Nat := saveBase + (p + j / 3072) * 0x1000 + 0x400 + j % 3072

/-- The bytes of a region of the save area (R323). -/
def regionBytes (s : State) (lt p n : Nat) : List Byte :=
  (List.range n).map (fun j => memGet (s.tile lt).mem (regionByte p j))

/-- The state with bytes stored in a region of the save area (R323). -/
def storeRegion (s : State) (lt p : Nat) (bs : List Byte) : State :=
  (List.range (ceilDiv bs.length 3072)).foldl (fun st k => memStore st lt (regionByte p (3072 * k)) ((bs.drop (3072 * k)).take 3072)) s

/-- Bits of TILE_PRE_STATUS (12). -/
def preBit (s : State) (lt i : Nat) : Bool := s.tbit lt regTilePreStatus i

/-- The state with a bit of TILE_PRE_STATUS set: 0 SAVING, 1 SAVED, 2 REFUSED. -/
def setPreBit (s : State) (lt i : Nat) (b : Bool) : State := s.setTbit lt regTilePreStatus i b

/-! ### Lane-core state -/

/-- The offset of the part of lane core `n` (Table 4.11). -/
def lanePart (n : Nat) : Nat := saveBase + 0x1000 * n

/-- The code of a lane core's state in Table 4.11. -/
def laneCode (l : LaneCore) : Nat :=
  match l.st with
  | .running => 0
  | .fault => 2
  | _ => 1

/-- The saved state of a lane core (Table 4.11). -/
def laneImage (l : LaneCore) : List Byte :=
  leBytes 4 0 ++ ((l.g.toList.drop 1).map (fun w => leBytes 4 w.toNat)).flatten ++ (l.v.toList.map (fun w => leBytes 16 w.toNat)).flatten
    ++ leBytes 4 l.pc.toNat ++ leBytes 4 l.fcsr.toNat ++ leBytes 4 l.srTensor.toNat ++ leBytes 8 l.srIndex.toNat
    ++ leBytes 4 (laneCode l + l.frec.cause.toNat * 2 ^ 2 + l.frec.status.toNat * 2 ^ 8) ++ leBytes 360 0

/-- Save the state of a lane core, unless its part lies in an off bank: then the lane core is lost, and will resume stopped as if
by END (R116, R324). Bank power-downs are refused from the first save on (R65). -/
def saveLane (s0 : State) (lt n : Nat) : State :=
  let first := (s0.tile lt).lanes.all (fun p => !p.2.parked)
  let s := if first then (s0.setTfld lt regTilePreStatus 16 8 0).modTile lt (fun t => { t with lostLanes := [] }) else s0
  let l := (s.tile lt).lane n
  if (s.tile lt).bank (n / 4) = .on then
    (memStore (modLane s lt n (fun l => { l with parked := true, wait := none })) lt (lanePart n) (laneImage l)).modTile lt
      (fun t => { t with laneSaved := true })
  else
    let s1 := modLane s lt n (fun l => { l with parked := true, wait := none, st := .stopped, frec := { l.frec with valid := false } })
    (s1.setTfld lt regTilePreStatus 16 8 (s1.tfld lt regTilePreStatus 16 8 + 1)).modTile lt
      (fun t => { t with lostLanes := t.lostLanes ++ [n] })

/-- LANE_STATE_SAVE (R116): a lane core reaches its pre-emption point after the TCC has taken interrupt 14. -/
def execLaneStateSave (lt : Nat) (lane : BitVec 8) (s : State) : Out :=
  onTile lt s (fun s =>
    if (s.tile lt).preStop && !((s.tile lt).lane lane.toNat).parked && !unitsStop s lt then saveLane s lt lane.toNat else s)

/-- A lane core as its part of the save area describes it (Table 4.11). -/
def loadLane (m : Memory) (n : Nat) (l : LaneCore) : LaneCore :=
  let at_ := fun o k => leNat (memBytes m (lanePart n + o) k)
  let w := at_ 0x294 4
  { l with
    g := (Vector.ofFn (fun i => BitVec.ofNat 32 (at_ (4 * i.val) 4))).set 0 0
    v := Vector.ofFn (fun i => BitVec.ofNat 128 (at_ (0x80 + 16 * i.val) 16))
    pc := BitVec.ofNat 32 (at_ 0x280 4)
    fcsr := BitVec.ofNat 32 (at_ 0x284 4)
    srTensor := BitVec.ofNat 32 (at_ 0x288 4)
    srIndex := BitVec.ofNat 64 (at_ 0x28C 8)
    st := if w % 4 = 0 then .running else if w % 4 = 2 then .fault else if l.started then .stopped else .idle
    frec := { l.frec with cause := BitVec.ofNat 6 (nfld w 7 2), status := BitVec.ofNat 8 (nfld w 15 8) } }

/-- Lane cores go on from their saved state (R325 step 4); a lost one stays stopped (R324). -/
def resumeLanes (s : State) (lt : Nat) : State :=
  s.modTile lt (fun t => { t with
    lanes := t.lanes.map (fun p =>
      (p.1, if !p.2.parked then p.2
            else if t.lostLanes.contains p.1 then { p.2 with parked := false }
            else { loadLane t.mem p.1 p.2 with parked := false }))
    laneSaved := false
    preStop := false
    lostLanes := [] })

/-- Every lane core is left stopped (R325). -/
def stopLanes (s : State) (lt : Nat) : State :=
  s.modTile lt (fun t => { t with
    lanes := t.lanes.map (fun p => (p.1, { p.2 with
      parked := false, wait := none, st := if p.2.started then .stopped else .idle }))
    laneSaved := false
    preStop := false
    lostLanes := [] })

/-! ### The LC image and the DMA record -/

/-- The LC image: LC block bytes 0x0000 to 0x00FF, then 0x1000 to 0x1FFF (Table 12.9). -/
def lcImage (s : State) (lt : Nat) : List Byte :=
  ((List.range 64).map (fun k => leBytes 4 (tileRead s lt (0xF020000 + 4 * k)).toNat)).flatten
    ++ ((List.range 1024).map (fun k => leBytes 4 (tileRead s lt (0xF021000 + 4 * k)).toNat)).flatten

/-- The fault record of a lane core as the LC image holds it. -/
def imageRec (im : List Byte) (n : Nat) : FRec :=
  let w := fieldAt im (256 + 16 * n) 4
  ⟨BitVec.ofNat 6 w, BitVec.ofNat 8 (nfld w 15 8), BitVec.ofNat 4 (nfld w 19 16), nbit w 31, BitVec.ofNat 32 (fieldAt im (260 + 16 * n) 4),
    BitVec.ofNat 32 (fieldAt im (264 + 16 * n) 4)⟩

/-- The LC image is restored (R325 step 1): the registers that software may set, and the fault records. -/
def restoreLc (s : State) (lt : Nat) : State :=
  let im := regionBytes s lt 111 4352
  let put := fun (st : State) (r m : Nat) => st.setTreg lt r (BitVec.ofNat 32 (fieldAt im (r - 0xF020000) 4 &&& m))
  let s1 := put (put (put s regLcEntry 0xFFFFFFFC) regLcNewpc 0xFFFFFFFC) regLcAction 0x7FF
  let s2 := s1.setTbit lt regLcStatus 0 (nbit (fieldAt im 0x98 4) 0)
  s2.modTile lt (fun t => { t with
    lanes := t.lanes.map (fun p => (p.1, if p.2.parked && !t.lostLanes.contains p.1 then { p.2 with frec := imageRec im p.1 } else p.2)) })

/-- An entry of the DMA record (Table 12.9). A descriptor that the item has not read is not stated there: its bytes are free. -/
def dmaEntry (s : State) (lt : Nat) (i : DmaItem) : List Byte :=
  (if i.desc = [] then s.freeBytes 64 else slice i.desc 0 64)
    ++ leBytes 4 (mkHandle 1 i.slot ((s.tile lt).slot 1 i.slot).gen.toNat) ++ leBytes 4 i.progress
    ++ leBytes 4 (lvNum i.lv + b2n i.xlat * 4) ++ leBytes 4 0

/-- The DMA record (Table 12.9). -/
def dmaRecord (s : State) (lt : Nat) : List Byte :=
  let q := (s.tile lt).dma
  let ring := [regDmaCringBase, regDmaCringCfg, regDmaCringHead, regDmaCringTail, regDmaCringLost]
  slice (leBytes 4 q.length ++ leBytes 4 (s.treg lt regDmaCtrl).toNat ++ (ring.map (fun r => leBytes 4 (s.treg lt r).toNat)).flatten) 0 64
    ++ slice (q.map (dmaEntry s lt)).flatten 0 5120

/-- A saved item as its entry in the DMA record describes it (R325 step 3). -/
def reloadItem (rec1 : List Byte) (k : Nat) (i : DmaItem) : DmaItem :=
  let e := slice rec1 (64 + 80 * k) 80
  { i with
    desc := if i.desc = [] then [] else e.take 64
    progress := fieldAt e 0x44 4
    lv := levelOf (fieldAt e 0x48 4)
    xlat := nbit (fieldAt e 0x48 4) 2
    running := false
    inFlight := []
    failed := none
    sentTo := 0 }

/-- The DMA queue is reloaded in its saved order (R325 step 3). -/
def reloadDma (s : State) (lt : Nat) : State :=
  let rec1 := regionBytes s lt 109 5184
  s.modTile lt (fun t => { t with
    dma := (t.dmaSaved.zipIdx.map (fun p => reloadItem rec1 p.2 p.1)) ++ t.dma
    dmaSaved := [] })

/-! ### SAVE -/

/-- DMA items stop at chunk boundaries: grants still awaited are given up (R322, R80), and a failed item completes once none of its writes is in
flight (R312). -/
def dmaQuiet (s : State) (lt : Nat) : State :=
  (s.tile lt).dma.foldl (fun x i =>
    let waiting := ((x.tile lt).reqs.map Prod.snd).filter (fun r =>
      isDmaReq i.slot r && (r.phase == .asked || r.phase == .backoff))
    let lost := waiting.map dmaReqOff
    let x1 := waiting.foldl (fun y r => giveUp y lt r) x
    if lost.isEmpty then x1
    else if i.failed.isSome then
      match i.failed with
      | some (st, at_) => stopDma x lt i st at_ 0
      | none => x1
    else putDma x1 lt { i with
      inFlight := i.inFlight.filter (fun o => !lost.contains o)
      sentTo := lost.foldl min i.sentTo }) s

/-- SAVE (R322, R324): refused where one of banks 0 to 28 is off, else the units stop together. One written while a SAVE runs or
is held has no effect. -/
def preSave (s : State) (lt : Nat) : State :=
  if preBit s lt 0 || preBit s lt 1 then s
  else if (List.range 29).any (fun b => (s.tile lt).bank b != .on) then setPreBit s lt 2 true
  else
    let s1 := (setPreBit (setPreBit s lt 2 false) lt 0 true).modTile lt (fun t => { t with preSaving := true })
    meSave (dmaQuiet (rtuStopAll s1 lt stPreempted) lt) lt

/-- Whether steps 3 to 6 of Table 12.8 are done but for the writes of step 6. -/
def preQuiet (s : State) (lt : Nat) : Bool :=
  let t := s.tile lt
  t.rtu.isEmpty && t.dma.all (fun i => i.inFlight.isEmpty) && s.tbit lt regMeStatus 13 && t.sk.items.all (fun i => !i.copying) &&
    (!t.preStop || (List.range 256).all (fun n => (t.lane n).parked))

/-- The tile is saved: DMA record and LC image written, SAVED set (R322 steps 6 and 7). -/
def preSaved (s : State) (lt : Nat) : State :=
  let s1 := storeRegion (storeRegion s.drawn lt 109 (dmaRecord s lt)) lt 111 (lcImage s lt)
  let s2 := s1.modTile lt (fun t => { t with
    dmaSaved := t.dma, dma := [], dmaTurns := [], preSaving := false })
  setPreBit (setPreBit s2 lt 0 false) lt 1 true

/-! ### RESUME and DISCARD -/

/-- RESUME (R325). A Sketch switch held back during the pre-emption is taken up again (09, R254). -/
def preResume (s : State) (lt : Nat) : State :=
  if preBit s lt 1 then
    releaseHeld (setPreBit (resumeLanes (reloadDma (meRestore (restoreLc s lt) lt) lt) lt) lt 1 false) lt
  else if preBit s lt 2 then releaseHeld (setPreBit (resumeLanes s lt) lt 2 false) lt
  else s

/-- DISCARD (R325). -/
def preDiscard (s : State) (lt : Nat) : State :=
  if preBit s lt 1 then
    let s1 := (s.tile lt).dmaSaved.foldl (fun x i => endDma x lt i stPreempted 0) s
    let s2 := stopLanes (meDiscard (s1.modTile lt (fun t => { t with dmaSaved := [] })) lt) lt
    releaseHeld (setPreBit s2 lt 1 false) lt
  else if preBit s lt 2 then releaseHeld (setPreBit (stopLanes s lt) lt 2 false) lt
  else s

/-- A write of TILE_PRE_CTRL: at M only (R329). -/
def writeTilePre (s : State) (lt : Nat) (lv : Level) (v : Word) : State :=
  if lv = .m then
    let s1 := if bit v 0 then preSave s lt else s
    let s2 := if bit v 1 then preResume s1 lt else s1
    if bit v 2 then preDiscard s2 lt else s2
  else s

/-- PREEMPT_REQUEST (R322 step 1). -/
def execPreemptRequest (lt : Nat) (s : State) : Out := onTile lt s (fun s => s.modTile lt (fun t => { t with preReq := true }))

/-- TILE_PRE_SAVE (R322, R324). -/
def execTilePreSave (lt : Nat) (lv : Level) (s : State) : Out := regCommand lt lv (fun s => writeTilePre s lt lv 1) s

/-- TILE_PRE_RESUME (R325). -/
def execTilePreResume (lt : Nat) (lv : Level) (s : State) : Out := regCommand lt lv (fun s => writeTilePre s lt lv 2) s

/-- TILE_PRE_DISCARD (R325). -/
def execTilePreDiscard (lt : Nat) (lv : Level) (s : State) : Out := regCommand lt lv (fun s => writeTilePre s lt lv 4) s

/-- TILE_PRE_SAVED (R322): the last step of a SAVE; a tile of a halted placement group is then discarded (R326). -/
def execTilePreSaved (lt : Nat) (s : State) : Out :=
  onTile lt s (fun s =>
    if preBit s lt 0 && preQuiet s lt && !unitsStop s lt then
      let s1 := preSaved s lt
      if (s1.tile lt).discard then preDiscard (s1.modTile lt (fun t => { t with discard := false })) lt else s1
    else s)

/-! ### Placement groups -/

/-- Whether a tile is live: not isolated, its region not off. -/
def tileLive (s : State) (lt : Nat) : Bool := !(s.tile lt).isolated && regionState s (regionOf s lt) != 5

/-- One tile of a group that is halted (R326, R327): an isolated tile's items complete with ABORTED where its units still run; a
live one is asked to pre-empt and will be discarded, at once where it is saved already, and by the second course of R324 where
its SAVE was refused. -/
def haltTile (s : State) (lt : Nat) : State :=
  if !tileLive s lt then
    (if unitsStop s lt then s else endTileItems s lt)
  else if preBit s lt 1 then preDiscard s lt
  else if preBit s lt 2 then preDiscard (meStop (rtuStopAll (dmaStopAll s lt stAborted) lt stAborted) lt stAborted) lt
  else s.modTile lt (fun t => { t with preReq := t.preReq || !preBit s lt 0, discard := true })

/-- PLACEMENT_GROUP_HALT (R327). -/
def execPlacementGroupHalt (g : Nat) (s : State) : Out :=
  if s.haltGroups.contains g then
    .next (((allTiles s).filter (fun lt => groupOfTile s lt == g)).foldl haltTile
      { s with haltGroups := s.haltGroups.filter (fun x => x != g) })
  else .next s

end Sys2Proof.Machine
end

