-- ==== Sys2Proof/Machine/Secrets.lean ====
section
/-!
DEFINITION. What SEC holds and measures at a boot or a takeover: keys, sealing key, firmware stages, measurement registers (19, R444 to R448, R458).
-/
namespace Sys2Proof.Machine

open Sys2Proof

/-! ### Keys -/

/-- Whether the keys derived from the device secret are those of the device certificate (R444). -/
def keysAgree (s : State) : Bool :=
  s.flash.certRsa == (dikOf Config.deviceSecret).rsa && s.flash.certPq == (dikOf Config.deviceSecret).pq

/-- The device secret is reconstructed, and SEC derives its keys (R444). -/
def deriveKeys (s : State) : State :=
  { s with sec := { s.sec with secret := Config.deviceSecret, dik := dikOf Config.deviceSecret, dwk := dwkOf Config.deviceSecret } }

/-- SEC SRAM is cleared (R445). -/
def clearKeys (s : State) : State := { s with sec := { s.sec with secret := [], dik := Dik.none, dwk := [], isk := [] } }

/-- The ISK is unwrapped from flash with the DWK, under an accepted policy; a module that has been unlocked holds none (R448, R450, R458, R461). -/
def unwrapIsk (s : State) : State :=
  let held := s.sec.policy && s.mfld regSecStatus 4 4 == 0
  { s with sec := { s.sec with isk := if held then s.flash.isk.map (fun p => (p.1, Config.unwrap s.sec.dwk p.2)) else [] } }

/-! ### Stages -/

/-- The module is in service state (R413; 19, R446; 20, Table 20.2). -/
def enterService (s : State) : State := raiseAlert (s.setMfld regMgtBootStatus 5 5 1) 2

/-- The copy of a stage that runs: of those accepted the one with the higher SVN, A on a tie (19, R446). -/
def fwChoice (s : State) (stage : Nat) : Option Nat :=
  let ok := fun c => (kvHas s.flash.fw c) && (kvGet FwCopy.shipped s.flash.fw c).ok && decide (s.flash.floors.getD (stage - 1) 0 ≤ (kvGet FwCopy.shipped s.flash.fw c).svn)
  let svn := fun c => (kvGet FwCopy.shipped s.flash.fw c).svn
  let a := 2 * stage
  let b := 2 * stage + 1
  if ok a && ok b then (if svn a < svn b then some b else some a)
  else if ok a then some a
  else if ok b then some b
  else none

/-- A stage's copy is chosen and measured; where none is accepted the module stays in service state and logs the stage (R446). -/
def bootStage (stage : Nat) (s : State) : State × Bool :=
  match fwChoice s stage with
  | some c =>
    let s1 := measure s stage (sha256 (kvGet FwCopy.shipped s.flash.fw c).body)
    ({ s1 with sec := { s1.sec with running := kvSet s1.sec.running stage c } }, true)
  | none => (enterService (mcNote s 11 noPt stage 0), false)

/-- A policy comes into effect: it is measured into MR4 (Table 19.3). -/
def policyOn (s : State) : State :=
  measure { s with sec := { s.sec with policy := true } } 4 (sha256 (slice s.flash.policy 0 384))

/-- Header and entries of a route image. -/
def routeBody (b : List Byte) : List Byte := b.take (96 + 4 * 65536)

/-- A stage of a boot: the state after it, and whether it completed. -/
def thenBoot (p : State × Bool) (f : State → State × Bool) : State × Bool := if p.2 then f p.1 else p

/-- The standby boots (R448): its keys, the three stages from flash, the measurement registers 0 to 6 anew, and the ISK. MR4 takes the policy in
effect, MR5 the map in effect and MR6 the route image in effect, once each. -/
def standbyBoot (s : State) : State × Bool :=
  let s0 := measure ((List.range 7).foldl (fun x n => setMr x n []) (clearKeys s)) 0 Config.romHash
  if !keysAgree s0 then (failState s0, false)
  else
    thenBoot (thenBoot (bootStage 1 (deriveKeys s0)) (fun x => bootStage 2 (if x.sec.policy then policyOn x else x))) (fun x =>
      let y := unwrapIsk (measure x 5 (mapHash x))
      bootStage 3 (if y.fab.routes.isSome then measure y 6 (sha256 (routeBody y.flash.routeImage)) else y))

end Sys2Proof.Machine
end

