-- ==== Sys2Proof/Machine/Exchange.lean ====
section
/-!
DEFINITION. The keys of an exchange between modules and how they take effect (19, R454, R456, R458).
-/
namespace Sys2Proof.Machine

open Sys2Proof

/-- The transcript T of an exchange (R454). -/
def transcript (e : Sess) : List Byte := sha256 (e.initBody ++ e.replyBody)

/-- The PRK of an exchange (R454). -/
def exchangePrk (e : Sess) : List Byte := hkdfExtract (transcript e) (Config.kexSecrets e.initBody e.replyBody)

/-- The sealing-key generations held are passed to a peer under the session key (R458). -/
def shareIsk (s : State) (d : Nat) : State :=
  let e := sessOf s d
  (heldIsk s).foldl (fun st p =>
    let iv := st.freeBytes 12
    sendSess st.drawn d (kexKey st d) 5 e.gen e.xchg (leBytes 4 p.1 ++ iv ++ slice (Config.seal (genKey st d e.gen true) iv [] p.2) 0 48)) s

/-- The keys of an exchange take effect for its generation (R454): PSNs start at 0, and the packets that waited are sent. -/
def establish (s : State) (d : Nat) : State :=
  let s1 := modSess s d (fun e => { e with
    phase := 0, cur := some e.gen, prev := e.cur, since := s.aon, firstNew := none, failedAt := none, gens := kvSet e.gens e.gen (exchangePrk e, e.initiator) })
  let g := (sessOf s d).gen
  let w := (fabTx s d).out.filter (fun o => o.waiting)
  let s2 := modTx s1 d (fun t => { t with psn := kvSet t.psn g 0, out := t.out.filter (fun o => !o.waiting) })
  let s3 := { s2 with fab := { s2.fab with rx := kvDel s2.fab.rx (16 * d + g) } }
  shareIsk (w.foldl (fun st o => sendPkt st d g o.pkt) s3) d

/-- A responder that has sent its AUTH takes the keys of the exchange as its peer does, once a packet under the new generation shows that the peer has
accepted it (R454 step 6; DEDUCED, log entry 54). -/
def confirmKeys (s : State) (d gen : Nat) : State :=
  let e := sessOf s d
  if e.phase = 4 ∧ e.gen = gen then establish s d else s

end Sys2Proof.Machine
end

