-- ==== Sys2Proof/Machine/FabRecv.lean ====
section
/-!
DEFINITION. Fabric packets and the transport (14, R356 to R378): arrival, transit, acknowledgement, retransmission, congestion, flagged
packets.
-/
namespace Sys2Proof.Machine

open Sys2Proof

/-! ### The transport of this module's packets -/

/-- A reduction chunk that went to another module is lost: the contribution of its tile stops there (R375, R378). -/
def endChunk (s : State) (lt : Nat) (p : RedPkt) (st : Status) : State :=
  match (s.tile lt).dma.find? (fun i => i.running && i.reduce && i.rid == p.rid) with
  | some i => stopDma s lt i st (64 * p.chunk) 0
  | none => s

/-- A packet of this module is acknowledged: a reduction chunk and a batch of tokens give back their slots, and the batch has ended with OK (R375; 09,
R252). -/
def ackedPkt (s : State) (x : FabPkt) : State :=
  match x.body with
  | .reduce _ => fabGive s x.srcTile.toNat
  | .batch (t :: _) => tokenBatchEnds (fabGive s x.srcTile.toNat) t stOk
  | _ => s

/-- What a packet given up leaves behind for the receiver: CANCEL for its PSN, and ABORT for a DATA segment, of a write or a batch of tokens (R359).
A CANCEL that is itself lost is not followed by another (R372). -/
def cancelOut (s : State) (d : Nat) (x : FabPkt) : State :=
  let key := x.keyId.toNat
  let xid := x.xid.toNat % 2 ^ 16
  let cancel := fun st => sendPkt st d key (rawPkt st d 5 7 false 0 0 8 0 1 (.cancel x.psn))
  let abort := fun st => sendPkt st d key (rawPkt st d 5 6 false 0 x.srcTile.toNat 8 xid 1 (.abort (BitVec.ofNat 32 xid)))
  match x.body with
  | .cancel _ => s
  | .write _ => abort (cancel s)
  | .batch _ => abort (cancel s)
  | _ => cancel s

/-- FAB_RETRANSMIT (R359): the packet is sent again, or given up after the last retransmission; without a usable port its transaction ends
at once (R366). -/
def retransmit (s : State) (d key psn : Nat) : State :=
  match (fabTx s d).out.find? (isOut key psn) with
  | none => s
  | some o =>
    if (egress s d psn (o.pkt.esc || o.pkt.cls == 5) none).isNone then loseOut s d key psn stLinkLost
    else if o.tries < s.mfld regFabXportCfg 13 10 then
      launch (modTx s d (fun t => { t with out := t.out.map (fun x => if isOut key psn x then { x with tries := x.tries + 1 } else x) })) o.pkt
    else
      cancelOut ((loseOut s d key psn stLinkLost).setMfld regFabLost 31 0 (satInc 32 (s.mfld regFabLost 31 0))) d o.pkt

/-- FAB_RETRANSMIT (R359). -/
def execFabRetransmit (d : BitVec 16) (key : BitVec 4) (psn : BitVec 64) (s : State) : Out :=
  .next (retransmit s d.toNat key.toNat psn.toNat)

/-- The PSNs that an ACK covers. -/
def ackedPsns (base : BitVec 64) (bitmap : BitVec 16) : List Nat :=
  ((List.range 16).filter (fun i => bit bitmap i)).map (fun i => base.toNat + i)

/-- A packet is acknowledged (R358, R375). -/
def ackOne (d key : Nat) (s : State) (psn : Nat) : State :=
  match (fabTx s d).out.find? (isOut key psn) with
  | none => s
  | some o => ackedPkt (modTx s d (fun t => { t with out := t.out.filter (fun x => !isOut key psn x) })) o.pkt

/-- A packet failed its tag check at the destination (R360): sent again INT_RETRY times, then its transaction ends with INTEGRITY. -/
def integrityOne (d key : Nat) (s : State) (psn : Nat) : State :=
  match (fabTx s d).out.find? (isOut key psn) with
  | none => s
  | some o =>
    if o.intTries < s.mfld regFabXportCfg 15 14 then
      launch (modTx s d (fun t => { t with out := t.out.map (fun x => if isOut key psn x then { x with intTries := x.intTries + 1 } else x) })) o.pkt
    else cancelOut (loseOut s d key psn stIntegrity) d o.pkt

/-- The destination has no key: the packets wait for a session (R360). Such an ACK travels under the handshake key, so it names them by
their PSNs alone. -/
def noKey (s : State) (d : Nat) (psns : List Nat) : State :=
  let hit := fun (o : FabOut) => !o.waiting && psns.contains o.pkt.psn.toNat
  if (fabTx s d).out.any hit then
    startExchange (modTx s d (fun t => { t with out := t.out.map (fun o => if hit o then { o with waiting := true } else o) })) d
  else s

/-- The first ECE of a period cuts the rate (R370). -/
def onEce (s : State) (d : Nat) : State :=
  modTx s d (fun t => if t.cut then t else { t with
    cut := true, rate := max t.cc.floor (t.rate - t.rate / 2 ^ t.cc.dec) })

/-- FAB_ACK_RECEIVE (R358, R360, R370): an ACK from module `src` under a key. -/
def execFabAckReceive (src : BitVec 16) (key : BitVec 4) (base : BitVec 64) (bitmap : BitVec 16) (ece : Bool) (st : BitVec 8)
    (s : State) : Out :=
  let d := src.toNat
  .next (arriving s (.fabAck d (.ack base bitmap ece st) key.toNat) (fun s1 =>
    let s2 := if ece then onEce s1 d else s1
    let ps := ackedPsns base bitmap
    if st = 0 then ps.foldl (ackOne d key.toNat) s2
    else if st = 1 then ps.foldl (integrityOne d key.toNat) s2
    else if st = 2 then noKey s2 d ps
    else s2))

/-- FAB_CC_PERIOD (R370): the end of a period for the destination `d`; `idle` says that it has been unused for 1 ms. -/
def execFabCcPeriod (d : BitVec 16) (idle : Bool) (s : State) : Out :=
  .next (modTx s d.toNat (fun t => { t with
    cut := false
    rate := if idle then s.mfld regFabCcCfg0 11 0
      else if t.cut then t.rate
      else min t.cc.ceil (t.rate + t.cc.inc)
    cc := ccNow s }))

/-! ### The receiving side of a pair -/

/-- The receiving side of the pair from `src` under a key. -/
def fabRx (s : State) (src key : Nat) : FabRx := kvGet FabRx.reset s.fab.rx (16 * src + key)

/-- The state with a receiving side changed. -/
def modRx (s : State) (src key : Nat) (f : FabRx → FabRx) : State :=
  { s with fab := { s.fab with rx := kvSet s.fab.rx (16 * src + key) (f (fabRx s src key)) } }

/-- The lowest PSN not received advances over those received (R358). -/
def advanceBase : Nat → FabRx → FabRx
  | 0, r => r
  | n + 1, r => if r.seen.contains r.base then advanceBase n { r with base := r.base + 1, seen := r.seen.filter (· != r.base) } else r

/-- A PSN counts as received. -/
def markSeen (r : FabRx) (psn : Nat) : FabRx :=
  if psn < r.base ∨ r.seen.contains psn = true then r
  else advanceBase (r.seen.length + 1) { r with seen := r.seen ++ [psn] }

/-- Whether every PSN from ORDER_BASE to the packet's own has been received or cancelled (R371). -/
def orderMet (r : FabRx) (x : FabPkt) : Bool :=
  let lo := max x.orderBase.toNat r.base
  decide (x.psn.toNat - lo ≤ (r.seen.filter (fun n => decide (lo ≤ n) && decide (n < x.psn.toNat))).length)

/-- Whether an ACK to a module can leave now (R358; 15, R384: it is built when it is sent, and never queued). -/
def ackLeaves (s : State) (src : Nat) : Bool :=
  match egress s src 0 true none with
  | some q => s.mesh.shadow.isNone && egressRoom s q 5 1
  | none => false

/-- An ACK goes back at once, where it can leave: it is never queued (15, R384). It carries no PSN of its own (R358, R360, R374). -/
def sendAck (s : State) (src key : Nat) (base : Nat) (bitmap : BitVec 16) (ece : Bool) (st : Nat) : State :=
  let x := { rawPkt s src 5 3 false 0 0 16 0 1 (.ack (BitVec.ofNat 64 base) bitmap ece (BitVec.ofNat 8 st)) with keyId := BitVec.ofNat 4 key }
  if ackLeaves s src then (trySend s ⟨x, none, noVc, mcPt s, s.aon⟩).getD s else s

/-- FAB_ACK_SEND (R358): an ACK is built from the PSNs to acknowledge, up to 16 from the lowest, once it can leave. -/
def execFabAckSend (src : BitVec 16) (key : BitVec 4) (s : State) : Out :=
  let r := fabRx s src.toNat key.toNat
  match r.acks with
  | [] => .next s
  | a :: _ =>
    if !ackLeaves s src.toNat then .next s else
    let base := r.acks.foldl (fun m p => min m p.1) a.1
    let mine := r.acks.filter (fun p => p.1 < base + 16)
    let bits := (List.range 16).foldl (fun (w : BitVec 16) i => setBit w i (mine.any (fun p => p.1 == base + i))) 0
    let s1 := modRx s src.toNat key.toNat (fun r => { r with acks := r.acks.filter (fun p => base + 16 ≤ p.1) })
    .next (sendAck s1 src.toNat key.toNat base bits (mine.any (fun p => p.2)) 0)

/-! ### Segments of writes -/

/-- Whether a record is the one of a packet's write. -/
def isSeg (x : FabPkt) (g : SegRx) : Bool := g.src == x.src.toNat && g.tile == x.srcTile.toNat && g.xid == x.xid.toNat % 2 ^ 16

/-- The whole write, from its segments in order (R357). -/
def joinWrite (w : WriteMsg) (got : List FabPkt) : WriteMsg :=
  let part := fun i => got.find? (fun p => p.xid.toNat / 2 ^ 16 == i)
  let data := ((List.range got.length).map (fun i => match part i with
    | some p => match p.body with
      | .write v => v.data
      | _ => []
    | none => [])).flatten
  let off := match part 0 with
    | some p => match p.body with
      | .write v => v.offset
      | _ => w.offset
    | none => w.offset
  { w with data := data, offset := off }

/-- The write of which a segment is part, as the first of its segments to arrive shows it: from its first byte, as long as the number of its
segments says at least. Its data count only as a length. -/
def wholeOf (x : FabPkt) (w : WriteMsg) : WriteMsg :=
  let i := x.xid.toNat / 2 ^ 16
  let n := 4096 * (x.segs.toNat - 1) + (if i + 1 = x.segs.toNat then w.data.length else 1)
  { w with offset := w.offset - BitVec.ofNat 32 (4096 * i), data := leBytes n 0 }

/-- The checks of R79 on the write that a segment shows, in order; the state after them, since a read-modify-write may meet an error. -/
def firstCheck (s : State) (lt : Nat) (w : WriteMsg) : State × Option Status :=
  match arriveCheck s lt w, grantOfTag s lt w.creditTag with
  | some st, _ => (s, some st)
  | none, some (_, g) =>
    (match readyAll s lt (landParts s lt g w) with
     | (s1, some e) => (s1, some e.1)
     | (s1, none) => (s1, none))
  | none, none => (s, none)

/-- A segment of a credited write reaches tile `lt` (R357): the checks of R79 run on the first to arrive, and the others take its outcome;
the write commits when all have landed. A bank that has gone off by then still fails it whole, as the bytes have nowhere to go (DESIGN CHOICE,
log entry 54). -/
def onSegment (s : State) (lt : Nat) (x : FabPkt) (w : WriteMsg) : State :=
  let put := fun (st : State) g => { st with fab := { st.fab with segs := st.fab.segs.filter (fun y => !isSeg x y) ++ g } }
  match s.fab.segs.find? (isSeg x) with
  | none =>
    let note := fun refused => (⟨x.src.toNat, x.srcTile.toNat, x.xid.toNat % 2 ^ 16, [x], refused⟩ : SegRx)
    if x.segs.toNat ≤ 1 then onWrite s lt w
    else
      match firstCheck s lt (wholeOf x w) with
      | (s1, some st) => put (failWrite s1 lt w st) [note true]
      | (s1, none) => put s1 [note false]
  | some g =>
    let got := if g.got.any (fun y => y.xid == x.xid) then g.got else g.got ++ [x]
    if got.length < x.segs.toNat then put s [{ g with got := got }]
    else if g.refused then put s []
    else performWrite (put s []) lt (joinWrite w got)

/-! ### Group messages -/

/-- A group message from another module (13, R339): a child's report of a round, an operation on its way up, or the value on its way down. A
BROKEN object stays as it is (R340). -/
def onGroup (s : State) (src typ o : Nat) (v : BitVec 32) : State :=
  let x := s.obj o
  if x.scope ≠ 2 ∨ x.broken = true then s
  else if typ = 1 then
    if x.typ = objBarrier ∧ (groupOf s x).children.contains src = true ∧ v = x.value then
      let s1 := setObj s o { x with reported := if x.reported.contains src then x.reported else x.reported ++ [src] }
      settleRounds (x.count + 1) s1 o
    else s
  else if typ = 2 then (if x.typ = objCounter then homeUpdates s o [v] [] else s)
  else if typ = 3 then (if x.typ = objEvent then homeUpdates s o [] [v != 0] else s)
  else if typ = 4 then
    if x.typ = objBarrier then
      let s1 := setObj s o { x with value := v, count := x.count - x.parts, reported := [], upSent := false, told := [] }
      let s2 := powerRelease (toChildren (broadcast s1 o v) x 4 o v) o
      settleRounds ((s2.obj o).count + 1) s2 o
    else toChildren (broadcast (setObj s o { x with value := v }) o v) x 4 o v
  else s

/-! ### Session messages -/

/-- A fragment of a session message; the whole message goes to the SEC domain (R365; 19, R453). One whose FRAGS is not 1 to 3, or whose FRAG is not
below it, is no message's, and is discarded. -/
def onFragment (s : State) (src : Nat) (msg frag frags : BitVec 8) (gen : BitVec 4) (xchg : BitVec 32) (bs : List Byte) : State :=
  let key := msg.toNat + 256 * xchg.toNat
  let old := (sessOf s src).frags.filter (fun f => !(f.1 == key && f.2.1 == frag.toNat))
  let all := old ++ [(key, frag.toNat, bs)]
  let mine := all.filter (fun f => f.1 == key)
  if frags = 0 ∨ 3 < frags.toNat ∨ frags.toNat ≤ frag.toNat then s
  else if mine.length < frags.toNat then modSess s src (fun y => { y with frags := all })
  else
    let body := ((List.range frags.toNat).map (fun i => match mine.find? (fun f => f.2.1 == i) with
      | some f => f.2.2
      | none => [])).flatten
    netSend (modSess s src (fun y => { y with frags := all.filter (fun f => f.1 != key) })) (.sess src msg.toNat gen.toNat xchg.toNat body)

/-! ### Delivery -/

/-- A packet for this module that came in at port `p` is delivered by its type (R365): from the port's position over the network that carries it, DATA
on B0 to its tile and SYNC on the Sync Network to the root. -/
def deliverPkt (s : State) (p : Nat) (x : FabPkt) : State :=
  let lt := gaSel x.ga.toNat
  let post := fun st m => pushFrom st m (portPt p) (msgEnds st m).2
  match x.body with
  | .write w => if lt < ltCount s then post s (.segment x) else ackWrite s lt w stProtFault
  | .batch ts => post s (.batch x.ga.toNat x.xid.toNat ts)
  | .credit typ m => post s (.credit x.ga.toNat typ.toNat m)
  | .skCredit t n => post s (.skCredit t n)
  | .ack b m e st => post s (.fabAck x.src.toNat (.ack b m e st) x.keyId.toNat)
  | .reduce q => pushRed s q (portPt p)
  | .sync typ o v => post s (.groupIn x.src.toNat typ.toNat o.toNat v)
  | .abort xid =>
    let s1 := { s with fab := { s.fab with segs := s.fab.segs.filter (fun g => !(g.src == x.src.toNat && g.tile == x.srcTile.toNat && g.xid == xid.toNat % 2 ^ 16)) } }
    abortedRequest s1 (x.src.toNat * 2 ^ 48 + x.srcTile.toNat * 2 ^ 28) (xid.toNat % 2 ^ 16)
  | .cancel p => modRx s x.src.toNat x.keyId.toNat (fun r => markSeen r p.toNat)
  | .session msg frag frags gen xchg bs => onFragment s x.src.toNat msg frag frags gen xchg bs
  | .unread _ => s

/-- Held flagged packets whose order is met are delivered, lowest PSN first (R371). -/
def releaseFlagged (src key : Nat) : Nat → State → State
  | 0, s => s
  | n + 1, s =>
    let r := fabRx s src key
    match r.held.filter (fun y => orderMet r y.2) with
    | [] => s
    | a :: q =>
      let x := q.foldl (fun m y => if y.2.psn.toNat < m.2.psn.toNat then y else m) a
      releaseFlagged src key n (deliverPkt (modRx s src key (fun r => { r with held := r.held.filter (fun y => y.2.psn != x.2.psn) })) x.1 x.2)

/-- Whether a packet's key is accepted: the current generation, the one before it, the one whose keys this module's AUTH waits to bring into effect, or
the handshake key for session messages (R373; 19, R453, R454). -/
def keyKnown (s : State) (x : FabPkt) : Bool :=
  let e := sessOf s x.src.toNat
  let k := x.keyId.toNat
  if k = 15 then (match x.body with
    | .session .. => true
    | .ack .. => true
    | .cancel _ => true
    | _ => false)
  else e.cur == some k || e.prev == some k || (e.phase == 4 && e.gen == k)

/-- The first packet under a new generation starts the last second of the one before (19, R456). -/
def noteFirst (s : State) (x : FabPkt) : State :=
  modSess s x.src.toNat (fun e => if e.cur == some x.keyId.toNat && e.prev.isSome && e.firstNew.isNone then { e with firstNew := some s.aon } else e)

/-- Whether a packet is a batch of Sketch tokens for a tile whose region is halted or off, which does not accept them (09, R255). -/
def batchRefused (s : State) (x : FabPkt) : Bool :=
  match x.body with
  | .batch _ => decide (gaSel x.ga.toNat < ltCount s) && regionRefuses s (gaSel x.ga.toNat)
  | _ => false

/-- A packet whose DST_MODULE is this module (R358, R365, R371, R373, R374). A batch of tokens that its tile does not accept is not received: it
stays with its sender, which sends it again or gives it up (09, R253, R255). -/
def localPkt (s : State) (p : Nat) (x : FabPkt) : State :=
  let src := x.src.toNat
  let key := x.keyId.toNat
  let psn := x.psn.toNat
  if !keyKnown s x then sendAck s src 15 psn 1 false 2
  else if !x.genuine then
    let s1 := s.setMfld regFabSecErr 15 0 (satInc 16 (s.mfld regFabSecErr 15 0))
    sendAck (mcLog s1 2 12 noPt src stIntegrity psn) src key psn 1 false 1
  else if batchRefused s x then s
  else
    let s1 := noteFirst (confirmKeys s src key) x
    match x.body with
    | .ack .. => deliverPkt s1 p x
    | _ =>
      let r := fabRx s1 src key
      let note := fun st => modRx st src key (fun r => { r with acks := r.acks.filter (fun p => p.1 != psn) ++ [(psn, x.ce)] })
      if psn < r.base ∨ r.seen.contains psn = true then note s1
      else if r.base + 1024 < psn then s1
      else
        let s2 := modRx (note s1) src key (fun r => markSeen r psn)
        let ready := !x.flagged || orderMet (fabRx s2 src key) x
        let s3 := if ready then deliverPkt s2 p x else modRx s2 src key (fun r => { r with held := r.held ++ [(p, x)] })
        releaseFlagged src key ((fabRx s3 src key).held.length) s3

/-! ### Transit -/

/-- A packet in transit, one hop on: TTL counts down, and AGE grows by its wait here, in units of 64 ns (R363, R366). -/
def hopOn (x : FabPkt) (wait : Nat) : FabPkt := { x with ttl := x.ttl - 1, age := BitVec.ofNat 16 (min 0xFFFF (x.age.toNat + wait)) }

/-- A packet for another module that came in at port `p` on VC `vc` (R362 to R366): it crosses to its egress port once that has room for it, and
waits in the receive buffer until then (15, R383); none where it waits. -/
def transitPkt (s : State) (p vc wait : Nat) (x : FabPkt) : Option State :=
  if x.ttl.toNat ≤ 1 then some (s.setMfld regFabDrops 23 12 (satInc 12 (s.mfld regFabDrops 23 12)))
  else trySend s ⟨hopOn x wait, some p, vc, portPt p, s.aon⟩

/-- The head of a receive buffer leaves it, and its credits are owed to the sender (R353). -/
def leaveRx (s : State) (p vc : Nat) (x : FabPkt) (r : List FabPkt) : State :=
  modPort s p (fun y => { y with rx := kvSet y.rx vc r, owed := kvSet y.owed vc (kvGet 0 y.owed vc + pktFlits x) })

/-- A packet that crossed the wafer joins its egress queue (R369; 15, R383): one in transit is marked behind more than MARK_TH flits, but for
control and Selvage. A port that has gone down meanwhile does not take it, and it is looked up again (R351). -/
def joinQueue (s : State) (q vc : Nat) (e : EgPkt) : State :=
  let n := pktFlits e.pkt
  let s1 := modPort s q (fun y => { y with reserved := kvSet y.reserved vc (kvGet 0 y.reserved vc - n) })
  if portUp s1 q then
    let mark := e.ingress.isSome && vc < 5 && decide (s.mfld regFabMark 6 0 < queueFlits (fabPort s1 q) vc)
    modPort s1 q (fun y => { y with
      queues := kvSet y.queues vc (portQueue y vc ++ [{ e with pkt := { e.pkt with ce := e.pkt.ce || mark }, pos := portPt q, since := s.aon }]) })
  else relookup q s1 { e with since := s.aon }

/-- Whether a packet is malformed (R356). -/
def malformed (x : FabPkt) : Bool :=
  x.typ == 0 || decide (8 < x.typ.toNat) || decide (4096 < x.length.toNat) || !x.clean

/-- FAB_PACKET_ARRIVE (R356, R365): the packet at the head of a receive buffer leaves it, unless injection is frozen (10, R267) or its egress port
has no room (15, R383). -/
def execFabPacketArrive (p : Nat) (vc : BitVec 3) (wait : Nat) (s : State) : Out :=
  onPort p s (fun s =>
    match kvGet [] (fabPort s p).rx vc.toNat with
    | [] => s
    | x :: r =>
      let s1 := leaveRx s p vc.toNat x r
      if malformed x then s1.setMfld regFabDrops 31 24 (satInc 8 (s.mfld regFabDrops 31 24))
      else if s.moduleId ≠ some x.dst.toNat then (transitPkt s1 p vc.toNat wait x).getD s
      else if s.mesh.shadow.isSome then s
      else localPkt s1 p x)

/-- A packet that was looked up again and waits for room in the receive buffer of its ingress port. -/
def waitsAt (p vc : Nat) (e : EgPkt) : Bool := e.ingress == some p && e.vc == vc && !e.pkt.esc && e.pkt.cls != 5

/-- A packet at the head of a receive buffer that has waited ESC_WAIT for room at its egress port takes the Selvage class (R363; 15, R383, R387): first
one that has come back there to wait for another port. -/
def escapeRx (s : State) (p vc wait : Nat) : State :=
  match s.fab.toSend.find? (waitsAt p vc), kvGet [] (fabPort s p).rx vc with
  | some e, _ =>
    if s.mesh.shadow.isSome || (trySend s e).isSome then s
    else sendOrWait { s with fab := { s.fab with toSend := s.fab.toSend.erase e } } (escape s.aon e wait)
  | none, [] => s
  | none, x :: r =>
    if 5 ≤ vc ∨ x.esc = true ∨ malformed x = true ∨ s.moduleId = some x.dst.toNat ∨ x.ttl.toNat ≤ 1 ∨ s.mesh.shadow.isSome = true ∨
        (transitPkt s p vc wait x).isSome = true then s
    else (transitPkt (leaveRx s p vc x r) p vc wait { x with esc := true }).getD
      (modPort s p (fun y => { y with rx := kvSet y.rx vc ({ x with esc := true } :: r) }))

/-- A packet at the head of an egress queue that has waited ESC_WAIT for a credit takes the Selvage class (R363). -/
def escapeTx (s : State) (p vc wait : Nat) : State :=
  let x := fabPort s p
  match portQueue x vc with
  | [] => s
  | a :: r =>
    if 5 ≤ vc ∨ kvGet 0 x.headSent vc ≠ 0 ∨ kvGet 0 x.credits vc ≠ 0 then s
    else sendOrWait (modPort s p (fun y => { y with queues := kvSet y.queues vc r })) { escape s.aon a wait with pos := portPt p }

/-- FAB_ESC_MOVE (R363): the wait of a packet at port `p` on VC `vc` has reached ESC_WAIT, in its receive buffer or its egress queue. -/
def execFabEscMove (p : Nat) (vc : BitVec 3) (wait : EscWait) (s : State) : Out :=
  onPort p s (fun s => if wait.inward then escapeRx s p vc.toNat wait.units else escapeTx s p vc.toNat wait.units)

/-- FAB_FLAG_HOLD_EXPIRE (R372): a flagged packet held for FLAG_HOLD_MS is delivered anyway. -/
def execFabFlagHoldExpire (src : BitVec 16) (key : BitVec 4) (psn : BitVec 64) (s : State) : Out :=
  let r := fabRx s src.toNat key.toNat
  match r.held.find? (fun y => y.2.psn == psn) with
  | none => .next s
  | some x =>
    let s1 := modRx s src.toNat key.toNat (fun r => { r with held := r.held.filter (fun y => y.2.psn != psn) })
    let s2 := s1.setMfld regFabSecErr 31 16 (satInc 16 (s.mfld regFabSecErr 31 16))
    .next (deliverPkt (skbEvent s2 .mc 0x15 [src.toNat, psn.toNat % 2 ^ 32, psn.toNat / 2 ^ 32]) x.1 x.2)

end Sys2Proof.Machine
end

