-- ==== Sys2Proof/Machine/Session.lean ====
section
/-!
DEFINITION. Sessions between modules: key exchange, authentication, rotation, sharing of sealing keys (19, R453 to R458).
-/
namespace Sys2Proof.Machine

open Sys2Proof

/-! ### Measurements, policy, keys -/

/-- The firmware digest FD (R447). -/
def fwDigest (s : State) : List Byte := sha256 (((List.range 5).map (mrBytes s)).flatten)


/-- The accepted firmware digests of the policy (Table 19.4). -/
def policyDigests (s : State) : List (List Byte) :=
  (List.range (fieldAt s.flash.policy 0x60 1)).map (fun i => slice s.flash.policy (0x80 + 32 * i) 32)

/-- PQ_SESSION of the policy (Table 19.4). -/
def pqSession (s : State) : Bool := nbit (fieldAt s.flash.policy 0x1C 4) 0

/-- The hash of the owner key in force (R449). -/
def ownerKey (s : State) : List Byte := s.flash.owners.getLastD []

/-! ### Ending waits and sessions -/

/-- The packets that wait for a key end with a status (R455). -/
def endWaiting (s : State) (d : Nat) (st : Status) : State :=
  let w := (fabTx s d).out.filter (fun o => o.waiting)
  w.foldl (fun x o => lostLocal x st o.pkt) (modTx s d (fun t => { t with out := t.out.filter (fun o => !o.waiting) }))

/-- Every session ends (R456, R461): the keys are gone, and packets not acknowledged wait for a new session, which starts on demand
(R360, R448). -/
def endSessions (s : State) : State :=
  let wait := fun (t : FabTx) => { t with psn := [], out := t.out.map (fun o => { o with waiting := true }) }
  let s1 := { s with fab := { s.fab with sess := [], rx := [], tx := s.fab.tx.map (fun (p : Nat × FabTx) => (p.1, wait p.2)) } }
  s1.fab.tx.foldl (fun st p => if p.2.out.isEmpty || !st.sec.policy then st else startExchange st p.1) s1

/-! ### Exchange -/

/-- What an AUTH signature covers (R454). -/
def authDigest (e : Sess) (responder : Bool) (fd mr7 : List Byte) : List Byte := sha256 (transcript e ++ leBytes 1 (b2n responder) ++ fd ++ mr7)

/-- This module's AUTH (Table 19.6). -/
def authBody (s : State) (e : Sess) : List Byte :=
  let fd := fwDigest s
  let mr7 := mrBytes s 7
  s.flash.membership ++ s.sec.dik.rsa ++ s.sec.dik.pq ++ fd ++ mr7 ++ dikTrailer s.sec.dik (authDigest e (!e.initiator) fd mr7)

/-- The reason for which an AUTH is refused, or 0 where every check of R454 passes. -/
def authRefused (s : State) (e : Sess) (b : List Byte) : Nat :=
  let ml := b.length == 9926
  let tl := if ml then 3697 else 388
  let cert := slice b 0 128
  let rsa := slice b (128 + tl) 388
  let mk := if ml then slice b (128 + tl + 388) 1952 else []
  let o := 128 + tl + 388 + mk.length
  let fd := slice b o 32
  let mr7 := slice b (o + 32) 32
  if b.length ≠ 1356 ∧ b.length ≠ 9926 then 1
  else if !Config.sigOk (ownerKey s) cert (slice b 128 tl) || slice cert 0x20 16 != installId s || slice cert 0x40 32 != sha256 rsa ||
      (ml && slice cert 0x60 32 != sha256 mk) then 1
  else if !(policyDigests s).contains fd then 2
  else if mr7 ≠ leBytes 32 0 then 4
  else if !Config.sigOk (sha256 rsa) (authDigest e e.initiator fd mr7) (slice b (o + 64) tl) || (pqSession s && !ml) then 3
  else 0

/-- One more exchange ended by ABORT (SEC_STATUS.SESSIONS_FAILED). -/
def countFailed (s : State) : State := s.setMfld regSecStatus 15 8 (satInc 8 (s.mfld regSecStatus 15 8))

/-- An exchange fails: no new attempt for 1 s, and what waits for the pair ends (R455). -/
def failExchange (s : State) (d : Nat) (st : Status) : State :=
  endWaiting (modSess s d (fun e => { e with phase := 0, failedAt := some s.aon })) d st

/-- ABORT with a reason (Table 19.6). -/
def sendAbort (s : State) (d reason : Nat) : State :=
  let e := sessOf s d
  sendSess s d (kexKey s d) 4 e.gen e.xchg (leBytes 4 reason)

/-! ### The commands -/

/-- What a session message does, once it has reached the SEC domain. -/
def onSess (s : State) (src msg : Nat) (gen : BitVec 4) (xchg : BitVec 32) (body : List Byte) (g : State → State) : Out :=
  .next (arriving s (.sess src msg gen.toNat xchg.toNat body) g)

/-- KEX_REPLY answers KEX_INIT (R454). Nonce, ECDH key and ciphertext are free values. -/
def answerInit (s : State) (d gen xchg : Nat) (body : List Byte) : State :=
  let e := sessOf s d
  if e.phase = 2 ∧ e.xchg = xchg then sendSess s d (kexKey s d) 2 e.gen e.xchg e.replyBody
  else
    let r := kexHead s ++ s.freeBytes 1217
    let s1 := modSess s.drawn d (fun y => { y with
      phase := 2, initiator := false, xchg := xchg, gen := gen, tries := 1, initBody := body, replyBody := r, peerAuth := false })
    sendSess s1 d (kexKey s1 d) 2 gen xchg r

/-- KEX_INIT_RECEIVE (R454, R455): where two cross, the exchange from the lower module ID proceeds. -/
def execKexInitReceive (src : BitVec 16) (gen : BitVec 4) (xchg : BitVec 32) (body : List Byte) (s : State) : Out :=
  let d := src.toNat
  onSess s d 1 gen xchg body (fun s1 =>
    if !s.sec.policy || body.length != 1329 || gen == 15 || ((sessOf s d).phase == 4 && (sessOf s d).xchg == xchg.toNat) then s1
    else if (sessOf s d).phase = 1 ∧ hereId s < d then s1
    else answerInit s1 d gen.toNat xchg.toNat body)

/-- KEX_REPLY_RECEIVE (R454): the initiator sends AUTH. -/
def execKexReplyReceive (src : BitVec 16) (gen : BitVec 4) (xchg : BitVec 32) (body : List Byte) (s : State) : Out :=
  let d := src.toNat
  let e := sessOf s d
  onSess s d 2 gen xchg body (fun s1 =>
    if e.phase = 1 ∧ e.xchg = xchg.toNat ∧ body.length = 1233 then
      let s2 := modSess s1 d (fun y => { y with phase := 3, replyBody := body, tries := 1 })
      sendSess s2 d (kexKey s2 d) 3 e.gen e.xchg (authBody s2 (sessOf s2 d))
    else s1)

/-- AUTH_RECEIVE (R454, R455): where it is accepted, the keys take effect at the initiator, whose own AUTH the responder has accepted by sending its
own; the responder sends its AUTH and waits for that to be accepted. Where it is refused ABORT is sent and logged. -/
def execAuthReceive (src : BitVec 16) (gen : BitVec 4) (xchg : BitVec 32) (body : List Byte) (s : State) : Out :=
  let d := src.toNat
  let e := sessOf s d
  onSess s d 3 gen xchg body (fun s1 =>
    if e.xchg ≠ xchg.toNat ∨ e.phase ≠ (if e.initiator then 3 else 2) then s1
    else match authRefused s1 e body with
      | 0 =>
        if e.initiator then establish s1 d
        else
          let s2 := modSess s1 d (fun y => { y with phase := 4, peerAuth := true, tries := 1 })
          sendSess s2 d (kexKey s2 d) 3 e.gen e.xchg (authBody s2 e)
      | r => failExchange (countFailed (mcLog (sendAbort s1 d r) 2 11 noPt d stIntegrity r)) d stIntegrity)

/-- SESSION_ABORT_RECEIVE (R455). -/
def execSessionAbortReceive (src : BitVec 16) (gen : BitVec 4) (xchg : BitVec 32) (body : List Byte) (s : State) : Out :=
  let d := src.toNat
  let e := sessOf s d
  onSess s d 4 gen xchg body (fun s1 =>
    if e.phase ≠ 0 ∧ e.xchg = xchg.toNat then failExchange (countFailed s1) d stIntegrity else s1)

/-- Generations of the sealing key with one more: the two newest stay (R458). -/
def addIsk (xs : List (Nat × List Byte)) (g : Nat) (k : List Byte) : List (Nat × List Byte) :=
  let all := xs.filter (fun p => p.1 < g) ++ [(g, k)] ++ xs.filter (fun p => g < p.1)
  all.drop (all.length - 2)

/-- A generation of the sealing key is held in SEC SRAM, and stored in flash wrapped with the DWK (R458). -/
def holdIsk (s : State) (g : Nat) (k : List Byte) : State :=
  if s.flash.isk.any (fun p => p.1 == g) then s
  else { s with flash := { s.flash with isk := addIsk s.flash.isk g (Config.wrap s.sec.dwk k) }, sec := { s.sec with isk := addIsk s.sec.isk g k } }

/-- ISK_SHARE_RECEIVE (R458): a generation that opens under the session key is stored. -/
def execIskShareReceive (src : BitVec 16) (gen : BitVec 4) (xchg : BitVec 32) (body : List Byte) (s : State) : Out :=
  let d := src.toNat
  let e := sessOf s d
  onSess s d 5 gen xchg body (fun s1 =>
    if !s.sec.policy || e.cur.isNone || body.length != 64 then s1
    else match Config.open_ (genKey s1 d (e.cur.getD 15) false) (slice body 4 12) [] (slice body 16 48) with
      | some k => holdIsk s1 (fieldAt body 0 4) (slice k 0 32)
      | none => s1)

/-- The message of this module that awaits an answer, with its body (R455). -/
def awaited (s : State) (e : Sess) : Option (Nat × List Byte) :=
  if e.phase = 1 then some (1, e.initBody)
  else if e.phase = 2 then some (2, e.replyBody)
  else if e.phase = 3 ∨ e.phase = 4 then some (3, authBody s e)
  else none

/-- Whether a packet is of an AUTH of this module that is still on its way. -/
def isAuth (xchg : Nat) (o : FabOut) : Bool :=
  match o.pkt.body with
  | .session msg _ _ _ x _ => msg == 3 && x.toNat == xchg
  | _ => false

/-- SESSION_RESEND (R455): a message not answered within 10 ms is sent again; after 3 attempts the exchange ends with ABORT and the waiting
transactions end. A responder whose AUTH has reached its peer and drew no ABORT in that time takes it as accepted (DEDUCED, log entry 54). -/
def execSessionResend (d : BitVec 16) (s : State) : Out :=
  let e := sessOf s d.toNat
  match awaited s e with
  | none => .next s
  | some (msg, body) =>
    .next (if e.phase = 4 ∧ !(fabTx s d.toNat).out.any (isAuth e.xchg) then establish s d.toNat
      else if e.tries < 3 then
        sendSess (modSess s d.toNat (fun y => { y with tries := y.tries + 1 })) d.toNat (kexKey s d.toNat) msg e.gen e.xchg body
      else endWaiting (modSess (countFailed (sendAbort s d.toNat 5)) d.toNat (fun y => { y with phase := 0 })) d.toNat stLinkLost)

/-- SESSION_ROTATE (R456): a new exchange starts where a PSN reached 2^40 or ROTATE_H hours have passed. -/
def execSessionRotate (d : BitVec 16) (s : State) : Out :=
  let e := sessOf s d.toNat
  .next (match e.cur with
    | none => s
    | some g =>
      if 2 ^ 40 ≤ kvGet 0 (fabTx s d.toNat).psn g ∨ e.since + s.mfld regSecSessCfg 7 0 * 3600000000 ≤ s.aon then startExchange s d.toNat else s)

/-- SESSION_OLD_GEN_EXPIRE (R456): 1 s after the first packet under the new generation, the one before is no longer accepted. -/
def execSessionOldGenExpire (d : BitVec 16) (s : State) : Out :=
  .next (if (sessOf s d.toNat).firstNew.isSome then modSess s d.toNat (fun e => { e with prev := none, firstNew := none }) else s)

end Sys2Proof.Machine
end

