-- ==== Sys2Proof/Machine/JobEnd.lean ====
section
/-!
DEFINITION. Ending a job: every outstanding item of every unit completes with ABORTED (12, R319; 14, R377; 16, R409), and the takeover by
the other Management Complex (18, R426; 19, R448).
-/
namespace Sys2Proof.Machine

open Sys2Proof

/-! ### Items -/

/-- Whether a packet is a transaction of a tile's unit that only its packet holds: a reduction chunk, or a batch of Sketch tokens. -/
def isUnitPkt (x : FabPkt) : Bool :=
  match x.body with
  | .reduce _ => true
  | .batch _ => true
  | _ => false

/-- Whether a packet is a group message of synchronisation. -/
def isGroupSync (x : FabPkt) : Bool :=
  match x.body with
  | .sync _ _ _ => true
  | _ => false

/-- Packets of a kind that this module has sent and that end with the job are cancelled (14, R375, R377). -/
def dropOuts (p : FabPkt → Bool) (s : State) : State :=
  s.fab.tx.foldl (fun st e => (e.2.out.filter (fun o => p o.pkt)).foldl (fun x o =>
    let y := modTx x e.1 (fun t => { t with out := t.out.filter (fun q => q != o) })
    if o.waiting then y else cancelOut y e.1 o.pkt) st) s

/-- Reduction chunks and batches of tokens sent to other modules end with the job, the batches with ABORT (14, R359, R375, R377). -/
def dropUnitPkts (s : State) : State := dropOuts isUnitPkt s

/-- Whether a packet is a group message from or to this module. -/
def groupSyncOf (here : Nat) (x : FabPkt) : Bool := isGroupSync x && (x.src.toNat == here || x.dst.toNat == here)

/-- Group messages in flight are discarded at job load: those sent, those that wait in this module's ports, and those that have arrived for it
and are held (13, R343). -/
def dropGroupSync (s : State) : State :=
  let mine := groupSyncOf (hereId s)
  let keep := fun q : List FabPkt => q.filter (fun x => !mine x)
  let keepEg := fun q : List EgPkt => q.filter (fun x => !mine x.pkt)
  let s1 := { s with fab := { s.fab with
    ports := s.fab.ports.map (fun p => (p.1, { p.2 with
      queues := p.2.queues.map (fun q => (q.1, if kvGet 0 p.2.headSent q.1 = 0 then keepEg q.2 else q.2.take 1 ++ keepEg (q.2.drop 1)))
      rx := p.2.rx.map (fun q => (q.1, keep q.2)) }))
    rx := s.fab.rx.map (fun p => (p.1, { p.2 with held := p.2.held.filter (fun y => !mine y.2) }))
    toSend := keepEg s.fab.toSend } }
  dropOuts isGroupSync s1

/-- Every rate returns to INIT_RATE (14, R377). -/
def resetRates (s : State) : State :=
  { s with fab := { s.fab with tx := s.fab.tx.map (fun p => (p.1, { p.2 with rate := s.mfld regFabCcCfg0 11 0, cut := false })) } }

/-- Every outstanding item of the module ends with ABORTED; the number of items is logged (R319; 18, Error logs). -/
def endAllItems (s : State) : State × Nat :=
  let n := ((allTiles s).map (fun lt => busyCount (s.tile lt))).foldl (· + ·) 0
  let s1 := (allTiles s).foldl endTileItems s
  (mcNote (resetRates (dropUnitPkts s1)) 17 noPt n 0, n)

/-- The cores of a tile stop: no job is loaded. -/
def stopCores (s : State) (lt : Nat) : State :=
  s.modTile lt (fun t => { t with
    tcc := { t.tcc with stopped := true, wait := none }
    lanes := t.lanes.map (fun p => (p.1, { p.2 with wait := none, st := if p.2.st == .running then .stopped else p.2.st })) })

/-- The job ends (20, END_JOB; 16, R409): its items end, its cores stop, and no job is loaded. The number of items is answered. -/
def endJob (s : State) : State × Nat :=
  let p := endAllItems s
  (((allTiles p.1).foldl stopCores p.1).setMfld regMgtBootStatus 8 8 0, p.2)

/-- Every object of the job is discarded (13, R340). -/
def discardObjs (s : State) : State := { s with objs := [], groups := [], stepBarrier := none }

/-! ### Takeover -/

/-- Whether a Management Complex (false MC-A, true MC-B) has failed. -/
def mcFailed (s : State) (b : Bool) : Bool := s.sec.failedMc.contains b

/-- READY clears, and alert cause 0 tells of it where it was set (20, Table 20.4). -/
def clearReady (s : State) : State :=
  if s.mfld regMgtBootStatus 4 4 = 1 then raiseAlert (s.setMfld regMgtBootStatus 4 4 0) 0 else s

/-- The connections of the Lerux Control Protocol close, with what they carry. -/
def closeConns (s : State) : State := { s with mgt := { s.mgt with conns := [], loading := none, streams := [] } }

/-- The stage 3 firmware that runs lies in the M instruction store of a tile (20, R467). -/
def fillStore (s : State) (lt : Nat) : State :=
  let body := match kvFind s.sec.running 3 with
    | some c => (kvGet FwCopy.shipped s.flash.fw c).body
    | none => []
  s.modTile lt (fun t => { t with istore := memPut [] 0 (body.take 65536) })

/-- The standby takes over (R448; 16, R409; 18, R426): it boots the stages in flash, derives the keys, measures again and unwraps the
sealing key; where a stage does not boot the module takes no more jobs. The connections are told before they close, sessions are lost, every job
ends with ABORTED, and its objects are discarded. -/
def takeOver (s : State) (failed : Bool) : State :=
  let b := mcIsB s
  let s1 := closeConns (raiseAlert (mcEvent s 11 noPt (b2n !b) 0) 5)
  let s2 := { s1 with sec := { s1.sec with failedMc := if failed then s1.sec.failedMc ++ [b] else s1.sec.failedMc } }
  let s3 := (s2.setMfld regSecStatus 0 0 (b2n !b)).setMfld regSecStatus 1 1 0
  let s4 := if s.mfld regMgtBootStatus 8 8 = 1 then (endJob s3).1 else s3
  let p := standbyBoot (discardObjs s4)
  endSessions (if p.2 then (allTiles p.1).foldl fillStore p.1 else clearReady p.1)

/-- The active Management Complex is lost and there is no standby (18, R426; 19, R445): SEC SRAM is clear, and the module loads no job. -/
def mcLost (s : State) : State :=
  endSessions (clearReady (clearKeys (closeConns { s with sec := { s.sec with failedMc := s.sec.failedMc ++ [mcIsB s] } })))

/-- What follows when the active Management Complex fails, or its region is powered off (R409, R426). -/
def loseMc (s : State) (failed : Bool) : State :=
  if bit (s.mreg regSecStatus) 1 then takeOver s failed else mcLost s

/-- MC_TAKEOVER (18, R426): a FATAL in the active Management Complex. -/
def execMcTakeover (s : State) : Out := .next (loseMc (mcLog s 3 11 noPt (b2n (mcIsB s)) 0 0) true)

end Sys2Proof.Machine
end

