-- ==== Sys2Proof/Machine/Power.lean ====
section
/-!
DEFINITION. The energy model, the allocator and the region power controllers: estimates, gain, budgets, issue slots (16, R392 to R398),
droop (R399, R400), barriers (R401 to R404).

Powers are held in units of 0.1 nW, one femtojoule in a window of 10 µs: 1 W is 10^10 units, 1 mW is 10^7.
-/
namespace Sys2Proof.Machine

open Sys2Proof

/-- A command on a region, where it exists (R36). -/
def onRegion (r : Nat) (s : State) (f : State → State) : Out := if r < 30 then .next (f s) else .fault .noSuchUnit

/-- A quotient in a register's unit: how it is rounded is not stated (log entry 2). -/
def quantise (n d : Nat) : Nat := if n % d != 0 && Config.roundsUp n d then n / d + 1 else n / d

/-- Registers of a region, held by the controller of its upper field (R411). -/
def rreg (s : State) (r off : Nat) : Word := s.freg (upperField r) off
def rfld (s : State) (r off hi lo : Nat) : Nat := s.ffld (upperField r) off hi lo
def setRfld (s : State) (r off hi lo v : Nat) : State := s.setFfld (upperField r) off hi lo v

/-- The state of a region (PWR_REG_STATE.STATE). -/
def setRegionState (s : State) (r v : Nat) : State := setRfld s r regPwrRegState 2 0 v

/-- PIDLE, PF64, PFULL of a region, and L85 (PWR_REG_MODEL): units of 0.1 W, as held here. -/
def pIdle (s : State) (r : Nat) : Nat := 10 ^ 9 * rfld s r regPwrRegModel 7 0
def pf64 (s : State) (r : Nat) : Nat := 10 ^ 9 * rfld s r regPwrRegModel 15 8
def pFull (s : State) (r : Nat) : Nat := 10 ^ 9 * rfld s r regPwrRegModel 23 16

/-- The coefficient of counter `n` in a region (PWR_REG_COEFn). -/
def coef (s : State) (r n : Nat) : Nat := rfld s r (regPwrRegCoef n) 27 0

/-- The gain G, in 1/4,096 (PWR_MOD_GAIN). -/
def gain (s : State) : Nat := s.mfld regPwrModGain 15 0

/-- CAP, in units of 0.1 kW (PWR_MOD_CAP). -/
def capOf (s : State) : Nat := s.mfld regPwrModCap 8 0

/-! ### Estimates -/

/-- The reading of a temperature sensor of a field, in °C (PWR_TEMPn). -/
def sensor (s : State) (f n : Nat) : Int := sgn 8 (s.ffld f (regPwrTemp n) 7 0)

/-- The hottest of a list of readings. -/
def hottest (xs : List Int) : Int := xs.foldl max (-128)

/-- The sensors of a field (R405). -/
def fieldTemps (s : State) (f : Nat) : List Int := (List.range 16).map (sensor s f)

/-- The sensors of a region: those of its two fields (R405). -/
def regionTemps (s : State) (r : Nat) : List Int := fieldTemps s (upperField r) ++ fieldTemps s (lowerField r)

/-- Whether `n` units are at most the leakage at temperature `t`: L85 × 2^((t − 85) / 20), both to the power 20 (R393). -/
def leakageFits (l85 : Nat) (t : Int) (n : Nat) : Bool :=
  decide (n ^ 20 * 2 ^ (85 - t).toNat ≤ (10 ^ 9 * l85) ^ 20 * 2 ^ (t - 85).toNat)

/-- The whole units of the leakage: its bits from bit `k − 1` down, above `n` (R393). -/
def leakageFloor (l85 : Nat) (t : Int) : Nat → Nat → Nat
  | 0, n => n
  | k + 1, n => leakageFloor l85 t k (if leakageFits l85 t (n + 2 ^ k) then n + 2 ^ k else n)

/-- Leakage at temperature `t`: L85 × 2^((t − 85) / 20) (R393). Where that is no whole number of units, its rounding is not stated (log entry 2). -/
def leakage (l85 : Nat) (t : Int) : Nat :=
  let n := leakageFloor l85 t 42 0
  if n ^ 20 * 2 ^ (85 - t).toNat ≠ (10 ^ 9 * l85) ^ 20 * 2 ^ (t - 85).toNat ∧ Config.roundsUp l85 (t + 128).toNat = true then n + 1 else n

/-- The energy of counters `a` to `b − 1` over the last window, before the gain (R393). -/
def energy (s : State) (r lt a b : Nat) : Nat :=
  ((List.range (b - a)).map (fun i => kvGet 0 (s.tile lt).cntDelta (a + i) * coef s r (a + i))).foldl (· + ·) 0

/-- A power with the gain applied (R393). -/
def withGain (s : State) (p : Nat) : Nat := quantise (gain s * p) 4096

/-- The counters of a tile over the window that ends: their advances are kept (R393). -/
def closeWindow (s : State) (lt : Nat) : State :=
  s.modTile lt (fun t => { t with
    cntDelta := (List.range 16).map (fun n => (n, (kvGet 0 t.counters n + 2 ^ 64 - kvGet 0 t.cntPrev n) % 2 ^ 64))
    cntPrev := t.counters })

/-- The estimate of a tile over the last window (R393). -/
def tileEstimate (s : State) (r lt : Nat) : Nat :=
  withGain s (energy s r lt 0 16 + leakage (rfld s r regPwrRegModel 31 24) (hottest (fieldTemps s (fieldOf s lt))))

/-- A tile places its estimate (PWR_EST). -/
def putEstimate (r : Nat) (s : State) (lt : Nat) : State :=
  let e := tileEstimate s r lt
  let s1 := (s.modTile lt (fun t => { t with estRaw := e })).setTfld lt regPwrEst 15 0 (min 65535 (quantise e (10 ^ 7)))
  s1.setTfld lt regPwrEst 31 16 (s.tfld lt regPwrEst 31 16 + 1)

/-- Sum of a quantity over the tiles of a region. -/
def sumTiles (s : State) (r : Nat) (f : Nat → Nat) : Nat := ((regionTiles s r).map f).foldl (· + ·) 0

/-- The cycles of a region's clock in 10 µs: at 850 MHz, or at 200 MHz (17, R416). -/
def windowCycles (s : State) (r : Nat) : Nat := if pllState s (7 + r) = 2 then 8500 else 2000

/-- The array part of a region's estimate at full issue (R396). -/
def fullArray (s : State) (r arr : Nat) : Nat :=
  let used := sumTiles s r (fun lt => (s.tile lt).slotsUsed)
  if used = 0 then 44 * 84 * 10 ^ 9 else quantise (arr * (regionTiles s r).length * windowCycles s r) used

/-- The estimate of a region, with its demand (R393, R395). -/
def putRegionEstimate (s : State) (r : Nat) : State :=
  let tiles := sumTiles s r (fun lt => (s.tile lt).estRaw)
  let est := tiles + Config.studyDraw s.fresh
  let arr := sumTiles s r (fun lt => withGain s (energy s r lt 0 4))
  let full := fullArray s r arr
  let s1 := s.drawn.modRegion r (fun g => { g with estRaw := est, demand := est - arr + full, arrayFull := full, nonArray := tiles - arr })
  setRfld s1 r regPwrRegEst 15 0 (quantise est (10 ^ 10))

/-- PWR_ESTIMATE_WINDOW (R393): the window of 10 µs of a region's tiles ends. A region without power has no estimate. -/
def execPwrEstimateWindow (r : Nat) (s : State) : Out :=
  onRegion r s (fun s =>
    if regionState s r = 5 then
      setRfld (s.modRegion r (fun g => { g with estRaw := 0, demand := 0, arrayFull := 0, nonArray := 0 })) r regPwrRegEst 15 0 0
    else
      let s1 := (regionTiles s r).foldl (putEstimate r) ((regionTiles s r).foldl closeWindow s)
      (regionTiles s r).foldl (fun x lt => x.modTile lt (fun t => { t with slotsUsed := 0 })) (putRegionEstimate s1 r))

/-! ### The allocator -/

/-- PFIX: 1.0 kW of the fabric SerDes and 0.4 kW of the rest (R394; 01, the budget of the module). DEDUCED: at CAP 36 kW and G = 1, BT is 31.0 kW. -/
def pFix : Nat := 1400 * 10 ^ 10

/-- Σ region estimates + PFIX: 0.90 × Pest (R394). -/
def pestLoad (s : State) : Nat := ((List.range 30).map (fun r => (s.region r).estRaw)).foldl (· + ·) 0 + pFix

/-- Pest × G times 9 × 4,096 (R394, R398). -/
def pestGain (s : State) : Nat := 10 * gain s * pestLoad s

/-- A word in LINEAR11, in units of 2^−16: a signed mantissa of 11 bits times 2 to a signed exponent of 5 bits (20, R469; the format is PMBus's,
PRESUMED, log entry 54). -/
def linear11 (w : BitVec 16) : Int := sgn 11 (fld w 10 0) * 2 ^ (sgn 5 (fld w 15 11) + 16).toNat

/-- The gain after a reading of READ_PIN in units of 2^−16 W: G + (Pin / Pest − G) / 8, clamped to 0.80 to 1.25 (R394). -/
def nextGain (s : State) (pin : Nat) : Nat :=
  let x := pestLoad s
  let g := quantise (7 * gain s * x * 2 ^ 16 + 4096 * 9 * 10 ^ 9 * pin) (8 * x * 2 ^ 16)
  max 3277 (min 5120 g)

/-- PWR_CALIBRATE (R394; 20, R469): READ_PIN arrives, in watts in LINEAR11, or its read fails. A negative power is taken as none. -/
def execPwrCalibrate (pin : Option (BitVec 16)) (s : State) : Out :=
  .next (match pin with
    | some p =>
      let w := (linear11 p).toNat
      let s1 := { s with mgt := { s.mgt with pinFails := 0 } }
      let s2 := (s1.setMfld regPwrModIn 15 0 (min 65535 (quantise w (10 * 2 ^ 16)))).setMfld regPwrModGain 15 0 (nextGain s1 w)
      s2.setMfld regPwrModIn 31 16 (min 65535 (quantise (pestGain s2) (9 * 4096 * 10 ^ 11)))
    | none =>
      let s1 := { s with mgt := { s.mgt with pinFails := s.mgt.pinFails + 1 } }
      if s.mgt.pinFails + 1 = 3 then raiseAlert (s1.setMfld regPwrModGain 16 16 1) 3 else s1)

/-- The tile budget BT; after three failed reads in a row it is that of 90 % of the cap (R394, R395). -/
def tileBudget (s : State) : Nat :=
  let cap := 10 ^ 11 * capOf s * (if 3 ≤ s.mgt.pinFails then 9 else 10)
  quantise (cap * 9 * 4096) (10 * gain s) - pFix

/-- The allocator divides BT among the regions in proportion to demand, no region above its own (R395). -/
def allocate (s : State) : State :=
  let total := ((List.range 30).map (fun r => (s.region r).demand)).foldl (· + ·) 0
  let bt := tileBudget s
  (List.range 30).foldl (fun x r =>
    let d := (s.region r).demand
    let share := if total ≤ bt then d / 10 ^ 10 else min (d / 10 ^ 10) (quantise (bt * d) (total * 10 ^ 10))
    setRfld x r regPwrRegBudget 15 0 (min 65535 share)) s

/-- PWR_ALLOCATE (R395, R398): an allocator period; what the input guard held, it holds no longer. -/
def execPwrAllocate (s : State) : Out :=
  .next ((List.range 30).foldl (fun x r => x.modRegion r (fun g => { g with guarded := false })) (allocate s))

/-- A write of PWR_MOD_CAP (R397): clamped and taken up at once; a hold of the input guard goes on (R398). -/
def writeCap (s : State) (v : Nat) : State := allocate (s.setMfld regPwrModCap 8 0 (max 100 (min 360 v)))

/-- PWR_CAP_WRITE (R397). -/
def execPwrCapWrite (lv : Level) (v : Word) (s : State) : Out := .next (mCommand lv (fun s => writeCap s (fld v 8 0)) s)

/-! ### Issue slots -/

/-- Whether the input power is too high now, with the time since which it has exceeded CAP brought up to date (R398). -/
def guardState (s : State) : State × Bool :=
  let p := pestGain s
  let excess := decide (9 * 4096 * 10 ^ 12 * capOf s < p)
  let since := if excess then some (s.mgt.overSince.getD s.aon) else none
  ({ s with mgt := { s.mgt with overSince := since } },
    decide (9 * 4096 * 40000 * 10 ^ 10 < p) || since.any (fun t => decide (t + 10000 ≤ s.aon)))

/-- floor(64 × (B − N) / A), from 0 to 64 (R396). -/
def budgetOf (s : State) (r : Nat) : Nat :=
  let g := s.region r
  if g.arrayFull = 0 then 64 else min 64 (64 * (10 ^ 10 * rfld s r regPwrRegBudget 15 0 - g.nonArray) / g.arrayFull)

/-- Whether the input guard halves a region's BUDGET_SLOTS at this period: for too much power, once in an allocator period, or for a sagging
input, once in a sag (R398; 21, R488). -/
def guardHalves (s : State) (r : Nat) (much : Bool) : Bool :=
  much && !(s.region r).guarded || s.mgt.sagging && !(s.region r).sagHeld

/-- BUDGET_SLOTS at a period (R396, R398; 17, R418): cut at once, and raised by at most 8 unless the guard holds it. -/
def stepBudget (s0 : State) (r : Nat) (hold : Bool) : State :=
  let p := guardState s0
  let s := p.1
  let g := s.region r
  if guardHalves s r p.2 then
    (s.setMfld regPwrModGain 17 17 1).modRegion r (fun g =>
      { g with guarded := g.guarded || p.2, sagHeld := s.mgt.sagging, budgetSlots := g.budgetSlots / 2 })
  else if hold then s
  else if g.guarded || g.sagHeld then s.modRegion r (fun g => { g with budgetSlots := min (budgetOf s r) g.budgetSlots })
  else s.modRegion r (fun g => { g with budgetSlots := min (budgetOf s r) (g.budgetSlots + 8) })

/-- THERM_SLOTS at a period (R406). -/
def stepTherm (s : State) (r : Nat) : State :=
  let t := rfld s r regPwrRegState 22 16
  setRfld s r regPwrRegState 22 16 (if rfld s r regPwrRegState 3 3 = 1 then t - 4 else min 64 (t + 1))

/-- CAP_SLOTS of a region without a ramp (R396). -/
def capSlots (s : State) (r : Nat) : Nat := min (s.region r).budgetSlots (rfld s r regPwrRegState 22 16)

/-- The quota moves by one toward holding the region estimate at 44 × Ppre, and is clamped to CAP_SLOTS (R401, R402). -/
def stepQuota (s : State) (r : Nat) : State :=
  if regionState s r = 1 then
    let g := s.region r
    let q := if g.estRaw < 44 * g.ppre then g.quota + 1 else if 44 * g.ppre < g.estRaw then g.quota - 1 else g.quota
    s.modRegion r (fun g => { g with quota := min q (capSlots s r) })
  else s

/-- 64 × power / cost, in whole slots up to 64 (R403). -/
def slotsFor (p cost : Nat) : Nat := if cost = 0 then 64 else min 64 (64 * p / cost)

/-- B(k) of a tile (R403). -/
def rampBudget (s : State) (r lt k : Nat) : Nat := (s.tile lt).rampB0 + pFull s r * k / 50

/-- The bank lines read for a row group of a format: those of BF16 from the 2.8 W of banks at full issue (R403; 01, Table 1.4), the others not
stated (log entry 2). DEDUCED: 1,024 × 3,200 fJ × 850 × 10^6 per second. -/
def rowLines (fmt : Nat) : Nat := if fmt = 1 then 1024 else Config.rowLines fmt

/-- The format of an item's A operand: as it was read when the item started, or as its descriptor names it now (R403; 07, R183). -/
def itemFormat (s : State) (lt : Nat) (i : MeItem) : Nat :=
  if i.started then i.cfgA.format else (palCfg s lt (tdesc (memBytes (s.tile lt).mem i.r1.toNat 64)).pal).format

/-- PJ64: the cost of 64 slots of the format of the item that issues or is next, at the coefficients of counters 0 to 2 and 4 (R403). -/
def pj64 (s : State) (r lt : Nat) : Nat :=
  let m := meOf s lt
  match m.items.find? (fun i => i.isRows && (!i.started || decide (i.issued < i.rows)) || m.verifying i) with
  | some i =>
    let f := itemFormat s lt i
    let c := macCount f (if i.isRows then (i.plane.getD (m.buf (meWbuf i.payload))).format else 9)
    8500 * (c.2 * coef s r c.1 + rowLines f * coef s r 4)
  | none => Config.idleSlotCost s.fresh

/-- The ramp ceiling of a tile: none once its ramp has ended (R403). -/
def rampCeiling (s : State) (r lt : Nat) : Nat :=
  match (s.region r).ramp with
  | some k => if s.tbit lt regPwrStatus 1 then slotsFor (rampBudget s r lt k) (pj64 s r lt) else 64
  | none => 64

/-- Q of a tile that holds: the region's quota, clamped to the slots in force (R401, R402, Table 16.3). -/
def putQuota (r : Nat) (s : State) (lt : Nat) : State :=
  if s.tbit lt regPwrStatus 0 then s.setTfld lt regPwrStatus 14 8 (min (s.region r).quota (slotsOf s lt)) else s

/-- CAP_SLOTS of a tile, with its quota (R396, R401, Table 16.3); not raised in the period before the region switches back (17, R418). -/
def putSlots (r : Nat) (s : State) (lt : Nat) : State :=
  let c := min (min (capSlots s r) (rampCeiling s r lt)) (if s.clk.relocked.contains r then s.tfld lt regMeRate 14 8 else 64)
  putQuota r (s.setTfld lt regMeRate 14 8 c) lt

/-- CAP_SLOTS of every tile of a region that is not draining or halted (R396, R407). -/
def applySlots (s0 : State) (r : Nat) : State :=
  if 3 ≤ regionState s0 r then s0
  else
    let s := (regionTiles s0 r).foldl (putSlots r) s0
    setRfld s r regPwrRegState 14 8 (((regionTiles s r).map (fun lt => s.tfld lt regMeRate 14 8)).foldl min (capSlots s r))

/-- A region PLL that has relocked switches back at a period boundary, unless the region drains or is halted (17, R418, R419). -/
def switchBack (s : State) (r : Nat) : State :=
  if s.clk.relocked.contains r && decide (regionState s r < 3) then
    { s with clk := { s.clk with relocked := s.clk.relocked.filter (· != r) } }.setMfld (regClkPll (7 + r)) 2 0 2
  else s

/-- PWR_REGION_PERIOD (R396, R398, R401, R406; 17, R418): a period of 10 µs of the region controller. -/
def execPwrRegionPeriod (r : Nat) (s : State) : Out :=
  onRegion r s (fun s => applySlots (stepQuota (stepTherm (switchBack (stepBudget s r (s.clk.relocked.contains r)) r) r) r) r)

/-! ### Droop -/

/-- A tile clamps (R399). -/
def clampTile (r : Nat) (s : State) (lt : Nat) : State :=
  let s1 := putQuota r ((s.setTfld lt regMeRate 22 16 (rfld s r regPwrRegDroop 14 8)).setTbit lt regPwrStatus 2 true) lt
  s1.setTfld lt regPwrDroopCnt 15 0 (satInc 16 (s.tfld lt regPwrDroopCnt 15 0))

/-- DROOP_CLAMP (R399): a tile's supply falls below TH1; it clamps and tells its region. -/
def execDroopClamp (lt : Nat) (s : State) : Out :=
  onTile lt s (fun s =>
    if regionState s (regionOf s lt) = 5 then s
    else (clampTile (regionOf s lt) s lt).modRegion (regionOf s lt) (fun g => { g with droopNotice := g.droopNotice.insert lt }))

/-- DROOP_NOTICE (R399): every tile of the region clamps; those that sent it have clamped. -/
def execDroopNotice (r : Nat) (s : State) : Out :=
  onRegion r s (fun s =>
    let told := (s.region r).droopNotice
    if told.isEmpty then s
    else ((regionTiles s r).filter (fun lt => !told.contains lt)).foldl (clampTile r) (s.modRegion r (fun g => { g with droopNotice := [] })))

/-- A tick of the droop recovery on a tile (R399). -/
def recoverTile (r : Nat) (s : State) (lt : Nat) : State :=
  let d := min 64 (s.tfld lt regMeRate 22 16 + 4)
  let s1 := putQuota r (s.setTfld lt regMeRate 22 16 d) lt
  if d = 64 then s1.setTbit lt regPwrStatus 2 false else s1

/-- DROOP_RECOVERY_TICK (R399): every detector of the region has read above TH1 for HOLD. -/
def execDroopRecoveryTick (r : Nat) (s : State) : Out := onRegion r s (fun s => (regionTiles s r).foldl (recoverTile r) s)

/-- A clock stop on a tile (R400): counted, recorded, and interrupt 13 raised. -/
def clockStop (r lowest : Nat) (s : State) (lt : Nat) : State :=
  let n := satInc 16 (s.tfld lt regPwrDroopCnt 31 16)
  skbEvent ((s.setTfld lt regPwrDroopCnt 31 16 n).modTile lt (fun t => { t with pwrNotice := true })) (.tile lt) 0x14 [r, lowest, n]

/-- DROOP_CLOCK_STOP (R400): a supply of the region falls below TH2; `lowest` is the lowest reading in 0.1 % below the set voltage. No
instruction or item ends. -/
def execDroopClockStop (r lowest : Nat) (s : State) : Out :=
  onRegion r s (fun s => if regionState s r = 5 then s else (regionTiles s r).foldl (clockStop r lowest) s)

/-! ### Barriers -/

/-- The ramp of a tile ends (R404). -/
def endTileRamp (s : State) (lt : Nat) : State :=
  ((s.setTbit lt regPwrStatus 1 false).setTbit lt regPwrStatus 0 false).setTfld lt regPwrStatus 14 8 0

/-- The mean tile estimate of the last complete window (R401). -/
def meanEstimate (s : State) (r : Nat) : Nat :=
  quantise (sumTiles s r (fun lt => (s.tile lt).estRaw)) (regionTiles s r).length

/-- A tile starts to hold: its quota, and its estimate from counters 6 to 15 (R401, R403). -/
def startTileHold (r : Nat) (s : State) (lt : Nat) : State :=
  (putQuota r (s.setTbit lt regPwrStatus 0 true) lt).modTile lt (fun t => { t with preL := withGain s (energy s r lt 6 16) })

/-- WAIT at a region controller (R401, Table 16.3): a ramp ends, and with UP_EN set the hold begins. -/
def powerWaits (s0 : State) (r : Nat) : State :=
  if 3 ≤ regionState s0 r ∨ regionState s0 r = 1 then s0
  else
    let s1 := (regionTiles s0 r).foldl endTileRamp (setRegionState (s0.modRegion r (fun g => { g with ramp := none })) r 0)
    if rfld s1 r regPwrRegCtrl 0 0 = 0 then applySlots s1 r
    else
      let p := meanEstimate s1 r
      let c := pf64 s1 r
      let q := if c = 0 then 64 else ceilDiv (64 * (p - pIdle s1 r)) c
      let s2 := applySlots (s1.modRegion r (fun g => { g with ppre := p, quota := min q (capSlots s1 r) })) r
      let s3 := setRfld (setRegionState s2 r 1) r regPwrRegEst 31 16 (min 65535 (quantise (44 * p) (10 ^ 10)))
      (regionTiles s3 r).foldl (startTileHold r) s3

/-- PWR_BARRIER_WAIT (R341, R401). -/
def execPwrBarrierWait (r : Nat) (s : State) : Out := onRegion r s (fun s => arriving s (.power r false) (fun s1 => powerWaits s1 r))

/-- The ramp of a tile at the present tick: its filler gate, and its end where the ceiling reaches BUDGET_SLOTS (R403, R404). -/
def rampTile (r k : Nat) (s : State) (lt : Nat) : State :=
  if s.tbit lt regPwrStatus 1 then
    let b := rampBudget s r lt k
    if (s.region r).budgetSlots ≤ slotsFor b (pj64 s r lt) then endTileRamp s lt
    else s.modTile lt (fun t => { t with fillGate := slotsFor b (pf64 s r) })
  else s

/-- A tick of a ramp (R403, R404): the region runs again once every tile's ramp has ended. -/
def rampAt (s0 : State) (r k : Nat) : State :=
  let s1 := (s0.drawn.modRegion r (fun g => { g with ramp := some k }))
  let s2 := (regionTiles s1 r).foldl (rampTile r k) s1
  let s3 := applySlots s2 r
  if (regionTiles s3 r).any (fun lt => s3.tbit lt regPwrStatus 1) then s3
  else applySlots (setRegionState (s3.modRegion r (fun g => { g with ramp := none })) r 0) r

/-- A ramp starts at tick 0, with B0 by tile (R403). -/
def startRamp (s0 : State) (r : Nat) (b0 : Nat → Nat) : State :=
  let s1 := (regionTiles s0 r).foldl (fun s lt => (s.setTbit lt regPwrStatus 1 true).modTile lt (fun t => { t with rampB0 := b0 lt })) s0
  rampAt (setRegionState s1 r 2) r 0

/-- B0 of a tile at RELEASE: Q × PF64 / 64 − PL, and 0 without a hold (R403, Table 16.3). -/
def releaseB0 (s : State) (r lt : Nat) : Nat :=
  if regionState s r = 1 then s.tfld lt regPwrStatus 14 8 * pf64 s r / 64 - (s.tile lt).preL else 0

/-- RELEASE at a region controller (R403, Table 16.3): no ramp starts during a drain or a halt. -/
def powerReleases (s : State) (r : Nat) : State := if 3 ≤ regionState s r then s else startRamp s r (releaseB0 s r)

/-- PWR_BARRIER_RELEASE (R341, R403). -/
def execPwrBarrierRelease (r : Nat) (s : State) : Out := onRegion r s (fun s => arriving s (.power r true) (fun s1 => powerReleases s1 r))

/-- PWR_RAMP_TICK (R403): 200 ns of a running ramp. -/
def execPwrRampTick (r : Nat) (s : State) : Out :=
  onRegion r s (fun s => match (s.region r).ramp with
    | some k => if regionState s r = 2 then rampAt s r (k + 1) else s
    | none => s)

end Sys2Proof.Machine
end

