-- ==== Sys2Proof/Machine/Thermal.lean ====
section
/-!
DEFINITION. Heat: sensors, throttling, region halt, resumption and power-off (16, R405 to R410).
-/
namespace Sys2Proof.Machine

open Sys2Proof

/-! ### The region halt -/

/-- Channel transactions of a tile whose region is halted (11, R293): a write in progress is ended with an abort mark. -/
def chHalt (s : State) (lt : Nat) : State :=
  (s.tile lt).xacts.foldl (fun x p =>
    let mine := ((x.tile lt).reqs.map Prod.snd).filter (fun r => r.owner == .xact p.1 && r.phase != .givenUp)
    let x1 := mine.foldl (fun y r =>
      if r.phase == .sent then dropReq (abortWrite y lt r.msg.reqTag) lt r.msg.reqTag
      else if r.phase == .asked then setReq y lt r.msg.reqTag { r with phase := .givenUp }
      else dropReq y lt r.msg.reqTag) x
    endXact x1 lt p.1 p.2 stRegionOff) s

/-- Steps 1 and 2 of Table 16.5 on a tile. -/
def haltTileUnits (s : State) (lt : Nat) : State :=
  let s0 := ((s.setTreg lt regPwrStatus (s.treg lt regPwrStatus &&& 0x4)).setTbit lt regPwrStatus 3 true).setTfld lt regMeRate 14 8 16
  skHalt (chHalt (dmaHalt (rtuHalt (meStop s0 lt stRegionOff) lt) lt) lt) lt

/-- A region halt starts (R407): Underpainting and any ramp stop, and the units end their items. -/
def startHalt (s : State) (r : Nat) : State :=
  let s1 := setRegionState (s.modRegion r (fun g => { g with ramp := none })) r 3
  (regionTiles s1 r).foldl haltTileUnits (setRfld s1 r regPwrRegState 14 8 16)

/-- Whether the drain of a halt has ended: every Matrix Engine of the region has finished its block (R407). -/
def drained (s : State) (r : Nat) : Bool := (regionTiles s r).all (fun lt => (meOf s lt).stopping.isNone)

/-- REGION_HALT_DONE (R407, steps 3 to 5; 17, R419): items issued while the region was halting end as the others (12, R319), cores and banks
stop, and the routers run at 200 MHz. -/
def execRegionHaltDone (r : Nat) (s : State) : Out :=
  onRegion r s (fun s =>
    let s := if regionState s r = 3 then (regionTiles s r).foldl haltTileUnits s else s
    if regionState s r = 3 ∧ drained s r = true then
      let s1 := setRegionState s r 4
      let s2 := { s1 with clk := { s1.clk with relocked := s1.clk.relocked.filter (· != r) } }
      if pllState s (7 + r) = 2 ∨ s.clk.relocked.contains r = true then s2.setMfld (regClkPll (7 + r)) 2 0 3 else s2
    else s)

/-- A halted region resumes (R408): its clocks return, and the ramp runs with B0 = 0. -/
def resumeRegion (s : State) (r : Nat) : State :=
  let s1 := if pllState s (7 + r) = 3 then s.setMfld (regClkPll (7 + r)) 2 0 2 else s
  let s2 := (regionTiles s1 r).foldl (fun x lt => setMeBit (x.setTbit lt regPwrStatus 3 false) lt 14 false) s1
  startRamp (s2.modRegion r (fun g => { g with fatalHalt := false })) r (fun _ => 0)

/-- Whether every sensor of a region reads 85 °C or below (R408, R410). -/
def regionCool (s : State) (r : Nat) : Bool := (regionTemps s r).all (fun t => decide (t ≤ 85))

/-- A write of PWR_REG_CTRL.RESUME (R408; 18, R426): after a FATAL of a controller only a job load ends the halt. -/
def writeResume (s : State) (r : Nat) : State :=
  if regionState s r ≠ 4 then s
  else if !regionCool s r then setRfld s r regPwrRegState 5 5 1
  else if (s.region r).fatalHalt then s
  else resumeRegion s r

/-- REGION_RESUME (R408). -/
def execRegionResume (lv : Level) (r : Nat) (s : State) : Out := onRegion r s (mCommand lv (fun s => writeResume s r))

/-! ### Sensors -/

/-- WARN of a region (Table 16.4): interrupt 13 on every TCC, a log entry, an event and an alert. -/
def stepWarn (s : State) (r : Nat) : State :=
  let ts := regionTemps s r
  if rfld s r regPwrRegState 4 4 = 0 ∧ ts.any (fun t => decide (85 ≤ t)) = true then
    let s1 := (regionTiles s r).foldl (fun x lt => x.modTile lt (fun t => { t with pwrNotice := true })) (setRfld s r regPwrRegState 4 4 1)
    raiseAlert (mcEvent s1 15 noPt r 85) 1
  else if ts.all (fun t => decide (t < 83)) then setRfld s r regPwrRegState 4 4 0
  else s

/-- The EVENT notice of a thermal action without a log entry: the region and the threshold (20, Table 20.10; the form is the model's, log entry 54). -/
def thermalNotice (s : State) (r deg : Nat) : State := lcpEvent s (leBytes 4 r ++ leBytes 4 deg)

/-- THROTTLE of a region (Table 16.4), of which a notice tells when it is set (20, R477). -/
def stepThrottle (s : State) (r : Nat) : State :=
  let ts := regionTemps s r
  if ts.any (fun t => decide (90 ≤ t)) then
    if rfld s r regPwrRegState 3 3 = 0 then thermalNotice (setRfld s r regPwrRegState 3 3 1) r 90 else s
  else if ts.all (fun t => decide (t < 88)) then setRfld s r regPwrRegState 3 3 0
  else s

/-- The readings of a sample join those of the hour under way (21, R493). -/
def addHeat (s : State) (r : Nat) (temps : List (BitVec 8)) : State :=
  let sum := (temps.map (fun t => sgn 8 t.toNat)).foldl (· + ·) 0
  let top := hottest (regionTemps s r)
  { s.modRegion r (fun g => { g with tmax := (g.tmax.1 + top, g.tmax.2 + 1) }) with
    mgt := { s.mgt with heat := (s.mgt.heat.1 + sum, s.mgt.heat.2 + temps.length) } }

/-- THERMAL_SAMPLE (R405; 21, R493): the 16 sensors of a field are sampled, and the actions of Table 16.4 follow. -/
def execThermalSample (f : Nat) (temps : Vector (BitVec 8) 16) (s : State) : Out :=
  if f < 60 then
    let r := regionOfField f
    let s1 := (List.range 16).foldl (fun x n => x.setFfld f (regPwrTemp n) 7 0 (temps.toList.getD n 0).toNat) s
    let s2 := setRfld (addHeat s1 r temps.toList) r regPwrRegState 31 24 ((hottest (regionTemps s1 r)) % 256).toNat
    let s3 := stepThrottle (stepWarn s2 r) r
    .next (if (regionTemps s3 r).any (fun t => decide (98 ≤ t)) && decide (regionState s3 r < 3) then thermalNotice (startHalt s3 r) r 98 else s3)
  else .fault .noSuchUnit

/-! ### The power-off -/

/-- The region in which a Management Complex lies (01; 20, Table 20.2). -/
def mcRegion (b : Bool) : Nat := regionOfField (if b then 35 else 24)

/-- The tiles, routers and Sync node of a region lose their contents, the packets there without a notice, and batches of Sketch tokens toward it fail
(R409 step 2; 03, R68; 06, R167; 09,
R255; 10, R268). -/
def darken (s : State) (r : Nat) : State :=
  let s1 := (regionTiles s r).foldl (fun x lt => (x.setTile lt Tile.reset).setMfld (regFabUse lt) 16 0 0) s
  let s2 := s1.modRegion r (fun g => { g with samples := [], sampleSeq := 0, studyItems := 0, studyDue := false, range := [], ramp := none, droopNotice := [] })
  let s2 := s2.net.foldl (fun x f => match f.msg with
    | .batch dst _ (t :: _) =>
      if regionOf x (gaSel dst) = r then push (fabGive { x with net := x.net.erase f } (gaSel t.srcTile.toNat)) (.batchEnd t stRegionOff) else x
    | _ => x) s2
  let s3 := dropFlights s2 (fun f => f.pos != rootNode && nodeRegion f.pos == r)
  { s3 with
    redHeld := s3.redHeld.filter (fun p => regionOfField (p.1 / 24) != r)
    clk := { s3.clk with relocked := s3.clk.relocked.filter (· != r), waitStart := s3.clk.waitStart.filter (· != 7 + r) } }

/-- The objects homed in a region's node (13, R340). -/
def homedIn (s : State) (r : Nat) : List Nat :=
  (s.objs.filter (fun p => p.2.typ != 0 && p.2.scope == 0 && p.2.region == r)).map Prod.fst

/-- A region is powered off (R409, Table 16.6). -/
def powerOffRegion (s0 : State) (r : Nat) : State :=
  let groups := ((regionTiles s0 r).map (groupOfTile s0)).eraseDups
  let s1 := setRegionState (darken s0 r) r 5
  let s2 := startEpoch (s1.setMfld (regClkPll (7 + r)) 2 0 0)
  let ports := [2 * upperField r, 2 * upperField r + 1, 2 * lowerField r, 2 * lowerField r + 1]
  let s3 := ports.foldl (fun x p => portDown x p causeRegion) s2
  let s4 := (homedIn s3 r).foldl breakObj s3
  let s5 := raiseAlert (mcEvent (groups.foldl haltGroup s4) 15 noPt r 105) 4
  if mcRegion (mcIsB s5) = r then loseMc s5 false
  else if mcRegion (!mcIsB s5) = r then s5.setMfld regSecStatus 1 1 0
  else s5

/-- THERMAL_TRIP (R405, R409): a comparator of the region trips at 105 °C. -/
def execThermalTrip (r : Nat) (s : State) : Out := onRegion r s (fun s => if regionState s r = 5 then s else powerOffRegion s r)

end Sys2Proof.Machine
end

