-- ==== Sys2Proof/Machine/RasTest.lean ====
section
/-!
DEFINITION. Targeted self-tests and what they find, FATAL errors of a field controller, Sketchbook triggers, the full tests, the SVN floors
(18, R426, R430 to R441; 02, R48, R50; 19, R446).
-/
namespace Sys2Proof.Machine

open Sys2Proof

/-- A command on a field controller, where it exists (R36). -/
def onFc (f : Nat) (s : State) (g : State → State) : Out := if f < 60 then .next (g s) else .fault .noSuchUnit

/-! ### Targeted tests -/

/-- The link or the router of a unit is no longer out for its test. -/
def putBack (s : State) (u : UnitId) : State :=
  if u.kind = 4 then modMesh s (fun m => { m with outLinks := m.outLinks.filter (· != linkKey u.pt u.num) })
  else if u.kind = 5 then modMesh s (fun m => { m with outRouters := m.outRouters.filter (· != (u.pt, u.num)) })
  else s

/-- The link or the router of a unit is out of routing for its test. -/
def takeOut (s : State) (u : UnitId) : State :=
  if u.kind = 4 then modMesh s (fun m => { m with outLinks := m.outLinks.insert (linkKey u.pt u.num) })
  else if u.kind = 5 then modMesh s (fun m => { m with outRouters := m.outRouters.insert (u.pt, u.num) })
  else s

/-- The link or the router of a unit, taken out of routing or put back at an epoch change (R432). -/
def routeUnit (s : State) (u : UnitId) (out : Bool) : State :=
  if u.kind = 4 ∨ u.kind = 5 then startEpoch (if out then takeOut s u else putBack s u) else s

/-- TESTING of the tile that a physical tile serves. -/
def setTesting (s : State) (pt : Nat) (b : Bool) : State := onRasTile s pt (fun w => setBit w 19 b)

/-- The next test of a field controller: the first of its queue whose unit is not under test (R430). -/
def nextTest (c : Fc) : Option TestJob :=
  c.tests.find? (fun j => !j.running && !j.deferred && !c.tests.any (fun k => k.running && k.unit == j.unit))

/-- Mark the first queued test of a unit as running. -/
def markRunning (u : UnitId) : List TestJob → List TestJob
  | [] => []
  | j :: r => if j.unit == u && !j.running && !j.deferred then { j with running := true } :: r else j :: markRunning u r

/-- TEST_START (R430, R432). -/
def execTestStart (f : Nat) (s : State) : Out :=
  onFc f s (fun s =>
    if (s.fc f).reloading then s
    else
      match nextTest (s.fc f) with
      | some j =>
        setTesting (routeUnit (s.modFc f (fun c => { c with tests := markRunning j.unit c.tests })) j.unit true) j.unit.pt true
      | none => s)

/-- OUTCOME of a test that passes (R433): a third transient in 24 hours is lasting. -/
def transientOutcome (h : List (UnitId × Nat)) (u : UnitId) (now : Nat) : Nat :=
  let mine := (h.filter (fun x => x.1 == u)).map Prod.snd
  if 2 ≤ mine.length ∧ now < mine.getD (mine.length - 2) 0 + 86400000000 then 4 else 2

/-- The history of transients with a new one: 256 entries, the oldest replaced (R433). -/
def addTransient (h : List (UnitId × Nat)) (u : UnitId) (now : Nat) : List (UnitId × Nat) :=
  (if 256 ≤ h.length then h.drop 1 else h) ++ [(u, now)]

/-- The cycles that a targeted test takes, by the kind of its unit (Table 18.3); a link's 2^20 bits per lane go one a cycle, which its 1.234 ms
at 850 MHz tell (DEDUCED, log entry 54). -/
def testCycles (kind : Nat) : Nat :=
  match kind with
  | 1 => 122880
  | 2 | 3 => 26624
  | 4 => 2 ^ 20
  | 5 => 8192
  | 6 => 81920
  | _ => 40960

/-- A targeted test ends (R433, R435): its RESULT entry, its event, and a lasting unit's pending entry; a link or a router that passes
returns to routing, unless a finding isolates it (R435). -/
def testDone (s : State) (f : Nat) (j : TestJob) (pass : Bool) (lane : Option Nat) : State :=
  let u := j.unit
  let dur := testCycles u.kind
  let out := if pass then transientOutcome (s.fc f).history u s.aon else 3
  let s1 := s.modFc f (fun c => { c with
    tests := c.tests.filter (fun k => !(k.unit == u && k.running))
    history := if pass then addTransient c.history u s.aon else c.history })
  let s2 := testEnded s1 f j out dur
  if out = 2 then routeUnit s2 u false else putBack (makeLasting s2 u lane out) u

/-- TEST_DONE (R433): the running test of unit (kind, pt, num) passes or fails; for a link, a LANE_REPAIR follows where
one lane fails of a group whose spare is free (R435). -/
def execTestDone (f kind pt num : Nat) (pass : Bool) (lanes lane : Nat) (s : State) : Out :=
  onFc f s (fun s =>
    match (s.fc f).tests.find? (fun k => k.running && k.unit == ⟨kind, pt, num⟩) with
    | some j => testDone s f j pass (if lanes = 1 then some lane else none)
    | none => s)

/-! ### Field controllers -/

/-- FIELD_CONTROLLER_FATAL (R426, R429): the region halts and stays halted until the next job load, its placement groups are halted, and the
controller reloads its firmware. -/
def execFieldControllerFatal (f : Nat) (s : State) : Out :=
  onFc f s (fun s =>
    let r := regionOfField f
    let s1 := logBoth s f ⟨9, noPt, f⟩ 3 0 0 0
    let s2 := s1.modFc f (fun c => { c with reloading := true })
    if regionState s2 r = 5 then s2
    else
      let s3 := s2.modRegion r (fun g => { g with fatalHalt := true })
      let s4 := (((regionTiles s3 r).map (groupOfTile s3)).eraseDups).foldl haltGroup s3
      if regionState s4 r < 3 then startHalt s4 r else s4)

/-- FC_FIRMWARE_RELOAD_DONE (R426). -/
def execFcFirmwareReloadDone (f : Nat) (s : State) : Out := onFc f s (fun s => s.modFc f (fun c => { c with reloading := false }))

/-! ### Sketchbook -/

/-- A command on the recorder under a selector, where there is one (R442). -/
def onRecorder (sel : BitVec 12) (s : State) (f : Target → State) : Out :=
  match targetOf s sel.toNat with
  | some tg => .next (f tg)
  | none => .fault .noSuchUnit

/-- SKB_TRIGGER (R440, R441): a programmable trigger on an interrupt fires as that interrupt becomes pending on its tile. -/
def execSkbTrigger (sel : BitVec 12) (n : BitVec 4) (s : State) : Out :=
  onRecorder sel s (fun tg =>
    let t := rget s tg (regSkbTrig n.toNat)
    match tg with
    | .tile lt => if bit t 0 && fld t 2 1 == 1 && intPending s lt (fld t 15 8) then skbProg s tg n.toNat else s
    | _ => s)

/-- SKB_RECORD_WRITE (R438). -/
def execSkbRecordWrite (sel : BitVec 12) (s : State) : Out := onRecorder sel s (fun tg => skbWrite s tg)

/-- A write of SKB_FIRE (R440): the trigger fires where it is enabled and of the software kind. -/
def skbFire (s : State) (tg : Target) (n : Nat) : State :=
  let t := rget s tg (regSkbTrig n)
  if bit t 0 && fld t 2 1 == 0 then skbProg s tg n else s

/-- SKB_FIRE (R440, R442): from S or M; a reserved selector answers PROT_FAULT (R17). -/
def execSkbFire (sel : BitVec 12) (lv : Level) (n : BitVec 4) (s : State) : Out :=
  .next (match targetOf s sel.toNat with
    | some tg => if lv = .u then accessReply s stProtFault 0 else accessReply (skbFire s tg n.toNat) stOk 0
    | none => accessReply s stProtFault 0)

/-! ### The full tests -/

/-- Whether a job is loaded (20, MGT_BOOT_STATUS). -/
def jobLoaded (s : State) : Bool := s.mfld regMgtBootStatus 8 8 == 1

/-- A request for the full tests (02, R50): refused while a job is loaded. -/
def fullTest (s : State) : State :=
  if jobLoaded s then s.setMfld regMgtGessoCtrl 2 2 1 else { s with gesso := { s.gesso with fullBusy := true } }

/-- A write of MGT_GESSO_CTRL at M (02, R53). -/
def writeGessoCtrl (s : State) (v : Word) : State :=
  let s1 := if bit v 2 then s.setMfld regMgtGessoCtrl 2 2 0 else s
  if bit v 0 then fullTest s1 else s1

/-- GESSO_FULL_TEST_WRITE (02, R50). -/
def execGessoFullTestWrite (lv : Level) (s : State) : Out := .next (mCommand lv fullTest s)

/-- The findings of tests become pending entries, as the tests name them (02, R48; that one outside Table 2.6 is taken too is a DESIGN CHOICE, log
entry 54). -/
def addFindings (s : State) (fs : List Finding) : State := fs.foldl (fun x f => gessoFinding x f.typ f.pt f.arg0 f.arg1 false) s

/-- FULL_TEST_DONE (02, R50). -/
def execFullTestDone (fs : List Finding) (s : State) : Out :=
  .next (if s.gesso.fullBusy then addFindings { s with gesso := { s.gesso with fullBusy := false } } fs else s)

/-! ### Security version floors -/

/-- COMMIT_SVN (19, R446): each stage's floor of 64 steps rises to the SVN that runs; a floor never falls. -/
def commitSvn (s : State) : State :=
  { s with flash := { s.flash with floors := [1, 2, 3].map (fun n =>
      max (s.flash.floors.getD (n - 1) 0) (match kvFind s.sec.running n with
        | some c => min 64 (kvGet FwCopy.shipped s.flash.fw c).svn
        | none => 0)) } }

/-- SEC_COMMIT_SVN (19, R446, R463). -/
def execSecCommitSvn (lv : Level) (s : State) : Out := .next (mCommand lv commitSvn s)

/-- SEC_UNLOCK_CTR_LO_READ (19, R463): the low word of the unlock counter; the high word is latched. -/
def execSecUnlockCtrLoRead (lv : Level) (s : State) : Out :=
  .next (if lv = .u then accessReply s stProtFault 0
    else accessReply { s with sec := { s.sec with unlockHi := wordAt s.sec.unlockCtr.toNat 1 } } stOk (wordAt s.sec.unlockCtr.toNat 0))

end Sys2Proof.Machine
end

