-- ==== Sys2Proof/Machine/Clocks.lean ====
section
/-!
DEFINITION. Clocks: the REF monitor, trimming, the PLLs, loss of reference and coasting, sleep and wake of tiles, the AON count
(17, R412 to R424).
-/
namespace Sys2Proof.Machine

open Sys2Proof

/-- A command on a PLL, where it exists (Table 17.1). -/
def onPll (n : Nat) (s : State) (f : State → State) : Out := if n < 37 then .next (f s) else .fault .noSuchUnit

/-- The state with the clock monitors changed. -/
def modClk (s : State) (f : Clk → Clk) : State := { s with clk := f s.clk }

/-- STATE of a PLL. -/
def setPll (s : State) (n st : Nat) : State := s.setMfld (regClkPll n) 2 0 st

/-- Whether REF is valid (R413). -/
def refValid (s : State) : Bool := s.mfld regClkStatus 3 3 == 1

/-- Whether a PLL relocks by itself (R418). -/
def autoRelock (s : State) (n : Nat) : Bool := s.mfld (regClkPll n) 18 18 == 1

/-- Whether the Management Complex's clock interrupt is pending: while REF_LOST or any COAST flag is set (R417, R424). -/
def mcClockInt (s : State) : Bool := s.mfld regClkStatus 4 4 == 1 || (List.range 37).any (fun n => s.mfld (regClkPll n) 3 3 == 1)

/-- HOLDING: neither REF nor USB frames trim TRIM (R414). -/
def noteHolding (s : State) : State := s.setMfld regClkStatus 2 2 (b2n (!refValid s && !s.mgt.usb))

/-- Whether the 48 MHz clock holds its accuracy (20, R479): its PLL runs, and with REF valid TRIM is TRIMMED_REF, without it the fused correction
applies. DEDUCED: TRIMMED_SOF, which is within 0.05 %, does as well. -/
def usbClockGood (s : State) : Bool := pllState s 2 == 2 && (!refValid s || decide (2 ≤ s.mfld regClkStatus 1 0))

/-- The USB port stays attached only while its clock is accurate (20, R479). -/
def usbKeep (s : State) : State :=
  if s.mgt.usb && !usbClockGood s then noteHolding { s with mgt := { s.mgt with usb := false } } else s

/-! ### PLLs -/

/-- The fabric ports of a SerDes PLL. -/
def pllPorts (n : Nat) : List Nat := (List.range 120).filter (fun p => fabPll p == n)

/-- The ports of a SerDes PLL go down, the fabric ports with cause COAST (R417). -/
def serdesDown (s : State) (n : Nat) : State :=
  if n = 3 ∨ n = 4 then hostDown s (n - 3) else (pllPorts n).foldl (fun x p => portDown x p causeCoast) s

/-- The ports of a SerDes PLL that is running again retrain (R350, R418). -/
def serdesUp (s : State) (n : Nat) : State :=
  if n = 3 ∨ n = 4 then trainHost s (n - 3) else (pllPorts n).foldl (fun x p => if portState x p = 4 then startPort x p else x) s

/-- A PLL reaches RUN. -/
def pllRuns (s : State) (n : Nat) : State :=
  let s1 := modClk (setPll s n 2) (fun c => { c with waitStart := c.waitStart.filter (· != n) })
  if 3 ≤ n ∧ n ≤ 6 then serdesUp s1 n else s1

/-- Whether a region PLL has relocked and its region is to switch back (R418). -/
def hasRelocked (s : State) (n : Nat) : Bool := decide (7 ≤ n) && s.clk.relocked.contains (n - 7)

/-- A PLL loses its reference or its lock (R417, R419): a SerDes PLL stops with its ports; another coasts at 200 MHz, which sets COAST and
makes a log entry of class CE. A PLL that is OFF stays so, and the USB PLL does not depend on REF. One that has relocked but whose region has
not switched back yet coasts again. -/
def pllCoasts (s : State) (n : Nat) : State :=
  if n = 2 ∨ pllState s n = 0 ∨ (pllState s n = 4 ∧ hasRelocked s n = false) then s
  else if 3 ≤ n ∧ n ≤ 6 then
    serdesDown (modClk (setPll s n 0) (fun c => { c with waitStart := if autoRelock s n then c.waitStart ++ [n] else c.waitStart })) n
  else
    let s1 := modClk ((setPll s n 4).setMfld (regClkPll n) 3 3 1) (fun c => { c with relocked := c.relocked.filter (fun r => 7 + r != n) })
    mcLog s1 1 14 noPt n 0 0

/-- START (R418 to R420): an OFF PLL starts, a coasting one relocks; while REF is not valid the start waits. -/
def pllStart (s : State) (n : Nat) : State :=
  let wait := modClk s (fun c => { c with waitStart := if c.waitStart.contains n then c.waitStart else c.waitStart ++ [n] })
  if pllState s n = 0 then (if refValid s ∨ n = 2 then setPll s n 1 else wait)
  else if pllState s n = 4 then wait
  else s

/-- STOP (R420). -/
def pllStop (s : State) (n : Nat) : State :=
  if (7 ≤ n && regionState s (n - 7) == 5) || (!jobLoaded s && s.fab.routes.isNone) then
    let s1 := modClk (setPll s n 0) (fun c => { c with waitStart := c.waitStart.filter (· != n), relocked := c.relocked.filter (fun r => 7 + r != n) })
    if 3 ≤ n ∧ n ≤ 6 then serdesDown s1 n else usbKeep s1
  else s.setMfld (regClkPll n) 4 4 1

/-- A write of CLK_PLLn at M (R424): W1C flags, AUTO_RELOCK, START, STOP. -/
def writePll (s : State) (n : Nat) (v : Word) : State :=
  let w := (s.mreg (regClkPll n)) &&& ~~~(v &&& 0x18)
  let s1 := s.setMreg (regClkPll n) (setBit w 18 (bit v 18))
  let s2 := if bit v 16 then pllStart s1 n else s1
  if bit v 17 then pllStop s2 n else s2

/-- CLK_PLL_START (R420). -/
def execClkPllStart (lv : Level) (n : Nat) (s : State) : Out := onPll n s (mCommand lv (fun s => pllStart s n))

/-- CLK_PLL_STOP (R420). -/
def execClkPllStop (lv : Level) (n : Nat) (s : State) : Out := onPll n s (mCommand lv (fun s => pllStop s n))

/-- PLL_LOCK (R420). -/
def execPllLock (n : Nat) (s : State) : Out := onPll n s (fun s => if pllState s n = 1 then pllRuns s n else s)

/-- PLL_LOSS_OF_LOCK (R417): one PLL loses lock while REF is valid. -/
def execPllLossOfLock (n : Nat) (s : State) : Out :=
  onPll n s (fun s =>
    if refValid s && pllState s n != 0 && (pllState s n != 4 || hasRelocked s n) then
      pllCoasts (s.setMfld (regClkPll n) 15 8 (satInc 8 (s.mfld (regClkPll n) 15 8))) n
    else s)

/-- A coasting region PLL has relocked (R418, R419): the region switches back at its next period with its slots scaled, or, halted or
draining, takes SLOW and returns to RUN on resumption. CAP_SLOTS of a tile that a ramp holds lower is scaled from there. -/
def regionRelocks (s : State) (r : Nat) : State :=
  if 3 ≤ regionState s r then setPll s (7 + r) 3
  else
    let s1 := (modClk s (fun c => { c with relocked := c.relocked ++ [r] })).modRegion r (fun g => { g with
      budgetSlots := min g.budgetSlots (rfld s r regPwrRegState 22 16) * 200 / 850 })
    applySlots ((regionTiles s1 r).foldl (fun x lt => x.setTfld lt regMeRate 14 8 (x.tfld lt regMeRate 14 8 * 200 / 850)) s1) r

/-- PLL_RELOCK_DONE (R418): REF is valid, and the PLL has AUTO_RELOCK set or was started. -/
def execPllRelockDone (n : Nat) (s : State) : Out :=
  onPll n s (fun s =>
    let asked := s.clk.waitStart.contains n
    if !refValid s then s
    else if 3 ≤ n ∧ n ≤ 6 then (if pllState s n = 1 ∨ pllState s n = 0 ∧ asked = true then pllRuns s n else s)
    else if pllState s n = 4 && (autoRelock s n || asked) && !hasRelocked s n then
      (if n < 7 then pllRuns s n else regionRelocks (modClk s (fun c => { c with waitStart := c.waitStart.filter (· != n) })) (n - 7))
    else s)

/-! ### REF -/

/-- A PLL whose START waits begins to start (R419). -/
def startWaiting (s : State) (n : Nat) : State :=
  if pllState s n = 0 then setPll (modClk s (fun c => { c with waitStart := c.waitStart.filter (· != n) })) n 1 else s

/-- REF becomes valid (R413, R418): PLLs whose start waits begin to start. -/
def refReturns (s : State) : State :=
  let s1 := modClk (noteHolding (s.setMfld regClkStatus 3 3 1)) (fun c => { c with bad := 0, trimGood := 0 })
  usbKeep (s1.clk.waitStart.foldl startWaiting s1)

/-- REF is lost (R417, Table 17.2). -/
def refLost (s : State) : State :=
  let s1 := noteHolding ((s.setMfld regClkStatus 3 3 0).setMfld regClkStatus 4 4 1)
  let s2 := mcNote (modClk s1 (fun c => { c with good := 0, bad := 0, trimGood := 0 })) 14 noPt (s1.freeBelow (2 ^ 32)) 0
  (List.range 37).foldl pllCoasts s2

/-- REF_MONITOR_WINDOW (R413): REF edges counted in a window of 10 µs. -/
def execRefMonitorWindow (count : Nat) (s : State) : Out :=
  let s1 := s.setMfld regClkStatus 25 16 (min 1023 count)
  .next (if refValid s then
    (if s.mfld regClkStatus 1 0 < 2 then s1
     else
       let bad := if count < 495 ∨ 505 < count then s.clk.bad + 1 else 0
       if count = 0 ∨ bad = 2 then refLost s1 else modClk s1 (fun c => { c with bad := bad }))
  else
    let good := if 480 ≤ count ∧ count ≤ 520 then s.clk.good + 1 else 0
    if good = 100 then refReturns (modClk s1 (fun c => { c with good := 0 })) else modClk s1 (fun c => { c with good := good }))

/-- REF_TIMEOUT (R413): 50 ms after power-on REF is not valid. -/
def execRefTimeout (s : State) : Out := .next (if refValid s then s else enterService (s.setMfld regClkStatus 5 5 1))

/-! ### Trimming -/

/-- The trim code (CLK_TRIM.CODE). -/
def trimCode (s : State) : Int := sgn 10 (s.mfld regClkTrim 9 0)

/-- The state with the trim code moved by `d`, within its range (R414). -/
def moveTrim (s : State) (d : Int) : State := s.setMfld regClkTrim 9 0 ((max (-512) (min 511 (trimCode s + d))) % 1024).toNat

/-- A trim count of TRIM cycles where `expect` are expected (R414): the first sets the code, each later one moves it by at most a step;
two in a row within 0.02 % make it trimmed. -/
def trimBy (s : State) (count expect state : Nat) : State :=
  let far := quantise (10000 * (max count expect - min count expect)) expect
  let steps := if s.clk.trimmed then min 1 far else far
  let s1 := moveTrim s (if expect < count then -(steps : Int) else steps)
  let good := if 5000 * (max count expect - min count expect) ≤ expect then s.clk.trimGood + 1 else 0
  let s2 := modClk s1 (fun c => { c with trimmed := true, trimGood := good })
  let s3 := noteHolding s2
  if 2 ≤ good then s3.setMfld regClkStatus 1 0 state else if s3.mfld regClkStatus 1 0 = 0 then s3.setMfld regClkStatus 1 0 1 else s3

/-- TRIM_COUNT (R414): a count over 65,536 REF cycles, or over 16 USB frames (`sof`), ends. -/
def execTrimCount (count : Nat) (sof : Bool) (s : State) : Out :=
  .next (if s.mfld regClkTrim 10 10 = 1 then s
    else if !sof && refValid s then trimBy s count 131072 2
    else if sof && !refValid s && s.mgt.usb then trimBy s count 1600000 3
    else s)

/-- CLK_AON_LO_READ (R424): the low word of the AON count; the high word is latched. -/
def execClkAonLoRead (lv : Level) (s : State) : Out :=
  .next (if lv = .u then accessReply s stProtFault 0
    else accessReply { s with sec := { s.sec with aonHi := wordAt (s.aon % 2 ^ 48) 1 } } stOk (wordAt s.aon 0))

/-! ### Sleep and wake -/

/-- Whether an interrupt that ends `wfi` is pending (R112, R422). -/
def wakePending (s : State) (lt : Nat) : Bool := (intToTake s lt).isSome

/-- Whether a tile has been idle as R421 asks. -/
def tileIdle (s : State) (lt : Nat) : Bool :=
  let t := s.tile lt
  t.tcc.wait == some .interrupt && t.lanes.all (fun p => p.2.st != .running) && t.sk.active.isNone &&
    t.me.items.isEmpty && t.me.preds.all (fun p => p.stopped) && t.dma.isEmpty && t.rtu.isEmpty && t.sk.items.isEmpty &&
    s.tfld lt regPwrStatus 14 8 == 0 && (pllState s (7 + regionOf s lt) == 2 || pllState s (7 + regionOf s lt) == 4)

/-- TILE_SLEEP (R421): the tile has been idle for 256 cycles, and no event that would wake it is there (R422). -/
def execTileSleep (lt : Nat) (s : State) : Out :=
  onTile lt s (fun s =>
    if tileIdle s lt && !wakePending s lt && (s.tile lt).asleep == 0 && decide (regionState s (regionOf s lt) < 3) then
      s.modTile lt (fun t => { t with asleep := 1 })
    else s)

/-- TILE_WAKE (R422): an interrupt that ends `wfi`, or a wake message, reaches a sleeping tile whose region is not halted. -/
def execTileWake (lt : Nat) (s : State) : Out :=
  onTile lt s (fun s =>
    if (s.tile lt).asleep == 1 && decide (regionState s (regionOf s lt) < 3) then s.modTile lt (fun t => { t with asleep := 2 }) else s)

/-- TILE_WAKE_DONE (R422, Table 17.3): the tile is awake; its TCC retires `wfi` and takes the interrupt. Once a halt of its region has begun it
wakes after the resumption (16, R407). -/
def execTileWakeDone (lt : Nat) (s : State) : Out :=
  onTile lt s (fun s =>
    if (s.tile lt).asleep == 2 && decide (regionState s (regionOf s lt) < 3) then
      let s1 := s.modTile lt (fun t => { t with asleep := 0 })
      match intToTake s1 lt with
      | some i => if tccLive s1 lt then interruptEntry s1 lt i else s1
      | none => s1
    else s)

end Sys2Proof.Machine
end

