-- ==== Sys2Proof/Machine/JobImage.lean ====
section
/-!
DEFINITION. The job image: its header, its directory, its sections, and the checks that a job load makes (20, R478; 01, R25; 02, R52).

Where the spec gives a section's contents without their arrangement, the arrangement is a design choice (log entry 9): section 2 is
LC_CFG, MEM_CFG and FAB_ALLOW in 4 B each, the S entry address in 8 B, then 2 B for each table tile; section 4 is the 256 entries,
PAL_SEED_LO, PAL_SEED_HI, PAL_STEP and PAL_CTRL in 4 B each; section 5 is 256 words of SYNC_MIRn and 64 semaphores of 4 B; in section 6
the step barrier's number takes 2 B after the declarations.
-/
namespace Sys2Proof.Machine

open Sys2Proof

/-- A section of a job image (R478): its directory entry and its data. -/
structure Section where
  typ : Nat
  lt : Nat
  target : Nat
  off : Nat
  len : Nat
  data : List Byte

/-- The number of sections (R478). -/
def imgSections (img : List Byte) : Nat := fieldAt img 0x12 2

/-- The section of directory entry `i` (R478). -/
def imgSection (img : List Byte) (i : Nat) : Section :=
  let e := 64 + 24 * i
  let off := fieldAt img (e + 8) 8
  let len := fieldAt img (e + 16) 8
  ⟨fieldAt img e 2, fieldAt img (e + 2) 2, fieldAt img (e + 4) 4, off, len, (img.drop off).take len⟩

/-- The sections of an image in directory order. -/
def imgAll (img : List Byte) : List Section := (List.range (imgSections img)).map (imgSection img)

/-- The sections of a type. -/
def secsOf (ss : List Section) (t : Nat) : List Section := ss.filter (fun x => x.typ == t)

/-- The last section of a type for a tile. -/
def secFor (ss : List Section) (t lt : Nat) : Option Section := (ss.reverse).find? (fun x => x.typ == t && x.lt == lt)

/-! ### Declarations -/

/-- The object that 16 B of section 6 declare (13, Table 13.1). -/
def objOf (b : List Byte) : SyncObj :=
  let sc := fieldAt b 1 1
  { SyncObj.unused with
    typ := fieldAt b 0 1 % 4, scope := sc % 4, fieldOnly := nbit sc 2, field := b2n (nbit sc 3), power := nbit sc 4
    region := fieldAt b 2 1, group := fieldAt b 3 1, parts := fieldAt b 4 4, value := BitVec.ofNat 32 (fieldAt b 8 4) }

/-- Whether a declaration has every field in range and every reserved field zero (13, R330, Table 13.1), and no group object where the
module holds no ID (R339). -/
def declOk (s : State) (b : List Byte) : Bool :=
  let x := objOf b
  let sc := fieldAt b 1 1
  fieldAt b 0 1 < 4 && sc < 32 && x.scope != 3 && fieldAt b 12 4 == 0 &&
    (if x.scope = 0 then decide (x.region < 30) else x.region == 0) &&
    (if x.scope = 2 then decide (x.group < 64) && s.moduleId.isSome else x.group == 0) &&
    (if x.typ = 1 then decide (1 ≤ x.parts) && decide (x.parts ≤ 2 ^ 20) else x.parts == 0) &&
    (x.typ != 3 || decide (x.value.toNat < 2))

/-- The declarations of an image, by object (section 6). -/
def imgObj (ss : List Section) (o : Nat) : SyncObj :=
  match (secsOf ss 6).reverse with
  | x :: _ => if o < 16384 then objOf (slice x.data (16 * o) 16) else SyncObj.unused
  | [] => SyncObj.unused

/-- The step barrier that an image names; none for 0xFFFF (section 6; 07, R188). -/
def imgStep (ss : List Section) : Option Nat :=
  match (secsOf ss 6).reverse with
  | x :: _ => let n := fieldAt x.data (16 * 16384) 2; if n = 0xFFFF then none else some n
  | [] => none

/-- A group entry of section 7 (13, R339). -/
def groupOfBytes (b : List Byte) : GroupEnt :=
  ⟨nbit (fieldAt b 0 1) 0, nbit (fieldAt b 0 1) 1, (List.range (fieldAt b 1 1)).map (fun i => fieldAt b (4 + 2 * i) 2), fieldAt b 2 2⟩

/-- Whether a group entry has every field in range and every reserved field zero (13, R339). -/
def groupOk (b : List Byte) : Bool :=
  fieldAt b 0 1 < 4 && fieldAt b 1 1 ≤ 8 && fieldAt b 0x14 12 == 0 &&
    (List.range 8).all (fun i => decide (i < fieldAt b 1 1) || fieldAt b (4 + 2 * i) 2 == 0)

/-- FORMAT of the Palette entry that an image gives a tile (section 4). -/
def imgFormat (ss : List Section) (lt n : Nat) : Nat :=
  match secFor ss 4 lt with
  | some x => fieldAt x.data (32 * n) 1 % 16
  | none => 0

/-- Whether a reduction declaration is accepted (10, R270, Table 10.5; 13, R331): fields in range, areas within visible memory, and SYNC a
counter whose home accepts the destination. -/
def redOk (s : State) (ss : List Section) (i : Nat) (b : List Byte) : Bool :=
  let f := fieldAt b
  if f 3 1 = 0 then f 0x28 24 == 0
  else
    let fmt := imgFormat ss (f 6 2) (f 2 1)
    let n := f 8 4
    f 0 1 == i && (f 1 1 == 0 || f 1 1 == 1 || f 1 1 == 14) && f 3 1 == 1 && decide (2 ≤ f 4 2) && decide (f 4 2 ≤ 1320) &&
      decide (f 6 2 < ltCount s) && decide (64 ≤ n) && decide (n ≤ 2 ^ 24) && n % 64 == 0 && decide (1 ≤ f 0x0C 2) && decide (f 0x0C 2 ≤ 64) &&
      (fmt ≤ 4 || fmt == 14) && f 0x28 24 == 0 &&
      visible (f 0x10 4) (if fmt = 14 then 4 * n else n * (elemBits fmt / 8)) &&
      (if fmt = 14 then visible (f 0x14 4) (2 * n) else f 0x14 4 == 0) && visible (f 0x18 4) (f 0x0C 2 * f 4 2 * 512) &&
      (imgObj ss (f 0x0E 2)).typ == objCounter && homeAccepts s (imgObj ss (f 0x0E 2)) (f 6 2)

/-! ### Checks -/

/-- Whether bytes of section 1 reach a bank that is off (03, R66). -/
def onOffBank (s : State) (ss : List Section) (x : Section) : Bool :=
  let inter := match secFor ss 2 x.lt with
    | some y => nbit (fieldAt y.data 4 4) 0
    | none => false
  (s.tile x.lt).banks.any (fun p => p.2 != .on && (List.range x.len).any (fun i => bankOf inter (x.target + i) == p.1))

/-- Whether the bits of the 4 B at `i` of a section that a mask leaves out are zero (R478). -/
def noReserved (x : Section) (i m : Nat) : Bool := (fieldAt x.data i 4 &&& (2 ^ 32 - 1 - m)) == 0

/-- A channel entry of section 3: absent, whatever else it carries, or present with its reserved bits zero (11, R278; R478). -/
def channelOk (x : Section) (n : Nat) : Bool :=
  fieldAt x.data (8 * n + 4) 4 % 4 == 0 ||
    (fieldAt x.data (8 * n + 4) 4 % 4 == 1 && noReserved x (8 * n) 0xFFFF0FFF && noReserved x (8 * n + 4) 0xFFFF0FFF)

/-- The checks of a section's own chapter (Table 20.11); a grid-mode tile uses LINEAR (03, R58). -/
def sectionOk (s : State) (ss : List Section) (x : Section) : Bool :=
  match x.typ with
  | 1 => visible x.target x.len && !onOffBank s ss x
  | 2 => 20 ≤ x.len && x.len % 2 == 0 && fieldAt x.data 0 4 < 2 && fieldAt x.data 4 4 < 4 &&
      (nbit (fieldAt x.data 0 4) 0 || !nbit (fieldAt x.data 4 4) 0) && fieldAt x.data 8 4 ≤ 65536 &&
      fieldAt x.data 12 8 % 4 == 0 && (List.range ((x.len - 20) / 2)).all (fun i => decide (fieldAt x.data (20 + 2 * i) 2 < ltCount s))
  | 3 => x.len == 2048 && (List.range 256).all (channelOk x)
  | 4 => x.len == 256 * 32 + 16 && noReserved x (256 * 32 + 12) 0xF &&
      (List.range 256).all (fun n => noReserved x (32 * n) 0x03073F0F && noReserved x (32 * n + 4) 0x001FFFFF)
  | 5 => x.len == 256 * 4 + 64 * 4 && (List.range 256).all (fun n => noReserved x (4 * n) 0xF0003FFF)
  | 6 => x.len == 16 * 16384 + 2 && (List.range 16384).all (fun o => declOk s (slice x.data (16 * o) 16))
  | 7 => x.len == 64 * 32 && (List.range 64).all (fun g => groupOk (slice x.data (32 * g) 32))
  | 8 => x.len == 64 * 64 && (List.range 64).all (fun i => redOk s ss i (slice x.data (64 * i) 64))
  | 9 => x.len == 2 * 1320 && (List.range 1320).all (fun i => decide (fieldAt x.data (2 * i) 2 < 1320))
  | _ => false

/-- The sum of the allowances of an image (14, R376). -/
def allowances (ss : List Section) : Nat := ((secsOf ss 2).map (fun x => fieldAt x.data 8 4)).foldl (· + ·) 0

/-- Whether every valid mirror of an image names an object whose home accepts the tile (13, R336). -/
def mirrorsOk (s : State) (ss : List Section) : Bool :=
  (secsOf ss 5).all (fun x => (List.range 256).all (fun n =>
    let w := fieldAt x.data (4 * n) 4
    !nbit w 31 || homeAccepts s (imgObj ss (w % 2 ^ 14)) x.lt))

/-- The number of the first check of R478 that an image fails, in the order of its list; none where it passes. A wrong magic, version,
size or section type counts as the first. -/
def jobFails (s : State) (img : List Byte) : Option Nat :=
  let ss := imgAll img
  if fieldAt img 0 4 ≠ 0x424F4A58 ∨ fieldAt img 4 2 ≠ 1 ∨ fieldAt img 6 2 ≠ 64 ∨ fieldAt img 0x32 14 ≠ 0 ∨ ss.any (fun x => x.typ == 0 || decide (9 < x.typ)) = true then some 1
  else if img.length < 64 + 24 * imgSections img ∨ ss.any (fun x => decide (img.length < x.off + x.len)) = true then some 2
  else if ss.any (fun x => if x.typ ≤ 5 then decide (fieldAt img 0x10 2 ≤ x.lt) else x.lt != 0xFFFF) then some 3
  else if ss.any (fun x => !sectionOk s ss x) ∨ 65536 < allowances ss then some 4
  else if fieldAt img 0x10 2 ≠ ltCount s ∨ (s.gesso.counts.any (· < 44) = true ∧ slice img 0x14 30 ≠ (List.range 30).flatMap (fun r => leBytes 1 (s.gesso.counts.getD r 0))) then some 5
  else if (match imgStep ss with | some o => (imgObj ss o).typ != objBarrier | none => false) then some 6
  else if !mirrorsOk s ss then some 7
  else none

end Sys2Proof.Machine
end

