-- ==== Sys2Proof/Machine/Study.lean ====
section
/-!
DEFINITION. The Study unit's outcomes and step boundaries (07, R188 to R196).
-/
namespace Sys2Proof.Machine

open Sys2Proof

/-! ### Samples -/

/-- A field of a word of a Palette entry. -/
def palFld (s : State) (lt n w hi lo : Nat) : Nat := fld (palWord s lt n w) hi lo

/-- The state with a field of a word of a Palette entry set. -/
def setPalFld (s : State) (lt n w hi lo v : Nat) : State := setPalWord s lt n w (setFld (palWord s lt n w) hi lo v)

/-- Whether the Frobenius error exceeds its threshold (R194). -/
def froExceeds (fro th : Nat) : Bool :=
  th != 0 && !(bf16.decode fro).isNan && !(bf16.decode th).isNan && (bf16.decode fro).cmp (bf16.decode th) == 1

/-- Whether a sample exceeds its entry's thresholds (R194). -/
def sampleExceeds (s : State) (x : Sample) : Bool :=
  let w := palWord s x.lt x.entry 5
  x.nan || (fld w 15 0 != 0 && decide (fld w 15 0 < x.ulp)) || froExceeds x.fro (fld w 31 16)

/-- The larger of two Frobenius errors; with a NaN among them, either (log entry 2). -/
def worstFro (s : State) (a b : Nat) : Nat :=
  if (bf16.decode a).isNan || (bf16.decode b).isNan then (if s.freeBelow 2 = 0 then a else b)
  else if (bf16.decode a).cmp (bf16.decode b) = -1 then b else a

/-- The statistics of an entry after a sample (R194). -/
def sampleStats (s : State) (x : Sample) (exc : Bool) : State :=
  let n := x.entry
  let w6 := palWord s x.lt n 6
  let w7 := palWord s x.lt n 7
  let s1 := setPalWord s x.lt n 6 (setFld (setFld w6 15 0 (satInc 16 (fld w6 15 0))) 31 16 (if exc then satInc 16 (fld w6 31 16) else fld w6 31 16))
  setPalWord (if x.nan then s1.drawn else s1) x.lt n 7
    (setFld (setFld w7 15 0 (max (fld w7 15 0) x.ulp)) 31 16 (worstFro s1 (fld w7 31 16) x.fro))

/-- The region's registers after a sample (R196). -/
def studyRegs (s : State) (r : Nat) (x : Sample) (exc : Bool) : State :=
  let f := upperField r
  let st := s.freg f regStudyStatus
  let s1 := s.setFreg f regStudyStatus (setFld (setFld st 15 0 (satInc 16 (fld st 15 0))) 31 16 (if exc then satInc 16 (fld st 31 16) else fld st 31 16))
  let s2 := s1.setFreg f regStudyLast0 (BitVec.ofNat 32 (x.lt % 2 ^ 11 + x.entry * 2 ^ 11 + b2n exc * 2 ^ 19))
  s2.setFreg f regStudyLast1 (BitVec.ofNat 32 (x.ulp + x.fro * 2 ^ 16))

/-- A sample's recomputation ends (R194): statistics, and for an exceeding sample its event, and by POLICY interrupt 11 and
PROMO_PEND. -/
def sampleDone (s : State) (r : Nat) (x : Sample) : State :=
  let exc := sampleExceeds s x
  let s1 := studyRegs (sampleStats s x exc) r x exc
  if !exc then s1
  else
    let s2 := skbEvent s1 (.tile x.lt) 0x10 [x.handle, x.entry, x.ulp, x.fro]
    let pol := palFld s2 x.lt x.entry 0 13 12
    let s3 := if pol = 1 ∨ pol = 2 then s2.modTile x.lt (fun t => { t with studyInt := true }) else s2
    if pol = 2 && !s3.tbit x.lt regPalCtrl 0 then setPalFld s3 x.lt x.entry 1 20 20 1 else s3

/-- STUDY_SAMPLE_DONE (R194, R195): the first sample of a region's queue whose block has been written. -/
def execStudySampleDone (r : BitVec 5) (s : State) : Out :=
  if r.toNat < 30 then
    .next (match (if regionState s r.toNat < 4 then (s.region r.toNat).samples.find? (fun x => x.ready) else none) with
      | none => s
      | some x => sampleDone (s.modRegion r.toNat (fun g => { g with samples := g.samples.filter (fun y => y.seq != x.seq) })) r.toNat x)
  else .fault .noSuchUnit

/-! ### Promotions -/

/-- The rank of a format in Table 7.3; none where it is not in the table. -/
def promoRank (fmt : Nat) : Option Nat :=
  match fmt with
  | 9 => some 0 | 7 => some 1 | 8 => some 1 | 3 => some 2 | 4 => some 2 | 5 => some 2 | 6 => some 2 | 10 => some 2 | 1 => some 3
  | _ => none

/-- The next rung of a format on a ladder (Table 7.3). -/
def nextRung (ladder fmt : Nat) : Option Nat :=
  match promoRank fmt with
  | some 0 => some (if ladder = 0 then 8 else 7)
  | some 1 => some (if ladder = 0 then 5 else 6)
  | some 2 => some 1
  | _ => none

/-- Where an entry may move (R190): the next rung exists and does not rank above CEILING. -/
def promotion (fmt ladder ceiling : Nat) : Option Nat :=
  match nextRung ladder fmt, promoRank ceiling with
  | some f, some c => match promoRank f with
    | some k => if k ≤ c then some f else none
    | none => none
  | _, _ => none

/-- A promotion is appended to the log, or LOG_OVF is set (R190). -/
def palLog (s : State) (lt n old new src : Nat) : State :=
  let k := s.tfld lt regPalLogCount 6 0
  if 64 ≤ k then s.setTbit lt regPalCtrl 2 true
  else
    let s1 := s.setTreg lt (regPalLog k) (s.treg lt regPalStep)
    let s2 := s1.setTreg lt (regPalLog k + 4) (BitVec.ofNat 32 (n + old * 2 ^ 8 + new * 2 ^ 12 + src * 2 ^ 16))
    s2.setTfld lt regPalLogCount 6 0 (k + 1)

/-- An entry takes a new format (R190, R191). -/
def promote (s : State) (lt n old new src : Nat) : State :=
  let s1 := setPalFld s lt n 0 3 0 new
  let k := palFld s1 lt n 1 19 16
  palLog (setPalFld s1 lt n 1 19 16 (if k = 15 then 15 else k + 1)) lt n old new src

/-- A promotion is refused (R190, R191). -/
def refusePromo (s : State) (lt n fmt limit : Nat) : State :=
  skbEvent (s.setTbit lt regPalCtrl 3 true) (.tile lt) 0x12 [n, fmt, limit, (s.treg lt regPalStep).toNat]

/-- One entry with a pending promotion (R190); answers whether it moved. -/
def pendingPromo (lt : Nat) (a : State × Bool) (n : Nat) : State × Bool :=
  let s := a.1
  if palFld s lt n 1 20 20 = 0 then a
  else
    let fmt := palFld s lt n 0 3 0
    let s1 := setPalFld s lt n 1 20 20 0
    match promotion fmt (palFld s lt n 1 11 11) (palFld s lt n 1 15 12) with
    | some f => (promote s1 lt n fmt f 0, true)
    | none => (refusePromo s1 lt n fmt (palFld s lt n 1 15 12), a.2)

/-- One schedule record (R191). -/
def scheduled (lt : Nat) (a : State × Bool) (k : Nat) : State × Bool :=
  let s := a.1
  if s.treg lt (regPalSched k) != s.treg lt regPalStep then a
  else
    let w := s.treg lt (regPalSched k + 4)
    let n := fld w 7 0
    if palFld s lt n 0 3 0 ≠ fld w 11 8 then (refusePromo s lt n (palFld s lt n 0 3 0) (fld w 15 12), a.2)
    else (promote s lt n (fld w 11 8) (fld w 15 12) 1, true)

/-- Step 3 of a step boundary (R190, R191); answers whether a promotion was applied. -/
def applyPromotions (s : State) (lt : Nat) : State × Bool :=
  if s.tbit lt regPalCtrl 0 then (List.range (min 64 (s.tfld lt regPalSchedCount 6 0))).foldl (scheduled lt) (s, false)
  else (List.range 256).foldl (pendingPromo lt) (s, false)

/-! ### Automatic scales -/

/-- The exponent that AUTO scales toward; none where AUTO has no effect (R189). -/
def autoEmax (fmt : Nat) : Option Int :=
  match fmt with
  | 1 => some 127 | 2 => some 15 | 3 => some 8 | 4 => some 15 | 11 => some 6 | 12 => some 2
  | _ => none

/-- The SCALE_EXP that AUTO gives an entry, where it changes it (R189). -/
def autoScale (fmt margin amax : Nat) : Option Int :=
  match autoEmax fmt, fp32.decode (amax % 2 ^ 31) with
  | some x, .fin _ m e => if m = 0 then none else some (max (-127) (min 127 (x - numLog2 m e - margin)))
  | _, _ => none

/-- Step 4 of a step boundary for one entry (R188, R189). -/
def autoEntry (lt : Nat) (s : State) (n : Nat) : State :=
  let s1 :=
    if palFld s lt n 0 10 10 = 1 then
      match autoScale (palFld s lt n 0 3 0) (palFld s lt n 1 10 8) (palWord s lt n 2).toNat with
      | some k => setPalFld s lt n 1 7 0 (k % 256).toNat
      | none => s
    else s
  if palWord s1 lt n 2 = 0 then s1 else setPalWord s1 lt n 2 0

/-! ### The boundary -/

/-- What an entry of a tile rose by in the step that ends joins the region's sums of that step (R195). -/
def sumRange (lt : Nat) (s : State) (p : Nat × Nat × Nat) : State :=
  s.modRegion (regionOf s lt) (fun g =>
    let k := 256 * (s.tile lt).steps + p.1
    let x := kvGet (0, 0, 0) g.range k
    { g with range := kvSet g.range k (x.1 + 1, x.2.1 + p.2.1, x.2.2 + p.2.2) })

/-- A tile's increments of OVF and UNF join the region's sums, and the next step starts from zero (R195). -/
def sumStep (s : State) (lt : Nat) : State :=
  ((s.tile lt).palMarks.foldl (sumRange lt) s).modTile lt (fun t => { t with palMarks := [] })

/-- The tiles of a region that have step boundaries: those in the scope of the step barrier (R188). -/
def stepTiles (s : State) (r : Nat) : List Nat :=
  match s.stepBarrier with
  | some o => (regionTiles s r).filter (homeAccepts s (s.obj o))
  | none => []

/-- One entry's sums over a step are recorded (R195). -/
def rangeEvent (r : Nat) (s : State) (x : Nat × Nat × Nat × Nat) : State :=
  skbEvent s (.fc (upperField r)) 0x11 [x.1 % 256, x.2.1, x.2.2.1 % 2 ^ 32, x.2.2.2 % 2 ^ 32]

/-- A step that every tile of the region has ended is recorded, one record for each entry that rose (R195). -/
def recordRange (s : State) (r : Nat) : State :=
  let open_ := fun k => (stepTiles s r).any (fun t => decide ((s.tile t).steps ≤ k / 256))
  let done := (s.region r).range.filter (fun x => !open_ x.1)
  (done.foldl (rangeEvent r) s).modRegion r (fun g => { g with range := g.range.filter (fun x => open_ x.1) })

/-- The actions 2 to 5 of a step boundary on a tile (R188), and the end of its step. -/
def stepBoundary (s : State) (lt : Nat) : State :=
  let s1 := s.setTreg lt regPalStep (s.treg lt regPalStep + 1)
  let s2 := modMe s1 lt (fun m => { m with mmaCount := 0 })
  let p := applyPromotions s2 lt
  let s3 := (List.range 256).foldl (autoEntry lt) p.1
  let s4 := if p.2 then s3.modTile lt (fun t => { t with studyInt := true }) else s3
  (sumStep s4 lt).modTile lt (fun t => { t with steps := t.steps + 1 })

/-- STEP_BOUNDARY (R188): the boundary of the first release that a tile has received, once its region's Study unit has finished every sample
drawn before the release; then the release reaches the tile's program. -/
def execStepBoundary (lt : Nat) (s : State) : Out :=
  onTile lt s (fun s =>
    match (s.tile lt).stepQueue, s.stepBarrier with
    | (v, mark) :: rest, some o =>
      if (s.region (regionOf s lt)).samples.any (fun x => decide (x.seq < mark)) then s
      else
        let s1 := stepBoundary (s.modTile lt (fun t => { t with stepQueue := rest })) lt
        recordRange (showMirror s1 lt o v) (regionOf s lt)
    | _, _ => s)

end Sys2Proof.Machine
end

