-- ==== Sys2Proof/Machine/JobLoad.lean ====
section
/-!
DEFINITION. A job load: the map's pending entries, halted and powered-off regions, the reset of the units, the sections, and the entry of
every tile into S (20, R478, R496; 02, R49; 12, R319; 16, R408, R410).
-/
namespace Sys2Proof.Machine

open Sys2Proof

/-! ### Before the image -/

/-- The deferred tests of a field controller run (18, R429, R432): one fails where the findings hold its unit's entry. -/
def runDeferred (fs : List Finding) (s : State) (f : Nat) : State :=
  ((s.fc f).tests.filter (fun j => j.deferred)).foldl (fun x j =>
    let bad := match lastingEntry j.unit none with
      | some (t, pt, a0, _) => fs.any (fun y => y.typ == t && y.pt == pt && y.arg0 == a0)
      | none => false
    let x1 := x.modFc f (fun c => { c with tests := (c.tests.erase j) ++ [{ j with running := true, deferred := false }] })
    testDone x1 f { j with running := true, deferred := false } (!bad) none) s

/-- Tile state follows its physical tile when the numbering changes (02, R51); a tile that now serves starts as at power-on. -/
def renumber (old new : State) : KV Tile :=
  (allTiles new).map (fun lt => (lt, match ltOfPt old (ptOf new lt) with
    | some o => old.tile o
    | none => Tile.reset))

/-- The banks that entries of a new map remap, by logical tile: they are zeroed, as their spare is (02, R49; 03, R67). -/
def remapped (s : State) (old : List MapEnt) : List (Nat × Nat) :=
  (s.gesso.entries.filter (fun e => e.typ == 4 && !old.contains e)).filterMap (fun e => (ltOfPt s e.pt).map (fun lt => (lt, e.arg0)))

/-- Steps 1 to 3 of R49: the pending entries are applied and the next generation written; false where that write fails, and the entries stay
pending. -/
def applyPending (s : State) : State × Bool :=
  if !s.gesso.entries.any (fun e => e.pending) then (s, true)
  else
    let es := applied (s.mreg regMgtBootCount).toNat s.gesso.entries
    let old := s.gesso.entries
    let p := writeMap s es
    if !p.2 then (p.1, false)
    else
      let s1 := { p.1 with gesso := { p.1.gesso with counts := countsOf es } }
      let s2 := { s1 with tiles := renumber s s1 }
      let s3 := (remapped s2 old).foldl (fun x p => eraseBank x p.1 p.2) s2
      (((List.range 120).filter (portMapped s3)).foldl (fun x p => portDown x p causeGesso) s3, true)

/-- The regions in a state, as numbers. -/
def regionsIn (s : State) (p : Nat → Bool) : List Nat := (List.range 30).filter (fun r => p (regionState s r))

/-- Firmware of stage 3 in the M instruction store of a tile, and its TCC out of reset at M (20, Table 20.2 step 11, R467). -/
def startTile (s : State) (lt : Nat) : State :=
  let s1 := (fillStore s.drawn lt).setTreg lt regTileBootPc (BitVec.ofNat 32 (4 * s.freeBelow (2 ^ 14)))
  s1.modTile lt (fun t => { t with
    cycleBase := (s.region (regionOf s lt)).cycles
    tcc := { Tcc.reset with held := false, pc := BitVec.ofNat 64 (0xFF00000 + (s1.treg lt regTileBootPc).toNat) } })

/-- A powered-off region is powered again (16, R410): its PLL starts, or waits for REF (17, R419), its tiles start as at boot, its ports
retrain, and its standby Management Complex is one again. -/
def repower (s : State) (r : Nat) : State :=
  let wait := { s with clk := { s.clk with waitStart := s.clk.waitStart.insert (7 + r) } }
  let s1 := setRegionState (if s.mfld regClkStatus 3 3 = 1 then s.setMfld (regClkPll (7 + r)) 2 0 2 else wait) r 0
  let s2 := (regionTiles s1 r).foldl (fun x lt => startTile (x.setTile lt Tile.reset) lt) s1
  let s3 := startEpoch s2
  let ports := [2 * upperField r, 2 * upperField r + 1, 2 * lowerField r, 2 * lowerField r + 1]
  let s4 := ports.foldl (fun x p => if portState x p = 4 then startPort x p else x) s3
  if mcRegion (!mcIsB s4) = r ∧ mcFailed s4 (!mcIsB s4) = false then s4.setMfld regSecStatus 1 1 1 else s4

/-! ### The units at job load -/

/-- Whether job load returns the register at an offset to reset (03, R68, R75, R82; 05, R130; 06, R168; 07, R184; 08, R226; 09, R255; 11, R278;
12, R319; 13, R343; 16, R411). The clock rate, the translation root, the Sketchbook's configuration and the engine's slots stay. MAP
of a tile that section 2 does not name becomes LINEAR, as its LC_CFG becomes grid mode, and its SCRUB_EN stays (DESIGN CHOICE, log entry 54). -/
def jobResets (off : Nat) : Bool :=
  let b := off / 0x10000
  b == 0xF02 || b == 0xF04 || b == 0xF06 || b == 0xF07 || b == 0xF09 || b == 0xF0D || b == 0xF0E || off / 0x1000 == 0xF031 ||
    (0xF030200 ≤ off && off < 0xF030300) || off == regMemCreditStatus || off == regTilePreCtrl || off == regTilePreStatus || off == regPwrDroopCnt

/-- A tile's units return to their state at job load. Memory keeps its bytes by offset, also where the load changes MAP (DESIGN CHOICE, log
entry 54). -/
def resetTile (s : State) (lt : Nat) : State :=
  let s1 := s.modTile lt (fun t =>
    { Tile.reset with
      regs := t.regs.filter (fun p => !jobResets p.1)
      mem := t.mem, istore := t.istore, errs := t.errs, banks := t.banks, bankQ := t.bankQ, scrubPos := t.scrubPos
      cycleBase := t.cycleBase, recorder := { t.recorder with fired := [] }, counters := t.counters, loaded := true
      pwrNotice := t.pwrNotice, mailbox := t.mailbox, me := t.me
      cntPrev := t.cntPrev, cntDelta := t.cntDelta, estRaw := t.estRaw, slotsUsed := t.slotsUsed, winJob := t.winJob, winFill := t.winFill
      fillGate := t.fillGate, preL := t.preL, rampB0 := t.rampB0
      tcc := { Tcc.reset with held := false, stopped := true } })
  let s2 := (s1.setTfld lt regRasTileStatus 15 0 0).setTbit lt regRasTileStatus 18 false |>.setTbit lt regMemCfg 0 false
  (meJobLoad (s2.setTfld lt regMemEccStatus 15 0 0) lt).setMfld (regFabAllow lt) 16 0 0

/-- A region's counts since job load (07, R196), and its Study unit's queue. -/
def resetRegion (s : State) (r : Nat) : State :=
  let s1 := (s.setFreg (upperField r) regStudyStatus 0).setFreg (upperField r) regStudyDrop 0
  s1.modRegion r (fun g => { g with samples := [], sampleSeq := 0, studyItems := 0, studyDue := false, range := [] })

/-- What the fabric still carries stays, group messages between two other modules with it; messages of the on-wafer networks end with the job (13, R343; 19, R456). -/
def netStays (here : Nat) (m : NetMsg) : Bool :=
  match m with
  | .fabAck _ _ _ => true
  | .sess _ _ _ _ _ => true
  | .cross _ _ e => !groupSyncOf here e.pkt
  | _ => false

/-- Every unit returns to its state at job load. -/
def resetUnits (s0 : State) : State :=
  let s := dropFlights ((allTiles s0).foldl refuseAll (dropGroupSync s0)) (fun f => !netStays (hereId s0) f.msg)
  let s1 := (List.range 30).foldl resetRegion ((allTiles s).foldl resetTile s)
  let s2 := (List.range 64).foldl (fun x i => (List.range 16).foldl (fun y w => y.setMreg (regMeshRedDecl i + 4 * w) 0) x) s1
  let fcs := s2.fcs.map (fun p => (p.1, { p.2 with recorder := { p.2.recorder with fired := [] } }))
  { s2 with
    fcs := fcs, mc := { s2.mc with recorder := { s2.mc.recorder with fired := [] } }
    objs := [], groups := [], stepBarrier := none, tileGroups := [], haltGroups := []
    redHeld := [], redChunks := [], redLead := [], fab := { s2.fab with segs := [] }
    mesh := { s2.mesh with isoLinks := [], isoRouters := [] }, gesso := { s2.gesso with isoPorts := [] } }

/-! ### The sections -/

/-- One word of a byte record. -/
def wordOf (d : List Byte) (i : Nat) : Word := BitVec.ofNat 32 (fieldAt d (4 * i) 4)

/-- An entry of section 3 (11, R278): an absent channel has every field zero. -/
def loadChannel (x : Section) (s : State) (n : Nat) : State :=
  let d := wordOf x.data (2 * n)
  let c := wordOf x.data (2 * n + 1)
  if fld c 1 0 = 1 then (s.setTreg x.lt (regChDst n) (d &&& 0xFFFF0FFF)).setTreg x.lt (regChCfg n) (c &&& 0xFFFF0FFD)
  else (s.setTreg x.lt (regChDst n) 0).setTreg x.lt (regChCfg n) 0

/-- An entry of the Palette in section 4, its reserved bits left zero (07, R182). -/
def loadPalette (x : Section) (s : State) (n : Nat) : State :=
  (List.range 8).foldl (fun y w =>
    let m : Word := if w = 0 then 0x03073F0F else if w = 1 then 0x001FFFFF else 0xFFFFFFFF
    y.setTreg x.lt (regPalEntry n + 4 * w) (wordOf x.data (8 * n + w) &&& m)) s

/-- A mirror entry of section 5: its value is that of its object (13, R336). -/
def loadMirror (ss : List Section) (x : Section) (s : State) (n : Nat) : State :=
  let w := wordOf x.data n &&& 0xA0003FFF
  let s1 := s.setTreg x.lt (regSyncMir n) w
  if bit w 31 then s1.setTreg x.lt (regSyncMval n) (imgObj ss (fld w 13 0)).value else s1

/-- A section is written (Table 20.11). -/
def loadSection (ss : List Section) (s : State) (x : Section) : State :=
  match x.typ with
  | 1 => memStore s x.lt x.target x.data
  | 2 =>
    let s1 := s.setTreg x.lt regLcCfg (wordOf x.data 0 &&& 1)
    (s1.setTreg x.lt regMemCfg (wordOf x.data 1 &&& 3)).setMfld (regFabAllow x.lt) 16 0 (fieldAt x.data 8 4)
  | 3 => (List.range 256).foldl (loadChannel x) s
  | 4 =>
    let s1 := (List.range 256).foldl (loadPalette x) s
    let w := fun i => wordOf x.data (2048 + i)
    ((((s1.setTreg x.lt regPalSeedLo (w 0)).setTreg x.lt regPalSeedHi (w 1)).setTreg x.lt regPalStep (w 2)).setTreg x.lt regPalCtrl (w 3 &&& 1))
  | 5 =>
    let s1 := (List.range 256).foldl (loadMirror ss x) s
    (List.range 64).foldl (fun y n => y.setTreg x.lt (regSyncSem n) (wordOf x.data (256 + n))) s1
  | 6 =>
    { s with
      objs := (List.range 16384).filterMap (fun o => let d := objOf (slice x.data (16 * o) 16); if d.typ = 0 then none else some (o, d))
      stepBarrier := imgStep ss }
  | 7 => { s with groups := (List.range 64).map (fun g => (g, groupOfBytes (slice x.data (32 * g) 32))) }
  | 8 => (List.range 1024).foldl (fun y i => y.setMreg (regMeshRedDecl 0 + 4 * i) (wordOf x.data i)) s
  | 9 => { s with tileGroups := (List.range 1320).map (fun lt => (lt, fieldAt x.data (2 * lt) 2)) }
  | _ => s

/-- M firmware enters S on a tile that has an S entry address (R478, R496). What it leaves in the general registers is not stated: free values.
The CSRs of which R496 says nothing hold their reset values, as the lane cores' registers and LC_RETIRED do (DESIGN CHOICE, log entry 54). -/
def enterS (s : State) (x : Section) : State :=
  let g := Vector.ofFn (fun i : Fin 32 => Config.freeWord (s.fresh + i.val))
  let base := Config.freeWord (s.fresh + 32)
  { s.modTile x.lt (fun t => { t with tcc := { Tcc.reset with
      held := false, prv := .s, pc := BitVec.ofNat 64 (fieldAt x.data 12 8), g := g, tm := { TrapRegs.reset with base := base }
      route := 0x1FFE ||| (0x8FFD <<< 32), intEn := 0x7002 } }) with fresh := s.fresh + 33 }

/-! ### The load -/

/-- What an accepted image does (R478): halts end, regions are powered again, items end, units are reset, sections are written in directory
order, and each tile enters S. -/
def loadImage (s : State) (img : List Byte) : State :=
  let ss := imgAll img
  let s1 := (regionsIn s (fun x => x == 3 || x == 4)).foldl resumeRegion s
  let s2 := (regionsIn s1 (fun x => x == 5)).foldl repower s1
  let s3 := resetUnits (endAllItems s2).1
  let s4 := ss.foldl (loadSection ss) s3
  let s5 := ((allTiles s4).filterMap (secFor ss 2)).foldl enterS s4
  startEpoch (s5.setMfld regMgtBootStatus 8 8 1)

/-- A job load with the whole image at hand: the RESULT and DETAIL of its reply (R477, R478; 02, R49, R52, R53; 16, R408, R410). `fs` are what
the quick tests of powered-off regions and the deferred tests find. -/
def jobLoad (s0 : State) (img : List Byte) (fs : List Finding) : State × Nat × Nat :=
  if gessoState s0 = 2 then (s0, 4, 0)
  else if (regionsIn s0 (fun x => x == 3 || x == 4)).any (fun r => !regionCool s0 r) then (s0, 5, 0)
  else
    let off := regionsIn s0 (fun x => x == 5)
    let s1 := (List.range 60).foldl (runDeferred fs) s0
    if off.any (fun r => !regionCool s1 r) then (s1, 4, 0)
    else
      let bad := fs.filter (fun f => off.contains (regionOfField (f.pt / 24)))
      if bad ≠ [] then (addFindings s1 bad, 4, 0)
      else
        let p := applyPending s1
        if !p.2 then (p.1, 4, 0)
        else if gessoState p.1 = 2 then (failState p.1, 4, 0)
        else
          match jobFails p.1 img with
          | some n => (p.1, 4, n)
          | none => (loadImage p.1 img, 0, 0)

end Sys2Proof.Machine
end

