-- ==== Sys2Proof/Machine/Enrol.lean ====
section
/-!
DEFINITION. What the module accepts from its installation: firmware images, policy, membership certificate, route image, unlock tokens, owner
keys (19, R446 to R451, R458, R460, R461; 14, R367, R368).
-/
namespace Sys2Proof.Machine

open Sys2Proof

/-- Whether `n` bytes from `i` are zero. -/
def zeros (b : List Byte) (i n : Nat) : Bool := (slice b i n).all (fun x => x == 0)

/-! ### Firmware -/

/-- Whether an image is an acceptable copy of its stage, but for the SVN floor: header, hash, signatures (19, R446, Table 19.2). -/
def fwOk (stage : Nat) (b : List Byte) : Bool :=
  let n := fieldAt b 0x10 4
  fieldAt b 0 4 == 0x4D495746 && fieldAt b 4 2 == 1 && fieldAt b 6 2 == 128 && fieldAt b 8 1 == stage && zeros b 9 3 && zeros b 0x14 12 && zeros b 0x40 64 &&
    slice b 0x20 32 == sha256 (slice b 128 n) && factorySigned (b.take (128 + n)) (b.drop (128 + n)) &&
    (!Config.pqRequired || hasMldsa (b.drop (128 + n)))

/-- The copy that an image becomes in the flash. -/
def fwCopy (stage : Nat) (b : List Byte) : FwCopy := ⟨fieldAt b 0x0C 4, slice b 128 (fieldAt b 0x10 4), fwOk stage b⟩

/-- FW_WRITE of a stage (R446; 20, R477): the copy that does not run is written; where none runs, either is. -/
def writeFw (s : State) (stage : Nat) (b : List Byte) : State :=
  let c := match kvFind s.sec.running stage with
    | some c => if c % 2 = 0 then c + 1 else c - 1
    | none => 2 * stage + s.freeBelow 2
  { s.drawn with flash := { s.flash with fw := kvSet s.flash.fw c (fwCopy stage b) } }

/-! ### Policy and membership -/

/-- The number of the check of R450 that a policy fails, in the order of its sentence; none where it is accepted. -/
def policyFails (s : State) (b : List Byte) : Option Nat :=
  if !signed (ownerKey s) (b.take 384) (b.drop 384) then some 1
  else if fieldAt b 0 4 ≠ 0x594C4F50 ∨ fieldAt b 4 2 ≠ 1 ∨ fieldAt b 6 2 ≠ 384 ∨ 2 ≤ fieldAt b 0x1C 4 ∨ zeros b 0x61 31 = false ∨
      zeros b (0x80 + 32 * fieldAt b 0x60 1) (256 - 32 * fieldAt b 0x60 1) = false then some 2
  else if fieldAt b 0x60 1 = 0 ∨ 8 < fieldAt b 0x60 1 then some 3
  else if fieldAt b 0x18 4 < s.flash.policyFloor then some 4
  else none

/-- A new policy is accepted (R450): it raises the floor of 64 steps and ends every session. -/
def acceptPolicy (s : State) (b : List Byte) : State :=
  let f := { s.flash with policy := b, policyFloor := max s.flash.policyFloor (min 64 (fieldAt b 0x18 4)) }
  endSessions (policyOn { s with flash := f })

/-- Whether a membership certificate is this module's and verifies under the owner key (R451). -/
def memberOk (s : State) (b : List Byte) : Bool :=
  fieldAt b 0 4 == 0x524D424D && fieldAt b 4 2 == 1 && fieldAt b 6 2 == 128 && slice b 8 12 == Config.serial && zeros b 0x14 12 && zeros b 0x30 16 &&
    slice b 0x40 32 == sha256 s.sec.dik.rsa && (zeros b 0x60 32 || slice b 0x60 32 == sha256 s.sec.dik.pq) &&
    signed (ownerKey s) (b.take 128) (b.drop 128)

/-- ISK_CREATE (R458): generation 1, from the random source; refused without a policy or where a generation is held. -/
def createIsk (s : State) : Option State :=
  if s.sec.policy && s.flash.isk.isEmpty then some (holdIsk s.drawn 1 (s.freeBytes 32))
  else none

/-! ### Owners -/

/-- Whether the keys of an enrolment request have the sizes of an RSA key, and perhaps of an ML-DSA key (R453). -/
def ownerKeysOk (k : List Byte) : Bool := k.length == 388 || k.length == 388 + 1952

/-- ENROLL (R449): the first slot needs no signature; each later one is signed by the owner key in force; there are four. -/
def enrol (s : State) (keys trailer : List Byte) : Option State :=
  let n := s.flash.owners.length
  if 4 ≤ n then none
  else if n = 0 ∨ signed (ownerKey s) keys trailer = true then
    some { s with flash := { s.flash with owners := s.flash.owners ++ [sha256 keys] } }
  else none

/-! ### Routes -/

/-- The port numbers of a route entry whose valid bits are set (14, Table 14.8). -/
def entryPorts (e : Nat) : List Nat :=
  (if nbit e 7 then [e % 128] else []) ++ (if nbit e 15 then [e / 2 ^ 8 % 128] else []) ++ (if nbit e 23 then [e / 2 ^ 16 % 128] else [])

/-- Entry `i` of a route image. -/
def imgRoute (b : List Byte) (i : Nat) : Nat := fieldAt b (96 + 4 * i) 4

/-- The number of the check of R367 that a route image fails, in the order of its list, against a version in effect; none where it is
accepted. -/
def routesFail (s : State) (b : List Byte) (version : Option Nat) : Option Nat :=
  let mine := fieldAt b 0x14 2
  let ok := fun p => decide (p < 120) && nbit (fieldAt b 0x20 16) p && !portMapped s p
  if fieldAt b 0 4 ≠ 0x45545246 ∨ fieldAt b 4 2 ≠ 1 ∨ fieldAt b 6 2 ≠ 96 ∨ slice b 8 12 ≠ Config.serial then some 1
  else if slice b 0x40 32 ≠ sha256 ((routeBody b).drop 96) ∨ s.sec.policy = false ∨
      signed (slice s.flash.policy 0x20 32) (routeBody b) (b.drop (96 + 4 * 65536)) = false then some 2
  else if fieldAt b 0x18 4 ≤ version.getD 0 then some 3
  else if s.moduleId ≠ some mine ∧ jobLoaded s = true then some 4
  else if (List.range 65536).any (fun i => (entryPorts (imgRoute b i)).any (fun p => !ok p)) then some 5
  else if imgRoute b mine ≠ 0 ∨ 2 ^ 120 ≤ fieldAt b 0x20 16 ∨ 2 ^ 120 ≤ fieldAt b 0x30 16 ∨ (List.range 65536).any (fun i => decide (2 ^ 25 ≤ imgRoute b i)) = true then some 6
  else if fieldAt b 0x1C 4 < 100 ∨ 1000000 < fieldAt b 0x1C 4 then some 7
  else none

/-- The table of a route image. -/
def routeTab (b : List Byte) : RouteTab :=
  { version := fieldAt b 0x18 4, ident := fieldAt b 0x14 2, root := fieldAt b 0x16 2, escWait := fieldAt b 0x1C 4, portEn := fieldAt b 0x20 16
    dateline := fieldAt b 0x30 16
    entries := (List.range 65536).filterMap (fun i => if imgRoute b i = 0 then none else some (i, BitVec.ofNat 32 (imgRoute b i))) }

/-- Ports follow the PORT_EN bits of the table in effect (R368): a port in use is enabled, another is held DOWN with cause DISABLED. -/
def followRoutes (s : State) (p : Nat) : State :=
  match s.fab.routes with
  | some t => if nbit t.portEn p then portEnable s p else holdPort s p causeDisabled
  | none => s

/-- A route image is accepted (R367, R368): it is measured into MR6 and its table takes effect; a change of ID ends every session. The swap is broadcast
for less than the microsecond until the model's next tick; lookups take the new table (DESIGN CHOICE, log entry 54). -/
def acceptRoutes (s : State) (b : List Byte) : State :=
  let t := routeTab b
  let s1 := measure { s with flash := { s.flash with routeImage := b }, fab := { s.fab with routes := some t, swapping := true }, moduleId := some t.ident } 6 (sha256 (routeBody b))
  let s2 := if s.moduleId = some t.ident then s1 else endSessions s1
  (List.range 120).foldl followRoutes s2

/-! ### Unlocking -/

/-- Whether an unlock token is accepted (R460): its counter equals the one before this presentation. -/
def tokenOk (s : State) (b : List Byte) : Bool :=
  let key := if s.sec.policy then slice s.flash.policy 0x40 32 else sha256 Config.serviceKey
  fieldAt b 0 4 == 0x4B4F4C55 && fieldAt b 4 4 == 1 && slice b 8 12 == Config.serial && zeros b 0x20 32 && fieldAt b 0x14 4 < 8 &&
    fieldAt b 0x18 8 == s.sec.unlockCtr.toNat && signed key (b.take 64) (b.drop 64)

/-- A token is presented (R460, R461): the counter advances; an accepted one extends MR7, opens its scopes, erases the ISK and every session
key, and sets UNLOCKED. -/
def presentToken (s : State) (b : List Byte) : State × Bool :=
  let s1 := { s with sec := { s.sec with unlockCtr := s.sec.unlockCtr + 1 } }
  if tokenOk s b then
    let s2 := { s1 with sec := { s1.sec with scopes := s1.sec.scopes ||| fieldAt b 0x14 4, isk := [] } }
    (endSessions ((measure s2 7 (sha256 (b.take 64))).setMfld regSecStatus 4 4 1), true)
  else (s1, false)

end Sys2Proof.Machine
end

