-- ==== Sys2Proof/Machine/Parts.lean ====
section
/-!
DEFINITION. The identities of attached parts, the parts block, the attestation report (20, R469 to R472; 19, R452).

A part is held as it was read: cages (entries 0 and 1) as 256 B, the CMIS lower page and upper page 00h; bundles (2 to 13) as Table 20.6; the shelf
(14) as PMBUS_REVISION, MFR_ID and MFR_MODEL in 16 B each, MFR_REVISION in 4 B, MFR_SERIAL in 16 B; the manifold (15) as Table 20.7.
-/
namespace Sys2Proof.Machine

open Sys2Proof

/-- What was read of parts entry `i`; nothing where the part is absent. -/
def partMem (s : State) (i : Nat) : List Byte := kvGet [] s.mgt.parts i

/-- Whether a manifold tag passes its checks: magic, CRC, and RATED_FLOW at or above that of its coolant (20, R471; 21, R489). -/
def manifoldOk (m : List Byte) : Bool :=
  m.length == 128 && fieldAt m 0 4 == 0x444C464D && fieldAt m 4 2 == 1 && crc32 (slice m 0 0x7C) == fieldAt m 0x7C 4 &&
    (if fieldAt m 0x38 1 = 1 then decide (400 ≤ fieldAt m 6 2) else fieldAt m 0x38 1 == 2 && decide (460 ≤ fieldAt m 6 2))

/-- Whether a part passed its checks (R471). -/
def partOk (s : State) (i : Nat) : Bool :=
  let m := partMem s i
  if m.isEmpty then false
  else if 2 ≤ i ∧ i < 14 then cableOk m && Config.partAccepted (slice m 0x18 16)
  else if i = 15 then manifoldOk m
  else true

/-- Whether a part is present: a fabric cable by its bundle's PRESENT_N, any other part where its memory has been read (R472; 21, R484). -/
def partHere (s : State) (i : Nat) : Bool :=
  if 2 ≤ i ∧ i < 14 then !s.mgt.absent.contains (i - 2) else !(partMem s i).isEmpty

/-- A parts entry (Table 20.8). -/
def partEntry (s : State) (i : Nat) : List Byte :=
  let m := partMem s i
  let read := !m.isEmpty
  let kind := if i < 2 then 1 else if i < 14 then 2 else if i = 14 then 3 else 4
  let loc := if i < 2 then i else if i < 14 then i - 2 else 0
  let head := leBytes 1 kind ++ leBytes 1 loc ++ leBytes 1 (b2n (partHere s i) + 2 * b2n read + 4 * b2n (partOk s i)) ++ leBytes 1 0
  if !read then head ++ leBytes 60 0
  else if i < 2 then head ++ slice m 129 16 ++ slice m 148 16 ++ slice m 166 16 ++ slice m 164 2 ++ leBytes 2 0 ++ slice m 1 1 ++ leBytes 7 0
  else if i < 14 then head ++ slice m 0x08 16 ++ slice m 0x18 16 ++ slice m 0x28 16 ++ leBytes 4 0 ++ slice m 0x38 2 ++ slice m 7 1 ++ slice m 6 1 ++ leBytes 4 0
  else if i = 14 then head ++ slice m 1 16 ++ slice m 17 16 ++ slice m 37 16 ++ slice m 33 4 ++ slice m 0 1 ++ leBytes 7 0
  else head ++ slice m 0x08 16 ++ slice m 0x18 16 ++ slice m 0x28 16 ++ leBytes 4 0 ++ slice m 6 2 ++ slice m 0x38 1 ++ leBytes 5 0

/-- The attached-part identity block (R472). -/
def partsBlock (s : State) : List Byte :=
  leBytes 4 0x53545250 ++ leBytes 2 1 ++ leBytes 2 16 ++ leBytes 8 (s.mgt.partsAon % 2 ^ 48) ++ ((List.range 16).map (partEntry s)).flatten

/-- PARTS_OK follows the parts (MGT_BOOT_STATUS). -/
def putPartsOk (s : State) : State :=
  s.setMfld regMgtBootStatus 31 16 (((List.range 16).map (fun i => b2n (partOk s i) * 2 ^ i)).foldl (· + ·) 0)

/-- The transmit preset of port offset `i` of a cable end: from LOSS where it is passive copper, else the fixed one (R470). -/
def presetOf (m : List Byte) (i : Nat) : Nat := if fieldAt m 6 1 = 1 then Config.lossPreset (fieldAt m (0x3C + i) 1) else Config.fixedPreset

/-- What follows from a part's identity: the Application Select of a cage's module is written, and the ports of a cable end take their
transmit presets; those of one that does not read well have none (R470). -/
def applyPart (g : Mgt) (i : Nat) (m : List Byte) : Mgt :=
  if i < 2 then { g with appSel := if m.isEmpty then g.appSel.filter (· != i) else g.appSel.insert i }
  else if i < 14 then
    { g with presets := (List.range 10).foldl (fun ps k =>
        if cableOk m then kvSet ps (10 * (i - 2) + k) (presetOf m k) else kvDel ps (10 * (i - 2) + k)) g.presets }
  else g

/-- A part's identity is read (R470). -/
def readPart (s : State) (i : Nat) (m : List Byte) : State :=
  putPartsOk { s with mgt := applyPart { s.mgt with parts := kvSet s.mgt.parts i m, partsAon := s.aon } i m }

/-- PART_INSERTED (R470): entry `i` of the parts block is read. -/
def execPartInserted (i : Nat) (m : List Byte) (s : State) : Out := if i < 16 then .next (readPart s i m) else .fault .noSuchUnit

/-- BUNDLE_PRESENT_CHANGE (21, R484): a bundle whose PRESENT_N is high has all ten ports held DOWN with cause LOS; once it is low again those that
are not enabled are held by that. -/
def execBundlePresentChange (b : Nat) (high : Bool) (s : State) : Out :=
  if b < 12 then
    .next (if high then
      let g := { s.mgt with absent := if s.mgt.absent.contains b then s.mgt.absent else s.mgt.absent ++ [b], parts := kvDel s.mgt.parts (2 + b) }
      let s1 := { s with mgt := applyPart g (2 + b) [] }
      (List.range 10).foldl (fun x i => holdPort x (10 * b + i) causeLos) (putPartsOk s1)
    else
      let s1 := { s with mgt := { s.mgt with absent := s.mgt.absent.filter (· != b) } }
      (List.range 10).foldl (fun x i => if heldCause x (10 * b + i) = causeDisabled then holdPort x (10 * b + i) causeDisabled else x) s1)
  else .fault .noSuchUnit

/-! ### Attestation -/

/-- The attestation report (Table 19.5). -/
def attestReport (s : State) (nonce : List Byte) : List Byte :=
  leBytes 4 0x54545441 ++ leBytes 2 1 ++ leBytes 2 512 ++ Config.serial
    ++ leBytes 4 (s.moduleId.getD 0 % 2 ^ 16 + b2n s.moduleId.isSome * 2 ^ 16)
    ++ leBytes 4 (b2n (mcIsB s) + b2n Config.pqRequired * 2 + gessoState s * 4 + s.mfld regSecStatus 4 4 * 16 + b2n s.sec.policy * 32 + b2n (!s.sec.isk.isEmpty) * 64)
    ++ leBytes 4 (ltCount s) ++ slice nonce 0 32 ++ leBytes 8 (s.aon % 2 ^ 48) ++ leBytes 4 (s.mreg regMgtBootCount).toNat
    ++ leBytes 4 ((s.fab.routes.map (fun t => t.version)).getD 0) ++ ((List.range 8).map (mrBytes s)).flatten ++ slice (mapHash s) 0 32
    ++ slice (sha256 (partsBlock s)) 0 32 ++ leBytes 4 ((List.range 16).countP (partHere s))
    ++ ((List.range 3).map (fun i => leBytes 4 (s.flash.floors.getD i 0))).flatten ++ leBytes 4 s.flash.policyFloor ++ installId s
    ++ slice (sha256 s.sec.dik.rsa) 0 32 ++ Config.ordering ++ slice Config.macBase 0 6 ++ leBytes 2 Config.mfgYear ++ leBytes 1 (Config.isoWeek Config.mfgWeek) ++ leBytes 1 0
    ++ leBytes 2 Config.shipLt ++ leBytes 24 0

/-- The reply to ATTEST: report, trailer, parts block (R452). -/
def attest (s : State) (nonce : List Byte) : List Byte :=
  let r := attestReport s nonce
  r ++ dikTrailer s.sec.dik r ++ partsBlock s

end Sys2Proof.Machine
end

