-- ==== Sys2Proof/Machine/Boot.lean ====
section
/-!
DEFINITION. Power-on, module reset, the boot, power failure, the life measures and the shelf (20, R464 to R469, Table 20.2; 21, R486 to
R488, R493; 02, R45, R46, R48; 19, R444 to R451).

A boot runs whole in one step: STEP is the last step of Table 20.2 completed.
-/
namespace Sys2Proof.Machine

open Sys2Proof

/-! ### The steps of Table 20.2 -/

/-- A step of the boot: the state after it, and whether it completed. -/
abbrev BootStep := State → State × Bool

/-- The steps in turn, up to one that does not complete. -/
def runBoot : List (Nat × BootStep) → State → State
  | [], s => s
  | (n, f) :: r, s =>
    let p := f s
    if p.2 then runBoot r (p.1.setMfld regMgtBootStatus 3 0 n) else p.1

/-- Step 1: the USB PLL runs from TRIM. -/
def boot1 : BootStep := fun s => (setPll s 2 2, true)

/-- Step 2 at power-on: the election (R448). -/
def elect (b : BootIn) (s : State) : State :=
  { s with sec := { s.sec with failedMc := (if b.aPass then [] else [false]) ++ (if b.bPass then [] else [true]) } }

/-- Step 2: the active Management Complex serves, the other stands by unless it has failed, and the ROM is measured (R447, R448). -/
def boot2 : BootStep := fun s =>
  if mcFailed s false && mcFailed s true then (failState s, false)
  else
    let s1 := (s.setMfld regSecStatus 0 0 (b2n (mcFailed s false))).setMfld regSecStatus 1 1 (b2n (!mcFailed s false && !mcFailed s true))
    (measure s1 0 Config.romHash, true)

/-- Step 3: REF is valid, and PLLs 0 and 1 lock (17, R413). -/
def boot3 (b : BootIn) : BootStep := fun s =>
  if b.refValid then (setPll (setPll (s.setMfld regClkStatus 3 3 1) 0 2) 1 2, true)
  else (enterService (noteHolding (s.setMfld regClkStatus 5 5 1)), false)

/-- Step 4: the device secret and the keys are derived, and match the device certificate (R444). -/
def boot4 : BootStep := fun s => if keysAgree s then (deriveKeys s, true) else (failState s, false)

/-- TAVG: the mean over HOURS of the hourly means, whose sum the flash holds as a fraction (21, R493); 0 before the first hour has ended. -/
def lifeMean (l : KV Nat) : Nat :=
  let h := kvGet 0 l 0
  if h = 0 then 0 else min 65535 (quantise (kvGet 0 l 1) (kvGet 1 l 3 * h))

/-- The life registers show what the flash holds (21, R493). -/
def putLife (s : State) : State :=
  (s.setMreg regMgtLifeHours (BitVec.ofNat 32 (kvGet 0 s.flash.life 0))).setMreg regMgtLifeTj
    (BitVec.ofNat 32 (lifeMean s.flash.life + kvGet 0 s.flash.life 2 % 2 ^ 16 * 2 ^ 16))

/-- What step 5 loads from the flash: the boot counter of this boot, the life measures, and an over-current to be logged (R465; 21, R488,
R493). -/
def loadFlash (s : State) : State :=
  let n := s.flash.bootCount + 1
  let s1 := { s with flash := { s.flash with bootCount := n, overCurrent := false } }
  let s2 := s1.setMreg regMgtBootCount (BitVec.ofNat 32 n)
  if s.flash.overCurrent then mcLog (putLife s2) 3 15 noPt 0 0 0 else putLife s2

/-- Step 5. -/
def boot5 : BootStep := fun s => let p := bootStage 1 s; if p.2 then (loadFlash p.1, true) else p

/-- Step 6: the stored policy and the membership certificate, where one is held, are checked, and the policy comes into effect; the sealing key
is unwrapped (R450, R451, R458, R461). -/
def boot6 : BootStep := fun s =>
  if policyFails s s.flash.policy = none ∧ (s.flash.membership = [] ∨ memberOk s s.flash.membership = true) then
    (unwrapIsk (policyOn s), true)
  else (s, true)

/-- Step 7. -/
def boot7 : BootStep := bootStage 2

/-- Step 8: the region PLLs start; one that does not lock is left in COAST with its flag set (R466; 17, R417, R420). -/
def boot8 (b : BootIn) : BootStep := fun s =>
  ((List.range 30).foldl (fun x r => if b.coasts.contains r then pllCoasts (setPll x (7 + r) 1) (7 + r) else setPll x (7 + r) 2) s, true)

/-- Step 9: the quick tests are done; what they found is written in step 10 (R466). -/
def boot9 : BootStep := fun s => (s, true)

/-! ### The map -/

/-- A map comes into effect and is measured (02, R46, R51). The units of its pending entries stay isolated (R48). -/
def putInEffect (s : State) (im : List Byte) (inD1 factoryOnly : Bool) : State :=
  let es := imgEntries im
  let s1 := { s with gesso := { s.gesso with
    entries := es, generation := imgGeneration im, counts := countsOf es, valid := true, factoryOnly := factoryOnly, inD1 := inD1 } }
  let s2 := measure s1 5 (mapHash s1)
  let s3 := (es.filter (fun e => e.pending)).foldl (fun x e => isolateUnit x e.typ e.pt e.arg0) s2
  if gessoState s3 = 2 then failState s3 else s3

/-- The findings of the quick tests are written in one new device map, which is also written where no device map was accepted; those that
the image has no room for, or whose write fails, fail the module (02, R46, R48). -/
def bootFindings (s : State) (fs : List Finding) : State :=
  let es := fs.map (fun f => pendingEntry s f.typ f.pt f.arg0 f.arg1 false)
  let now := es.take (4096 - s.gesso.entries.length)
  let s1 := es.foldl (fun x e => isolateUnit x e.typ e.pt e.arg0) s
  if s1.gesso.factoryOnly || !now.isEmpty then
    let p := writeMap s1 (s1.gesso.entries ++ now)
    (if p.2 then es.drop now.length else es).foldl unwritten p.1
  else es.foldl unwritten s1

/-- Step 10: the map, with what the quick tests found (02, R45, R46). -/
def boot10 (b : BootIn) : BootStep := fun s =>
  let g := s.gesso
  if !factoryAccepted g.slotF then (failState { s with gesso := { g with failed := true } }, false)
  else
    match deviceMap s.sec.dik g.slotF g.slotD0 g.slotD1 with
    | some p => (bootFindings (putInEffect s p.1 p.2 false) b.findings, true)
    | none => (bootFindings (putInEffect s g.slotF false true) b.findings, true)

/-! ### The last steps -/

/-- Step 11: stage 3 in every tile, and every TCC leaves reset (R466, R467). -/
def boot11 : BootStep := fun s =>
  let p := bootStage 3 s
  if p.2 then (startEpoch ((allTiles p.1).foldl startTile p.1), true) else p

/-- Step 12: the boot lock. -/
def boot12 : BootStep := fun s => (s.setMfld regMgtBootStatus 7 7 1, true)

/-- Step 13: identity memories are read (R470). -/
def boot13 (b : BootIn) : BootStep := fun s =>
  let s1 := { s with mgt := { s.mgt with parts := [], partsAon := s.aon } }
  (putPartsOk (b.parts.foldl (fun x p => if p.1 < 16 then readPart x p.1 p.2 else x) s1), true)

/-- Step 14: the host ports train, LCP listens, and READY is set. -/
def boot14 : BootStep := fun s =>
  let s1 := setPll (setPll s 3 2) 4 2
  let up := fun x n => if x.mfld (regHostPortCfg n) 0 0 = 1 then x.setMfld (regHostPortStatus n) 1 0 1 else x
  (raiseAlert ((up (up s1 0) 1).setMfld regMgtBootStatus 4 4 1) 0, true)

/-- Step 15: the route image last accepted is checked against version zero (R466; 14, R367). -/
def boot15 : BootStep := fun s =>
  let s1 := setPll (setPll s 5 2) 6 2
  if !s.flash.routeImage.isEmpty && (routesFail s1 s.flash.routeImage none).isNone then
    ((acceptRoutes s1 s.flash.routeImage).setMfld regMgtBootStatus 9 9 1, true)
  else (s1, true)

/-- The boot (R466). -/
def boot (b : BootIn) (s : State) : State :=
  runBoot [(1, boot1), (2, boot2), (3, boot3 b), (4, boot4), (5, boot5), (6, boot6), (7, boot7), (8, boot8 b), (9, boot9),
    (10, boot10 b), (11, boot11),
    (12, boot12), (13, boot13 b), (14, boot14), (15, boot15)] s

/-! ### Power-on and power failure -/

/-- What a power-on starts from (R464, Table 20.1): only the boot flash, the fuses and what is plugged in remain. -/
def powerOnState (s : State) : State :=
  let g := s.gesso
  { State.reset with
    pending := s.pending, replies := s.replies, fresh := s.fresh, flash := s.flash
    gesso := { Gesso.shipped with slotF := g.slotF, slotD0 := g.slotD0, slotD1 := g.slotD1 }
    mgt := { Mgt.reset with absent := s.mgt.absent, i3c := s.mgt.i3c, ibi := s.mgt.ibi, mwl := s.mgt.mwl, mrl := s.mgt.mrl } }

/-- POWER_GOOD (21, R487; R464, R466): the power-on and its boot. The unlock counter starts at random. -/
def execPowerGood (b : BootIn) (s : State) : Out :=
  .next (if s.mgt.powered then s
    else
      let s1 := powerOnState s
      let s2 := { s1.drawn with mgt := { s1.mgt with powered := true }, sec := { s1.sec with unlockCtr := s1.freeWord, unlockHi := wordAt s1.freeWord.toNat 1 } }
      boot b (elect b s2))

/-- POWER_FAIL (21, R488): all state on the wafer is lost; an over-current is latched in the boot flash. -/
def execPowerFail (excess : Bool) (s : State) : Out :=
  .next (if s.mgt.powered then
      let s1 := powerOnState s
      { s1 with flash := { s1.flash with overCurrent := s1.flash.overCurrent || excess } }
    else s)

/-- INPUT_SAG (21, R488): the input lies between 44 V and 46 V, for longer than 10 ms (`long`), or has been back above for 10 ms (`back`), which ends its hold. -/
def execInputSag (long back : Bool) (s : State) : Out :=
  let s1 := if back then (List.range 30).foldl (fun x r => x.modRegion r (fun g => { g with sagHeld := false })) s else s
  .next { s1 with mgt := { s1.mgt with sagging := if back then false else s1.mgt.sagging || long } }

/-! ### Module reset -/

/-- The registers of a register file that keep their values over a module reset: those of logs and recorders' rings (R464). -/
def keepRegs (offs : List Nat) (r : RegFile) : RegFile := r.filter (fun p => offs.contains p.1)

/-- The ring registers of a recorder. -/
def skbRing : List Nat := [regSkbHead, regSkbTail, regSkbLost]

/-- The ring registers of an error log. -/
def logRing : List Nat := [regRasLogHead, regRasLogTail, regRasLogStatus]

/-- A recorder over a module reset. -/
def keepRecorder (r : Recorder) : Recorder := { r with fired := [] }

/-- What of a tile a module reset keeps: its Sketchbook and its activity counters (R464; 16, R392). -/
def keepTile (t : Tile) : Tile :=
  { Tile.reset with regs := keepRegs skbRing t.regs, recorder := keepRecorder t.recorder, counters := t.counters, cntPrev := t.counters }

/-- What of a field controller a module reset keeps: its error log, its history of transients, its Sketchbook (R464). -/
def keepFc (c : Fc) : Fc :=
  { Fc.reset with regs := keepRegs (skbRing ++ logRing) c.regs, log := c.log, history := c.history, recorder := keepRecorder c.recorder }

/-- What of the Management Complex a module reset keeps: error log, Sketchbook, the TRIM code, whether a token has been accepted, and MR7
(R464). -/
def keepMc (c : Mc) (unlocked : Nat) : Mc :=
  let mr7 := (List.range 8).map (fun w => regSecMr (56 + w))
  let r := keepRegs (skbRing ++ logRing ++ [regClkTrim] ++ mr7) c.regs
  let trim := (kvGet 0 r regClkTrim) &&& 0x3FF
  { Mc.reset with regs := kvSet (kvSet r regClkTrim trim) regSecStatus (BitVec.ofNat 32 (16 * unlocked)), log := c.log, recorder := keepRecorder c.recorder }

/-- The state after a module reset, before its boot (R464, Table 20.1). -/
def moduleResetState (s : State) (cause aborted : Nat) : State :=
  let p := powerOnState s
  let s1 : State := { p with
    aon := s.aon
    tiles := s.tiles.map (fun x => (x.1, keepTile x.2)), fcs := s.fcs.map (fun x => (x.1, keepFc x.2)), mc := keepMc s.mc (s.mfld regSecStatus 4 4)
    gesso := { p.gesso with failed := s.gesso.failed }
    sec := { Sec.reset with scopes := s.sec.scopes, unlockCtr := s.sec.unlockCtr, unlockHi := s.sec.unlockHi, failedMc := s.sec.failedMc }
    mgt := { p.mgt with powered := true, sagging := s.mgt.sagging } }
  s1.setMreg regMgtResetCause (BitVec.ofNat 32 (cause + min aborted (2 ^ 24 - 1) * 2 ^ 8))

/-- A module reset and its boot. -/
def moduleReset (b : BootIn) (cause aborted : Nat) (s : State) : State := boot b (moduleResetState s cause aborted)

/-- MODULE_RESET_PIN (R464, R465): RESET_N has been low for 10 µs; items write no records. -/
def execModuleResetPin (b : BootIn) (s : State) : Out := .next (if s.mgt.powered then moduleReset b 2 0 s else s)

/-! ### Life and shelf -/

/-- The life measures after an hour whose sensors' readings sum to `sum` over `n` readings: the hourly mean in 0.01 °C, none below 0, joins
the sum of means as a fraction; `over` says whether the hourly mean TMAX of a region passed 90 °C. -/
def lifeHour (l : KV Nat) (sum : Int) (n : Nat) (excess : Bool) : KV Nat :=
  let den := kvGet 1 l 3
  let l1 := kvSet (kvSet l 0 (kvGet 0 l 0 + 1)) 2 (satAdd 16 (kvGet 0 l 2) (b2n excess))
  kvSet (kvSet l1 1 (kvGet 0 l 1 * n + 100 * sum.toNat * den)) 3 (den * n)

/-- Whether the mean TMAX of a region over the hour under way exceeds 90 °C (21, R493). -/
def hotHour (g : Region) : Bool := decide (90 * (g.tmax.2 : Int) < g.tmax.1)

/-- LIFE_HOUR_TICK (21, R493): an hour with power-good ends. Of an hour without a reading the command says the mean and whether a region was hot (DESIGN
CHOICE, log entry 54). -/
def execLifeHourTick (mean : BitVec 16) (excess : Bool) (s : State) : Out :=
  .next (if !s.mgt.powered then s
    else
      let blind := decide (s.mgt.heat.2 = 0)
      let h := if blind then (mean.toInt, 100) else s.mgt.heat
      let l := lifeHour s.flash.life h.1 h.2 ((List.range 30).any (fun r => hotHour (s.region r)) || blind && excess)
      let s1 := (List.range 30).foldl (fun x r => x.modRegion r (fun g => { g with tmax := (0, 0) })) s
      putLife { s1 with flash := { s1.flash with life := l }, mgt := { s1.mgt with heat := (0, 0) } })

/-- PMBUS_POLL (R469): READ_VIN, READ_IIN and STATUS_WORD of the shelf, all in LINEAR11, or a read that failed, which counts as in R394. -/
def execPmbusPoll (w : Option (BitVec 16 × BitVec 16 × BitVec 16)) (s : State) : Out :=
  match w with
  | some x => .next { s with mgt := { s.mgt with pinFails := 0, shelf := [linear11 x.1, linear11 x.2.1, linear11 x.2.2] } }
  | none => execPwrCalibrate none s

end Sys2Proof.Machine
end

