-- ==== Sys2Proof/Machine/Branch.lean ====
section
/-!
DEFINITION. Constants, jumps and branches: OP 0x09 to 0x0D (04, R94, Table 4.4).
-/
namespace Sys2Proof.Machine

open Sys2Proof

/-- IMM19 × 2^13, sign-extended. -/
def imm19Hi (imm : BitVec 19) : DWord := imm.signExtend 64 <<< 13

/-- A word offset, sign-extended and scaled to bytes. -/
def wordOffset {n : Nat} (imm : BitVec n) : DWord := imm.signExtend 64 <<< 2

/-- `ldhi` (04, R94). -/
def execLdhi (lt : Nat) (c : CoreId) (rd : BitVec 5) (imm : BitVec 19) (s : State) : Out :=
  insn lt c 4 (wordU 0x09 rd imm) anyCore (fun s => .done (gWrite s lt c rd (imm19Hi imm))) s

/-- `ldpc` (04, R94). -/
def execLdpc (lt : Nat) (c : CoreId) (rd : BitVec 5) (imm : BitVec 19) (s : State) : Out :=
  insn lt c 4 (wordU 0x0A rd imm) anyCore (fun s => .done (gWrite s lt c rd (pcOf s lt c + imm19Hi imm))) s

/-- `call` (04, R94). -/
def execCall (lt : Nat) (c : CoreId) (rd : BitVec 5) (imm : BitVec 19) (s : State) : Out :=
  insn lt c 4 (wordU 0x0B rd imm) anyCore (fun s =>
    .jump (gWrite s lt c rd (pcOf s lt c + 4)) (pcOf s lt c + wordOffset imm)) s

/-- `call.r` (04, R94): the target is taken from rs1 before rd is written. -/
def execCallR (lt : Nat) (c : CoreId) (rd rs1 : BitVec 5) (imm : BitVec 14) (s : State) : Out :=
  insn lt c 4 (wordI 0x0C rd rs1 imm) anyCore (fun s =>
    .jump (gWrite s lt c rd (pcOf s lt c + 4)) ((gRead s lt c rs1 &&& ~~~3#64) + wordOffset imm)) s

/-- A branch: `cond` compares rs1 with rs2 at the width of the core (Table 4.4, OP 0x0D). -/
def branch (cond : Nat) (f64 : DWord → DWord → Bool) (f32 : Word → Word → Bool)
    (lt : Nat) (c : CoreId) (rs1 rs2 : BitVec 5) (imm : BitVec 11) (s : State) : Out :=
  insn lt c 4 (wordL 0x0D rs2 rs1 cond imm) anyCore (fun s =>
    let a := gRead s lt c rs1
    let b := gRead s lt c rs2
    if (match c with
        | .tcc => f64 a b
        | .lane _ => f32 (a.setWidth 32) (b.setWidth 32))
    then .jump s (pcOf s lt c + wordOffset imm)
    else .done s) s

/-- `br.eq` (04, R94). -/
def execBrEq (lt : Nat) (c : CoreId) (rs1 rs2 : BitVec 5) (imm : BitVec 11) (s : State) : Out :=
  branch 0 (fun a b => a == b) (fun a b => a == b) lt c rs1 rs2 imm s

/-- `br.ne` (04, R94). -/
def execBrNe (lt : Nat) (c : CoreId) (rs1 rs2 : BitVec 5) (imm : BitVec 11) (s : State) : Out :=
  branch 1 (fun a b => a != b) (fun a b => a != b) lt c rs1 rs2 imm s

/-- `br.lt` (04, R94). -/
def execBrLt (lt : Nat) (c : CoreId) (rs1 rs2 : BitVec 5) (imm : BitVec 11) (s : State) : Out :=
  branch 2 (fun a b => a.slt b) (fun a b => a.slt b) lt c rs1 rs2 imm s

/-- `br.ge` (04, R94). -/
def execBrGe (lt : Nat) (c : CoreId) (rs1 rs2 : BitVec 5) (imm : BitVec 11) (s : State) : Out :=
  branch 3 (fun a b => !a.slt b) (fun a b => !a.slt b) lt c rs1 rs2 imm s

/-- `br.ltu` (04, R94). -/
def execBrLtu (lt : Nat) (c : CoreId) (rs1 rs2 : BitVec 5) (imm : BitVec 11) (s : State) : Out :=
  branch 4 (fun a b => a.ult b) (fun a b => a.ult b) lt c rs1 rs2 imm s

/-- `br.geu` (04, R94). -/
def execBrGeu (lt : Nat) (c : CoreId) (rs1 rs2 : BitVec 5) (imm : BitVec 11) (s : State) : Out :=
  branch 5 (fun a b => !a.ult b) (fun a b => !a.ult b) lt c rs1 rs2 imm s

end Sys2Proof.Machine
end

