-- ==== Sys2Proof/Machine/RegWrite.lean ====
section
/-!
DEFINITION. Register accesses: which levels write a block, what a write does by access code, and the registers that act (00, R12 to R17;
03, R59; and the register tables of every block).
-/
namespace Sys2Proof.Machine

open Sys2Proof

/-! ### By access code -/

/-- The word that a write leaves in a register of these rows (R12): RW bits take the value, W1C bits clear, RWL bits take the value until
the boot lock; every other bit stays. -/
def plainWord (rows : List RegRow) (locked : Bool) (off : Nat) (old v : Word) : Word :=
  match findRow rows off with
  | none => old
  | some r =>
    let part := fun m => wordAt m (r.wordOf off)
    let rw := if locked then part r.rw else part r.rw ||| part r.rwl
    ((old &&& ~~~rw) ||| (v &&& rw)) &&& ~~~(v &&& part r.w1c)

/-- Whether the boot lock is set (20, Table 20.2). -/
def bootLocked (s : State) : Bool := s.mfld regMgtBootStatus 7 7 == 1

/-- A plain write of a tile's register. -/
def plainTile (s : State) (lt off : Nat) (v : Word) : State :=
  s.setTreg lt off (plainWord tileRows (bootLocked s) off (s.treg lt off) v)

/-- A plain write of a field controller's register. The registers of a region lie under its upper field's selector (16, R411). -/
def plainFc (s : State) (f off : Nat) (v : Word) : State :=
  let rows := if upperField (regionOfField f) = f then fcRows ++ regionRows else fcRows
  if (findRow rows off).isSome then s.setFreg f off (plainWord rows true off (s.freg f off) v) else s

/-- A plain write of a register of the Management Complex. -/
def plainMc (s : State) (off : Nat) (v : Word) : State :=
  if (findRow mcRows off).isSome then s.setMreg off (plainWord mcRows true off (s.mreg off) v) else s

/-- A plain write of a tile's register, where one lies at the offset (R14). -/
def plainTileAt (s : State) (lt off : Nat) (v : Word) : State := if (findRow tileRows off).isSome then plainTile s lt off v else s

/-! ### Registers that act -/

/-- Index in an array of registers from `base`, `stride` apart, `n` of them: the place of `off`, where it is one of theirs. -/
def arrayIdx (base stride n off : Nat) : Option Nat :=
  if base ≤ off ∧ (off - base) % stride = 0 ∧ (off - base) / stride < n then some ((off - base) / stride) else none

/-- MEM block (03, R59 to R82). MAP is set by job load alone. MEM_LWIN_SIZE is stored unchecked, also while its window is enabled, and waiting
requests are not looked at again (DESIGN CHOICE, log entry 54). -/
def writeMem (s : State) (lt off : Nat) (v : Word) : State :=
  if off = regMemCfg then s.setTbit lt regMemCfg 1 (bit v 1)
  else if off = regMemPwrCtrl then writeMemPwr s lt v
  else
    match arrayIdx (regBoltCfg 0) 32 64 off, arrayIdx (regBoltHead 0) 32 64 off, arrayIdx (regBoltCommit 0) 32 64 off,
        arrayIdx (regBoltReserve 0) 32 64 off with
    | some b, _, _, _ => writeBoltCfg s lt b v
    | none, some b, _, _ => writeBoltCounter s lt b .head v
    | none, none, some b, _ => writeBoltCounter s lt b .commit v
    | none, none, none, some b => writeBoltCounter s lt b .reserve v
    | none, none, none, none =>
      match arrayIdx (regMemLwinBase 0) 16 16 off, arrayIdx (regMemLwinRel 0) 16 16 off with
      | some m, _ => writeLwinBase s lt m v
      | none, some m => writeLwinRel s lt m v
      | none, none => plainTileAt s lt off v

/-- LC block (05, R129 to R132). CLUSTER is set by job load alone. -/
def writeLc (s : State) (lt off : Nat) (v : Word) : State :=
  if off = regLcCfg then s
  else if off = regLcAction then writeLcAction s lt v
  else
    match arrayIdx (regLcStart 0) 4 8 off with
    | some n => writeLcStart s lt n v
    | none => plainTileAt s lt off v

/-- CH block (11, R299): the entries of the channel table are written at M only; timeouts are clamped; the AM Bolt is taken while EN is 0. -/
def writeCh (s : State) (lt : Nat) (lv : Level) (off : Nat) (v : Word) : State :=
  if off = regChCtrl then writeChCtrl s lt v
  else if off = regChTimeout then
    s.setTreg lt off (BitVec.ofNat 32 (max 10 (min 30 (fld v 4 0)) + max 16 (min 30 (fld v 12 8)) * 2 ^ 8))
  else if off = regChAmCfg then
    (if s.tbit lt regChAmCfg 0 then s.setTbit lt regChAmCfg 0 (bit v 0) else plainTileAt s lt off v)
  else
    match arrayIdx (regChOvfMap 0) 4 16 off with
    | some n => writeOvfMap s lt n v
    | none => if regChDst 0 ≤ off ∧ lv ≠ .m then s else plainTileAt s lt off v

/-- DMA block (12, R318, R320). -/
def writeDma (s : State) (lt off : Nat) (v : Word) : State :=
  if off = regDmaCtrl then writeDmaCtrl s lt v
  else if off = regDmaCringBase then (if s.tbit lt regDmaCringCfg 0 then s else plainTileAt s lt off v)
  else if off = regDmaCringCfg then s.setTreg lt off (BitVec.ofNat 32 (b2n (bit v 0) + min 8 (fld v 4 1) * 2))
  else plainTileAt s lt off v

/-- SYNC block of a tile (13, R336, R342). -/
def writeSync (s : State) (lt off : Nat) (v : Word) : State :=
  match arrayIdx (regSyncSem 0) 4 64 off, arrayIdx (regSyncMir 0) 8 256 off with
  | some n, _ => semWake (setSem s lt n v.toNat) lt n
  | none, some n => writeMirror s lt n v
  | none, none => plainTileAt s lt off v

/-- A write of a tile's register from S or M. -/
def tileWrite (s : State) (lt : Nat) (lv : Level) (off : Nat) (v : Word) : State :=
  match off / 0x10000 with
  | 0xF00 => if off = regTilePreCtrl then writeTilePre s lt lv v else if off = regTileBootPc ∧ lv ≠ .m then s else plainTileAt s lt off v
  | 0xF01 => if off = regMeCtrl then writeMeCtrl s lt lv v else plainTileAt s lt off v
  | 0xF02 => writeLc s lt off v
  | 0xF03 => writeMem s lt off v
  | 0xF04 => writeDma s lt off v
  | 0xF06 => writeCh s lt lv off v
  | 0xF07 => if off = regSkHistCfg then writeHistCfg s lt v else plainTileAt s lt off v
  | 0xF09 => writeSync s lt off v
  | 0xF0A => if lv = .m then plainTileAt s lt off v else s
  | 0xF0B => if lv = .m then plainTileAt s lt off v else s
  | 0xF0C => if off = regSkbFire then skbFire s (.tile lt) (fld v 3 0) else plainTileAt s lt off v
  | 0xF0D => if (off = regPalSeedLo ∨ off = regPalSeedHi) ∧ lv ≠ .m then s else plainTileAt s lt off v
  | 0xF0E => if off = regRtuCtrl then writeRtuCtrl s lt v else plainTileAt s lt off v
  | _ => plainTileAt s lt off v

/-- A write of RAS_LOG_TAIL: one beyond HEAD is taken as HEAD (18, R436). -/
def writeLogTail (s : State) (tg : Target) (v : Word) : State :=
  let head := (rget s tg regRasLogHead).toNat
  let tail := (rget s tg regRasLogTail).toNat
  rset s tg regRasLogTail (if (head + 2 ^ 32 - tail) % 2 ^ 32 < (v.toNat + 2 ^ 32 - tail) % 2 ^ 32 then BitVec.ofNat 32 head else v)

/-- A write of a field controller's register from S or M. -/
def fcWrite (s : State) (f : Nat) (lv : Level) (off : Nat) (v : Word) : State :=
  match off / 0x10000 with
  | 0xF08 => if off = regStudyCfg then s.setFreg f off (setFld (v &&& 0x7F) 5 1 (max 4 (min 20 (fld v 5 1)))) else plainFc s f off v
  | 0xF0A =>
    if lv ≠ .m then s
    else if off = regPwrRegCtrl ∧ upperField (regionOfField f) = f then
      let s1 := plainFc s f off v
      if bit v 1 then writeResume s1 (regionOfField f) else s1
    else plainFc s f off v
  | 0xF0B =>
    if off = regRasLogTail then writeLogTail s (.fc f) v
    else if lv ≠ .m then s
    else if off = regRasCeCfg then s.setFreg f off (setFld (v &&& 0x1FFF) 12 8 (max 10 (min 30 (fld v 12 8))))
    else plainFc s f off v
  | 0xF0C => if off = regSkbFire then skbFire s (.fc f) (fld v 3 0) else plainFc s f off v
  | 0xF10 =>
    if lv ≠ .m then s
    else
      match arrayIdx (regFabPortCfg 0) 64 2 off with
      | some k => writePortCfg s (2 * f + k) v
      | none => plainFc s f off v
  | _ => plainFc s f off v

/-- A write of HOST_PORT_CFG: a port that is disabled goes down, one that is enabled trains once the host ports have been brought up
(20, R466, R473). -/
def writeHostCfg (s : State) (n : Nat) (v : Word) : State :=
  let s1 := plainMc s (regHostPortCfg n) v
  if !bit v 0 then hostDown s1 n else trainHost s1 n

/-- A write of SYNC_OBJ_STATE clears STALE of the object selected (13, R334). -/
def clearStale (s : State) (v : Word) : State :=
  if bit v 21 then
    let o := s.mfld regSyncObjSel 13 0
    { s with objs := s.objs.map (fun p => if p.1 = o then (p.1, { p.2 with stale := false }) else p) }
  else s

/-- A write at M of a register of the Management Complex in a block that M alone writes. -/
def mcWriteM (s : State) (off : Nat) (v : Word) : State :=
  if off = regMgtGessoCtrl then writeGessoCtrl s v
  else if off = regPwrModCap then writeCap s (fld v 8 0)
  else if off = regSecCtrl then (if bit v 0 then commitSvn s else s)
  else if off = regSecSessCfg then s.setMreg off (BitVec.ofNat 32 (max 1 (fld v 7 0)))
  else if off = regFabCcCfg1 then
    s.setMreg off (setFld (setFld (plainWord mcRows true off (s.mreg off) v) 7 0 (max 1 (fld v 7 0))) 18 16 (max 1 (fld v 18 16)))
  else
    match arrayIdx (regClkPll 0) 4 37 off, arrayIdx (regHostPortCfg 0) 64 2 off with
    | some n, _ => writePll s n v
    | none, some n => writeHostCfg s n v
    | none, none => plainMc s off v

/-- A write of a register of the Management Complex from S or M. -/
def mcWrite (s : State) (lv : Level) (off : Nat) (v : Word) : State :=
  match off / 0x10000 with
  | 0xF09 => if off = regSyncObjState then clearStale s v else plainMc s off v
  | 0xF0C => if off = regSkbFire then skbFire s .mc (fld v 3 0) else plainMc s off v
  | 0xF0B => if off = regRasLogTail then writeLogTail s .mc v else if lv = .m then plainMc s off v else s
  | _ => if lv = .m then mcWriteM s off v else s

/-! ### Accesses -/

/-- A write from S or M of a register of a target, and its status: MEM_CFG and LC_CFG are refused at S (03, R59; 05, R130). -/
def regWrite (s : State) (tg : Target) (lv : Level) (off : Nat) (v : Word) : State × Status :=
  match tg with
  | .tile lt => if lv ≠ .m ∧ (off = regMemCfg ∨ off = regLcCfg) then (s, stProtFault) else (tileWrite s lt lv off v, stOk)
  | .fc f => (fcWrite s f lv off v, stOk)
  | .mc => (mcWrite s lv off v, stOk)

/-- A read of a register of a target, with what a read changes: the high words that CLK_AON_LO and SEC_UNLOCK_CTR_LO latch. -/
def regReadFx (s : State) (tg : Target) (off : Nat) : State × Word :=
  let w := regRead s tg off
  if tg = .mc ∧ off = regClkAonLo then ({ s with sec := { s.sec with aonHi := wordAt (s.aon % 2 ^ 48) 1 } }, w)
  else if tg = .mc ∧ off = regSecUnlockCtrLo then ({ s with sec := { s.sec with unlockHi := wordAt s.sec.unlockCtr.toNat 1 } }, w)
  else (s, w)

/-- Whether a level reaches a register word of a target: S or M, a block that exists (R17, R59; 04, R97). -/
def regReachable (tg : Target) (lv : Level) (off : Nat) : Bool := lv != .u && blockExists tg off

/-- The W1C bits of the register word of a target at an offset (R12). -/
def w1cBits (tg : Target) (off : Nat) : Word :=
  let rows := match tg with
    | .tile _ => tileRows
    | .fc f => if upperField (regionOfField f) = f then fcRows ++ regionRows else fcRows
    | .mc => mcRows
  match findRow rows off with
  | some r => wordAt r.w1c (r.wordOf off)
  | none => 0

/-- A write of a register word in a cycle in which hardware sets `sets` of its bits: of these, W1C bits that a 1 would clear stay set (R13). -/
def regWriteSet (s : State) (tg : Target) (lv : Level) (off : Nat) (v sets : Word) : State × Status :=
  regWrite s tg lv off (v &&& ~~~(w1cBits tg off &&& sets))

/-- REGISTER_WRITE (R12, R13, R17): a write of the word at an offset under a selector, from a level. -/
def execRegisterWrite (sel : BitVec 12) (off : BitVec 28) (lv : Level) (v : WriteWord) (s : State) : Out :=
  .next (match targetOf s sel.toNat with
    | some tg =>
      if regReachable tg lv off.toNat && off.toNat % 4 == 0 then
        let p := regWriteSet s tg lv off.toNat v.word v.sets
        accessReply p.1 p.2 0
      else accessReply s stProtFault 0
    | none => accessReply s stProtFault 0)

end Sys2Proof.Machine
end

