-- ==== Sys2Proof/Machine/Lcp.lean ====
section
/-!
DEFINITION. The Lerux Control Protocol: connections, messages, permissions, exclusion (20, R476 to R480, Table 20.10).

A message comes over connection 1 to 4 or over the USB service port (6), with its REQ_ID.
-/
namespace Sys2Proof.Machine

open Sys2Proof

/-- RESULT values (R477). -/
abbrev lcpOk : Nat := 0
abbrev lcpMalformed : Nat := 1
abbrev lcpDenied : Nat := 2
abbrev lcpBusy : Nat := 3
abbrev lcpRefused : Nat := 4
abbrev lcpState : Nat := 5

/-! ### Connections -/

/-- LCP_CONNECT (R476): a client connects over host port `n`; `full` says that its certificate chains to the owner key in force. At most 4
connections are held, each with a TLS session of its own (19, R457). -/
def execLcpConnect (n : BitVec 1) (full : Bool) (s : State) : Out :=
  let free := [1, 2, 3, 4].find? (fun i => !s.mgt.conns.any (fun c => c.id == i))
  .next (match free with
    | some i =>
      if s.mfld (regHostPortStatus n.toNat) 1 0 = 2 ∧ 14 ≤ s.mfld regMgtBootStatus 3 0 then
        { s.drawn with mgt := { s.mgt with conns := s.mgt.conns ++ [⟨i, full, s.fresh⟩] } }
      else s
    | none => s)

/-- LCP_DISCONNECT (R477): a connection closes; a job image that it was sending is abandoned. -/
def execLcpDisconnect (id : BitVec 3) (s : State) : Out :=
  .next { s with mgt := { s.mgt with
    conns := s.mgt.conns.filter (fun c => c.id != id.toNat)
    loading := s.mgt.loading.filter (fun j => j.conn != id.toNat) } }

/-! ### Messages -/

/-- The reply to a message (R477). -/
def lcpReply (s : State) (via typ : Nat) (req : BitVec 32) (result detail : Nat) (body : List Byte) : State :=
  { s with replies := s.replies ++ [⟨via, 0, lcpMsg (typ + 0x8000) result req.toNat detail body⟩] }

/-- Whether a message can come this way at all: connections 1 to 4, and USB as 6. -/
def viaExists (via : Nat) : Bool := (1 ≤ via && via ≤ 4) || via == 6

/-- Whether the connection is open, or USB attached. -/
def viaOpen (s : State) (via : Nat) : Bool := if via = 6 then s.mgt.usb else s.mgt.conns.any (fun c => c.id == via)

/-- Whether the client's certificate chains to the owner key in force (R476). -/
def viaFull (s : State) (via : Nat) : Bool := s.mgt.conns.any (fun c => c.id == via && c.full)

/-- Whether a message may be sent this way (R476, R480). -/
def lcpAllowed (s : State) (via typ : Nat) : Bool :=
  if via = 6 then
    [1, 2, 0x12].contains typ || (nbit s.sec.scopes 0 && [0x0A, 0x0B, 0x0C, 0x10, 0x11].contains typ) ||
      (nbit s.sec.scopes 1 && [0x13, 0x14].contains typ)
  else typ != 0x13 && typ != 0x14 && (viaFull s via || typ == 1 || typ == 2 || (typ == 3 && s.flash.owners.isEmpty))

/-- Whether a message is one of the exclusive ones (R477). -/
def lcpExclusive (typ : Nat) : Bool := [3, 4, 6, 7, 8, 0x0B, 0x10, 0x11].contains typ

/-- Whether an exclusive message runs that answers this one BUSY (R477): full tests, or a job image that another sends. -/
def lcpIsBusy (s : State) (via typ : Nat) : Bool :=
  lcpExclusive typ && (s.gesso.fullBusy || s.mgt.loading.any (fun j => !(typ == 7 && j.conn == via)))

/-- A message: permission, exclusion, form, and then what it does: the state, RESULT, DETAIL and the body of the reply. -/
def lcp (typ via : Nat) (req : BitVec 32) (ok : Bool) (act : State → State × Nat × Nat × List Byte) (s : State) : Out :=
  if !viaExists via then .fault .noSuchUnit
  else .next (
    if !viaOpen s via then s
    else if !lcpAllowed s via typ then lcpReply s via typ req lcpDenied 0 []
    else if lcpIsBusy s via typ then lcpReply s via typ req lcpBusy 0 []
    else if !ok then lcpReply s via typ req lcpMalformed 0 []
    else
      let r := act s
      lcpReply r.1 via typ req r.2.1 r.2.2.1 r.2.2.2)

/-- A body of at most 16 MiB (R477). -/
def bodyOk (n : Nat) : Bool := n ≤ 2 ^ 24

/-- OK with nothing more. -/
def done (s : State) : State × Nat × Nat × List Byte := (s, lcpOk, 0, [])

/-- The outcome of checks that answer the number of the first that fails. -/
def checked (s : State) (bad : Option Nat) (t : State) : State × Nat × Nat × List Byte :=
  match bad with
  | none => done t
  | some n => (s, lcpRefused, n, [])

/-- GET_STATUS. -/
def execGetStatus (via : Nat) (req : BitVec 32) (s : State) : Out :=
  lcp 0x01 via req true (fun s =>
    (s, lcpOk, 0, ([regMgtBootStatus, regMgtGessoStatus, regSecStatus, regFabStatus, regMgtBootCount].map (fun r => leBytes 4 (mcRead s r).toNat)).flatten)) s

/-- ATTEST (R452, R472): with a nonce of 32 B; while SEC SRAM holds the keys (R444, R445). -/
def execAttest (via : Nat) (req : BitVec 32) (nonce : List Byte) (s : State) : Out :=
  lcp 0x02 via req (nonce.length == 32) (fun s =>
    if s.sec.secret.isEmpty then (s, lcpState, 0, []) else (s, lcpOk, 0, attest s nonce)) s

/-- ENROLL (R449). -/
def execEnroll (via : Nat) (req : BitVec 32) (keys trailer : List Byte) (s : State) : Out :=
  lcp 0x03 via req (ownerKeysOk keys) (fun s =>
    match enrol s keys trailer with
    | some t => done t
    | none => (s, lcpRefused, 0, [])) s

/-- SET_POLICY (R450). -/
def execSetPolicy (via : Nat) (req : BitVec 32) (b : List Byte) (s : State) : Out :=
  lcp 0x04 via req (bodyOk b.length) (fun s => checked s (policyFails s b) (acceptPolicy s b)) s

/-- SET_MEMBERSHIP (R451). -/
def execSetMembership (via : Nat) (req : BitVec 32) (b : List Byte) (s : State) : Out :=
  lcp 0x05 via req (bodyOk b.length) (fun s =>
    if memberOk s b then done { s with flash := { s.flash with membership := b } } else (s, lcpRefused, 0, [])) s

/-- SET_ROUTES (14, R367, R368). -/
def execSetRoutes (via : Nat) (req : BitVec 32) (b : List Byte) (s : State) : Out :=
  lcp 0x06 via req (bodyOk b.length) (fun s => checked s (routesFail s b (s.fab.routes.map (fun t => t.version))) (acceptRoutes s b)) s

/-! ### Jobs -/

/-- The bytes of the image once a piece has come; none where it does not follow the pieces before. -/
def nextPiece (s : State) (off : Nat) (bs : List Byte) : Option (List Byte) :=
  let have_ := (s.mgt.loading.map (fun j => j.bytes)).getD []
  if off = have_.length then some (have_ ++ bs) else none

/-- Whether a job image is all there: IMAGE_BYTES of its header have come (R478). -/
def imageWhole (img : List Byte) : Bool := 16 ≤ img.length && fieldAt img 8 8 ≤ img.length

/-- LOAD_JOB (R477, R478): a piece of a job image at an offset. With the last piece the job loads; `fs` are what the tests of powered-off
regions and the deferred tests find. -/
def execLoadJob (via : Nat) (req : BitVec 32) (off : BitVec 64) (bs : List Byte) (fs : List Finding) (s : State) : Out :=
  lcp 0x07 via req (bodyOk (8 + bs.length)) (fun s =>
    if jobLoaded s ∨ s.mfld regMgtBootStatus 4 4 = 0 then (s, lcpState, 0, [])
    else
      match nextPiece s off.toNat bs with
      | none => (s, lcpMalformed, 0, [])
      | some img =>
        if imageWhole img then
          let r := jobLoad { s with mgt := { s.mgt with loading := none } } (img.take (fieldAt img 8 8)) fs
          (r.1, r.2.1, r.2.2, [])
        else done { s with mgt := { s.mgt with loading := some ⟨via, img⟩ } }) s

/-- END_JOB (12, R319): the number of items ended is answered. -/
def execEndJob (via : Nat) (req : BitVec 32) (s : State) : Out :=
  lcp 0x08 via req true (fun s =>
    if jobLoaded s then (let p := endJob s; (p.1, lcpOk, 0, leBytes 4 p.2)) else (s, lcpState, 0, [])) s

/-- SET_CAP (16, R397): the cap in 0.1 kW. -/
def execSetCap (via : Nat) (req : BitVec 32) (cap : BitVec 16) (s : State) : Out :=
  lcp 0x09 via req true (fun s => done (writeCap s cap.toNat)) s

/-! ### Logs and firmware -/

/-- The entries of a log with sequence numbers from `first`, at most `count`, in order (18, R427, R428). -/
def logEntries (s : State) (tg : Target) (first count : Nat) : List Byte :=
  let head := nextSeq s tg
  let seqs := (List.range (logSize tg)).map (fun k => (head + 2 ^ 32 - logSize tg + k) % 2 ^ 32)
  ((seqs.filter (fun q => decide ((q + 2 ^ 32 - first) % 2 ^ 32 < count))).filterMap (fun q =>
    (kvFind (logOf s tg) (q % logSize tg)).bind (fun e => if e.seq = q then some e.bytes else none))).flatten

/-- READ_LOG (18, R427): the log of a field controller, or 0xFF for that of the Management Complex. -/
def execReadLog (via : Nat) (req : BitVec 32) (log : BitVec 8) (first count : BitVec 32) (s : State) : Out :=
  let tg : Target := if log = 0xFF then .mc else .fc log.toNat
  lcp 0x0A via req (log = 0xFF || log.toNat < 60) (fun s => (s, lcpOk, 0, logEntries s tg first.toNat count.toNat)) s

/-- FW_WRITE (19, R446): of stage 1, 2 or 3. -/
def execFwWrite (via : Nat) (req : BitVec 32) (stage : BitVec 8) (image : List Byte) (s : State) : Out :=
  lcp 0x0B via req (1 ≤ stage.toNat && stage.toNat ≤ 3 && bodyOk (1 + image.length)) (fun s => done (writeFw s stage.toNat image)) s

/-- LCP_COMMIT_SVN (19, R446). -/
def execLcpCommitSvn (via : Nat) (req : BitVec 32) (s : State) : Out := lcp 0x0C via req true (fun s => done (commitSvn s)) s

/-- ISK_CREATE (19, R458). -/
def execIskCreate (via : Nat) (req : BitVec 32) (s : State) : Out :=
  lcp 0x0D via req true (fun s =>
    match createIsk s with
    | some t => done t
    | none => (s, lcpRefused, 0, [])) s

/-! ### Streams -/

/-- The header of a checkpoint that leaves the module, with its data key: CKPT_ID and the key from the random source, PAL_STEP of the tile
(19, R459; R475). -/
def checkpointHeader (s : State) (x : Stream) (gen : Nat) (isk : List Byte) : List Byte × List Byte :=
  let key := s.freeBytes 32
  let id := (s.freeBytes 48).drop 32
  let iv := (s.freeBytes 60).drop 48
  let head := leBytes 4 0x54504B43 ++ leBytes 2 1 ++ leBytes 2 256 ++ installId s ++ leBytes 4 gen ++ leBytes 4 (streamBlocks x) ++ id
    ++ Config.serial ++ leBytes 4 (s.treg x.lt regPalStep).toNat ++ leBytes 8 x.len
  let all := head ++ slice (Config.seal isk iv head key) 0 48 ++ iv ++ leBytes 108 0
  (key, all ++ slice (Config.seal key (leBytes 4 0xFFFFFFFF ++ slice id 0 8) all []) 0 16)

/-- Whether a stream may be opened (R474, R475): the port, FORM and direction, the tile, its range; an enabled window for an IN stream. -/
def streamOk (s : State) (x : Stream) : Bool :=
  decide (x.port < 2) && decide (x.form ≤ 2) && (x.form != 1 || x.dirOut) && (x.form != 2 || !x.dirOut) && decide (x.lt < ltCount s) && decide (0 < x.len) &&
    decide (s.mgt.streams.countP (fun p => p.2.port == x.port) < 256) && (x.form != 1 || !(heldIsk s).isEmpty) &&
    (if x.dirOut then visible x.base x.len
     else decide (x.window < 16) && s.tbit x.lt (regMemLwinBase x.window) 0 &&
       decide (x.base + x.len ≤ 4096 * s.tfld x.lt (regMemLwinSize x.window) 13 0))

/-- A stream with its key and, for a checkpoint that leaves, its header (19, R457, R459). -/
def keyed (s : State) (x : Stream) : Stream :=
  if x.form = 0 then { x with key := Config.exporter (((s.mgt.conns.find? (fun c => c.id == x.conn)).map (fun c => c.tls)).getD 0) }
  else if x.form = 1 then
    let g := (heldIsk s).getLastD (0, [])
    let p := checkpointHeader s x g.1 g.2
    { x with key := p.1, header := p.2, opened := true }
  else x

/-- OPEN_STREAM (R474, R475): port, direction, FORM, tile, window of an IN stream, offset in it or in visible memory, length. The reply
carries QPN, RKEY and remote base; the last two are free values. -/
def execOpenStream (via : Nat) (req : BitVec 32) (port : BitVec 8) (dirOut : Bool) (form : BitVec 8) (lt : BitVec 16) (window : BitVec 8)
    (off : BitVec 32) (len : BitVec 32) (s : State) : Out :=
  lcp 0x0E via req true (fun s =>
    let n := ((List.range (s.mgt.streams.length + 1)).find? (fun i => !kvHas s.mgt.streams i)).getD 0
    let x : Stream :=
      { port := port.toNat, conn := via, dirOut := dirOut, form := form.toNat, lt := lt.toNat, base := off.toNat, window := window.toNat, len := len.toNat
        next := 0, status := none, qpn := n, rate := 800, key := [], header := [], opened := false, acked := 0, lastCnp := none }
    if streamOk s x then
      (putStream s.drawn n (keyed s x), lcpOk, 0, leBytes 4 n ++ leBytes 4 (s.freeWord.toNat % 2 ^ 32) ++ leBytes 8 s.drawn.freeWord.toNat)
    else (s, lcpRefused, 0, [])) s

/-- CLOSE_STREAM (R474): its final status is answered. The status of a stream closed before its end is a free choice among the codes of Table 0.5. -/
def execCloseStream (via : Nat) (req : BitVec 32) (id : BitVec 32) (s : State) : Out :=
  lcp 0x0F via req true (fun s =>
    match streamOf s id.toNat with
    | none => (s, lcpRefused, 0, [])
    | some x =>
      let st : Status := x.status.getD (s.freeStatus)
      let s1 := endStream s.drawn id.toNat x st
      ({ s1 with mgt := { s1.mgt with streams := kvDel s1.mgt.streams id.toNat } }, lcpOk, 0, leBytes 4 st.toNat)) s

/-! ### Tests, reset, unlocking -/

/-- LCP_FULL_TEST (02, R50): refused while a job is loaded. -/
def execLcpFullTest (via : Nat) (req : BitVec 32) (s : State) : Out :=
  lcp 0x10 via req true (fun s => (fullTest s, if jobLoaded s then lcpRefused else lcpOk, 0, [])) s

/-- RESET (R465): every outstanding item ends with ABORTED, the reply is sent, and the module resets. -/
def execReset (via : Nat) (req : BitVec 32) (b : BootIn) (s : State) : Out :=
  if !viaExists via then .fault .noSuchUnit
  else .next (
    if !viaOpen s via then s
    else if !lcpAllowed s via 0x11 then lcpReply s via 0x11 req lcpDenied 0 []
    else if lcpIsBusy s via 0x11 then lcpReply s via 0x11 req lcpBusy 0 []
    else
      let p := endAllItems s
      moduleReset b (if via = 6 then 4 else 3) p.2 (lcpReply p.1 via 0x11 req lcpOk 0 []))

/-- UNLOCK (19, R460, R461). -/
def execUnlock (via : Nat) (req : BitVec 32) (b : List Byte) (s : State) : Out :=
  lcp 0x12 via req (bodyOk b.length) (fun s =>
    let p := presentToken s b
    if p.2 then done p.1 else (p.1, lcpRefused, 0, [])) s

/-! ### Any module address (R480) -/

/-- The Management Complex's access of a unit goes over the Control Mesh, to a field controller at its field's first position (10, R264; DESIGN CHOICE, log
entry 54). -/
def mcAccess (s : State) (tg : Target) : State :=
  match tg with
  | .tile lt => pushAccess s (mcPt s) (ptOf s lt)
  | .fc f => pushAccess s (mcPt s) (24 * f)
  | .mc => s

/-- A read of the word at an offset under a selector, at M. -/
def maRead (s0 : State) (sel off : Nat) : State × Except Status Word :=
  match targetOf s0 sel with
  | none => (s0, .error stProtFault)
  | some tg =>
    let s := mcAccess s0 tg
    match tg with
    | .tile lt =>
      if off < tileMemTop then
        match memRead s lt off 4 with
        | (s1, .error e) => (s1, .error e.1)
        | (s1, .ok bs) => (s1, .ok (BitVec.ofNat 32 (leNat bs)))
      else if blockExists tg off then (let p := regReadFx s tg off; (p.1, .ok p.2)) else (s, .error stProtFault)
    | _ => if blockExists tg off then (let p := regReadFx s tg off; (p.1, .ok p.2)) else (s, .error stProtFault)

/-- A write of the word at an offset under a selector, at M. -/
def maWrite (s0 : State) (sel off : Nat) (v : WriteWord) : State × Status :=
  match targetOf s0 sel with
  | none => (s0, stProtFault)
  | some tg =>
    let s := mcAccess s0 tg
    match tg with
    | .tile lt =>
      if off < tileMemTop then
        if boltForbids s lt off 4 then (s, stProtFault)
        else
          match memWrite s lt off (leBytes 4 v.word.toNat) with
          | (s1, some e) => (s1, e.1)
          | (s1, none) => (s1, stOk)
      else if blockExists tg off then regWriteSet s tg .m off v.word v.sets else (s, stProtFault)
    | _ => if blockExists tg off then regWriteSet s tg .m off v.word v.sets else (s, stProtFault)

/-- Words read in turn, up to one that fails. -/
def maReads (s : State) (sel : Nat) : Nat → Nat → State × Except Status (List Byte)
  | _, 0 => (s, .ok [])
  | off, n + 1 =>
    match maRead s sel off with
    | (s1, .error e) => (s1, .error e)
    | (s1, .ok w) =>
      match maReads s1 sel (off + 4) n with
      | (s2, .error e) => (s2, .error e)
      | (s2, .ok r) => (s2, .ok (leBytes 4 w.toNat ++ r))

/-- Words written in turn, up to one that fails. -/
def maWrites (s : State) (sel : Nat) : Nat → List WriteWord → State × Status
  | _, [] => (s, stOk)
  | off, v :: r =>
    let p := maWrite s sel off v
    if p.2 = stOk then maWrites p.1 sel (off + 4) r else p

/-- REG_READ (R480): over USB in the MC debug scope. -/
def execRegRead (via : Nat) (req : BitVec 32) (sel : BitVec 12) (off : BitVec 28) (n : BitVec 32) (s : State) : Out :=
  lcp 0x13 via req (off.toNat % 4 == 0 && bodyOk (4 * n.toNat)) (fun s =>
    match maReads s sel.toNat off.toNat n.toNat with
    | (s1, .ok r) => (s1, lcpOk, 0, r)
    | (s1, .error e) => (s1, lcpRefused, e.toNat, [])) s

/-- REG_WRITE (R480). -/
def execRegWrite (via : Nat) (req : BitVec 32) (sel : BitVec 12) (off : BitVec 28) (ws : List WriteWord) (s : State) : Out :=
  lcp 0x14 via req (off.toNat % 4 == 0 && bodyOk (5 + 4 * ws.length)) (fun s =>
    let p := maWrites s sel.toNat off.toNat ws
    (p.1, if p.2 = stOk then lcpOk else lcpRefused, p.2.toNat, [])) s

/-! ### Messages without a row of their own -/

/-- A boot at which nothing is found and nothing fails. -/
def plainBoot : BootIn := ⟨true, true, true, [], [], []⟩

/-- A message of a type of Table 20.10 with no body (R477): a type whose body is empty or of any length is that message; one that needs fields is
MALFORMED where it is permitted and not excluded. -/
def emptyMessage (via : Nat) (req : BitVec 32) (typ : Nat) : State → Out :=
  match typ with
  | 0x01 => execGetStatus via req
  | 0x02 => execAttest via req []
  | 0x03 => execEnroll via req [] []
  | 0x04 => execSetPolicy via req []
  | 0x05 => execSetMembership via req []
  | 0x06 => execSetRoutes via req []
  | 0x08 => execEndJob via req
  | 0x0C => execLcpCommitSvn via req
  | 0x0D => execIskCreate via req
  | 0x10 => execLcpFullTest via req
  | 0x11 => execReset via req plainBoot
  | 0x12 => execUnlock via req []
  | _ => lcp typ via req false (fun s => done s)

/-- LCP_UNKNOWN_TYPE (R477): a message without a body. A type that Table 20.10 does not hold is MALFORMED; a locked USB port denies it (R480). -/
def execLcpUnknownType (via : Nat) (req : BitVec 32) (typ : BitVec 16) (s : State) : Out :=
  if !viaExists via then .fault .noSuchUnit
  else if 1 ≤ typ.toNat ∧ typ.toNat ≤ 0x14 then emptyMessage via req typ.toNat s
  else .next (
    if !viaOpen s via then s
    else
      let r := if via = 6 ∧ s.sec.scopes = 0 then lcpDenied else lcpMalformed
      { s with replies := s.replies ++ [⟨via, 0, lcpMsg (typ ||| 0x8000).toNat r req.toNat 0 []⟩] })

end Sys2Proof.Machine
end

