-- ==== Sys2Proof/Machine/LoadStore.lean ====
section
/-!
DEFINITION. Loads, stores, block reads and atomics (04, R94, R96, R97, R99).
-/
namespace Sys2Proof.Machine

open Sys2Proof

/-! ### Register blocks -/

/-- Whether the TCC may access `n` bytes of a register block now: at S or M, 4 or 8 bytes, outside a handler (R97; 11, R297). -/
def blockAccess (s : State) (lt n : Nat) : Bool := (s.tile lt).tcc.prv != .u && !inHandler s lt && decide (4 ≤ n)

/-- A load of 4 or 8 bytes from the issuing tile's registers, the lower word first (R97). -/
def regLoad (s : State) (lt off n : Nat) : State × List Byte :=
  let p := regReadFx s (.tile lt) off
  if n = 4 then (p.1, leBytes 4 p.2.toNat)
  else
    let q := regReadFx p.1 (.tile lt) (off + 4)
    (q.1, leBytes 4 p.2.toNat ++ leBytes 4 q.2.toNat)

/-- A store of 4 or 8 bytes to the issuing tile's registers, the lower word first, with the bits that hardware sets in that cycle (R97; 00,
R13). -/
def regStore (s : State) (lt off : Nat) (bs : List Byte) (sets : BitVec 64) : State × Status :=
  let lv := (s.tile lt).tcc.prv
  let p := regWriteSet s (.tile lt) lv off (BitVec.ofNat 32 (fieldAt bs 0 4)) (sets.setWidth 32)
  if bs.length ≤ 4 ∨ p.2 ≠ stOk then p else regWriteSet p.1 (.tile lt) lv (off + 4) (BitVec.ofNat 32 (fieldAt bs 4 4)) ((sets >>> 32).setWidth 32)

/-! ### Accesses of a core -/

/-- A load of `n` bytes by a core: the bytes, or the status and address that fault (R97). -/
def loadBytes (s : State) (lt : Nat) (c : CoreId) (addr n : Nat) : State × Except (Status × Nat) (List Byte) :=
  match c with
  | .lane _ => coreRead s lt c addr n
  | .tcc =>
    let t := (s.tile lt).tcc
    match localAddr s lt addr .read t.prv (t.xlat && !inHandler s lt) with
    | (s1, .error f) => (s1, .error (f.status, addr))
    | (s1, .ok off) =>
      if inBlocks off then
        (if blockAccess s1 lt n then (let p := regLoad s1 lt off n; (p.1, .ok p.2)) else (s1, .error (stProtFault, addr)))
      else if !permitted t.prv off n then (s1, .error (stProtFault, addr))
      else
        match memRead s1 lt off n with
        | (s2, .error e) => (s2, .error (e.1, addr + (e.2 - off)))
        | (s2, .ok bs) => (s2, .ok bs)

/-- A store of bytes by a core: the status and address that fault, if any (R97; 03, R74). -/
def storeBytes (s : State) (lt : Nat) (c : CoreId) (addr : Nat) (bs : List Byte) (sets : BitVec 64) :
    State × Option (Status × Nat) :=
  match c with
  | .lane _ => coreStore s lt c addr bs
  | .tcc =>
    let t := (s.tile lt).tcc
    match localAddr s lt addr .write t.prv (t.xlat && !inHandler s lt) with
    | (s1, .error f) => (s1, some (f.status, addr))
    | (s1, .ok off) =>
      if inBlocks off then
        if blockAccess s1 lt bs.length then
          let p := regStore s1 lt off bs sets
          if p.2 = stOk then (p.1, none) else (p.1, some (p.2, addr))
        else (s1, some (stProtFault, addr))
      else if !permitted t.prv off bs.length || boltForbids s1 lt off bs.length then (s1, some (stProtFault, addr))
      else
        match memWrite s1 lt off bs with
        | (s2, some e) => (s2, some (e.1, addr + (e.2 - off)))
        | (s2, none) => (s2, none)

/-! ### `ld` and `st` -/

/-- The bytes that a size code moves: b, h, w, d, bu, hu, wu (Table 4.5). -/
def szBytes (sz : Nat) : Nat := 2 ^ (sz % 4)

/-- Whether `ld` has a size code on a core: not q, and d and wu on the TCC only (Table 4.5). -/
def ldSize (c : CoreId) (sz : Nat) : Bool := decide (sz < 7) && (isTcc c || (sz != 3 && sz != 6))

/-- Whether `st` has a size code on a core (Table 4.5). -/
def stSize (c : CoreId) (sz : Nat) : Bool := decide (sz < 4) && (isTcc c || sz != 3)

/-- The value that a load writes: sign-extended for b, h, w; zero-extended for bu, hu, wu. -/
def ldValue (sz : Nat) (bs : List Byte) : DWord :=
  if sz = 0 then (BitVec.ofNat 8 (leNat bs)).signExtend 64
  else if sz = 1 then (BitVec.ofNat 16 (leNat bs)).signExtend 64
  else if sz = 2 then (BitVec.ofNat 32 (leNat bs)).signExtend 64
  else BitVec.ofNat 64 (leNat bs)

/-- The displacement of a load or a store: IMM11 × size. -/
def ldDisp (imm : BitVec 11) (sz : Nat) : DWord := imm.signExtend 64 * BitVec.ofNat 64 (szBytes sz)

/-- `ld` (R96, R97). -/
def execLd (lt : Nat) (c : CoreId) (rd rs1 : BitVec 5) (sz : BitVec 3) (imm : BitVec 11) (s : State) : Out :=
  let word := wordL 0x0E rd rs1 sz.toNat imm
  insn lt c 4 word anyCore (fun s =>
    if !ldSize c sz.toNat then illegalInsn s word
    else
      let a := addrOf s lt c rs1 (ldDisp imm sz.toNat)
      if a.toNat % szBytes sz.toNat ≠ 0 then alignFault s a
      else
        match loadBytes s lt c a.toNat (szBytes sz.toNat) with
        | (s1, .error e) => loadFault s1 e
        | (s1, .ok bs) => .done (gWrite s1 lt c rd (ldValue sz.toNat bs))) s

/-- `st` (R96, R97): the register that it stores stands in the place of rd. -/
def execSt (lt : Nat) (c : CoreId) (rd rs1 : BitVec 5) (sz : BitVec 3) (w : StoreWord) (s : State) : Out :=
  let word := wordL 0x0F rd rs1 sz.toNat w.imm
  insn lt c 4 word anyCore (fun s =>
    if !stSize c sz.toNat then illegalInsn s word
    else
      let a := addrOf s lt c rs1 (ldDisp w.imm sz.toNat)
      if a.toNat % szBytes sz.toNat ≠ 0 then alignFault s a
      else
        match storeBytes s lt c a.toNat (leBytes (szBytes sz.toNat) (gRead s lt c rd).toNat) w.sets with
        | (s1, some e) => storeFault s1 e
        | (s1, none) => .done s1) s

/-! ### `ld.tr` -/

/-- The block request at Table 4.7. -/
def trRequest (b : List Byte) : BlockReq :=
  { start := fieldAt b 0 4, esize := fieldAt b 0x0C 1, rows := fieldAt b 4 2, cols := fieldAt b 6 2, stride := fieldAt b 8 4
    transpose := nbit (fieldAt b 0x0D 1) 0 }

/-- `ld.tr` (R99): where the destination faults, none of the result is written. -/
def execLdTr (lt : Nat) (c : CoreId) (rd rs1 rs2 : BitVec 5) (s : State) : Out :=
  let word := wordR 0x10 rd rs1 rs2 0
  insn lt c 4 word ⟨true, true, .u, false⟩ (fun s =>
    match coreRead s lt c (addrOf s lt c rs1 0).toNat 32 with
    | (s1, .error e) => loadFault s1 e
    | (s1, .ok b) =>
      let q := trRequest b
      if !q.valid || decide (65536 < q.size) then illegalOperand s1 word
      else
        match blockRead s1 lt (levelAt s1 lt c) q with
        | (s2, .error e) => loadFault s2 e
        | (s2, .ok bs) =>
          match storePieces s2 lt c bs (piecesOf (addrOf s2 lt c rs2 0).toNat bs.length) with
          | (_, some e) => storeFault s2 e
          | (s3, none) => .done s3) s

/-! ### Atomics -/

/-- An atomic on `n` bytes of tile memory: `f` gives the new word from the old one, none where nothing is written; the old word, or the
status and address that fault (R96, R97; 03, R74). -/
def atomic (s : State) (lt : Nat) (c : CoreId) (addr n : Nat) (f : Nat → Option Nat) : State × Except (Status × Nat) Nat :=
  match coreOffset s lt c addr n .write with
  | (s1, .error st) => (s1, .error (st, addr))
  | (s1, .ok off) =>
    if boltForbids s1 lt off n then (s1, .error (stProtFault, addr))
    else
      match memReadBy (localPath s1 lt c off n) s1 lt off n with
      | (s2, .error e) => (s2, .error (e.1, addr))
      | (s2, .ok bs) =>
        match f (leNat bs) with
        | none => (s2, .ok (leNat bs))
        | some v =>
          match memWriteBy (localPath s2 lt c off n) s2 lt off (leBytes n v) with
          | (s3, some e) => (s3, .error (e.1, addr))
          | (s3, none) => (s3, .ok (leNat bs))

/-- An atomic instruction with function `fn` (Table 4.5): `f` takes the word size in bits, the old word, rs2 and rd. The 8 B forms are of
the TCC only; a 4 B form sign-extends the old word. -/
def amo (fn : Nat) (f : Nat → Nat → Nat → Nat → Option Nat) (lt : Nat) (c : CoreId) (rd rs1 rs2 : BitVec 5) (four : Bool) (s : State) : Out :=
  let word := wordR 0x11 rd rs1 rs2 (fn + 16 * b2n four)
  insn lt c 4 word anyCore (fun s =>
    if !four && !isTcc c then illegalInsn s word
    else
      let n := if four then 4 else 8
      let a := addrOf s lt c rs1 0
      if a.toNat % n ≠ 0 then alignFault s a
      else
        let v := (gRead s lt c rs2).toNat % 2 ^ (8 * n)
        let d := (gRead s lt c rd).toNat % 2 ^ (8 * n)
        match atomic s lt c a.toNat n (fun old => f (8 * n) old v d) with
        | (s1, .error e) => storeFault s1 e
        | (s1, .ok old) => .done (gWrite s1 lt c rd (if four then (BitVec.ofNat 32 old).signExtend 64 else BitVec.ofNat 64 old))) s

/-- `amo.swap` (R96). -/
def execAmoSwap (lt : Nat) (c : CoreId) (rd rs1 rs2 : BitVec 5) (four : Bool) (s : State) : Out := amo 0 (fun _ _ v _ => some v) lt c rd rs1 rs2 four s

/-- `amo.add` (R96). -/
def execAmoAdd (lt : Nat) (c : CoreId) (rd rs1 rs2 : BitVec 5) (four : Bool) (s : State) : Out :=
  amo 1 (fun k o v _ => some ((o + v) % 2 ^ k)) lt c rd rs1 rs2 four s

/-- `amo.and` (R96). -/
def execAmoAnd (lt : Nat) (c : CoreId) (rd rs1 rs2 : BitVec 5) (four : Bool) (s : State) : Out := amo 2 (fun _ o v _ => some (o &&& v)) lt c rd rs1 rs2 four s

/-- `amo.or` (R96). -/
def execAmoOr (lt : Nat) (c : CoreId) (rd rs1 rs2 : BitVec 5) (four : Bool) (s : State) : Out := amo 3 (fun _ o v _ => some (o ||| v)) lt c rd rs1 rs2 four s

/-- `amo.xor` (R96). -/
def execAmoXor (lt : Nat) (c : CoreId) (rd rs1 rs2 : BitVec 5) (four : Bool) (s : State) : Out := amo 4 (fun _ o v _ => some (o ^^^ v)) lt c rd rs1 rs2 four s

/-- `amo.min` (R96). -/
def execAmoMin (lt : Nat) (c : CoreId) (rd rs1 rs2 : BitVec 5) (four : Bool) (s : State) : Out :=
  amo 5 (fun k o v _ => some (if sgn k o ≤ sgn k v then o else v)) lt c rd rs1 rs2 four s

/-- `amo.max` (R96). -/
def execAmoMax (lt : Nat) (c : CoreId) (rd rs1 rs2 : BitVec 5) (four : Bool) (s : State) : Out :=
  amo 6 (fun k o v _ => some (if sgn k v ≤ sgn k o then o else v)) lt c rd rs1 rs2 four s

/-- `amo.minu` (R96). -/
def execAmoMinu (lt : Nat) (c : CoreId) (rd rs1 rs2 : BitVec 5) (four : Bool) (s : State) : Out := amo 7 (fun _ o v _ => some (min o v)) lt c rd rs1 rs2 four s

/-- `amo.maxu` (R96). -/
def execAmoMaxu (lt : Nat) (c : CoreId) (rd rs1 rs2 : BitVec 5) (four : Bool) (s : State) : Out := amo 8 (fun _ o v _ => some (max o v)) lt c rd rs1 rs2 four s

/-- `amo.cas` (R96): rs2 is written where the word equals rd. -/
def execAmoCas (lt : Nat) (c : CoreId) (rd rs1 rs2 : BitVec 5) (four : Bool) (s : State) : Out :=
  amo 9 (fun _ o v d => if o = d then some v else none) lt c rd rs1 rs2 four s

end Sys2Proof.Machine
end

