-- ==== Sys2Proof/Machine/MgtBus.lean ====
section
/-!
DEFINITION. The management bus: commands of Table 20.4, alert response, I3C (20, R468), and the USB attachment (20, R479).
-/
namespace Sys2Proof.Machine

open Sys2Proof

/-- An answer on the management bus. -/
def busReply (s : State) (data : List Byte) : State := { s with replies := s.replies ++ [⟨5, 0, data⟩] }

/-- The data of a command in the module's mode: an I3C private read's bytes, or an SMBus block read's count, bytes and packet error code
over the whole transaction with the static address 0x5A (R468). -/
def busData (s : State) (code : Nat) (data : List Byte) : List Byte :=
  if s.mgt.i3c.isSome then data
  else
    let body := leBytes 1 data.length ++ data
    body ++ leBytes 1 (crc8 (leBytes 1 0xB4 ++ leBytes 1 code ++ leBytes 1 0xB5 ++ body))

/-- A command of Table 20.4: until 50 V is present only SERIAL and MAC_BASE return data. -/
def busCommand (code : Nat) (data : State → List Byte) (s : State) : State :=
  busReply s (if code == 2 || code == 3 || s.mgt.powered then busData s code (data s) else [])

/-- MGT_STATUS (R468): command 0x01. -/
def execMgtStatus (s : State) : Out := .next (busCommand 1 (fun s => leBytes 4 (s.mreg regMgtBootStatus).toNat) s)

/-- MGT_SERIAL (R468): command 0x02. -/
def execMgtSerial (s : State) : Out := .next (busCommand 2 (fun _ => slice Config.serial 0 12) s)

/-- MGT_MAC_BASE (R468): command 0x03. -/
def execMgtMacBase (s : State) : Out := .next (busCommand 3 (fun _ => slice Config.macBase 0 6) s)

/-- The hottest TMAX of all regions, in °C (Table 20.4). -/
def hottestRegion (s : State) : Int := hottest ((List.range 30).map (fun r => sgn 8 (rfld s r regPwrRegState 31 24)))

/-- MGT_TMAX (R468): command 0x04. -/
def execMgtTmax (s : State) : Out := .next (busCommand 4 (fun s => leBytes 1 (hottestRegion s % 256).toNat) s)

/-- MGT_PIN (R468): command 0x05. -/
def execMgtPin (s : State) : Out := .next (busCommand 5 (fun s => leBytes 2 (s.mfld regPwrModIn 15 0)) s)

/-- MGT_ALERT_CAUSE (R468): command 0x06; the read clears the causes, and ALERT_N rises. -/
def execMgtAlertCause (s : State) : Out :=
  let s1 := busCommand 6 (fun s => leBytes 2 s.mgt.alerts) s
  .next (if s.mgt.powered then { s1 with mgt := { s1.mgt with alerts := 0 } } else s1)

/-- SMBUS_ALERT_RESPONSE (R468): while ALERT_N is low and the module is in SMBus mode, with the packet error code. -/
def execSmbusAlertResponse (s : State) : Out :=
  .next (if s.mgt.alerts ≠ 0 ∧ s.mgt.i3c = none then busReply s [0x5A, BitVec.ofNat 8 (crc8 [0x19, 0x5A])] else s)

/-! ### I3C -/

/-- A common command code that the module answers once it holds a dynamic address. -/
def i3cAnswer (s : State) (data : List Byte) : State := if s.mgt.i3c.isSome then busReply s data else s

/-- The state with the management part changed. -/
def modMgt (s : State) (f : Mgt → Mgt) : State := { s with mgt := f s.mgt }

/-- I3C_ENTDAA (R468): a module without a dynamic address answers with its identity and takes the address. -/
def execI3cEntdaa (addr : BitVec 7) (s : State) : Out :=
  .next (if s.mgt.i3c.isSome then s
    else modMgt (busReply s (slice Config.i3cPid 0 6 ++ [Config.i3cBcr, Config.i3cDcr])) (fun m => { m with i3c := some addr }))

/-- I3C_SETDASA (R468): the static address 0x5A takes a dynamic address. -/
def execI3cSetdasa (static dyn : BitVec 7) (s : State) : Out :=
  .next (if static = 0x5A ∧ s.mgt.i3c = none then modMgt s (fun m => { m with i3c := some dyn }) else s)

/-- I3C_RSTDAA (R468). -/
def execI3cRstdaa (s : State) : Out := .next (modMgt s (fun m => { m with i3c := none }))

/-- I3C_GETPID (R468). -/
def execI3cGetpid (s : State) : Out := .next (i3cAnswer s (slice Config.i3cPid 0 6))

/-- I3C_GETBCR (R468). -/
def execI3cGetbcr (s : State) : Out := .next (i3cAnswer s [Config.i3cBcr])

/-- I3C_GETDCR (R468). -/
def execI3cGetdcr (s : State) : Out := .next (i3cAnswer s [Config.i3cDcr])

/-- I3C_GETSTATUS (R468): its two bytes are free. -/
def execI3cGetstatus (s : State) : Out := .next (i3cAnswer s.drawn (slice (Config.i3cStatus s.fresh) 0 2))

/-- I3C_ENEC (R468): bit 0 of the event byte names in-band interrupts. -/
def execI3cEnec (ev : BitVec 8) (s : State) : Out := .next (modMgt s (fun m => { m with ibi := m.ibi || bit ev 0 }))

/-- I3C_DISEC (R468). -/
def execI3cDisec (ev : BitVec 8) (s : State) : Out := .next (modMgt s (fun m => { m with ibi := m.ibi && !bit ev 0 }))

/-- I3C_SETMWL (R468). -/
def execI3cSetmwl (n : BitVec 16) (s : State) : Out := .next (modMgt s (fun m => { m with mwl := n.toNat }))

/-- I3C_GETMWL (R468): the higher byte first. -/
def execI3cGetmwl (s : State) : Out := .next (i3cAnswer s (leBytes 2 s.mgt.mwl).reverse)

/-- I3C_SETMRL (R468). -/
def execI3cSetmrl (n : BitVec 16) (s : State) : Out := .next (modMgt s (fun m => { m with mrl := n.toNat }))

/-- I3C_GETMRL (R468): the higher byte first. -/
def execI3cGetmrl (s : State) : Out := .next (i3cAnswer s (leBytes 2 s.mgt.mrl).reverse)

/-! ### USB -/

/-- USB_ATTACH (R479): the device attaches while its clock is accurate, except in failed state by election; or it is unplugged. -/
def execUsbAttach (on : Bool) (s : State) : Out :=
  .next (if !on then noteHolding (modMgt s (fun m => { m with usb := false }))
    else if s.mgt.powered && usbClockGood s && !(mcFailed s false && mcFailed s true) then noteHolding (modMgt s (fun m => { m with usb := true }))
    else s)

end Sys2Proof.Machine
end

