-- ==== Sys2Proof/Machine/NetStep.lean ====
section
/-!
DEFINITION. The on-wafer networks at work: outputs of routers and their arbitration, hops, arrivals, packets that meet a dead router or a failed
link (10, R257 to R268; 15, R383, R386, R388, R390).
-/
namespace Sys2Proof.Machine

open Sys2Proof

/-! ### Routing -/

/-- The position one step toward a destination, along the first dimension of a lane, then the second (R259). -/
def dimNext (lane : Lane) (pos dst : Nat) : Option Nat :=
  let a := ptXY pos
  let b := ptXY dst
  let x := if a.1 < b.1 then 1 else 3
  let y := if a.2 < b.2 then 2 else 0
  neighbourPt pos (if a.1 = b.1 then y else if a.2 = b.2 then x else if lane == .yx then y else x)

/-- The node to which a flight goes next; none where it is at its end, or where the Selvage tree has no way there (R259 to R261, R265, R266). -/
def nextNode (s : State) (f : Flight) : Option Nat :=
  if f.pos = f.dst then none
  else if f.chan = .sync then some (nodeNext f.pos f.dst)
  else if f.chan = .neighbour then some f.dst
  else if f.lane = .tree then treeNext s.mesh.active f.chan.net f.pos f.dst
  else dimNext f.lane f.pos f.dst

/-- The direction of a hop between positions. -/
def hopDir (a b : Nat) : Nat := dirOf (ptXY a) (ptXY b)

/-- Whether a packet cannot use the router at its next node: it lies in a region that is off, the Selvage tree of the epoch does not reach it, or it
is bypassed now where the packet would end or turn (R42, R268). -/
def deadRouter (s : State) (f : Flight) (q : Nat) : Bool :=
  let net := f.chan.net
  routersOff s (regionOfField (q / 24)) || s.mesh.active.lost.contains (16 * q + net) ||
    (routerBypassed s q net && (q == f.dst || (nextNode s { f with pos := q }).any (fun t => hopDir q t != hopDir f.pos q)))

/-- Whether the link of a flight's next hop is out: in a mesh or a Neighbour link by its direction, in the tree by the node below. -/
def deadLink (s : State) (f : Flight) (q : Nat) : Bool :=
  if f.chan = .sync then
    if nodeUp f.pos = q then linkDown s f.pos 3 0 else linkDown s q 3 1
  else linkDown s f.pos f.chan.net (hopDir f.pos q)

/-- Whether a flight stands at a router that carries no traffic, its region or that region's clock being off (17, R420). -/
def atOffRouter (s : State) (f : Flight) : Bool := (f.chan.net == 0 || f.chan.net == 2) && routersOff s (regionOfField (f.pos / 24))

/-- Whether a flight's next hop is dead, or the router where it stands, so that it is discarded at once (R268). -/
def isDead (s : State) (f : Flight) : Bool :=
  if f.waiting || tokenStays s f then false
  else if atOffRouter s f then true
  else if f.left == 0 || f.pos == f.dst then false
  else match nextNode s f with
    | none => true
    | some q => deadLink s f q || (f.chan != .sync && f.chan != .neighbour && deadRouter s f q)

/-! ### Packets that are discarded -/

/-- The tile that is told of a lost packet, and what it was part of there. -/
def lossOf (m : NetMsg) : Option (Nat × Loss) :=
  match m with
  | .credit _ typ c => some (gaSel c.peer.toNat, if typ = 1 then .request c.reqTag else .other)
  | .write _ w => some (gaSel w.sender.toNat, .request w.reqTag)
  | .red p => some (p.lo, .chunk p.rid p.chunk)
  | .token _ t => some (gaSel t.srcTile.toNat, .other)
  | .batch _ _ (t :: _) => some (gaSel t.srcTile.toNat, .other)
  | .sync true lt _ _ _ _ _ _ => some (lt, .other)
  | _ => none

/-- The tile that is told of a flight's loss: the one that its message names, or, of the credits of a route and of an access, the one at its source.
Fabric packets and what comes from beside the Management Complex have no tile to be told (R268). -/
def lossAt (s : State) (f : Flight) : Option (Nat × Loss) :=
  match f.msg with
  | .skCredit _ _ => (ltOfPt s f.src).map (fun lt => (lt, .other))
  | .access _ _ _ => (ltOfPt s f.src).map (fun lt => (lt, .other))
  | m => lossOf m

/-- Whether a message is the lost one of a notice. -/
def isLost (lt : Nat) (what : Loss) (m : NetMsg) : Bool :=
  what != .other && match m with
    | .red p => what == .chunk p.rid p.chunk
    | _ => lossOf m == some (lt, what)

/-- The item that a lost packet was part of ends with REGION_OFF (R268). -/
def endLost (s : State) (lt : Nat) (what : Loss) : State :=
  match what with
  | .request tag => endReq s lt tag stRegionOff
  | .chunk rid chunk =>
    match (s.tile lt).dma.find? (fun i => i.running && i.reduce && i.rid == rid) with
    | some i => stopDma s lt i stRegionOff (64 * chunk) 0
    | none => s
  | .other => s

/-- A packet that the router of a physical tile discards is counted there (R268). -/
def countDiscard (s : State) (pt : Nat) : State :=
  match ltOfPt s pt with
  | some k => s.setTfld k regMeshLost 15 0 (satInc 16 (s.tfld k regMeshLost 15 0))
  | none => s

/-- MESH_LOSS_NOTICE (R268): the router of physical tile `pt` discarded a packet of tile `lt`, which is gone; the discard is counted there and the
notice here, and the item that it was part of completes with REGION_OFF. -/
def execMeshLossNotice (lt pt : Nat) (what : Loss) (s : State) : Out :=
  onTile lt s (fun s0 =>
    let s := { s0 with net := s0.net.eraseP (fun f => isLost lt what f.msg) }
    let s1 := countDiscard s pt
    endLost (s1.setTfld lt regMeshLost 31 16 (satInc 16 (s1.tfld lt regMeshLost 31 16))) lt what)

/-- The tiles that contribute to a reduction as participants stand in their DMA items, so the source of a lost chunk is the tile whose item sends it. -/
def chunkSource (s : State) (p : RedPkt) : Nat :=
  ((allTiles s).find? (fun lt => (s.tile lt).dma.any (fun i => i.running && i.reduce && i.rid == p.rid && i.a0 == p.lo))).getD (redDest s p.rid)

/-- The state that an outcome answers. -/
def nextOf (o : Out) (s : State) : State := match o with | .next t => t | _ => s

/-- A packet of `s` is discarded and counted; its source is told, where it is a tile, and a batch of tokens ends with REGION_OFF (R268; 09,
R253). -/
def discard (s : State) (f : Flight) : State :=
  let gone := unreserve { s with net := s.net.erase f } f
  match f.msg with
  | .red p => nextOf (execMeshLossNotice (chunkSource s p) f.pos (.chunk p.rid p.chunk) gone) gone
  | m =>
    let t := match lossAt s f with
      | some (lt, what) => nextOf (execMeshLossNotice lt f.pos what gone) gone
      | none => countDiscard gone f.pos
    match m with
    | .batch _ _ (k :: _) => push (fabGive t (gaSel k.srcTile.toNat)) (.batchEnd k stRegionOff)
    | _ => t

/-- Every packet whose next hop is dead is discarded (R268). -/
def discardDead (s : State) : State := (s.net.filter (isDead s)).foldl discard s

/-! ### Outputs -/

/-- The output at which a flight waits: its network, its node and its next node, or 4,095 for the one toward its end. -/
def outKey (s : State) (f : Flight) : Nat := f.chan.net * 2 ^ 24 + f.pos * 2 ^ 12 + (nextNode s f).getD 4095

/-- Whether a flight waits at an output. -/
def atOutput (s : State) (f : Flight) : Bool := !f.waiting && f.left != 0 && !isDead s f && !tokenStays s f

/-- The input of a flight: where it came in, and its lane, whose buffers are separate (R259). -/
def inputOf (f : Flight) : Nat := 4 * f.came + (match f.lane with | .xy => 0 | .yx => 1 | .tree => 2)

/-- Whether a flight is at the head of its input's buffer on its channel. S serves packets, whatever their input, by age (R263). -/
def isHead (s : State) (f : Flight) : Bool :=
  f.chan == .selvage ||
    !(s.net.takeWhile (fun g => g != f)).any (fun g => atOutput s g && g.pos == f.pos && g.chan == f.chan && inputOf g == inputOf f)

/-- The oldest of some flights by injection time; ties, which injection numbers do not have, go to the first. -/
def oldest : List Flight → Option Flight
  | [] => none
  | f :: r => some (r.foldl (fun a g => if g.age < a.age then g else a) f)

/-- Whether a packet of a flight is being sent: a transfer of more than 4,096 B, which is 16 flits, is cut into packets (Table 10.1). -/
def midPacket (f : Flight) : Bool := decide (f.left < f.size) && (f.size - f.left) % 16 != 0

/-- Within a channel inputs are served in age-ordered rounds: each input with a waiting packet when the round begins once, the oldest head first; a
packet that is being sent goes on, and between two packets of one transfer other inputs have their turn (R263, R265; 15, R386). Answers the flight and
what is left of the round. -/
def pickInput (round : List Nat) (fs : List Flight) : Option (Flight × List Nat) :=
  match fs.find? midPacket with
  | some f => some (f, round)
  | none =>
    let mine := fs.filter (fun f => round.contains (inputOf f))
    if mine.isEmpty then (oldest fs).map (fun f => (f, (fs.map inputOf).filter (· != inputOf f)))
    else (oldest mine).map (fun f => (f, round.filter (· != inputOf f)))

/-- The channels of an output in the order in which they are asked: S of the Bulk Mesh and HP of the Control Mesh before all others; the others in
turn after the one served last (R263, R264). -/
def chanOrder (net turn : Nat) : List Chan :=
  if net = 0 then .selvage :: ([Chan.write, .reduce, .transit].drop (turn + 1) ++ [Chan.write, .reduce, .transit].take (turn + 1))
  else if net = 2 then .hp :: (if turn = 0 then [.rsp, .req] else [.req, .rsp])
  else [.neighbour, .sync, .inside]

/-- The channel that an output serves next, with the flight and the rest of the channel's round. -/
def pickChan (o : OutPort) (heads : List Flight) : List Chan → Option (Flight × List Nat × Chan)
  | [] => none
  | c :: r =>
    let fs := heads.filter (fun f => f.chan == c)
    if fs.isEmpty then pickChan o heads r
    else if c = .selvage then ((fs.find? midPacket).or (oldest fs)).map (fun f => (f, [], c))
    else if c = .sync then fs.head?.map (fun f => (f, [], c))
    else (pickInput (kvGet [] o.round (2 ^ 4 * c.net + c.turn)) fs).map (fun p => (p.1, p.2, c))

/-- The output of a router. -/
def outPort (s : State) (key : Nat) : OutPort := kvGet ⟨0, []⟩ s.mesh.outs key

/-- What an output sends next: a flit of a flight, with the output as it is then. -/
def choose (s : State) (key : Nat) : Option (Flight × Nat × OutPort) :=
  let o := outPort s key
  let heads := s.net.filter (fun f => atOutput s f && outKey s f == key && isHead s f)
  (pickChan o heads (chanOrder (key / 2 ^ 24) o.turn)).map (fun p =>
    (p.1, key, { turn := if p.2.2.turn < 3 then p.2.2.turn else o.turn, round := kvSet o.round (2 ^ 4 * p.2.2.net + p.2.2.turn) p.2.1 }))

/-! ### Hops -/

/-- Whether a flight stops at a router on its way: a reduction packet does, where it may combine (R272); a bypassed router passes it on (R42). -/
def stopsAt (s : State) (f : Flight) (q : Nat) : Bool :=
  match f.msg with
  | .red _ => q != f.dst && !routerBypassed s q 0
  | _ => false

/-- A flight after its last flit has crossed an output: at its end, or at the next node; the far end of a Neighbour link is its end (R265). -/
def hop (s : State) (f : Flight) : Flight :=
  match nextNode s f with
  | none => { f with left := 0 }
  | some q =>
    { f with
      pos := q, left := if stopsAt s f q || f.chan == .neighbour then 0 else f.size
      came := if f.chan = .sync then f.pos else if f.chan = .neighbour then f.came else (hopDir f.pos q + 2) % 4 }

/-- A flit passes the router of a tile, or leaves on its Neighbour link: activity counters 6, 7 and 8 (16, R392). -/
def countFlit (s : State) (f : Flight) : State :=
  match f.chan.net with
  | 0 => bumpAt s f.pos 6 1
  | 1 => bumpAt s f.pos 8 1
  | 2 => bumpAt s f.pos 7 1
  | _ => s

/-- An output has sent a flit: after the last one the flight moves, behind those that its next node holds. -/
def sendHop (s00 : State) (x : Flight × Nat × OutPort) (s0 : State) : State :=
  let f := x.1
  let s := countFlit s0 f
  let s1 := { s with mesh := { s.mesh with outs := kvSet s.mesh.outs x.2.1 x.2.2 } }
  if 1 < f.left then { s1 with net := s1.net.map (fun g => if g == f then { f with left := f.left - 1 } else g) }
  else { s1 with net := s1.net.erase f ++ [hop s00 f] }

/-- A flit cycle: every output sends one flit of what waited at it when the cycle began. -/
def netCycle (s : State) : State :=
  let keys := ((s.net.filter (atOutput s)).map (outKey s)).eraseDups
  (keys.filterMap (choose s)).foldl (fun st x => sendHop s x st) s

/-! ### The nodes of the Sync Network -/

/-- The ARRIVE message that a node makes of two, where they concern the same object and carry the same TAG state and tag, and their COUNTs fit
(R337). -/
def joinArrive (a b : NetMsg) : Option NetMsg :=
  match a, b with
  | .sync true lt 1 o tagged d m v, .sync true _ 1 o' tagged' _ n v' =>
    if o = o' ∧ tagged = tagged' ∧ v = v' ∧ m.toNat + n.toNat < 2048 then some (.sync true lt 1 o tagged d (m + n) v) else none
  | _, _ => none

/-- Two flights that meet at a field controller or region node on their way, as the one that goes on (R337). -/
def joinAt (f g : Flight) : Option Flight :=
  if 1440 ≤ f.pos ∧ f.pos = g.pos ∧ f.pos ≠ f.dst ∧ f.waiting = false ∧ g.waiting = false then
    (joinArrive f.msg g.msg).map (fun m => { f with msg := m })
  else none

/-- A flight joins the first of some that it can be combined with, or stands behind them. -/
def combineInto (f : Flight) : List Flight → List Flight
  | [] => [f]
  | g :: r =>
    match joinAt g f with
    | some h => h :: r
    | none => g :: combineInto f r

/-- Field controllers and region nodes combine the ARRIVE messages that they hold in a cycle (R337). -/
def combineArrives (s : State) : State := { s with net := s.net.foldl (fun net f => combineInto f net) [] }

/-- An arrival at a region's node on its way up has the region's power controller told, where it is the round's first (R341). -/
def passNode (s : State) (f : Flight) : State :=
  match f.msg with
  | .sync true lt 1 o tagged _ n v => if 1500 ≤ f.pos ∧ f.pos < rootNode ∧ f.pos ≠ f.dst then powerWait s o [(tagged, v, lt, n)] else s
  | _ => s

/-! ### Arrivals -/

/-- The flights that have arrived and may be taken, in order of injection. -/
def arrived (s : State) : List Flight := s.net.filter (fun f => f.left == 0 && arrivesNext s f)

/-- The arrivals on an object that have reached its home in this cycle (13, R334). -/
def arrivalsAt (s : State) (o : Nat) : List Arrival :=
  (arrived s).filterMap (fun f => match f.msg with
    | .sync true lt 1 o' tagged _ n v => if o' = o then some (tagged, v, lt, n) else none
    | _ => none)

/-- The adds and sets of an object that have reached its home in this cycle, each with its source tile (13, R335). -/
def addsAt (s : State) (o : Nat) : List (Nat × BitVec 32) :=
  (arrived s).filterMap (fun f => match f.msg with
    | .sync true lt 2 o' _ _ _ v => if o' = o then some (lt, v) else none
    | _ => none)
def setsAt (s : State) (o : Nat) : List (Nat × Bool) :=
  (arrived s).filterMap (fun f => match f.msg with
    | .sync true lt 3 o' _ _ _ v => if o' = o then some (lt, v != 0) else none
    | _ => none)

/-- What the arrival of a message does: for most the command that it is. What arrives at one object in one cycle is taken together. -/
def arriveFlight (s : State) (f : Flight) : Out :=
  let gone := { s with net := s.net.erase f }
  match f.msg with
  | .credit dst typ m =>
    let lt := gaSel dst
    if typ = 1 then execCreditRequest lt m s
    else if typ = 2 then execCreditGrant lt m s
    else if typ = 3 then execCreditNack lt m s
    else if typ = 4 then execCreditRefuse lt m s
    else if typ = 5 then execCreditReturn lt m s
    else execCreditAck lt m s
  | .write dst w => execCreditedWriteArrive (gaSel dst) w s
  | .sync true lt typ o _ _ _ _ =>
    let w := BitVec.ofNat 14 o
    if typ = 1 then execSyncArrival w (arrivalsAt s o) s
    else if typ = 2 ∨ typ = 3 then execSyncHomeUpdate w (addsAt s o) (setsAt s o) s
    else execSyncFetch lt w s
  | .sync false lt typ o _ directed _ v =>
    if typ = 6 then .next (tileBroken o gone lt)
    else if typ = 8 then execSyncRefuseArrive lt (BitVec.ofNat 14 o) s else execSyncUpdateArrive lt (BitVec.ofNat 14 o) directed v s
  | .power r release => if release then execPwrBarrierRelease r s else execPwrBarrierWait r s
  | .red p => execRedPacketArrive f.pos p s
  | .token dst t => execSkTokenArrive (gaSel dst) t s
  | .skCredit t n => execSkCreditReturn (gaSel t.srcTile.toNat) t.srcSlot t.srcLane t.srcRoute t.srcGen n s
  | .lost o => execSyncBroken (BitVec.ofNat 14 o) s
  | .fabAck src (.ack base bitmap ece st) key => execFabAckReceive (BitVec.ofNat 16 src) (BitVec.ofNat 4 key) base bitmap ece st s
  | .sess src msg gen xchg body =>
    let a := BitVec.ofNat 16 src
    let g := BitVec.ofNat 4 gen
    let x := BitVec.ofNat 32 xchg
    if msg = 1 then execKexInitReceive a g x body s
    else if msg = 2 then execKexReplyReceive a g x body s
    else if msg = 3 then execAuthReceive a g x body s
    else if msg = 4 then execSessionAbortReceive a g x body s
    else execIskShareReceive a g x body s
  | .cross q v e => .next (joinQueue gone q v e)
  | .batch dst _ ts => .next (batchArrive gone (gaSel dst) ts)
  | .batchEnd t st => .next (tokenBatchEnds gone t st)
  | .chunkEnd lt p st => .next (endChunk gone lt p st)
  | .segment x =>
    .next (match x.body with
      | .write w => onSegment gone (gaSel x.ga.toNat) x w
      | _ => gone)
  | .groupIn src typ o v => .next (onGroup gone src typ o v)
  | .access rsp a b => .next (if rsp then gone else push gone (.access true b a))
  | _ => .next gone

/-- A message that has arrived is taken, whatever other flights carry an equal one: every endpoint accepts what arrives (15, R384), but for tokens
of a halted region (09, R255). -/
def takeFlight (s : State) (f : Flight) : State :=
  if tokenStays s f || !s.net.contains f then s
  else
    let s1 := { s with net := f :: s.net.erase f }
    let t := nextOf (arriveFlight s1 f) s1
    { t with net := t.net.erase f }

/-- What has arrived is taken, in order. -/
def takeAll (s : State) : State := (arrived s).foldl takeFlight s

/-- The root sees every router empty, and SWAP is broadcast (R267). -/
def swapDrained (s : State) : State := if s.mesh.shadow.isSome && netDrained s then swapEpoch s else s

/-- The networks and the fabric ports work for a flit cycle: packets with a dead next hop are discarded, every output sends a flit, the nodes of the
Sync Network combine arrivals and pass them, what has arrived is taken, packets that wait for room at an egress port set out, and every port puts a flit on its wire. How many flit cycles pass in a
microsecond is timing, of which the spec gives averages only (R276; log entry 54). -/
def netStep (s : State) : State :=
  let s0 := combineArrives (netCycle (discardDead s))
  let s1 := swapDrained (drainSend (refillAll (takeAll (s0.net.foldl passNode s0))))
  (s1.fab.ports.map Prod.fst).foldl transmit s1

end Sys2Proof.Machine
end

