-- ==== Sys2Proof/Machine/Words.lean ====
section
/-!
DEFINITION. The instruction that a word is, and reserved words (04, R90 to R94, Tables 4.1 to 4.5).
-/
namespace Sys2Proof.Machine

open Sys2Proof

/-- A field of a word. -/
def bitsOf (w : Word) (n lo : Nat) : BitVec n := w.extractLsb' lo n

/-- OP 0x01, by FN[7:0]; FN[8] is the `.w` form (Table 4.5). -/
def aluWord (lt : Nat) (c : CoreId) (rd rs1 rs2 : BitVec 5) (w : Bool) (fn : Nat) : Option (State → Out) :=
  match fn with
  | 0x00 => some (execAdd lt c rd rs1 rs2 w)
  | 0x01 => some (execSub lt c rd rs1 rs2 w)
  | 0x02 => some (execAnd lt c rd rs1 rs2 w)
  | 0x03 => some (execOr lt c rd rs1 rs2 w)
  | 0x04 => some (execXor lt c rd rs1 rs2 w)
  | 0x05 => some (execSll lt c rd rs1 rs2 w)
  | 0x06 => some (execSrl lt c rd rs1 rs2 w)
  | 0x07 => some (execSra lt c rd rs1 rs2 w)
  | 0x08 => some (execSlt lt c rd rs1 rs2 w)
  | 0x09 => some (execSltu lt c rd rs1 rs2 w)
  | 0x0A => some (execMin lt c rd rs1 rs2 w)
  | 0x0B => some (execMax lt c rd rs1 rs2 w)
  | 0x0C => some (execMinu lt c rd rs1 rs2 w)
  | 0x0D => some (execMaxu lt c rd rs1 rs2 w)
  | 0x10 => some (execMul lt c rd rs1 rs2 w)
  | 0x11 => some (execMulh lt c rd rs1 rs2 w)
  | 0x12 => some (execMulhu lt c rd rs1 rs2 w)
  | 0x14 => some (execDiv lt c rd rs1 rs2 w)
  | 0x15 => some (execDivu lt c rd rs1 rs2 w)
  | 0x16 => some (execRem lt c rd rs1 rs2 w)
  | 0x17 => some (execRemu lt c rd rs1 rs2 w)
  | 0x18 => some (execClz lt c rd rs1 rs2 w)
  | 0x19 => some (execCtz lt c rd rs1 rs2 w)
  | 0x1A => some (execPopc lt c rd rs1 rs2 w)
  | _ => none

/-- OP 0x0D, by COND. -/
def branchWord (lt : Nat) (c : CoreId) (rs1 rs2 : BitVec 5) (imm : BitVec 11) (fn : Nat) : Option (State → Out) :=
  match fn with
  | 0x00 => some (execBrEq lt c rs1 rs2 imm)
  | 0x01 => some (execBrNe lt c rs1 rs2 imm)
  | 0x02 => some (execBrLt lt c rs1 rs2 imm)
  | 0x03 => some (execBrGe lt c rs1 rs2 imm)
  | 0x04 => some (execBrLtu lt c rs1 rs2 imm)
  | 0x05 => some (execBrGeu lt c rs1 rs2 imm)
  | _ => none

/-- OP 0x11, by FN[3:0]; FN[4] is the 4 B form. -/
def amoWord (lt : Nat) (c : CoreId) (rd rs1 rs2 : BitVec 5) (four : Bool) (fn : Nat) : Option (State → Out) :=
  match fn with
  | 0x00 => some (execAmoSwap lt c rd rs1 rs2 four)
  | 0x01 => some (execAmoAdd lt c rd rs1 rs2 four)
  | 0x02 => some (execAmoAnd lt c rd rs1 rs2 four)
  | 0x03 => some (execAmoOr lt c rd rs1 rs2 four)
  | 0x04 => some (execAmoXor lt c rd rs1 rs2 four)
  | 0x05 => some (execAmoMin lt c rd rs1 rs2 four)
  | 0x06 => some (execAmoMax lt c rd rs1 rs2 four)
  | 0x07 => some (execAmoMinu lt c rd rs1 rs2 four)
  | 0x08 => some (execAmoMaxu lt c rd rs1 rs2 four)
  | 0x09 => some (execAmoCas lt c rd rs1 rs2 four)
  | _ => none

/-- OP 0x12, by FN. -/
def boltWord (lt : Nat) (c : CoreId) (rd rs1 rs2 : BitVec 5) (idx : BitVec 6) (fn : Nat) : Option (State → Out) :=
  match fn with
  | 0x00 => some (execBoltPush lt c rd rs1 rs2 idx)
  | 0x01 => some (execBoltPeek lt c rd rs1 rs2 idx)
  | 0x02 => some (execBoltPop lt c rd rs1 rs2 idx)
  | 0x03 => some (execBoltRel lt c rd rs1 rs2 idx)
  | _ => none

/-- OP 0x13, by FN. -/
def chWord (lt : Nat) (c : CoreId) (rd rs1 rs2 : BitVec 5) (idx : BitVec 6) (fn : Nat) : Option (State → Out) :=
  match fn with
  | 0x00 => some (execChSend lt c rd rs1 rs2 idx)
  | 0x01 => some (execChAm lt c rd rs1 rs2 idx)
  | 0x02 => some (execChClose lt c rd rs1 rs2 idx)
  | 0x03 => some (execChState lt c rd rs1 rs2 idx)
  | _ => none

/-- OP 0x14, by FN. -/
def syncWord (lt : Nat) (c : CoreId) (rd rs1 rs2 : BitVec 5) (fn : Nat) : Option (State → Out) :=
  match fn with
  | 0x00 => some (execSemP lt c rd rs1 rs2)
  | 0x01 => some (execSemV lt c rd rs1 rs2)
  | 0x02 => some (execSyncArrive lt c rd rs1 rs2)
  | 0x03 => some (execSyncWait lt c rd rs1 rs2)
  | 0x04 => some (execSyncAdd lt c rd rs1 rs2)
  | 0x05 => some (execSyncRead lt c rd rs1 rs2)
  | _ => none

/-- OP 0x16, by FN. -/
def qWord (lt : Nat) (c : CoreId) (rd rs1 rs2 : BitVec 5) (idx : BitVec 6) (fn : Nat) : Option (State → Out) :=
  match fn with
  | 0x00 => some (execQGet lt c rd rs1 rs2 idx)
  | 0x01 => some (execQPut lt c rd rs1 rs2 idx)
  | _ => none

/-- OP 0x17, by FN. -/
def csrWord (lt : Nat) (c : CoreId) (rd rs1 : BitVec 5) (csr : BitVec 12) (fn : Nat) : Option (State → Out) :=
  match fn with
  | 0x00 => some (execCsrR lt c rd rs1 csr)
  | 0x01 => some (execCsrW lt c rd rs1 csr)
  | 0x02 => some (execCsrSet lt c rd rs1 csr)
  | 0x03 => some (execCsrClr lt c rd rs1 csr)
  | _ => none

/-- OP 0x18, by FN. -/
def systemWord (lt : Nat) (c : CoreId) (rd rs1 rs2 : BitVec 5) (fn : Nat) : Option (State → Out) :=
  match fn with
  | 0x00 => some (execScall lt c rd rs1 rs2)
  | 0x01 => some (execEret lt c rd rs1 rs2)
  | 0x02 => some (execWfi lt c rd rs1 rs2)
  | 0x03 => some (execFence lt c rd rs1 rs2)
  | 0x04 => some (execFenceI lt c rd rs1 rs2)
  | 0x05 => some (execBrk lt c rd rs1 rs2)
  | 0x06 => some (execTlbInv lt c rd rs1 rs2)
  | 0x07 => some (execItemWait lt c rd rs1 rs2)
  | 0x08 => some (execItemPoll lt c rd rs1 rs2)
  | 0x09 => some (execStop lt c rd rs1 rs2)
  | _ => none

/-- OP 0x20, by FN3. -/
def vfWord (lt : Nat) (c : CoreId) (vd vs1 vs2 : BitVec 5) (fmt : BitVec 2) (lcnt : BitVec 4) (fn : Nat) : Option (State → Out) :=
  match fn with
  | 0x00 => some (execVfFma lt c vd vs1 vs2 fmt lcnt)
  | 0x01 => some (execVfFms lt c vd vs1 vs2 fmt lcnt)
  | 0x02 => some (execVfFnma lt c vd vs1 vs2 fmt lcnt)
  | 0x03 => some (execVfMul lt c vd vs1 vs2 fmt lcnt)
  | 0x04 => some (execVfAdd lt c vd vs1 vs2 fmt lcnt)
  | 0x05 => some (execVfSub lt c vd vs1 vs2 fmt lcnt)
  | 0x06 => some (execVfMin lt c vd vs1 vs2 fmt lcnt)
  | 0x07 => some (execVfMax lt c vd vs1 vs2 fmt lcnt)
  | _ => none

/-- OP 0x21, by FN3. -/
def viWord (lt : Nat) (c : CoreId) (vd vs1 vs2 : BitVec 5) (fmt : BitVec 2) (lcnt : BitVec 4) (fn : Nat) : Option (State → Out) :=
  match fn with
  | 0x00 => some (execViAdd lt c vd vs1 vs2 fmt lcnt)
  | 0x01 => some (execViSub lt c vd vs1 vs2 fmt lcnt)
  | 0x02 => some (execViAnd lt c vd vs1 vs2 fmt lcnt)
  | 0x03 => some (execViOr lt c vd vs1 vs2 fmt lcnt)
  | 0x04 => some (execViXor lt c vd vs1 vs2 fmt lcnt)
  | 0x05 => some (execViSll lt c vd vs1 vs2 fmt lcnt)
  | 0x06 => some (execViSrl lt c vd vs1 vs2 fmt lcnt)
  | 0x07 => some (execViSra lt c vd vs1 vs2 fmt lcnt)
  | _ => none

/-- OP 0x23, by FN3. -/
def vsfuWord (lt : Nat) (c : CoreId) (vd vs1 vs2 : BitVec 5) (fmt : BitVec 2) (lcnt : BitVec 4) (fn : Nat) : Option (State → Out) :=
  match fn with
  | 0x00 => some (execVsfuExp2 lt c vd vs1 vs2 fmt lcnt)
  | 0x01 => some (execVsfuLog2 lt c vd vs1 vs2 fmt lcnt)
  | 0x02 => some (execVsfuRcp lt c vd vs1 vs2 fmt lcnt)
  | 0x03 => some (execVsfuRsqrt lt c vd vs1 vs2 fmt lcnt)
  | 0x04 => some (execVsfuSin lt c vd vs1 vs2 fmt lcnt)
  | 0x05 => some (execVsfuCos lt c vd vs1 vs2 fmt lcnt)
  | _ => none

/-- OP 0x26, by FN3. -/
def vmovWord (lt : Nat) (c : CoreId) (vd vs1 vs2 : BitVec 5) (fmt : BitVec 2) (lcnt : BitVec 4) (fn : Nat) : Option (State → Out) :=
  match fn with
  | 0x00 => some (execVmovBroadcast lt c vd vs1 vs2 fmt lcnt)
  | 0x01 => some (execVmovExtract lt c vd vs1 vs2 fmt lcnt)
  | 0x02 => some (execVmovInsert lt c vd vs1 vs2 fmt lcnt)
  | 0x03 => some (execVmovPermute lt c vd vs1 vs2 fmt lcnt)
  | _ => none

/-- OP 0x27, by FN3. -/
def vredWord (lt : Nat) (c : CoreId) (vd vs1 vs2 : BitVec 5) (fmt : BitVec 2) (lcnt : BitVec 4) (fn : Nat) : Option (State → Out) :=
  match fn with
  | 0x00 => some (execVredSum lt c vd vs1 vs2 fmt lcnt)
  | 0x01 => some (execVredMax lt c vd vs1 vs2 fmt lcnt)
  | 0x02 => some (execVredMin lt c vd vs1 vs2 fmt lcnt)
  | _ => none

/-- OP 0x28, by FN3. -/
def raddWord (lt : Nat) (c : CoreId) (vd vs1 vs2 : BitVec 5) (fmt : BitVec 2) (lcnt : BitVec 4) (fn : Nat) : Option (State → Out) :=
  match fn with
  | 0x00 => some (execRadd lt c vd vs1 vs2 fmt lcnt)
  | _ => none

/-- OP 0x29, by FN3. -/
def vcmpWord (lt : Nat) (c : CoreId) (vd vs1 vs2 : BitVec 5) (fmt : BitVec 2) (lcnt : BitVec 4) (fn : Nat) : Option (State → Out) :=
  match fn with
  | 0x00 => some (execVcmpEq lt c vd vs1 vs2 fmt lcnt)
  | 0x01 => some (execVcmpLt lt c vd vs1 vs2 fmt lcnt)
  | 0x02 => some (execVcmpLe lt c vd vs1 vs2 fmt lcnt)
  | 0x03 => some (execVcmpNe lt c vd vs1 vs2 fmt lcnt)
  | _ => none

/-- `me.sel`, by its form (08, Table 8.1). -/
def selWord (lt : Nat) (c : CoreId) (rd rs1 rs2 rs3 : BitVec 5) (pl : BitVec 32) : State → Out :=
  if bit pl 0 then execMeSelVerify lt c rd rs1 rs2 rs3 pl else execMeSelSelect lt c rd rs1 rs2 rs3 pl

/-- UNIT 0, by WOP (06, Table 6.1; 08, R202 to R216). -/
def meWord (lt : Nat) (c : CoreId) (rd rs1 rs2 rs3 : BitVec 5) (pl : BitVec 32) (fn : Nat) : Option (State → Out) :=
  match fn with
  | 0x00 => some (execMmaBf16 lt c rd rs1 rs2 rs3 pl)
  | 0x01 => some (execMmaFp16 lt c rd rs1 rs2 rs3 pl)
  | 0x02 => some (execMmaFp8 lt c rd rs1 rs2 rs3 pl)
  | 0x03 => some (execMmaMx lt c rd rs1 rs2 rs3 pl)
  | 0x04 => some (execMmaI8 lt c rd rs1 rs2 rs3 pl)
  | 0x05 => some (execMmaI4 lt c rd rs1 rs2 rs3 pl)
  | 0x08 => some (execMeWload lt c rd rs1 rs2 rs3 pl)
  | 0x09 => some (execMeFence lt c rd rs1 rs2 rs3 pl)
  | 0x10 => some (execMmaSp lt c rd rs1 rs2 rs3 pl)
  | 0x11 => some (execMmaPr lt c rd rs1 rs2 rs3 pl)
  | 0x12 => some (execPrune lt c rd rs1 rs2 rs3 pl)
  | 0x13 => some (execMePred lt c rd rs1 rs2 rs3 pl)
  | 0x14 => some (selWord lt c rd rs1 rs2 rs3 pl)
  | _ => none

/-- UNIT 1, by WOP (12, R307). -/
def dmaWord (lt : Nat) (c : CoreId) (rd rs1 rs2 rs3 : BitVec 5) (pl : BitVec 32) (fn : Nat) : Option (State → Out) :=
  match fn with
  | 0x00 => some (execDmaCopy lt c rd rs1 rs2 rs3 pl)
  | 0x01 => some (execDmaCvt lt c rd rs1 rs2 rs3 pl)
  | 0x02 => some (execDmaGather lt c rd rs1 rs2 rs3 pl)
  | 0x03 => some (execDmaScatter lt c rd rs1 rs2 rs3 pl)
  | 0x04 => some (execDma2d lt c rd rs1 rs2 rs3 pl)
  | 0x05 => some (execDmaRemote lt c rd rs1 rs2 rs3 pl)
  | 0x06 => some (execDmaRearm lt c rd rs1 rs2 rs3 pl)
  | _ => none

/-- UNIT 2, by WOP (08, R217). -/
def rtuWord (lt : Nat) (c : CoreId) (rd rs1 rs2 rs3 : BitVec 5) (pl : BitVec 32) (fn : Nat) : Option (State → Out) :=
  match fn with
  | 0x00 => some (execRtuDispatch lt c rd rs1 rs2 rs3 pl)
  | 0x01 => some (execRtuCombine lt c rd rs1 rs2 rs3 pl)
  | _ => none

/-- UNIT 3, by WOP (09, R233). -/
def skWord (lt : Nat) (c : CoreId) (rd rs1 rs2 rs3 : BitVec 5) (pl : BitVec 32) (fn : Nat) : Option (State → Out) :=
  match fn with
  | 0x00 => some (execSkLoad lt c rd rs1 rs2 rs3 pl)
  | 0x01 => some (execSkFlush lt c rd rs1 rs2 rs3 pl)
  | _ => none

/-- The meaning of a 32-bit instruction word; none for a reserved one (Tables 4.1, 4.4, 4.5). -/
def shortWord (lt : Nat) (c : CoreId) (w : Word) : Option (State → Out) :=
  let rd := bitsOf w 5 8
  let rs1 := bitsOf w 5 13
  let rs2 := bitsOf w 5 18
  let fn := fld w 31 23
  let imm14 := bitsOf w 14 18
  let imm19 := bitsOf w 19 13
  let imm11 := bitsOf w 11 21
  let idx := bitsOf w 6 23
  let fmt := bitsOf w 2 26
  let lcnt := bitsOf w 4 28
  match fld w 7 2 with
  | 0x01 => aluWord lt c rd rs1 rs2 (bit w 31) (fn % 2 ^ 8)
  | 0x02 => some (execAddi lt c rd rs1 imm14)
  | 0x03 => some (execAndi lt c rd rs1 imm14)
  | 0x04 => some (execOri lt c rd rs1 imm14)
  | 0x05 => some (execXori lt c rd rs1 imm14)
  | 0x06 => some (execCmpiLt lt c rd rs1 imm14)
  | 0x07 => some (execCmpiLtu lt c rd rs1 imm14)
  | 0x08 =>
    match fld w 31 30 with
    | 0 => some (execSlli lt c rd rs1 (bitsOf w 6 18))
    | 1 => some (execSrli lt c rd rs1 (bitsOf w 6 18))
    | 2 => some (execSrai lt c rd rs1 (bitsOf w 6 18))
    | _ => none
  | 0x09 => some (execLdhi lt c rd imm19)
  | 0x0A => some (execLdpc lt c rd imm19)
  | 0x0B => some (execCall lt c rd imm19)
  | 0x0C => some (execCallR lt c rd rs1 imm14)
  | 0x0D => branchWord lt c rs1 rd imm11 (fld w 20 18)
  | 0x0E => some (execLd lt c rd rs1 (bitsOf w 3 18) imm11)
  | 0x0F => some (execSt lt c rd rs1 (bitsOf w 3 18) ⟨imm11, 0⟩)
  | 0x10 => some (execLdTr lt c rd rs1 rs2)
  | 0x11 => amoWord lt c rd rs1 rs2 (bit w 27) (fn % 2 ^ 4)
  | 0x12 => boltWord lt c rd rs1 rs2 idx (fld w 31 29)
  | 0x13 => chWord lt c rd rs1 rs2 idx (fld w 31 29)
  | 0x14 => syncWord lt c rd rs1 rs2 fn
  | 0x15 => some (execSkSwitch lt c rd rs1 imm14)
  | 0x16 => qWord lt c rd rs1 rs2 idx (fld w 31 29)
  | 0x17 => csrWord lt c rd rs1 (bitsOf w 12 20) (fld w 19 18)
  | 0x18 => systemWord lt c rd rs1 rs2 fn
  | 0x20 => vfWord lt c rd rs1 rs2 fmt lcnt (fld w 25 23)
  | 0x21 => viWord lt c rd rs1 rs2 fmt lcnt (fld w 25 23)
  | 0x22 => some (if bit w 26 then execVcvtFrom lt c rd rs1 (bitsOf w 8 18) lcnt else execVcvtTo lt c rd rs1 (bitsOf w 8 18) lcnt)
  | 0x23 => vsfuWord lt c rd rs1 rs2 fmt lcnt (fld w 25 23)
  | 0x24 => some (execVld lt c rd rs1 imm11)
  | 0x25 => some (execVst lt c rd rs1 imm11)
  | 0x26 => vmovWord lt c rd rs1 rs2 fmt lcnt (fld w 25 23)
  | 0x27 => vredWord lt c rd rs1 rs2 fmt lcnt (fld w 25 23)
  | 0x28 => raddWord lt c rd rs1 rs2 fmt lcnt (fld w 25 23)
  | 0x29 => vcmpWord lt c rd rs1 rs2 fmt lcnt (fld w 25 23)
  | _ => none

/-- The meaning of a wide instruction (Tables 4.2, 4.3). -/
def wideWord (lt : Nat) (c : CoreId) (w pl : Word) : Option (State → Out) :=
  let rd := bitsOf w 5 12
  let rs1 := bitsOf w 5 17
  let rs2 := bitsOf w 5 22
  let rs3 := bitsOf w 5 27
  match fld w 11 8 with
  | 0 => meWord lt c rd rs1 rs2 rs3 pl (fld w 7 2)
  | 1 => dmaWord lt c rd rs1 rs2 rs3 pl (fld w 7 2)
  | 2 => rtuWord lt c rd rs1 rs2 rs3 pl (fld w 7 2)
  | 3 => skWord lt c rd rs1 rs2 rs3 pl (fld w 7 2)
  | _ => none

/-- A reserved instruction raises illegal instruction (R90, R93, R94). -/
def illegalWord (lt : Nat) (c : CoreId) (w0 : Word) (s : State) : Out :=
  insn lt c (if fld w0 1 0 == 3 then 8 else 4) w0 anyCore (fun s => illegalInsn s w0) s

/-- RESERVED_OPCODE (R94): a reserved instruction raises illegal instruction; a word that Tables 4.3 to 4.5 list is the instruction that
they list. -/
def execReservedOpcode (lt : Nat) (c : CoreId) (w0 w1 : BitVec 32) (s : State) : Out :=
  if reservedInsn c w0 then illegalWord lt c w0 s
  else
    match (if fld w0 1 0 = 3 then wideWord lt c w0 w1 else shortWord lt c w0) with
    | some f => f s
    | none => illegalWord lt c w0 s

end Sys2Proof.Machine
end

