-- ==== Sys2Proof/Machine/Dispatch.lean ====
section
/-!
DEFINITION. The dispatch: one arm per command, each a direct call of that command's meaning.
-/
namespace Sys2Proof.Machine

open Sys2Proof

def exec (i : Instr) (s : State) : Host.Outcome State Fault Refusal :=
  match i with
  | .registerWrite sel off lv v => Sys2Proof.Machine.execRegisterWrite sel off lv v s
  | .clkAonLoRead lv => Sys2Proof.Machine.execClkAonLoRead lv s
  | .secUnlockCtrLoRead lv => Sys2Proof.Machine.execSecUnlockCtrLoRead lv s
  | .reservedOpcode lt c w0 w1 => Sys2Proof.Machine.execReservedOpcode lt c w0 w1 s
  | .add lt c rd rs1 rs2 w => Sys2Proof.Machine.execAdd lt c rd rs1 rs2 w s
  | .sub lt c rd rs1 rs2 w => Sys2Proof.Machine.execSub lt c rd rs1 rs2 w s
  | .and lt c rd rs1 rs2 w => Sys2Proof.Machine.execAnd lt c rd rs1 rs2 w s
  | .or lt c rd rs1 rs2 w => Sys2Proof.Machine.execOr lt c rd rs1 rs2 w s
  | .xor lt c rd rs1 rs2 w => Sys2Proof.Machine.execXor lt c rd rs1 rs2 w s
  | .sll lt c rd rs1 rs2 w => Sys2Proof.Machine.execSll lt c rd rs1 rs2 w s
  | .srl lt c rd rs1 rs2 w => Sys2Proof.Machine.execSrl lt c rd rs1 rs2 w s
  | .sra lt c rd rs1 rs2 w => Sys2Proof.Machine.execSra lt c rd rs1 rs2 w s
  | .slt lt c rd rs1 rs2 w => Sys2Proof.Machine.execSlt lt c rd rs1 rs2 w s
  | .sltu lt c rd rs1 rs2 w => Sys2Proof.Machine.execSltu lt c rd rs1 rs2 w s
  | .min lt c rd rs1 rs2 w => Sys2Proof.Machine.execMin lt c rd rs1 rs2 w s
  | .max lt c rd rs1 rs2 w => Sys2Proof.Machine.execMax lt c rd rs1 rs2 w s
  | .minu lt c rd rs1 rs2 w => Sys2Proof.Machine.execMinu lt c rd rs1 rs2 w s
  | .maxu lt c rd rs1 rs2 w => Sys2Proof.Machine.execMaxu lt c rd rs1 rs2 w s
  | .mul lt c rd rs1 rs2 w => Sys2Proof.Machine.execMul lt c rd rs1 rs2 w s
  | .mulh lt c rd rs1 rs2 w => Sys2Proof.Machine.execMulh lt c rd rs1 rs2 w s
  | .mulhu lt c rd rs1 rs2 w => Sys2Proof.Machine.execMulhu lt c rd rs1 rs2 w s
  | .div lt c rd rs1 rs2 w => Sys2Proof.Machine.execDiv lt c rd rs1 rs2 w s
  | .divu lt c rd rs1 rs2 w => Sys2Proof.Machine.execDivu lt c rd rs1 rs2 w s
  | .rem lt c rd rs1 rs2 w => Sys2Proof.Machine.execRem lt c rd rs1 rs2 w s
  | .remu lt c rd rs1 rs2 w => Sys2Proof.Machine.execRemu lt c rd rs1 rs2 w s
  | .clz lt c rd rs1 rs2 w => Sys2Proof.Machine.execClz lt c rd rs1 rs2 w s
  | .ctz lt c rd rs1 rs2 w => Sys2Proof.Machine.execCtz lt c rd rs1 rs2 w s
  | .popc lt c rd rs1 rs2 w => Sys2Proof.Machine.execPopc lt c rd rs1 rs2 w s
  | .addi lt c rd rs1 imm => Sys2Proof.Machine.execAddi lt c rd rs1 imm s
  | .andi lt c rd rs1 imm => Sys2Proof.Machine.execAndi lt c rd rs1 imm s
  | .ori lt c rd rs1 imm => Sys2Proof.Machine.execOri lt c rd rs1 imm s
  | .xori lt c rd rs1 imm => Sys2Proof.Machine.execXori lt c rd rs1 imm s
  | .cmpiLt lt c rd rs1 imm => Sys2Proof.Machine.execCmpiLt lt c rd rs1 imm s
  | .cmpiLtu lt c rd rs1 imm => Sys2Proof.Machine.execCmpiLtu lt c rd rs1 imm s
  | .slli lt c rd rs1 amt => Sys2Proof.Machine.execSlli lt c rd rs1 amt s
  | .srli lt c rd rs1 amt => Sys2Proof.Machine.execSrli lt c rd rs1 amt s
  | .srai lt c rd rs1 amt => Sys2Proof.Machine.execSrai lt c rd rs1 amt s
  | .ldhi lt c rd imm => Sys2Proof.Machine.execLdhi lt c rd imm s
  | .ldpc lt c rd imm => Sys2Proof.Machine.execLdpc lt c rd imm s
  | .call lt c rd imm => Sys2Proof.Machine.execCall lt c rd imm s
  | .callR lt c rd rs1 imm => Sys2Proof.Machine.execCallR lt c rd rs1 imm s
  | .brEq lt c rs1 rs2 imm => Sys2Proof.Machine.execBrEq lt c rs1 rs2 imm s
  | .brNe lt c rs1 rs2 imm => Sys2Proof.Machine.execBrNe lt c rs1 rs2 imm s
  | .brLt lt c rs1 rs2 imm => Sys2Proof.Machine.execBrLt lt c rs1 rs2 imm s
  | .brGe lt c rs1 rs2 imm => Sys2Proof.Machine.execBrGe lt c rs1 rs2 imm s
  | .brLtu lt c rs1 rs2 imm => Sys2Proof.Machine.execBrLtu lt c rs1 rs2 imm s
  | .brGeu lt c rs1 rs2 imm => Sys2Proof.Machine.execBrGeu lt c rs1 rs2 imm s
  | .ld lt c rd rs1 sz imm => Sys2Proof.Machine.execLd lt c rd rs1 sz imm s
  | .st lt c rd rs1 sz w => Sys2Proof.Machine.execSt lt c rd rs1 sz w s
  | .ldTr lt c rd rs1 rs2 => Sys2Proof.Machine.execLdTr lt c rd rs1 rs2 s
  | .amoSwap lt c rd rs1 rs2 four => Sys2Proof.Machine.execAmoSwap lt c rd rs1 rs2 four s
  | .amoAdd lt c rd rs1 rs2 four => Sys2Proof.Machine.execAmoAdd lt c rd rs1 rs2 four s
  | .amoAnd lt c rd rs1 rs2 four => Sys2Proof.Machine.execAmoAnd lt c rd rs1 rs2 four s
  | .amoOr lt c rd rs1 rs2 four => Sys2Proof.Machine.execAmoOr lt c rd rs1 rs2 four s
  | .amoXor lt c rd rs1 rs2 four => Sys2Proof.Machine.execAmoXor lt c rd rs1 rs2 four s
  | .amoMin lt c rd rs1 rs2 four => Sys2Proof.Machine.execAmoMin lt c rd rs1 rs2 four s
  | .amoMax lt c rd rs1 rs2 four => Sys2Proof.Machine.execAmoMax lt c rd rs1 rs2 four s
  | .amoMinu lt c rd rs1 rs2 four => Sys2Proof.Machine.execAmoMinu lt c rd rs1 rs2 four s
  | .amoMaxu lt c rd rs1 rs2 four => Sys2Proof.Machine.execAmoMaxu lt c rd rs1 rs2 four s
  | .amoCas lt c rd rs1 rs2 four => Sys2Proof.Machine.execAmoCas lt c rd rs1 rs2 four s
  | .boltPush lt c rd rs1 rs2 idx => Sys2Proof.Machine.execBoltPush lt c rd rs1 rs2 idx s
  | .boltPeek lt c rd rs1 rs2 idx => Sys2Proof.Machine.execBoltPeek lt c rd rs1 rs2 idx s
  | .boltPop lt c rd rs1 rs2 idx => Sys2Proof.Machine.execBoltPop lt c rd rs1 rs2 idx s
  | .boltRel lt c rd rs1 rs2 idx => Sys2Proof.Machine.execBoltRel lt c rd rs1 rs2 idx s
  | .chSend lt c rd rs1 rs2 idx => Sys2Proof.Machine.execChSend lt c rd rs1 rs2 idx s
  | .chAm lt c rd rs1 rs2 idx => Sys2Proof.Machine.execChAm lt c rd rs1 rs2 idx s
  | .chClose lt c rd rs1 rs2 idx => Sys2Proof.Machine.execChClose lt c rd rs1 rs2 idx s
  | .chState lt c rd rs1 rs2 idx => Sys2Proof.Machine.execChState lt c rd rs1 rs2 idx s
  | .semP lt c rd rs1 rs2 => Sys2Proof.Machine.execSemP lt c rd rs1 rs2 s
  | .semV lt c rd rs1 rs2 => Sys2Proof.Machine.execSemV lt c rd rs1 rs2 s
  | .syncArrive lt c rd rs1 rs2 => Sys2Proof.Machine.execSyncArrive lt c rd rs1 rs2 s
  | .syncWait lt c rd rs1 rs2 => Sys2Proof.Machine.execSyncWait lt c rd rs1 rs2 s
  | .syncAdd lt c rd rs1 rs2 => Sys2Proof.Machine.execSyncAdd lt c rd rs1 rs2 s
  | .syncRead lt c rd rs1 rs2 => Sys2Proof.Machine.execSyncRead lt c rd rs1 rs2 s
  | .skSwitch lt c rd rs1 imm => Sys2Proof.Machine.execSkSwitch lt c rd rs1 imm s
  | .qGet lt c rd rs1 rs2 idx => Sys2Proof.Machine.execQGet lt c rd rs1 rs2 idx s
  | .qPut lt c rd rs1 rs2 idx => Sys2Proof.Machine.execQPut lt c rd rs1 rs2 idx s
  | .csrR lt c rd rs1 csr => Sys2Proof.Machine.execCsrR lt c rd rs1 csr s
  | .csrW lt c rd rs1 csr => Sys2Proof.Machine.execCsrW lt c rd rs1 csr s
  | .csrSet lt c rd rs1 csr => Sys2Proof.Machine.execCsrSet lt c rd rs1 csr s
  | .csrClr lt c rd rs1 csr => Sys2Proof.Machine.execCsrClr lt c rd rs1 csr s
  | .scall lt c rd rs1 rs2 => Sys2Proof.Machine.execScall lt c rd rs1 rs2 s
  | .eret lt c rd rs1 rs2 => Sys2Proof.Machine.execEret lt c rd rs1 rs2 s
  | .wfi lt c rd rs1 rs2 => Sys2Proof.Machine.execWfi lt c rd rs1 rs2 s
  | .fence lt c rd rs1 rs2 => Sys2Proof.Machine.execFence lt c rd rs1 rs2 s
  | .fenceI lt c rd rs1 rs2 => Sys2Proof.Machine.execFenceI lt c rd rs1 rs2 s
  | .brk lt c rd rs1 rs2 => Sys2Proof.Machine.execBrk lt c rd rs1 rs2 s
  | .tlbInv lt c rd rs1 rs2 => Sys2Proof.Machine.execTlbInv lt c rd rs1 rs2 s
  | .itemWait lt c rd rs1 rs2 => Sys2Proof.Machine.execItemWait lt c rd rs1 rs2 s
  | .itemPoll lt c rd rs1 rs2 => Sys2Proof.Machine.execItemPoll lt c rd rs1 rs2 s
  | .stop lt c rd rs1 rs2 => Sys2Proof.Machine.execStop lt c rd rs1 rs2 s
  | .vfFma lt c vd vs1 vs2 fmt lcnt => Sys2Proof.Machine.execVfFma lt c vd vs1 vs2 fmt lcnt s
  | .vfFms lt c vd vs1 vs2 fmt lcnt => Sys2Proof.Machine.execVfFms lt c vd vs1 vs2 fmt lcnt s
  | .vfFnma lt c vd vs1 vs2 fmt lcnt => Sys2Proof.Machine.execVfFnma lt c vd vs1 vs2 fmt lcnt s
  | .vfMul lt c vd vs1 vs2 fmt lcnt => Sys2Proof.Machine.execVfMul lt c vd vs1 vs2 fmt lcnt s
  | .vfAdd lt c vd vs1 vs2 fmt lcnt => Sys2Proof.Machine.execVfAdd lt c vd vs1 vs2 fmt lcnt s
  | .vfSub lt c vd vs1 vs2 fmt lcnt => Sys2Proof.Machine.execVfSub lt c vd vs1 vs2 fmt lcnt s
  | .vfMin lt c vd vs1 vs2 fmt lcnt => Sys2Proof.Machine.execVfMin lt c vd vs1 vs2 fmt lcnt s
  | .vfMax lt c vd vs1 vs2 fmt lcnt => Sys2Proof.Machine.execVfMax lt c vd vs1 vs2 fmt lcnt s
  | .viAdd lt c vd vs1 vs2 fmt lcnt => Sys2Proof.Machine.execViAdd lt c vd vs1 vs2 fmt lcnt s
  | .viSub lt c vd vs1 vs2 fmt lcnt => Sys2Proof.Machine.execViSub lt c vd vs1 vs2 fmt lcnt s
  | .viAnd lt c vd vs1 vs2 fmt lcnt => Sys2Proof.Machine.execViAnd lt c vd vs1 vs2 fmt lcnt s
  | .viOr lt c vd vs1 vs2 fmt lcnt => Sys2Proof.Machine.execViOr lt c vd vs1 vs2 fmt lcnt s
  | .viXor lt c vd vs1 vs2 fmt lcnt => Sys2Proof.Machine.execViXor lt c vd vs1 vs2 fmt lcnt s
  | .viSll lt c vd vs1 vs2 fmt lcnt => Sys2Proof.Machine.execViSll lt c vd vs1 vs2 fmt lcnt s
  | .viSrl lt c vd vs1 vs2 fmt lcnt => Sys2Proof.Machine.execViSrl lt c vd vs1 vs2 fmt lcnt s
  | .viSra lt c vd vs1 vs2 fmt lcnt => Sys2Proof.Machine.execViSra lt c vd vs1 vs2 fmt lcnt s
  | .vcvtTo lt c vd vs1 pal lcnt => Sys2Proof.Machine.execVcvtTo lt c vd vs1 pal lcnt s
  | .vcvtFrom lt c vd vs1 pal lcnt => Sys2Proof.Machine.execVcvtFrom lt c vd vs1 pal lcnt s
  | .vsfuExp2 lt c vd vs1 vs2 fmt lcnt => Sys2Proof.Machine.execVsfuExp2 lt c vd vs1 vs2 fmt lcnt s
  | .vsfuLog2 lt c vd vs1 vs2 fmt lcnt => Sys2Proof.Machine.execVsfuLog2 lt c vd vs1 vs2 fmt lcnt s
  | .vsfuRcp lt c vd vs1 vs2 fmt lcnt => Sys2Proof.Machine.execVsfuRcp lt c vd vs1 vs2 fmt lcnt s
  | .vsfuRsqrt lt c vd vs1 vs2 fmt lcnt => Sys2Proof.Machine.execVsfuRsqrt lt c vd vs1 vs2 fmt lcnt s
  | .vsfuSin lt c vd vs1 vs2 fmt lcnt => Sys2Proof.Machine.execVsfuSin lt c vd vs1 vs2 fmt lcnt s
  | .vsfuCos lt c vd vs1 vs2 fmt lcnt => Sys2Proof.Machine.execVsfuCos lt c vd vs1 vs2 fmt lcnt s
  | .vld lt c vd rs1 imm => Sys2Proof.Machine.execVld lt c vd rs1 imm s
  | .vst lt c vd rs1 imm => Sys2Proof.Machine.execVst lt c vd rs1 imm s
  | .vmovBroadcast lt c vd vs1 vs2 fmt lcnt => Sys2Proof.Machine.execVmovBroadcast lt c vd vs1 vs2 fmt lcnt s
  | .vmovExtract lt c vd vs1 vs2 fmt lcnt => Sys2Proof.Machine.execVmovExtract lt c vd vs1 vs2 fmt lcnt s
  | .vmovInsert lt c vd vs1 vs2 fmt lcnt => Sys2Proof.Machine.execVmovInsert lt c vd vs1 vs2 fmt lcnt s
  | .vmovPermute lt c vd vs1 vs2 fmt lcnt => Sys2Proof.Machine.execVmovPermute lt c vd vs1 vs2 fmt lcnt s
  | .vredSum lt c vd vs1 vs2 fmt lcnt => Sys2Proof.Machine.execVredSum lt c vd vs1 vs2 fmt lcnt s
  | .vredMax lt c vd vs1 vs2 fmt lcnt => Sys2Proof.Machine.execVredMax lt c vd vs1 vs2 fmt lcnt s
  | .vredMin lt c vd vs1 vs2 fmt lcnt => Sys2Proof.Machine.execVredMin lt c vd vs1 vs2 fmt lcnt s
  | .radd lt c vd vs1 vs2 fmt lcnt => Sys2Proof.Machine.execRadd lt c vd vs1 vs2 fmt lcnt s
  | .vcmpEq lt c vd vs1 vs2 fmt lcnt => Sys2Proof.Machine.execVcmpEq lt c vd vs1 vs2 fmt lcnt s
  | .vcmpLt lt c vd vs1 vs2 fmt lcnt => Sys2Proof.Machine.execVcmpLt lt c vd vs1 vs2 fmt lcnt s
  | .vcmpLe lt c vd vs1 vs2 fmt lcnt => Sys2Proof.Machine.execVcmpLe lt c vd vs1 vs2 fmt lcnt s
  | .vcmpNe lt c vd vs1 vs2 fmt lcnt => Sys2Proof.Machine.execVcmpNe lt c vd vs1 vs2 fmt lcnt s
  | .mmaBf16 lt c rd rs1 rs2 rs3 pl => Sys2Proof.Machine.execMmaBf16 lt c rd rs1 rs2 rs3 pl s
  | .mmaFp16 lt c rd rs1 rs2 rs3 pl => Sys2Proof.Machine.execMmaFp16 lt c rd rs1 rs2 rs3 pl s
  | .mmaFp8 lt c rd rs1 rs2 rs3 pl => Sys2Proof.Machine.execMmaFp8 lt c rd rs1 rs2 rs3 pl s
  | .mmaMx lt c rd rs1 rs2 rs3 pl => Sys2Proof.Machine.execMmaMx lt c rd rs1 rs2 rs3 pl s
  | .mmaI8 lt c rd rs1 rs2 rs3 pl => Sys2Proof.Machine.execMmaI8 lt c rd rs1 rs2 rs3 pl s
  | .mmaI4 lt c rd rs1 rs2 rs3 pl => Sys2Proof.Machine.execMmaI4 lt c rd rs1 rs2 rs3 pl s
  | .meWload lt c rd rs1 rs2 rs3 pl => Sys2Proof.Machine.execMeWload lt c rd rs1 rs2 rs3 pl s
  | .meFence lt c rd rs1 rs2 rs3 pl => Sys2Proof.Machine.execMeFence lt c rd rs1 rs2 rs3 pl s
  | .mmaSp lt c rd rs1 rs2 rs3 pl => Sys2Proof.Machine.execMmaSp lt c rd rs1 rs2 rs3 pl s
  | .mmaPr lt c rd rs1 rs2 rs3 pl => Sys2Proof.Machine.execMmaPr lt c rd rs1 rs2 rs3 pl s
  | .prune lt c rd rs1 rs2 rs3 pl => Sys2Proof.Machine.execPrune lt c rd rs1 rs2 rs3 pl s
  | .mePred lt c rd rs1 rs2 rs3 pl => Sys2Proof.Machine.execMePred lt c rd rs1 rs2 rs3 pl s
  | .meSelSelect lt c rd rs1 rs2 rs3 pl => Sys2Proof.Machine.execMeSelSelect lt c rd rs1 rs2 rs3 pl s
  | .meSelVerify lt c rd rs1 rs2 rs3 pl => Sys2Proof.Machine.execMeSelVerify lt c rd rs1 rs2 rs3 pl s
  | .dmaCopy lt c rd rs1 rs2 rs3 pl => Sys2Proof.Machine.execDmaCopy lt c rd rs1 rs2 rs3 pl s
  | .dmaCvt lt c rd rs1 rs2 rs3 pl => Sys2Proof.Machine.execDmaCvt lt c rd rs1 rs2 rs3 pl s
  | .dmaGather lt c rd rs1 rs2 rs3 pl => Sys2Proof.Machine.execDmaGather lt c rd rs1 rs2 rs3 pl s
  | .dmaScatter lt c rd rs1 rs2 rs3 pl => Sys2Proof.Machine.execDmaScatter lt c rd rs1 rs2 rs3 pl s
  | .dma2d lt c rd rs1 rs2 rs3 pl => Sys2Proof.Machine.execDma2d lt c rd rs1 rs2 rs3 pl s
  | .dmaRemote lt c rd rs1 rs2 rs3 pl => Sys2Proof.Machine.execDmaRemote lt c rd rs1 rs2 rs3 pl s
  | .dmaRearm lt c rd rs1 rs2 rs3 pl => Sys2Proof.Machine.execDmaRearm lt c rd rs1 rs2 rs3 pl s
  | .rtuDispatch lt c rd rs1 rs2 rs3 pl => Sys2Proof.Machine.execRtuDispatch lt c rd rs1 rs2 rs3 pl s
  | .rtuCombine lt c rd rs1 rs2 rs3 pl => Sys2Proof.Machine.execRtuCombine lt c rd rs1 rs2 rs3 pl s
  | .skLoad lt c rd rs1 rs2 rs3 pl => Sys2Proof.Machine.execSkLoad lt c rd rs1 rs2 rs3 pl s
  | .skFlush lt c rd rs1 rs2 rs3 pl => Sys2Proof.Machine.execSkFlush lt c rd rs1 rs2 rs3 pl s
  | .takeInterrupt lt => Sys2Proof.Machine.execTakeInterrupt lt s
  | .machineCheck r => Sys2Proof.Machine.execMachineCheck r s
  | .tileTimerExpire lt => Sys2Proof.Machine.execTileTimerExpire lt s
  | .amEntry lt => Sys2Proof.Machine.execAmEntry lt s
  | .lcStart lt lv n v => Sys2Proof.Machine.execLcStart lt lv n v s
  | .lcResume lt lv lane => Sys2Proof.Machine.execLcResume lt lv lane s
  | .lcSkip lt lv lane => Sys2Proof.Machine.execLcSkip lt lv lane s
  | .lcEnd lt lv lane => Sys2Proof.Machine.execLcEnd lt lv lane s
  | .lcRedirect lt lv lane => Sys2Proof.Machine.execLcRedirect lt lv lane s
  | .scrubTick lt => Sys2Proof.Machine.execScrubTick lt s
  | .bankPowerDown lt lv bank => Sys2Proof.Machine.execBankPowerDown lt lv bank s
  | .bankPowerOffDone lt bank => Sys2Proof.Machine.execBankPowerOffDone lt bank s
  | .bankPowerUp lt lv bank => Sys2Proof.Machine.execBankPowerUp lt lv bank s
  | .bankPowerUpDone lt bank => Sys2Proof.Machine.execBankPowerUpDone lt bank s
  | .bankPowerQueuedStart lt bank => Sys2Proof.Machine.execBankPowerQueuedStart lt bank s
  | .boltEnable lt lv b v => Sys2Proof.Machine.execBoltEnable lt lv b v s
  | .boltClose lt lv b v => Sys2Proof.Machine.execBoltClose lt lv b v s
  | .boltCounterWrite lt lv b which v => Sys2Proof.Machine.execBoltCounterWrite lt lv b which v s
  | .boltStallTimeout lt b => Sys2Proof.Machine.execBoltStallTimeout lt b s
  | .lwinEnable lt lv m v => Sys2Proof.Machine.execLwinEnable lt lv m v s
  | .lwinRelease lt lv m v => Sys2Proof.Machine.execLwinRelease lt lv m v s
  | .creditRequest lt m => Sys2Proof.Machine.execCreditRequest lt m s
  | .creditGrantDeferred lt target => Sys2Proof.Machine.execCreditGrantDeferred lt target s
  | .creditGrant lt m => Sys2Proof.Machine.execCreditGrant lt m s
  | .creditNack lt m => Sys2Proof.Machine.execCreditNack lt m s
  | .creditRetry lt tag => Sys2Proof.Machine.execCreditRetry lt tag s
  | .creditAnswerTimeout lt tag => Sys2Proof.Machine.execCreditAnswerTimeout lt tag s
  | .creditRefuse lt m => Sys2Proof.Machine.execCreditRefuse lt m s
  | .creditReturn lt m => Sys2Proof.Machine.execCreditReturn lt m s
  | .creditAck lt m => Sys2Proof.Machine.execCreditAck lt m s
  | .creditedWriteArrive lt w => Sys2Proof.Machine.execCreditedWriteArrive lt w s
  | .meItemStart lt => Sys2Proof.Machine.execMeItemStart lt s
  | .meWloadDone lt => Sys2Proof.Machine.execMeWloadDone lt s
  | .meFillDone lt => Sys2Proof.Machine.execMeFillDone lt s
  | .meIssueSlot lt c => Sys2Proof.Machine.execMeIssueSlot lt c s
  | .meBlockStaged lt => Sys2Proof.Machine.execMeBlockStaged lt s
  | .meBlockWriteback lt => Sys2Proof.Machine.execMeBlockWriteback lt s
  | .meItemComplete lt => Sys2Proof.Machine.execMeItemComplete lt s
  | .predVerifyGroupDone lt set => Sys2Proof.Machine.execPredVerifyGroupDone lt set s
  | .meRelease lt lv => Sys2Proof.Machine.execMeRelease lt lv s
  | .meAbort lt lv => Sys2Proof.Machine.execMeAbort lt lv s
  | .meSave lt lv => Sys2Proof.Machine.execMeSave lt lv s
  | .meSaveDone lt => Sys2Proof.Machine.execMeSaveDone lt s
  | .meRestore lt lv => Sys2Proof.Machine.execMeRestore lt lv s
  | .meDiscard lt lv => Sys2Proof.Machine.execMeDiscard lt lv s
  | .studySampleDone r => Sys2Proof.Machine.execStudySampleDone r s
  | .stepBoundary lt => Sys2Proof.Machine.execStepBoundary lt s
  | .rtuItemStart lt => Sys2Proof.Machine.execRtuItemStart lt s
  | .rtuPosition lt => Sys2Proof.Machine.execRtuPosition lt s
  | .rtuDispatchDone lt => Sys2Proof.Machine.execRtuDispatchDone lt s
  | .rtuCombineToken lt => Sys2Proof.Machine.execRtuCombineToken lt s
  | .rtuNoticePop lt => Sys2Proof.Machine.execRtuNoticePop lt s
  | .rtuCombineTimeout lt => Sys2Proof.Machine.execRtuCombineTimeout lt s
  | .rtuAbort lt lv => Sys2Proof.Machine.execRtuAbort lt lv s
  | .skLoadStart lt => Sys2Proof.Machine.execSkLoadStart lt s
  | .skLoadDone lt => Sys2Proof.Machine.execSkLoadDone lt s
  | .skFlushStart lt => Sys2Proof.Machine.execSkFlushStart lt s
  | .skTriggerSwitch lt ns sw => Sys2Proof.Machine.execSkTriggerSwitch lt ns sw s
  | .skSwitchLaneStart lt => Sys2Proof.Machine.execSkSwitchLaneStart lt s
  | .skTokenArrive lt t => Sys2Proof.Machine.execSkTokenArrive lt t s
  | .skSpillMove lt slot lane q => Sys2Proof.Machine.execSkSpillMove lt slot lane q s
  | .skCreditReturn lt slot lane route gen n => Sys2Proof.Machine.execSkCreditReturn lt slot lane route gen n s
  | .skStallTimeout lt lane => Sys2Proof.Machine.execSkStallTimeout lt lane s
  | .skHistSample lt => Sys2Proof.Machine.execSkHistSample lt s
  | .skHistCfgWrite lt lv v => Sys2Proof.Machine.execSkHistCfgWrite lt lv v s
  | .skBatchTimer lt slot lane route => Sys2Proof.Machine.execSkBatchTimer lt slot lane route s
  | .skBatchComplete lt slot lane route gen st => Sys2Proof.Machine.execSkBatchComplete lt slot lane route gen st s
  | .meshFlitReceive pt net dir good => Sys2Proof.Machine.execMeshFlitReceive pt net dir good s
  | .meshLossNotice lt pt what => Sys2Proof.Machine.execMeshLossNotice lt pt what s
  | .epochChangeStart => Sys2Proof.Machine.execEpochChangeStart s
  | .epochSwap => Sys2Proof.Machine.execEpochSwap s
  | .redPacketArrive pt p => Sys2Proof.Machine.execRedPacketArrive pt p s
  | .redWaitExpire pt p => Sys2Proof.Machine.execRedWaitExpire pt p s
  | .redChunkStall rid chunk => Sys2Proof.Machine.execRedChunkStall rid chunk s
  | .syncArrival o arr => Sys2Proof.Machine.execSyncArrival o arr s
  | .syncHomeUpdate o adds sets => Sys2Proof.Machine.execSyncHomeUpdate o adds sets s
  | .syncFetch lt o => Sys2Proof.Machine.execSyncFetch lt o s
  | .syncUpdateArrive lt o directed v => Sys2Proof.Machine.execSyncUpdateArrive lt o directed v s
  | .syncUpdateApply lt o v => Sys2Proof.Machine.execSyncUpdateApply lt o v s
  | .syncRefuseArrive lt o => Sys2Proof.Machine.execSyncRefuseArrive lt o s
  | .syncBroken o => Sys2Proof.Machine.execSyncBroken o s
  | .syncMirrorWrite lt lv n v => Sys2Proof.Machine.execSyncMirrorWrite lt lv n v s
  | .syncSemWrite lt lv n v => Sys2Proof.Machine.execSyncSemWrite lt lv n v s
  | .syncWaitStall lt c => Sys2Proof.Machine.execSyncWaitStall lt c s
  | .chXactStart lt slot => Sys2Proof.Machine.execChXactStart lt slot s
  | .chXactTimeout lt slot => Sys2Proof.Machine.execChXactTimeout lt slot s
  | .chReopen lt lv ch => Sys2Proof.Machine.execChReopen lt lv ch s
  | .chCloseCtrl lt lv ch => Sys2Proof.Machine.execChCloseCtrl lt lv ch s
  | .chOvfMapWrite lt lv n v => Sys2Proof.Machine.execChOvfMapWrite lt lv n v s
  | .ovfMove lt b => Sys2Proof.Machine.execOvfMove lt b s
  | .chStallTimeout lt slot => Sys2Proof.Machine.execChStallTimeout lt slot s
  | .dmaItemStart lt => Sys2Proof.Machine.execDmaItemStart lt s
  | .dmaChunk lt slot => Sys2Proof.Machine.execDmaChunk lt slot s
  | .dmaStallTimeout lt slot => Sys2Proof.Machine.execDmaStallTimeout lt slot s
  | .dmaAbort lt lv => Sys2Proof.Machine.execDmaAbort lt lv s
  | .preemptRequest lt => Sys2Proof.Machine.execPreemptRequest lt s
  | .laneStateSave lt lane => Sys2Proof.Machine.execLaneStateSave lt lane s
  | .tilePreSave lt lv => Sys2Proof.Machine.execTilePreSave lt lv s
  | .tilePreSaved lt => Sys2Proof.Machine.execTilePreSaved lt s
  | .tilePreResume lt lv => Sys2Proof.Machine.execTilePreResume lt lv s
  | .tilePreDiscard lt lv => Sys2Proof.Machine.execTilePreDiscard lt lv s
  | .placementGroupHalt g => Sys2Proof.Machine.execPlacementGroupHalt g s
  | .fabPortEnable lv p => Sys2Proof.Machine.execFabPortEnable lv p s
  | .fabPortDisable lv p => Sys2Proof.Machine.execFabPortDisable lv p s
  | .fabPortTrained p => Sys2Proof.Machine.execFabPortTrained p s
  | .fabHelloReceive p x => Sys2Proof.Machine.execFabHelloReceive p x s
  | .fabPortDown p cause => Sys2Proof.Machine.execFabPortDown p cause s
  | .fabPortRetry p => Sys2Proof.Machine.execFabPortRetry p s
  | .fabFlitReceive p fec f => Sys2Proof.Machine.execFabFlitReceive p fec f s
  | .fabPacketArrive p vc wait => Sys2Proof.Machine.execFabPacketArrive p vc wait s
  | .fabAckReceive src key base bitmap ece st => Sys2Proof.Machine.execFabAckReceive src key base bitmap ece st s
  | .fabRetransmit d key psn => Sys2Proof.Machine.execFabRetransmit d key psn s
  | .fabEscMove p vc wait => Sys2Proof.Machine.execFabEscMove p vc wait s
  | .fabCcPeriod d idle => Sys2Proof.Machine.execFabCcPeriod d idle s
  | .fabFlagHoldExpire src key psn => Sys2Proof.Machine.execFabFlagHoldExpire src key psn s
  | .kexInitReceive src gen xchg body => Sys2Proof.Machine.execKexInitReceive src gen xchg body s
  | .kexReplyReceive src gen xchg body => Sys2Proof.Machine.execKexReplyReceive src gen xchg body s
  | .authReceive src gen xchg body => Sys2Proof.Machine.execAuthReceive src gen xchg body s
  | .sessionAbortReceive src gen xchg body => Sys2Proof.Machine.execSessionAbortReceive src gen xchg body s
  | .iskShareReceive src gen xchg body => Sys2Proof.Machine.execIskShareReceive src gen xchg body s
  | .sessionResend d => Sys2Proof.Machine.execSessionResend d s
  | .sessionRotate d => Sys2Proof.Machine.execSessionRotate d s
  | .sessionOldGenExpire d => Sys2Proof.Machine.execSessionOldGenExpire d s
  | .pwrEstimateWindow r => Sys2Proof.Machine.execPwrEstimateWindow r s
  | .pwrRegionPeriod r => Sys2Proof.Machine.execPwrRegionPeriod r s
  | .pwrCalibrate pin => Sys2Proof.Machine.execPwrCalibrate pin s
  | .pwrAllocate => Sys2Proof.Machine.execPwrAllocate s
  | .pwrCapWrite lv v => Sys2Proof.Machine.execPwrCapWrite lv v s
  | .droopClamp lt => Sys2Proof.Machine.execDroopClamp lt s
  | .droopNotice r => Sys2Proof.Machine.execDroopNotice r s
  | .droopRecoveryTick r => Sys2Proof.Machine.execDroopRecoveryTick r s
  | .droopClockStop r lowest => Sys2Proof.Machine.execDroopClockStop r lowest s
  | .pwrBarrierWait r => Sys2Proof.Machine.execPwrBarrierWait r s
  | .pwrBarrierRelease r => Sys2Proof.Machine.execPwrBarrierRelease r s
  | .pwrRampTick r => Sys2Proof.Machine.execPwrRampTick r s
  | .thermalSample f temps => Sys2Proof.Machine.execThermalSample f temps s
  | .regionHaltDone r => Sys2Proof.Machine.execRegionHaltDone r s
  | .regionResume lv r => Sys2Proof.Machine.execRegionResume lv r s
  | .thermalTrip r => Sys2Proof.Machine.execThermalTrip r s
  | .mcTakeover => Sys2Proof.Machine.execMcTakeover s
  | .refMonitorWindow count => Sys2Proof.Machine.execRefMonitorWindow count s
  | .refTimeout => Sys2Proof.Machine.execRefTimeout s
  | .trimCount count sof => Sys2Proof.Machine.execTrimCount count sof s
  | .pllLossOfLock n => Sys2Proof.Machine.execPllLossOfLock n s
  | .pllRelockDone n => Sys2Proof.Machine.execPllRelockDone n s
  | .clkPllStart lv n => Sys2Proof.Machine.execClkPllStart lv n s
  | .clkPllStop lv n => Sys2Proof.Machine.execClkPllStop lv n s
  | .pllLock n => Sys2Proof.Machine.execPllLock n s
  | .tileSleep lt => Sys2Proof.Machine.execTileSleep lt s
  | .tileWake lt => Sys2Proof.Machine.execTileWake lt s
  | .tileWakeDone lt => Sys2Proof.Machine.execTileWakeDone lt s
  | .testStart f => Sys2Proof.Machine.execTestStart f s
  | .testDone f kind pt num pass lanes lane => Sys2Proof.Machine.execTestDone f kind pt num pass lanes lane s
  | .fcFirmwareReloadDone f => Sys2Proof.Machine.execFcFirmwareReloadDone f s
  | .skbTrigger sel n => Sys2Proof.Machine.execSkbTrigger sel n s
  | .skbRecordWrite sel => Sys2Proof.Machine.execSkbRecordWrite sel s
  | .skbFire sel lv n => Sys2Proof.Machine.execSkbFire sel lv n s
  | .gessoFullTestWrite lv => Sys2Proof.Machine.execGessoFullTestWrite lv s
  | .fullTestDone fs => Sys2Proof.Machine.execFullTestDone fs s
  | .secCommitSvn lv => Sys2Proof.Machine.execSecCommitSvn lv s
  | .powerGood b => Sys2Proof.Machine.execPowerGood b s
  | .moduleResetPin b => Sys2Proof.Machine.execModuleResetPin b s
  | .inputSag long back => Sys2Proof.Machine.execInputSag long back s
  | .powerFail excess => Sys2Proof.Machine.execPowerFail excess s
  | .lifeHourTick mean excess => Sys2Proof.Machine.execLifeHourTick mean excess s
  | .pmbusPoll w => Sys2Proof.Machine.execPmbusPoll w s
  | .partInserted idx m => Sys2Proof.Machine.execPartInserted idx m s
  | .bundlePresentChange b high => Sys2Proof.Machine.execBundlePresentChange b high s
  | .mgtStatus => Sys2Proof.Machine.execMgtStatus s
  | .mgtSerial => Sys2Proof.Machine.execMgtSerial s
  | .mgtMacBase => Sys2Proof.Machine.execMgtMacBase s
  | .mgtTmax => Sys2Proof.Machine.execMgtTmax s
  | .mgtPin => Sys2Proof.Machine.execMgtPin s
  | .mgtAlertCause => Sys2Proof.Machine.execMgtAlertCause s
  | .smbusAlertResponse => Sys2Proof.Machine.execSmbusAlertResponse s
  | .i3cEntdaa addr => Sys2Proof.Machine.execI3cEntdaa addr s
  | .i3cSetdasa static dyn => Sys2Proof.Machine.execI3cSetdasa static dyn s
  | .i3cRstdaa => Sys2Proof.Machine.execI3cRstdaa s
  | .i3cGetpid => Sys2Proof.Machine.execI3cGetpid s
  | .i3cGetbcr => Sys2Proof.Machine.execI3cGetbcr s
  | .i3cGetdcr => Sys2Proof.Machine.execI3cGetdcr s
  | .i3cGetstatus => Sys2Proof.Machine.execI3cGetstatus s
  | .i3cEnec ev => Sys2Proof.Machine.execI3cEnec ev s
  | .i3cDisec ev => Sys2Proof.Machine.execI3cDisec ev s
  | .i3cSetmwl n => Sys2Proof.Machine.execI3cSetmwl n s
  | .i3cGetmwl => Sys2Proof.Machine.execI3cGetmwl s
  | .i3cSetmrl n => Sys2Proof.Machine.execI3cSetmrl n s
  | .i3cGetmrl => Sys2Proof.Machine.execI3cGetmrl s
  | .lcpConnect n full => Sys2Proof.Machine.execLcpConnect n full s
  | .lcpDisconnect id => Sys2Proof.Machine.execLcpDisconnect id s
  | .lcpUnknownType via req typ => Sys2Proof.Machine.execLcpUnknownType via req typ s
  | .getStatus via req => Sys2Proof.Machine.execGetStatus via req s
  | .attest via req nonce => Sys2Proof.Machine.execAttest via req nonce s
  | .enroll via req keys trailer => Sys2Proof.Machine.execEnroll via req keys trailer s
  | .setPolicy via req b => Sys2Proof.Machine.execSetPolicy via req b s
  | .setMembership via req b => Sys2Proof.Machine.execSetMembership via req b s
  | .setRoutes via req b => Sys2Proof.Machine.execSetRoutes via req b s
  | .loadJob via req off bs fs => Sys2Proof.Machine.execLoadJob via req off bs fs s
  | .endJob via req => Sys2Proof.Machine.execEndJob via req s
  | .setCap via req cap => Sys2Proof.Machine.execSetCap via req cap s
  | .readLog via req log first count => Sys2Proof.Machine.execReadLog via req log first count s
  | .fwWrite via req stage image => Sys2Proof.Machine.execFwWrite via req stage image s
  | .lcpCommitSvn via req => Sys2Proof.Machine.execLcpCommitSvn via req s
  | .iskCreate via req => Sys2Proof.Machine.execIskCreate via req s
  | .openStream via req port dirOut form lt window off len => Sys2Proof.Machine.execOpenStream via req port dirOut form lt window off len s
  | .closeStream via req id => Sys2Proof.Machine.execCloseStream via req id s
  | .lcpFullTest via req => Sys2Proof.Machine.execLcpFullTest via req s
  | .reset via req b => Sys2Proof.Machine.execReset via req b s
  | .unlock via req b => Sys2Proof.Machine.execUnlock via req b s
  | .regRead via req sel off n => Sys2Proof.Machine.execRegRead via req sel off n s
  | .regWrite via req sel off ws => Sys2Proof.Machine.execRegWrite via req sel off ws s
  | .usbAttach on => Sys2Proof.Machine.execUsbAttach on s
  | .rdmaWriteReceive id f off data => Sys2Proof.Machine.execRdmaWriteReceive id f off data s
  | .rdmaReadReceive id f off n => Sys2Proof.Machine.execRdmaReadReceive id f off n s
  | .rdmaSendReceive id f data => Sys2Proof.Machine.execRdmaSendReceive id f data s
  | .roceCnpReceive id => Sys2Proof.Machine.execRoceCnpReceive id s
  | .roceRateTimer id => Sys2Proof.Machine.execRoceRateTimer id s
  | .fieldControllerFatal f => Sys2Proof.Machine.execFieldControllerFatal f s
  | .hostPortDown n => Sys2Proof.Machine.execHostPortDown n s
  | .hostPortUp n => Sys2Proof.Machine.execHostPortUp n s
  | .fabAckSend src key => Sys2Proof.Machine.execFabAckSend src key s

end Sys2Proof.Machine
end

