-- ==== Sys2Proof/Machine/Firmware.lean ====
section
/-!
DEFINITION. Tile M firmware (20, R496): what it does with the traps that reach M. It acts at the first tick after such a trap, while no command
waits, from the trap's entry to its return; what it executes on the way is not stated (DESIGN CHOICE, log entry 54).
-/
namespace Sys2Proof.Machine

open Sys2Proof

/-- Whether a TCC stands at M firmware's trap entry, and may issue: a trap to M has been taken and no instruction of the handler has run. -/
def atMEntry (s : State) (lt : Nat) : Bool :=
  let t := (s.tile lt).tcc
  t.trapM && t.prv == .m && t.pc == t.tm.base && canIssue s lt .tcc

/-- M firmware stops the TCC and reports a trap that it treats as a FATAL of unit kind 6 that arises from software (R496; 18, R426). -/
def trapFatal (s : State) (lt cause : Nat) : State :=
  reportFatal (modTcc s lt (fun t => { t with stopped := true, wait := none })) lt ⟨6, ptOf s lt, 0⟩ true cause

/-- What M firmware does with the trap that TILE_TRAP_CAUSE_M tells (R496): it acknowledges interrupts 1, 12 and 13 and returns; interrupt 14 is
the pre-emption of R322, whose steps are commands, and machine check follows R426; every other trap is fatal. -/
def handleM (s : State) (lt : Nat) : State :=
  let c := (s.tile lt).tcc.tm.cause
  let code := fld c 5 0
  if bit c 63 then
    if code = 1 then modTcc s lt (fun t => leaveTrap { t with swiM := false })
    else if code = 12 then modTcc (s.setTfld lt regRasTileStatus 17 16 0) lt leaveTrap
    else if code = 13 then modTcc (s.modTile lt (fun t => { t with pwrNotice := false })) lt leaveTrap
    else if code = 14 then s
    else trapFatal s lt code
  else if code = causeMachine.toNat then s
  else trapFatal s lt code

/-- M firmware of every tile acts. -/
def runFirmware (s : State) : State := ((s.tiles.map Prod.fst).filter (atMEntry s)).foldl handleM s

end Sys2Proof.Machine
end

