-- ==== Sys2Proof/Machine/Upset.lean ====
section
/-!
DEFINITION. Errors in the storage of units other than tile memory (18, R425, Table 18.1). `State.upsets` holds the units with an error that has not
been found, and whether it is beyond correction; they are found at the next tick (DESIGN CHOICE, log entry 54). The words of tile memory and of the
accumulator sets that are in error stand beside them, and are found where they are read.

The storage of a Matrix Engine is unit kind 2: its sets have their numbers, its weight buffer b is unit 16 + b, its staging buffers are unit 32
(DESIGN CHOICE, log entry 54: Table 18.2 numbers the sets alone). A Study unit is unit kind 10 with its region for a number.
-/
namespace Sys2Proof.Machine

open Sys2Proof

/-- The field controller in whose log an error of a unit is written (R426). -/
def upsetFc (u : UnitId) : Nat :=
  if u.kind = 10 then upperField (u.num % 30) else if u.kind = 9 then u.num % 60 else u.pt / 24 % 60

/-- The first item that `p` picks fails at a block with ECC_UNCORR (06, R156). -/
def failFirst (s : State) (lt : Nat) (p : MeItem → Bool) (block : MeItem → Nat) : State :=
  match (meOf s lt).items.find? p with
  | some i => modItem s lt i.slot (fun x => { x with failed := some (x.failed.getD ⟨stEccUncorr, 0, 0, 0, block i⟩) })
  | none => s

/-- A double-bit error of a Matrix Engine's storage (06, R156): a word of a set is met where an item uses it, the item that issues from a weight
buffer fails and the buffer holds no operand any more, and an item with a staged block fails at it. -/
def meStorage (s : State) (u : UnitId) (lt : Nat) : State :=
  if u.num < 4 then modMe s lt (fun m => { m with accErrs := m.accErrs.insert (8192 * u.num) })
  else
    let s1 := reportUE s (upsetFc u) u stEccUncorr 0
    if u.num < 32 then
      let b := u.num % 2
      modMe (failFirst s1 lt (fun i => i.usesBuf b && i.started && decide (i.issued < i.rows)) (fun i => i.issued / 128)) lt
        (fun m => m.setBuf b { m.buf b with valid := false })
    else failFirst s1 lt (fun i => !i.staged.isEmpty) (fun i => ((i.staged.head?).map Prod.fst).getD 0)

/-- A double-bit error of a router's buffer: the packet in it is discarded with a loss notice (Table 18.1; 10, R268). -/
def routerStorage (s : State) (u : UnitId) : State :=
  let s1 := reportUE s (upsetFc u) u 0 0
  match s1.net.find? (fun f => f.pos == u.pt && f.chan.net == u.num && !f.waiting && f.left != 0) with
  | some f => discard s1 f
  | none => s1

/-- A double-bit error of a Study unit's storage: a sample is dropped and counted (Table 18.1; 07, R192). -/
def studyStorage (s : State) (u : UnitId) : State :=
  let s1 := reportUE s (upsetFc u) u 0 0
  if (s1.region (u.num % 30)).samples.isEmpty then s1
  else
    (s1.modRegion (u.num % 30) (fun g => { g with samples := g.samples.drop 1 })).setFfld (upsetFc u) regStudyDrop 15 0
      (satInc 16 (s1.ffld (upsetFc u) regStudyDrop 15 0))

/-- A unit of a tile takes FATAL (R426). -/
def fatalUnit (s : State) (u : UnitId) (what : FatalUnit) : State :=
  match ltOfPt s u.pt with
  | some lt => fatalIn s lt what 0
  | none => s

/-- What follows an error that is found (Table 18.1): a class CE where it is corrected, and else what its source gives. -/
def findUpset (s : State) (e : UnitId × Bool) : State :=
  let u := e.1
  if u.kind = 8 then fatalUnit s u (.control (BitVec.ofNat 32 u.num))
  else if !e.2 then (if u.kind = 11 then mcLog s 1 11 noPt u.num 0 0 else reportCE s (upsetFc u) u 0)
  else match u.kind with
    | 2 => (match ltOfPt s u.pt with | some lt => meStorage s u lt | none => s)
    | 5 => routerStorage s u
    | 6 => fatalUnit s u .tcc
    | 7 => fatalUnit s u (.lane u.num)
    | 9 => nextOf (execFieldControllerFatal (upsetFc u) s) s
    | 10 => studyStorage s u
    | 11 => nextOf (execMcTakeover s) s
    | _ => s

/-- Whether a unit has power: that of a tile's region, or of a Study unit's; controllers always do (16, R409). -/
def hasPower (s : State) (u : UnitId) : Bool :=
  if u.kind = 9 || u.kind = 11 then true
  else regionState s (if u.kind = 10 then u.num % 30 else regionOfField (u.pt / 24)) != 5

/-- Every error in the storage of a unit with power is found. -/
def findUpsets (s : State) : State := (s.upsets.filter (fun e => hasPower s e.1)).foldl findUpset { s with upsets := [] }

end Sys2Proof.Machine
end

