-- ==== Sys2Proof/Machine/Tick.lean ====
section
/-!
DEFINITION. What passes while no command waits: one microsecond of AON time (17, R412, R415, R416, R423), and the networks' work (10, 14).
-/
namespace Sys2Proof.Machine

open Sys2Proof

/-- The cycles that a region's clock counts in a microsecond, by the STATE of its PLL (R416). -/
def regionMhz (st : Nat) : Nat := if st = 2 then 850 else if st = 3 ∨ st = 4 then 200 else 0

/-- The MGMT cycles in a microsecond: 1,000 in RUN, 200 in COAST, and TRIM's 100 before REF is valid (Table 17.1). -/
def mgmtMhz (st : Nat) : Nat := if st = 2 then 1000 else if st = 3 ∨ st = 4 then 200 else 100

/-- The state with the cycles of region `r` advanced by a microsecond. -/
def tickRegion (s : State) (r : Nat) : State := s.modRegion r (fun g => { g with cycles := g.cycles + regionMhz (pllState s (7 + r)) })

/-- Whether a sent write of the DMA engine or the Routing Unit of a tile has had no acknowledgement for 2^XACT_LOG2 cycles (11, Table 11.4; 12, R314;
15, R382). Those of a channel end by CH_XACT_TIMEOUT. -/
def ackOverdue (s : State) (lt : Nat) (r : SendReq) : Bool :=
  r.phase == .sent && decide (r.sentAt + 2 ^ s.tfld lt regChTimeout 12 8 ≤ (s.region (regionOf s lt)).cycles) &&
    match r.owner with
    | .dma _ _ => true
    | .rtu _ => true
    | _ => false

/-- The overdue writes of a tile end with TIMEOUT. -/
def endOverdue (s : State) (lt : Nat) : State :=
  ((s.tile lt).reqs.filter (fun p => ackOverdue s lt p.2)).foldl (fun st p => endReq st lt p.2.msg.reqTag stTimeout) s

/-- A microsecond passes: the AON count and the clocks' cycle counts advance, a broadcast swap of route tables is over (14, R368), writes without an
acknowledgement end, errors in storage are found (18, R425), M firmware handles the traps that reached it (20, R496), and the networks and fabric ports work. Before power-good nothing does. -/
def tick (s : State) : State :=
  if s.mgt.powered then
    let s1 := (List.range 30).foldl tickRegion
      { s with aon := s.aon + 1, mgmtCycles := s.mgmtCycles + mgmtMhz (pllState s 0), fab := { s.fab with swapping := false } }
    netStep (runFirmware (findUpsets ((s1.tiles.map Prod.fst).foldl endOverdue s1)))
  else s

end Sys2Proof.Machine
end

