-- ==== Sys2Proof/Safety.lean ====
section
/-!
DEFINITION. The terms in which statements about the module are made: when an instruction issues and retires, what stays as it was, and
the invariants.
-/
namespace Sys2Proof.Machine

open Sys2Proof

/-! ### Instructions -/

/-- The state in which an instruction of `len` bytes acts: its core waits for nothing, and its words have been fetched (04, R90). -/
def fetched (s : State) (lt : Nat) (c : CoreId) (len : Nat) : State := (fetchInsn (setWait s lt c none) lt c (fetchLen c len)).1

/-- An instruction of `len` bytes issues: the tile and the core exist, the core attempts instructions, no machine check and no interrupt goes
first, the fetch succeeds, and Table 4.4 gives the instruction to this kind of core at this level (04, R90, R94, R112; 11, R297). -/
def issues (s : State) (lt : Nat) (c : CoreId) (len : Nat) (w : Where) : Bool :=
  decide (lt < maxTiles) && coreExists c && canIssue s lt c && (coreFirst s lt c).isNone &&
    (fetchInsn (setWait s lt c none) lt c (fetchLen c len)).2.isNone &&
    (if isTcc c then w.onT else w.onL) && (!(isTcc c && inHandler (fetched s lt c len) lt) || w.inAm) &&
    lvAtLeast (levelAt (fetched s lt c len) lt c) w.level

/-- The core, whose wait has ended, counts the instruction and goes on at `pc`. -/
def jumped (lt : Nat) (c : CoreId) (pc : DWord) (s : State) : State := countRetired (setPc (endWait s lt c) lt c pc) lt c

/-- The core counts the instruction and goes on at the address behind it (04, R90). -/
def retired (lt : Nat) (c : CoreId) (len : Nat) (s : State) : State :=
  jumped lt c (pcOf s lt c + BitVec.ofNat 64 len) s

/-- The name under which a core's registers are held: a lane core of a medium core shares its first lane core's (04, R87). -/
def coreKey (s : State) (lt : Nat) (c : CoreId) : CoreId :=
  match c with
  | .tcc => .tcc
  | .lane n => .lane (leadLane (s.tile lt) n)

/-! ### What stays -/

/-- Every byte of every tile's memory reads as before. -/
def sameMemory (s t : State) : Prop := ∀ lt a, memGet (t.tile lt).mem a = memGet (s.tile lt).mem a

/-- Every byte of tile memory reads as before, but for `n` bytes of tile `lt` from `off`. -/
def sameMemoryBut (lt off n : Nat) (s t : State) : Prop :=
  ∀ lt' a, ¬ (lt' = lt ∧ off ≤ a ∧ a < off + n) → memGet (t.tile lt').mem a = memGet (s.tile lt').mem a

/-- A range of a tile's memory can be read and written now without a fault: its region is not halted, every bank it touches is on and not
isolated, and no word of it is in error (03, R63, R66, R68). -/
def healthy (s : State) (lt off n : Nat) : Bool :=
  !regionRefuses s lt && (wordsOf off n).all (fun w => (wordBlocked s lt w).isNone && wordErr s lt w == 0)

/-- The state after a core has read `n` bytes at `off`: activity counter 4 counts the lines, and counter 14 where they cross the tile
crossbar (16, R392). -/
def readDone (s : State) (lt : Nat) (c : CoreId) (off n : Nat) : State :=
  bumpXbar (bumpCnt s lt 4 (linesOf off n)) (localPath s lt c off n) lt (linesOf off n)

/-- The state after a core has stored bytes at `off`: activity counter 5 counts the lines, and counter 14 where they cross the crossbar. -/
def storeDone (s : State) (lt : Nat) (c : CoreId) (off : Nat) (bs : List Byte) : State :=
  bumpXbar (bumpCnt (memStore s lt off bs) lt 5 (linesOf off bs.length)) (localPath s lt c off bs.length) lt (linesOf off bs.length)

/-! ### Invariants -/

/-- Every memory of every tile is in its canonical form (log entry 3). -/
def memoriesOk (s : State) : Bool := s.tiles.all (fun p => Memory.wf p.2.mem && Memory.wf p.2.istore)

/-- The fuses of `t` follow those of `s`: owners are only added, and no security-version or policy floor falls (19, R446, R447, R449). -/
def fusesFollow (s t : State) : Prop :=
  (∃ more, t.flash.owners = s.flash.owners ++ more) ∧ s.flash.policyFloor ≤ t.flash.policyFloor ∧
    ∀ n, s.flash.floors.getD n 0 ≤ t.flash.floors.getD n 0

end Sys2Proof.Machine
end

