-- ==== Sys2Proof/Certificates/Slice0/Obligations.lean ====
section
/-!
DEFINITION. The statements about the module that are to be proved.
-/
open Sys2Proof Sys2Proof.Machine

/-! ### The block and its queue -/

/-- For every command c and state s, a step of s with c at the front of its queue is exec c on s with the rest of the queue; on an empty queue the step is one microsecond of the clocks (the queue and the idle step are the model's, log entry 10). (00_scope) -/
def Obligations.StepRunsFront : Prop :=
  (∀ (c : Instr) (r : List Instr) (s : State), step { s with pending := c :: r } = exec c { s with pending := r }) ∧
  (∀ s : State, step { s with pending := [] } = .next (tick { s with pending := [] }))

/-! ### Integer instructions -/

/-- The two-operand operations of OP 0x01 with their values on words of `n` bits (Tables 4.4 and 4.5). -/
def Obl.aluRows : List ((Nat → CoreId → BitVec 5 → BitVec 5 → BitVec 5 → Bool → Instr) × ((n : Nat) → BitVec n → BitVec n → BitVec n)) :=
  [(.add, fun _ a b => a + b), (.sub, fun _ a b => a - b), (.and, fun _ a b => a &&& b), (.or, fun _ a b => a ||| b),
   (.xor, fun _ a b => a ^^^ b),
   (.sll, fun n a b => a <<< (b.toNat % n)), (.srl, fun n a b => a >>> (b.toNat % n)), (.sra, fun n a b => a.sshiftRight (b.toNat % n)),
   (.slt, fun n a b => if a.toInt < b.toInt then BitVec.ofNat n 1 else BitVec.ofNat n 0),
   (.sltu, fun n a b => if a.toNat < b.toNat then BitVec.ofNat n 1 else BitVec.ofNat n 0),
   (.min, fun _ a b => if a.toInt ≤ b.toInt then a else b), (.max, fun _ a b => if a.toInt ≤ b.toInt then b else a),
   (.minu, fun _ a b => if a.toNat ≤ b.toNat then a else b), (.maxu, fun _ a b => if a.toNat ≤ b.toNat then b else a),
   (.mul, fun n a b => BitVec.ofInt n (a.toInt * b.toInt)),
   (.mulh, fun n a b => BitVec.ofInt n (a.toInt * b.toInt / 2 ^ n)), (.mulhu, fun n a b => BitVec.ofNat n (a.toNat * b.toNat / 2 ^ n))]

/-- The divisions of OP 0x01 with their values (R95). -/
def Obl.divRows : List ((Nat → CoreId → BitVec 5 → BitVec 5 → BitVec 5 → Bool → Instr) × ((n : Nat) → BitVec n → BitVec n → BitVec n)) :=
  [(.div, fun n a b => if b = 0 then (if a.toInt < 0 then BitVec.intMin n else BitVec.intMax n)
      else if a = BitVec.intMin n ∧ b.toInt = -1 then BitVec.intMax n else BitVec.ofInt n (a.toInt.tdiv b.toInt)),
   (.divu, fun n a b => if b = 0 then BitVec.allOnes n else BitVec.ofNat n (a.toNat / b.toNat)),
   (.rem, fun n a b => if b = 0 then a
      else if a = BitVec.intMin n ∧ b.toInt = -1 then 0 else BitVec.ofInt n (a.toInt.tmod b.toInt)),
   (.remu, fun n a b => if b = 0 then a else BitVec.ofNat n (a.toNat % b.toNat))]

/-- The bit counts of OP 0x01 on words of `n` bits. -/
def Obl.countRows : List ((Nat → CoreId → BitVec 5 → BitVec 5 → BitVec 5 → Bool → Instr) × ((n : Nat) → BitVec n → Nat)) :=
  [(.clz, fun n a => ((List.range n).takeWhile (fun i => !a.getMsbD i)).length),
   (.ctz, fun n a => ((List.range n).takeWhile (fun i => !a.getLsbD i)).length),
   (.popc, fun n a => ((List.range n).filter (fun i => a.getLsbD i)).length)]

/-- The value of a two-operand form on a core: 64 bits on the TCC, whose `.w` form works on bits [31:0] and sign-extends; 32 bits on a lane
core. -/
def Obl.formValue (c : CoreId) (w : Bool) (f : (n : Nat) → BitVec n → BitVec n → BitVec n) (a b : DWord) : DWord :=
  match c, w with
  | .tcc, false => f 64 a b
  | .tcc, true => (f 32 (a.setWidth 32) (b.setWidth 32)).signExtend 64
  | .lane _, _ => (f 32 (a.setWidth 32) (b.setWidth 32)).setWidth 64

/-- div, divu, rem, remu complete wherever they issue: the quotient is truncated toward zero and the remainder takes the sign of the dividend; by zero, div gives the largest positive value for a dividend that is zero or positive and the most negative one otherwise, divu all ones, rem and remu the dividend; the most negative value by -1 gives the largest positive value and remainder zero. Shift amounts are bits [5:0] on the TCC and [4:0] on lane cores and in the .w forms, which shift bits [31:0] and sign-extend; an immediate amount above 31 on a lane core raises illegal operand. Completion: exec answers a next state with the effect stated, under conditions on the state and the operands alone, for every form of sll, srl, sra, div, divu, rem, remu, slli, srli, srai. (R95) -/
def Obligations.DivisionAndShifts : Prop :=
  (∀ p ∈ Obl.divRows, ∀ (s : State) (lt : Nat) (c : CoreId) (rd rs1 rs2 : BitVec 5) (w : Bool),
    issues s lt c 4 anyCore = true → (w = true → c = .tcc) →
    exec (p.1 lt c rd rs1 rs2 w) s = .next (retired lt c 4 (gWrite (fetched s lt c 4) lt c rd
      (Obl.formValue c w p.2 (gRead (fetched s lt c 4) lt c rs1) (gRead (fetched s lt c 4) lt c rs2))))) ∧
  (∀ p ∈ ([(.sll, fun n a k => a <<< k), (.srl, fun n a k => a >>> k), (.sra, fun n a k => a.sshiftRight k)] :
      List ((Nat → CoreId → BitVec 5 → BitVec 5 → BitVec 5 → Bool → Instr) × ((n : Nat) → BitVec n → Nat → BitVec n))),
    ∀ (s : State) (lt : Nat) (rd rs1 rs2 : BitVec 5),
      (issues s lt .tcc 4 anyCore = true →
        exec (p.1 lt .tcc rd rs1 rs2 false) s = .next (retired lt .tcc 4 (gWrite (fetched s lt .tcc 4) lt .tcc rd
          (p.2 64 (gRead (fetched s lt .tcc 4) lt .tcc rs1) (fld (gRead (fetched s lt .tcc 4) lt .tcc rs2) 5 0)))) ∧
        exec (p.1 lt .tcc rd rs1 rs2 true) s = .next (retired lt .tcc 4 (gWrite (fetched s lt .tcc 4) lt .tcc rd
          ((p.2 32 ((gRead (fetched s lt .tcc 4) lt .tcc rs1).setWidth 32)
            (fld (gRead (fetched s lt .tcc 4) lt .tcc rs2) 4 0)).signExtend 64)))) ∧
      (∀ n, issues s lt (.lane n) 4 anyCore = true →
        exec (p.1 lt (.lane n) rd rs1 rs2 false) s = .next (retired lt (.lane n) 4 (gWrite (fetched s lt (.lane n) 4) lt (.lane n) rd
          ((p.2 32 ((gRead (fetched s lt (.lane n) 4) lt (.lane n) rs1).setWidth 32)
            (fld (gRead (fetched s lt (.lane n) 4) lt (.lane n) rs2) 4 0)).setWidth 64))))) ∧
  (∀ i ∈ ([.slli, .srli, .srai] : List (Nat → CoreId → BitVec 5 → BitVec 5 → BitVec 6 → Instr)),
    ∀ (s : State) (lt n : Nat) (rd rs1 : BitVec 5) (amt : BitVec 6), issues s lt (.lane n) 4 anyCore = true → 31 < amt.toNat →
      ∃ word, exec (i lt (.lane n) rd rs1 amt) s =
        .next (coreTrap (fetched s lt (.lane n) 4) lt (.lane n) causeOperand stOk (some word) 0))

/-- add, sub, and, or, xor, sll, srl, sra, slt, sltu, min, max, minu, maxu, mul, mulh, mulhu: where the instruction issues (a .w form on the TCC only), it answers the state after the fetch with rd holding the value of Table 4.5 at the width of the core (a .w form works on bits [31:0] and sign-extends), the pc 4 further and one instruction counted, and nothing else changed; shift amounts are bits [5:0] at 64 bits and bits [4:0] at 32. clz, ctz, popc count the zeros above the highest one, the zeros below the lowest one, and the ones of the operand at the width of the form; addi, andi, ori, xori, cmpi.lt, cmpi.ltu work on rs1 and the sign-extended IMM14; slli, srli, srai shift by the amount where the core's width admits it; ldhi gives IMM19 x 2^13 sign-extended and ldpc adds it to the pc. Each completes wherever it issues with rd written, the pc 4 further, and nothing else changed. Completion: exec answers a next state with the effect stated, under conditions on the state and the operands alone, for every form of add, sub, and, or, xor, sll, srl, sra, slt, sltu, min, max, minu, maxu, mul, mulh, mulhu, clz, ctz, popc, addi, andi, ori, xori, cmpiLt, cmpiLtu, slli, srli, srai, ldhi, ldpc. (R86, R87, R94, R95, R91, 04_drait_instruction_set) -/
def Obligations.IntegerResult : Prop :=
  (∀ p ∈ Obl.aluRows, ∀ (s : State) (lt : Nat) (c : CoreId) (rd rs1 rs2 : BitVec 5) (w : Bool),
    issues s lt c 4 anyCore = true → (w = true → c = .tcc) →
    exec (p.1 lt c rd rs1 rs2 w) s = .next (retired lt c 4 (gWrite (fetched s lt c 4) lt c rd
      (Obl.formValue c w p.2 (gRead (fetched s lt c 4) lt c rs1) (gRead (fetched s lt c 4) lt c rs2))))) ∧
  ((∀ p ∈ Obl.countRows, ∀ (s : State) (lt : Nat) (c : CoreId) (rd rs1 rs2 : BitVec 5) (w : Bool),
    issues s lt c 4 anyCore = true → (w = true → c = .tcc) →
    exec (p.1 lt c rd rs1 rs2 w) s = .next (retired lt c 4 (gWrite (fetched s lt c 4) lt c rd (BitVec.ofNat 64
      (if c = .tcc ∧ w = false then p.2 64 (gRead (fetched s lt c 4) lt c rs1)
       else p.2 32 ((gRead (fetched s lt c 4) lt c rs1).setWidth 32)))))) ∧
  (∀ p ∈ ([(.addi, fun _ a b => a + b), (.andi, fun _ a b => a &&& b), (.ori, fun _ a b => a ||| b), (.xori, fun _ a b => a ^^^ b),
      (.cmpiLt, fun n a b => if a.toInt < b.toInt then BitVec.ofNat n 1 else BitVec.ofNat n 0),
      (.cmpiLtu, fun n a b => if a.toNat < b.toNat then BitVec.ofNat n 1 else BitVec.ofNat n 0)] :
      List ((Nat → CoreId → BitVec 5 → BitVec 5 → BitVec 14 → Instr) × ((n : Nat) → BitVec n → BitVec n → BitVec n))),
    ∀ (s : State) (lt : Nat) (c : CoreId) (rd rs1 : BitVec 5) (imm : BitVec 14), issues s lt c 4 anyCore = true →
    exec (p.1 lt c rd rs1 imm) s = .next (retired lt c 4 (gWrite (fetched s lt c 4) lt c rd
      (Obl.formValue c false p.2 (gRead (fetched s lt c 4) lt c rs1) (imm.signExtend 64))))) ∧
  (∀ p ∈ ([(.slli, fun _ a k => a <<< k), (.srli, fun _ a k => a >>> k), (.srai, fun _ a k => a.sshiftRight k)] :
      List ((Nat → CoreId → BitVec 5 → BitVec 5 → BitVec 6 → Instr) × ((n : Nat) → BitVec n → Nat → BitVec n))),
    ∀ (s : State) (lt : Nat) (c : CoreId) (rd rs1 : BitVec 5) (amt : BitVec 6), issues s lt c 4 anyCore = true →
    (c = .tcc ∨ amt.toNat ≤ 31) →
    exec (p.1 lt c rd rs1 amt) s = .next (retired lt c 4 (gWrite (fetched s lt c 4) lt c rd
      (Obl.formValue c false (fun n a _ => p.2 n a amt.toNat) (gRead (fetched s lt c 4) lt c rs1) 0)))) ∧
  (∀ (s : State) (lt : Nat) (c : CoreId) (rd : BitVec 5) (imm : BitVec 19), issues s lt c 4 anyCore = true →
    exec (.ldhi lt c rd imm) s = .next (retired lt c 4 (gWrite (fetched s lt c 4) lt c rd (BitVec.ofInt 64 (imm.toInt * 2 ^ 13)))) ∧
    exec (.ldpc lt c rd imm) s = .next (retired lt c 4 (gWrite (fetched s lt c 4) lt c rd
      (pcOf (fetched s lt c 4) lt c + BitVec.ofInt 64 (imm.toInt * 2 ^ 13))))))

/-- call sets rd to pc + 4 and goes on at pc + IMM19 x 4; call.r takes rs1 with bits [1:0] cleared plus IMM14 x 4, read before rd is written; br.eq, br.ne, br.lt, br.ge, br.ltu, br.geu go on at pc + IMM11 x 4 where rs1 COND rs2 holds at the width of the core and at pc + 4 where it does not, and write no register. Each completes wherever it issues. Completion: exec answers a next state with the effect stated, under conditions on the state and the operands alone, for every form of call, callR, brEq, brNe, brLt, brGe, brLtu, brGeu. (R94, 04_drait_instruction_set) -/
def Obligations.JumpsAndBranches : Prop :=
  (∀ (s : State) (lt : Nat) (c : CoreId) (rd : BitVec 5) (imm : BitVec 19), issues s lt c 4 anyCore = true →
    exec (.call lt c rd imm) s = .next (jumped lt c (pcOf (fetched s lt c 4) lt c + BitVec.ofInt 64 (imm.toInt * 4))
      (gWrite (fetched s lt c 4) lt c rd (pcOf (fetched s lt c 4) lt c + 4)))) ∧
  (∀ (s : State) (lt : Nat) (c : CoreId) (rd rs1 : BitVec 5) (imm : BitVec 14), issues s lt c 4 anyCore = true →
    exec (.callR lt c rd rs1 imm) s = .next (jumped lt c
      (setFld (gRead (fetched s lt c 4) lt c rs1) 1 0 0 + BitVec.ofInt 64 (imm.toInt * 4))
      (gWrite (fetched s lt c 4) lt c rd (pcOf (fetched s lt c 4) lt c + 4)))) ∧
  (∀ p ∈ ([(.brEq, fun _ a b => decide (a = b)), (.brNe, fun _ a b => decide (a ≠ b)),
      (.brLt, fun _ a b => decide (a.toInt < b.toInt)), (.brGe, fun _ a b => decide (b.toInt ≤ a.toInt)),
      (.brLtu, fun _ a b => decide (a.toNat < b.toNat)), (.brGeu, fun _ a b => decide (b.toNat ≤ a.toNat))] :
      List ((Nat → CoreId → BitVec 5 → BitVec 5 → BitVec 11 → Instr) × ((n : Nat) → BitVec n → BitVec n → Bool))),
    ∀ (s : State) (lt : Nat) (c : CoreId) (rs1 rs2 : BitVec 5) (imm : BitVec 11), issues s lt c 4 anyCore = true →
    exec (p.1 lt c rs1 rs2 imm) s =
      if (match c with
          | .tcc => p.2 64 (gRead (fetched s lt c 4) lt c rs1) (gRead (fetched s lt c 4) lt c rs2)
          | .lane _ => p.2 32 ((gRead (fetched s lt c 4) lt c rs1).setWidth 32) ((gRead (fetched s lt c 4) lt c rs2).setWidth 32)) = true
      then .next (jumped lt c (pcOf (fetched s lt c 4) lt c + BitVec.ofInt 64 (imm.toInt * 4)) (fetched s lt c 4))
      else .next (retired lt c 4 (fetched s lt c 4)))

/-! ### What a register write is -/

/-- On every core g0 reads as zero; writing it changes nothing at all; writing another register of the TCC or of a lane core makes it read as the value written, cut to the core's width, and every other register of every core, each core's pc, and all of memory stay as they were. (R88) -/
def Obligations.RegisterWrite : Prop :=
  (∀ (s : State) (lt : Nat) (c : CoreId), gRead s lt c 0 = 0) ∧
  (∀ (s : State) (lt : Nat) (c : CoreId) (v : DWord), gWrite s lt c 0 v = s) ∧
  (∀ (s : State) (lt : Nat) (c : CoreId) (r : BitVec 5) (v : DWord), r ≠ 0 →
    gRead (gWrite s lt c r v) lt c r = (match c with | .tcc => v | .lane _ => (v.setWidth 32).setWidth 64)) ∧
  (∀ (s : State) (lt : Nat) (c : CoreId) (r : BitVec 5) (v : DWord) (lt' : Nat) (c' : CoreId) (r' : BitVec 5),
    coreExists c = true → coreExists c' = true → (lt', coreKey s lt' c', r') ≠ (lt, coreKey s lt c, r) →
    gRead (gWrite s lt c r v) lt' c' r' = gRead s lt' c' r') ∧
  (∀ (s : State) (lt : Nat) (c : CoreId) (r : BitVec 5) (v : DWord) (lt' : Nat) (c' : CoreId),
    pcOf (gWrite s lt c r v) lt' c' = pcOf s lt' c' ∧ waitOf (gWrite s lt c r v) lt' c' = waitOf s lt' c' ∧
    levelAt (gWrite s lt c r v) lt' c' = levelAt s lt' c') ∧
  (∀ (s : State) (lt : Nat) (c : CoreId) (r : BitVec 5) (v : DWord), sameMemory s (gWrite s lt c r v))

/-- Retiring an instruction moves the core's own pc on by its length and leaves every other core's pc, every general register and every byte of memory; the fetch before it leaves every general register, every pc and every byte of memory (it may correct or mark a word in error, R63). (R90, R63, 04_drait_instruction_set, 03_tile_memory_and_bolts) -/
def Obligations.RetireAndFetchFrame : Prop :=
  (∀ (s : State) (lt : Nat) (c : CoreId) (len : Nat), coreExists c = true →
    pcOf (retired lt c len s) lt c = (match c with
      | .tcc => pcOf s lt c + BitVec.ofNat 64 len
      | .lane _ => ((pcOf s lt c + BitVec.ofNat 64 len).setWidth 32).setWidth 64) ∧
    (∀ lt' c', coreExists c' = true → (lt', coreKey s lt' c') ≠ (lt, coreKey s lt c) → pcOf (retired lt c len s) lt' c' = pcOf s lt' c') ∧
    (∀ lt' c' r, gRead (retired lt c len s) lt' c' r = gRead s lt' c' r) ∧ sameMemory s (retired lt c len s)) ∧
  (∀ (s : State) (lt : Nat) (c : CoreId) (len : Nat),
    (∀ lt' c' r, gRead (fetched s lt c len) lt' c' r = gRead s lt' c' r) ∧
    (∀ lt' c', pcOf (fetched s lt c len) lt' c' = pcOf s lt' c') ∧ sameMemory s (fetched s lt c len))

/-! ### Loads, stores, atomics -/

/-- The value that `ld` gives for a size code: b, h, w sign-extended, d whole, bu, hu, wu zero-extended (Table 4.5). -/
def Obl.loadValue (sz : Nat) (x : Nat) : DWord :=
  match sz with
  | 0 => (BitVec.ofNat 8 x).signExtend 64
  | 1 => (BitVec.ofNat 16 x).signExtend 64
  | 2 => (BitVec.ofNat 32 x).signExtend 64
  | _ => BitVec.ofNat 64 x

/-- Whether Table 4.5 gives `ld` a size code on a core: b, h, w, bu, hu on both, d and wu on the TCC. -/
def Obl.loadSizes (c : CoreId) : List (BitVec 3) := match c with | .tcc => [0, 1, 2, 3, 4, 5, 6] | .lane _ => [0, 1, 2, 4, 5]

/-- Whether Table 4.5 gives `st` a size code on a core. -/
def Obl.storeSizes (c : CoreId) : List (BitVec 3) := match c with | .tcc => [0, 1, 2, 3] | .lane _ => [0, 1, 2]

/-- Where ld issues with a size code that Table 4.5 gives its core, at an address rs1 + IMM11 x size that is a multiple of the size and that reaches an offset of the issuing tile whose bytes can be read, it completes with rd holding those bytes, little-endian, sign- or zero-extended as the code says, and memory unchanged; on a register block the TCC at S or M outside a handler reads one or two register words. Completion: exec answers a next state with the effect stated, under conditions on the state and the operands alone, for every form of ld. (R96, R97, R63, 04_drait_instruction_set) -/
def Obligations.LoadReads : Prop :=
  (∀ (s : State) (lt : Nat) (c : CoreId) (rd rs1 : BitVec 5) (sz : BitVec 3) (imm : BitVec 11) (s1 : State) (off : Nat),
    issues s lt c 4 anyCore = true → sz ∈ Obl.loadSizes c →
    let f := fetched s lt c 4
    let n : Nat := 2 ^ (sz.toNat % 4)
    let a := (addrOf f lt c rs1 (BitVec.ofInt 64 (imm.toInt * n))).toNat
    a % n = 0 → coreOffset f lt c a n .read = (s1, .ok off) → healthy s1 lt off n = true →
    exec (.ld lt c rd rs1 sz imm) s = .next (retired lt c 4 (gWrite (readDone s1 lt c off n) lt c rd
      (Obl.loadValue sz.toNat (leNat (memBytes (s1.tile lt).mem off n))))) ∧
    sameMemory f (retired lt c 4 (gWrite (readDone s1 lt c off n) lt c rd (Obl.loadValue sz.toNat (leNat (memBytes (s1.tile lt).mem off n)))))) ∧
  (∀ (s : State) (lt : Nat) (rd rs1 : BitVec 5) (sz : BitVec 3) (imm : BitVec 11) (s1 : State) (off : Nat),
    issues s lt .tcc 4 anyCore = true → sz ∈ ([2, 3, 6] : List (BitVec 3)) →
    let f := fetched s lt .tcc 4
    let n : Nat := 2 ^ (sz.toNat % 4)
    let a := (addrOf f lt .tcc rs1 (BitVec.ofInt 64 (imm.toInt * n))).toNat
    a % n = 0 → localAddr f lt a .read (f.tile lt).tcc.prv ((f.tile lt).tcc.xlat && !inHandler f lt) = (s1, .ok off) →
    inBlocks off = true → (s1.tile lt).tcc.prv ≠ .u → inHandler s1 lt = false →
    exec (.ld lt .tcc rd rs1 sz imm) s =
      (let p := regReadFx s1 (.tile lt) off
       if n = 4 then .next (retired lt .tcc 4 (gWrite p.1 lt .tcc rd (Obl.loadValue sz.toNat p.2.toNat)))
       else
        let q := regReadFx p.1 (.tile lt) (off + 4)
        .next (retired lt .tcc 4 (gWrite q.1 lt .tcc rd (BitVec.ofNat 64 (p.2.toNat + 2 ^ 32 * q.2.toNat))))))

/-- Where st issues with a size code that Table 4.5 gives its core, at a naturally aligned address that reaches an offset of the issuing tile outside every Bolt that forbids plain stores and whose words can be written, it completes: the bytes at that offset read as the low bytes of the stored register, every byte outside them reads as before, and no register is written; on a register block the TCC at S or M outside a handler writes one or two register words, each with the bits that hardware sets in that cycle. Completion: exec answers a next state with the effect stated, under conditions on the state and the operands alone, for every form of st. (R96, R97, R63, R74, 04_drait_instruction_set, 03_tile_memory_and_bolts) -/
def Obligations.StoreWrites : Prop :=
  (∀ (s : State) (lt : Nat) (c : CoreId) (rd rs1 : BitVec 5) (sz : BitVec 3) (imm : BitVec 11) (sets : BitVec 64) (s1 : State) (off : Nat),
    issues s lt c 4 anyCore = true → sz ∈ Obl.storeSizes c →
    let f := fetched s lt c 4
    let n : Nat := 2 ^ (sz.toNat % 4)
    let a := (addrOf f lt c rs1 (BitVec.ofInt 64 (imm.toInt * n))).toNat
    a % n = 0 → coreOffset f lt c a n .write = (s1, .ok off) → boltForbids s1 lt off n = false → healthy s1 lt off n = true →
    ∃ t, exec (.st lt c rd rs1 sz ⟨imm, sets⟩) s = .next t ∧
      t = retired lt c 4 (storeDone s1 lt c off (leBytes n (gRead f lt c rd).toNat)) ∧
      (Memory.wf (s1.tile lt).mem = true →
        memBytes (t.tile lt).mem off n = leBytes n (gRead f lt c rd).toNat ∧ sameMemoryBut lt off n f t) ∧
      (∀ lt' c' r, gRead t lt' c' r = gRead f lt' c' r)) ∧
  (∀ (s : State) (lt : Nat) (rd rs1 : BitVec 5) (sz : BitVec 3) (imm : BitVec 11) (sets : BitVec 64) (s1 : State) (off : Nat),
    issues s lt .tcc 4 anyCore = true → sz ∈ ([2, 3] : List (BitVec 3)) →
    let f := fetched s lt .tcc 4
    let n : Nat := 2 ^ (sz.toNat % 4)
    let a := (addrOf f lt .tcc rs1 (BitVec.ofInt 64 (imm.toInt * n))).toNat
    a % n = 0 → localAddr f lt a .write (f.tile lt).tcc.prv ((f.tile lt).tcc.xlat && !inHandler f lt) = (s1, .ok off) →
    inBlocks off = true → (s1.tile lt).tcc.prv ≠ .u → inHandler s1 lt = false →
    let p := regWriteSet s1 (.tile lt) (s1.tile lt).tcc.prv off ((gRead f lt .tcc rd).setWidth 32) (sets.setWidth 32)
    p.2 = stOk →
    (n = 4 → exec (.st lt .tcc rd rs1 sz ⟨imm, sets⟩) s = .next (retired lt .tcc 4 p.1)) ∧
    (n = 8 → let q := regWriteSet p.1 (.tile lt) (s1.tile lt).tcc.prv (off + 4) (((gRead f lt .tcc rd) >>> 32).setWidth 32) ((sets >>> 32).setWidth 32)
      q.2 = stOk → exec (.st lt .tcc rd rs1 sz ⟨imm, sets⟩) s = .next (retired lt .tcc 4 q.1)))

/-- The atomics with the word they write from the old word, rs2 and rd at the width of the access, none where they write nothing. -/
def Obl.amoRows : List ((Nat → CoreId → BitVec 5 → BitVec 5 → BitVec 5 → Bool → Instr) ×
    ((n : Nat) → BitVec n → BitVec n → BitVec n → Option (BitVec n))) :=
  [(.amoSwap, fun _ _ v _ => some v), (.amoAdd, fun _ o v _ => some (o + v)), (.amoAnd, fun _ o v _ => some (o &&& v)),
   (.amoOr, fun _ o v _ => some (o ||| v)), (.amoXor, fun _ o v _ => some (o ^^^ v)),
   (.amoMin, fun _ o v _ => some (if o.toInt ≤ v.toInt then o else v)), (.amoMax, fun _ o v _ => some (if v.toInt ≤ o.toInt then o else v)),
   (.amoMinu, fun _ o v _ => some (if o.toNat ≤ v.toNat then o else v)), (.amoMaxu, fun _ o v _ => some (if v.toNat ≤ o.toNat then o else v)),
   (.amoCas, fun _ o v d => if o = d then some v else none)]

/-- Each of the ten atomics, in its 4 B form on either core and its 8 B form on the TCC, where it issues at an aligned address that reaches a word of the issuing tile that may be stored to, writes the word that its function gives from the old word, rs2 and rd (amo.cas writes rs2 only where the word equals rd), returns the old word in rd, sign-extended for 4 B, and leaves every other byte of memory; it raises misaligned access elsewhere before the address is looked at. Completion: exec answers a next state with the effect stated, under conditions on the state and the operands alone, for every form of amoSwap, amoAdd, amoAnd, amoOr, amoXor, amoMin, amoMax, amoMinu, amoMaxu, amoCas. (R96, R97, R74, 04_drait_instruction_set) -/
def Obligations.AtomicResult : Prop :=
  (∀ p ∈ Obl.amoRows, ∀ (s : State) (lt : Nat) (c : CoreId) (rd rs1 rs2 : BitVec 5) (four : Bool) (s1 : State) (off : Nat),
    issues s lt c 4 anyCore = true → (four = true ∨ c = .tcc) →
    let f := fetched s lt c 4
    let n : Nat := if four then 4 else 8
    let a := (addrOf f lt c rs1 0).toNat
    a % n = 0 → coreOffset f lt c a n .write = (s1, .ok off) → boltForbids s1 lt off n = false → healthy s1 lt off n = true →
    let old := BitVec.ofNat (8 * n) (leNat (memBytes (s1.tile lt).mem off n))
    let s2 := match p.2 (8 * n) old ((gRead f lt c rs2).setWidth (8 * n)) ((gRead f lt c rd).setWidth (8 * n)) with
      | none => readDone s1 lt c off n
      | some v => storeDone (readDone s1 lt c off n) lt c off (leBytes n v.toNat)
    exec (p.1 lt c rd rs1 rs2 four) s = .next (retired lt c 4 (gWrite s2 lt c rd (old.signExtend 64))) ∧
    (Memory.wf (s1.tile lt).mem = true → sameMemoryBut lt off n f (retired lt c 4 (gWrite s2 lt c rd (old.signExtend 64))))) ∧
  (∀ p ∈ Obl.amoRows, ∀ (s : State) (lt : Nat) (c : CoreId) (rd rs1 rs2 : BitVec 5) (four : Bool),
    issues s lt c 4 anyCore = true → (four = true ∨ c = .tcc) →
    (addrOf (fetched s lt c 4) lt c rs1 0).toNat % (if four then 4 else 8) ≠ 0 →
    exec (p.1 lt c rd rs1 rs2 four) s =
      .next (coreTrap (fetched s lt c 4) lt c causeAlign stOk (some (addrOf (fetched s lt c 4) lt c rs1 0)) 0))

/-- ld.tr, where its request of 32 B can be read and is within the limits of R83 and 64 KiB and its block can be read, writes the packed result at rs2 and completes; vld on a lane core or medium core, at an address that is a multiple of 16 whose visible bytes can be read, sets vd of each active lane core j to the 16 B at address + 16j; vst stores them, and every byte outside them reads as before. Completion: exec answers a next state with the effect stated, under conditions on the state and the operands alone, for every form of ldTr, vld, vst. (R96, R98, R99, 04_drait_instruction_set) -/
def Obligations.BlockAndVectorAccess : Prop :=
  (∀ (s : State) (lt : Nat) (c : CoreId) (rd rs1 rs2 : BitVec 5) (s1 s2 s3 : State) (b bs : List Byte),
    issues s lt c 4 anyCoreNoAm = true →
    let f := fetched s lt c 4
    coreRead f lt c (addrOf f lt c rs1 0).toNat 32 = (s1, .ok b) →
    (trRequest b).valid = true → (trRequest b).size ≤ 65536 →
    blockRead s1 lt (levelAt s1 lt c) (trRequest b) = (s2, .ok bs) →
    storePieces s2 lt c bs (piecesOf (addrOf s2 lt c rs2 0).toNat bs.length) = (s3, none) →
    exec (.ldTr lt c rd rs1 rs2) s = .next (retired lt c 4 s3)) ∧
  (∀ (s : State) (lt n : Nat) (vd rs1 : BitVec 5) (imm : BitVec 11), issues s lt (.lane n) 4 laneOnly = true →
    let f := fetched s lt (.lane n) 4
    let a := (addrOf f lt (.lane n) rs1 (BitVec.ofInt 64 (imm.toInt * 16))).toNat
    let ls := coreLanes (f.tile lt) n
    a % 16 = 0 → visible a (16 * ls.length) = true → healthy f lt a (16 * ls.length) = true →
    (∃ t, exec (.vld lt (.lane n) vd rs1 imm) s = .next t ∧ sameMemory f t ∧
      (∀ j < ls.length, vGet t lt (ls.getD j 0) vd = BitVec.ofNat 128 (leNat (memBytes (f.tile lt).mem (a + 16 * j) 16))) ∧
      ∀ m r, (m ∉ ls ∨ r ≠ vd) → vGet t lt m r = vGet f lt m r) ∧
    (boltForbids f lt a (16 * ls.length) = false → Memory.wf (f.tile lt).mem = true →
      ∃ t, exec (.vst lt (.lane n) vd rs1 imm) s = .next t ∧ sameMemoryBut lt a (16 * ls.length) f t ∧
        (∀ j < ls.length, memBytes (t.tile lt).mem (a + 16 * j) 16 = leBytes 16 (vGet f lt (ls.getD j 0) vd).toNat) ∧
        ∀ m r, vGet t lt m r = vGet f lt m r))

/-- ld and st with a size code of their core, vld and vst, at an address that is not a multiple of the size of the access (16 for vectors), raise misaligned access with the address and change no byte of memory, whatever the address. (R96, 04_drait_instruction_set) -/
def Obligations.MisalignedTraps : Prop :=
  (∀ (s : State) (lt : Nat) (c : CoreId) (rd rs1 : BitVec 5) (sz : BitVec 3) (imm : BitVec 11) (sets : BitVec 64), issues s lt c 4 anyCore = true →
    let f := fetched s lt c 4
    let n : Nat := 2 ^ (sz.toNat % 4)
    let a := addrOf f lt c rs1 (BitVec.ofInt 64 (imm.toInt * n))
    a.toNat % n ≠ 0 →
    (sz ∈ Obl.loadSizes c → exec (.ld lt c rd rs1 sz imm) s = .next (coreTrap f lt c causeAlign stOk (some a) 0)) ∧
    (sz ∈ Obl.storeSizes c → exec (.st lt c rd rs1 sz ⟨imm, sets⟩) s = .next (coreTrap f lt c causeAlign stOk (some a) 0))) ∧
  (∀ (s : State) (lt n : Nat) (vd rs1 : BitVec 5) (imm : BitVec 11), issues s lt (.lane n) 4 laneOnly = true →
    let f := fetched s lt (.lane n) 4
    let a := addrOf f lt (.lane n) rs1 (BitVec.ofInt 64 (imm.toInt * 16))
    a.toNat % 16 ≠ 0 →
    exec (.vld lt (.lane n) vd rs1 imm) s = .next (coreTrap f lt (.lane n) causeAlign stOk (some a) 0) ∧
    exec (.vst lt (.lane n) vd rs1 imm) s = .next (coreTrap f lt (.lane n) causeAlign stOk (some a) 0)) ∧
  (∀ (s : State) (lt : Nat) (c : CoreId) (info : Option DWord), sameMemory s (coreTrap s lt c causeAlign stOk info 0))

/-! ### Bolts -/

/-- COMMIT advances over the longest run of reservations at the front of the completion window that have landed, and no further; reserving k slots advances RESERVE by k and leaves HEAD and COMMIT; releasing k slots advances HEAD by k and leaves COMMIT, RESERVE and the window; all modulo twice the slot count (which the registers' 20 bits hold), and none of them writes memory. (R70, R72, 03_tile_memory_and_bolts) -/
def Obligations.BoltCounters : Prop :=
  ∀ (s : State) (lt b k : Nat), b < 64 → boltMod s lt b ≤ 2 ^ 20 →
    (boltCommit (boltAdvance s lt b) lt b =
        (boltCommit s lt b + (((boltWindow s lt b).takeWhile (fun r => r.landed)).map (fun r => r.slots)).sum) % boltMod s lt b ∧
      boltWindow (boltAdvance s lt b) lt b = (boltWindow s lt b).dropWhile (fun r => r.landed) ∧
      boltHead (boltAdvance s lt b) lt b = boltHead s lt b ∧ boltReserve (boltAdvance s lt b) lt b = boltReserve s lt b) ∧
    (boltReserve (boltTake s lt b k) lt b = (boltReserve s lt b + k) % boltMod s lt b ∧
      boltHead (boltTake s lt b k) lt b = boltHead s lt b ∧ boltCommit (boltTake s lt b k) lt b = boltCommit s lt b ∧
      boltWindow (boltTake s lt b k) lt b = boltWindow s lt b ++ [⟨boltReserve s lt b, k, false, false⟩]) ∧
    (boltHead (boltRelease s lt b k) lt b = (boltHead s lt b + k) % boltMod s lt b ∧
      boltCommit (boltRelease s lt b k) lt b = boltCommit s lt b ∧ boltReserve (boltRelease s lt b k) lt b = boltReserve s lt b ∧
      boltWindow (boltRelease s lt b k) lt b = boltWindow s lt b) ∧
    sameMemory s (boltAdvance s lt b) ∧ sameMemory s (boltTake s lt b k) ∧ sameMemory s (boltRelease s lt b k)

/-- On an enabled Bolt: bolt.push of 1 to 65,536 bytes that fit its free slots reserves the slots, copies the bytes and returns the first slot's counter; bolt.peek returns the address of the head slot; bolt.pop copies the head slot to rs1, releases it and returns its size; bolt.rel releases rs2 slots, never past COMMIT. peek and pop of an empty Bolt stall, or fault with BOLT_EMPTY where STRICT is set; push without room stalls. On a Bolt that is not enabled all four raise a Bolt fault with PEER_CLOSED. Completion: exec answers a next state with the effect stated, under conditions on the state and the operands alone, for every form of boltPush, boltPeek, boltPop, boltRel. (R71, R72, R100, 04_drait_instruction_set, 03_tile_memory_and_bolts) -/
def Obligations.BoltInstructions : Prop :=
  ∀ (s : State) (lt : Nat) (c : CoreId) (rd rs1 rs2 : BitVec 5) (idx : BitVec 6), issues s lt c 4 anyCoreNoAm = true →
    let f := fetched s lt c 4
    let b := idx.toNat
    let slot := cfgSlot (boltCfg f lt b)
    let n := (gRead f lt c rs2).toNat
    let a := (gRead f lt c rs1).toNat
    (boltOpen f lt b = true →
      (1 ≤ n → n ≤ 65536 → ceilDiv n slot ≤ boltSlots (boltCfg f lt b) →
        (ceilDiv n slot ≤ boltFree f lt b → (boltWindow f lt b).length < 64 →
          ∀ s1 bs s2, coreRead f lt c a n = (s1, .ok bs) → writeParts s1 lt c (boltParts s1 lt b (boltReserve f lt b) bs) = (s2, none) →
            exec (.boltPush lt c rd rs1 rs2 idx) s = .next (retired lt c 4
              (gWrite (boltLand (boltTake s2 lt b (ceilDiv n slot)) lt b (boltReserve f lt b) false) lt c rd
                (BitVec.ofNat 64 (boltReserve f lt b))))) ∧
        (boltFree f lt b < ceilDiv n slot →
          exec (.boltPush lt c rd rs1 rs2 idx) s = .next (setWait f lt c (some (.bolt b))))) ∧
      (boltReady f lt b ≠ 0 →
        exec (.boltPeek lt c rd rs1 rs2 idx) s = .next (retired lt c 4
          (gWrite f lt c rd (BitVec.ofNat 64 (slotOff f lt b (boltHead f lt b))))) ∧
        (∀ s2, healthy f lt (slotOff f lt b (boltHead f lt b)) slot = true →
          storePieces (readDone f lt c (slotOff f lt b (boltHead f lt b)) slot) lt c
            (memBytes (f.tile lt).mem (slotOff f lt b (boltHead f lt b)) slot) (piecesOf a slot) = (s2, none) →
          exec (.boltPop lt c rd rs1 rs2 idx) s = .next (retired lt c 4
            (gWrite (boltRelease s2 lt b 1) lt c rd (BitVec.ofNat 64 slot))))) ∧
      (boltReady f lt b = 0 → bit (boltCfg f lt b) 1 = false →
        exec (.boltPeek lt c rd rs1 rs2 idx) s = .next (setWait f lt c (some (.bolt b))) ∧
        exec (.boltPop lt c rd rs1 rs2 idx) s = .next (setWait f lt c (some (.bolt b)))) ∧
      (boltReady f lt b = 0 → bit (boltCfg f lt b) 1 = true →
        exec (.boltPeek lt c rd rs1 rs2 idx) s =
          .next (coreTrap (f.setTbit lt (regBoltStatus b) 3 true) lt c causeBolt stBoltEmpty none 0) ∧
        exec (.boltPop lt c rd rs1 rs2 idx) s =
          .next (coreTrap (f.setTbit lt (regBoltStatus b) 3 true) lt c causeBolt stBoltEmpty none 0)) ∧
      (1 ≤ n → n ≤ boltReady f lt b →
        exec (.boltRel lt c rd rs1 rs2 idx) s = .next (retired lt c 4 (boltRelease f lt b n)))) ∧
    (boltOpen f lt b = false → ∀ i ∈ ([.boltPush, .boltPeek, .boltPop, .boltRel] :
        List (Nat → CoreId → BitVec 5 → BitVec 5 → BitVec 5 → BitVec 6 → Instr)),
      exec (i lt c rd rs1 rs2 idx) s = .next (coreTrap f lt c causeBolt stPeerClosed none 0))

/-- From S or M: a write that sets EN of a Bolt that is closed and not the Sketch store's opens it with the configuration written where that is valid, and leaves it closed with CFG_ERR where it is not; clearing EN closes it and empties its request queue; HEAD, COMMIT and RESERVE take a write only while EN, GRANTED and the window are clear, and while one of the three is not a write changes nothing; setting EN of a closed landing window with a valid range opens it; MEM_LWIN_REL releases granted bytes, never more than are granted; a core that waits on a Bolt past the stall timeout sets STALLED and goes on waiting. The same writes from U change nothing and answer PROT_FAULT. Completion: exec answers a next state with the effect stated, under conditions on the state and the operands alone, for every form of boltEnable, boltClose, boltCounterWrite, boltStallTimeout, lwinEnable, lwinRelease. (R69, R73, R75, R81, R82, 03_tile_memory_and_bolts, 11_channels_and_messages) -/
def Obligations.BoltRegisters : Prop :=
  ∀ (s : State) (lt : Nat) (lv : Level) (b : BitVec 6) (m : BitVec 4) (v : Word) (w : BoltCounter), lt < 1320 →
    (lv ≠ .u →
      ((s.tile lt).boltOwned.contains b.toNat = false → bit (boltCfg s lt b.toNat) 0 = false →
        (boltCfgValid s lt b.toNat (setBit v 0 true &&& boltCfgMask) = true →
          ∃ t, exec (.boltEnable lt lv b v) s = .next t ∧ boltCfg t lt b.toNat = (setBit v 0 true &&& boltCfgMask) ∧
            bit (boltCfg t lt b.toNat) 0 = true ∧ t.replies = s.replies ++ [⟨0, 0, leBytes 4 0⟩] ∧ sameMemory s t) ∧
        (boltCfgValid s lt b.toNat (setBit v 0 true &&& boltCfgMask) = false →
          ∃ t, exec (.boltEnable lt lv b v) s = .next t ∧ bit (boltCfg t lt b.toNat) 0 = false ∧
            t.tbit lt (regBoltStatus b.toNat) 5 = true ∧ sameMemory s t)) ∧
      ((s.tile lt).boltOwned.contains b.toNat = false → bit (boltCfg s lt b.toNat) 0 = true →
        ∃ t, exec (.boltClose lt lv b v) s = .next t ∧ bit (boltCfg t lt b.toNat) 0 = false ∧
          kvGet [] (t.tile lt).reqQ b.toNat = [] ∧ sameMemory s t) ∧
      (bit (boltCfg s lt b.toNat) 0 = false → s.tfld lt (regBoltGranted b.toNat) 19 0 = 0 → boltWindow s lt b.toNat = [] →
        (s.tile lt).boltOwned.contains b.toNat = false →
        ∃ t, exec (.boltCounterWrite lt lv b w v) s = .next t ∧ t.treg lt (counterReg b.toNat w) = (v &&& 0xFFFFF) ∧ sameMemory s t) ∧
      ((bit (boltCfg s lt b.toNat) 0 = true ∨ s.tfld lt (regBoltGranted b.toNat) 19 0 ≠ 0 ∨ boltWindow s lt b.toNat ≠ []) →
        exec (.boltCounterWrite lt lv b w v) s = .next (accessReply s stOk 0)) ∧
      (s.tbit lt (regMemLwinBase m.toNat) 0 = false →
        let r := lwinRange v (s.treg lt (regMemLwinSize m.toNat))
        1 ≤ r.2 → visible r.1 r.2 = true → meetsBolt s lt r 64 = false →
        ∃ t, exec (.lwinEnable lt lv m v) s = .next t ∧ t.tbit lt (regMemLwinBase m.toNat) 0 = true ∧
          fld (t.treg lt (regMemLwinBase m.toNat)) 25 12 = fld v 25 12 ∧ sameMemory s t) ∧
      (∃ t, exec (.lwinRelease lt lv m v) s = .next t ∧
        t.tfld lt (regMemLwinCred m.toNat) 25 0 =
          s.tfld lt (regMemLwinCred m.toNat) 25 0 - min (s.tfld lt (regMemLwinCred m.toNat) 25 0) (fld v 25 0) ∧ sameMemory s t)) ∧
    (lv = .u → ∀ i ∈ [Instr.boltEnable lt lv b v, .boltClose lt lv b v, .boltCounterWrite lt lv b w v, .lwinEnable lt lv m v,
        .lwinRelease lt lv m v], exec i s = .next { s with replies := s.replies ++ [⟨0, stProtFault.toNat, leBytes 4 0⟩] }) ∧
    (someoneWaits (s.tile lt) (.bolt b.toNat) = true →
      ∃ t, exec (.boltStallTimeout lt b) s = .next t ∧ t.tbit lt (regBoltStatus b.toNat) 2 = true ∧
        someoneWaits (t.tile lt) (.bolt b.toNat) = true ∧ sameMemory s t)

/-! ### Channels -/

/-- ch.send (with SEND set) and ch.am (with AM set) on an open channel with a valid message within the channel's limit, a free transaction slot and room for its units on a channel of this module are accepted: the message takes a free slot, CH_USE grows by its units and one transaction, the sequence number by one, and rd takes the item's handle. ch.close closes a channel that is not off; ch.state returns CH_USE and the state. A send on a closed channel raises a channel fault with PEER_CLOSED; one without room stalls. Completion: exec answers a next state with the effect stated, under conditions on the state and the operands alone, for every form of chSend, chAm, chClose, chState. (R101, R280, R281, R289, 11_channels_and_messages) -/
def Obligations.ChannelInstructions : Prop :=
  ∀ (s : State) (lt : Nat) (rd rs1 rs2 : BitVec 5) (idx : BitVec 6), issues s lt .tcc 4 tccNoAm = true →
    let f := fetched s lt .tcc 4
    let n := idx.toNat + 64 * fld (gRead f lt .tcc rs2) 1 0
    (gRead f lt .tcc rs2).toNat < 4 →
    (∀ (am : Bool) (s1 : State) (msg : List Byte),
      let i : Instr := if am then .chAm lt .tcc rd rs1 rs2 idx else .chSend lt .tcc rd rs1 rs2 idx
      let u := msgUnits am (f.tbit lt (regChCfg n) 3) (msgLength msg)
      f.tbit lt (regChCfg n) (if am then 11 else 10) = true →
      (chState f lt n = 1 → coreRead f lt .tcc (gRead f lt .tcc rs1).toNat 32 = (s1, .ok msg) →
        msgValid am (f.tbit lt (regChCfg n) 3) msg = true → u ≤ s1.tfld lt (regChCfg n) 31 16 →
        (s1.tfld lt (regChUse n) 15 0 + u ≤ s1.tfld lt (regChCfg n) 31 16 → chForeign s1 lt n = false → freeSlots s1 lt 4 ≠ [] →
          s1.tfld lt (regChUse n) 22 16 < 127 →
          ∃ t slot x, exec i s = .next t ∧ slot ∈ freeSlots s1 lt 4 ∧ xactOf t lt slot = some x ∧ x.ch = n ∧ x.am = am ∧ x.msg = msg ∧
            x.phase = .queued ∧ ((t.tile lt).slot 4 slot).busy = true ∧
            t.treg lt (regChSeq n) = s1.treg lt (regChSeq n) + 1 ∧
            t.tfld lt (regChUse n) 15 0 = s1.tfld lt (regChUse n) 15 0 + u ∧
            t.tfld lt (regChUse n) 22 16 = s1.tfld lt (regChUse n) 22 16 + 1 ∧
            (rd ≠ 0 → gRead t lt .tcc rd = BitVec.ofNat 64 (mkHandle 4 slot ((t.tile lt).slot 4 slot).gen.toNat)) ∧ sameMemory f t) ∧
        (s1.tfld lt (regChCfg n) 31 16 < s1.tfld lt (regChUse n) 15 0 + u →
          exec i s = .next (setWait s1 lt .tcc (some (.channel n))))) ∧
      (chState f lt n = 2 → exec i s = .next (coreTrap f lt .tcc causeChannel stPeerClosed none 0))) ∧
    (chState f lt n ≠ 0 → rd = 0 → rs1 = 0 →
      exec (.chClose lt .tcc rd rs1 rs2 idx) s = .next (retired lt .tcc 4 (setChState f lt n 2)) ∧
      chState (retired lt .tcc 4 (setChState f lt n 2)) lt n = 2) ∧
    (rs1 = 0 →
      exec (.chState lt .tcc rd rs1 rs2 idx) s = .next (retired lt .tcc 4 (gWrite f lt .tcc rd
        (BitVec.ofNat 64 ((tileRead f lt (regChUse n)).toNat + chState f lt n * 2 ^ 32)))))

/-- A queued transaction whose source may be read, that need not wait for order, and whose channel leads to a Bolt of a tile of this module asks for its credit: its REQUEST, of KIND 1 and with the bytes of its message, is on its way to the Bolt's tile, and the tile holds it under its tag. A transaction whose write is not acknowledged in time completes with TIMEOUT: its slot is free, its units and its place in CH_USE are given back, LAST_STATUS says TIMEOUT. REOPEN of a closed channel without transactions opens it, CLOSE of an open one closes it, either on a channel that is off only sets CTRL_ERR. Enabling a valid overflow mapping takes effect. The mover copies one committed slot of the overflow Bolt into its Bolt's next slot, takes and, where no earlier slot is awaited, commits that slot, and releases the slot of the overflow Bolt. A stalled send that has not been reported is marked in CH_STALL and CH_STATUS. Completion: exec answers a next state with the effect stated, under conditions on the state and the operands alone, for every form of chXactStart, chXactTimeout, chReopen, chCloseCtrl, chOvfMapWrite, ovfMove, chStallTimeout. (R282, R285, R289, R290, R291, R292, 11_channels_and_messages) -/
def Obligations.ChannelEvents : Prop :=
  (∀ (s : State) (lt : Nat) (slot : BitVec 6) (x : Xact) (s1 : State), lt < 1320 → xactOf s lt slot.toNat = some x →
    (x.phase = .queued → checkPieces s lt x.lv x.xlat (piecesOf (fieldAt x.msg 0 8) (msgLength x.msg)) = (s1, none) →
      (xactOrdered x = false ∨ earlierXact s1 lt x = false) → chForeign s1 lt x.ch = false → s1.tfld lt (regChDst x.ch) 11 0 < ltCount s1 →
      s1.tbit lt (regChCfg x.ch) 3 = false →
      ∃ t, exec (.chXactStart lt slot) s = .next t ∧ xactOf t lt slot.toNat = some { x with phase := .credit } ∧
        (s1.tile lt).nextTag < (t.tile lt).nextTag ∧
        (∃ m r, NetMsg.credit (chDest s1 lt x.ch) tyRequest m ∈ t.msgs ∧ m.kind = 1 ∧ m.bytes = BitVec.ofNat 32 (xactBytes s1 lt x) ∧
          m.target = BitVec.ofNat 8 (chTarget s1 lt x.ch) ∧ reqOf t lt m.reqTag = some r ∧ r.owner = .xact slot.toNat ∧ r.phase = .asked ∧
          r.msg = m) ∧ sameMemory s t) ∧
    (x.phase = .sent → 1 ≤ s.tfld lt (regChUse x.ch) 22 16 → x.units ≤ s.tfld lt (regChUse x.ch) 15 0 → chForeign s lt x.ch = false →
      s.tbit lt regDmaCringCfg 0 = false →
      ∃ t, exec (.chXactTimeout lt slot) s = .next t ∧ xactOf t lt slot.toNat = none ∧
        ((t.tile lt).slot 4 slot.toNat).busy = false ∧ ((t.tile lt).slot 4 slot.toNat).crec.status = stTimeout ∧
        t.tfld lt (regChUse x.ch) 15 0 = s.tfld lt (regChUse x.ch) 15 0 - x.units ∧
        t.tfld lt (regChUse x.ch) 22 16 = s.tfld lt (regChUse x.ch) 22 16 - 1 ∧
        t.tfld lt (regChUse x.ch) 31 24 = stTimeout.toNat ∧ sameMemory s t)) ∧
  (∀ (s : State) (lt : Nat) (lv : Level) (ch : BitVec 8), lt < 1320 → lv ≠ .u →
    (chState s lt ch.toNat = 2 → s.tfld lt (regChUse ch.toNat) 22 16 = 0 →
      ∃ t, exec (.chReopen lt lv ch) s = .next t ∧ chState t lt ch.toNat = 1 ∧ sameMemory s t) ∧
    (chState s lt ch.toNat = 1 → ∃ t, exec (.chCloseCtrl lt lv ch) s = .next t ∧ chState t lt ch.toNat = 2 ∧ sameMemory s t) ∧
    (chState s lt ch.toNat = 0 → ∀ i ∈ [Instr.chReopen lt lv ch, .chCloseCtrl lt lv ch],
      ∃ t, exec i s = .next t ∧ chState t lt ch.toNat = 0 ∧ t.tbit lt regChStatus 3 = true)) ∧
  (∀ (s : State) (lt : Nat) (lv : Level) (n : BitVec 4) (v : Word), lt < 1320 → lv ≠ .u →
    bit v 7 = true → bit v 15 = false → bit v 23 = false → bit v 31 = false → overflowOf s lt (4 * n.toNat) = none →
    ovfValid s lt (4 * n.toNat) (fld v 5 0) = true →
    ∃ t, exec (.chOvfMapWrite lt lv n v) s = .next t ∧ overflowOf t lt (4 * n.toNat) = some (fld v 5 0) ∧
      overflowOf t lt (4 * n.toNat + 1) = none ∧ sameMemory s t) ∧
  (∀ (s : State) (lt : Nat) (b : BitVec 6) (o : Nat), lt < 1320 → overflowOf s lt b.toNat = some o → boltReady s lt o ≠ 0 →
    boltFree s lt b.toNat ≠ 0 → (boltWindow s lt b.toNat).length < 64 → o < 64 → o ≠ b.toNat → boltMod s lt b.toNat ≤ 2 ^ 20 →
    boltMod s lt o ≤ 2 ^ 20 →
    let n := cfgSlot (boltCfg s lt o)
    let src := slotOff s lt o (boltHead s lt o)
    let dst := slotOff s lt b.toNat (boltReserve s lt b.toNat)
    healthy s lt src n = true → healthy s lt dst n = true → Memory.wf (s.tile lt).mem = true →
    ∃ t, exec (.ovfMove lt b) s = .next t ∧ memBytes (t.tile lt).mem dst n = memBytes (s.tile lt).mem src n ∧
      boltHead t lt o = (boltHead s lt o + 1) % boltMod s lt o ∧ boltReserve t lt b.toNat = (boltReserve s lt b.toNat + 1) % boltMod s lt b.toNat ∧
      (boltWindow s lt b.toNat = [] → boltCommit t lt b.toNat = (boltCommit s lt b.toNat + 1) % boltMod s lt b.toNat ∧
        boltWindow t lt b.toNat = []) ∧ sameMemoryBut lt dst n s t) ∧
  (∀ (s : State) (lt n : Nat), lt < 1320 → (s.tile lt).tcc.wait = some (.channel n) → n < 256 → stallNew s lt .tcc = true → s.tbit lt regChStall 31 = false →
    ∃ t, exec (.chStallTimeout lt none) s = .next t ∧ t.tbit lt regChStatus 0 = true ∧ t.tbit lt regChStall 31 = true ∧
      t.tfld lt regChStall 7 0 = n ∧ t.tfld lt regChStall 23 16 = stChannelStall.toNat ∧ (t.tile lt).tcc.wait = some (.channel n) ∧ sameMemory s t)

/-! ### Control registers, traps and interrupts -/

/-- Where csr.r, csr.w, csr.set, csr.clr issue on an assigned CSR that the level may access, rd takes the old value; csr.w writes rs1, csr.set writes old OR rs1, csr.clr writes old AND NOT rs1 to a CSR that is not read-only, and csr.set and csr.clr with g0 write nothing; on LC_FCSR of a medium core they set or clear the bits in each of the sixteen copies. An unassigned number raises illegal instruction, a level too low privileged instruction, a write of a read-only CSR illegal instruction. After a write from M, TILE_TRAP_BASE_x reads as the value with bits [1:0] zero, TILE_TRAP_PC_x, TILE_TRAP_INFO_x and TILE_SAVE_x as the value, TILE_TIMER as its low 48 bits, TILE_ROUTE as the value without causes 0x0D, 0x0E, 0x10 to 0x1F, interrupts 1, 12, 13, 14 and [63:48]; a write of TILE_STATE leaves PRV, TRAP_S and TRAP_M, and from S leaves IE_M, PPRV_M, PIE_M and XLAT as well; LC_FCSR keeps bits [2:0] and [8:4]; LC_SR_TENSOR takes the word, LC_SR_INDEX_LO and _HI each their half of the index. (That an unassigned number goes before the level is the model's choice, log entry 14; so is that the level goes before the write of a read-only CSR, log entry 54 at R109.) Completion: exec answers a next state with the effect stated, under conditions on the state and the operands alone, for every form of csrR, csrW, csrSet, csrClr. (R89, R109, 04_drait_instruction_set) -/
def Obligations.CsrResult : Prop :=
  (∀ (s : State) (lt : Nat) (c : CoreId) (rd rs1 : BitVec 5) (csr : BitVec 12) (old : DWord), issues s lt c 4 anyCore = true →
    csrValue (fetched s lt c 4) lt c csr.toNat = some old →
    lvNum (csrLevel csr.toNat) ≤ lvNum (levelAt (fetched s lt c 4) lt c) →
    exec (.csrR lt c rd rs1 csr) s = .next (retired lt c 4 (gWrite (fetched s lt c 4) lt c rd old))) ∧
  (∀ (s : State) (lt : Nat) (c : CoreId) (rd rs1 : BitVec 5) (csr : BitVec 12), issues s lt c 4 anyCoreNoAm = true →
    let f := fetched s lt c 4
    let a := gRead f lt c rs1
    let tr := fun (i : Instr) (cause : Cause) => ∃ word, exec i s = .next (coreTrap f lt c cause stOk (some word) 0)
    (∀ old, csrValue f lt c csr.toNat = some old →
      (lvNum (csrLevel csr.toNat) ≤ lvNum (levelAt f lt c) →
        (bit csr 9 = false →
          exec (.csrW lt c rd rs1 csr) s = .next (retired lt c 4 (gWrite (csrStore f lt c csr.toNat a) lt c rd old)) ∧
          (rs1 ≠ 0 → (c = .tcc ∨ csr ≠ 0) →
            exec (.csrSet lt c rd rs1 csr) s = .next (retired lt c 4 (gWrite (csrStore f lt c csr.toNat (old ||| a)) lt c rd old)) ∧
            exec (.csrClr lt c rd rs1 csr) s = .next (retired lt c 4 (gWrite (csrStore f lt c csr.toNat (old &&& ~~~a)) lt c rd old))) ∧
          (∀ n, c = .lane n → csr = 0 → rs1 ≠ 0 →
            (∃ t, exec (.csrSet lt c rd rs1 csr) s = .next t ∧ sameMemory f t ∧ (rd ≠ 0 → gRead t lt c rd = old) ∧
              ∀ m ∈ coreLanes (f.tile lt) n, ((t.tile lt).lane m).fcsr = ((((f.tile lt).lane m).fcsr ||| a.setWidth 32) &&& 0x1F7)) ∧
            ∃ t, exec (.csrClr lt c rd rs1 csr) s = .next t ∧ sameMemory f t ∧ (rd ≠ 0 → gRead t lt c rd = old) ∧
              ∀ m ∈ coreLanes (f.tile lt) n, ((t.tile lt).lane m).fcsr = ((((f.tile lt).lane m).fcsr &&& ~~~(a.setWidth 32)) &&& 0x1F7))) ∧
        (rs1 = 0 →
          exec (.csrSet lt c rd rs1 csr) s = .next (retired lt c 4 (gWrite f lt c rd old)) ∧
          exec (.csrClr lt c rd rs1 csr) s = .next (retired lt c 4 (gWrite f lt c rd old))) ∧
        (bit csr 9 = true → tr (.csrW lt c rd rs1 csr) causeIllegal ∧
          (rs1 ≠ 0 → tr (.csrSet lt c rd rs1 csr) causeIllegal ∧ tr (.csrClr lt c rd rs1 csr) causeIllegal))) ∧
      (lvNum (levelAt f lt c) < lvNum (csrLevel csr.toNat) →
        ∀ i ∈ [Instr.csrR lt c rd rs1 csr, .csrW lt c rd rs1 csr, .csrSet lt c rd rs1 csr, .csrClr lt c rd rs1 csr], tr i causePriv)) ∧
    (csrValue f lt c csr.toNat = none →
      ∀ i ∈ [Instr.csrR lt c rd rs1 csr, .csrW lt c rd rs1 csr, .csrSet lt c rd rs1 csr, .csrClr lt c rd rs1 csr], tr i causeIllegal)) ∧
  (∀ (s : State) (lt : Nat) (v : DWord), (s.tile lt).tcc.prv = .m →
    (∀ n ∈ [0x401, 0xC01], csrOfTcc (csrStore s lt .tcc n v) lt n = some (setFld v 1 0 0)) ∧
    (∀ n ∈ [0x402, 0x404, 0x405, 0xC02, 0xC04, 0xC05], csrOfTcc (csrStore s lt .tcc n v) lt n = some v) ∧
    csrOfTcc (csrStore s lt .tcc 0x408 v) lt 0x408 = some (BitVec.ofNat 64 (v.toNat % 2 ^ 48)) ∧
    (∃ r, csrOfTcc (csrStore s lt .tcc 0xC06 v) lt 0xC06 = some r ∧
      ∀ i, i < 64 → bit r i = (bit v i && decide (i < 48) && !decide (i = 0x0D ∨ i = 0x0E ∨ (0x10 ≤ i ∧ i ≤ 0x1F) ∨ i = 33 ∨ i = 44 ∨ i = 45 ∨ i = 46)))) ∧
  (∀ (s : State) (lt : Nat) (v : DWord),
    let t := (s.tile lt).tcc
    let u := ((csrStore s lt .tcc 0x400 v).tile lt).tcc
    u.prv = t.prv ∧ u.trapS = t.trapS ∧ u.trapM = t.trapM ∧ u.ieS = bit v 2 ∧ u.pieS = bit v 6 ∧
    (t.prv = .s → u.ieM = t.ieM ∧ u.pprvM = t.pprvM ∧ u.pieM = t.pieM ∧ u.xlat = t.xlat) ∧
    (t.prv = .m → u.ieM = bit v 3 ∧ u.pieM = bit v 10 ∧ u.xlat = bit v 13 ∧ (fld v 9 8 < 3 → lvNum u.pprvM = fld v 9 8))) ∧
  (∀ (s : State) (lt n : Nat) (v : DWord), n < 256 →
    let w : Word := v.setWidth 32
    let l := fun m => ((csrStore s lt (.lane n) m v).tile lt).lane (leadLane (s.tile lt) n)
    let o := (s.tile lt).lane (leadLane (s.tile lt) n)
    (l 0x000).fcsr = (w &&& 0x1F7) ∧ (l 0x001).srTensor = w ∧
    (l 0x002).srIndex.toNat = o.srIndex.toNat / 2 ^ 32 * 2 ^ 32 + w.toNat ∧
    (l 0x003).srIndex.toNat = w.toNat * 2 ^ 32 + o.srIndex.toNat % 2 ^ 32)

/-- A synchronous cause goes to S where its TILE_ROUTE bit is set and the level is below M, and to M otherwise; a trap to x saves the level and IE_x into PPRV_x and PIE_x, clears IE_x, sets TRAP_x, writes the trap registers, sets PRV to x and continues at TILE_TRAP_BASE_x; one routed to S while TRAP_S is set goes to M as cause 0x0E with the original cause code in TILE_TRAP_INFO_M; one for M while TRAP_M is set stops the TCC as a FATAL error. Its pc, levels and registers are otherwise as they were. eret at x restores PRV and IE_x, clears TRAP_x and continues at TILE_TRAP_PC_x, and completes wherever it issues outside a handler of active messages. Completion: exec answers a next state with the effect stated, under conditions on the state and the operands alone, for every form of eret. (R110, R111, 04_drait_instruction_set) -/
def Obligations.TrapAndReturn : Prop :=
  (∀ (s : State) (lt : Nat) (cause : Cause) (st : Status) (v : DWord),
    let t := (s.tile lt).tcc
    let u := ((tccTrap s lt cause st (some v)).tile lt).tcc
    let toS := t.prv ≠ .m ∧ bit t.route cause.toNat = true
    (toS → t.trapS = false →
      u = { t with pprvS := t.prv, pieS := t.ieS, ieS := false, trapS := true, prv := .s, pc := t.ts.base, wait := none,
                   ts := { t.ts with pc := t.pc, cause := causeWord cause.toNat st t.prv false, info := v } }) ∧
    (toS → t.trapS = true → t.trapM = false →
      u = { t with pprvM := t.prv, pieM := t.ieM, ieM := false, trapM := true, prv := .m, pc := t.tm.base, wait := none,
                   tm := { t.tm with pc := t.pc, cause := causeWord 0x0E stOk t.prv false, info := BitVec.ofNat 64 cause.toNat } }) ∧
    (¬ toS → t.trapM = false →
      u = { t with pprvM := t.prv, pieM := t.ieM, ieM := false, trapM := true, prv := .m, pc := t.tm.base, wait := none,
                   tm := { t.tm with pc := t.pc, cause := causeWord cause.toNat st t.prv false, info := v } }) ∧
    (((toS ∧ t.trapS = true) ∨ ¬ toS) → t.trapM = true → u = { t with stopped := true, wait := none } ∧
      ((tccTrap s lt cause st (some v)).tile lt).fatal = true) ∧
    sameMemory s (tccTrap s lt cause st (some v))) ∧
  (∀ (code : Nat) (st : Status) (l : Level) (intr : Bool), code < 64 →
    fld (causeWord code st l intr) 5 0 = code ∧ fld (causeWord code st l intr) 15 8 = st.toNat ∧
    fld (causeWord code st l intr) 17 16 = lvNum l ∧ bit (causeWord code st l intr) 63 = intr) ∧
  (∀ (s : State) (lt : Nat) (rd rs1 rs2 : BitVec 5), issues s lt .tcc 4 ⟨true, false, .s, true⟩ = true →
    let f := fetched s lt .tcc 4
    let t := (f.tile lt).tcc
    inHandler f lt = false →
    ∃ z, exec (.eret lt .tcc rd rs1 rs2) s = .next z ∧ sameMemory f z ∧
      (t.prv = .s → (z.tile lt).tcc = { t with prv := t.pprvS, ieS := t.pieS, trapS := false, pc := t.ts.pc, retired := t.retired + 1 }) ∧
      (t.prv = .m → (z.tile lt).tcc = { t with prv := t.pprvM, ieM := t.pieM, trapM := false, pc := t.tm.pc, retired := t.retired + 1 }))

/-- scall raises cause 0x0B, 0x0C or 0x0D by the level it runs at, brk cause 0x0A, a reserved word cause 0x02 with the word; on the TCC this is the trap entry, on a lane core the core (or its whole medium core) stops before the instruction takes effect and its first lane core takes the fault record. MACHINE_CHECK, once a FATAL error is due on a live tile, takes cause 0x10 at M. Completion: exec answers a next state with the effect stated, under conditions on the state and the operands alone, for every form of reservedOpcode, scall, brk, machineCheck. (R94, R110, R111, R113, 04_drait_instruction_set) -/
def Obligations.TrapInstructions : Prop :=
  (∀ (s : State) (lt : Nat) (c : CoreId) (rd rs1 rs2 : BitVec 5), issues s lt c 4 anyCoreNoAm = true →
    let f := fetched s lt c 4
    exec (.scall lt c rd rs1 rs2) s = .next (coreTrap f lt c
      (match levelAt f lt c with | .u => 0x0B | .s => 0x0C | .m => 0x0D) stOk none 0)) ∧
  (∀ (s : State) (lt : Nat) (c : CoreId) (rd rs1 rs2 : BitVec 5), issues s lt c 4 anyCore = true →
    exec (.brk lt c rd rs1 rs2) s = .next (coreTrap (fetched s lt c 4) lt c 0x0A stOk none 0)) ∧
  (∀ (s : State) (lt : Nat) (c : CoreId) (w0 w1 : Word), issues s lt c 4 anyCore = true → fld w0 1 0 ≠ 3 → reservedInsn c w0 = true →
    exec (.reservedOpcode lt c w0 w1) s = .next (coreTrap (fetched s lt c 4) lt c 0x02 stOk (some (w0.setWidth 64)) 0)) ∧
  (∀ (s : State) (lt n : Nat) (cause : Cause) (st : Status) (info : Option DWord), n < 256 →
    let t := s.tile lt
    let u := (coreTrap s lt (.lane n) cause st info 0).tile lt
    (∀ m ∈ coreLanes t n, (u.lane m).st = .fault ∧ (u.lane m).pc = (t.lane m).pc ∧ (u.lane m).g = (t.lane m).g ∧ (u.lane m).v = (t.lane m).v) ∧
    (u.lane (leadLane t n)).frec.valid = true ∧ (u.lane (leadLane t n)).frec.cause = cause ∧
    (u.lane (leadLane t n)).frec.status = st ∧ (u.lane (leadLane t n)).frec.pc = (t.lane (leadLane t n)).pc ∧
    (∀ m, m ∉ coreLanes t n → u.lane m = t.lane m) ∧ u.tcc = t.tcc) ∧
  (∀ (s : State) (lt : Nat), lt < 1320 → canIssue s lt .tcc = true → (s.tile lt).fatal = true → (s.tile lt).tcc.trapM = false →
    bit (s.tile lt).tcc.route 0x10 = false → (s.tile lt).tcc.wait ≠ some .interrupt →
    ∃ t, exec (.machineCheck ⟨lt, none⟩) s = .next t ∧ (t.tile lt).fatal = false ∧ (t.tile lt).tcc.prv = .m ∧
      (t.tile lt).tcc.pc = (s.tile lt).tcc.tm.base ∧ fld (t.tile lt).tcc.tm.cause 5 0 = 0x10 ∧
      (t.tile lt).tcc.tm.pc = (s.tile lt).tcc.pc ∧ (t.tile lt).tcc.pprvM = (s.tile lt).tcc.prv ∧ sameMemory s t)

/-- An interrupt is taken where it is pending, enabled, not an active-message entry while a handler runs, and either routed to S with PRV at U, or at S with IE_S, or routed to M with PRV below M, or at M with IE_M; those for M go before those for S, and within a level 14 goes first and the others in increasing number. TAKE_INTERRUPT on a live TCC whose region does not drain enters the trap of its level with INTR set and the interrupt's number, and a wfi that waits retires first, so that the trap returns behind it; interrupt 14 also consumes the pre-emption request and stops the lane cores; with nothing to take it changes nothing. A machine check that is due goes first: TAKE_INTERRUPT is then MACHINE_CHECK. (That the request of interrupt 14 is consumed when it is taken is the model's choice, log entry 7.) TILE_TIMER_EXPIRE makes interrupt 2 pending. Completion: exec answers a next state with the effect stated, under conditions on the state and the operands alone, for every form of takeInterrupt, machineCheck, tileTimerExpire. (R112, R110, R116, 04_drait_instruction_set) -/
def Obligations.InterruptEntry : Prop :=
  (∀ (s : State) (lt i : Nat), intTakable s lt i = true ↔
    (intPending s lt i = true ∧ bit (s.tile lt).tcc.intEn i = true ∧
      ¬ (i = 9 ∧ amNext s lt = true ∧ s.tbit lt regChAmStatus 0 = true) ∧
      (if bit (s.tile lt).tcc.route (32 + i) then (s.tile lt).tcc.prv = .u ∨ ((s.tile lt).tcc.prv = .s ∧ (s.tile lt).tcc.ieS = true)
       else (s.tile lt).tcc.prv ≠ .m ∨ (s.tile lt).tcc.ieM = true))) ∧
  (∀ (s : State) (lt i : Nat), intToTake s lt = some i → i < 16 ∧ intTakable s lt i = true ∧
    ∀ j, j < 16 → intTakable s lt j = true →
      (bit (s.tile lt).tcc.route (32 + i) = true → bit (s.tile lt).tcc.route (32 + j) = true) ∧
      (bit (s.tile lt).tcc.route (32 + i) = bit (s.tile lt).tcc.route (32 + j) → i = 14 ∨ (j ≠ 14 ∧ i ≤ j))) ∧
  (∀ (s : State) (lt i : Nat), lt < 1320 → canIssue s lt .tcc = true → (s.tile lt).fatal = false → regionState s (regionOf s lt) ≠ 3 → intToTake s lt = some i →
    i ≠ 9 →
    let c := (s.tile lt).tcc
    let back := if c.wait = some .interrupt then c.pc + 4 else c.pc
    let x := decide (bit c.route (32 + i) = true)
    ∃ t, exec (.takeInterrupt lt) s = .next t ∧ sameMemory s t ∧
      (x = false → (t.tile lt).tcc.prv = .m ∧ (t.tile lt).tcc.pc = c.tm.base ∧ (t.tile lt).tcc.tm.pc = back ∧
        (t.tile lt).tcc.tm.cause = causeWord i stOk c.prv true ∧ (t.tile lt).tcc.pprvM = c.prv ∧ (t.tile lt).tcc.pieM = c.ieM ∧
        (t.tile lt).tcc.ieM = false ∧ (t.tile lt).tcc.trapM = true) ∧
      (x = true → (t.tile lt).tcc.prv = .s ∧ (t.tile lt).tcc.pc = c.ts.base ∧ (t.tile lt).tcc.ts.pc = back ∧
        (t.tile lt).tcc.ts.cause = causeWord i stOk c.prv true ∧ (t.tile lt).tcc.pprvS = c.prv ∧ (t.tile lt).tcc.pieS = c.ieS ∧
        (t.tile lt).tcc.ieS = false ∧ (t.tile lt).tcc.trapS = true) ∧
      (i = 14 → (t.tile lt).preReq = false ∧ (t.tile lt).preStop = true) ∧ (t.tile lt).tcc.g = c.g ∧
      (c.wait = some .interrupt → (t.tile lt).tcc.retired = c.retired + 1)) ∧
  (∀ (s : State) (lt : Nat), lt < 1320 → (s.tile lt).fatal = false → intToTake s lt = none → exec (.takeInterrupt lt) s = .next s) ∧
  (∀ (s : State) (lt : Nat), lt < 1320 → canIssue s lt .tcc = true → (s.tile lt).fatal = true →
    exec (.takeInterrupt lt) s = exec (.machineCheck ⟨lt, none⟩) s) ∧
  (∀ (s : State) (lt : Nat), lt < 1320 → ∃ t, exec (.tileTimerExpire lt) s = .next t ∧ intPending t lt 2 = true ∧ s.aon ≤ t.aon ∧ t.tiles = s.tiles)

/-- fence completes with no effect beyond the pc, and so does fence.i on the TCC; on a lane core it also empties the instruction buffer through which the core fetches; wfi waits (it retires when an interrupt is taken, see InterruptEntry); tlb.inv empties the TLB with g0, and else removes exactly the entries that map the address in rs1; item.wait completes with the status of a completed item and waits while it runs; item.poll gives the status, or all ones while it runs; either raises illegal operand for a handle whose generation is not the slot's, and for those that name no slot (the model's choice, log entry 54 at R106); stop ends issue on the lane core or its whole medium core. Completion: exec answers a next state with the effect stated, under conditions on the state and the operands alone, for every form of wfi, fence, fenceI, tlbInv, itemWait, itemPoll, stop. (R106, R107, R130, R304, R422, 04_drait_instruction_set) -/
def Obligations.SystemInstructions : Prop :=
  (∀ (s : State) (lt : Nat) (c : CoreId) (rd rs1 rs2 : BitVec 5),
    (issues s lt c 4 anyCore = true → exec (.fence lt c rd rs1 rs2) s = .next (retired lt c 4 (fetched s lt c 4))) ∧
    (issues s lt c 4 anyCoreNoAm = true → exec (.fenceI lt c rd rs1 rs2) s = .next (retired lt c 4 (match c with
      | .tcc => fetched s lt c 4
      | .lane n => modLane (fetched s lt c 4) lt (leadLane ((fetched s lt c 4).tile lt) n) (fun l => { l with ibuf := [] }))))) ∧
  (∀ (s : State) (lt : Nat) (rd rs1 rs2 : BitVec 5), issues s lt .tcc 4 ⟨true, false, .s, false⟩ = true →
    let f := fetched s lt .tcc 4
    exec (.wfi lt .tcc rd rs1 rs2) s = .next (setWait f lt .tcc (some .interrupt)) ∧
    (∃ t, exec (.tlbInv lt .tcc rd rs1 rs2) s = .next t ∧ sameMemory f t ∧ (rs1 = 0 → (t.tile lt).tlb = []) ∧
      (rs1 ≠ 0 → ∀ e, e ∈ (t.tile lt).tlb ↔ e ∈ (f.tile lt).tlb ∧ tlbMaps (gRead f lt .tcc rs1).toNat e = false))) ∧
  (∀ (s : State) (lt : Nat) (rd rs1 rs2 : BitVec 5), issues s lt .tcc 4 tccNoAm = true →
    let f := fetched s lt .tcc 4
    let h := (gRead f lt .tcc rs1).toNat
    (∀ x, slotOfHandle f lt h = some x →
      (x.busy = false →
        exec (.itemWait lt .tcc rd rs1 rs2) s = .next (retired lt .tcc 4 (gWrite f lt .tcc rd (BitVec.ofNat 64 x.crec.status.toNat))) ∧
        exec (.itemPoll lt .tcc rd rs1 rs2) s = .next (retired lt .tcc 4 (gWrite f lt .tcc rd (BitVec.ofNat 64 x.crec.status.toNat)))) ∧
      (x.busy = true →
        exec (.itemWait lt .tcc rd rs1 rs2) s = .next (setWait f lt .tcc (some (.item h))) ∧
        exec (.itemPoll lt .tcc rd rs1 rs2) s = .next (retired lt .tcc 4 (gWrite f lt .tcc rd (BitVec.allOnes 64))))) ∧
    (slotOfHandle f lt h = none → ∀ i ∈ [Instr.itemWait lt .tcc rd rs1 rs2, .itemPoll lt .tcc rd rs1 rs2],
      ∃ word, exec i s = .next (coreTrap f lt .tcc causeOperand stOk (some word) 0)) ∧
    (∀ x, slotOfHandle f lt h = some x → ((f.tile lt).slot ((h / 2 ^ 8) % 16) (h % 256)).gen.toNat = (h / 2 ^ 12) % 256)) ∧
  (∀ (s : State) (lt n : Nat) (rd rs1 rs2 : BitVec 5), issues s lt (.lane n) 4 ⟨false, true, .u, false⟩ = true →
    let f := fetched s lt (.lane n) 4
    ∃ t, exec (.stop lt (.lane n) rd rs1 rs2) s = .next t ∧ sameMemory f t ∧
      (∀ m ∈ coreLanes (f.tile lt) n, ((t.tile lt).lane m).st = .stopped) ∧
      (∀ m, m ∉ coreLanes (f.tile lt) n → ((t.tile lt).lane m).st = ((f.tile lt).lane m).st))

/-! ### Synchronisation -/

/-- sem.p on a semaphore whose value covers rs2 subtracts it and returns what is left; on one that does not it waits and changes nothing; sem.v adds rs2, where the sum fits 32 bits, serves those that wait, and returns zero; where no core of the tile waits on a semaphore the sum stands, and so does the value of SYNC_SEM_WRITE from S or M. A number above 63 or a sum beyond 32 bits is an illegal operand. On an object that the tile's operations may name and whose mirror entry is not PENDING: sync.arrive on a barrier sends ARRIVE with the mirrored generation as its tag and returns it, on a counter sends ADD of 1, on an event SET or CLEAR by rs2, both returning all ones; sync.wait completes with the mirrored value where the value satisfies it (a barrier generation other than rs2, a counter at or past rs2, an event equal to rs2[0]) and waits elsewhere; sync.read returns the mirrored value. sync.add on a counter sends ADD and needs no mirror. Without a mirror they raise illegal operand, and while it is PENDING they wait. Completion: exec answers a next state with the effect stated, under conditions on the state and the operands alone, for every form of semP, semV, syncArrive, syncWait, syncAdd, syncRead, syncSemWrite. (R342, R344, R332, R336, 13_synchronisation) -/
def Obligations.SemaphoresAndSync : Prop :=
  ((∀ (s : State) (lt : Nat) (c : CoreId) (rd rs1 rs2 : BitVec 5), issues s lt c 4 anyCoreNoAm = true →
    let f := fetched s lt c 4
    let n := (gRead f lt c rs1).toNat
    let a := (gRead f lt c rs2).toNat
    (n < 64 → a ≤ semVal f lt n →
      ∃ t, exec (.semP lt c rd rs1 rs2) s = .next t ∧ semVal t lt n = semVal f lt n - a ∧
        t = retired lt c 4 (gWrite (f.setTreg lt (regSyncSem n) (BitVec.ofNat 32 (semVal f lt n - a))) lt c rd
          (BitVec.ofNat 64 (semVal f lt n - a)))) ∧
    (n < 64 → semVal f lt n < a → exec (.semP lt c rd rs1 rs2) s = .next (setWait f lt c (some (.sem n a rd)))) ∧
    (64 ≤ n → ∃ word, exec (.semP lt c rd rs1 rs2) s = .next (coreTrap f lt c causeOperand stOk (some word) 0))) ∧
  (∀ (s : State) (lt : Nat) (c : CoreId) (rd rs1 rs2 : BitVec 5), issues s lt c 4 anyCore = true →
    let f := fetched s lt c 4
    let n := (gRead f lt c rs1).toNat
    let v := semVal f lt n + (gRead f lt c rs2).toNat
    (n < 64 → v < 2 ^ 32 →
      exec (.semV lt c rd rs1 rs2) s = .next (retired lt c 4 (gWrite (semWake (setSem f lt n v) lt n) lt c rd 0)) ∧
      ((∀ c' ∈ tileCores f lt, ∀ m a r, waitOf f lt c' ≠ some (.sem m a r)) →
        semWake (setSem f lt n v) lt n = setSem f lt n v ∧ semVal (setSem f lt n v) lt n = v)) ∧
    (64 ≤ n ∨ 2 ^ 32 ≤ v → ∃ word, exec (.semV lt c rd rs1 rs2) s = .next (coreTrap f lt c causeOperand stOk (some word) 0))) ∧
  (∀ (s : State) (lt : Nat) (lv : Level) (n : BitVec 6) (v : Word), lt < 1320 → lv ≠ .u →
    (∀ c' ∈ tileCores s lt, ∀ m a r, waitOf s lt c' ≠ some (.sem m a r)) →
    ∃ t, exec (.syncSemWrite lt lv n v) s = .next t ∧ semVal t lt n.toNat = v.toNat ∧ sameMemory s t)) ∧
  (∀ (s : State) (lt : Nat) (c : CoreId) (rd rs1 rs2 : BitVec 5) (w : Where), w = anyCore ∨ w = anyCoreNoAm → issues s lt c 4 w = true →
    let f := fetched s lt c 4
    let o := (gRead f lt c rs1).toNat
    let x := f.obj o
    let b := gRead f lt c rs2
    o < 2 ^ 14 → homeAccepts f x lt = true →
    (∀ k, mirrorOf f lt o = some k → f.tbit lt (regSyncMir k) 30 = false →
      let v := f.treg lt (regSyncMval k)
      (x.typ = 1 → exec (.syncArrive lt c rd rs1 rs2) s = .next (retired lt c 4
        (gWrite (netSend f (.sync true lt 1 o true false 1 v)) lt c rd (v.setWidth 64)))) ∧
      (x.typ = 2 → exec (.syncArrive lt c rd rs1 rs2) s = .next (retired lt c 4
        (gWrite (netSend f (.sync true lt 2 o false false 0 1)) lt c rd (BitVec.allOnes 64)))) ∧
      (x.typ = 3 → exec (.syncArrive lt c rd rs1 rs2) s = .next (retired lt c 4
        (gWrite (netSend f (.sync true lt 3 o false false 0 (if b.setWidth 32 = (0 : Word) then 0 else 1))) lt c rd
          (BitVec.allOnes 64)))) ∧
      exec (.syncRead lt c rd rs1 rs2) s = .next (retired lt c 4 (gWrite f lt c rd (v.setWidth 64))) ∧
      (w = anyCoreNoAm →
        let ok := if x.typ = 1 then v ≠ b.setWidth 32 else if x.typ = 2 then (v - b.setWidth 32).msb = false
          else (v = (if bit b 0 then 1 else 0))
        (ok → exec (.syncWait lt c rd rs1 rs2) s = .next (retired lt c 4 (gWrite f lt c rd (v.setWidth 64)))) ∧
        (¬ ok → exec (.syncWait lt c rd rs1 rs2) s = .next (setWait f lt c (some (.sync o (b.toNat % 2 ^ 32) rd)))))) ∧
    (∀ k, mirrorOf f lt o = some k → f.tbit lt (regSyncMir k) 30 = true →
      exec (.syncArrive lt c rd rs1 rs2) s = .next (setWait f lt c (some (.mirror o))) ∧
      exec (.syncRead lt c rd rs1 rs2) s = .next (setWait f lt c (some (.mirror o)))) ∧
    (mirrorOf f lt o = none → ∀ i ∈ [Instr.syncArrive lt c rd rs1 rs2, .syncRead lt c rd rs1 rs2],
      ∃ word, exec i s = .next (coreTrap f lt c causeOperand stOk (some word) 0)) ∧
    (x.typ = 2 → exec (.syncAdd lt c rd rs1 rs2) s = .next (retired lt c 4
      (gWrite (netSend f (.sync true lt 2 o false false 0 (b.setWidth 32))) lt c rd 0))))

/-- At the home of a barrier that is not BROKEN and not held by another module, one arrival that may arrive and carries the current generation is counted; the one that completes the round advances the generation by one and empties the count; one with another tag is refused, counts nothing, leaves the generation and marks STALE; where it combines more arrivals than the round needs, those beyond are stale too. An ADD adds to a counter; of the SETs and CLEARs of a cycle on an event a clear wins. A FETCH is answered with the value, or with REFUSE where the home does not accept the tile. An object in use that becomes BROKEN is marked, and BROKEN is sent to every tile of its scope; a tile that mirrors the object shows it in the entry and in SYNC_STATUS when the message comes. Completion: exec answers a next state with the effect stated, under conditions on the state and the operands alone, for every form of syncArrival, syncHomeUpdate, syncFetch, syncBroken. (R334, R335, R336, R340, 13_synchronisation) -/
def Obligations.SyncHome : Prop :=
  (∀ (s : State) (o : BitVec 14) (lt : Nat) (tag : BitVec 32),
    let x := s.obj o.toNat
    x.typ = 1 → x.scope ≠ 2 → x.broken = false → x.count < x.parts →
    mayArrive s (.sync true lt 1 o.toNat true false 1 tag) = true →
    (tag = x.value → x.count + 1 < x.parts →
      ∃ t, exec (.syncArrival o [(true, tag, lt, 1)]) s = .next t ∧ (t.obj o.toNat).count = x.count + 1 ∧ (t.obj o.toNat).value = x.value ∧
        sameMemory s t) ∧
    (tag = x.value → x.count + 1 = x.parts →
      ∃ t, exec (.syncArrival o [(true, tag, lt, 1)]) s = .next t ∧ (t.obj o.toNat).count = 0 ∧ (t.obj o.toNat).value = x.value + 1 ∧
        sameMemory s t) ∧
    (tag ≠ x.value →
      ∃ t, exec (.syncArrival o [(true, tag, lt, 1)]) s = .next t ∧ (t.obj o.toNat).count = x.count ∧ (t.obj o.toNat).value = x.value ∧
        (t.obj o.toNat).stale = true ∧ sameMemory s t) ∧
    (∀ n : BitVec 11, tag = x.value → x.parts - x.count < n.toNat → mayArrive s (arrivalMsg s o.toNat (true, tag, lt, n)) = true →
      ∃ t, exec (.syncArrival o [(true, tag, lt, n)]) s = .next t ∧ (t.obj o.toNat).count = 0 ∧ (t.obj o.toNat).value = x.value + 1 ∧
        (t.obj o.toNat).stale = true ∧ sameMemory s t)) ∧
  (∀ (s : State) (o : BitVec 14) (adds : List (Nat × BitVec 32)) (sets : List (Nat × Bool)),
    let x := s.obj o.toNat
    x.scope ≠ 2 → x.broken = false →
    (takeSync (fun a => NetMsg.sync true a.1 2 o.toNat false false 0 a.2) s adds).2 = adds →
    (takeSync (fun a => NetMsg.sync true a.1 3 o.toNat false false 0 (if a.2 then 1 else 0)) s sets).2 = sets →
    (x.typ = 2 → ∃ t, exec (.syncHomeUpdate o adds []) s = .next t ∧
      (t.obj o.toNat).value = adds.foldl (fun v a => v + a.2) x.value ∧ sameMemory s t) ∧
    (x.typ = 3 → sets ≠ [] → ∃ t, exec (.syncHomeUpdate o [] sets) s = .next t ∧
      (t.obj o.toNat).value = (if sets.any (fun a => !a.2) then 0 else 1) ∧ sameMemory s t)) ∧
  (∀ (s : State) (lt : Nat) (o : BitVec 14), lt < 1320 →
    let q : NetMsg := .sync true lt 5 o.toNat false false (BitVec.ofNat 11 lt) 0
    mayArrive s q = true →
    (homeAccepts s (s.obj o.toNat) lt = true →
      exec (.syncFetch lt o) s = .next (netSend (netArrive s q) (.sync false lt 4 o.toNat false true (BitVec.ofNat 11 lt) (s.obj o.toNat).value))) ∧
    (homeAccepts s (s.obj o.toNat) lt = false →
      exec (.syncFetch lt o) s = .next (netSend (netArrive s q) (.sync false lt 8 o.toNat false true (BitVec.ofNat 11 lt) 0)))) ∧
  (∀ (s : State) (o : BitVec 14), (s.obj o.toNat).typ ≠ 0 → (s.obj o.toNat).broken = false → mayArrive s (.lost o.toNat) = true →
    ∃ t, exec (.syncBroken o) s = .next t ∧ (t.obj o.toNat).broken = true ∧ sameMemory s t ∧
      ∀ lt ∈ scopeTiles s (s.obj o.toNat), NetMsg.sync false lt 6 o.toNat false false 0 0 ∈ t.msgs) ∧
  (∀ (s : State) (f : Flight) (lt o n : Nat), f.msg = .sync false lt 6 o false false 0 0 → mirrorOf s lt o = some n →
    ∃ t, arriveFlight s f = .next t ∧ t.tbit lt (regSyncMir n) 28 = true ∧ t.tbit lt regSyncStatus 2 = true ∧ sameMemory s t)

/-- Of an object other than the step barrier, an UPDATE that may arrive and need not be delayed puts its value into the tile's mirror entry, and one that answers a FETCH clears PENDING as well; a release of a barrier is first held for the tile's delay (bits [5:0] of its number reversed) where that is not zero, and SYNC_UPDATE_APPLY then puts it in. REFUSE of a pending FETCH clears VALID and PENDING and sets BAD_CFG. A valid write of SYNC_MIRn from S or M for an object that no other entry mirrors marks the entry VALID and PENDING and sends FETCH; for one mirrored elsewhere it leaves the entry, sends nothing and sets BAD_CFG. A core whose wait has not been reported and that waits past the stall timeout is reported in SYNC_STATUS and goes on waiting. Completion: exec answers a next state with the effect stated, under conditions on the state and the operands alone, for every form of syncUpdateArrive, syncUpdateApply, syncRefuseArrive, syncMirrorWrite, syncWaitStall. (R336, R338, R343, 13_synchronisation) -/
def Obligations.SyncMirrors : Prop :=
  (∀ (s : State) (lt : Nat) (o : BitVec 14) (directed : Bool) (v : BitVec 32) (n : Nat), lt < 1320 → mirrorOf s lt o.toNat = some n → s.stepBarrier ≠ some o.toNat →
    let m : NetMsg := .sync false lt 4 o.toNat false directed (if directed then BitVec.ofNat 11 lt else 0) v
    (mayArrive s m = true → (directed = true ∨ (s.obj o.toNat).typ = 2 ∨ revBits 6 lt = 0) →
      ∃ t, exec (.syncUpdateArrive lt o directed v) s = .next t ∧ t.treg lt (regSyncMval n) = v ∧ sameMemory s t ∧
        (directed = true → t.tbit lt (regSyncMir n) 30 = false)) ∧
    (mayArrive s m = true → directed = false → (s.obj o.toNat).typ = 1 → revBits 6 lt ≠ 0 →
      exec (.syncUpdateArrive lt o directed v) s = .next ((netArrive s m).modTile lt
        (fun t => { t with delayed := t.delayed ++ [(o.toNat, v.toNat)] }))) ∧
    ((s.tile lt).delayed.contains (o.toNat, v.toNat) = true →
      ∃ t, exec (.syncUpdateApply lt o v) s = .next t ∧ t.treg lt (regSyncMval n) = v ∧ sameMemory s t) ∧
    (s.tbit lt (regSyncMir n) 30 = true → mayArrive s (.sync false lt 8 o.toNat false true (BitVec.ofNat 11 lt) 0) = true →
      ∃ t, exec (.syncRefuseArrive lt o) s = .next t ∧ t.tbit lt (regSyncMir n) 31 = false ∧ t.tbit lt (regSyncMir n) 30 = false ∧
        t.tbit lt regSyncStatus 3 = true ∧ sameMemory s t)) ∧
  (∀ (s : State) (lt : Nat) (lv : Level) (n : BitVec 8) (v : Word), lt < 1320 → lv ≠ .u → bit v 31 = true →
    (mirrorOf s lt (fld v 13 0) = none →
      ∃ t, exec (.syncMirrorWrite lt lv n v) s = .next t ∧ t.tbit lt (regSyncMir n.toNat) 31 = true ∧ t.tbit lt (regSyncMir n.toNat) 30 = true ∧
        t.tfld lt (regSyncMir n.toNat) 13 0 = fld v 13 0 ∧ t.msgs = s.msgs ++ [.sync true lt 5 (fld v 13 0) false false (BitVec.ofNat 11 lt) 0] ∧ sameMemory s t) ∧
    (∀ k, mirrorOf s lt (fld v 13 0) = some k → k ≠ n.toNat →
      ∃ t, exec (.syncMirrorWrite lt lv n v) s = .next t ∧ t.treg lt (regSyncMir n.toNat) = s.treg lt (regSyncMir n.toNat) ∧
        t.tbit lt regSyncStatus 3 = true ∧ t.net = s.net)) ∧
  (∀ (s : State) (lt : Nat) (c : CoreId) (w : Wait), lt < 1320 → waitOf s lt c = some w → stallNew s lt c = true →
    ((∃ n a r, w = .sem n a r) ∨ (∃ o t r, w = .sync o t r) ∨ (∃ o, w = .mirror o)) →
    ∃ t, exec (.syncWaitStall lt c) s = .next t ∧ t.tbit lt regSyncStatus 1 = true ∧ waitOf t lt c = some w ∧ sameMemory s t)

/-! ### Vector instructions of the lane cores -/

/-- Lane `i` of `w` bits of a vector register (R87). -/
def Obl.laneAt (w : Nat) (x : VWord) (i : Nat) : BitVec w := x.extractLsb' (w * i) w

/-- What a vector instruction on lane core `n` leaves: every vector register but `vd` of the active slices `ls`, every general register, all
of memory; and the core goes on 4 further. -/
def Obl.vecFrame (lt n : Nat) (ls : List Nat) (vd : BitVec 5) (f t : State) : Prop :=
  (∀ lt' j r, ¬ (lt' = lt ∧ j ∈ ls ∧ r = vd) → vGet t lt' j r = vGet f lt' j r) ∧ (∀ lt' c r, gRead t lt' c r = gRead f lt' c r) ∧
  sameMemory f t ∧ pcOf t lt (.lane n) = pcOf (setPc f lt (.lane n) (pcOf f lt (.lane n) + 4)) lt (.lane n)

/-- The constructors of vector instructions of the common form. -/
abbrev Obl.VCtor := Nat → CoreId → BitVec 5 → BitVec 5 → BitVec 5 → BitVec 2 → BitVec 4 → Instr

/-- The `vi` operations on lanes of `w` bits (Table 4.5, R95). -/
def Obl.viRows : List (Obl.VCtor × ((w : Nat) → BitVec w → BitVec w → BitVec w)) :=
  [(.viAdd, fun _ a b => a + b), (.viSub, fun _ a b => a - b), (.viAnd, fun _ a b => a &&& b), (.viOr, fun _ a b => a ||| b),
   (.viXor, fun _ a b => a ^^^ b), (.viSll, fun _ a b => a <<< (b.toNat % 32)), (.viSrl, fun _ a b => a >>> (b.toNat % 32)),
   (.viSra, fun _ a b => a.sshiftRight (b.toNat % 32))]

/-- The float formats of FMT (Table 4.5). -/
def Obl.vfFmts : List (BitVec 2 × FloatFmt) := [(0, fp32), (1, fp64), (2, bf16)]

/-- In grid mode a vector instruction acts on its own lane core for LCNT 0 and is illegal for another LCNT; in cluster mode it acts on all sixteen slices for LCNT 0 and on the first LCNT slices otherwise. The eight vi instructions set lane i of vd of every active slice to the operation of lane i of vs1 and vs2 at 32, 16 or 8 bits (shift amounts are bits [4:0] of the lane), and the four vcmp instructions to all ones where the comparison holds in FP32, FP64 or BF16 and zero where it does not, a NaN being unequal to everything. Each completes wherever it issues with a listed FMT, and leaves every other vector register, every general register and memory. Completion: exec answers a next state with the effect stated, under conditions on the state and the operands alone, for every form of viAdd, viSub, viAnd, viOr, viXor, viSll, viSrl, viSra, vcmpEq, vcmpLt, vcmpLe, vcmpNe. (R92, R94, R95, 04_drait_instruction_set, 05_lane_cores_and_vector_work) -/
def Obligations.VectorInteger : Prop :=
  (∀ (t : Tile) (n : Nat) (lcnt : BitVec 4),
    (t.cluster = false → activeLanes t n lcnt.toNat = if lcnt = 0 then some [n] else none) ∧
    (t.cluster = true → activeLanes t n lcnt.toNat =
      some ((List.range (if lcnt = 0 then 16 else lcnt.toNat)).map (fun j => 16 * (n / 16) + j)))) ∧
  (∀ (s : State) (lt n : Nat) (vd vs1 vs2 : BitVec 5) (fmt : BitVec 2) (lcnt : BitVec 4),
    issues s lt (.lane n) 4 laneOnly = true → ((fetched s lt (.lane n) 4).tile lt).cluster = false → lcnt ≠ 0 →
    ∃ word, exec (.viAdd lt (.lane n) vd vs1 vs2 fmt lcnt) s =
      .next (coreTrap (fetched s lt (.lane n) 4) lt (.lane n) causeIllegal stOk (some word) 0)) ∧
  (∀ p ∈ Obl.viRows, ∀ q ∈ ([(0, 32), (1, 16), (2, 8)] : List (BitVec 2 × Nat)),
    ∀ (s : State) (lt n : Nat) (vd vs1 vs2 : BitVec 5) (lcnt : BitVec 4) (ls : List Nat),
    issues s lt (.lane n) 4 laneOnly = true →
    let f := fetched s lt (.lane n) 4
    activeLanes (f.tile lt) n lcnt.toNat = some ls →
    ∃ t, exec (p.1 lt (.lane n) vd vs1 vs2 q.1 lcnt) s = .next t ∧
      (∀ j ∈ ls, ∀ i, i < 128 / q.2 → Obl.laneAt q.2 (vGet t lt j vd) i =
        p.2 q.2 (Obl.laneAt q.2 (vGet f lt j vs1) i) (Obl.laneAt q.2 (vGet f lt j vs2) i)) ∧ Obl.vecFrame lt n ls vd f t) ∧
  (∀ p ∈ ([(.vcmpEq, fun x y => !x.isNan && !y.isNan && x.cmp y == 0), (.vcmpLt, fun x y => !x.isNan && !y.isNan && x.cmp y == -1),
      (.vcmpLe, fun x y => !x.isNan && !y.isNan && (x.cmp y == -1 || x.cmp y == 0)),
      (.vcmpNe, fun x y => x.isNan || y.isNan || x.cmp y != 0)] : List (Obl.VCtor × (FVal → FVal → Bool))),
    ∀ q ∈ Obl.vfFmts, ∀ (s : State) (lt n : Nat) (vd vs1 vs2 : BitVec 5) (lcnt : BitVec 4) (ls : List Nat),
    issues s lt (.lane n) 4 laneOnly = true →
    let f := fetched s lt (.lane n) 4
    activeLanes (f.tile lt) n lcnt.toNat = some ls →
    ∃ t, exec (p.1 lt (.lane n) vd vs1 vs2 q.1 lcnt) s = .next t ∧
      (∀ j ∈ ls, ∀ i, i < 128 / q.2.bits → Obl.laneAt q.2.bits (vGet t lt j vd) i =
        if p.2 (q.2.decode (Obl.laneAt q.2.bits (vGet f lt j vs1) i).toNat) (q.2.decode (Obl.laneAt q.2.bits (vGet f lt j vs2) i).toNat)
        then BitVec.allOnes q.2.bits else 0) ∧ Obl.vecFrame lt n ls vd f t)

/-- vf fma, fms, fnma, mul, add and sub, in FP32, FP64 and BF16, set lane i of vd of every active slice to the exact result (the product and the sum exact) rounded once to the format under LC_FCSR.RM, and with RM 4 by the rounding stream keyed by LC_SR_TENSOR and LC_SR_INDEX + k, k counting the lanes from the lowest active one; LC_SR_INDEX then advances by the active lanes, and stays under another RM. min and max return one of their operands unchanged, the smaller or the larger where neither is a NaN and they differ. The six vsfu functions set each FP32 lane to the function of Table 5.2. Each completes wherever it issues with such an FMT; the flags of each lane core only grow; other registers and memory stay. Completion: exec answers a next state with the effect stated, under conditions on the state and the operands alone, for every form of vfFma, vfFms, vfFnma, vfMul, vfAdd, vfSub, vfMin, vfMax, vsfuExp2, vsfuLog2, vsfuRcp, vsfuRsqrt, vsfuSin, vsfuCos. (R120, R122, R128, R178, R180, 05_lane_cores_and_vector_work) -/
def Obligations.VectorFloat : Prop :=
  (∀ p ∈ ([(.vfFma, fun rd d a b => (a.mul b).add rd d), (.vfFms, fun rd d a b => (a.mul b).add rd d.neg),
      (.vfFnma, fun rd d a b => d.add rd (a.mul b).neg), (.vfMul, fun _ _ a b => a.mul b), (.vfAdd, fun rd _ a b => a.add rd b),
      (.vfSub, fun rd _ a b => a.add rd b.neg)] : List (Obl.VCtor × (Bool → FVal → FVal → FVal → FVal))),
    ∀ q ∈ Obl.vfFmts, ∀ (s : State) (lt n : Nat) (vd vs1 vs2 : BitVec 5) (lcnt : BitVec 4) (ls : List Nat),
    issues s lt (.lane n) 4 laneOnly = true →
    let f := fetched s lt (.lane n) 4
    let per := 128 / q.2.bits
    activeLanes (f.tile lt) n lcnt.toNat = some ls →
    ∃ t, exec (p.1 lt (.lane n) vd vs1 vs2 q.1 lcnt) s = .next t ∧
      (∀ j ∈ ls, ∀ i, i < per →
        let r := rmRnd (laneRm f lt j) (laneRandom f lt n (per * (j - ls.headD 0) + i))
        Obl.laneAt q.2.bits (vGet t lt j vd) i = BitVec.ofNat q.2.bits (q.2.result r (p.2 (decide (laneRm f lt j = 2))
          (q.2.decode (Obl.laneAt q.2.bits (vGet f lt j vd) i).toNat) (q.2.decode (Obl.laneAt q.2.bits (vGet f lt j vs1) i).toNat)
          (q.2.decode (Obl.laneAt q.2.bits (vGet f lt j vs2) i).toNat))).1) ∧
      (∀ j ∈ ls, ((t.tile lt).lane j).fcsr &&& ((f.tile lt).lane j).fcsr = ((f.tile lt).lane j).fcsr) ∧
      srIndex t lt n = (srIndex f lt n + (if laneRm f lt (ls.headD 0) = 4 then per * ls.length else 0)) % 2 ^ 64 ∧
      Obl.vecFrame lt n ls vd f t) ∧
  (∀ p ∈ ([(.vfMin, -1), (.vfMax, 1)] : List (Obl.VCtor × Int)), ∀ q ∈ Obl.vfFmts,
    ∀ (s : State) (lt n : Nat) (vd vs1 vs2 : BitVec 5) (lcnt : BitVec 4) (ls : List Nat),
    issues s lt (.lane n) 4 laneOnly = true →
    let f := fetched s lt (.lane n) 4
    activeLanes (f.tile lt) n lcnt.toNat = some ls →
    ∃ t, exec (p.1 lt (.lane n) vd vs1 vs2 q.1 lcnt) s = .next t ∧
      (∀ j ∈ ls, ∀ i, i < 128 / q.2.bits →
        let a := Obl.laneAt q.2.bits (vGet f lt j vs1) i
        let b := Obl.laneAt q.2.bits (vGet f lt j vs2) i
        let x := q.2.decode a.toNat
        let y := q.2.decode b.toNat
        (Obl.laneAt q.2.bits (vGet t lt j vd) i = a ∨ Obl.laneAt q.2.bits (vGet t lt j vd) i = b) ∧
        (x.isNan = false → y.isNan = false → x.cmp y ≠ 0 →
          Obl.laneAt q.2.bits (vGet t lt j vd) i = if x.cmp y = p.2 then a else b)) ∧ Obl.vecFrame lt n ls vd f t) ∧
  (∀ p ∈ ([(.vsfuExp2, 0), (.vsfuLog2, 1), (.vsfuRcp, 2), (.vsfuRsqrt, 3), (.vsfuSin, 4), (.vsfuCos, 5)] : List (Obl.VCtor × Nat)),
    ∀ (s : State) (lt n : Nat) (vd vs1 vs2 : BitVec 5) (lcnt : BitVec 4) (ls : List Nat),
    issues s lt (.lane n) 4 laneOnly = true →
    let f := fetched s lt (.lane n) 4
    activeLanes (f.tile lt) n lcnt.toNat = some ls →
    ∃ t, exec (p.1 lt (.lane n) vd vs1 vs2 0 lcnt) s = .next t ∧
      (∀ j ∈ ls, ∀ i, i < 4 → Obl.laneAt 32 (vGet t lt j vd) i = BitVec.ofNat 32 (sfu p.2 (Obl.laneAt 32 (vGet f lt j vs1) i)).1) ∧
      (∀ j ∈ ls, ((t.tile lt).lane j).fcsr &&& ((f.tile lt).lane j).fcsr = ((f.tile lt).lane j).fcsr) ∧ Obl.vecFrame lt n ls vd f t)

/-- vcvt with DIR 0 converts four FP32 lanes (two for FP64) of each active slice through the Palette entry into elements packed from bit 0, the rest of the register zero; with DIR 1 it decodes them into FP32 lanes, rounded as the entry states, an infinity beyond the FP32 range. vmov broadcasts a general register, extracts lane vs2 of the first slice into one, inserts one into lane vs1, and permutes the lanes of vs1 as vs2 names them. radd adds the FP32 lanes of vs1 into the four FP32+C accumulators of vd and vd + 1, whose lanes keep a 16-bit tail and zeros above. vred writes the pairwise tree over lanes and then slices to lane 0 of the first active slice and zero to every other lane of the active slices; in grid mode an FP32 sum is (l0 + l1) + (l2 + l3), each step rounded. Each completes wherever it issues with a listed FMT and operands that the rules admit; other registers and memory stay. Completion: exec answers a next state with the effect stated, under conditions on the state and the operands alone, for every form of vcvtTo, vcvtFrom, vmovBroadcast, vmovExtract, vmovInsert, vmovPermute, vredSum, vredMax, vredMin, radd. (R103, R104, R121, R126, R127, R173, R179, R186, 04_drait_instruction_set) -/
def Obligations.VectorConvert : Prop :=
  (∀ (s : State) (lt n : Nat) (vd vs1 : BitVec 5) (pal : BitVec 8) (lcnt : BitVec 4) (ls : List Nat),
    issues s lt (.lane n) 4 laneOnly = true →
    let f := fetched s lt (.lane n) 4
    let p := palCfg f lt pal.toNat
    let w := elemBits p.format
    let k := if p.format = 13 then 2 else 4
    activeLanes (f.tile lt) n lcnt.toNat = some ls → p.format ∈ [0, 1, 2, 3, 4, 11, 12, 13] →
    (∃ t, exec (.vcvtTo lt (.lane n) vd vs1 pal lcnt) s = .next t ∧
      (∀ j ∈ ls, (vGet t lt j vd).toNat < 2 ^ (w * k) ∧ ∀ i, i < k → Obl.laneAt w (vGet t lt j vd) i = BitVec.ofNat w
        (encodeElem p.format p.sat p.ftz (p.rnd (laneRandom f lt n (k * (j - ls.headD 0) + i)))
          ((fp32.decode (Obl.laneAt 32 (vGet f lt j vs1) i).toNat).scale p.scaleExp) Tally.none).1) ∧ Obl.vecFrame lt n ls vd f t) ∧
    (∃ t, exec (.vcvtFrom lt (.lane n) vd vs1 pal lcnt) s = .next t ∧
      (∀ j ∈ ls, ∀ i, i < 4 → Obl.laneAt 32 (vGet t lt j vd) i = if i < k then
        (let v := decodeThrough p (Obl.laneAt w (vGet f lt j vs1) i).toNat 127
         let o := fp32.result (p.rnd (laneRandom f lt n (k * (j - ls.headD 0) + i))) v
         BitVec.ofNat 32 (if o.2.overflow then fp32.inf (match v with | .fin neg _ _ => neg | _ => false) else o.1)) else 0) ∧
      Obl.vecFrame lt n ls vd f t)) ∧
  (∀ (s : State) (lt n : Nat) (vd vs1 vs2 : BitVec 5) (lcnt : BitVec 4) (ls : List Nat),
    issues s lt (.lane n) 4 laneOnly = true →
    let f := fetched s lt (.lane n) 4
    activeLanes (f.tile lt) n lcnt.toNat = some ls →
    (∃ t, exec (.vmovBroadcast lt (.lane n) vd vs1 vs2 0 lcnt) s = .next t ∧
      (∀ j ∈ ls, ∀ i, i < 4 → Obl.laneAt 32 (vGet t lt j vd) i = (gRead f lt (.lane n) vs1).setWidth 32) ∧ Obl.vecFrame lt n ls vd f t) ∧
    (vs2.toNat < 4 → exec (.vmovExtract lt (.lane n) vd vs1 vs2 0 lcnt) s = .next (retired lt (.lane n) 4 (gWrite f lt (.lane n) vd
      ((Obl.laneAt 32 (vGet f lt (leadLane (f.tile lt) n) vs1) vs2.toNat).setWidth 64)))) ∧
    (vs1.toNat < 4 → ∃ t, exec (.vmovInsert lt (.lane n) vd vs1 vs2 0 lcnt) s = .next t ∧
      (∀ j ∈ ls, ∀ i, i < 4 → Obl.laneAt 32 (vGet t lt j vd) i =
        if i = vs1.toNat then (gRead f lt (.lane n) vs2).setWidth 32 else Obl.laneAt 32 (vGet f lt j vd) i) ∧ Obl.vecFrame lt n ls vd f t) ∧
    ((∀ j ∈ ls, ∀ i, i < 4 → (Obl.laneAt 32 (vGet f lt j vs2) i).toNat < 4) →
      ∃ t, exec (.vmovPermute lt (.lane n) vd vs1 vs2 0 lcnt) s = .next t ∧
      (∀ j ∈ ls, ∀ i, i < 4 → Obl.laneAt 32 (vGet t lt j vd) i =
        Obl.laneAt 32 (vGet f lt j vs1) (Obl.laneAt 32 (vGet f lt j vs2) i).toNat) ∧ Obl.vecFrame lt n ls vd f t) ∧
    (vd.toNat % 2 = 0 → ∃ t, exec (.radd lt (.lane n) vd vs1 vs2 0 lcnt) s = .next t ∧
      (∀ j ∈ ls, ∀ i, i < 4 →
        let x := fp32cAdd (Obl.laneAt 32 (vGet f lt j vd) i).toNat ((Obl.laneAt 32 (vGet f lt j (vd + 1)) i).toNat % 2 ^ 16)
          (Obl.laneAt 32 (vGet f lt j vs1) i).toNat
        Obl.laneAt 32 (vGet t lt j vd) i = BitVec.ofNat 32 x.1 ∧ Obl.laneAt 32 (vGet t lt j (vd + 1)) i = BitVec.ofNat 32 x.2 ∧ x.2 < 2 ^ 16) ∧
      (∀ lt' j r, ¬ (lt' = lt ∧ j ∈ ls ∧ (r = vd ∨ r = vd + 1)) → vGet t lt' j r = vGet f lt' j r) ∧ sameMemory f t) ∧
    (vd.toNat % 2 = 1 → ∃ word, exec (.radd lt (.lane n) vd vs1 vs2 0 lcnt) s =
      .next (coreTrap f lt (.lane n) causeOperand stOk (some word) 0)) ∧
    (∀ q ∈ Obl.vfFmts,
      let r := rmRnd (if laneRm f lt (leadLane (f.tile lt) n) = 4 then 0 else laneRm f lt (leadLane (f.tile lt) n)) 0
      ∀ p ∈ ([(.vredSum, fun a b => (q.2.result r ((q.2.decode a).add (r == .down) (q.2.decode b))).1),
          (.vredMax, pickNum q.2 true), (.vredMin, pickNum q.2 false)] : List (Obl.VCtor × (Nat → Nat → Nat))),
      ∃ t, exec (p.1 lt (.lane n) vd vs1 vs2 q.1 lcnt) s = .next t ∧
        (∀ j ∈ ls, vGet t lt j vd = if j = ls.headD 0 then
          (BitVec.ofNat q.2.bits ((treeReduce p.2 4 (ls.map (fun k => (treeReduce p.2 4 (lanesOf q.2.bits (vGet f lt k vs1))).headD 0))).headD 0)).setWidth 128
          else 0) ∧ Obl.vecFrame lt n ls vd f t) ∧
    ((f.tile lt).cluster = false →
      let r := rmRnd (if laneRm f lt n = 4 then 0 else laneRm f lt n) 0
      let add := fun (a b : Nat) => (fp32.result r ((fp32.decode a).add (r == .down) (fp32.decode b))).1
      let l := fun i => (Obl.laneAt 32 (vGet f lt n vs1) i).toNat
      ∃ t, exec (.vredSum lt (.lane n) vd vs1 vs2 0 lcnt) s = .next t ∧
        vGet t lt n vd = (BitVec.ofNat 32 (add (add (l 0) (l 1)) (add (l 2) (l 3)))).setWidth 128))

/-! ### Active messages at the receiver, lane cores, banks, credits -/

/-- Where interrupt 9 is the interrupt to take, it is routed to S, the AM Bolt holds a committed message, and the first 64 bytes of the message (which go on at BASE where they pass the end of the Bolt) and its handler entry can be read, a wfi that waits retires, and AM_ENTRY of a message with a valid handler enters the trap of R110 at S with CODE 9 and INTR, TILE_TRAP_INFO_S the address of the message, the pc at the handler's address, IN_HANDLER set and HANDLER its number; a message whose handler is not valid is released and counted in BAD_HANDLER, and a void header is released, with the TCC as it was. eret in a handler releases the message, clears IN_HANDLER and returns from the trap. Completion: exec answers a next state with the effect stated, under conditions on the state and the operands alone, for every form of eret, amEntry. (R110, R283, R284, R296, R297, 11_channels_and_messages) -/
def Obligations.ActiveMessages : Prop :=
  (∀ (s : State) (lt : Nat), lt < 1320 → canIssue s lt .tcc = true → (s.tile lt).fatal = false → regionState s (regionOf s lt) ≠ 3 →
    intToTake s lt = some 9 → amPending s lt = true → bit (s.tile lt).tcc.route 41 = true →
    let b := amBolt s lt
    let head := slotOff s lt b (boltHead s lt b)
    let base := cfgBase (boltCfg s lt b)
    let room := base + cfgSize (boltCfg s lt b) - head
    let bs := if 64 ≤ room then memBytes (s.tile lt).mem head 64
      else memBytes (s.tile lt).mem head room ++ memBytes (s.tile lt).mem base (64 - room)
    let hd := fieldAt bs 0x20 1
    let entry := s.tfld lt regChAmBase 27 11 * 2 ^ 11 + 8 * hd
    let eb := leNat (memBytes (s.tile lt).mem entry 8)
    let c0 := (s.tile lt).tcc
    let c := if c0.wait = some .interrupt then { c0 with wait := none, pc := c0.pc + 4, retired := c0.retired + 1 } else c0
    boltMod s lt b ≤ 2 ^ 20 → healthy s lt head (min 64 room) = true → healthy s lt base (64 - room) = true → healthy s lt entry 8 = true →
    (fieldAt bs 0x11 1 ≠ 0xFF → eb % 2 = 1 →
      ∃ t, exec (.amEntry lt) s = .next t ∧
        (t.tile lt).tcc =
          { c with
            pprvS := c.prv, pieS := c.ieS, ieS := false, trapS := true, prv := .s, pc := BitVec.ofNat 64 (eb / 4 * 4)
            wait := none, ts := { c.ts with pc := c.pc, cause := causeWord 9 stOk c.prv true, info := BitVec.ofNat 64 head } } ∧
        t.tbit lt regChAmStatus 0 = true ∧ t.tfld lt regChAmStatus 15 8 = hd ∧ boltHead t lt b = boltHead s lt b ∧ sameMemory s t) ∧
    (fieldAt bs 0x11 1 ≠ 0xFF → eb % 2 = 0 →
      ∃ t, exec (.amEntry lt) s = .next t ∧ (t.tile lt).tcc = c ∧ t.tbit lt regChAmStatus 0 = false ∧
        t.tfld lt regChAmStatus 31 16 = min 65535 (s.tfld lt regChAmStatus 31 16 + 1) ∧
        boltHead t lt b = (boltHead s lt b + min (max 1 (ceilDiv (64 + fieldAt bs 8 4) (cfgSlot (boltCfg s lt b)))) (boltReady s lt b)) % boltMod s lt b ∧
        sameMemory s t) ∧
    (fieldAt bs 0x11 1 = 0xFF →
      ∃ t, exec (.amEntry lt) s = .next t ∧ (t.tile lt).tcc = c ∧ t.tbit lt regChAmStatus 0 = false ∧
        boltHead t lt b = (boltHead s lt b + min (max 1 (ceilDiv (32 + fieldAt bs 8 4) (cfgSlot (boltCfg s lt b)))) (boltReady s lt b)) % boltMod s lt b ∧
        sameMemory s t)) ∧
  (∀ (s : State) (lt : Nat) (rd rs1 rs2 : BitVec 5), issues s lt .tcc 4 ⟨true, false, .s, true⟩ = true →
    let f := fetched s lt .tcc 4
    let c := (f.tile lt).tcc
    inHandler f lt = true →
    ∃ t, exec (.eret lt .tcc rd rs1 rs2) s = .next t ∧ sameMemory f t ∧ t.tbit lt regChAmStatus 0 = false ∧
      (t.tile lt).tcc = { c with prv := c.pprvS, ieS := c.pieS, trapS := false, pc := c.ts.pc, retired := c.retired + 1 } ∧
      boltHead t lt (amBolt f lt) = boltHead (amRelease f lt) lt (amBolt f lt))

/-- While no Sketch is active, a write of LC_STARTn from S or M starts at LC_ENTRY every lane core it names that neither runs nor holds a record, and leaves every other; in cluster mode bit 16m starts the sixteen lane cores of medium core m and the other bits are ignored. RESUME and SKIP of a record clear it and let the core (or its whole medium core) run from the faulting instruction and from the next (8 B on behind an illegal instruction whose word marks a 64-bit one), END stops it, REDIRECT lets it run from LC_NEWPC. Under an active Sketch, and for an action on a core without a record, nothing is performed and BAD_ACTION is set. Completion: exec answers a next state with the effect stated, under conditions on the state and the operands alone, for every form of lcStart, lcResume, lcSkip, lcEnd, lcRedirect. (R129, R130, R132, 05_lane_cores_and_vector_work) -/
def Obligations.LaneControl : Prop :=
  ∀ (s : State) (lt : Nat) (lv : Level), lt < 1320 → lv ≠ .u →
    (∀ (n : BitVec 3) (v : Word), (s.tile lt).sk.active = none →
      ∃ t, exec (.lcStart lt lv n v) s = .next t ∧ sameMemory s t ∧ (t.tile lt).tcc = (s.tile lt).tcc ∧
        ∀ k, k < 256 →
          let lead := leadLane (s.tile lt) k
          (t.tile lt).lane k = if 32 * n.toNat ≤ lead ∧ lead < 32 * n.toNat + 32 ∧ bit v (lead - 32 * n.toNat) = true ∧
              ((s.tile lt).lane lead).st ≠ .running ∧ ((s.tile lt).lane lead).frec.valid = false
            then { (s.tile lt).lane k with st := .running, pc := s.treg lt regLcEntry, started := true, wait := none }
            else (s.tile lt).lane k) ∧
    (∀ (n : BitVec 3) (v : Word), (s.tile lt).sk.active ≠ none → v ≠ 0 →
      ∃ t, exec (.lcStart lt lv n v) s = .next t ∧ (t.tile lt).lanes = (s.tile lt).lanes ∧ t.tbit lt regLcStatus 0 = true) ∧
    (∀ (lane : BitVec 8),
      let l := (s.tile lt).lane (leadLane (s.tile lt) lane.toNat)
      let acts := [(Instr.lcResume lt lv lane, LaneSt.running, l.frec.pc), (.lcSkip lt lv lane, .running, l.frec.pc + (if l.frec.cause = causeIllegal ∧ fld l.frec.info 1 0 = 3 then 8 else 4)),
        (.lcEnd lt lv lane, .stopped, l.frec.pc), (.lcRedirect lt lv lane, .running, s.treg lt regLcNewpc)]
      ((s.tile lt).sk.active = none → l.frec.valid = true → ∀ a ∈ acts,
        ∃ t, exec a.1 s = .next t ∧ sameMemory s t ∧
          (∀ k ∈ coreLanes (s.tile lt) lane.toNat, (t.tile lt).lane k =
            { (s.tile lt).lane k with frec := { ((s.tile lt).lane k).frec with valid := false }, st := a.2.1, pc := a.2.2 }) ∧
          ∀ k, k ∉ coreLanes (s.tile lt) lane.toNat → (t.tile lt).lane k = (s.tile lt).lane k) ∧
      ((s.tile lt).sk.active ≠ none ∨ l.frec.valid = false → ∀ a ∈ acts,
        ∃ t, exec a.1 s = .next t ∧ (t.tile lt).lanes = (s.tile lt).lanes ∧ t.tbit lt regLcStatus 0 = true))

/-- From S or M: a power-down of a bank that is on and that no condition of R65 excludes starts its drain with the contents kept; one that a condition excludes sets REFUSED with its CAUSE and leaves the bank; a power-up of a bank that is off starts its ramp, one of a bank that is on is refused with CAUSE 6, and a request during a drain, or a power-up during a ramp, waits. At the end of a drain the bank is off, at the end of a ramp it is on, and either way every byte of it reads as zero and every other byte as before; the oldest waiting power-up of a bank that is off then starts. The scrubber advances by one line and changes no byte; a single-bit error read is corrected and a double-bit error leaves a poisoned word and ECC_UNCORR. Completion: exec answers a next state with the effect stated, under conditions on the state and the operands alone, for every form of scrubTick, bankPowerDown, bankPowerOffDone, bankPowerUp, bankPowerUpDone, bankPowerQueuedStart. (R63, R64, R65, R66, R67, 03_tile_memory_and_bolts) -/
def Obligations.BankPower : Prop :=
  (∀ (s : State) (lt : Nat) (lv : Level) (b : BitVec 6), lt < 1320 → lv ≠ .u →
    ((s.tile lt).bank b.toNat = .on → interleavedOf s lt = false → meetsBolt s lt (0x9C000 * b.toNat, 0x9C000) 64 = false →
      meetsLwin s lt (0x9C000 * b.toNat, 0x9C000) 16 = false → (s.tile lt).laneSaved = false →
      ∃ t, exec (.bankPowerDown lt lv b) s = .next t ∧ (t.tile lt).bank b.toNat = .draining ∧ sameMemory s t) ∧
    (∀ c, (s.tile lt).bank b.toNat = .on ∨ (s.tile lt).bank b.toNat = .off → downCause s lt b.toNat = some c →
      ∃ t, exec (.bankPowerDown lt lv b) s = .next t ∧ (t.tile lt).bank b.toNat = (s.tile lt).bank b.toNat ∧
        t.tbit lt regMemPwrStatus 9 = true ∧ t.tfld lt regMemPwrStatus 12 10 = c ∧ sameMemory s t) ∧
    ((s.tile lt).bank b.toNat = .off →
      ∃ t, exec (.bankPowerUp lt lv b) s = .next t ∧ (t.tile lt).bank b.toNat = .ramping ∧ sameMemory s t) ∧
    ((s.tile lt).bank b.toNat = .on →
      ∃ t, exec (.bankPowerUp lt lv b) s = .next t ∧ (t.tile lt).bank b.toNat = .on ∧ t.tbit lt regMemPwrStatus 9 = true ∧
        t.tfld lt regMemPwrStatus 12 10 = 6 ∧ sameMemory s t) ∧
    ((s.tile lt).bank b.toNat = .draining ∨ (s.tile lt).bank b.toNat = .ramping →
      ∃ t, exec (.bankPowerUp lt lv b) s = .next t ∧ bankWaits t lt b.toNat = bankWaits s lt b.toNat ++ [true] ∧
        (t.tile lt).bank b.toNat = (s.tile lt).bank b.toNat ∧ sameMemory s t)) ∧
  (∀ (s : State) (lt : Nat) (b : BitVec 6), lt < 1320 →
    (∀ p ∈ [(Instr.bankPowerOffDone lt b, BankSt.draining, BankSt.off), (.bankPowerUpDone lt b, .ramping, .on)],
      (s.tile lt).bank b.toNat = p.2.1 → Memory.wf (s.tile lt).mem = true →
      ∃ t, exec p.1 s = .next t ∧ (t.tile lt).bank b.toNat = p.2.2 ∧
        (∀ a, memGet (t.tile lt).mem a = if bankOf (interleavedOf s lt) a = b.toNat then 0 else memGet (s.tile lt).mem a) ∧
        ∀ lt', lt' ≠ lt → t.tile lt' = s.tile lt') ∧
    (∀ rest, bankWaits s lt b.toNat = true :: rest → (s.tile lt).bank b.toNat = .off →
      ∃ t, exec (.bankPowerQueuedStart lt b) s = .next t ∧ (t.tile lt).bank b.toNat = .ramping ∧ bankWaits t lt b.toNat = rest ∧ sameMemory s t) ∧
    (s.tbit lt regMemCfg 1 = true → unitsStop s lt = false →
      ∃ t, exec (.scrubTick lt) s = .next t ∧ (t.tile lt).scrubPos = ((s.tile lt).scrubPos + 1) % 10240 ∧ sameMemory s t)) ∧
  (∀ (s : State) (lt w : Nat), wordBlocked s lt w = none →
    (wordErr s lt w = 1 → (touchRead s lt w).2 = none ∧ wordErr (touchRead s lt w).1 lt w = 0 ∧ sameMemory s (touchRead s lt w).1) ∧
    (2 ≤ wordErr s lt w → (touchRead s lt w).2 = some stEccUncorr ∧ wordErr (touchRead s lt w).1 lt w = 2 ∧ sameMemory s (touchRead s lt w).1))

/-- The conditions under which a request of this module's own tile to an open Bolt without overflow is granted at once (R78). -/
def Obl.grantable (s : State) (lt : Nat) (m : CreditMsg) : Prop :=
  m.am = false ∧ m.target.toNat < 64 ∧ m.kind.toNat < 3 ∧ boltOpen s lt m.target.toNat = true ∧ bit (boltCfg s lt m.target.toNat) 3 = true ∧
  overflowOf s lt m.target.toNat = none ∧ (s.tile lt).liveGrants < 512 ∧ freeGrants s lt ≠ [] ∧ answersOut s lt < 64 ∧
  boltMod s lt m.target.toNat ≤ 2 ^ 20 ∧
  ceilDiv m.bytes.toNat (cfgSlot (boltCfg s lt m.target.toNat)) ≤ boltSlots (boltCfg s lt m.target.toNat) ∧
  boltFits s lt m.target.toNat (ceilDiv m.bytes.toNat (cfgSlot (boltCfg s lt m.target.toNat))) = true ∧
  m.peer.toNat / 2 ^ 48 = hereId s

/-- What a grant of such a request leaves (R70, R77, R78). -/
def Obl.granted (s t : State) (lt : Nat) (m : CreditMsg) : Prop :=
  let b := m.target.toNat
  let k := ceilDiv m.bytes.toNat (cfgSlot (boltCfg s lt b))
  ∃ i g a, i ∈ freeGrants s lt ∧ kvGet Grant.reset (t.tile lt).grants i = g ∧ g.live = true ∧ g.target = m.target ∧ g.sender = m.peer ∧
    g.bolt = b ∧ g.start = boltReserve s lt b ∧ g.slots = k ∧ boltReserve t lt b = (boltReserve s lt b + k) % boltMod s lt b ∧
    boltHead t lt b = boltHead s lt b ∧ boltCommit t lt b = boltCommit s lt b ∧
    t.tfld lt (regBoltGranted b) 19 0 = s.tfld lt (regBoltGranted b) 19 0 + k ∧
    NetMsg.credit m.peer.toNat 2 a ∈ t.msgs ∧ a.reqTag = m.reqTag ∧ a.target = m.target ∧ fld a.creditTag 8 0 = i ∧
    a.offset.toNat = slotOff s lt b (boltReserve s lt b) % 2 ^ 32 ∧ sameMemory s t

/-- A REQUEST that may arrive, of a tile of this module to an open remote Bolt with room, for which nothing waits, is granted: whole slots are reserved, GRANTED grows by them, a free entry of the grant table holds the grant, and GRANT goes to the sender with the entry's tag and the offset of the first slot. One that is to be refused is answered REFUSE with its status; any other waits at the end of the target's queue of 16, and is answered NACK where the queue is full and the answer buffer has room. A waiting request at the front is granted once there is room. RETURN of a live grant frees its entry and its granted slots or bytes. Completion: exec answers a next state with the effect stated, under conditions on the state and the operands alone, for every form of creditRequest, creditGrantDeferred, creditReturn. (R76, R77, R78, R80, R384, 03_tile_memory_and_bolts) -/
def Obligations.CreditReceive : Prop :=
  (∀ (s : State) (lt : Nat) (m : CreditMsg), lt < 1320 → regionState s (regionOf s lt) ≠ 5 →
    mayArrive s (.credit (tileGa s lt) 1 m) = true →
    let q := kvGet [] (s.tile lt).reqQ m.target.toNat
    let s1 := netArrive s (.credit (tileGa s lt) 1 m)
    (Obl.grantable s1 lt m → q = [] → ∃ t, exec (.creditRequest lt m) s = .next t ∧ Obl.granted s1 t lt m) ∧
    (∀ st, refusal s lt m = some st → answersOut s1 lt < 64 →
      ∃ a, exec (.creditRequest lt m) s = .next (netSend s1 (.credit m.peer.toNat 4 a)) ∧ a.status = st ∧ a.reqTag = m.reqTag) ∧
    (m.am = false → refusal s lt m = none → q ≠ [] →
      (q.length < 16 → ∃ t, exec (.creditRequest lt m) s = .next t ∧ kvGet [] (t.tile lt).reqQ m.target.toNat = q ++ [m] ∧ t.net = s1.net ∧ sameMemory s t) ∧
      (16 ≤ q.length → answersOut s1 lt < 64 →
        ∃ a, exec (.creditRequest lt m) s = .next (netSend s1 (.credit m.peer.toNat 3 a)) ∧ a.reqTag = m.reqTag))) ∧
  (∀ (s : State) (lt : Nat) (m : CreditMsg) (rest : List CreditMsg), lt < 1320 →
    kvGet [] (s.tile lt).reqQ m.target.toNat = m :: rest → Obl.grantable s lt m →
    ∃ t, exec (.creditGrantDeferred lt m.target) s = .next t ∧ Obl.granted s t lt m ∧ kvGet [] (t.tile lt).reqQ m.target.toNat = rest) ∧
  (∀ (s : State) (lt : Nat) (m : CreditMsg) (i : Nat) (g : Grant), lt < 1320 → mayArrive s (.credit (tileGa s lt) 5 m) = true → grantOfTag s lt m.creditTag = some (i, g) → g.sender = m.peer →
    (g.target.toNat < 128 → g.bolt < 64 →
      ∃ t, exec (.creditReturn lt m) s = .next t ∧ kvGet Grant.reset (t.tile lt).grants i = { Grant.reset with gen := g.gen + 1 } ∧
        t.tfld lt (regBoltGranted g.bolt) 19 0 = s.tfld lt (regBoltGranted g.bolt) 19 0 - g.slots) ∧
    (128 ≤ g.target.toNat → g.target.toNat < 144 →
      ∃ t, exec (.creditReturn lt m) s = .next t ∧ kvGet Grant.reset (t.tile lt).grants i = { Grant.reset with gen := g.gen + 1 } ∧
        t.tfld lt (regMemLwinCred (g.target.toNat - 128)) 25 0 = s.tfld lt (regMemLwinCred (g.target.toNat - 128)) 25 0 - g.bytes ∧ sameMemory s t))

/-- A credited write from a tile of this module that passes the checks of R79 (a grant's range in a Bolt goes on at BASE past the Bolt's end) and lies in one piece in memory that can be written makes exactly its bytes read as the data, uses up its grant, gives its granted slots back, and is acknowledged OK. One that names no live grant writes no byte and is acknowledged with CREDIT_DENIED where its target is open and PEER_CLOSED where it is closed. Completion: exec answers a next state with the effect stated, under conditions on the state and the operands alone, for every form of creditedWriteArrive. (R79, R284, 03_tile_memory_and_bolts, 11_channels_and_messages) -/
def Obligations.CreditedWrite : Prop :=
  ∀ (s : State) (lt : Nat) (w : WriteMsg), lt < 1320 → w.abort = false → w.sender.toNat / 2 ^ 48 = hereId s → regionRefuses s lt = false →
    visible w.offset.toNat 1 = true → mayArrive s (.write (tileGa s lt) w) = true →
    let s1 := netArrive s (.write (tileGa s lt) w)
    (∀ i g, grantOfTag s lt w.creditTag = some (i, g) → g.target = w.target → g.sender = w.sender →
      withinGrant s lt g w = true →
      (g.target.toNat < 128 → g.bolt < 64 ∧ w.offset.toNat + w.data.length ≤ cfgBase (boltCfg s lt g.bolt) + cfgSize (boltCfg s lt g.bolt)) →
      healthy s lt w.offset.toNat w.data.length = true → Memory.wf (s.tile lt).mem = true →
      ∃ t a, exec (.creditedWriteArrive lt w) s = .next t ∧
        memBytes (t.tile lt).mem w.offset.toNat w.data.length = w.data ∧ sameMemoryBut lt w.offset.toNat w.data.length s t ∧
        kvGet Grant.reset (t.tile lt).grants i = { Grant.reset with gen := g.gen + 1 } ∧
        (g.target.toNat < 128 → t.tfld lt (regBoltGranted g.bolt) 19 0 = s.tfld lt (regBoltGranted g.bolt) 19 0 - g.slots) ∧
        t.msgs = s1.msgs ++ [.credit w.sender.toNat 6 a] ∧ a.status = stOk ∧ a.reqTag = w.reqTag) ∧
    (grantOfTag s lt w.creditTag = none →
      ∃ t a, exec (.creditedWriteArrive lt w) s = .next t ∧ sameMemory s t ∧
        t.msgs = s1.msgs ++ [.credit w.sender.toNat 6 a] ∧ a.reqTag = w.reqTag ∧
        a.status = if targetOpen s lt w.target.toNat then stCreditDenied else stPeerClosed)

/-- GRANT to a channel transaction whose source can be read sends the write with the grant's tag and offset, its header and its data, and the transaction awaits its acknowledgement; a GRANT for a request that the tile does not know goes back with RETURN. NACK starts a backoff of 64 x 2^tries cycles, at most 4,096, lengthened by less than an eighth; at its end, and when no answer came in time, REQUEST is sent again, and its answer is awaited for 4,096 cycles lengthened likewise where the request goes to a tile of this module. REFUSE and ACK end the transaction with the status they carry. Completion: exec answers a next state with the effect stated, under conditions on the state and the operands alone, for every form of creditGrant, creditNack, creditRetry, creditAnswerTimeout, creditRefuse, creditAck. (R77, R78, R80, R282, R285, R384, R385, 03_tile_memory_and_bolts) -/
def Obligations.CreditSender : Prop :=
  (∀ (s : State) (lt : Nat) (m : CreditMsg), lt < 1320 →
    (reqOf s lt m.reqTag = none → mayArrive s (.credit (tileGa s lt) 2 m) = true →
      ∃ a, exec (.creditGrant lt m) s = .next (netSend (netArrive s (.credit (tileGa s lt) 2 m)) (.credit m.peer.toNat 5 a)) ∧
        a.creditTag = m.creditTag) ∧
    (∀ r slot x, reqOf s lt m.reqTag = some r → r.owner = .xact slot → xactOf s lt slot = some x → slot < 64 →
      (r.phase = .asked → mayArrive s (.credit (tileGa s lt) 2 m) = true → r.dst.toNat / 2 ^ 48 = hereId s → ∀ s1 data,
        readRange (netArrive s (.credit (tileGa s lt) 2 m)) lt x.lv x.xlat (piecesOf (fieldAt x.msg 0 8) (msgLength x.msg)) = (s1, .ok data) →
        ∃ t w, exec (.creditGrant lt m) s = .next t ∧ xactOf t lt slot = some { x with phase := .sent } ∧ NetMsg.write r.dst.toNat w ∈ t.msgs ∧
          w.creditTag = m.creditTag ∧ w.offset = m.offset ∧ w.data = xactHead s1 lt x ++ data ∧ w.abort = false ∧ sameMemory s1 t) ∧
      (r.phase ≠ .givenUp → 1 ≤ s.tfld lt (regChUse x.ch) 22 16 → x.units ≤ s.tfld lt (regChUse x.ch) 15 0 → x.ch < 256 →
        chForeign s lt x.ch = false → s.tbit lt regDmaCringCfg 0 = false →
        ∀ i ∈ [(Instr.creditRefuse lt m, 4), (.creditAck lt m, 6)], mayArrive s (.credit (tileGa s lt) i.2 m) = true →
          ∃ t, exec i.1 s = .next t ∧ xactOf t lt slot = none ∧ ((t.tile lt).slot 4 slot).busy = false ∧
            ((t.tile lt).slot 4 slot).crec.status = m.status ∧ t.tfld lt (regChUse x.ch) 15 0 = s.tfld lt (regChUse x.ch) 15 0 - x.units ∧
            t.tfld lt (regChUse x.ch) 22 16 = s.tfld lt (regChUse x.ch) 22 16 - 1 ∧ sameMemory s t))) ∧
  (∀ (s : State) (lt : Nat) (m : CreditMsg) (r : SendReq), lt < 1320 → reqOf s lt m.reqTag = some r → r.phase = .asked →
    (mayArrive s (.credit (tileGa s lt) 3 m) = true → let b := min 4096 (64 * 2 ^ r.tries)
      ∃ t w, exec (.creditNack lt m) s = .next t ∧ reqOf t lt m.reqTag = some { r with phase := .backoff, tries := r.tries + 1, wait := w } ∧
      b ≤ w ∧ w < b + b / 8 ∧ sameMemory s t) ∧
    (r.dst.toNat / 2 ^ 48 = hereId s →
      ∃ t w, exec (.creditAnswerTimeout lt m.reqTag) s = .next t ∧ 4096 ≤ w ∧ w < 4608 ∧ NetMsg.credit r.dst.toNat 1 r.msg ∈ t.msgs ∧
        reqOf t lt m.reqTag = some { r with phase := .asked, tries := r.tries + 1, wait := w } ∧ (t.tile lt).retries = (s.tile lt).retries + 1)) ∧
  (∀ (s : State) (lt : Nat) (tag : BitVec 16) (r : SendReq), lt < 1320 → reqOf s lt tag = some r → r.phase = .backoff →
    exec (.creditRetry lt tag) s = .next (netSend (setReq s lt tag { r with phase := .asked, wait := answerWait s lt r.dst.toNat }) (.credit r.dst.toNat 1 r.msg)) ∧
    (r.dst.toNat / 2 ^ 48 = hereId s → 4096 ≤ answerWait s lt r.dst.toNat ∧ answerWait s lt r.dst.toNat < 4608))

/-! ### The Matrix Engine -/

/-- The constructors of wide instructions. -/
abbrev Obl.WCtor := Nat → CoreId → BitVec 5 → BitVec 5 → BitVec 5 → BitVec 5 → BitVec 32 → Instr

/-- The instructions of the Matrix Engine: WOP, the payload that the item takes, and whether payload and registers are legal (R138, R139). -/
def Obl.meRows : List (Obl.WCtor × Nat × (BitVec 32 → BitVec 32) × (BitVec 32 → BitVec 5 → BitVec 5 → BitVec 5 → Bool)) :=
  let mma := fun (pl : BitVec 32) (_ _ rs3 : BitVec 5) =>
    decide (pl.toNat < 512) && decide (fld pl 6 4 ≤ 4) && (fld pl 6 4 == 4 || rs3 == 0)
  let only := fun (m : BitVec 32) (pl : BitVec 32) => pl &&& ~~~m == 0
  [(.mmaBf16, 0, id, mma), (.mmaFp16, 1, id, mma), (.mmaFp8, 2, id, mma), (.mmaMx, 3, id, mma), (.mmaI8, 4, id, mma), (.mmaI4, 5, id, mma),
   (.mmaSp, 0x10, id, mma), (.mmaPr, 0x11, id, mma),
   (.mePred, 0x13, id, fun pl _ _ rs3 => decide (pl.toNat < 1024) && fld pl 6 4 == 1 && rs3 == 0),
   (.meWload, 8, id, fun pl _ rs2 rs3 => only 0x184 pl && rs2 == 0 && rs3 == 0),
   (.meFence, 9, id, fun pl rs1 rs2 rs3 => only 0x80 pl && rs1 == 0 && rs2 == 0 && rs3 == 0),
   (.prune, 0x12, id, fun pl _ _ _ => only 0x180 pl),
   (.meSelSelect, 0x14, fun pl => pl &&& ~~~1, fun pl _ _ rs3 => only 0x81 pl && rs3 == 0),
   (.meSelVerify, 0x14, fun pl => pl ||| 1, fun pl _ rs2 rs3 => only 0x81 pl && rs2 == 0 && rs3 == 0)]

/-- Each of the fourteen instructions of UNIT 0 that issues with a legal payload and legal registers, while a slot is free, appends one item to the engine's queue that holds its WOP, payload, register values and level, takes a free slot of the 64, and returns the slot's handle in rd; no other register of the TCC and no byte of memory changes. With no slot free it stalls, and with a payload or register that must be zero and is not it raises illegal instruction. Completion: exec answers a next state with the effect stated, under conditions on the state and the operands alone, for every form of mmaBf16, mmaFp16, mmaFp8, mmaMx, mmaI8, mmaI4, meWload, meFence, mmaSp, mmaPr, prune, mePred, meSelSelect, meSelVerify. (R93, R105, R138, R139, R152, 06_matrix_engine, 08_sparsity_and_expert_dispatch) -/
def Obligations.MeInstructions : Prop :=
  ∀ p ∈ Obl.meRows, ∀ (s : State) (lt : Nat) (rd rs1 rs2 rs3 : BitVec 5) (pl : BitVec 32), issues s lt .tcc 8 tccNoAm = true →
    let f := fetched s lt .tcc 8
    (p.2.2.2 pl rs1 rs2 rs3 = true → freeSlots f lt 0 ≠ [] →
      ∃ t n it, exec (p.1 lt .tcc rd rs1 rs2 rs3 pl) s = .next t ∧ n ∈ freeSlots f lt 0 ∧ n < 64 ∧
        (meOf t lt).items = (meOf f lt).items ++ [it] ∧ it.slot = n ∧ it.wop = p.2.1 ∧ it.payload = (p.2.2.1 pl).toNat ∧
        it.r1 = gRead f lt .tcc rs1 ∧ it.r2 = gRead f lt .tcc rs2 ∧ it.r3 = gRead f lt .tcc rs3 ∧ it.drain = decide (rs1 = 0) ∧
        it.lv = levelAt f lt .tcc ∧ it.started = false ∧ ((t.tile lt).slot 0 n).busy = true ∧
        it.handle = mkHandle 0 n ((t.tile lt).slot 0 n).gen.toNat ∧
        (rd ≠ 0 → gRead t lt .tcc rd = BitVec.ofNat 64 it.handle) ∧ (∀ r, r ≠ rd → gRead t lt .tcc r = gRead f lt .tcc r) ∧
        pcOf t lt .tcc = pcOf f lt .tcc + 8 ∧ sameMemory f t) ∧
    (p.2.2.2 pl rs1 rs2 rs3 = true → freeSlots f lt 0 = [] →
      exec (p.1 lt .tcc rd rs1 rs2 rs3 pl) s = .next (setWait f lt .tcc (some (.queueFull 0)))) ∧
    (p.2.2.2 pl rs1 rs2 rs3 = false →
      ∃ word, exec (p.1 lt .tcc rd rs1 rs2 rs3 pl) s = .next (coreTrap f lt .tcc causeIllegal stOk (some word) 0))

/-- A fence at the head of an open engine's queue completes OK; an item whose A descriptor address is misaligned completes with PROT_FAULT at progress 0, check 1, and the engine holds; one that passes its checks is started. A weight load leaves its buffer VALID with its K and N and completes with its rows. An issue slot with no job row ready that Underpainting may use counts one such row, changes no item, accumulator or byte of memory, and counts four rows of verification for the first open set that wants them. A fill gives the next item its plane, a staged block is held for it, and an issue slot adds the exact products of each row and column onto zero or the old accumulator, rounds once, and advances the item; an exact sum does not depend on the order of its terms. A row stored holds the converted elements and changes no other byte. An ended item leaves the queue with OK and its rows, or with the failure that ended it, a hold and the ME_FAULT registers. Completion: exec answers a next state with the effect stated, under conditions on the state and the operands alone, for every form of meItemStart, meWloadDone, meFillDone, meIssueSlot, meBlockStaged, meBlockWriteback, meItemComplete. (R136, R144, R145, R146, R149, R150, R151, R155, R157, R161, R162, 06_matrix_engine) -/
def Obligations.MeEngineEvents : Prop :=
  (∀ (s : State) (lt : Nat) (i : MeItem) (rest : List MeItem), lt < 1320 → (meOf s lt).items = i :: rest → i.started = false →
    meOpen s lt = true → ((meOf s lt).items.filter (fun x => x.started)).length < 8 → i.slot < 64 →
    (i.wop = 9 → ∃ t, exec (.meItemStart lt) s = .next t ∧ (∀ x ∈ (meOf t lt).items, x.slot ≠ i.slot) ∧
      ((t.tile lt).slot 0 i.slot).busy = false ∧ ((t.tile lt).slot 0 i.slot).crec.status = stOk) ∧
    (isMma i.wop = true → i.drain = false → i.r1.toNat % 64 ≠ 0 → setNotReady s lt i = false →
      ∃ t, exec (.meItemStart lt) s = .next t ∧ ((t.tile lt).slot 0 i.slot).crec.status = stProtFault ∧
        ((t.tile lt).slot 0 i.slot).crec.progress = 0 ∧ t.tbit lt regMeStatus 11 = true ∧ t.tfld lt regMeFaultItem 19 16 = 1 ∧
        t.tfld lt regMeFaultItem 7 0 = i.slot ∧ (t.treg lt regMeFaultAddr).toNat = i.r1.toNat % 2 ^ 28) ∧
    (isMma i.wop = true → setNotReady s lt i = false → i.addrs.all (descAddrOk i.lv) = true →
      ∀ s1 j, readDescs (studyCount s lt i).1 lt i = (s1, .ok j) →
        let num := i.num.getD (meOf s lt).mmaCount
        let d := studyDraw s1 lt num (s.region (regionOf s lt)).studyDue (studyCount s lt i).2 j
        let k := { j with started := true, num := some num, sample := d.2, remask := recomputes d.1 lt j.r3 }
        let s2 := modItem d.1 lt i.slot (fun _ => k)
        awaitsLoad (meOf s2 lt) k = false → itemChecks s2 lt k (.now ((meOf s2 lt).buf (meWbuf k.payload))) = none →
        ∃ t x, exec (.meItemStart lt) s = .next t ∧ x ∈ (meOf t lt).items ∧ x.slot = j.slot ∧ x.started = true ∧ x.checked = true ∧
          x.descA = j.descA ∧ x.descD = j.descD ∧ x.rows = j.rows)) ∧
  (∀ (s : State) (lt : Nat) (i : MeItem) (s1 : State) (vals : List (List (Option FVal))), lt < 1320 → (meOf s lt).items = [i] →
    i.wop = 8 → i.reading = true → (meOf s lt).stopping = none → i.slot < 64 → readB s lt i.lv i.cfgA i.dA = (s1, .ok vals) →
    ∃ t, exec (.meWloadDone lt) s = .next t ∧ (meOf t lt).items = [] ∧
      (let b := (meOf t lt).buf (meWbuf i.payload)
       b.valid = true ∧ b.k = i.dA.rows ∧ b.n = i.dA.cols ∧ b.vals = vals) ∧
      ((t.tile lt).slot 0 i.slot).crec.status = stOk ∧ ((t.tile lt).slot 0 i.slot).crec.progress = i.dA.rows % 2 ^ 32) ∧
  (∀ (s : State) (lt : Nat) (i : MeItem), lt < 1320 →
    ((meOf s lt).items.find? (fun i => i.isRows && i.plane.isNone) = some i → i.wantsPlane = true → shadowFree (meOf s lt) = true →
      ∃ t x, exec (.meFillDone lt) s = .next t ∧ x ∈ (meOf t lt).items ∧ x.slot = i.slot ∧
        x.plane = some ((meOf s lt).buf (meWbuf i.payload)) ∧ sameMemory s t) ∧
    (meStopping s lt = false → unitsStop s lt = false → stagingItem (meOf s lt) = some i → i.wb ≠ 4 →
      ∀ s1 rows, readABlock s lt i.lv i.cfgA i.dA i.stagedTo = (s1, .ok rows) →
        ∃ t x, exec (.meBlockStaged lt) s = .next t ∧ x ∈ (meOf t lt).items ∧ x.slot = i.slot ∧ (i.stagedTo, rows) ∈ x.staged ∧
          x.stagedTo = i.stagedTo + 1 ∧ sameMemory s1 t)) ∧
  (∀ (s : State) (lt : Nat) (c : BitVec 6) (i : MeItem) (p : MeBuf) (blk : List (List FVal)), lt < 1320 → unitsStop s lt = false →
    (s.tile lt).asleep = 0 → isIssueSlot (slotsOf s lt) c.toNat = true → meStopping s lt = false →
    readyItem (meOf s lt) = some i → i.wop ≠ wopSel → i.plane = some p → p.n ≤ 128 → i.sample = none →
    (i.staged.find? (fun x => x.1 == i.issued / 128)).map Prod.snd = some blk →
    let n := min (rowGroup i.cfgA.format p) (blockLen i.rows (i.issued / 128) - i.issued % 128)
    (∀ k, k < n → rowMeetsErr (meOf s lt) i p (i.issued + k) = false) →
    ∃ t, exec (.meIssueSlot lt c) s = .next t ∧ (∃ x ∈ (meOf t lt).items, x.slot = i.slot ∧ x.issued = i.issued + n) ∧
      (∀ k j, k < n → j < p.n →
        let ix := accIdx (i.setOf (i.issued / 128)) ((i.issued + k) % 128) j
        kvGet 0 (meOf t lt).sets ix = BitVec.ofNat 32 (dot (if meAccum i.payload then fp32.decode (accWord (meOf s lt) ix) else FVal.zero)
          (rowTerms (blk.getD (i.issued % 128 + k) []) (p.col j)))) ∧ sameMemory s t) ∧
  (∀ (s : State) (lt : Nat) (c : BitVec 6), lt < 1320 → c ≠ 0 → unitsStop s lt = false → (s.tile lt).asleep = 0 →
    isIssueSlot (slotsOf s lt) c.toNat = true → readyItem (meOf s lt) = none → underpaints s lt = true →
    ∃ t, exec (.meIssueSlot lt c) s = .next t ∧ (meOf t lt).items = (meOf s lt).items ∧ (meOf t lt).sets = (meOf s lt).sets ∧ sameMemory s t ∧
      (t.tile lt).winFill = (s.tile lt).winFill + 1 ∧ kvGet 0 (t.tile lt).counters 3 = (kvGet 0 (s.tile lt).counters 3 + 1) % 2 ^ 64 ∧
      ((meOf s lt).preds.find? (wantsFill s lt) = none → (t.tile lt).me = (s.tile lt).me) ∧
      (∀ p, (meOf s lt).preds.find? (wantsFill s lt) = some p → runOf t lt p.set = { p with filled := p.filled + 4 })) ∧
  (∀ (c : FVal) (ts ts' : List FVal), ts.Perm ts' → dot c ts = dot c ts') ∧
  (∀ (s : State) (lt : Nat) (i : MeItem) (r : Nat) (vs : List FVal), Memory.wf (s.tile lt).mem = true → isMx i.cfgD.format = false →
    let bs := packElems (elemBits i.cfgD.format) (convRun i.cfgD (dRandom s lt i.dD r) 0 vs Tally.none).1
    let a := i.dD.base + r * i.dD.stride
    healthy s lt a bs.length = true →
    (storeRow s lt i false r vs).2 = none ∧ memBytes ((storeRow s lt i false r vs).1.tile lt).mem a bs.length = bs ∧
    sameMemoryBut lt a bs.length s (storeRow s lt i false r vs).1) ∧
  (∀ (s : State) (lt : Nat) (i : MeItem) (b : Nat) (s1 : State) (n : Nat), lt < 1320 → unitsStop s lt = false → meStopping s lt = false →
    writingItem (meOf s lt) false = some (i, b) → i.wop ≠ wopPrune → i.sample = none → blockMeetsErr (meOf s lt) i b i.resultCols = false →
    writeBlock s lt i b (blockValues (meOf s lt) i b i.resultCols) = (s1, n, none) → (∃ x ∈ (meOf s1 lt).items, x.slot = i.slot) →
    i.wop ≠ wopPr →
    ∃ t, exec (.meBlockWriteback lt) s = .next t ∧ (∃ x ∈ (meOf t lt).items, x.slot = i.slot ∧ x.done = 128 * b + n) ∧ sameMemory s1 t) ∧
  (∀ (s : State) (lt : Nat) (i : MeItem), lt < 1320 → unitsStop s lt = false → (meOf s lt).stopping = none → i.slot < 64 → i.wop ≠ wopSel →
    (meOf s lt).items.find? (fun i => (meOf s lt).ended i && !(meStopping s lt && i.wop == wopSel)) = some i →
    (i.failed = none → ∃ t, exec (.meItemComplete lt) s = .next t ∧ (∀ x ∈ (meOf t lt).items, x.slot ≠ i.slot) ∧
      ((t.tile lt).slot 0 i.slot).busy = false ∧ ((t.tile lt).slot 0 i.slot).crec.status = stOk ∧
      ((t.tile lt).slot 0 i.slot).crec.progress = i.rows % 2 ^ 32 ∧ (meMec i.payload = true → t.tbit lt regMeInt 0 = true)) ∧
    (∀ x, i.failed = some x → ∃ t, exec (.meItemComplete lt) s = .next t ∧ (∀ y ∈ (meOf t lt).items, y.slot ≠ i.slot) ∧
      ((t.tile lt).slot 0 i.slot).crec.status = x.status ∧ ((t.tile lt).slot 0 i.slot).crec.progress = i.done % 2 ^ 32 ∧
      t.tbit lt regMeStatus 11 = true ∧ t.tbit lt regMeInt 1 = true ∧ t.tfld lt regMeFaultItem 15 8 = x.status.toNat))

/-- From S or M, RELEASE clears FAULT_HOLD, and ABORT of an engine that has no block to finish, a weight load that reads among its items or not, completes every item with ABORTED and empties the queue. From M, SAVE of an engine that is neither saving nor saved sets SAVING where banks 0 to 26 are on and SAVE_REFUSED where one is not; its end puts every accumulator word at its place of the save area, empties the queue and sets SAVED; RESTORE reads every accumulator word from there, puts the recorded items of the queue, but for their samples, before those issued meanwhile (that place is the model's choice, log entry 54), takes the VALID bits and sizes of the buffers, MEC_ALL and FAULT_HOLD from the control record, and clears SAVED; DISCARD completes the saved items with PREEMPTED, empties sets and buffers and clears SAVED. From S the last three, and SAVE, do nothing; from U all are refused. Completion: exec answers a next state with the effect stated, under conditions on the state and the operands alone, for every form of meRelease, meAbort, meSave, meSaveDone, meRestore, meDiscard. (R157, R158, R164, R165, R166, R169, 06_matrix_engine) -/
def Obligations.MeControl : Prop :=
  ∀ (s : State) (lt : Nat), lt < 1320 →
    (∀ (lv : Level), lv ≠ .u →
      (∃ t, exec (.meRelease lt lv) s = .next t ∧ t.tbit lt regMeStatus 11 = false ∧ (t.tile lt).me = (s.tile lt).me ∧ sameMemory s t) ∧
      (meQuiet { discardStaged (meOf s lt) with stopping := some stAborted } = true →
        ∃ t, exec (.meAbort lt lv) s = .next t ∧ (meOf t lt).items = [] ∧ (meOf t lt).stopping = none ∧ t.tbit lt regMeStatus 11 = false ∧
          ∀ i ∈ (meOf s lt).items, i.slot < 256 → (∀ j ∈ (meOf s lt).items, j.slot = i.slot → j = i) →
            ((t.tile lt).slot 0 i.slot).busy = false ∧ ((t.tile lt).slot 0 i.slot).crec.status = stAborted)) ∧
    (s.tbit lt regMeStatus 12 = false → s.tbit lt regMeStatus 13 = false →
      ((∀ b, b < 27 → (s.tile lt).bank b = .on) →
        ∃ t, exec (.meSave lt .m) s = .next t ∧ t.tbit lt regMeStatus 12 = true ∧ (meOf t lt).sets = (meOf s lt).sets ∧ sameMemory s t) ∧
      ((∃ b, b < 27 ∧ (s.tile lt).bank b ≠ .on) →
        ∃ t, exec (.meSave lt .m) s = .next t ∧ t.tbit lt regMeStatus 15 = true ∧ t.tbit lt regMeStatus 12 = false ∧ (t.tile lt).me = (s.tile lt).me)) ∧
    (s.tbit lt regMeStatus 12 = true → meQuiet (meOf s lt) = true → unitsStop s lt = false → (meOf s lt).stopping = none →
      (∀ i ∈ (meOf s lt).items, (meOf s lt).ended i = false) →
      Memory.wf (s.tile lt).mem = true →
      ∃ t, exec (.meSaveDone lt) s = .next t ∧ t.tbit lt regMeStatus 12 = false ∧ t.tbit lt regMeStatus 13 = true ∧ (meOf t lt).items = [] ∧
        (meOf t lt).saved ≠ none ∧
        ∀ k, k < 65536 → leNat (memBytes (t.tile lt).mem (savePart (4 * k / 3072) + 4 * k % 3072) 4) = accWord (meOf s lt) k) ∧
    (∀ sv, (meOf s lt).saved = some sv →
      (∃ t, exec (.meRestore lt .m) s = .next t ∧ t.tbit lt regMeStatus 13 = false ∧ (meOf t lt).saved = none ∧
        (let eng := leNat (memBytes (s.tile lt).mem saveRecord 4)
         let w := fun n => leNat (memBytes (s.tile lt).mem (saveRecord + 4 + 4 * n) 4)
         (meOf t lt).items.map (fun x => { x with sample := none }) =
           ((List.range (min 64 (eng % 2 ^ 7))).filterMap (queuedItem s lt sv) ++ (meOf s lt).items).map (fun x => { x with sample := none }) ∧
         (∀ n, n < 2 → let b := (meOf t lt).buf n
           b.valid = nbit eng (8 + n) ∧ b.k = w n % 2 ^ 8 + 1 ∧ b.n = w n / 2 ^ 8 % 2 ^ 8 + 1 ∧ b.vals = (if n = 0 then sv.buf0 else sv.buf1).vals) ∧
         t.tbit lt regMeCtrl 0 = nbit eng 11 ∧ t.tbit lt regMeStatus 11 = nbit eng 7) ∧
        (∀ k, k < 65536 → accWord (meOf t lt) k = leNat (memBytes (s.tile lt).mem (savePart (4 * k / 3072) + 4 * k % 3072) 4)) ∧ sameMemory s t) ∧
      (∃ t, exec (.meDiscard lt .m) s = .next t ∧ t.tbit lt regMeStatus 13 = false ∧ (meOf t lt).saved = none ∧ (meOf t lt).sets = [] ∧
        (meOf t lt).buf0.valid = false ∧ (meOf t lt).buf1.valid = false ∧
        ∀ i ∈ sv.items, i.slot < 256 → ((t.tile lt).slot 0 i.slot).crec.status = stPreempted ∧ ((t.tile lt).slot 0 i.slot).busy = false)) ∧
    (∀ i ∈ [Instr.meSave lt .s, .meRestore lt .s, .meDiscard lt .s],
      exec i s = .next { s with replies := s.replies ++ [⟨0, 0, leBytes 4 0⟩] }) ∧
    (∀ i ∈ [Instr.meRelease lt .u, .meAbort lt .u, .meSave lt .u, .meRestore lt .u, .meDiscard lt .u],
      exec i s = .next { s with replies := s.replies ++ [⟨0, stProtFault.toNat, leBytes 4 0⟩] })

/-! ### DMA and the Routing Unit -/

/-- dma.copy, dma.cvt, dma.gather, dma.scatter, dma.2d, dma.remote and rtu.dispatch, rtu.combine that issue with a legal payload and a free slot of their unit append one item that holds the descriptor address in rs1 (a DMA item also its level and translation setting) and return its handle; dma.rearm of a completed item whose descriptor is kept queues it again at the progress of its record, with the slot's generation advanced and a new handle. Without a free slot they stall; with a payload or register that must be zero and is not they are illegal. No other register and no byte of memory changes. Completion: exec answers a next state with the effect stated, under conditions on the state and the operands alone, for every form of dmaCopy, dmaCvt, dmaGather, dmaScatter, dma2d, dmaRemote, dmaRearm, rtuDispatch, rtuCombine. (R93, R105, R218, R306, R317, 12_translation_dma_preemption, 08_sparsity_and_expert_dispatch) -/
def Obligations.DmaRtuInstructions : Prop :=
  (∀ p ∈ ([(.dmaCopy, 0), (.dmaCvt, 1), (.dmaGather, 2), (.dmaScatter, 3), (.dma2d, 4), (.dmaRemote, 5)] : List (Obl.WCtor × Nat)),
    ∀ (s : State) (lt : Nat) (rd rs1 rs2 rs3 : BitVec 5) (pl : BitVec 32), issues s lt .tcc 8 tccNoAm = true →
    let f := fetched s lt .tcc 8
    (pl = 0 → rs2 = 0 → rs3 = 0 →
      (freeSlots f lt 1 ≠ [] →
        ∃ t n it, exec (p.1 lt .tcc rd rs1 rs2 rs3 pl) s = .next t ∧ n ∈ freeSlots f lt 1 ∧ (t.tile lt).dma = (f.tile lt).dma ++ [it] ∧
          it.slot = n ∧ it.wop = p.2 ∧ it.addr = gRead f lt .tcc rs1 ∧ it.lv = (f.tile lt).tcc.prv ∧ it.xlat = (f.tile lt).tcc.xlat ∧
          it.running = false ∧ it.progress = 0 ∧ ((t.tile lt).slot 1 n).busy = true ∧
          (rd ≠ 0 → gRead t lt .tcc rd = BitVec.ofNat 64 (mkHandle 1 n ((t.tile lt).slot 1 n).gen.toNat)) ∧
          (∀ r, r ≠ rd → gRead t lt .tcc r = gRead f lt .tcc r) ∧ sameMemory f t) ∧
      (freeSlots f lt 1 = [] → exec (p.1 lt .tcc rd rs1 rs2 rs3 pl) s = .next (setWait f lt .tcc (some (.queueFull 1))))) ∧
    (pl ≠ 0 ∨ rs2 ≠ 0 ∨ rs3 ≠ 0 →
      ∃ word, exec (p.1 lt .tcc rd rs1 rs2 rs3 pl) s = .next (coreTrap f lt .tcc causeIllegal stOk (some word) 0))) ∧
  (∀ p ∈ ([(.rtuDispatch, 0), (.rtuCombine, 1)] : List (Obl.WCtor × Nat)),
    ∀ (s : State) (lt : Nat) (rd rs1 rs2 rs3 : BitVec 5) (pl : BitVec 32), issues s lt .tcc 8 tccNoAm = true →
    let f := fetched s lt .tcc 8
    (pl.toNat < 2 → rs2 = 0 → rs3 = 0 →
      (freeSlots f lt 2 ≠ [] →
        ∃ t n it, exec (p.1 lt .tcc rd rs1 rs2 rs3 pl) s = .next t ∧ n ∈ freeSlots f lt 2 ∧ (t.tile lt).rtu = (f.tile lt).rtu ++ [it] ∧
          it.slot = n ∧ it.wop = p.2 ∧ it.addr = gRead f lt .tcc rs1 ∧ it.int = bit pl 0 ∧ it.running = false ∧
          ((t.tile lt).slot 2 n).busy = true ∧
          (rd ≠ 0 → gRead t lt .tcc rd = BitVec.ofNat 64 (mkHandle 2 n ((t.tile lt).slot 2 n).gen.toNat)) ∧
          (∀ r, r ≠ rd → gRead t lt .tcc r = gRead f lt .tcc r) ∧ sameMemory f t) ∧
      (freeSlots f lt 2 = [] → exec (p.1 lt .tcc rd rs1 rs2 rs3 pl) s = .next (setWait f lt .tcc (some (.queueFull 2))))) ∧
    (2 ≤ pl.toNat ∨ rs2 ≠ 0 ∨ rs3 ≠ 0 →
      ∃ word, exec (p.1 lt .tcc rd rs1 rs2 rs3 pl) s = .next (coreTrap f lt .tcc causeIllegal stOk (some word) 0))) ∧
  (∀ (s : State) (lt : Nat) (rd rs1 : BitVec 5) (n : Nat) (x : Slot) (i : DmaItem), issues s lt .tcc 8 tccNoAm = true →
    let f := fetched s lt .tcc 8
    let h := (gRead f lt .tcc rs1).toNat
    slotOfHandle f lt h = some x → handleParts h = (1, n, x.gen.toNat) → kvFind (f.tile lt).dmaKept n = some i → x.busy = false →
    x.crec.valid = true → x.crec.handle = h →
    ∃ t it, exec (.dmaRearm lt .tcc rd rs1 0 0 0) s = .next t ∧ (t.tile lt).dma = (f.tile lt).dma ++ [it] ∧ it.wop = i.wop ∧ it.desc = i.desc ∧
      it.progress = x.crec.progress ∧ ((t.tile lt).slot 1 n).gen = x.gen + 1 ∧ ((t.tile lt).slot 1 n).busy = true ∧
      (rd ≠ 0 → gRead t lt .tcc rd = BitVec.ofNat 64 (mkHandle 1 n (x.gen + 1).toNat)) ∧ sameMemory f t)

/-- The next item of the queue whose descriptor can be read and passes its checks runs, with at most eight running; a descriptor address that is not a multiple of 64 completes it with PROT_FAULT, and DMA_FAULT names check 1. The item whose turn it is, the first in the order of the turns that does not wait, performs its next chunk and then goes to the end of that order; a chunk of dma.copy between ranges of memory that translate to one range each and can be read and written makes the destination bytes the source bytes, changes no other byte, and advances the item to the next 64 B boundary of the destination; the last one completes it with OK. A wait beyond the timeout sets STALL once and goes on. ABORT from S or M completes the items that are not remote at their progress with ABORTED. Completion: exec answers a next state with the effect stated, under conditions on the state and the operands alone, for every form of dmaItemStart, dmaChunk, dmaStallTimeout, dmaAbort. (R307, R309, R310, R311, R313, R316, R318, 12_translation_dma_preemption) -/
def Obligations.DmaEvents : Prop :=
  (∀ (s : State) (lt : Nat) (i : DmaItem) (first : Bool), lt < 1320 → nextDma (s.tile lt) = some (i, first) → i.desc = [] →
    ((s.tile lt).dma.filter (fun j => j.running)).length < 8 → (s.tile lt).preSaving = false → unitsStop s lt = false →
    (∀ s1 bs, readDescriptor s lt i = (s1, .ok bs) → i.checked = false →
      let j := { i with desc := bs }
      let s2 := putDma s1 lt j
      let k := { j with cfgS := palCfg s2 lt (fieldAt bs 0x14 1), cfgD := palCfg s2 lt (fieldAt bs 0x15 1) }
      (j.flag 1 = false ∨ first = true) → dmaChecks s2 lt k = none → k.progress < dmaTotal s2 k →
      ∃ t x, exec (.dmaItemStart lt) s = .next t ∧ x ∈ (t.tile lt).dma ∧ x.slot = i.slot ∧ x.running = true ∧ x.desc = bs ∧ x.wop = i.wop ∧
        sameMemory s1 t) ∧
    (i.addr.toNat % 64 ≠ 0 → i.slot < 64 → s.tbit lt regDmaFault 31 = false →
      ∃ t, exec (.dmaItemStart lt) s = .next t ∧ (∀ x ∈ (t.tile lt).dma, x.slot ≠ i.slot) ∧
        ((t.tile lt).slot 1 i.slot).busy = false ∧ ((t.tile lt).slot 1 i.slot).crec.status = stProtFault ∧
        t.tbit lt regDmaInt 1 = true ∧ t.tfld lt regDmaFault 19 16 = 1 ∧ t.tfld lt regDmaFault 7 0 = i.slot)) ∧
  (∀ (s : State) (lt : Nat) (slot : BitVec 6) (i : DmaItem), lt < 1320 → dmaOf s lt slot.toNat = some i → dmaTurn s lt = some slot.toNat → i.wop = 0 →
    i.srcBolt = false → i.dstBolt = false → i.slot < 64 →
    let n := min (i.length - i.progress) (64 - (i.dst + i.progress) % 64)
    let s0 := servedDma s lt slot.toNat
    ∀ s1 o1 s2 o2, dmaOffs s0 lt i .read (piecesOf (i.src + i.progress) n) = (s1, .ok [(o1, n)]) → healthy s1 lt o1 n = true →
      dmaOffs (readDone s1 lt .tcc o1 n) lt i .write (piecesOf (i.dst + i.progress) n) = (s2, .ok [(o2, n)]) → healthy s2 lt o2 n = true →
      boltForbids s2 lt o2 n = false → Memory.wf (s2.tile lt).mem = true →
      (i.progress + n < i.length →
        ∃ t, exec (.dmaChunk lt slot) s = .next t ∧ memBytes (t.tile lt).mem o2 n = memBytes (s1.tile lt).mem o1 n ∧ sameMemoryBut lt o2 n s2 t ∧
          (t.tile lt).dmaTurns.getLast? = some i.slot ∧ ∃ x ∈ (t.tile lt).dma, x.slot = i.slot ∧ x.progress = i.progress + n) ∧
      (i.progress + n = i.length →
        ∃ t, exec (.dmaChunk lt slot) s = .next t ∧ (∀ x ∈ (t.tile lt).dma, x.slot ≠ i.slot) ∧
          ((t.tile lt).slot 1 i.slot).busy = false ∧ ((t.tile lt).slot 1 i.slot).crec.status = stOk ∧
          ((t.tile lt).slot 1 i.slot).crec.progress = i.length % 2 ^ 32)) ∧
  (∀ (s : State) (lt : Nat) (slot : BitVec 6) (i : DmaItem) (k : Nat), lt < 1320 → dmaOf s lt slot.toNat = some i → i.reported = false →
    dmaWaits s lt i = some k →
    ∃ t, exec (.dmaStallTimeout lt slot) s = .next t ∧ t.tbit lt regDmaStatus 11 = true ∧ dmaOf t lt slot.toNat = some { i with reported := true } ∧
      sameMemory s t) ∧
  (∀ (s : State) (lt : Nat) (lv : Level), lt < 1320 → lv ≠ .u → (s.tile lt).reqs = [] →
    (∀ i ∈ (s.tile lt).dma, i.wop ≠ 5 ∧ i.failed = none ∧ i.inFlight = []) →
    ∃ t, exec (.dmaAbort lt lv) s = .next t ∧ (t.tile lt).dma = [] ∧
      ∀ i ∈ (s.tile lt).dma, (∀ j ∈ (s.tile lt).dma, j.slot = i.slot → j = i) →
        ((t.tile lt).slot 1 i.slot).busy = false ∧ ((t.tile lt).slot 1 i.slot).crec.status = stAborted ∧
        ((t.tile lt).slot 1 i.slot).crec.progress = i.progress % 2 ^ 32)

/-- The head item of an idle unit starts where its control block is aligned, readable and valid, a combine at token 0 or START and a fresh dispatch at position 0, and completes with PROT_FAULT where the block is misaligned. A position that is done advances the item. An expert of the table has room exactly where its counter is below its capacity. A dispatch whose positions are all taken and whose writes have landed completes with the first failure's status, where that is a status of the list, else CAPACITY_DROP where there were drops, else OK. A combine advances by a token that is written and counted, and completes OK with the last. A notice that matches a sent assignment marks it arrived and is released. A combine that waits too long completes with TIMEOUT; ABORT from S or M completes every item with ABORTED where no write is in flight. Completion: exec answers a next state with the effect stated, under conditions on the state and the operands alone, for every form of rtuItemStart, rtuPosition, rtuDispatchDone, rtuCombineToken, rtuNoticePop, rtuCombineTimeout, rtuAbort. (R218, R220, R222, R223, R224, R225, 08_sparsity_and_expert_dispatch) -/
def Obligations.RtuEvents : Prop :=
  (∀ (s : State) (lt : Nat) (i : RtuItem) (rest : List RtuItem), lt < 1320 → (s.tile lt).rtu = i :: rest → i.running = false →
    (s.tile lt).preSaving = false → unitsStop s lt = false → i.slot < 16 →
    (i.addr.toNat % 64 ≠ 0 → ∃ t, exec (.rtuItemStart lt) s = .next t ∧ (∀ x ∈ (t.tile lt).rtu, x.slot ≠ i.slot) ∧
      ((t.tile lt).slot 2 i.slot).busy = false ∧ ((t.tile lt).slot 2 i.slot).crec.status = stProtFault) ∧
    (i.addr.toNat % 64 = 0 → visible i.addr.toNat 128 = true → ∀ s1 b, tryRead s lt i.addr.toNat 128 = (s1, .ok b) → cbValid s1 lt b = true →
      (i.wop = 1 → ∃ t x, exec (.rtuItemStart lt) s = .next t ∧ x ∈ (t.tile lt).rtu ∧ x.slot = i.slot ∧ x.running = true ∧ x.cb = b ∧
        x.pos = (if cbResume b then cbStart b else 0) ∧ sameMemory s1 t) ∧
      (i.wop = 0 → cbResume b = false → ∀ s2 n, freshDispatch s1 lt b = (s2, .ok n) →
        ∃ t x, exec (.rtuItemStart lt) s = .next t ∧ x ∈ (t.tile lt).rtu ∧ x.slot = i.slot ∧ x.running = true ∧ x.cb = b ∧ x.pos = 0 ∧
          x.heldIn = n ∧ sameMemory s2 t))) ∧
  (∀ (s : State) (lt : Nat) (i : RtuItem), lt < 1320 → rtuRunning s lt = some i → i.stop = none → i.slot < 16 →
    (i.wop = 0 → i.pos < i.total → i.flying.length < 64 → ∀ s1, position s lt i = (s1, .ok true) → (∃ x, rtuRunning s1 lt = some x ∧ x.pos = i.pos) →
      ∃ t x, exec (.rtuPosition lt) s = .next t ∧ rtuRunning t lt = some x ∧ x.pos = i.pos + 1 ∧ sameMemory s1 t) ∧
    (i.wop = 0 → i.total ≤ i.pos → i.flying = [] → healthy s lt (cbReport i.cb) 0x18 = true →
      let r := memBytes (s.tile lt).mem (cbReport i.cb) 0x18
      ∃ t, exec (.rtuDispatchDone lt) s = .next t ∧ (∀ x ∈ (t.tile lt).rtu, x.slot ≠ i.slot) ∧ ((t.tile lt).slot 2 i.slot).busy = false ∧
        (let st := ((t.tile lt).slot 2 i.slot).crec.status
         if fieldAt r 0x10 4 ≠ 0 then statusCodes.contains (BitVec.ofNat 8 (fieldAt r 0x14 1)) = true → st = BitVec.ofNat 8 (fieldAt r 0x14 1)
         else if fieldAt r 4 4 ≠ 0 then st = stCapacityDrop else st = stOk)) ∧
    (i.wop = 1 → unitsStop s lt = false →
      (combineTotal s lt i ≤ i.pos → ∃ t, exec (.rtuCombineToken lt) s = .next t ∧ (∀ x ∈ (t.tile lt).rtu, x.slot ≠ i.slot) ∧
        ((t.tile lt).slot 2 i.slot).crec.status = stOk) ∧
      (i.pos + 1 < combineTotal s lt i → ∀ s1 s2, combineNext s lt i = (s1, .ok (some ())) →
        addReport s1 lt i.cb 0x28 (if i.pos < cbT i.cb then 1 else 0) = (s2, .ok ()) → (s2.tile lt).rtuHeldIn = (s.tile lt).rtuHeldIn →
        (s2.tile lt).rtu = (s.tile lt).rtu →
        ∃ t, exec (.rtuCombineToken lt) s = .next t ∧ rtuRunning t lt = some { i with pos := i.pos + 1 } ∧ sameMemory s2 t) ∧
      (i.pos < combineTotal s lt i → ∀ s1, combineNext s lt i = (s1, .ok none) →
        ∃ t, exec (.rtuCombineTimeout lt) s = .next t ∧ (∀ x ∈ (t.tile lt).rtu, x.slot ≠ i.slot) ∧
          ((t.tile lt).slot 2 i.slot).crec.status = stTimeout) ∧
      (let bolt := cbReturn i.cb
       let off := slotOff s lt bolt (boltHead s lt bolt)
       let n := memBytes (s.tile lt).mem off 32
       let a := fieldAt n 0x14 2
       bolt < 64 → boltOpen s lt bolt = true → 1 ≤ boltReady s lt bolt → 32 ≤ cfgSlot (boltCfg s lt bolt) → boltMod s lt bolt ≤ 2 ^ 20 →
        off + 32 ≤ cfgBase (boltCfg s lt bolt) + cfgSize (boltCfg s lt bolt) → healthy s lt off 32 = true →
        healthy s lt (cbAssign i.cb + 8 * a) 8 = true → fieldAt n 0x10 4 = cbMicro i.cb → a < cbAssigns i.cb → Memory.wf (s.tile lt).mem = true →
        memGet (s.tile lt).mem (cbAssign i.cb + 8 * a + 2) = 0 →
        ∃ t, exec (.rtuNoticePop lt) s = .next t ∧ memGet (t.tile lt).mem (cbAssign i.cb + 8 * a + 2) = 1 ∧
          sameMemoryBut lt (cbAssign i.cb + 8 * a + 2) 1 s t ∧ boltHead t lt bolt = (boltHead s lt bolt + 1) % boltMod s lt bolt))) ∧
  (∀ (s s' : State) (lt : Nat) (b : Block) (e : Nat) (r : Bool), e < cbE b → hasRoom s lt b e = (s', .ok r) →
    (r = true ↔
      leNat (memBytes (s.tile lt).mem (cbCount b + 2 * e) 2) < fieldAt (memBytes (s.tile lt).mem (cbTable b + 16 * e) 16) 10 2)) ∧
  (∀ (s : State) (lt : Nat) (lv : Level), lt < 1320 → lv ≠ .u → ((s.tile lt).rtu.filter (fun i => i.running)).length ≤ 1 →
    (∀ i ∈ (s.tile lt).rtu, i.stop = none ∧ i.flying = []) →
    ∃ t, exec (.rtuAbort lt lv) s = .next t ∧ (t.tile lt).rtu = [] ∧
      ∀ i ∈ (s.tile lt).rtu, ((t.tile lt).slot 2 i.slot).busy = false ∧ ((t.tile lt).slot 2 i.slot).crec.status = stAborted)

/-! ### Sketches -/

/-- sk.switch to a LOADED slot, or to none, makes it ACTIVE and abandons the q.get and q.put that stall; to a slot that is not LOADED it raises illegal operand. q.get takes the oldest token of the queue into rd and stalls on an empty one; q.put on a route of this module with a credit sends the vector to the route's tile and uses one credit, and stalls without one. sk.load and sk.flush with a free slot of the unit's two append one item and return its handle. Other vector registers, and memory, stay. Completion: exec answers a next state with the effect stated, under conditions on the state and the operands alone, for every form of skSwitch, qGet, qPut, skLoad, skFlush. (R234, R241, R243, R246, R247, 09_sketches_dataflow) -/
def Obligations.SketchInstructions : Prop :=
  (∀ (s : State) (lt : Nat) (rd rs1 : BitVec 5) (imm : BitVec 14), issues s lt .tcc 4 ⟨true, false, .s, false⟩ = true →
    let f := fetched s lt .tcc 4
    (f.tile lt).cluster = false → imm.toNat < 8 →
    (∀ a, ((bit imm 2 = true ∧ a = none) ∨ (bit imm 2 = false ∧ (skSlot f lt (imm.toNat % 4)).st = 2 ∧ a = some (imm.toNat % 4))) →
      ∃ t, exec (.skSwitch lt .tcc rd rs1 imm) s = .next t ∧ (t.tile lt).sk.active = a ∧ (t.tile lt).sk.slots = (f.tile lt).sk.slots ∧
        ((f.tile lt).sk.active ≠ a → (t.tile lt).sk.switching = true ∧ ∀ n q, ((t.tile lt).lane n).wait ≠ some (.token q) ∧
          ((t.tile lt).lane n).wait ≠ some (.route q)) ∧
        pcOf t lt .tcc = pcOf f lt .tcc + 4 ∧ sameMemory f t) ∧
    (bit imm 2 = false → (skSlot f lt (imm.toNat % 4)).st ≠ 2 →
      ∃ word, exec (.skSwitch lt .tcc rd rs1 imm) s = .next (coreTrap f lt .tcc causeOperand stOk (some word) 0))) ∧
  (∀ (s : State) (lt n : Nat) (rd rs1 rs2 : BitVec 5) (idx : BitVec 6) (a : Nat), issues s lt (.lane n) 4 laneOnly = true →
    let f := fetched s lt (.lane n) 4
    let im := (skSlot f lt a).image
    (f.tile lt).sk.active = some a → (f.tile lt).cluster = false →
    (idx.toNat < 4 → rs1 = 0 → rs2 = 0 → laneDepth im n idx.toNat ≠ 0 →
      (∀ k r, queueToks f lt a (qKey n idx.toNat) = k :: r →
        ∃ t, exec (.qGet lt (.lane n) rd rs1 rs2 idx) s = .next t ∧ vGet t lt n rd = k.data ∧ queueToks t lt a (qKey n idx.toNat) = r ∧
          (∀ j x, ¬ (j = n ∧ x = rd) → vGet t lt j x = vGet f lt j x) ∧ sameMemory f t) ∧
      (queueToks f lt a (qKey n idx.toNat) = [] →
        exec (.qGet lt (.lane n) rd rs1 rs2 idx) s = .next (setWait f lt (.lane n) (some (.token idx.toNat))))) ∧
    (idx.toNat < 8 → rd = 0 → rs2 = 0 → routeKind im n idx.toNat ≠ 0 → routeKind im n idx.toNat ≠ 4 →
      (skSlot f lt a).failed.contains (rKey n idx.toNat) = false →
      let used := kvGet 0 (skSlot f lt a).inUse (rKey n idx.toNat)
      let room := routeFld im (routeNo im n idx.toNat) 6 2
      (used < room →
        ∃ t tok, exec (.qPut lt (.lane n) rd rs1 rs2 idx) s = .next t ∧
          t.msgs = f.msgs ++ [.token (hereId f * 2 ^ 48 + routeFld im (routeNo im n idx.toNat) 4 2 * 2 ^ 28) tok] ∧ tok.data = vGet f lt n rs1 ∧
          tok.lane = BitVec.ofNat 8 (routeFld im (routeNo im n idx.toNat) 2 1) ∧
          kvGet 0 (skSlot t lt a).inUse (rKey n idx.toNat) = used + 1 ∧ (∀ j x, vGet t lt j x = vGet f lt j x) ∧ sameMemory f t) ∧
      (room ≤ used →
        exec (.qPut lt (.lane n) rd rs1 rs2 idx) s = .next (setWait f lt (.lane n) (some (.route idx.toNat)))))) ∧
  (∀ (s : State) (lt : Nat) (rd rs1 rs2 rs3 : BitVec 5) (pl : BitVec 32), issues s lt .tcc 8 tccNoAm = true →
    let f := fetched s lt .tcc 8
    pl.toNat < 4 → rs2 = 0 → rs3 = 0 → freeSlots f lt 3 ≠ [] →
    ∀ p ∈ ([(Instr.skLoad lt .tcc rd rs1 rs2 rs3 pl, 0), (.skFlush lt .tcc rd rs1 rs2 rs3 pl, 1)] : List (Instr × Nat)),
      (p.2 = 0 → (f.tile lt).cluster = false) → (p.2 = 1 → rs1 = 0) →
      ∃ t n, exec p.1 s = .next t ∧ n ∈ freeSlots f lt 3 ∧
        (t.tile lt).sk.items = (f.tile lt).sk.items ++ [⟨n, p.2, gRead f lt .tcc rs1, pl.toNat, false⟩] ∧ ((t.tile lt).slot 3 n).busy = true ∧
        (rd ≠ 0 → gRead t lt .tcc rd = BitVec.ofNat 64 (mkHandle 3 n ((t.tile lt).slot 3 n).gen.toNat)) ∧ sameMemory f t)

/-- A load into the active slot completes with SKETCH_BUSY and check 1; one whose image can be read and passes the checks makes its slot LOADING, and at its end LOADED with the next GENERATION, and completes OK with the image's bytes. A flush of a slot that is not active makes it EMPTY and completes OK with its tokens counted; of the active one it completes with SKETCH_BUSY. At a switch's last step each used lane core of the active Sketch without a record starts at its ENTRY and every other running one stops. Every enabled trigger that names an object becomes due when the object is released on a tile that is not pre-empted, and a due trigger makes its LOADED target ACTIVE. Completion: exec answers a next state with the effect stated, under conditions on the state and the operands alone, for every form of skLoadStart, skLoadDone, skFlushStart, skTriggerSwitch, skSwitchLaneStart. (R235, R236, R238, R241, R242, R244, 09_sketches_dataflow) -/
def Obligations.SketchStore : Prop :=
  (∀ (s : State) (lt : Nat) (i : SkItem) (rest : List SkItem), lt < 1320 → (s.tile lt).sk.items = i :: rest → i.slot < 64 → unitsStop s lt = false →
    let x := skSlot s lt i.sk
    (i.wop = 0 → i.copying = false →
      ((s.tile lt).sk.active = some i.sk →
        ∃ t, exec (.skLoadStart lt) s = .next t ∧ ((t.tile lt).slot 3 i.slot).busy = false ∧ ((t.tile lt).slot 3 i.slot).crec.status = stSketchBusy ∧
          t.tbit lt regSkLoadErr 31 = true ∧ t.tfld lt regSkLoadErr 3 0 = 1) ∧
      (∀ s1 s2 h im, (s.tile lt).sk.active ≠ some i.sk → x.st ≠ 1 → x.tokens = 0 → visible i.addr.toNat 64 = true →
        memRead s lt i.addr.toNat 64 = (s1, .ok h) → visible i.addr.toNat (imBytes h) = true →
        memRead s1 lt i.addr.toNat (max 64 (imBytes h)) = (s2, .ok im) → imageFails s2 lt i.sk im = none →
        ∃ t, exec (.skLoadStart lt) s = .next t ∧ (skSlot t lt i.sk).st = 1 ∧ (skSlot t lt i.sk).image = im ∧
          (skSlot t lt i.sk).gen = (skSlot s2 lt i.sk).gen ∧ sameMemory s t)) ∧
    (i.copying = true →
      ∃ t, exec (.skLoadDone lt) s = .next t ∧ (skSlot t lt i.sk).st = 2 ∧ (skSlot t lt i.sk).gen = x.gen + 1 ∧ (skSlot t lt i.sk).image = x.image ∧
        (∀ y ∈ (t.tile lt).sk.items, y.slot ≠ i.slot) ∧ ((t.tile lt).slot 3 i.slot).busy = false ∧ ((t.tile lt).slot 3 i.slot).crec.status = stOk ∧
        ((t.tile lt).slot 3 i.slot).crec.progress = imBytes x.image % 2 ^ 32) ∧
    (i.wop = 1 →
      ((s.tile lt).sk.active = some i.sk →
        ∃ t, exec (.skFlushStart lt) s = .next t ∧ ((t.tile lt).slot 3 i.slot).crec.status = stSketchBusy ∧ skSlot t lt i.sk = x) ∧
      ((s.tile lt).sk.active ≠ some i.sk → x.st ≠ 0 →
        ∃ t, exec (.skFlushStart lt) s = .next t ∧ (skSlot t lt i.sk).st = 0 ∧ (skSlot t lt i.sk).queues = [] ∧ (skSlot t lt i.sk).gen = x.gen ∧
          ((t.tile lt).slot 3 i.slot).crec.status = stOk ∧ ((t.tile lt).slot 3 i.slot).crec.progress = x.tokens % 2 ^ 32 ∧
          t.tfld lt regSkFlushed 23 0 = min x.tokens (2 ^ 24 - 1)))) ∧
  (∀ (s : State) (lt : Nat), lt < 1320 → (s.tile lt).sk.switching = true → (s.tile lt).cluster = false →
    ∃ t, exec (.skSwitchLaneStart lt) s = .next t ∧ (t.tile lt).sk.switching = false ∧ sameMemory s t ∧
      ∀ n, n < 256 →
        let l := (s.tile lt).lane n
        let go := match (s.tile lt).sk.active with | some a => laneUsed (skSlot s lt a).image n && !l.frec.valid | none => false
        (go = true → ((t.tile lt).lane n).st = .running ∧ ((t.tile lt).lane n).started = true ∧
          ∃ a, (s.tile lt).sk.active = some a ∧ ((t.tile lt).lane n).pc = BitVec.ofNat 32 (laneEntry (skSlot s lt a).image n)) ∧
        (go = false → l.st = .running → ((t.tile lt).lane n).st = .stopped) ∧
        (go = false → l.st ≠ .running → (t.tile lt).lane n = l)) ∧
  (∀ (s : State) (lt o n : Nat), n < 4 → (s.tile lt).preStop = false → s.tbit lt (regSkTrig n) 16 = true → s.tfld lt (regSkTrig n) 13 0 = o →
    ((releaseTriggers s lt o).tile lt).sk.trigDue.contains n = true) ∧
  (∀ (s : State) (lt : Nat) (n : BitVec 2), lt < 1320 → (s.tile lt).cluster = false → (s.tile lt).sk.trigDue.contains n.toNat = true →
    (s.tile lt).preStop = false → (skSlot s lt (s.tfld lt (regSkTrig n.toNat) 15 14)).st = 2 →
    ∃ t, exec (.skTriggerSwitch lt [n] false) s = .next t ∧ (t.tile lt).sk.active = some (s.tfld lt (regSkTrig n.toNat) 15 14) ∧ sameMemory s t)

/-- A token that may arrive, so that none of its route put earlier is still on its way, joins, where it is for a LOADED slot, the end of its queue where that has room and nothing has spilled; for another slot it is late, is counted, and its credit returns; with queue full and no spill Bolt it is lost and counted. A spilled token moves into its queue once there is room and its slot of the Bolt is released. A credit return that may arrive, of the slot's generation, frees its credits. A stalled lane core is reported once in SK_STALL. A sampling instant adds one to the occupancy bin of every queue and to the samples; CLEAR zeroes both. The batch timer sends up to 64 pending tokens of a route, and a batch's completion is taken off and fails its route where it failed. Completion: exec answers a next state with the effect stated, under conditions on the state and the operands alone, for every form of skTokenArrive, skSpillMove, skCreditReturn, skStallTimeout, skHistSample, skHistCfgWrite, skBatchTimer, skBatchComplete. (R239, R240, R247, R248, R249, R250, R251, R252, R253, 09_sketches_dataflow) -/
def Obligations.SketchTokens : Prop :=
  (∀ (s : State) (lt : Nat) (k : SkToken), lt < 1320 → unitsStop s lt = false →
    mayArrive s (.token (tileGa s lt) k) = true →
    let n := k.slot.toNat
    let x := skSlot s lt n
    let key := qKey k.lane.toNat k.queue.toNat
    (x.st = 2 → (queueToks s lt n key).length < laneDepth x.image k.lane.toNat k.queue.toNat → spillToks s lt n key = [] →
      ∃ t, exec (.skTokenArrive lt k) s = .next t ∧ queueToks t lt n key = queueToks s lt n key ++ [k] ∧
        t.net = (netArrive s (.token (tileGa s lt) k)).net ∧ sameMemory s t) ∧
    (x.st ≠ 2 → ∃ t, exec (.skTokenArrive lt k) s = .next t ∧ (t.tile lt).sk = (s.tile lt).sk ∧ t.tbit lt regSkStatus 3 = true ∧
      (t.treg lt regSkLate).toNat = min (2 ^ 32 - 1) ((s.treg lt regSkLate).toNat + 1) ∧ sameMemory s t) ∧
    (x.st = 2 → laneDepth x.image k.lane.toNat k.queue.toNat ≤ (queueToks s lt n key).length → laneSpill x.image k.lane.toNat k.queue.toNat = 0xFF →
      ∃ t, exec (.skTokenArrive lt k) s = .next t ∧ (t.tile lt).sk = (s.tile lt).sk ∧ t.tbit lt regSkStatus 2 = true ∧
        t.tfld lt regSkOverrun 15 0 = min 65535 (s.tfld lt regSkOverrun 15 0 + 1) ∧ sameMemory s t)) ∧
  (∀ (s : State) (lt : Nat) (n q : BitVec 2) (l : BitVec 8) (k : SkToken) (r : List SkToken), lt < 1320 → unitsStop s lt = false →
    let x := skSlot s lt n.toNat
    let key := qKey l.toNat q.toNat
    let b := laneSpill x.image l.toNat q.toNat
    let off := slotOff s lt b (boltHead s lt b)
    spillToks s lt n.toNat key = k :: r → b < 64 → (queueToks s lt n.toNat key).length < laneDepth x.image l.toNat q.toNat →
    healthy s lt off 16 = true → boltMod s lt b ≤ 2 ^ 20 →
    ∃ t, exec (.skSpillMove lt n l q) s = .next t ∧ spillToks t lt n.toNat key = r ∧
      queueToks t lt n.toNat key = queueToks s lt n.toNat key ++ [{ k with data := BitVec.ofNat 128 (leNat (memBytes (s.tile lt).mem off 16)) }] ∧
      boltHead t lt b = (boltHead s lt b + 1) % boltMod s lt b ∧ sameMemory s t) ∧
  (∀ (s : State) (lt : Nat) (n : BitVec 2) (l : BitVec 8) (r : BitVec 3) (gen : BitVec 8) (k : Nat), lt < 1320 →
    (skSlot s lt n.toNat).gen = gen → (skSlot s lt n.toNat).st = 2 → (∀ m ∈ s.msgs, ∀ x, m = .skCredit x k → mayArrive s m = true) →
    ∃ t, exec (.skCreditReturn lt n l r gen k) s = .next t ∧
      kvGet 0 (skSlot t lt n.toNat).inUse (rKey l.toNat r.toNat) = kvGet 0 (skSlot s lt n.toNat).inUse (rKey l.toNat r.toNat) - k ∧ sameMemory s t) ∧
  (∀ (s : State) (lt : Nat) (l : BitVec 8) (q a : Nat), lt < 1320 → ((s.tile lt).lane l.toNat).wait = some (.token q) → q < 4 →
    (s.tile lt).sk.active = some a → a < 4 → (s.tile lt).sk.reported.contains l.toNat = false → s.tbit lt regSkStall 31 = false →
    ∃ t, exec (.skStallTimeout lt l) s = .next t ∧ t.tbit lt regSkStatus 0 = true ∧ t.tbit lt regSkStall 31 = true ∧
      t.tfld lt regSkStall 7 0 = l.toNat ∧ t.tfld lt regSkStall 23 16 = stChannelStall.toNat ∧ (t.tile lt).lanes = (s.tile lt).lanes ∧
      (t.tile lt).sk.reported.contains l.toNat = true) ∧
  (∀ (s : State) (lt : Nat), lt < 1320 → s.tbit lt regSkHistCfg 0 = true →
    let n := s.tfld lt regSkHistCfg 7 6
    let x := skSlot s lt n
    ∃ t, exec (.skHistSample lt) s = .next t ∧
      (t.treg lt regSkHistSamples).toNat = min (2 ^ 32 - 1) ((s.treg lt regSkHistSamples).toNat + 1) ∧
      (∀ k, k < 1024 →
        let c := 8 * k + histBin (if x.st = 0 then 0 else laneDepth x.image (k / 4) (k % 4))
          (match spillOf x.image (k / 4) (k % 4) with | some b => boltSlots (boltCfg s lt b) | none => 0)
          ((queueToks s lt n k).length + (spillToks s lt n k).length)
        kvGet 0 (t.tile lt).sk.hist c = min 65535 (kvGet 0 (s.tile lt).sk.hist c + 1)) ∧ sameMemory s t) ∧
  (∀ (s : State) (lt : Nat) (lv : Level) (v : Word), lt < 1320 → lv ≠ .u → bit v 8 = true →
    ∃ t, exec (.skHistCfgWrite lt lv v) s = .next t ∧ (t.tile lt).sk.hist = [] ∧ t.treg lt regSkHistSamples = 0 ∧
      t.tfld lt regSkHistCfg 5 1 = max 8 (min 24 (fld v 5 1)) ∧ sameMemory s t) ∧
  (∀ (s : State) (lt : Nat) (n : BitVec 2) (l : BitVec 8) (r : BitVec 3), lt < 1320 →
    let key := rKey l.toNat r.toNat
    let x := skSlot s lt n.toNat
    let b := batchKey x.gen key
    (kvGet [] x.batch key ≠ [] → fabMayTake s lt = true →
      ∃ t, exec (.skBatchTimer lt n l r) s = .next t ∧ kvGet [] (skSlot t lt n.toNat).batch key = (kvGet [] x.batch key).drop 64 ∧
        kvGet 0 (skSlot t lt n.toNat).sentBatches b = kvGet 0 x.sentBatches b + 1 ∧ sameMemory s t) ∧
    (∀ st, kvGet 0 x.sentBatches b ≠ 0 →
      ∃ t, exec (.skBatchComplete lt n l r x.gen st) s = .next t ∧ kvGet 0 (skSlot t lt n.toNat).sentBatches b = kvGet 0 x.sentBatches b - 1 ∧
        (st ≠ stOk → x.st = 2 → (skSlot t lt n.toNat).failed.contains key = true ∧ t.tbit lt regSkStatus 1 = true)))

/-! ### The on-wafer networks -/

/-- On a link that is up, a good flit clears the count of replays of its direction, a failed one raises it, and the ninth failure in a row (a first try and eight replays) takes the direction down. The start of an epoch change writes shadow tables made from the map and from what is out of use and leaves the active ones in use; the swap has no effect while a packet is in a router, and else makes them active and advances EPOCH. A message with another of its pair ahead of it on its channel cannot arrive, and the command of an arrival that cannot take place has no effect. A loss notice is counted at the tile whose router discarded the packet and at the tile that sent it, and ends the sender's channel transaction with REGION_OFF; no byte of memory changes. (That the direction goes down at the failure itself and not with the next epoch is the model's choice, log entry 31.) Completion: exec answers a next state with the effect stated, under conditions on the state and the operands alone, for every form of meshFlitReceive, meshLossNotice, epochChangeStart, epochSwap. (R48, R257, R260, R261, R262, R267, R268, 10_on_wafer_networks) -/
def Obligations.LinksAndEpochs : Prop :=
  (∀ (s : State) (pt : Nat) (net : BitVec 4) (dir : BitVec 2), linkExists pt net.toNat dir.toNat = true →
    linkDown s pt net.toNat dir.toNat = false →
    let key := linkKey pt (linkCode net.toNat dir.toNat)
    (∃ t, exec (.meshFlitReceive pt net dir true) s = .next t ∧ kvGet 0 t.mesh.replays key = 0 ∧ t.mesh.outLinks = s.mesh.outLinks ∧ sameMemory s t) ∧
    (kvGet 0 s.mesh.replays key < 8 →
      ∃ t, exec (.meshFlitReceive pt net dir false) s = .next t ∧ kvGet 0 t.mesh.replays key = kvGet 0 s.mesh.replays key + 1 ∧
        t.tiles = s.tiles ∧ t.mesh.outLinks = s.mesh.outLinks) ∧
    (8 ≤ kvGet 0 s.mesh.replays key →
      ∃ t, exec (.meshFlitReceive pt net dir false) s = .next t ∧ linkDown t pt net.toNat dir.toNat = true ∧ sameMemory s t)) ∧
  (∀ s : State, ∃ t, exec .epochChangeStart s = .next t ∧ t.mesh.shadow = some (newTab s) ∧ t.mesh.active = s.mesh.active ∧
    t.mesh.epoch = s.mesh.epoch ∧ sameMemory s t) ∧
  (∀ s : State, netDrained s = false → exec .epochSwap s = .next s) ∧
  (∀ (s : State) (f g : Flight), f ∈ s.net → aheadOf f g = true → tokenStays s f = false → arrivesNext s g = false) ∧
  (∀ (s : State) (lt : Nat) (m : CreditMsg), lt < 1320 →
    ∀ p ∈ [(Instr.creditRequest lt m, 1), (.creditGrant lt m, 2), (.creditNack lt m, 3), (.creditRefuse lt m, 4), (.creditReturn lt m, 5), (.creditAck lt m, 6)],
      mayArrive s (.credit (tileGa s lt) p.2 m) = false → exec p.1 s = .next s) ∧
  (∀ (s : State) (m : MeshTab), s.mesh.shadow = some m → netDrained s = true →
    ∃ t, exec .epochSwap s = .next t ∧ t.mesh.active = m ∧ t.mesh.shadow = none ∧ t.mesh.epoch = (s.mesh.epoch + 1) % 2 ^ 16 ∧
      t.gesso = s.gesso ∧ sameMemory s t) ∧
  (∀ (s : State) (lt pt k : Nat) (tag : BitVec 16), lt < 1320 → ltOfPt s pt = some k →
    let counted := fun t : State => t.tfld lt regMeshLost 31 16 = min 65535 (s.tfld lt regMeshLost 31 16 + 1) ∧
      t.tfld k regMeshLost 15 0 = min 65535 (s.tfld k regMeshLost 15 0 + 1)
    (∃ t, exec (.meshLossNotice lt pt .other) s = .next t ∧ counted t ∧ sameMemory s t) ∧
    (reqOf s lt tag = none → ∃ t, exec (.meshLossNotice lt pt (.request tag)) s = .next t ∧ counted t ∧ sameMemory s t) ∧
    (∀ r slot x, reqOf s lt tag = some r → r.owner = .xact slot → r.phase ≠ .givenUp → xactOf s lt slot = some x → slot < 64 → x.ch < 256 →
      chForeign s lt x.ch = false → s.tbit lt regDmaCringCfg 0 = false →
      ∃ t, exec (.meshLossNotice lt pt (.request tag)) s = .next t ∧ counted t ∧ xactOf t lt slot = none ∧ ((t.tile lt).slot 4 slot).busy = false ∧
        ((t.tile lt).slot 4 slot).crec.status = stRegionOff ∧ sameMemory s t))

/-- For a packet of a declared reduction and of one of its chunks that may arrive: at a router, one beyond the participants goes on from there with the channel, lane, source and age that it came with, another meets the sibling it finds and the two leave as one whose elements are the sums of theirs and whose span is wider and starts no later than either; with no sibling it is held, or with sixteen held it goes on. At its destination a packet beyond the participants, or one whose span meets one that was received before or whose chunk is done, is discarded and marked in MESH_RED_STATUS with RID and chunk; another one is noted, and with the root among the partials, and a format that RES_PAL may have, the chunk is done; without it, only its staging slot changes in memory. A held packet goes on when its wait ends; a chunk that stays incomplete is reported with RID and chunk and nothing else. (A reduction without a declaration stops by name: the spec gives no packet of one.) Completion: exec answers a next state with the effect stated, under conditions on the state and the operands alone, for every form of redPacketArrive, redWaitExpire, redChunkStall. (R271, R272, R273, R274, R275, 10_on_wafer_networks) -/
def Obligations.Reductions : Prop :=
  (∀ (s : State) (pt : Nat) (p : RedPkt), pt < 1440 → redKnown s p = true → mayArrive s (.red p) = true →
    let s1 := netArrive s (.red p)
    let q := promoteSpan (redParts s p.rid) 12 p
    let dst := redDest s p.rid
    (ptOf s dst ≠ pt → redParts s p.rid ≤ p.lo →
      ∃ t, exec (.redPacketArrive pt p) s = .next t ∧ t.msgs = s1.msgs ++ [.red p] ∧ t.redHeld = s.redHeld ∧ t.tiles = s.tiles ∧
          ∀ f, s.net.find? (fun f => f.msg == .red p && arrivesNext s f) = some f → t.net = s1.net ++ [{ f with pos := pt, left := f.size }]) ∧
    (ptOf s dst ≠ pt → p.lo < redParts s p.rid →
      (∀ x, (heldAt s pt).find? (fun h => areSiblings q h.1) = some x →
        ∃ t y, exec (.redPacketArrive pt p) s = .next t ∧ t.msgs = s1.msgs ++ [.red y] ∧ heldAt t pt = (heldAt s pt).erase x ∧
          y.elems = List.zipWith (redAdd (redFmt s p.rid)) q.elems x.1.elems ∧ y.rid = p.rid ∧ y.chunk = p.chunk ∧
          p.k < y.k ∧ y.lo ≤ p.lo ∧ (y.lo ≤ q.lo ∧ y.lo ≤ x.1.lo) ∧ t.tiles = s.tiles) ∧
      ((heldAt s pt).find? (fun h => areSiblings q h.1) = none → (heldAt s pt).length < 16 →
        ∃ t, exec (.redPacketArrive pt p) s = .next t ∧ t.net = s1.net ∧ heldAt t pt = heldAt s pt ++ [(q, carrierOf s pt p)] ∧ t.tiles = s.tiles) ∧
      ((heldAt s pt).find? (fun h => areSiblings q h.1) = none → 16 ≤ (heldAt s pt).length →
        ∃ t, exec (.redPacketArrive pt p) s = .next t ∧ t.msgs = s1.msgs ++ [.red q] ∧ heldAt t pt = heldAt s pt ∧ t.tiles = s.tiles)) ∧
    (ptOf s dst = pt →
      let c := redChunk s p.rid p.chunk
      let dropped := fun (bit : Nat) => ∃ t, exec (.redPacketArrive pt p) s = .next t ∧ t.redChunks = s.redChunks ∧
        t.tbit dst regMeshRedStatus bit = true ∧ t.tfld dst regMeshRedStatus 13 8 = p.rid ∧ t.tfld dst regMeshRedStatus 31 16 = p.chunk % 2 ^ 16 ∧
        sameMemory s t
      let ps := absorb s 12 c.parts q
      let root := fun z : RedPkt => z.lo == 0 && z.k == clog2 (redParts s p.rid)
      let stage := (redWord s p.rid 6).toNat + ((p.chunk % max 1 (redWindow s p.rid)) * redParts s p.rid + p.lo) * 512
      (redParts s p.rid ≤ p.lo → dropped 2) ∧
      (p.lo < redParts s p.rid → c.done = true ∨ c.spans.any (spansMeet (p.lo, p.k)) = true → dropped 1) ∧
      (p.lo < redParts s p.rid → c.done = false → c.spans.any (spansMeet (p.lo, p.k)) = false →
        (ps.find? root = none →
          ∃ t, exec (.redPacketArrive pt p) s = .next t ∧ redChunk t p.rid p.chunk = ⟨c.spans ++ [(p.lo, p.k)], ps, false⟩ ∧
            t.redLead = s.redLead ∧ (Memory.wf (s.tile dst).mem = true → sameMemoryBut dst stage 512 s t)) ∧
        (∀ x d, ps.find? root = some x → redFormatOk (palCfg s dst (redPal s p.rid)).format = true → d < redChunkCount s p.rid → d ≠ p.chunk → kvGet 0 s.redLead p.rid ≤ d → (redChunk s p.rid d).done = false →
          ∃ t, exec (.redPacketArrive pt p) s = .next t ∧ (redChunk t p.rid p.chunk).done = true ∧
            (redChunk t p.rid p.chunk).spans = c.spans ++ [(p.lo, p.k)] ∧ kvGet 0 t.redLead p.rid ≤ d ∧
            (∀ lt a, lt ≠ dst → memGet (t.tile lt).mem a = memGet (s.tile lt).mem a))))) ∧
  (∀ (s : State) (pt : Nat) (p : RedPkt), pt < 1440 → redKnown s p = true → ∀ h, (heldAt s pt).find? (fun h => h.1 == p) = some h →
    ∃ t, exec (.redWaitExpire pt p) s = .next t ∧ t.msgs = s.msgs ++ [.red p] ∧ heldAt t pt = (heldAt s pt).erase h ∧ t.tiles = s.tiles) ∧
  (∀ (s : State) (rid : BitVec 6) (chunk : Nat), redValid s rid.toNat = true → chunk < redChunkCount s rid.toNat →
    kvGet 0 s.redLead rid.toNat ≤ chunk → (redChunk s rid.toNat chunk).done = false →
    let dst := redDest s rid.toNat
    ∃ t, exec (.redChunkStall rid chunk) s = .next t ∧ t.redChunks = s.redChunks ∧ t.tbit dst regMeshRedStatus 0 = true ∧
      t.tfld dst regMeshRedStatus 13 8 = rid.toNat ∧ t.tfld dst regMeshRedStatus 31 16 = chunk % 2 ^ 16 ∧ sameMemory s t)

/-! ### Pre-emption -/

/-- A pre-emption request makes interrupt 14 pending. SAVE from M with banks 0 to 28 on sets SAVING and clears REFUSED; with one of them not on it sets REFUSED and changes nothing else; from S it is ignored. A lane core reaching its pre-emption point is parked and its state (Table 4.11) stands in its part of the save area, with every other byte as before; where its bank is not on it is lost: it is parked, stopped and counted. Once the units are quiet, SAVED replaces SAVING, the DMA queue is held as saved, the LC image stands in its region, and no byte outside the four parts of the two regions changes. Completion: exec answers a next state with the effect stated, under conditions on the state and the operands alone, for every form of preemptRequest, laneStateSave, tilePreSave, tilePreSaved. (R65, R116, R322, R323, R324, R329, 12_translation_dma_preemption) -/
def Obligations.TileSave : Prop :=
  (∀ (s : State) (lt : Nat), lt < 1320 →
    ∃ t, exec (.preemptRequest lt) s = .next t ∧ intPending t lt 14 = true ∧ sameMemory s t ∧ (t.tile lt).tcc = (s.tile lt).tcc) ∧
  (∀ (s : State) (lt : Nat), lt < 1320 →
    exec (.tilePreSave lt .s) s = .next (accessReply s stOk 0) ∧
    (preBit s lt 0 = false → preBit s lt 1 = false →
      ((∀ b, b < 29 → (s.tile lt).bank b = .on) →
        ∃ t, exec (.tilePreSave lt .m) s = .next t ∧ preBit t lt 0 = true ∧ preBit t lt 1 = false ∧ preBit t lt 2 = false ∧
          (t.tile lt).preSaving = true) ∧
      (∀ b, b < 29 → (s.tile lt).bank b ≠ .on →
        ∃ t, exec (.tilePreSave lt .m) s = .next t ∧ preBit t lt 0 = false ∧ preBit t lt 1 = false ∧ preBit t lt 2 = true ∧
          (t.tile lt).lanes = (s.tile lt).lanes ∧ (t.tile lt).dma = (s.tile lt).dma ∧ (t.tile lt).rtu = (s.tile lt).rtu ∧ sameMemory s t))) ∧
  (∀ (s : State) (lt : Nat) (lane : BitVec 8), lt < 1320 → (s.tile lt).preStop = true → unitsStop s lt = false →
    let n := lane.toNat
    let l := (s.tile lt).lane n
    l.parked = false →
    ((s.tile lt).bank (n / 4) = .on → Memory.wf (s.tile lt).mem = true →
      ∃ t, exec (.laneStateSave lt lane) s = .next t ∧ ((t.tile lt).lane n).parked = true ∧ (t.tile lt).laneSaved = true ∧
        memBytes (t.tile lt).mem (lanePart n) 1024 = laneImage l ∧ sameMemoryBut lt (lanePart n) 1024 s t ∧
        (∀ k, k ≠ n → (t.tile lt).lane k = (s.tile lt).lane k)) ∧
    ((s.tile lt).bank (n / 4) ≠ .on →
      ∃ t, exec (.laneStateSave lt lane) s = .next t ∧ ((t.tile lt).lane n).parked = true ∧ ((t.tile lt).lane n).st = .stopped ∧
        n ∈ (t.tile lt).lostLanes ∧
        t.tfld lt regTilePreStatus 16 8 =
          ((if (s.tile lt).lanes.any (fun p => p.2.parked) then s.tfld lt regTilePreStatus 16 8 else 0) + 1) % 512 ∧ sameMemory s t)) ∧
  (∀ (s : State) (lt : Nat), lt < 1320 → preBit s lt 0 = true → preQuiet s lt = true → unitsStop s lt = false →
    ((s.tile lt).discard = false → Memory.wf (s.tile lt).mem = true →
      ∃ t, exec (.tilePreSaved lt) s = .next t ∧ preBit t lt 0 = false ∧ preBit t lt 1 = true ∧ (t.tile lt).dmaSaved = (s.tile lt).dma ∧
        (t.tile lt).dma = [] ∧ (t.tile lt).preSaving = false ∧ regionBytes t lt 111 4352 = lcImage s lt ∧
        (∀ lt' a, (lt' = lt → ∀ k, k < 4 → ¬ (regionByte (109 + k) 0 ≤ a ∧ a < regionByte (109 + k) 0 + 3072)) →
          memGet (t.tile lt').mem a = memGet (s.tile lt').mem a)) ∧
    ((s.tile lt).discard = true →
      ∃ t, exec (.tilePreSaved lt) s = .next t ∧ preBit t lt 0 = false ∧ preBit t lt 1 = false ∧ (t.tile lt).dmaSaved = [] ∧
        (t.tile lt).discard = false))

/-- From M: RESUME of a saved tile clears SAVED, puts the saved DMA items back at the head of the queue in their order with the progress that their entries hold, and lets each saved lane core go on from the state in its part of the save area and each lost one stay stopped; no byte of memory changes. DISCARD clears SAVED, completes the saved DMA items with PREEMPTED and leaves every lane core stopped. After a refused SAVE both clear REFUSED. A placement group that is to halt asks each of its live tiles to pre-empt and marks it for discarding; a tile of another group is not asked. Completion: exec answers a next state with the effect stated, under conditions on the state and the operands alone, for every form of tilePreResume, tilePreDiscard, placementGroupHalt. (R116, R324, R325, R326, R327, 12_translation_dma_preemption) -/
def Obligations.TileResume : Prop :=
  (∀ (s : State) (lt : Nat), lt < 1320 → preBit s lt 1 = true →
    ∃ t, exec (.tilePreResume lt .m) s = .next t ∧ preBit t lt 1 = false ∧ (t.tile lt).preStop = false ∧ (t.tile lt).laneSaved = false ∧
      (t.tile lt).dmaSaved = [] ∧ (t.tile lt).dma.map (·.slot) = (s.tile lt).dmaSaved.map (·.slot) ++ (s.tile lt).dma.map (·.slot) ∧
      (∀ k i, k < 64 → (s.tile lt).dmaSaved[k]? = some i →
        ∃ j, (t.tile lt).dma[k]? = some j ∧ j.slot = i.slot ∧ j.running = false ∧
          j.progress = fieldAt (regionBytes s lt 109 5184) (64 + 80 * k + 0x44) 4) ∧
      (∀ n, ((s.tile lt).lane n).parked = true →
        let l := loadLane (s.tile lt).mem n ((s.tile lt).lane n)
        let x := (t.tile lt).lane n
        x.parked = false ∧
        ((s.tile lt).lostLanes.contains n = false → x.g = l.g ∧ x.v = l.v ∧ x.pc = l.pc ∧ x.fcsr = l.fcsr ∧ x.st = l.st) ∧
        ((s.tile lt).lostLanes.contains n = true → x.st = ((s.tile lt).lane n).st ∧ x.g = ((s.tile lt).lane n).g)) ∧
      sameMemory s t) ∧
  (∀ (s : State) (lt : Nat), lt < 1320 → preBit s lt 1 = true →
    (∀ sv, (meOf s lt).saved = some sv → ∀ j ∈ sv.items, j.slot < 256) →
    ∃ t, exec (.tilePreDiscard lt .m) s = .next t ∧ preBit t lt 1 = false ∧ (t.tile lt).dmaSaved = [] ∧ (t.tile lt).preStop = false ∧
      (∀ i ∈ (s.tile lt).dmaSaved, ((t.tile lt).slot 1 i.slot).crec.status = stPreempted ∧ ((t.tile lt).slot 1 i.slot).busy = false) ∧
      (∀ n, ((t.tile lt).lane n).st ≠ .running ∧ ((t.tile lt).lane n).parked = false)) ∧
  (∀ (s : State) (lt : Nat), lt < 1320 → preBit s lt 1 = false → preBit s lt 2 = true →
    ∀ i ∈ [Instr.tilePreResume lt .m, .tilePreDiscard lt .m],
      ∃ t, exec i s = .next t ∧ preBit t lt 2 = false ∧ (t.tile lt).preStop = false ∧ (t.tile lt).dma = (s.tile lt).dma ∧ sameMemory s t) ∧
  (∀ (s : State) (g : Nat), s.haltGroups.contains g = true →
    ∃ t, exec (.placementGroupHalt g) s = .next t ∧ t.haltGroups.contains g = false ∧
      (∀ lt ∈ allTiles s, groupOfTile s lt = g → tileLive s lt = true → preBit s lt 1 = false → preBit s lt 2 = false →
        (t.tile lt).preReq = ((s.tile lt).preReq || !preBit s lt 0) ∧ (t.tile lt).discard = true) ∧
      (∀ lt, groupOfTile s lt ≠ g → (t.tile lt).preReq = (s.tile lt).preReq ∧ (t.tile lt).discard = (s.tile lt).discard))

/-! ### The fabric -/

/-- EN set from M starts a port that was off, in TRAINING, or DOWN with the cause that holds it; EN cleared takes it DOWN as disabled; writes from S are ignored and from U refused. Trained, a port that no cause holds goes to HELLO with empty buffers, and IDLE flits flow from sequence number 0; a HELLO flit that is good and in order records the peer and takes the port UP, with its own HELLO on its wire and the credits of every receive buffer owed to the far end, or DOWN with the cause that holds it or the pairing check it fails; another one leaves state, number and peer. A cause takes a port DOWN with DOWN_EVT set and its buffers discarded, and a retry starts it again. On an UP port a good flit in order advances the sequence number and delivers the packet that it ends; a bad one makes the port discard, one that came before is heeded for its acknowledgement alone, and a later one changes nothing but the count of bits; a NAK of a flit that has not been sent again since the last one changes nothing, and another has every flit that is not acknowledged sent again, counted, and after sixteen replays of the same flit in a row that failed takes the port DOWN. A waiting packet without credit takes the Selvage class and leaves for the ESC port, where there is one with room. No byte of tile memory changes. Completion: exec answers a next state with the effect stated, under conditions on the state and the operands alone, for every form of fabPortEnable, fabPortDisable, fabPortTrained, fabHelloReceive, fabPortDown, fabPortRetry, fabFlitReceive, fabEscMove. (R347, R350, R351, R352, R353, R354, R355, R356, R363, R379, R471, 14_fabric) -/
def Obligations.FabricPorts : Prop :=
  ∀ (s : State) (p : Nat), p < 120 →
    let cause := fun t : State => t.ffld (p / 2) (regFabPortStatus (p % 2)) 7 4
    let started := fun t : State => (heldCause t p = 0 → portState t p = 1) ∧ (heldCause t p ≠ 0 → portState t p = 4 ∧ cause t = heldCause t p)
    let isDown := fun (t : State) (c : Nat) => portState t p = 4 ∧ cause t = c ∧ t.ffld (p / 2) (regFabPortStatus (p % 2)) 8 8 = 1 ∧
      fabPort t p = FabPort.reset
    let cfg := fun t : State => t.ffld (p / 2) (regFabPortCfg (p % 2)) 0 0
    (∀ i ∈ [fun lv => Instr.fabPortEnable lv p, fun lv => .fabPortDisable lv p],
      exec (i .s) s = .next (accessReply s stOk 0) ∧ exec (i .u) s = .next (accessReply s stProtFault 0)) ∧
    (portState s p = 0 ∨ (portState s p = 4 ∧ cause s = 1) →
      ∃ t, exec (.fabPortEnable .m p) s = .next t ∧ cfg t = 1 ∧ started t ∧ sameMemory s t) ∧
    (∃ t, exec (.fabPortDisable .m p) s = .next t ∧ cfg t = 0 ∧ sameMemory s t ∧
      (1 ≤ portState s p → portState s p ≤ 3 → isDown t 1) ∧ (portState s p = 4 → portState t p = 4 ∧ cause t = 1)) ∧
    (portState s p = 1 →
      ∃ t, exec (.fabPortTrained p) s = .next t ∧ sameMemory s t ∧ (heldCause s p ≠ 0 → isDown t (heldCause s p)) ∧
        (heldCause s p = 0 → portState t p = 2 ∧
          fabPort t p = putFlit { FabPort.reset with trainedAt := s.aon } idleFlit (leBytes 244 0))) ∧
    (∀ (f : FabFlit) (h : Hello), portState s p = 2 → f.nak = false →
      (∀ fec : Bool, fec = true ∨ f.good = false ∨ f.seq.toNat ≠ (fabPort s p).rxSeq →
        ∃ t, exec (.fabHelloReceive p ⟨fec, f, h⟩) s = .next t ∧ portState t p = 2 ∧ (fabPort t p).rxSeq = (fabPort s p).rxSeq ∧ sameMemory s t ∧
          t.freg (p / 2) (regFabPortPeer (p % 2)) = s.freg (p / 2) (regFabPortPeer (p % 2))) ∧
      (f.good = true → f.seq.toNat = (fabPort s p).rxSeq →
      ∃ t, exec (.fabHelloReceive p ⟨false, f, h⟩) s = .next t ∧ sameMemory s t ∧
        t.ffld (p / 2) (regFabPortPeer (p % 2)) 15 0 = h.peer.toNat ∧ t.ffld (p / 2) (regFabPortPeer (p % 2)) 22 16 = h.port.toNat ∧
        t.ffld (p / 2) (regFabPortPeer (p % 2)) 24 24 = b2n h.idValid ∧
        (heldCause s p = 0 → pairing s p h = 0 → portState t p = 3 ∧ (∀ v, v < 7 → kvGet 0 (fabPort t p).owed v = vcFlits v) ∧
          ∃ w, (fabPort t p).wire = some (w, helloBytes (ownHello s p)) ∧ w.hello = true) ∧
        (heldCause s p ≠ 0 → isDown t (heldCause s p)) ∧
        (heldCause s p = 0 → pairing s p h ≠ 0 → isDown t (pairing s p h)))) ∧
    (∀ c : BitVec 4, 1 ≤ c.toNat → c.toNat ≤ 10 → 1 ≤ portState s p → portState s p ≤ 3 →
      ∃ t, exec (.fabPortDown p c) s = .next t ∧ isDown t c.toNat ∧ sameMemory s t) ∧
    (portState s p = 4 → cfg s = 1 → ∃ t, exec (.fabPortRetry p) s = .next t ∧ started t ∧ sameMemory s t) ∧
    (∀ f : FabFlit, portState s p = 3 →
      let x := fabPort s p
      (f.good = true → f.seq.toNat = x.rxSeq → f.nak = false →
        ∃ t, exec (.fabFlitReceive p false f) s = .next t ∧ (fabPort t p).rxSeq = (x.rxSeq + 1) % 2 ^ 16 ∧ sameMemory s t ∧
          (∀ k, f.idle = false → f.eop = true → f.pkt = some k →
            ∃ y, kvGet [] (fabPort t p).rx f.vc.toNat = kvGet [] x.rx f.vc.toNat ++ [y] ∧ y.body = k.body ∧ y.psn = k.psn ∧ y.dst = k.dst) ∧
          (f.idle = true ∨ f.eop = false → (fabPort t p).rx = x.rx)) ∧
      (f.good = true → f.seq.toNat ≠ x.rxSeq →
        (seqLe f.seq.toNat (x.rxSeq + 2 ^ 16 - 1) = false → exec (.fabFlitReceive p false f) s = .next (countBits s p)) ∧
        (seqLe f.seq.toNat (x.rxSeq + 2 ^ 16 - 1) = true → f.nak = false →
          ∃ t, exec (.fabFlitReceive p false f) s = .next t ∧ (fabPort t p).replay = (ackFlits x f.ack.toNat).replay ∧ (fabPort t p).rxSeq = x.rxSeq ∧
            (fabPort t p).rx = x.rx ∧ sameMemory s t)) ∧
      (f.good = false →
        ∃ t, exec (.fabFlitReceive p false f) s = .next t ∧ fabPort t p = { x with dropping := true } ∧ t.fcs = s.fcs ∧ sameMemory s t) ∧
      (∃ t, exec (.fabFlitReceive p true f) s = .next t ∧ fabPort t p = { x with dropping := true } ∧ sameMemory s t ∧
        t.ffld (p / 2) (regFabPortErr (p % 2)) 31 16 = min 65535 (s.ffld (p / 2) (regFabPortErr (p % 2)) 31 16 + 1)) ∧
      (f.good = true → f.seq.toNat = x.rxSeq → f.nak = true →
        let y := ackFlits x f.ack.toNat
        let next := fun g : FabFlit × List Byte => g.1.seq.toNat == (f.ack.toNat + 1) % 2 ^ 16
        let errs := fun u : State => u.ffld (p / 2) (regFabPortErr (p % 2)) 15 0
        let again := x.nakAt = some f.ack.toNat
        ∃ t, exec (.fabFlitReceive p false f) s = .next t ∧ sameMemory s t ∧
          (y.replay.any next = false ∨ (again ∧ y.resend.any next = true) →
            portState t p = 3 ∧ errs t = errs s ∧ (fabPort t p).resend = y.resend ∧ (fabPort t p).fails = x.fails) ∧
          (y.replay.any next = true → ¬ (again ∧ y.resend.any next = true) →
            (again → 15 ≤ x.fails → portState t p = 4 ∧ cause t = 4) ∧
            (¬ again ∨ x.fails < 15 →
              portState t p = 3 ∧ errs t = min 65535 (errs s + 1) ∧ (fabPort t p).resend = y.replay ∧ (fabPort t p).nakAt = some f.ack.toNat ∧
              (again → (fabPort t p).fails = x.fails + 1) ∧ (¬ again → (fabPort t p).fails = 0))))) ∧
    (∀ (vc : BitVec 3) (wait : Nat) (a : EgPkt) (r : List EgPkt), portQueue (fabPort s p) vc.toNat = a :: r → vc.toNat < 5 →
      kvGet 0 (fabPort s p).headSent vc.toNat = 0 → kvGet 0 (fabPort s p).credits vc.toNat = 0 → a.vc ≠ noVc → s.mesh.shadow = none →
      s.fab.toSend = [] →
      ∀ q, egress s a.pkt.dst.toNat a.pkt.psn.toNat true a.ingress = some q → egressRoom s q 6 (pktFlits a.pkt) = true →
        ∃ t y, exec (.fabEscMove p vc ⟨wait, false⟩) s = .next t ∧ portQueue (fabPort t p) vc.toNat = r ∧
          t.msgs = s.msgs ++ [.cross q 6 y] ∧ y.ingress = a.ingress ∧ y.pkt.esc = true ∧ y.pkt.age.toNat = min 65535 (a.pkt.age.toNat + wait) ∧
          y.pkt.body = a.pkt.body ∧ y.pkt.psn = a.pkt.psn ∧ sameMemory s t)

/-- The packet at the head of a receive buffer leaves it: a malformed one is counted; one for another module with TTL 1 or less, or without a route, is counted, and another sets out for its egress port with TTL less one once that has room for it and else stays; while injection is not frozen, one for this module that fails its tag check is counted and not delivered, and a credit message under a known key is delivered once, its PSN marked as received and due for acknowledgement. An ACK frees the packets that it covers, and its ECE cuts the rate once in a period; one with INTEGRITY counts a retry; one with NO_KEY makes them wait for a session. A retransmission counts a try, and beyond the last try, or with no route, the packet is given up and the tile that sent it learns LINK_LOST. At the end of a period the rate rises or returns to INIT_RATE. A held flagged packet is delivered when its hold ends and is counted. An ACK that can leave at once carries the lowest PSNs that are due, up to sixteen, and they are due no longer; where it cannot, nothing changes. Completion: exec answers a next state with the effect stated, under conditions on the state and the operands alone, for every form of fabPacketArrive, fabAckReceive, fabRetransmit, fabCcPeriod, fabFlagHoldExpire, fabAckSend. (R356, R358, R359, R360, R363, R365, R366, R370, R371, R372, R383, 14_fabric) -/
def Obligations.FabricTransport : Prop :=
  (∀ (s : State) (p : Nat) (vc : BitVec 3) (wait : Nat) (x : FabPkt) (r : List FabPkt), p < 120 → kvGet [] (fabPort s p).rx vc.toNat = x :: r →
    let crossOnly := fun t : State => ∀ m ∈ t.msgs, m ∈ s.msgs ∨ ∃ q v y, m = .cross q v y ∧ y.ingress = none
    let out := fun t : State => exec (.fabPacketArrive p vc wait) s = .next t ∧ kvGet [] (fabPort t p).rx vc.toNat = r
    (malformed x = true → ∃ t, out t ∧ t.mfld regFabDrops 31 24 = min 255 (s.mfld regFabDrops 31 24 + 1) ∧ t.tiles = s.tiles ∧ t.net = s.net) ∧
    (malformed x = false → s.moduleId ≠ some x.dst.toNat →
      (x.ttl.toNat ≤ 1 → ∃ t, out t ∧ t.mfld regFabDrops 23 12 = min 4095 (s.mfld regFabDrops 23 12 + 1) ∧ t.tiles = s.tiles ∧ t.net = s.net) ∧
      (1 < x.ttl.toNat → egress s x.dst.toNat x.psn.toNat (x.esc || x.cls == 5) (some p) = none →
        ∃ t, out t ∧ t.mfld regFabDrops 11 0 = min 4095 (s.mfld regFabDrops 11 0 + 1) ∧ t.tiles = s.tiles ∧ t.net = s.net) ∧
      (∀ q, 1 < x.ttl.toNat → egress s x.dst.toNat x.psn.toNat (x.esc || x.cls == 5) (some p) = some q →
        let v := outVc s ⟨x, some p, vc.toNat, portPt p, s.aon⟩ q
        (s.mesh.shadow = none → egressRoom s q v (pktFlits x) = true →
          ∃ t y, out t ∧ t.msgs = s.msgs ++ [.cross q v y] ∧ y.ingress = some p ∧ y.pkt.ttl.toNat = x.ttl.toNat - 1 ∧ y.pkt.body = x.body ∧
            y.pkt.psn = x.psn ∧ y.pkt.dst = x.dst ∧ t.tiles = s.tiles) ∧
        (egressRoom s q v (pktFlits x) = false → exec (.fabPacketArrive p vc wait) s = .next s))) ∧
    (malformed x = false → s.moduleId = some x.dst.toNat → s.mesh.shadow = none →
      (keyKnown s x = false → ∃ t, out t ∧ t.fab.rx = s.fab.rx ∧ t.tiles = s.tiles ∧ crossOnly t) ∧
      (keyKnown s x = true → x.genuine = false →
        ∃ t, out t ∧ t.mfld regFabSecErr 15 0 = min 65535 (s.mfld regFabSecErr 15 0 + 1) ∧ t.fab.rx = s.fab.rx ∧ crossOnly t ∧ t.tiles = s.tiles) ∧
      (∀ typ m, keyKnown s x = true → x.genuine = true → x.body = .credit typ m → x.flagged = false → (sessOf s x.src.toNat).phase ≠ 4 →
        let g := fabRx s x.src.toNat x.keyId.toNat
        let n := x.psn.toNat
        (g.base ≤ n → n ≤ g.base + 1024 → g.seen.contains n = false → g.held = [] →
          ∃ t, out t ∧ t.msgs = s.msgs ++ [.credit x.ga.toNat typ.toNat m] ∧ t.tiles = s.tiles ∧
            let h := fabRx t x.src.toNat x.keyId.toNat
            (n < h.base ∨ h.seen.contains n = true) ∧ h.acks.contains (n, x.ce) = true) ∧
        (n < g.base ∨ g.seen.contains n = true →
          ∃ t, out t ∧ t.net = s.net ∧ t.tiles = s.tiles ∧ (fabRx t x.src.toNat x.keyId.toNat).acks.contains (n, x.ce) = true)))) ∧
  (∀ (s : State) (src : BitVec 16) (key : BitVec 4) (base : BitVec 64) (bitmap : BitVec 16) (ece : Bool),
    let d := src.toNat
    let covered := fun o : FabOut => (ackedPsns base bitmap).any (fun n => isOut key.toNat n o)
    let may := fun st : BitVec 8 => mayArrive s (.fabAck d (.ack base bitmap ece st) key.toNat) = true
    (may 0 → ∃ t, exec (.fabAckReceive src key base bitmap ece 0) s = .next t ∧ (fabTx t d).out = (fabTx s d).out.filter (fun o => !covered o) ∧
      ((∀ o ∈ (fabTx s d).out, covered o = true → ∀ ts, o.pkt.body ≠ .batch ts) → sameMemory s t) ∧
      (ece = true → (fabTx s d).cut = false → (fabTx t d).cut = true ∧
        (fabTx t d).rate = max (fabTx s d).cc.floor ((fabTx s d).rate - (fabTx s d).rate / 2 ^ (fabTx s d).cc.dec)) ∧
      (ece = false → (fabTx t d).cut = (fabTx s d).cut ∧ (fabTx t d).rate = (fabTx s d).rate)) ∧
    (∀ o ∈ (fabTx s d).out, covered o = true → may 2 →
      ∃ t, exec (.fabAckReceive src key base bitmap ece 2) s = .next t ∧ { o with waiting := true } ∈ (fabTx t d).out ∧ sameMemory s t)) ∧
  (∀ (s : State) (d : BitVec 16) (key : BitVec 4) (psn : BitVec 64) (o : FabOut),
    (fabTx s d.toNat).out.find? (isOut key.toNat psn.toNat) = some o →
    let way := egress s d.toNat psn.toNat (o.pkt.esc || o.pkt.cls == 5) none
    let gone := fun t : State => ∀ y ∈ (fabTx t d.toNat).out, isOut key.toNat psn.toNat y = false
    (way.isSome = true → o.tries < s.mfld regFabXportCfg 13 10 →
      ∃ t, exec (.fabRetransmit d key psn) s = .next t ∧ { o with tries := o.tries + 1 } ∈ (fabTx t d.toNat).out ∧
        (∀ m ∈ t.msgs, m ∈ s.msgs ∨ ∃ q v y, m = .cross q v y ∧ y.ingress = none) ∧ t.tiles = s.tiles) ∧
    (way.isSome = true → s.mfld regFabXportCfg 13 10 ≤ o.tries → o.pkt.srcTile.toNat < 1320 →
      psn.toNat < kvGet 0 (fabTx s d.toNat).psn key.toNat → kvGet 0 (fabTx s d.toNat).psn key.toNat + 2 < 2 ^ 64 →
      ∃ t, exec (.fabRetransmit d key psn) s = .next t ∧ gone t ∧
        (t.mreg regFabLost).toNat = min (2 ^ 32 - 1) ((s.mreg regFabLost).toNat + 1) ∧ t.tiles = s.tiles) ∧
    (∀ w, way.isNone = true → o.pkt.body = .write w →
      ∃ t m, exec (.fabRetransmit d key psn) s = .next t ∧ gone t ∧ t.msgs = s.msgs ++ [.credit w.sender.toNat 6 m] ∧ m.status = stLinkLost ∧
        m.reqTag = w.reqTag ∧ t.tiles = s.tiles) ∧
    (o.intTries < s.mfld regFabXportCfg 15 14 → mayArrive s (.fabAck d.toNat (.ack psn 1 false 1) key.toNat) = true →
      ∃ t, exec (.fabAckReceive d key psn 1 false 1) s = .next t ∧ { o with intTries := o.intTries + 1 } ∈ (fabTx t d.toNat).out ∧ sameMemory s t)) ∧
  (∀ (s : State) (d : BitVec 16) (idle : Bool),
    let x := fabTx s d.toNat
    let next := if idle then s.mfld regFabCcCfg0 11 0 else if x.cut then x.rate else min x.cc.ceil (x.rate + x.cc.inc)
    ∃ t, exec (.fabCcPeriod d idle) s = .next t ∧ (fabTx t d.toNat).cut = false ∧ (fabTx t d.toNat).rate = next ∧ (fabTx t d.toNat).cc = ccNow s ∧
      (fabTx t d.toNat).out = x.out ∧ t.tiles = s.tiles) ∧
  (∀ (s : State) (src : BitVec 16) (key : BitVec 4) (psn : BitVec 64) (x : Nat × FabPkt) (typ : BitVec 8) (m : CreditMsg),
    (fabRx s src.toNat key.toNat).held.find? (fun y => y.2.psn == psn) = some x → x.2.body = .credit typ m →
    ∃ t, exec (.fabFlagHoldExpire src key psn) s = .next t ∧ t.msgs = s.msgs ++ [.credit x.2.ga.toNat typ.toNat m] ∧
      (∀ y ∈ (fabRx t src.toNat key.toNat).held, y.2.psn ≠ psn) ∧ t.mfld regFabSecErr 31 16 = min 65535 (s.mfld regFabSecErr 31 16 + 1) ∧ t.tiles = s.tiles) ∧
  (∀ (s : State) (src : BitVec 16) (key : BitVec 4) (b : Nat),
    let acks := (fabRx s src.toNat key.toNat).acks
    (ackLeaves s src.toNat = false → exec (.fabAckSend src key) s = .next s) ∧
    ((∀ p ∈ acks, b ≤ p.1) → (∃ p ∈ acks, p.1 = b) → ackLeaves s src.toNat = true →
    ∃ t, exec (.fabAckSend src key) s = .next t ∧ (fabRx t src.toNat key.toNat).acks = acks.filter (fun p => b + 16 ≤ p.1) ∧ t.tiles = s.tiles ∧
      ∀ q, egress s src.toNat 0 true none = some q →
        ∃ y w ece, t.msgs = s.msgs ++ [.cross q 5 y] ∧ y.ingress = none ∧ y.pkt.body = .ack (BitVec.ofNat 64 b) w ece 0 ∧
          ∀ i, i < 16 → (bit w i = true ↔ ∃ p ∈ acks, p.1 = b + i)))

/-- Of messages that may arrive: with a policy, KEX_INIT makes this module the responder of the exchange it names, unless its own exchange goes first; KEX_REPLY to the exchange under way brings the initiator to AUTH; an accepted AUTH has the responder send its own and wait, and at the initiator makes the exchange's generation current, with the exchange's key, and the former one previous, and no packet waits; the responder's wait ends the same way once its AUTH is acknowledged and no ABORT has come in the time of a resend (that this shows acceptance is DEDUCED, log entry 54); a refused one, or ABORT, ends the exchange, counts it, and bars a new one for a second. A sealing-key generation that opens under the session key is stored wrapped and held, and at most two stay. A message without an answer is sent again and counted, and after the third attempt the exchange ends and is counted as failed. A rotation that is due starts an exchange for the next generation and one that is not changes nothing; the old generation ends a second after the new one's first packet. Completion: exec answers a next state with the effect stated, under conditions on the state and the operands alone, for every form of kexInitReceive, kexReplyReceive, authReceive, sessionAbortReceive, iskShareReceive, sessionResend, sessionRotate, sessionOldGenExpire. (R453, R454, R455, R456, R458, 19_security) -/
def Obligations.Sessions : Prop :=
  (∀ (s : State) (src : BitVec 16) (gen : BitVec 4) (xchg : BitVec 32) (body : List Byte),
    let d := src.toNat
    let e := sessOf s d
    let may := fun n : Nat => mayArrive s (.sess d n gen.toNat xchg.toNat body) = true
    let s1 := fun n : Nat => netArrive s (.sess d n gen.toNat xchg.toNat body)
    (s.sec.policy = true → body.length = 1329 → gen ≠ 15 → may 1 →
      (¬ (e.phase = 1 ∧ hereId s < d) → ¬ ((e.phase = 2 ∨ e.phase = 4) ∧ e.xchg = xchg.toNat) →
        ∃ t, exec (.kexInitReceive src gen xchg body) s = .next t ∧ (sessOf t d).phase = 2 ∧ (sessOf t d).initiator = false ∧
          (sessOf t d).xchg = xchg.toNat ∧ (sessOf t d).gen = gen.toNat ∧ (sessOf t d).initBody = body ∧ (sessOf t d).replyBody.length = 1233 ∧
          (sessOf t d).replyBody.take 16 = kexHead s ∧ (sessOf t d).cur = e.cur ∧ t.tiles = s.tiles) ∧
      ((e.phase = 1 ∧ hereId s < d) ∨ (e.phase = 4 ∧ e.xchg = xchg.toNat) → exec (.kexInitReceive src gen xchg body) s = .next (s1 1))) ∧
    (e.phase = 1 → e.xchg = xchg.toNat → body.length = 1233 → may 2 →
      ∃ t, exec (.kexReplyReceive src gen xchg body) s = .next t ∧ (sessOf t d).phase = 3 ∧ (sessOf t d).replyBody = body ∧ (sessOf t d).cur = e.cur ∧
        t.tiles = s.tiles) ∧
    (e.xchg = xchg.toNat → e.phase = (if e.initiator then 3 else 2) → may 3 →
      (authRefused s e body = 0 → e.initiator = false →
        ∃ t, exec (.authReceive src gen xchg body) s = .next t ∧ (sessOf t d).phase = 4 ∧ (sessOf t d).cur = e.cur ∧ (sessOf t d).gen = e.gen ∧
          t.tiles = s.tiles) ∧
      (authRefused s e body = 0 → e.initiator = true →
        ∃ t, exec (.authReceive src gen xchg body) s = .next t ∧ (sessOf t d).phase = 0 ∧ kvFind (sessOf t d).gens e.gen = some (exchangePrk e, true) ∧ (sessOf t d).cur = some e.gen ∧ (sessOf t d).prev = e.cur ∧
          (sessOf t d).since = s.aon ∧ (∀ o ∈ (fabTx t d).out, o.waiting = false) ∧ t.tiles = s.tiles) ∧
      (authRefused s e body ≠ 0 → (∀ o ∈ (fabTx s d).out, o.pkt.srcTile.toNat < 1320) →
        ∃ t, exec (.authReceive src gen xchg body) s = .next t ∧ (sessOf t d).phase = 0 ∧ (sessOf t d).cur = e.cur ∧
          (sessOf t d).failedAt = some s.aon ∧ t.mfld regSecStatus 15 8 = min 255 (s.mfld regSecStatus 15 8 + 1))) ∧
    (e.phase ≠ 0 → e.xchg = xchg.toNat → may 4 → (∀ o ∈ (fabTx s d).out, o.pkt.srcTile.toNat < 1320) →
      ∃ t, exec (.sessionAbortReceive src gen xchg body) s = .next t ∧ (sessOf t d).phase = 0 ∧ (sessOf t d).cur = e.cur ∧
        (sessOf t d).failedAt = some s.aon ∧ t.mfld regSecStatus 15 8 = min 255 (s.mfld regSecStatus 15 8 + 1)) ∧
    (s.sec.policy = true → e.cur.isSome = true → body.length = 64 → may 5 →
      let key := genKey s d (e.cur.getD 15) false
      let g := fieldAt body 0 4
      (∀ k, Config.open_ key (slice body 4 12) [] (slice body 16 48) = some k → s.flash.isk.any (fun p => p.1 == g) = false →
        ∃ t, exec (.iskShareReceive src gen xchg body) s = .next t ∧ t.flash.isk.length ≤ 2 ∧ t.sec.isk.length ≤ 2 ∧ t.tiles = s.tiles ∧
          ((s.flash.isk.filter (fun p => g < p.1)).length < 2 → (g, Config.wrap s.sec.dwk (slice k 0 32)) ∈ t.flash.isk) ∧
          ((s.sec.isk.filter (fun p => g < p.1)).length < 2 → (g, slice k 0 32) ∈ t.sec.isk)) ∧
      (Config.open_ key (slice body 4 12) [] (slice body 16 48) = none →
        exec (.iskShareReceive src gen xchg body) s = .next (s1 5)))) ∧
  (∀ (s : State) (d : BitVec 16),
    let e := sessOf s d.toNat
    (e.phase = 4 → (fabTx s d.toNat).out.any (isAuth e.xchg) = false →
      ∃ t, exec (.sessionResend d) s = .next t ∧ (sessOf t d.toNat).phase = 0 ∧ (sessOf t d.toNat).cur = some e.gen ∧ (sessOf t d.toNat).prev = e.cur ∧
        (∀ o ∈ (fabTx t d.toNat).out, o.waiting = false) ∧ t.tiles = s.tiles) ∧
    (1 ≤ e.phase → e.phase ≤ 4 → (e.phase = 4 → (fabTx s d.toNat).out.any (isAuth e.xchg) = true) →
      (e.tries < 3 →
        ∃ t, exec (.sessionResend d) s = .next t ∧ (sessOf t d.toNat).tries = e.tries + 1 ∧ (sessOf t d.toNat).phase = e.phase ∧ t.tiles = s.tiles) ∧
      (3 ≤ e.tries → (∀ o ∈ (fabTx s d.toNat).out, o.pkt.srcTile.toNat < 1320) →
        ∃ t, exec (.sessionResend d) s = .next t ∧ (sessOf t d.toNat).phase = 0 ∧ (∀ o ∈ (fabTx t d.toNat).out, o.waiting = false) ∧
          t.mfld regSecStatus 15 8 = min 255 (s.mfld regSecStatus 15 8 + 1) ∧ t.tiles = s.tiles)) ∧
    (∀ g, e.cur = some g →
      let due := 2 ^ 40 ≤ kvGet 0 (fabTx s d.toNat).psn g ∨ e.since + s.mfld regSecSessCfg 7 0 * 3600000000 ≤ s.aon
      (due → e.phase = 0 → e.failedAt = none →
        ∃ t, exec (.sessionRotate d) s = .next t ∧ (sessOf t d.toNat).phase = 1 ∧ (sessOf t d.toNat).initiator = true ∧
          (sessOf t d.toNat).gen = (g + 1) % 15 ∧ (sessOf t d.toNat).cur = some g ∧ t.tiles = s.tiles) ∧
      (¬ due → exec (.sessionRotate d) s = .next s)) ∧
    (e.firstNew.isSome = true →
      ∃ t, exec (.sessionOldGenExpire d) s = .next t ∧ (sessOf t d.toNat).prev = none ∧ (sessOf t d.toNat).firstNew = none ∧
        (sessOf t d.toNat).cur = e.cur ∧ t.tiles = s.tiles))

/-! ### Power, droop, heat -/

/-- At the end of a window each tile of a powered region holds its counters' advances and its estimate, energy and leakage times the gain, and its SEQ advances. A calibration, of a power in LINEAR11 (that format is PRESUMED, log entry 54), moves the gain by an eighth of the way to the measured one, clamped, and the third failed read in a row is flagged and raises the alert. The allocator gives each region its demand where the budget covers all, and never more; CAP from M is clamped to 10 kW to 36 kW, and leaves a hold of the guard. A period without guard or sag raises BUDGET_SLOTS by at most 8 up to the budget's slots, moves THERM_SLOTS by the throttle, and sets every tile's slots to the least of them; one in which the guard acts, or that begins a sag, halves BUDGET_SLOTS, and while it holds they do not rise. A clamp cuts the tile and counts, a notice clamps the tiles that did not send it, recovery gives 4 slots back, and a clock stop is counted and raises interrupt 13. WAIT, where it may arrive, ends a ramp and holds every tile where UP_EN is set; RELEASE, where it may, gives each tile its B0, and ticks follow while some tile still ramps. No byte of memory changes. Completion: exec answers a next state with the effect stated, under conditions on the state and the operands alone, for every form of pwrEstimateWindow, pwrRegionPeriod, pwrCalibrate, pwrAllocate, pwrCapWrite, droopClamp, droopNotice, droopRecoveryTick, droopClockStop, pwrBarrierWait, pwrBarrierRelease, pwrRampTick. (R393, R394, R395, R396, R397, R398, R399, R400, R401, R403, R406, 16_power_droop_thermal) -/
def Obligations.PowerControl : Prop :=
  ∀ (s : State) (r : Nat), r < 30 →
    let ts := regionTiles s r
    (regionState s r ≠ 5 →
      ∃ t, exec (.pwrEstimateWindow r) s = .next t ∧ sameMemory s t ∧ ∀ lt ∈ ts,
        let d := fun n => (kvGet 0 (s.tile lt).counters n + 2 ^ 64 - kvGet 0 (s.tile lt).cntPrev n) % 2 ^ 64
        (∀ n, n < 16 → kvGet 0 (t.tile lt).cntDelta n = d n) ∧ (t.tile lt).cntPrev = (s.tile lt).counters ∧ (t.tile lt).slotsUsed = 0 ∧
        t.tfld lt regPwrEst 31 16 = (s.tfld lt regPwrEst 31 16 + 1) % 65536 ∧
        (t.tile lt).estRaw = withGain s (((List.range 16).map (fun n => d n * coef s r n)).foldl (· + ·) 0 +
          leakage (rfld s r regPwrRegModel 31 24) (hottest (fieldTemps s (fieldOf s lt)))) ∧
        t.tfld lt regPwrEst 15 0 = min 65535 (quantise (t.tile lt).estRaw (10 ^ 7))) ∧
    (∀ p : BitVec 16,
      let w := (linear11 p).toNat
      ∃ t, exec (.pwrCalibrate (some p)) s = .next t ∧ t.mfld regPwrModIn 15 0 = min 65535 (quantise w (10 * 2 ^ 16)) ∧ t.mgt.pinFails = 0 ∧
        gain t = max 3277 (min 5120 (quantise (7 * gain s * pestLoad s * 2 ^ 16 + 4096 * 9 * 10 ^ 9 * w) (8 * pestLoad s * 2 ^ 16))) ∧ sameMemory s t) ∧
    (∃ t, exec (.pwrCalibrate none) s = .next t ∧ t.mgt.pinFails = s.mgt.pinFails + 1 ∧ gain t = gain s ∧
      (s.mgt.pinFails = 2 → t.mfld regPwrModGain 16 16 = 1 ∧ nbit t.mgt.alerts 3 = true) ∧ sameMemory s t) ∧
    (∃ t, exec .pwrAllocate s = .next t ∧ sameMemory s t ∧ (t.region r).guarded = false ∧
      let d := (s.region r).demand
      let all := ((List.range 30).map (fun k => (s.region k).demand)).foldl (· + ·) 0
      (all ≤ tileBudget s → rfld t r regPwrRegBudget 15 0 = min 65535 (d / 10 ^ 10)) ∧
      (tileBudget s < all → rfld t r regPwrRegBudget 15 0 = min 65535 (min (d / 10 ^ 10) (quantise (tileBudget s * d) (all * 10 ^ 10))))) ∧
    (∀ v, ∃ t, exec (.pwrCapWrite .m v) s = .next t ∧ capOf t = max 100 (min 360 (fld v 8 0)) ∧ (t.region r).guarded = (s.region r).guarded ∧
      rfld t r regPwrRegBudget 15 0 ≤ (s.region r).demand / 10 ^ 10 ∧ sameMemory s t) ∧
    (∀ v, exec (.pwrCapWrite .s v) s = .next (accessReply s stOk 0) ∧ exec (.pwrCapWrite .u v) s = .next (accessReply s stProtFault 0)) ∧
    (regionState s r < 3 → s.clk.relocked.contains r = false → (s.region r).guarded = false → (s.region r).sagHeld = false →
      s.mgt.sagging = false → (guardState s).2 = false →
      let b := min (budgetOf s r) ((s.region r).budgetSlots + 8)
      let th := rfld s r regPwrRegState 22 16
      let th' := if rfld s r regPwrRegState 3 3 = 1 then th - 4 else min 64 (th + 1)
      ∃ t, exec (.pwrRegionPeriod r) s = .next t ∧ (t.region r).budgetSlots = b ∧ rfld t r regPwrRegState 22 16 = th' ∧
        (∀ lt ∈ ts, s.tbit lt regPwrStatus 1 = false → t.tfld lt regMeRate 14 8 = min (min b th') 64) ∧ sameMemory s t) ∧
    (((s.region r).guarded = false ∧ (guardState s).2 = true) ∨ (s.mgt.sagging = true ∧ (s.region r).sagHeld = false) →
      ∃ t, exec (.pwrRegionPeriod r) s = .next t ∧ (t.region r).budgetSlots = (s.region r).budgetSlots / 2 ∧
        (t.region r).guarded = ((s.region r).guarded || (guardState s).2) ∧ (t.region r).sagHeld = s.mgt.sagging ∧
        t.mfld regPwrModGain 17 17 = 1 ∧ sameMemory s t) ∧
    ((s.region r).guarded = true ∧ s.mgt.sagging = false ∨ s.mgt.sagging = true ∧ (s.region r).sagHeld = true ∧ (guardState s).2 = false →
      ∃ t, exec (.pwrRegionPeriod r) s = .next t ∧ (t.region r).budgetSlots ≤ (s.region r).budgetSlots ∧ sameMemory s t) ∧
    (regionState s r ≠ 5 → ∀ lt, lt < 1320 → regionOf s lt = r →
      ∃ t, exec (.droopClamp lt) s = .next t ∧ t.tfld lt regMeRate 22 16 = rfld s r regPwrRegDroop 14 8 ∧ t.tbit lt regPwrStatus 2 = true ∧
        t.tfld lt regPwrDroopCnt 15 0 = min 65535 (s.tfld lt regPwrDroopCnt 15 0 + 1) ∧ lt ∈ (t.region r).droopNotice ∧ sameMemory s t) ∧
    ((s.region r).droopNotice ≠ [] →
      ∃ t, exec (.droopNotice r) s = .next t ∧ (t.region r).droopNotice = [] ∧ sameMemory s t ∧ ∀ lt ∈ ts,
        (lt ∈ (s.region r).droopNotice → t.tile lt = s.tile lt) ∧
        (lt ∉ (s.region r).droopNotice → t.tbit lt regPwrStatus 2 = true ∧ t.tfld lt regMeRate 22 16 = rfld s r regPwrRegDroop 14 8)) ∧
    (∃ t, exec (.droopRecoveryTick r) s = .next t ∧ sameMemory s t ∧ ∀ lt ∈ ts,
      t.tfld lt regMeRate 22 16 = min 64 (s.tfld lt regMeRate 22 16 + 4) ∧
      (60 ≤ s.tfld lt regMeRate 22 16 → t.tbit lt regPwrStatus 2 = false)) ∧
    (∀ low, regionState s r ≠ 5 →
      ∃ t, exec (.droopClockStop r low) s = .next t ∧ sameMemory s t ∧ ∀ lt ∈ ts, (t.tile lt).tcc = (s.tile lt).tcc ∧ (t.tile lt).lanes = (s.tile lt).lanes ∧
        (t.tile lt).pwrNotice = true ∧ t.tfld lt regPwrDroopCnt 31 16 = min 65535 (s.tfld lt regPwrDroopCnt 31 16 + 1)) ∧
    (mayArrive s (.power r false) = true → regionState s r = 0 ∨ regionState s r = 2 →
      ∃ t, exec (.pwrBarrierWait r) s = .next t ∧ (t.region r).ramp = none ∧ sameMemory s t ∧ (∀ lt ∈ ts, t.tbit lt regPwrStatus 1 = false) ∧
        (rfld s r regPwrRegCtrl 0 0 = 0 → regionState t r = 0 ∧ ∀ lt ∈ ts, t.tbit lt regPwrStatus 0 = false) ∧
        (rfld s r regPwrRegCtrl 0 0 = 1 → regionState t r = 1 ∧ (t.region r).ppre = meanEstimate s r ∧ ∀ lt ∈ ts, t.tbit lt regPwrStatus 0 = true)) ∧
    (let ramps := fun (t : State) (k : Nat) => ((∃ lt ∈ ts, t.tbit lt regPwrStatus 1 = true) → regionState t r = 2 ∧ (t.region r).ramp = some k) ∧
        ((∀ lt ∈ ts, t.tbit lt regPwrStatus 1 = false) → regionState t r = 0 ∧ (t.region r).ramp = none)
     (∀ b, mayArrive s (.power r b) = false → exec (if b = true then .pwrBarrierRelease r else .pwrBarrierWait r) s = .next s) ∧
     (mayArrive s (.power r true) = true → regionState s r < 3 →
       ∃ t, exec (.pwrBarrierRelease r) s = .next t ∧ (∀ lt ∈ ts, (t.tile lt).rampB0 = releaseB0 s r lt) ∧ ramps t 0 ∧ sameMemory s t) ∧
     (∀ k, (s.region r).ramp = some k → regionState s r = 2 →
       ∃ t, exec (.pwrRampTick r) s = .next t ∧ (∀ lt ∈ ts, (t.tile lt).rampB0 = (s.tile lt).rampB0) ∧ ramps t (k + 1) ∧ sameMemory s t))

/-- A sample sets the sixteen readings of a field; a reading of 90 °C in its region sets THROTTLE and one below 88 °C in all clears it; the first of 85 °C sets WARN, raises interrupt 13 on the region's tiles and the alert; one of 98 °C starts the halt of a region that is neither draining nor halted. At the end of a drain the units of the region's tiles end what was issued since it began; where every Matrix Engine has then finished its block the region halts and its PLL slows, else nothing more changes. RESUME from M of a cool halted region lets its clocks run and its ramp start from B0 = 0, of a hot one is refused, and from S is ignored. A trip at 105 °C powers the region off: its PLL is off, every byte of its tiles is lost, and alert 4 is raised. Where the active Management Complex fails the standby, if it stands by, is active, with no connection, stream, object or job; else READY is cleared and no key is held. Completion: exec answers a next state with the effect stated, under conditions on the state and the operands alone, for every form of thermalSample, regionHaltDone, regionResume, thermalTrip, mcTakeover. (R405, R406, R407, R408, R409, R426, 16_power_droop_thermal, 18_errors_selftest_sketchbook) -/
def Obligations.HeatControl : Prop :=
  (∀ (s : State) (f : Nat) (temps : Vector (BitVec 8) 16), f < 60 →
    let r := regionOfField f
    ∃ t, exec (.thermalSample f temps) s = .next t ∧
      (∀ n (h : n < 16), sensor t f n = (temps[n]'h).toInt) ∧ (∀ k n, n < 16 → k ≠ f → sensor t k n = sensor s k n) ∧
      ((∃ x ∈ regionTemps t r, 90 ≤ x) → rfld t r regPwrRegState 3 3 = 1) ∧ ((∀ x ∈ regionTemps t r, x < 88) → rfld t r regPwrRegState 3 3 = 0) ∧
      ((∃ x ∈ regionTemps t r, 85 ≤ x) → rfld t r regPwrRegState 4 4 = 1 ∧ (rfld s r regPwrRegState 4 4 = 0 →
        nbit t.mgt.alerts 1 = true ∧ ∀ lt ∈ regionTiles s r, (t.tile lt).pwrNotice = true)) ∧
      ((∀ x ∈ regionTemps t r, x < 83) → rfld t r regPwrRegState 4 4 = 0) ∧
      ((∃ x ∈ regionTemps t r, 98 ≤ x) → regionState s r < 3 → regionState t r = 3) ∧
      ((∀ x ∈ regionTemps t r, x < 98) ∨ 3 ≤ regionState s r → regionState t r = regionState s r)) ∧
  (∀ (s : State) (r : Nat), r < 30 →
    (regionState s r = 3 →
      let s1 := (regionTiles s r).foldl haltTileUnits s
      (drained s1 r = true →
        ∃ t, exec (.regionHaltDone r) s = .next t ∧ regionState t r = 4 ∧ (pllState s (7 + r) = 2 → pllState t (7 + r) = 3) ∧ t.tiles = s1.tiles) ∧
      (drained s1 r = false → exec (.regionHaltDone r) s = .next s1)) ∧
    (regionState s r ≠ 3 → exec (.regionHaltDone r) s = .next s) ∧
    exec (.regionResume .s r) s = .next (accessReply s stOk 0) ∧ exec (.regionResume .u r) s = .next (accessReply s stProtFault 0) ∧
    (regionState s r = 4 →
      (regionCool s r = false →
        ∃ t, exec (.regionResume .m r) s = .next t ∧ regionState t r = 4 ∧ rfld t r regPwrRegState 5 5 = 1 ∧ t.tiles = s.tiles) ∧
      (regionCool s r = true → (s.region r).fatalHalt = false →
        ∃ t, exec (.regionResume .m r) s = .next t ∧ (regionState t r = 2 ∨ regionState t r = 0) ∧ sameMemory s t ∧
          (pllState s (7 + r) = 3 → pllState t (7 + r) = 2) ∧
          ∀ lt ∈ regionTiles s r, (t.tile lt).rampB0 = 0 ∧ t.tbit lt regPwrStatus 3 = false ∧ meBit t lt 14 = false)) ∧
    (regionState s r ≠ 5 →
      ∃ t, exec (.thermalTrip r) s = .next t ∧ regionState t r = 5 ∧ pllState t (7 + r) = 0 ∧ nbit t.mgt.alerts 4 = true ∧
        ∀ lt ∈ regionTiles s r, ∀ a, memGet (t.tile lt).mem a = memDefault)) ∧
  (∀ s : State,
    (bit (s.mreg regSecStatus) 1 = true →
      ∃ t, exec .mcTakeover s = .next t ∧ mcIsB t = !mcIsB s ∧ bit (t.mreg regSecStatus) 1 = false ∧ t.mgt.conns = [] ∧ t.mgt.streams = [] ∧
        t.objs = [] ∧ t.mfld regMgtBootStatus 8 8 = 0 ∧ t.sec.failedMc.contains (mcIsB s) = true ∧ nbit t.mgt.alerts 5 = true) ∧
    (bit (s.mreg regSecStatus) 1 = false →
      ∃ t, exec .mcTakeover s = .next t ∧ t.mfld regMgtBootStatus 4 4 = 0 ∧ t.mgt.conns = [] ∧ t.sec.failedMc.contains (mcIsB s) = true ∧
        t.sec.isk = [] ∧ t.sec.dik = Dik.none ∧ sameMemory s t))

/-! ### Clocks -/

/-- The idle step (log entry 10) of a powered module advances the AON count by one and the MGMT and region cycles by what the STATE of their PLLs gives and ends a broadcast of route tables, then ends overdue writes, finds errors in storage and lets M firmware handle the traps that stand at its entry (all three in log entry 54), which changes nothing where there is none, and then the networks and ports work, which changes nothing where no packet is under way, no port or pair is in use and no epoch starts (log entry 10); the low word of the AON count is read with the high word latched. A monitor window sets COUNT; while REF is valid, zero edges or a second window out of range lose it, which stops the SerDes PLLs and lets the others coast, and a hundred good windows in a row bring it back and start what waits; a timeout without REF enters service state. A trim count moves the code by one step toward the expected count, and two good ones make the clock trimmed. A PLL that loses lock coasts, or stops where it is a SerDes PLL; one that locks runs; START and STOP from M do as R420 says, and no other level's. A relocked region PLL switches at the next period, with its slots scaled, or takes SLOW where the region drains or is halted. An idle tile with nothing to wake it sleeps; a wake lets it wake, and at its end its TCC takes the interrupt, unless a halt of its region has begun: then it goes on sleeping. Completion: exec answers a next state with the effect stated, under conditions on the state and the operands alone, for every form of clkAonLoRead, refMonitorWindow, refTimeout, trimCount, pllLossOfLock, pllRelockDone, clkPllStart, clkPllStop, pllLock, tileSleep, tileWake, tileWakeDone. (R412, R413, R414, R415, R416, R417, R418, R419, R420, R421, R422, 17_clocks_and_wake) -/
def Obligations.ClocksAndSleep : Prop :=
  (∀ s : State, s.mgt.powered = true →
    ∃ v : State, tick s = netStep (runFirmware (findUpsets ((s.tiles.map Prod.fst).foldl endOverdue v))) ∧ v.aon = s.aon + 1 ∧ v.tiles = s.tiles ∧ v.mc = s.mc ∧ v.fcs = s.fcs ∧ v.fab = { s.fab with swapping := false } ∧ v.mesh = s.mesh ∧
      v.flash = s.flash ∧ v.pending = s.pending ∧ v.net = s.net ∧
      v.mgmtCycles = s.mgmtCycles + (if pllState s 0 = 2 then 1000 else if pllState s 0 = 3 ∨ pllState s 0 = 4 then 200 else 100) ∧
      (∀ r, r < 30 → (v.region r).cycles = (s.region r).cycles +
        (if pllState s (7 + r) = 2 then 850 else if pllState s (7 + r) = 3 ∨ pllState s (7 + r) = 4 then 200 else 0)) ∧
      (s.upsets = [] → (∀ p ∈ s.tiles, atMEntry v p.1 = false ∧ ∀ q ∈ (v.tile p.1).reqs, ackOverdue v p.1 q.2 = false) →
        tick s = netStep v ∧
        (s.net = [] → s.fab.ports = [] → s.fab.tx = [] → s.fab.toSend = [] → s.mesh.shadow = none → tick s = v))) ∧
  (∀ s : State, s.mgt.powered = false → tick s = s) ∧
  (∀ (s : State) (lv : Level),
    (lv ≠ .u → ∃ t, exec (.clkAonLoRead lv) s = .next t ∧ t.sec.aonHi = wordAt (s.aon % 2 ^ 48) 1 ∧
      t.replies = s.replies ++ [⟨0, stOk.toNat, leBytes 4 (wordAt s.aon 0).toNat⟩] ∧ t.tiles = s.tiles) ∧
    (lv = .u → exec (.clkAonLoRead lv) s = .next (accessReply s stProtFault 0))) ∧
  (∀ (s : State) (count : Nat),
    let out := fun t : State => exec (.refMonitorWindow count) s = .next t ∧ t.mfld regClkStatus 25 16 = min 1023 count ∧ sameMemory s t
    let inside := 495 ≤ count ∧ count ≤ 505
    (refValid s = true → 2 ≤ s.mfld regClkStatus 1 0 →
      (inside → ∃ t, out t ∧ refValid t = true ∧ t.clk.bad = 0) ∧
      (¬ inside → count ≠ 0 → s.clk.bad = 0 → ∃ t, out t ∧ refValid t = true ∧ t.clk.bad = 1) ∧
      (count = 0 ∨ (¬ inside ∧ s.clk.bad = 1) →
        ∃ t, out t ∧ refValid t = false ∧ t.mfld regClkStatus 4 4 = 1 ∧ t.mfld regClkStatus 2 2 = b2n (!s.mgt.usb) ∧
          ∀ n, n < 37 → n ≠ 2 → pllState s n ≠ 0 → pllState s n ≠ 4 → pllState t n = if 3 ≤ n ∧ n ≤ 6 then 0 else 4)) ∧
    (refValid s = false →
      (480 ≤ count → count ≤ 520 → s.clk.good < 99 → ∃ t, out t ∧ refValid t = false ∧ t.clk.good = s.clk.good + 1) ∧
      (480 ≤ count → count ≤ 520 → s.clk.good = 99 → (∀ n ∈ s.clk.waitStart, n < 37) →
        ∃ t, out t ∧ refValid t = true ∧ ∀ n ∈ s.clk.waitStart, n < 37 → pllState s n = 0 → pllState t n = 1) ∧
      (count < 480 ∨ 520 < count → ∃ t, out t ∧ refValid t = false ∧ t.clk.good = 0))) ∧
  (∀ s : State,
    (refValid s = false → ∃ t, exec .refTimeout s = .next t ∧ t.mfld regClkStatus 5 5 = 1 ∧ t.mfld regMgtBootStatus 5 5 = 1 ∧
      nbit t.mgt.alerts 2 = true ∧ t.tiles = s.tiles) ∧
    (refValid s = true → exec .refTimeout s = .next s)) ∧
  (∀ (s : State) (count : Nat) (sof : Bool),
    let expect := if sof then 1600000 else 131072
    let diff := max count expect - min count expect
    (s.mfld regClkTrim 10 10 = 0 → refValid s = !sof → (sof = true → s.mgt.usb = true) → s.clk.trimmed = true →
      ∃ t, exec (.trimCount count sof) s = .next t ∧ t.clk.trimmed = true ∧
        (diff = 0 → trimCode t = trimCode s) ∧
        (expect ≤ 10000 * diff → trimCode t = if expect < count then max (-512) (trimCode s - 1) else min 511 (trimCode s + 1)) ∧
        (5000 * diff ≤ expect → t.clk.trimGood = s.clk.trimGood + 1 ∧ (1 ≤ s.clk.trimGood → t.mfld regClkStatus 1 0 = if sof then 3 else 2)) ∧
        (expect < 5000 * diff → t.clk.trimGood = 0) ∧ t.tiles = s.tiles) ∧
    (s.mfld regClkTrim 10 10 = 1 → exec (.trimCount count sof) s = .next s)) ∧
  (∀ (s : State) (n : Nat), n < 37 →
    (∀ i ∈ [fun lv => Instr.clkPllStart lv n, fun lv => .clkPllStop lv n],
      exec (i .s) s = .next (accessReply s stOk 0) ∧ exec (i .u) s = .next (accessReply s stProtFault 0)) ∧
    (refValid s = true → pllState s n ≠ 0 → pllState s n ≠ 4 →
      ∃ t, exec (.pllLossOfLock n) s = .next t ∧ sameMemory s t ∧ t.mfld (regClkPll n) 15 8 = min 255 (s.mfld (regClkPll n) 15 8 + 1) ∧
        (n ≠ 2 → pllState t n = if 3 ≤ n ∧ n ≤ 6 then 0 else 4) ∧ (n ≤ 1 ∨ 7 ≤ n → t.mfld (regClkPll n) 3 3 = 1)) ∧
    (pllState s n = 1 → ∃ t, exec (.pllLock n) s = .next t ∧ pllState t n = 2 ∧ t.clk.waitStart.contains n = false ∧ sameMemory s t) ∧
    (pllState s n = 0 → (refValid s = true ∨ n = 2) → ∃ t, exec (.clkPllStart .m n) s = .next t ∧ pllState t n = 1 ∧ t.tiles = s.tiles) ∧
    ((pllState s n = 0 ∧ refValid s = false ∧ n ≠ 2) ∨ pllState s n = 4 →
      ∃ t, exec (.clkPllStart .m n) s = .next t ∧ t.clk.waitStart.contains n = true ∧ pllState t n = pllState s n ∧ t.tiles = s.tiles) ∧
    (let mayStop := (7 ≤ n && regionState s (n - 7) == 5) || (!jobLoaded s && s.fab.routes.isNone)
     (mayStop = true → ∃ t, exec (.clkPllStop .m n) s = .next t ∧ pllState t n = 0 ∧ sameMemory s t) ∧
     (mayStop = false → ∃ t, exec (.clkPllStop .m n) s = .next t ∧ pllState t n = pllState s n ∧ t.mfld (regClkPll n) 4 4 = 1 ∧ t.tiles = s.tiles)) ∧
    (refValid s = true →
      (3 ≤ n → n ≤ 6 → pllState s n = 1 ∨ (pllState s n = 0 ∧ s.clk.waitStart.contains n = true) →
        ∃ t, exec (.pllRelockDone n) s = .next t ∧ pllState t n = 2 ∧ sameMemory s t) ∧
      (pllState s n = 4 → autoRelock s n = true ∨ s.clk.waitStart.contains n = true →
        (n < 3 → ∃ t, exec (.pllRelockDone n) s = .next t ∧ pllState t n = 2 ∧ t.tiles = s.tiles) ∧
        (7 ≤ n → s.clk.relocked.contains (n - 7) = false →
          (3 ≤ regionState s (n - 7) → ∃ t, exec (.pllRelockDone n) s = .next t ∧ pllState t n = 3 ∧ t.tiles = s.tiles) ∧
          (regionState s (n - 7) < 3 →
            ∃ t, exec (.pllRelockDone n) s = .next t ∧ pllState t n = 4 ∧ t.clk.relocked.contains (n - 7) = true ∧
              (t.region (n - 7)).budgetSlots = min (s.region (n - 7)).budgetSlots (rfld s (n - 7) regPwrRegState 22 16) * 200 / 850 ∧ sameMemory s t))))) ∧
  (∀ (s : State) (lt : Nat), lt < 1320 →
    (tileIdle s lt = true → wakePending s lt = false → (s.tile lt).asleep = 0 → regionState s (regionOf s lt) < 3 →
      ∃ t, exec (.tileSleep lt) s = .next t ∧ (t.tile lt).asleep = 1 ∧ (∀ c, canIssue t lt c = false) ∧ (t.tile lt).tcc = (s.tile lt).tcc ∧
        sameMemory s t) ∧
    (wakePending s lt = true → exec (.tileSleep lt) s = .next s) ∧
    ((s.tile lt).asleep = 1 → regionState s (regionOf s lt) < 3 →
      ∃ t, exec (.tileWake lt) s = .next t ∧ (t.tile lt).asleep = 2 ∧ (t.tile lt).tcc = (s.tile lt).tcc ∧ sameMemory s t) ∧
    ((s.tile lt).asleep = 2 → 3 ≤ regionState s (regionOf s lt) → exec (.tileWakeDone lt) s = .next s) ∧
    ((s.tile lt).asleep = 2 → regionState s (regionOf s lt) < 3 →
      let u := s.modTile lt (fun x => { x with asleep := 0 })
      (intToTake u lt = none → exec (.tileWakeDone lt) s = .next u) ∧
      (∀ i, intToTake u lt = some i → tccLive u lt = true → exec (.tileWakeDone lt) s = .next (interruptEntry u lt i))))

/-! ### Errors, tests, the Sketchbook -/

/-- A controller that runs starts the first queued test whose unit is not under test: it is marked running, its tile shows TESTING, and a link or a router leaves routing. A test that ends is taken off and logged where its log has room; one that fails makes its unit a pending entry of the map, or fails the module where the flash write does (a free choice), and one that passes is entered in the history of transients and returns its link to routing. A controller's FATAL halts its region, marks the groups of its tiles and reloads it. A programmable trigger fires on its interrupt, and on a fire command from S or M, and counts; a queued record is written with its sequence number and HEAD advances. A full test is refused while a job is loaded and else runs, and its findings become pending entries, but for those whose flash write fails, with which the module fails. The SVN floors rise to what runs and never fall; the low word of the unlock counter is read with the high word latched. No byte of memory changes. Completion: exec answers a next state with the effect stated, under conditions on the state and the operands alone, for every form of secUnlockCtrLoRead, testStart, testDone, fcFirmwareReloadDone, skbTrigger, skbRecordWrite, skbFire, gessoFullTestWrite, fullTestDone, secCommitSvn, fieldControllerFatal. (R48, R50, R426, R430, R432, R433, R435, R437, R438, R440, R446, R463) -/
def Obligations.TestsAndRecords : Prop :=
  (∀ (s : State) (f : Nat), f < 60 →
    ((s.fc f).reloading = false →
      (nextTest (s.fc f) = none → exec (.testStart f) s = .next s) ∧
      (∀ j, nextTest (s.fc f) = some j →
        ∃ t, exec (.testStart f) s = .next t ∧ (t.fc f).tests.any (fun k => k.running && k.unit == j.unit) = true ∧
          (t.fc f).tests.length = (s.fc f).tests.length ∧ sameMemory s t ∧
          (∀ lt, ltOfPt s j.unit.pt = some lt → t.tbit lt regRasTileStatus 19 = true) ∧
          (j.unit.kind = 4 → t.mesh.outLinks.contains (linkKey j.unit.pt j.unit.num) = true) ∧
          (j.unit.kind = 5 → t.mesh.outRouters.contains (j.unit.pt, j.unit.num) = true))) ∧
    ((s.fc f).reloading = true → exec (.testStart f) s = .next s) ∧
    (∀ (kind pt num lanes lane : Nat) (pass : Bool) (j : TestJob),
      let u : UnitId := ⟨kind, pt, num⟩
      (s.fc f).tests.find? (fun k => k.running && k.unit == u) = some j →
      let out := if pass then transientOutcome (s.fc f).history u s.aon else 3
      let head := s.freg f regRasLogHead
      ∃ t, exec (.testDone f kind pt num pass lanes lane) s = .next t ∧ (∀ k ∈ (t.fc f).tests, ¬ (k.running = true ∧ k.unit = u)) ∧
        (t.fc f).history = (if pass then addTransient (s.fc f).history u s.aon else (s.fc f).history) ∧ sameMemory s t ∧
        (∀ lt, ltOfPt s pt = some lt → t.tbit lt regRasTileStatus 17 = true) ∧
        ((head.toNat + 2 ^ 32 - (s.freg f regRasLogTail).toNat) % 2 ^ 32 < 64 →
          t.freg f regRasLogHead = head + 1 ∧ ∃ e, kvFind (t.fc f).log (head.toNat % 64) = some e ∧ e.cls = 0 ∧ e.unitKind = kind ∧ e.pt = pt ∧
            e.outcome = out ∧ e.seq = head.toNat ∧ e.detail = j.seq % 2 ^ 32 + testCycles kind % 2 ^ 32 * 2 ^ 32) ∧
        (∀ e, pass = false → lastingEntry u (if lanes = 1 then some lane else none) = some e → s.gesso.entries.length < 4096 →
          t.gesso.entries = s.gesso.entries ++ [⟨e.1, true, false, false, e.2.1, e.2.2.1, e.2.2.2, (s.mreg regMgtBootCount).toNat⟩] ∨
          (t.gesso.entries = s.gesso.entries ∧ t.gesso.failed = true ∧ t.mfld regMgtBootStatus 6 6 = 1)) ∧
        (pass = true → out = 2 → t.gesso.entries = s.gesso.entries ∧ (kind = 4 → t.mesh.outLinks.contains (linkKey pt num) = false))) ∧
    (∃ t, exec (.fcFirmwareReloadDone f) s = .next t ∧ (t.fc f).reloading = false ∧ t.tiles = s.tiles) ∧
    (let r := regionOfField f
     ∃ t, exec (.fieldControllerFatal f) s = .next t ∧ (t.fc f).reloading = true ∧
      (regionState s r < 3 → regionState t r = 3) ∧ (3 ≤ regionState s r → regionState t r = regionState s r) ∧
      (regionState s r ≠ 5 → (t.region r).fatalHalt = true ∧ ∀ lt ∈ regionTiles s r, t.haltGroups.contains (groupOfTile s lt) = true))) ∧
  (∀ (s : State) (sel : BitVec 12) (n : BitVec 4) (tg : Target), targetOf s sel.toNat = some tg →
    let w := rget s tg (regSkbTrig n.toNat)
    let counted := fun t : State => kvGet 0 (recorderOf t tg).fired (0x40 + n.toNat) = min 65535 (kvGet 0 (recorderOf s tg).fired (0x40 + n.toNat) + 1) ∧
      sameMemory s t
    (∀ lt, tg = .tile lt →
      (bit w 0 = true → fld w 2 1 = 1 → intPending s lt (fld w 15 8) = true → ∃ t, exec (.skbTrigger sel n) s = .next t ∧ counted t) ∧
      (bit w 0 = false ∨ fld w 2 1 ≠ 1 ∨ intPending s lt (fld w 15 8) = false → exec (.skbTrigger sel n) s = .next s)) ∧
    (∀ lv, lv ≠ .u →
      (bit w 0 = true → fld w 2 1 = 0 → ∃ t, exec (.skbFire sel lv n) s = .next t ∧ counted t) ∧
      (bit w 0 = false ∨ fld w 2 1 ≠ 0 → exec (.skbFire sel lv n) s = .next (accessReply s stOk 0))) ∧
    exec (.skbFire sel .u n) s = .next (accessReply s stProtFault 0) ∧
    (∀ x rest, (recorderOf s tg).queue = x :: rest →
      let seq := (rget s tg regSkbHead).toNat
      ∃ t e, exec (.skbRecordWrite sel) s = .next t ∧ (recorderOf t tg).queue = rest ∧ rget t tg regSkbHead = BitVec.ofNat 32 (seq + 1) ∧
        kvFind (recorderOf t tg).recs (seq % recorderSize tg) = some e ∧ e.seq = seq ∧ e.words = x.words ∧ e.aon = x.aon ∧
        fld e.header 15 8 = x.id % 256 ∧ sameMemory s t)) ∧
  (∀ s : State,
    exec (.gessoFullTestWrite .s) s = .next (accessReply s stOk 0) ∧ exec (.gessoFullTestWrite .u) s = .next (accessReply s stProtFault 0) ∧
    (jobLoaded s = true → ∃ t, exec (.gessoFullTestWrite .m) s = .next t ∧ t.mfld regMgtGessoCtrl 2 2 = 1 ∧ t.gesso = s.gesso ∧ t.tiles = s.tiles) ∧
    (jobLoaded s = false → ∃ t, exec (.gessoFullTestWrite .m) s = .next t ∧ t.gesso.fullBusy = true ∧ t.gesso.entries = s.gesso.entries ∧
      t.tiles = s.tiles) ∧
    (∀ fs : List Finding, s.gesso.fullBusy = true → s.gesso.entries.length + fs.length ≤ 4096 →
      ∃ t, exec (.fullTestDone fs) s = .next t ∧ t.gesso.fullBusy = false ∧ sameMemory s t ∧
        ∃ es : List MapEnt, t.gesso.entries = s.gesso.entries ++ es ∧ es.Sublist (fs.map (fun f => pendingEntry s f.typ f.pt f.arg0 f.arg1 false)) ∧
          (es.length < fs.length → t.gesso.failed = true)) ∧
    (∀ fs : List Finding, s.gesso.fullBusy = false → exec (.fullTestDone fs) s = .next s) ∧
    exec (.secCommitSvn .s) s = .next (accessReply s stOk 0) ∧ exec (.secCommitSvn .u) s = .next (accessReply s stProtFault 0) ∧
    (∃ t, exec (.secCommitSvn .m) s = .next t ∧ t.tiles = s.tiles ∧ ∀ n, n < 3 →
      s.flash.floors.getD n 0 ≤ t.flash.floors.getD n 0 ∧
      (kvFind s.sec.running (n + 1) = none → t.flash.floors.getD n 0 = s.flash.floors.getD n 0) ∧
      ∀ c, kvFind s.sec.running (n + 1) = some c →
        t.flash.floors.getD n 0 = max (s.flash.floors.getD n 0) (min 64 (kvGet FwCopy.shipped s.flash.fw c).svn)) ∧
    (∀ lv, lv ≠ .u → ∃ t, exec (.secUnlockCtrLoRead lv) s = .next t ∧ t.sec.unlockHi = wordAt s.sec.unlockCtr.toNat 1 ∧
      t.replies = s.replies ++ [⟨0, stOk.toNat, leBytes 4 (wordAt s.sec.unlockCtr.toNat 0).toNat⟩] ∧ t.tiles = s.tiles) ∧
    exec (.secUnlockCtrLoRead .u) s = .next (accessReply s stProtFault 0))

/-! ### Power-on, the management bus, attached parts -/

/-- The commands of Table 20.4 that only read, their codes, and the bytes that they answer. -/
def Obl.busRows : List (Instr × Nat × (State → List Byte)) :=
  [(.mgtStatus, 1, fun s => leBytes 4 (s.mreg regMgtBootStatus).toNat), (.mgtSerial, 2, fun _ => slice Config.serial 0 12),
   (.mgtMacBase, 3, fun _ => slice Config.macBase 0 6), (.mgtTmax, 4, fun s => leBytes 1 (hottestRegion s % 256).toNat),
   (.mgtPin, 5, fun s => leBytes 2 (s.mfld regPwrModIn 15 0))]

/-- The I3C commands that only answer, with the bytes that they answer. -/
def Obl.i3cRows : List (Instr × (State → List Byte)) :=
  [(.i3cGetpid, fun _ => slice Config.i3cPid 0 6), (.i3cGetbcr, fun _ => [Config.i3cBcr]), (.i3cGetdcr, fun _ => [Config.i3cDcr]),
   (.i3cGetmwl, fun s => [BitVec.ofNat 8 (s.mgt.mwl / 2 ^ 8), BitVec.ofNat 8 s.mgt.mwl]),
   (.i3cGetmrl, fun s => [BitVec.ofNat 8 (s.mgt.mrl / 2 ^ 8), BitVec.ofNat 8 s.mgt.mrl])]

/-- POWER_GOOD powers a module that is not, tile memory lost and fuses kept; the boot stops failed after step 1 without a passing Management Complex, in service state after step 2 without REF, failed after step 3 where the device certificate does not hold the derived keys. RESET_N resets a powered module: AON goes on, RESET_CAUSE says the pin, tile memory is lost. A power failure leaves flash and fuses, an over-current noted. A sag is kept as reported; its end ends its holds. The end of an hour counts it, and as hot where a region's mean TMAX passed 90 °C, and makes TAVG the mean of the hourly means, from their exact sum (log entry 54). The shelf's readings are LINEAR11 (PRESUMED, log entry 54). A part's identity is kept with PARTS_OK, a cage's Application Select is written, ports of a good cable end take presets. A pulled bundle is forgotten, its ten ports DOWN with LOS, whatever their state. Before power-good the pin, the hour and the failure change nothing. Read commands answer, in SMBus mode with count and packet error code (PRESUMED, log entry 54), before power-good only SERIAL and MAC_BASE; the alert cause is answered and cleared, the alert response while ALERT_N is low without a dynamic address. ENTDAA, SETDASA and RSTDAA give and drop it; while it is held the GET codes answer (log entry 37); ENEC, DISEC, SETMWL and SETMRL set what they name. USB attaches while powered with an accurate clock and an elected Management Complex, and detaches, with HOLDING as REF and USB give it. Completion: exec answers a next state with the effect stated, under conditions on the state and the operands alone, for every form of powerGood, moduleResetPin, inputSag, powerFail, lifeHourTick, pmbusPoll, partInserted, bundlePresentChange, mgtStatus, mgtSerial, mgtMacBase, mgtTmax, mgtPin, mgtAlertCause, smbusAlertResponse, i3cEntdaa, i3cSetdasa, i3cRstdaa, i3cGetpid, i3cGetbcr, i3cGetdcr, i3cGetstatus, i3cEnec, i3cDisec, i3cSetmwl, i3cGetmwl, i3cSetmrl, i3cGetmrl, usbAttach. (R413, R444, R448, R464, R465, R466, R469, R470, R484, R487, R488, R493) -/
def Obligations.PowerAndManagement : Prop :=
  ((∀ (s : State) (b : BootIn),
    let lost := fun t : State => ∀ lt a, memGet (t.tile lt).mem a = memDefault
    (s.mgt.powered = false →
      ∃ t, exec (.powerGood b) s = .next t ∧ t.mgt.powered = true ∧ t.pending = s.pending ∧ lost t ∧ t.flash.owners = s.flash.owners ∧
        t.flash.floors = s.flash.floors ∧
        (b.aPass = false → b.bPass = false → t.mfld regMgtBootStatus 3 0 = 1 ∧ t.mfld regMgtBootStatus 6 6 = 1) ∧
        (b.aPass = true ∨ b.bPass = true → b.refValid = false → t.mfld regMgtBootStatus 3 0 = 2 ∧ t.mfld regMgtBootStatus 5 5 = 1 ∧
          t.mfld regClkStatus 5 5 = 1 ∧ mcIsB t = !b.aPass) ∧
        (b.aPass = true ∨ b.bPass = true → b.refValid = true → keysAgree s = false →
          t.mfld regMgtBootStatus 3 0 = 3 ∧ t.mfld regMgtBootStatus 6 6 = 1 ∧ refValid t = true) ∧
        (b.aPass = true ∨ b.bPass = true → b.refValid = true → keysAgree s = true →
          t.sec.dik = dikOf Config.deviceSecret ∧ t.sec.dwk = dwkOf Config.deviceSecret)) ∧
    (s.mgt.powered = true → exec (.powerGood b) s = .next s ∧
      ∃ t, exec (.moduleResetPin b) s = .next t ∧ t.mgt.powered = true ∧ t.aon = s.aon ∧ t.mreg regMgtResetCause = 2 ∧ t.pending = s.pending ∧ lost t ∧
        t.flash.owners = s.flash.owners ∧ t.flash.floors = s.flash.floors) ∧
    (s.mgt.powered = false → exec (.moduleResetPin b) s = .next s)) ∧
  (∀ (s : State) (excess : Bool),
    (s.mgt.powered = true →
      ∃ t, exec (.powerFail excess) s = .next t ∧ t.mgt.powered = false ∧ t.tiles = [] ∧ t.pending = s.pending ∧
        t.flash = { s.flash with overCurrent := s.flash.overCurrent || excess } ∧ t.gesso.slotF = s.gesso.slotF ∧ t.gesso.slotD0 = s.gesso.slotD0 ∧
        t.gesso.slotD1 = s.gesso.slotD1) ∧
    (s.mgt.powered = false → exec (.powerFail excess) s = .next s)) ∧
  (∀ (s : State) (long back : Bool),
    ∃ t, exec (.inputSag long back) s = .next t ∧ t.mgt.sagging = (!back && (s.mgt.sagging || long)) ∧ t.tiles = s.tiles ∧
      (back = true → ∀ r, r < 30 → (t.region r).sagHeld = false)) ∧
  (∀ (s : State) (mean : BitVec 16) (excess : Bool),
    (s.mgt.powered = true →
      let h := kvGet 0 s.flash.life 0
      let a := kvGet 0 s.flash.life 1
      let d := kvGet 1 s.flash.life 3
      let hot := (List.range 30).any (fun r => decide (90 * ((s.region r).tmax.2 : Int) < (s.region r).tmax.1)) || decide (s.mgt.heat.2 = 0) && excess
      ∃ t, exec (.lifeHourTick mean excess) s = .next t ∧ kvGet 0 t.flash.life 0 = h + 1 ∧ t.mreg regMgtLifeHours = BitVec.ofNat 32 (h + 1) ∧
        kvGet 0 t.flash.life 2 = min 65535 (kvGet 0 s.flash.life 2 + b2n hot) ∧ t.tiles = s.tiles ∧ t.mgt.heat = (0, 0) ∧
        (s.mgt.heat.2 ≠ 0 →
          let n := s.mgt.heat.2
          let sum := 100 * s.mgt.heat.1.toNat
          kvGet 0 t.flash.life 1 * (d * n) = (a * n + sum * d) * kvGet 1 t.flash.life 3 ∧
          t.mfld regMgtLifeTj 15 0 = min 65535 (quantise (a * n + sum * d) (d * n * (h + 1))))) ∧
    (s.mgt.powered = false → exec (.lifeHourTick mean excess) s = .next s)) ∧
  (∀ (s : State) (v i st : BitVec 16),
    (∃ t, exec (.pmbusPoll (some (v, i, st))) s = .next t ∧ t.mgt.shelf = [linear11 v, linear11 i, linear11 st] ∧ t.mgt.pinFails = 0 ∧ t.tiles = s.tiles) ∧
    exec (.pmbusPoll none) s = exec (.pwrCalibrate none) s) ∧
  (∀ (s : State) (i : Nat) (m : List Byte), i < 16 →
    ∃ t, exec (.partInserted i m) s = .next t ∧ partMem t i = m ∧ (∀ k, k ≠ i → partMem t k = partMem s k) ∧ t.mgt.partsAon = s.aon ∧
      (∀ k, k < 16 → nbit (t.mfld regMgtBootStatus 31 16) k = partOk t k) ∧ t.tiles = s.tiles ∧ (i < 2 → m ≠ [] → t.mgt.appSel.contains i = true) ∧
      (2 ≤ i → i < 14 → cableOk m = true → ∀ k, k < 10 → kvFind t.mgt.presets (10 * (i - 2) + k) = some (presetOf m k))) ∧
  (∀ (s : State) (b : Nat), b < 12 →
    (∃ t, exec (.bundlePresentChange b true) s = .next t ∧ t.mgt.absent.contains b = true ∧ partMem t (2 + b) = [] ∧ sameMemory s t ∧
      ∀ i, i < 10 →
        portState t (10 * b + i) = 4 ∧ t.ffld ((10 * b + i) / 2) (regFabPortStatus ((10 * b + i) % 2)) 7 4 = causeLos) ∧
    (∃ t, exec (.bundlePresentChange b false) s = .next t ∧ t.mgt.absent.contains b = false ∧ t.tiles = s.tiles))) ∧
  (∀ s : State,
    let ans := fun (u : State) (d : List Byte) => { u with replies := u.replies ++ [⟨5, 0, d⟩] }
    let framed := fun (code : Nat) (d : List Byte) =>
      let b := leBytes 1 d.length ++ d
      if s.mgt.i3c.isSome then d else b ++ leBytes 1 (crc8 (leBytes 1 0xB4 ++ leBytes 1 code ++ leBytes 1 0xB5 ++ b))
    (∀ p ∈ Obl.busRows, exec p.1 s = .next (ans s (if p.2.1 = 2 ∨ p.2.1 = 3 ∨ s.mgt.powered = true then framed p.2.1 (p.2.2 s) else []))) ∧
    (s.mgt.powered = true →
      exec .mgtAlertCause s = .next { ans s (framed 6 (leBytes 2 s.mgt.alerts)) with mgt := { s.mgt with alerts := 0 } }) ∧
    (s.mgt.powered = false → exec .mgtAlertCause s = .next (ans s [])) ∧
    (s.mgt.alerts ≠ 0 → s.mgt.i3c = none → exec .smbusAlertResponse s = .next (ans s [0x5A, BitVec.ofNat 8 (crc8 [0x19, 0x5A])])) ∧
    (s.mgt.alerts = 0 ∨ s.mgt.i3c ≠ none → exec .smbusAlertResponse s = .next s) ∧
    (∀ a, s.mgt.i3c = none →
      ∃ t d, exec (.i3cEntdaa a) s = .next t ∧ t.mgt.i3c = some a ∧ t.replies = s.replies ++ [⟨5, 0, d⟩] ∧ d.length = 8 ∧ d.take 6 = slice Config.i3cPid 0 6 ∧
        t.tiles = s.tiles) ∧
    (∀ a, s.mgt.i3c = none → exec (.i3cSetdasa 0x5A a) s = .next { s with mgt := { s.mgt with i3c := some a } }) ∧
    (∀ a st, st ≠ 0x5A ∨ s.mgt.i3c ≠ none → exec (.i3cSetdasa st a) s = .next s) ∧
    exec .i3cRstdaa s = .next { s with mgt := { s.mgt with i3c := none } } ∧
    (∀ p ∈ Obl.i3cRows, exec p.1 s = .next (if s.mgt.i3c.isSome then ans s (p.2 s) else s)) ∧
    (s.mgt.i3c.isSome = true → ∃ t d, exec .i3cGetstatus s = .next t ∧ t.replies = s.replies ++ [⟨5, 0, d⟩] ∧ d.length = 2 ∧ t.mgt = s.mgt ∧
      t.tiles = s.tiles) ∧
    (∀ ev : BitVec 8, bit ev 0 = true →
      exec (.i3cEnec ev) s = .next { s with mgt := { s.mgt with ibi := true } } ∧
      exec (.i3cDisec ev) s = .next { s with mgt := { s.mgt with ibi := false } }) ∧
    (∀ ev : BitVec 8, bit ev 0 = false → exec (.i3cEnec ev) s = .next s ∧ exec (.i3cDisec ev) s = .next s) ∧
    (∀ n : BitVec 16, exec (.i3cSetmwl n) s = .next { s with mgt := { s.mgt with mwl := n.toNat } } ∧
      exec (.i3cSetmrl n) s = .next { s with mgt := { s.mgt with mrl := n.toNat } }) ∧
    (∃ t, exec (.usbAttach false) s = .next t ∧ t.mgt = { s.mgt with usb := false } ∧ t.mfld regClkStatus 2 2 = b2n (!refValid s) ∧ t.tiles = s.tiles) ∧
    (s.mgt.powered = true → usbClockGood s = true → (mcFailed s false && mcFailed s true) = false →
      ∃ t, exec (.usbAttach true) s = .next t ∧ t.mgt = { s.mgt with usb := true } ∧ t.mfld regClkStatus 2 2 = 0 ∧ t.tiles = s.tiles) ∧
    (s.mgt.powered = false ∨ usbClockGood s = false ∨ (mcFailed s false && mcFailed s true) = true → exec (.usbAttach true) s = .next s))

/-! ### The Lerux Control Protocol -/

/-- A client connects over a port that is up, after step 14, while fewer than four connections are held, and a closed connection is gone with the image that it was sending. A message on a connection that is not open does nothing, one that may not be sent this way answers DENIED, an exclusive one while another runs BUSY, and one of an unknown type MALFORMED. A message that may run has the effect that Table 20.10 gives it and its reply goes back the way it came: status and log reads change nothing; accepted keys, policy, certificate, route image, firmware copy, sealing key, cap and SVN commit take effect, and refused ones change nothing; a piece of a job image is kept, and an accepted whole image leaves a job loaded; END_JOB leaves none and stops every TCC; a stream that may be opened stands open under a free number and a closed one is gone; a full test, a reset and an unlock begin; a word of healthy tile memory is read and written, by an access that goes over the Control Mesh (that the effect does not wait for it is the model's choice, log entry 54). (The order of the checks is the model's reading: log entry 38.) Completion: exec answers a next state with the effect stated, under conditions on the state and the operands alone, for every form of lcpConnect, lcpDisconnect, lcpUnknownType, getStatus, attest, enroll, setPolicy, setMembership, setRoutes, loadJob, endJob, setCap, readLog, fwWrite, lcpCommitSvn, iskCreate, openStream, closeStream, lcpFullTest, reset, unlock, regRead, regWrite. (R397, R446, R449, R450, R451, R458, R460, R461, R474, R476, R477, R480) -/
def Obligations.ControlProtocol : Prop :=
  (∀ (s : State) (n : BitVec 1) (full : Bool),
    (∀ i, [1, 2, 3, 4].find? (fun i => !s.mgt.conns.any (fun c => c.id == i)) = some i → s.mfld (regHostPortStatus n.toNat) 1 0 = 2 →
      14 ≤ s.mfld regMgtBootStatus 3 0 → exec (.lcpConnect n full) s = .next { s.drawn with mgt := { s.mgt with conns := s.mgt.conns ++ [⟨i, full, s.fresh⟩] } }) ∧
    ((∀ i ∈ [1, 2, 3, 4], s.mgt.conns.any (fun c => c.id == i) = true) → exec (.lcpConnect n full) s = .next s)) ∧
  (∀ (s : State) (id : BitVec 3),
    ∃ t, exec (.lcpDisconnect id) s = .next t ∧ t.mgt.conns = s.mgt.conns.filter (fun c => c.id != id.toNat) ∧
      (∀ j, t.mgt.loading = some j → j.conn ≠ id.toNat) ∧ t.tiles = s.tiles) ∧
  (∀ (s : State) (via : Nat) (req : BitVec 32) (typ : BitVec 16), viaExists via = true → viaOpen s via = true → typ.toNat = 0 ∨ 0x14 < typ.toNat →
    ∃ t r, exec (.lcpUnknownType via req typ) s = .next t ∧ t.replies = s.replies ++ [⟨via, 0, lcpMsg (typ ||| 0x8000).toNat r req.toNat 0 []⟩] ∧
      (via ≠ 6 → r = lcpMalformed) ∧ t.tiles = s.tiles ∧ t.mgt = s.mgt) ∧
  (∀ (s : State) (via : Nat) (req : BitVec 32) (nonce keys trailer b bs image : List Byte) (off : BitVec 64) (fs : List Finding) (cap : BitVec 16)
      (log stage port form window : BitVec 8) (first count len o id n : BitVec 32) (dirOut : Bool) (lt : BitVec 16) (bi : BootIn) (sel : BitVec 12)
      (ro : BitVec 28) (ws : List WriteWord),
    viaExists via = true →
    let rows : List (Nat × Instr) :=
      [(1, .getStatus via req), (2, .attest via req nonce), (3, .enroll via req keys trailer), (4, .setPolicy via req b), (5, .setMembership via req b),
       (6, .setRoutes via req b), (7, .loadJob via req off bs fs), (8, .endJob via req), (9, .setCap via req cap), (0xA, .readLog via req log first count),
       (0xB, .fwWrite via req stage image), (0xC, .lcpCommitSvn via req), (0xD, .iskCreate via req),
       (0xE, .openStream via req port dirOut form lt window o len), (0xF, .closeStream via req id), (0x10, .lcpFullTest via req), (0x11, .reset via req bi),
       (0x12, .unlock via req b), (0x13, .regRead via req sel ro n), (0x14, .regWrite via req sel ro ws)]
    ∀ p ∈ rows,
      (viaOpen s via = false → exec p.2 s = .next s) ∧
      (viaOpen s via = true → lcpAllowed s via p.1 = false → exec p.2 s = .next (lcpReply s via p.1 req lcpDenied 0 [])) ∧
      (viaOpen s via = true → lcpAllowed s via p.1 = true → lcpIsBusy s via p.1 = true → exec p.2 s = .next (lcpReply s via p.1 req lcpBusy 0 []))) ∧
  (∀ (s : State) (via : Nat) (req : BitVec 32),
    let may := fun typ : Nat => viaExists via = true ∧ viaOpen s via = true ∧ lcpAllowed s via typ = true ∧ lcpIsBusy s via typ = false
    let refused := fun (typ detail : Nat) => Host.Outcome.next (φ := Fault) (ρ := Refusal) (lcpReply s via typ req lcpRefused detail [])
    let okReply := fun (t : State) (typ : Nat) (body : List Byte) => (⟨via, 0, lcpMsg (typ + 0x8000) lcpOk req.toNat 0 body⟩ : Reply) ∈ t.replies
    (may 1 → exec (.getStatus via req) s = .next (lcpReply s via 1 req lcpOk 0
      (([regMgtBootStatus, regMgtGessoStatus, regSecStatus, regFabStatus, regMgtBootCount].map (fun r => leBytes 4 (mcRead s r).toNat)).flatten))) ∧
    (may 2 → ∀ nonce, nonce.length = 32 →
      (s.sec.secret ≠ [] → exec (.attest via req nonce) s = .next (lcpReply s via 2 req lcpOk 0 (attest s nonce))) ∧
      (s.sec.secret = [] → exec (.attest via req nonce) s = .next (lcpReply s via 2 req lcpState 0 []))) ∧
    (may 3 → ∀ keys trailer, ownerKeysOk keys = true →
      (s.flash.owners.length < 4 → s.flash.owners = [] ∨ signed (ownerKey s) keys trailer = true →
        ∃ t, exec (.enroll via req keys trailer) s = .next t ∧ t.flash.owners = s.flash.owners ++ [sha256 keys] ∧ okReply t 3 [] ∧ t.tiles = s.tiles) ∧
      (4 ≤ s.flash.owners.length → exec (.enroll via req keys trailer) s = refused 3 0)) ∧
    (may 4 → ∀ b, b.length ≤ 2 ^ 24 →
      (policyFails s b = none →
        ∃ t, exec (.setPolicy via req b) s = .next t ∧ t.flash.policy = b ∧ t.sec.policy = true ∧
          t.flash.policyFloor = max s.flash.policyFloor (min 64 (fieldAt b 0x18 4)) ∧ okReply t 4 [] ∧ t.tiles = s.tiles) ∧
      (∀ n, policyFails s b = some n → exec (.setPolicy via req b) s = refused 4 n)) ∧
    (may 5 → ∀ b, b.length ≤ 2 ^ 24 →
      (memberOk s b = true → ∃ t, exec (.setMembership via req b) s = .next t ∧ t.flash.membership = b ∧ okReply t 5 [] ∧ t.tiles = s.tiles) ∧
      (memberOk s b = false → exec (.setMembership via req b) s = refused 5 0)) ∧
    (may 6 → ∀ b, b.length ≤ 2 ^ 24 →
      (routesFail s b (s.fab.routes.map (fun t => t.version)) = none →
        ∃ t, exec (.setRoutes via req b) s = .next t ∧ t.fab.routes = some (routeTab b) ∧ t.moduleId = some (routeTab b).ident ∧ t.flash.routeImage = b ∧ t.fab.swapping = true ∧
          okReply t 6 [] ∧ sameMemory s t) ∧
      (∀ n, routesFail s b (s.fab.routes.map (fun t => t.version)) = some n → exec (.setRoutes via req b) s = refused 6 n)) ∧
    (may 7 → jobLoaded s = false → s.mfld regMgtBootStatus 4 4 = 1 → ∀ (off : BitVec 64) bs fs img, 8 + bs.length ≤ 2 ^ 24 →
      nextPiece s off.toNat bs = some img →
      (imageWhole img = false →
        ∃ t, exec (.loadJob via req off bs fs) s = .next t ∧ t.mgt.loading = some ⟨via, img⟩ ∧ okReply t 7 [] ∧ t.tiles = s.tiles) ∧
      (imageWhole img = true → ∀ u, jobLoad { s with mgt := { s.mgt with loading := none } } (img.take (fieldAt img 8 8)) fs = (u, 0, 0) →
        exec (.loadJob via req off bs fs) s = .next (lcpReply u via 7 req lcpOk 0 []) ∧ jobLoaded u = true)) ∧
    (may 7 → jobLoaded s = true → ∀ (off : BitVec 64) bs fs, 8 + bs.length ≤ 2 ^ 24 →
      exec (.loadJob via req off bs fs) s = .next (lcpReply s via 7 req lcpState 0 [])) ∧
    (may 8 →
      (jobLoaded s = true →
        ∃ t, exec (.endJob via req) s = .next t ∧ jobLoaded t = false ∧ (∀ lt ∈ allTiles s, (t.tile lt).tcc.stopped = true) ∧
          okReply t 8 (leBytes 4 (((allTiles s).map (fun lt => busyCount (s.tile lt))).foldl (· + ·) 0))) ∧
      (jobLoaded s = false → exec (.endJob via req) s = .next (lcpReply s via 8 req lcpState 0 []))) ∧
    (may 9 → ∀ cap : BitVec 16, ∃ t, exec (.setCap via req cap) s = .next t ∧ capOf t = max 100 (min 360 cap.toNat) ∧ okReply t 9 [] ∧ sameMemory s t) ∧
    (may 0xA → ∀ (log : BitVec 8) (first count : BitVec 32), log = 0xFF ∨ log.toNat < 60 →
      exec (.readLog via req log first count) s =
        .next (lcpReply s via 0xA req lcpOk 0 (logEntries s (if log = 0xFF then .mc else .fc log.toNat) first.toNat count.toNat))) ∧
    (may 0xB → ∀ (stage : BitVec 8) image c, 1 ≤ stage.toNat → stage.toNat ≤ 3 → 1 + image.length ≤ 2 ^ 24 → kvFind s.sec.running stage.toNat = some c →
      ∃ t, exec (.fwWrite via req stage image) s = .next t ∧ kvFind t.flash.fw (if c % 2 = 0 then c + 1 else c - 1) = some (fwCopy stage.toNat image) ∧
        kvFind t.flash.fw c = kvFind s.flash.fw c ∧ okReply t 0xB [] ∧ t.tiles = s.tiles) ∧
    (may 0xC → ∃ t, exec (.lcpCommitSvn via req) s = .next t ∧ t.flash = (commitSvn s).flash ∧ okReply t 0xC [] ∧ t.tiles = s.tiles) ∧
    (may 0xD →
      (s.sec.policy = true → s.flash.isk = [] →
        ∃ t k, exec (.iskCreate via req) s = .next t ∧ t.flash.isk = [(1, Config.wrap s.sec.dwk k)] ∧ k.length = 32 ∧
          (s.sec.isk = [] → t.sec.isk = [(1, k)]) ∧ okReply t 0xD [] ∧
          t.tiles = s.tiles) ∧
      (s.sec.policy = false ∨ s.flash.isk ≠ [] → exec (.iskCreate via req) s = refused 0xD 0)) ∧
    (may 0xE → ∀ (port : BitVec 8) (dirOut : Bool) (form : BitVec 8) (lt : BitVec 16) (window : BitVec 8) (off len : BitVec 32) x,
      x.port = port.toNat → x.conn = via → x.dirOut = dirOut → x.form = form.toNat → x.lt = lt.toNat → x.base = off.toNat → x.window = window.toNat →
      x.len = len.toNat →
      (streamOk s x = true →
        ∃ t n y, exec (.openStream via req port dirOut form lt window off len) s = .next t ∧ streamOf s n = none ∧ streamOf t n = some y ∧
          y.port = port.toNat ∧ y.dirOut = dirOut ∧ y.form = form.toNat ∧ y.lt = lt.toNat ∧ y.base = off.toNat ∧ y.window = window.toNat ∧
          y.len = len.toNat ∧ y.status = none ∧ y.next = 0 ∧ y.qpn = n ∧ t.tiles = s.tiles) ∧
      (streamOk s x = false → exec (.openStream via req port dirOut form lt window off len) s = refused 0xE 0)) ∧
    (may 0xF → ∀ id : BitVec 32,
      (∀ x st, streamOf s id.toNat = some x → x.status = some st →
        ∃ t, exec (.closeStream via req id) s = .next t ∧ streamOf t id.toNat = none ∧ okReply t 0xF (leBytes 4 st.toNat) ∧ t.tiles = s.tiles) ∧
      (∀ x, streamOf s id.toNat = some x → ∃ t, exec (.closeStream via req id) s = .next t ∧ streamOf t id.toNat = none ∧ t.tiles = s.tiles) ∧
      (streamOf s id.toNat = none → exec (.closeStream via req id) s = refused 0xF 0)) ∧
    (may 0x10 →
      (jobLoaded s = false → ∃ t, exec (.lcpFullTest via req) s = .next t ∧ t.gesso.fullBusy = true ∧ okReply t 0x10 [] ∧ t.tiles = s.tiles) ∧
      (jobLoaded s = true → ∃ t, exec (.lcpFullTest via req) s = .next t ∧ t.gesso = s.gesso ∧ t.mfld regMgtGessoCtrl 2 2 = 1 ∧ t.tiles = s.tiles)) ∧
    (may 0x11 → ∀ bi,
      ∃ t, exec (.reset via req bi) s = .next t ∧ fld (t.mreg regMgtResetCause) 7 0 = (if via = 6 then 4 else 3) ∧ t.aon = s.aon ∧ okReply t 0x11 [] ∧
        ∀ lt a, memGet (t.tile lt).mem a = memDefault) ∧
    (may 0x12 → ∀ b, b.length ≤ 2 ^ 24 →
      ∃ t, exec (.unlock via req b) s = .next t ∧ t.sec.unlockCtr = s.sec.unlockCtr + 1 ∧ t.tiles = s.tiles ∧
        (tokenOk s b = true → t.mfld regSecStatus 4 4 = 1 ∧ t.sec.scopes = s.sec.scopes ||| fieldAt b 0x14 4 ∧ t.sec.isk = [] ∧ okReply t 0x12 []) ∧
        (tokenOk s b = false → t.sec.scopes = s.sec.scopes ∧ t.sec.isk = s.sec.isk)) ∧
    (may 0x13 → ∀ (sel : BitVec 12) (off : BitVec 28), sel.toNat < ltCount s → off.toNat % 4 = 0 → off.toNat < tileMemTop →
      healthy s sel.toNat off.toNat 4 = true →
      exec (.regRead via req sel off 1) s =
        .next (lcpReply (readDone (pushAccess s (mcPt s) (ptOf s sel.toNat)) sel.toNat .tcc off.toNat 4) via 0x13 req lcpOk 0 (memBytes (s.tile sel.toNat).mem off.toNat 4))) ∧
    (may 0x14 → ∀ (sel : BitVec 12) (off : BitVec 28) (w sets : BitVec 32), sel.toNat < ltCount s → off.toNat % 4 = 0 → off.toNat < tileMemTop →
      healthy s sel.toNat off.toNat 4 = true → boltForbids s sel.toNat off.toNat 4 = false → Memory.wf (s.tile sel.toNat).mem = true →
      ∃ t, exec (.regWrite via req sel off [⟨w, sets⟩]) s = .next t ∧ memBytes (t.tile sel.toNat).mem off.toNat 4 = leBytes 4 w.toNat ∧
        sameMemoryBut sel.toNat off.toNat 4 s t ∧ okReply t 0x14 []))

/-! ### Host streams, the Study unit, register writes -/

/-- A frame that is not for an up port under its own MAC address and VLAN does nothing; one with unsupported parts is counted as dropped and does nothing else. A request for a number that names no stream of the port meets a remote access error. A frame marked CE sends a congestion notification to the stream's queue pair when none has gone to it for 50 microseconds. On an up port, a sealed block that opens under the stream's key is taken, the next block becomes due and an acknowledgement goes back; one whose tag fails is counted and ends its stream with INTEGRITY; a stream of the other direction or one that has ended answers a remote access error. SEND carries the next block or a shorter one in its place, checked in the same way. A block of a stream that leaves is read and sealed, and with the last one the stream ends OK. A congestion notice halves the rate down to 1 Gb/s and the timer raises it by 10 up to 800. A port goes down once, with its event. An enabled one that trains comes up, and so does one that has gone down once the host ports have been brought up and while its PLL runs; that it trains again so is the model's reading (log entry 54). Completion: exec answers a next state with the effect stated, under conditions on the state and the operands alone, for every form of rdmaWriteReceive, rdmaReadReceive, rdmaSendReceive, roceCnpReceive, roceRateTimer, hostPortDown, hostPortUp. (R457, R473, R474, R475, 20_host_management_boot) -/
def Obligations.HostStreams : Prop :=
  (∀ (s : State) (id : Nat) (f : HostFrame) (off n : Nat) (data : List Byte),
    let p := f.port.toNat
    let taken := s.mfld (regHostPortStatus p) 1 0 = 2 ∧ f.dst = macOf p ∧ f.vlan.toNat = s.mfld (regHostPortCfg p) 27 16
    ∀ i ∈ [Instr.rdmaWriteReceive id f off data, .rdmaReadReceive id f off n, .rdmaSendReceive id f data],
      (¬ taken → exec i s = .next s) ∧
      (taken → f.odd = true → ∃ t, exec i s = .next t ∧ t.replies = s.replies ∧ t.tiles = s.tiles ∧ (∀ k, streamOf t k = streamOf s k) ∧
        t.mfld (regHostPortErr p) 31 16 = min 65535 (s.mfld (regHostPortErr p) 31 16 + 1)) ∧
      (taken → f.odd = false → streamOf s id = none ∨ (∃ x, streamOf s id = some x ∧ x.port ≠ p) → exec i s = .next (hostReply s 1 [])) ∧
      (∀ x, taken → f.odd = false → f.ce = true → streamOf s id = some x → x.port = p → x.lastCnp.all (fun t => decide (t + 50 ≤ s.aon)) = true →
        ∃ t, exec i s = .next t ∧ ⟨7, 2, leBytes 4 x.qpn⟩ ∈ t.replies)) ∧
  (∀ (s : State) (id : Nat) (x : Stream) (f : HostFrame) (data : List Byte), streamOf s id = some x → x.port = f.port.toNat →
    s.mfld (regHostPortStatus x.port) 1 0 = 2 → f.dst = macOf x.port → f.vlan.toNat = s.mfld (regHostPortCfg x.port) 27 16 → f.odd = false → f.ce = false →
    (x.dirOut = false → x.status = none → x.form = 0 → x.next < streamBlocks x → 16 < data.length → data.length ≤ blockBytes x x.next + 16 →
      (Config.open_ x.key (blockIv x id x.next) [] data = none →
        ∃ t y, exec (.rdmaSendReceive id f data) s = .next t ∧ streamOf t id = some y ∧ y.status = some stIntegrity ∧ t.tiles = s.tiles ∧
          t.mfld (regHostPortErr x.port) 15 0 = min 65535 (s.mfld (regHostPortErr x.port) 15 0 + 1)) ∧
      (∀ p, Config.open_ x.key (blockIv x id x.next) [] data = some p →
        ∃ t, exec (.rdmaSendReceive id f data) s = .next t ∧ streamOf t id = some { x with next := x.next + 1 } ∧
          t.replies = s.replies ++ [⟨7, 0, []⟩] ∧ sameMemory s t)) ∧
    (x.dirOut = true ∨ x.status.isSome = true ∨ x.form ≠ 0 ∨ streamBlocks x ≤ x.next ∨ data.length ≤ 16 ∨ blockBytes x x.next + 16 < data.length →
      exec (.rdmaSendReceive id f data) s = .next (hostReply s 1 [])) ∧
    (∀ off, x.dirOut = true ∨ x.status.isSome = true → exec (.rdmaWriteReceive id f off data) s = .next (hostReply s 1 [])) ∧
    (∀ off i, x.dirOut = false → x.status = none → x.form = 0 → wholeBlocks x off data.length = some (i, 1) →
      (Config.open_ x.key (blockIv x id i) [] (data.take (blockBytes x i + 16)) = none →
        ∃ t y, exec (.rdmaWriteReceive id f off data) s = .next t ∧ streamOf t id = some y ∧ y.status = some stIntegrity ∧ t.tiles = s.tiles ∧
          t.mfld (regHostPortErr x.port) 15 0 = min 65535 (s.mfld (regHostPortErr x.port) 15 0 + 1)) ∧
      (∀ p, Config.open_ x.key (blockIv x id i) [] (data.take (blockBytes x i + 16)) = some p →
        ∃ t, exec (.rdmaWriteReceive id f off data) s = .next t ∧ streamOf t id = some { x with next := i + 1 } ∧
          t.replies = s.replies ++ [⟨7, 0, []⟩] ∧ sameMemory s t)) ∧
    (∀ i, x.dirOut = true → x.status = none → x.form = 0 → i < streamBlocks x → healthy s x.lt (x.base + 4096 * i) (blockBytes x i) = true →
      let n := blockBytes x i + 16
      let r := hostReply (readDone s x.lt .tcc (x.base + 4096 * i) (blockBytes x i)) 0
        (slice (Config.seal x.key (blockIv x id i) [] (memBytes (s.tile x.lt).mem (x.base + 4096 * i) (blockBytes x i))) 0 n)
      (i + 1 < streamBlocks x → exec (.rdmaReadReceive id f (4112 * i) n) s = .next r) ∧
      (i + 1 = streamBlocks x → ∃ t, exec (.rdmaReadReceive id f (4112 * i) n) s = .next t ∧ streamOf t id = some { x with status := some stOk } ∧
        sameMemory s t)) ∧
    (∃ t, exec (.roceCnpReceive id) s = .next t ∧ streamOf t id = some { x with rate := max 1 (x.rate / 2) } ∧ t.tiles = s.tiles) ∧
    (∃ t, exec (.roceRateTimer id) s = .next t ∧ streamOf t id = some { x with rate := min 800 (x.rate + 10) } ∧ t.tiles = s.tiles)) ∧
  (∀ (s : State) (n : BitVec 1),
    let o := regHostPortStatus n.toNat
    (s.mfld o 1 0 ≠ 0 → ∃ t, exec (.hostPortDown n) s = .next t ∧ t.mfld o 1 0 = 0 ∧ t.mfld o 2 2 = 1 ∧ t.tiles = s.tiles) ∧
    (s.mfld o 1 0 = 0 → exec (.hostPortDown n) s = .next s) ∧
    let trains := bit (s.mreg (regHostPortCfg n.toNat)) 0 = true ∧
      (s.mfld o 1 0 = 1 ∨ (s.mfld o 1 0 = 0 ∧ 14 ≤ s.mfld regMgtBootStatus 3 0 ∧ pllState s (3 + n.toNat) = 2))
    (trains → ∃ t, exec (.hostPortUp n) s = .next t ∧ t.mfld o 1 0 = 2 ∧ t.tiles = s.tiles) ∧
    (¬ trains → exec (.hostPortUp n) s = .next s))

/-- A register write from U, at a misaligned offset, to a block that does not exist or under a reserved selector answers PROT_FAULT and changes nothing; another does what its register says and answers. A recorder's registers take their RW bits, clear the W1C bits written as one, but for those that hardware sets in the same cycle, and keep every other; MEM_CFG and LC_CFG are refused at S, and a register of the Management Complex in a block that M alone writes ignores S. In a region that is not halted, the first sample that is ready leaves its queue and is counted at its entry and in its region, and an exceeding one is counted as such and raises interrupt 11 where the policy says so. A release of the step barrier that reaches a tile waits for its boundary, or in a halted region is missed and marked; a boundary with no sample drawn before its release advances PAL_STEP by one, takes the release off and shows its value in the mirror; else it waits. A verification group whose rows need no filling and whose shadows can be read counts the neurons verified in the set and changes no other byte. Completion: exec answers a next state with the effect stated, under conditions on the state and the operands alone, for every form of registerWrite, predVerifyGroupDone, studySampleDone, stepBoundary, syncUpdateArrive. (R12, R13, R14, R17, R59, R188, R194, R195, R214, 00_scope, 07_numerics_and_the_palette) -/
def Obligations.RegistersAndSteps : Prop :=
  (∀ (s : State) (sel : BitVec 12) (off : BitVec 28) (lv : Level) (v same : BitVec 32),
    let w : WriteWord := ⟨v, same⟩
    (targetOf s sel.toNat = none ∨ off.toNat % 4 ≠ 0 ∨ (∀ tg, targetOf s sel.toNat = some tg → lv = .u ∨ blockExists tg off.toNat = false) →
      exec (.registerWrite sel off lv w) s = .next (accessReply s stProtFault 0)) ∧
    (∀ tg, targetOf s sel.toNat = some tg → lv ≠ .u → blockExists tg off.toNat = true → off.toNat % 4 = 0 →
      (∃ t st, exec (.registerWrite sel off lv w) s = .next (accessReply t st 0) ∧ (t, st) = regWrite s tg lv off.toNat (v &&& ~~~(w1cBits tg off.toNat &&& same))) ∧
      (∀ lt row, tg = .tile lt → off.toNat / 0x10000 = 0xF0C → off.toNat ≠ regSkbFire → findRow tileRows off.toNat = some row →
        ∃ t, exec (.registerWrite sel off lv w) s = .next t ∧ sameMemory s t ∧ (∀ o, o ≠ off.toNat → t.treg lt o = s.treg lt o) ∧
          ∀ i, i < 32 → bit (t.treg lt off.toNat) i =
            (if bit (wordAt row.w1c (row.wordOf off.toNat)) i && bit v i && !bit same i then false
             else if bit (wordAt row.rw (row.wordOf off.toNat) ||| (if bootLocked s then 0 else wordAt row.rwl (row.wordOf off.toNat))) i then bit v i
             else bit (s.treg lt off.toNat) i)) ∧
      (∀ lt, tg = .tile lt → lv = .s → off.toNat = regMemCfg ∨ off.toNat = regLcCfg →
        exec (.registerWrite sel off lv w) s = .next (accessReply s stProtFault 0)) ∧
      (tg = .mc → lv = .s → off.toNat / 0x10000 ∉ [0xF09, 0xF0B, 0xF0C] → exec (.registerWrite sel off lv w) s = .next (accessReply s stOk 0)))) ∧
  (∀ (s : State) (r : BitVec 5), r.toNat < 30 → 4 ≤ regionState s r.toNat ∨ (s.region r.toNat).samples.find? (fun x => x.ready) = none → exec (.studySampleDone r) s = .next s) ∧
  (∀ (s : State) (r : BitVec 5) (x : Sample), r.toNat < 30 → regionState s r.toNat < 4 → (s.region r.toNat).samples.find? (fun y => y.ready) = some x → x.lt < 1320 → x.entry < 256 →
    let st := s.freg (upperField r.toNat) regStudyStatus
    ∃ t, exec (.studySampleDone r) s = .next t ∧ (t.region r.toNat).samples = (s.region r.toNat).samples.filter (fun y => y.seq != x.seq) ∧ sameMemory s t ∧
      fld (palWord t x.lt x.entry 6) 15 0 = min 65535 (fld (palWord s x.lt x.entry 6) 15 0 + 1) ∧
      fld (t.freg (upperField r.toNat) regStudyStatus) 15 0 = min 65535 (fld st 15 0 + 1) ∧
      (sampleExceeds s x = true → fld (palWord t x.lt x.entry 6) 31 16 = min 65535 (fld (palWord s x.lt x.entry 6) 31 16 + 1) ∧
        fld (t.freg (upperField r.toNat) regStudyStatus) 31 16 = min 65535 (fld st 31 16 + 1) ∧
        (palFld s x.lt x.entry 0 13 12 = 1 ∨ palFld s x.lt x.entry 0 13 12 = 2 → (t.tile x.lt).studyInt = true)) ∧
      (sampleExceeds s x = false → fld (palWord t x.lt x.entry 6) 31 16 = fld (palWord s x.lt x.entry 6) 31 16 ∧
        (t.tile x.lt).studyInt = (s.tile x.lt).studyInt)) ∧
  (∀ (s : State) (lt : Nat), lt < 1320 →
    (∀ v mark rest o, (s.tile lt).stepQueue = (v, mark) :: rest → s.stepBarrier = some o →
      let earlier := (s.region (regionOf s lt)).samples.any (fun x => decide (x.seq < mark))
      (earlier = false →
        ∃ t, exec (.stepBoundary lt) s = .next t ∧ t.treg lt regPalStep = s.treg lt regPalStep + 1 ∧ (t.tile lt).stepQueue = rest ∧
          (meOf t lt).mmaCount = 0 ∧ (∀ n, mirrorOf s lt o = some n → t.treg lt (regSyncMval n) = v) ∧ sameMemory s t) ∧
      (earlier = true → exec (.stepBoundary lt) s = .next s)) ∧
    ((s.tile lt).stepQueue = [] ∨ s.stepBarrier = none → exec (.stepBoundary lt) s = .next s) ∧
    (∀ (o : BitVec 14) (v : BitVec 32), s.stepBarrier = some o.toNat → revBits 6 lt = 0 → mayArrive s (.sync false lt 4 o.toNat false false 0 v) = true →
      (regionRefuses s lt = false →
        ∃ t, exec (.syncUpdateArrive lt o false v) s = .next t ∧ sameMemory s t ∧
          (t.tile lt).stepQueue = (s.tile lt).stepQueue ++ [(v, (s.region (regionOf s lt)).sampleSeq)]) ∧
      (regionRefuses s lt = true →
        ∃ t, exec (.syncUpdateArrive lt o false v) s = .next t ∧ t.treg lt regPalStep = s.treg lt regPalStep ∧
          (t.tile lt).stepQueue = (s.tile lt).stepQueue ∧ t.tbit lt regPalCtrl 1 = true ∧ sameMemory s t))) ∧
  (∀ (s : State) (lt : Nat) (set : BitVec 28), lt < 1320 → (meOf s lt).preds.any (fun p => p.set == set.toNat && !p.stopped) = true →
    unitsStop s lt = false → wantsFill s lt (runOf s lt set.toNat) = false → Memory.wf (s.tile lt).mem = true →
    let k := set.toNat
    ∀ s1 x, readShadows s lt k = (s1, .ok x) →
      let group := ((skipped s lt k).drop (runOf s1 lt k).next).take 128
      ∀ u, verifyRun lt k (required s1 lt k (skipped s lt k).length) x.1 s1 group = (u, none) →
        exec (.predVerifyGroupDone lt set) s = .next u ∧ setField u lt k 0x30 4 = (setField s1 lt k 0x30 4 + group.length) % 2 ^ 32 ∧
          sameMemoryBut lt (k + 0x30) 8 s u ∧ (runOf u lt k).next = (runOf s1 lt k).next + group.length)

/-! ### Reset, and what every step keeps -/

/-- At power-on every register reads the reset value of its table, among them each one that is not 0; the AON count, the TRIM code and the measurement registers are 0, no recorder holds a record and no log an entry, and no Bolt bank is off. The empty queue and the memory without entries are the model's own choice (log entries 3 and 10), and so are the fuses with which the module ships (log entry 4): both invariants below hold here. (R53, R75, R169, R196, R256, R277, R299, R379, R411, R424, R436, R463) -/
def Obligations.ResetState : Prop :=
  (∀ lt : Nat,
    State.reset.treg lt regMemCfg = 2 ∧ State.reset.treg lt regMemPwrOn0 = 0xFFFFFFFF ∧ State.reset.treg lt regMemPwrOn1 = 0xFFFFFFFF ∧
    State.reset.treg lt regMemRemap = 0x7F7F ∧ State.reset.treg lt regMeRate = 0x404040 ∧ State.reset.treg lt regSkHistCfg = 0x18 ∧
    State.reset.treg lt regMeshRedCfg = 0x20 ∧ State.reset.treg lt regChTimeout = 0x1814 ∧
    (∀ n < 64, State.reset.treg lt (regBoltClim n) = 0xFFFFF ∧ State.reset.treg lt (regBoltStatus n) = 1 ∧ State.reset.treg lt (regBoltCfg n) = 0) ∧
    (State.reset.tile lt).recorder.recs = [] ∧ (State.reset.tile lt).loaded = false) ∧
  (∀ f : Nat, State.reset.freg f regRasCeCfg = 0x1410 ∧ State.reset.freg f regStudyCfg = 0x14 ∧ State.reset.freg f regPwrRegCtrl = 1 ∧
    State.reset.freg f regPwrRegState = 0x404000 ∧ State.reset.freg f regPwrRegBudget = 1000 ∧ State.reset.freg f regPwrRegModel = 0x1EC8B432 ∧
    State.reset.freg f regPwrRegDroop = 0x11084 ∧ (State.reset.fc f).log = [] ∧ (State.reset.fc f).history = [] ∧
    (State.reset.fc f).recorder.recs = []) ∧
  State.reset.mreg regFabXportCfg = 0x14205C32 ∧ State.reset.mreg regFabCcCfg0 = 0x640190 ∧ State.reset.mreg regFabCcCfg1 = 0x1410A01 ∧
  State.reset.mreg regFabMark = 0x20 ∧ State.reset.mreg regPwrModCap = 360 ∧ State.reset.mreg regPwrModGain = 4096 ∧
  State.reset.mreg regSecSessCfg = 24 ∧ State.reset.mreg regMgtResetCause = 1 ∧ State.reset.mreg regMgtGessoStatus = 0 ∧
  State.reset.mreg regClkTrim = 0 ∧ State.reset.aon = 0 ∧
  (∀ n < 37, State.reset.mreg (regClkPll n) = 0x40000) ∧ (∀ n < 64, State.reset.mreg (regSecMr n) = 0) ∧
  State.reset.mc.log = [] ∧ State.reset.mc.recorder.recs = [] ∧
  State.reset.pending = [] ∧ memoriesOk State.reset = true ∧ State.reset.flash.floors.length = 3

/-- Whatever command is at the front, of any row of the table, and on an empty queue too: from a state in which the memory and the instruction store of every tile list their bytes at strictly rising offsets and no byte that equals what an unlisted one reads as (the model's form, log entry 3), a step leads only to such a state. So no store of an instruction, an engine, the DMA, the mesh, a dispatch, a stream, the erasure of a bank, a job load, a renumbering of tiles or a reset breaks it, and two tiles that hold equal bytes hold equal data. (03_tile_memory_and_bolts, 06_matrix_engine, 10_on_wafer_networks, 12_translation_dma_preemption, 02_floorplan_and_gesso) -/
def Obligations.MemoryInvariant : Prop :=
  ∀ s t : State, memoriesOk s = true → step s = .next t → memoriesOk t = true

/-- Whatever command is at the front, and on an empty queue too: a step adds owner slots only behind those written and never past the fourth, lowers neither a stage's security version floor nor the policy floor, leaves the factory map in slot F as it is, and keeps the floors three in number, from every state in which they are. Neither a power failure nor a reset is an exception. (R446, R449, R450, R46, R47, R464) -/
def Obligations.FusesInvariant : Prop :=
  ∀ s t : State, s.flash.floors.length = 3 → step s = .next t →
    fusesFollow s t ∧ t.flash.floors.length = 3 ∧ t.flash.owners.length ≤ max 4 s.flash.owners.length ∧ t.gesso.slotF = s.gesso.slotF
end

