-- ==== Sys2Proof/Laws/Kv.lean ====
section
/-!
SUPPORT. Reads after writes of sparse tables.
-/
namespace Sys2Proof.Machine

/-- A read after a write: the value written at its key, the old value elsewhere. -/
theorem kvGet_kvSet {α : Type} (d : α) (m : KV α) (k j : Nat) (v : α) :
    kvGet d (kvSet m k v) j = if j = k then v else kvGet d m j := by
  induction m with
  | nil => simp [kvSet, kvGet, eq_comm]
  | cons p r ih =>
    obtain ⟨k', v'⟩ := p
    simp only [kvSet]
    split
    · simp only [kvGet]; by_cases h : j = k
      · simp [h]
      · simp [h, Ne.symm h]
    · split
      · subst_vars; simp only [kvGet]; by_cases h : j = k' <;> simp [h, eq_comm]
      · simp only [kvGet, ih]
        by_cases h : j = k
        · subst h; rename_i h1 h2; simp [Ne.symm h2]
        · simp [h]

@[simp] theorem kvGet_kvSet_self {α : Type} (d : α) (m : KV α) (k : Nat) (v : α) : kvGet d (kvSet m k v) k = v := by
  simp [kvGet_kvSet]

theorem kvGet_kvSet_ne {α : Type} (d : α) (m : KV α) {k j : Nat} (v : α) (h : j ≠ k) :
    kvGet d (kvSet m k v) j = kvGet d m j := by
  simp [kvGet_kvSet, h]

/-- The same for the partial read. -/
theorem kvFind_kvSet {α : Type} (m : KV α) (k j : Nat) (v : α) :
    kvFind (kvSet m k v) j = if j = k then some v else kvFind m j := by
  induction m with
  | nil => simp [kvSet, kvFind, eq_comm]
  | cons p r ih =>
    obtain ⟨k', v'⟩ := p
    simp only [kvSet]
    split
    · simp only [kvFind]; by_cases h : j = k
      · simp [h]
      · simp [h, Ne.symm h]
    · split
      · subst_vars; simp only [kvFind]; by_cases h : j = k' <;> simp [h, eq_comm]
      · simp only [kvFind, ih]
        by_cases h : j = k
        · subst h; rename_i h1 h2; simp [Ne.symm h2]
        · simp [h]

@[simp] theorem kvFind_kvSet_self {α : Type} (m : KV α) (k : Nat) (v : α) : kvFind (kvSet m k v) k = some v := by
  simp [kvFind_kvSet]

/-- A key that is taken out is not found. -/
@[simp] theorem kvFind_kvDel_self {α : Type} (m : KV α) (k : Nat) : kvFind (kvDel m k) k = none := by
  induction m with
  | nil => rfl
  | cons p r ih =>
    obtain ⟨k', v'⟩ := p
    by_cases h : k' = k
    · subst h; simpa [kvDel] using ih
    · simpa [kvDel, h, kvFind] using ih

/-- Every entry of a table after a write is the one written or an old one. -/
theorem mem_kvSet {α : Type} {m : KV α} {k : Nat} {v : α} {p : Nat × α} (h : p ∈ kvSet m k v) : p = (k, v) ∨ p ∈ m := by
  induction m with
  | nil => simpa [kvSet] using h
  | cons q r ih =>
    obtain ⟨k', v'⟩ := q
    simp only [kvSet] at h
    split at h
    · simpa using h
    · split at h
      · simp only [List.mem_cons] at h ⊢
        rcases h with h | h <;> simp [h]
      · simp only [List.mem_cons] at h ⊢
        rcases h with h | h
        · simp [h]
        · rcases ih h with h | h <;> simp [h]

end Sys2Proof.Machine
end

