-- ==== Sys2Proof/Laws/State.lean ====
section
/-!
SUPPORT. What each update of the state leaves as it was, field by field, and what it writes.
-/
namespace Sys2Proof.Machine

open Sys2Proof


/-! ### `setTile` -/

@[simp] theorem State.setTile_pending (s : State) (lt : Nat) (t : Tile) : (s.setTile lt t).pending = s.pending := rfl
@[simp] theorem State.setTile_fresh (s : State) (lt : Nat) (t : Tile) : (s.setTile lt t).fresh = s.fresh := rfl
@[simp] theorem State.setTile_aon (s : State) (lt : Nat) (t : Tile) : (s.setTile lt t).aon = s.aon := rfl
@[simp] theorem State.setTile_fcs (s : State) (lt : Nat) (t : Tile) : (s.setTile lt t).fcs = s.fcs := rfl
@[simp] theorem State.setTile_objs (s : State) (lt : Nat) (t : Tile) : (s.setTile lt t).objs = s.objs := rfl
@[simp] theorem State.setTile_groups (s : State) (lt : Nat) (t : Tile) : (s.setTile lt t).groups = s.groups := rfl
@[simp] theorem State.setTile_moduleId (s : State) (lt : Nat) (t : Tile) : (s.setTile lt t).moduleId = s.moduleId := rfl
@[simp] theorem State.setTile_gesso (s : State) (lt : Nat) (t : Tile) : (s.setTile lt t).gesso = s.gesso := rfl
@[simp] theorem State.setTile_mc (s : State) (lt : Nat) (t : Tile) : (s.setTile lt t).mc = s.mc := rfl
@[simp] theorem State.setTile_regions (s : State) (lt : Nat) (t : Tile) : (s.setTile lt t).regions = s.regions := rfl
@[simp] theorem State.setTile_mgmtCycles (s : State) (lt : Nat) (t : Tile) : (s.setTile lt t).mgmtCycles = s.mgmtCycles := rfl
@[simp] theorem State.setTile_haltGroups (s : State) (lt : Nat) (t : Tile) : (s.setTile lt t).haltGroups = s.haltGroups := rfl
@[simp] theorem State.setTile_tileGroups (s : State) (lt : Nat) (t : Tile) : (s.setTile lt t).tileGroups = s.tileGroups := rfl
@[simp] theorem State.setTile_net (s : State) (lt : Nat) (t : Tile) : (s.setTile lt t).net = s.net := rfl
@[simp] theorem State.setTile_replies (s : State) (lt : Nat) (t : Tile) : (s.setTile lt t).replies = s.replies := rfl
@[simp] theorem State.setTile_stepBarrier (s : State) (lt : Nat) (t : Tile) : (s.setTile lt t).stepBarrier = s.stepBarrier := rfl
@[simp] theorem State.setTile_mesh (s : State) (lt : Nat) (t : Tile) : (s.setTile lt t).mesh = s.mesh := rfl
@[simp] theorem State.setTile_redHeld (s : State) (lt : Nat) (t : Tile) : (s.setTile lt t).redHeld = s.redHeld := rfl
@[simp] theorem State.setTile_redChunks (s : State) (lt : Nat) (t : Tile) : (s.setTile lt t).redChunks = s.redChunks := rfl
@[simp] theorem State.setTile_redLead (s : State) (lt : Nat) (t : Tile) : (s.setTile lt t).redLead = s.redLead := rfl
@[simp] theorem State.setTile_upsets (s : State) (lt : Nat) (t : Tile) : (s.setTile lt t).upsets = s.upsets := rfl
@[simp] theorem State.setTile_fab (s : State) (lt : Nat) (t : Tile) : (s.setTile lt t).fab = s.fab := rfl
@[simp] theorem State.setTile_clk (s : State) (lt : Nat) (t : Tile) : (s.setTile lt t).clk = s.clk := rfl
@[simp] theorem State.setTile_flash (s : State) (lt : Nat) (t : Tile) : (s.setTile lt t).flash = s.flash := rfl
@[simp] theorem State.setTile_sec (s : State) (lt : Nat) (t : Tile) : (s.setTile lt t).sec = s.sec := rfl
@[simp] theorem State.setTile_mgt (s : State) (lt : Nat) (t : Tile) : (s.setTile lt t).mgt = s.mgt := rfl
@[simp] theorem State.setTile_mreg (s : State) (lt : Nat) (t : Tile) (o : Nat) : (s.setTile lt t).mreg o = s.mreg o := rfl
@[simp] theorem State.setTile_freg (s : State) (lt : Nat) (t : Tile) (x o : Nat) : (s.setTile lt t).freg x o = s.freg x o := rfl

/-! ### `modTile` -/

@[simp] theorem State.modTile_pending (s : State) (lt : Nat) (f : Tile → Tile) : (s.modTile lt f).pending = s.pending := rfl
@[simp] theorem State.modTile_fresh (s : State) (lt : Nat) (f : Tile → Tile) : (s.modTile lt f).fresh = s.fresh := rfl
@[simp] theorem State.modTile_aon (s : State) (lt : Nat) (f : Tile → Tile) : (s.modTile lt f).aon = s.aon := rfl
@[simp] theorem State.modTile_fcs (s : State) (lt : Nat) (f : Tile → Tile) : (s.modTile lt f).fcs = s.fcs := rfl
@[simp] theorem State.modTile_objs (s : State) (lt : Nat) (f : Tile → Tile) : (s.modTile lt f).objs = s.objs := rfl
@[simp] theorem State.modTile_groups (s : State) (lt : Nat) (f : Tile → Tile) : (s.modTile lt f).groups = s.groups := rfl
@[simp] theorem State.modTile_moduleId (s : State) (lt : Nat) (f : Tile → Tile) : (s.modTile lt f).moduleId = s.moduleId := rfl
@[simp] theorem State.modTile_gesso (s : State) (lt : Nat) (f : Tile → Tile) : (s.modTile lt f).gesso = s.gesso := rfl
@[simp] theorem State.modTile_mc (s : State) (lt : Nat) (f : Tile → Tile) : (s.modTile lt f).mc = s.mc := rfl
@[simp] theorem State.modTile_regions (s : State) (lt : Nat) (f : Tile → Tile) : (s.modTile lt f).regions = s.regions := rfl
@[simp] theorem State.modTile_mgmtCycles (s : State) (lt : Nat) (f : Tile → Tile) : (s.modTile lt f).mgmtCycles = s.mgmtCycles := rfl
@[simp] theorem State.modTile_haltGroups (s : State) (lt : Nat) (f : Tile → Tile) : (s.modTile lt f).haltGroups = s.haltGroups := rfl
@[simp] theorem State.modTile_tileGroups (s : State) (lt : Nat) (f : Tile → Tile) : (s.modTile lt f).tileGroups = s.tileGroups := rfl
@[simp] theorem State.modTile_net (s : State) (lt : Nat) (f : Tile → Tile) : (s.modTile lt f).net = s.net := rfl
@[simp] theorem State.modTile_replies (s : State) (lt : Nat) (f : Tile → Tile) : (s.modTile lt f).replies = s.replies := rfl
@[simp] theorem State.modTile_stepBarrier (s : State) (lt : Nat) (f : Tile → Tile) : (s.modTile lt f).stepBarrier = s.stepBarrier := rfl
@[simp] theorem State.modTile_mesh (s : State) (lt : Nat) (f : Tile → Tile) : (s.modTile lt f).mesh = s.mesh := rfl
@[simp] theorem State.modTile_redHeld (s : State) (lt : Nat) (f : Tile → Tile) : (s.modTile lt f).redHeld = s.redHeld := rfl
@[simp] theorem State.modTile_redChunks (s : State) (lt : Nat) (f : Tile → Tile) : (s.modTile lt f).redChunks = s.redChunks := rfl
@[simp] theorem State.modTile_redLead (s : State) (lt : Nat) (f : Tile → Tile) : (s.modTile lt f).redLead = s.redLead := rfl
@[simp] theorem State.modTile_upsets (s : State) (lt : Nat) (f : Tile → Tile) : (s.modTile lt f).upsets = s.upsets := rfl
@[simp] theorem State.modTile_fab (s : State) (lt : Nat) (f : Tile → Tile) : (s.modTile lt f).fab = s.fab := rfl
@[simp] theorem State.modTile_clk (s : State) (lt : Nat) (f : Tile → Tile) : (s.modTile lt f).clk = s.clk := rfl
@[simp] theorem State.modTile_flash (s : State) (lt : Nat) (f : Tile → Tile) : (s.modTile lt f).flash = s.flash := rfl
@[simp] theorem State.modTile_sec (s : State) (lt : Nat) (f : Tile → Tile) : (s.modTile lt f).sec = s.sec := rfl
@[simp] theorem State.modTile_mgt (s : State) (lt : Nat) (f : Tile → Tile) : (s.modTile lt f).mgt = s.mgt := rfl
@[simp] theorem State.modTile_mreg (s : State) (lt : Nat) (f : Tile → Tile) (o : Nat) : (s.modTile lt f).mreg o = s.mreg o := rfl
@[simp] theorem State.modTile_freg (s : State) (lt : Nat) (f : Tile → Tile) (x o : Nat) : (s.modTile lt f).freg x o = s.freg x o := rfl

/-! ### `setTreg` -/

@[simp] theorem State.setTreg_pending (s : State) (lt off : Nat) (v : Word) : (s.setTreg lt off v).pending = s.pending := rfl
@[simp] theorem State.setTreg_fresh (s : State) (lt off : Nat) (v : Word) : (s.setTreg lt off v).fresh = s.fresh := rfl
@[simp] theorem State.setTreg_aon (s : State) (lt off : Nat) (v : Word) : (s.setTreg lt off v).aon = s.aon := rfl
@[simp] theorem State.setTreg_fcs (s : State) (lt off : Nat) (v : Word) : (s.setTreg lt off v).fcs = s.fcs := rfl
@[simp] theorem State.setTreg_objs (s : State) (lt off : Nat) (v : Word) : (s.setTreg lt off v).objs = s.objs := rfl
@[simp] theorem State.setTreg_groups (s : State) (lt off : Nat) (v : Word) : (s.setTreg lt off v).groups = s.groups := rfl
@[simp] theorem State.setTreg_moduleId (s : State) (lt off : Nat) (v : Word) : (s.setTreg lt off v).moduleId = s.moduleId := rfl
@[simp] theorem State.setTreg_gesso (s : State) (lt off : Nat) (v : Word) : (s.setTreg lt off v).gesso = s.gesso := rfl
@[simp] theorem State.setTreg_mc (s : State) (lt off : Nat) (v : Word) : (s.setTreg lt off v).mc = s.mc := rfl
@[simp] theorem State.setTreg_regions (s : State) (lt off : Nat) (v : Word) : (s.setTreg lt off v).regions = s.regions := rfl
@[simp] theorem State.setTreg_mgmtCycles (s : State) (lt off : Nat) (v : Word) : (s.setTreg lt off v).mgmtCycles = s.mgmtCycles := rfl
@[simp] theorem State.setTreg_haltGroups (s : State) (lt off : Nat) (v : Word) : (s.setTreg lt off v).haltGroups = s.haltGroups := rfl
@[simp] theorem State.setTreg_tileGroups (s : State) (lt off : Nat) (v : Word) : (s.setTreg lt off v).tileGroups = s.tileGroups := rfl
@[simp] theorem State.setTreg_net (s : State) (lt off : Nat) (v : Word) : (s.setTreg lt off v).net = s.net := rfl
@[simp] theorem State.setTreg_replies (s : State) (lt off : Nat) (v : Word) : (s.setTreg lt off v).replies = s.replies := rfl
@[simp] theorem State.setTreg_stepBarrier (s : State) (lt off : Nat) (v : Word) : (s.setTreg lt off v).stepBarrier = s.stepBarrier := rfl
@[simp] theorem State.setTreg_mesh (s : State) (lt off : Nat) (v : Word) : (s.setTreg lt off v).mesh = s.mesh := rfl
@[simp] theorem State.setTreg_redHeld (s : State) (lt off : Nat) (v : Word) : (s.setTreg lt off v).redHeld = s.redHeld := rfl
@[simp] theorem State.setTreg_redChunks (s : State) (lt off : Nat) (v : Word) : (s.setTreg lt off v).redChunks = s.redChunks := rfl
@[simp] theorem State.setTreg_redLead (s : State) (lt off : Nat) (v : Word) : (s.setTreg lt off v).redLead = s.redLead := rfl
@[simp] theorem State.setTreg_upsets (s : State) (lt off : Nat) (v : Word) : (s.setTreg lt off v).upsets = s.upsets := rfl
@[simp] theorem State.setTreg_fab (s : State) (lt off : Nat) (v : Word) : (s.setTreg lt off v).fab = s.fab := rfl
@[simp] theorem State.setTreg_clk (s : State) (lt off : Nat) (v : Word) : (s.setTreg lt off v).clk = s.clk := rfl
@[simp] theorem State.setTreg_flash (s : State) (lt off : Nat) (v : Word) : (s.setTreg lt off v).flash = s.flash := rfl
@[simp] theorem State.setTreg_sec (s : State) (lt off : Nat) (v : Word) : (s.setTreg lt off v).sec = s.sec := rfl
@[simp] theorem State.setTreg_mgt (s : State) (lt off : Nat) (v : Word) : (s.setTreg lt off v).mgt = s.mgt := rfl
@[simp] theorem State.setTreg_mreg (s : State) (lt off : Nat) (v : Word) (o : Nat) : (s.setTreg lt off v).mreg o = s.mreg o := rfl
@[simp] theorem State.setTreg_freg (s : State) (lt off : Nat) (v : Word) (x o : Nat) : (s.setTreg lt off v).freg x o = s.freg x o := rfl

/-! ### `setTfld` -/

@[simp] theorem State.setTfld_pending (s : State) (lt off hi lo v : Nat) : (s.setTfld lt off hi lo v).pending = s.pending := rfl
@[simp] theorem State.setTfld_fresh (s : State) (lt off hi lo v : Nat) : (s.setTfld lt off hi lo v).fresh = s.fresh := rfl
@[simp] theorem State.setTfld_aon (s : State) (lt off hi lo v : Nat) : (s.setTfld lt off hi lo v).aon = s.aon := rfl
@[simp] theorem State.setTfld_fcs (s : State) (lt off hi lo v : Nat) : (s.setTfld lt off hi lo v).fcs = s.fcs := rfl
@[simp] theorem State.setTfld_objs (s : State) (lt off hi lo v : Nat) : (s.setTfld lt off hi lo v).objs = s.objs := rfl
@[simp] theorem State.setTfld_groups (s : State) (lt off hi lo v : Nat) : (s.setTfld lt off hi lo v).groups = s.groups := rfl
@[simp] theorem State.setTfld_moduleId (s : State) (lt off hi lo v : Nat) : (s.setTfld lt off hi lo v).moduleId = s.moduleId := rfl
@[simp] theorem State.setTfld_gesso (s : State) (lt off hi lo v : Nat) : (s.setTfld lt off hi lo v).gesso = s.gesso := rfl
@[simp] theorem State.setTfld_mc (s : State) (lt off hi lo v : Nat) : (s.setTfld lt off hi lo v).mc = s.mc := rfl
@[simp] theorem State.setTfld_regions (s : State) (lt off hi lo v : Nat) : (s.setTfld lt off hi lo v).regions = s.regions := rfl
@[simp] theorem State.setTfld_mgmtCycles (s : State) (lt off hi lo v : Nat) : (s.setTfld lt off hi lo v).mgmtCycles = s.mgmtCycles := rfl
@[simp] theorem State.setTfld_haltGroups (s : State) (lt off hi lo v : Nat) : (s.setTfld lt off hi lo v).haltGroups = s.haltGroups := rfl
@[simp] theorem State.setTfld_tileGroups (s : State) (lt off hi lo v : Nat) : (s.setTfld lt off hi lo v).tileGroups = s.tileGroups := rfl
@[simp] theorem State.setTfld_net (s : State) (lt off hi lo v : Nat) : (s.setTfld lt off hi lo v).net = s.net := rfl
@[simp] theorem State.setTfld_replies (s : State) (lt off hi lo v : Nat) : (s.setTfld lt off hi lo v).replies = s.replies := rfl
@[simp] theorem State.setTfld_stepBarrier (s : State) (lt off hi lo v : Nat) : (s.setTfld lt off hi lo v).stepBarrier = s.stepBarrier := rfl
@[simp] theorem State.setTfld_mesh (s : State) (lt off hi lo v : Nat) : (s.setTfld lt off hi lo v).mesh = s.mesh := rfl
@[simp] theorem State.setTfld_redHeld (s : State) (lt off hi lo v : Nat) : (s.setTfld lt off hi lo v).redHeld = s.redHeld := rfl
@[simp] theorem State.setTfld_redChunks (s : State) (lt off hi lo v : Nat) : (s.setTfld lt off hi lo v).redChunks = s.redChunks := rfl
@[simp] theorem State.setTfld_redLead (s : State) (lt off hi lo v : Nat) : (s.setTfld lt off hi lo v).redLead = s.redLead := rfl
@[simp] theorem State.setTfld_upsets (s : State) (lt off hi lo v : Nat) : (s.setTfld lt off hi lo v).upsets = s.upsets := rfl
@[simp] theorem State.setTfld_fab (s : State) (lt off hi lo v : Nat) : (s.setTfld lt off hi lo v).fab = s.fab := rfl
@[simp] theorem State.setTfld_clk (s : State) (lt off hi lo v : Nat) : (s.setTfld lt off hi lo v).clk = s.clk := rfl
@[simp] theorem State.setTfld_flash (s : State) (lt off hi lo v : Nat) : (s.setTfld lt off hi lo v).flash = s.flash := rfl
@[simp] theorem State.setTfld_sec (s : State) (lt off hi lo v : Nat) : (s.setTfld lt off hi lo v).sec = s.sec := rfl
@[simp] theorem State.setTfld_mgt (s : State) (lt off hi lo v : Nat) : (s.setTfld lt off hi lo v).mgt = s.mgt := rfl
@[simp] theorem State.setTfld_mreg (s : State) (lt off hi lo v : Nat) (o : Nat) : (s.setTfld lt off hi lo v).mreg o = s.mreg o := rfl
@[simp] theorem State.setTfld_freg (s : State) (lt off hi lo v : Nat) (x o : Nat) : (s.setTfld lt off hi lo v).freg x o = s.freg x o := rfl

/-! ### `setTbit` -/

@[simp] theorem State.setTbit_pending (s : State) (lt off i : Nat) (b : Bool) : (s.setTbit lt off i b).pending = s.pending := rfl
@[simp] theorem State.setTbit_fresh (s : State) (lt off i : Nat) (b : Bool) : (s.setTbit lt off i b).fresh = s.fresh := rfl
@[simp] theorem State.setTbit_aon (s : State) (lt off i : Nat) (b : Bool) : (s.setTbit lt off i b).aon = s.aon := rfl
@[simp] theorem State.setTbit_fcs (s : State) (lt off i : Nat) (b : Bool) : (s.setTbit lt off i b).fcs = s.fcs := rfl
@[simp] theorem State.setTbit_objs (s : State) (lt off i : Nat) (b : Bool) : (s.setTbit lt off i b).objs = s.objs := rfl
@[simp] theorem State.setTbit_groups (s : State) (lt off i : Nat) (b : Bool) : (s.setTbit lt off i b).groups = s.groups := rfl
@[simp] theorem State.setTbit_moduleId (s : State) (lt off i : Nat) (b : Bool) : (s.setTbit lt off i b).moduleId = s.moduleId := rfl
@[simp] theorem State.setTbit_gesso (s : State) (lt off i : Nat) (b : Bool) : (s.setTbit lt off i b).gesso = s.gesso := rfl
@[simp] theorem State.setTbit_mc (s : State) (lt off i : Nat) (b : Bool) : (s.setTbit lt off i b).mc = s.mc := rfl
@[simp] theorem State.setTbit_regions (s : State) (lt off i : Nat) (b : Bool) : (s.setTbit lt off i b).regions = s.regions := rfl
@[simp] theorem State.setTbit_mgmtCycles (s : State) (lt off i : Nat) (b : Bool) : (s.setTbit lt off i b).mgmtCycles = s.mgmtCycles := rfl
@[simp] theorem State.setTbit_haltGroups (s : State) (lt off i : Nat) (b : Bool) : (s.setTbit lt off i b).haltGroups = s.haltGroups := rfl
@[simp] theorem State.setTbit_tileGroups (s : State) (lt off i : Nat) (b : Bool) : (s.setTbit lt off i b).tileGroups = s.tileGroups := rfl
@[simp] theorem State.setTbit_net (s : State) (lt off i : Nat) (b : Bool) : (s.setTbit lt off i b).net = s.net := rfl
@[simp] theorem State.setTbit_replies (s : State) (lt off i : Nat) (b : Bool) : (s.setTbit lt off i b).replies = s.replies := rfl
@[simp] theorem State.setTbit_stepBarrier (s : State) (lt off i : Nat) (b : Bool) : (s.setTbit lt off i b).stepBarrier = s.stepBarrier := rfl
@[simp] theorem State.setTbit_mesh (s : State) (lt off i : Nat) (b : Bool) : (s.setTbit lt off i b).mesh = s.mesh := rfl
@[simp] theorem State.setTbit_redHeld (s : State) (lt off i : Nat) (b : Bool) : (s.setTbit lt off i b).redHeld = s.redHeld := rfl
@[simp] theorem State.setTbit_redChunks (s : State) (lt off i : Nat) (b : Bool) : (s.setTbit lt off i b).redChunks = s.redChunks := rfl
@[simp] theorem State.setTbit_redLead (s : State) (lt off i : Nat) (b : Bool) : (s.setTbit lt off i b).redLead = s.redLead := rfl
@[simp] theorem State.setTbit_upsets (s : State) (lt off i : Nat) (b : Bool) : (s.setTbit lt off i b).upsets = s.upsets := rfl
@[simp] theorem State.setTbit_fab (s : State) (lt off i : Nat) (b : Bool) : (s.setTbit lt off i b).fab = s.fab := rfl
@[simp] theorem State.setTbit_clk (s : State) (lt off i : Nat) (b : Bool) : (s.setTbit lt off i b).clk = s.clk := rfl
@[simp] theorem State.setTbit_flash (s : State) (lt off i : Nat) (b : Bool) : (s.setTbit lt off i b).flash = s.flash := rfl
@[simp] theorem State.setTbit_sec (s : State) (lt off i : Nat) (b : Bool) : (s.setTbit lt off i b).sec = s.sec := rfl
@[simp] theorem State.setTbit_mgt (s : State) (lt off i : Nat) (b : Bool) : (s.setTbit lt off i b).mgt = s.mgt := rfl
@[simp] theorem State.setTbit_mreg (s : State) (lt off i : Nat) (b : Bool) (o : Nat) : (s.setTbit lt off i b).mreg o = s.mreg o := rfl
@[simp] theorem State.setTbit_freg (s : State) (lt off i : Nat) (b : Bool) (x o : Nat) : (s.setTbit lt off i b).freg x o = s.freg x o := rfl

/-! ### `modTcc` -/

@[simp] theorem modTcc_pending (s : State) (lt : Nat) (f : Tcc → Tcc) : (modTcc s lt f).pending = s.pending := rfl
@[simp] theorem modTcc_fresh (s : State) (lt : Nat) (f : Tcc → Tcc) : (modTcc s lt f).fresh = s.fresh := rfl
@[simp] theorem modTcc_aon (s : State) (lt : Nat) (f : Tcc → Tcc) : (modTcc s lt f).aon = s.aon := rfl
@[simp] theorem modTcc_fcs (s : State) (lt : Nat) (f : Tcc → Tcc) : (modTcc s lt f).fcs = s.fcs := rfl
@[simp] theorem modTcc_objs (s : State) (lt : Nat) (f : Tcc → Tcc) : (modTcc s lt f).objs = s.objs := rfl
@[simp] theorem modTcc_groups (s : State) (lt : Nat) (f : Tcc → Tcc) : (modTcc s lt f).groups = s.groups := rfl
@[simp] theorem modTcc_moduleId (s : State) (lt : Nat) (f : Tcc → Tcc) : (modTcc s lt f).moduleId = s.moduleId := rfl
@[simp] theorem modTcc_gesso (s : State) (lt : Nat) (f : Tcc → Tcc) : (modTcc s lt f).gesso = s.gesso := rfl
@[simp] theorem modTcc_mc (s : State) (lt : Nat) (f : Tcc → Tcc) : (modTcc s lt f).mc = s.mc := rfl
@[simp] theorem modTcc_regions (s : State) (lt : Nat) (f : Tcc → Tcc) : (modTcc s lt f).regions = s.regions := rfl
@[simp] theorem modTcc_mgmtCycles (s : State) (lt : Nat) (f : Tcc → Tcc) : (modTcc s lt f).mgmtCycles = s.mgmtCycles := rfl
@[simp] theorem modTcc_haltGroups (s : State) (lt : Nat) (f : Tcc → Tcc) : (modTcc s lt f).haltGroups = s.haltGroups := rfl
@[simp] theorem modTcc_tileGroups (s : State) (lt : Nat) (f : Tcc → Tcc) : (modTcc s lt f).tileGroups = s.tileGroups := rfl
@[simp] theorem modTcc_net (s : State) (lt : Nat) (f : Tcc → Tcc) : (modTcc s lt f).net = s.net := rfl
@[simp] theorem modTcc_replies (s : State) (lt : Nat) (f : Tcc → Tcc) : (modTcc s lt f).replies = s.replies := rfl
@[simp] theorem modTcc_stepBarrier (s : State) (lt : Nat) (f : Tcc → Tcc) : (modTcc s lt f).stepBarrier = s.stepBarrier := rfl
@[simp] theorem modTcc_mesh (s : State) (lt : Nat) (f : Tcc → Tcc) : (modTcc s lt f).mesh = s.mesh := rfl
@[simp] theorem modTcc_redHeld (s : State) (lt : Nat) (f : Tcc → Tcc) : (modTcc s lt f).redHeld = s.redHeld := rfl
@[simp] theorem modTcc_redChunks (s : State) (lt : Nat) (f : Tcc → Tcc) : (modTcc s lt f).redChunks = s.redChunks := rfl
@[simp] theorem modTcc_redLead (s : State) (lt : Nat) (f : Tcc → Tcc) : (modTcc s lt f).redLead = s.redLead := rfl
@[simp] theorem modTcc_upsets (s : State) (lt : Nat) (f : Tcc → Tcc) : (modTcc s lt f).upsets = s.upsets := rfl
@[simp] theorem modTcc_fab (s : State) (lt : Nat) (f : Tcc → Tcc) : (modTcc s lt f).fab = s.fab := rfl
@[simp] theorem modTcc_clk (s : State) (lt : Nat) (f : Tcc → Tcc) : (modTcc s lt f).clk = s.clk := rfl
@[simp] theorem modTcc_flash (s : State) (lt : Nat) (f : Tcc → Tcc) : (modTcc s lt f).flash = s.flash := rfl
@[simp] theorem modTcc_sec (s : State) (lt : Nat) (f : Tcc → Tcc) : (modTcc s lt f).sec = s.sec := rfl
@[simp] theorem modTcc_mgt (s : State) (lt : Nat) (f : Tcc → Tcc) : (modTcc s lt f).mgt = s.mgt := rfl
@[simp] theorem modTcc_mreg (s : State) (lt : Nat) (f : Tcc → Tcc) (o : Nat) : (modTcc s lt f).mreg o = s.mreg o := rfl
@[simp] theorem modTcc_freg (s : State) (lt : Nat) (f : Tcc → Tcc) (x o : Nat) : (modTcc s lt f).freg x o = s.freg x o := rfl

/-! ### `modLane` -/

@[simp] theorem modLane_pending (s : State) (lt n : Nat) (f : LaneCore → LaneCore) : (modLane s lt n f).pending = s.pending := rfl
@[simp] theorem modLane_fresh (s : State) (lt n : Nat) (f : LaneCore → LaneCore) : (modLane s lt n f).fresh = s.fresh := rfl
@[simp] theorem modLane_aon (s : State) (lt n : Nat) (f : LaneCore → LaneCore) : (modLane s lt n f).aon = s.aon := rfl
@[simp] theorem modLane_fcs (s : State) (lt n : Nat) (f : LaneCore → LaneCore) : (modLane s lt n f).fcs = s.fcs := rfl
@[simp] theorem modLane_objs (s : State) (lt n : Nat) (f : LaneCore → LaneCore) : (modLane s lt n f).objs = s.objs := rfl
@[simp] theorem modLane_groups (s : State) (lt n : Nat) (f : LaneCore → LaneCore) : (modLane s lt n f).groups = s.groups := rfl
@[simp] theorem modLane_moduleId (s : State) (lt n : Nat) (f : LaneCore → LaneCore) : (modLane s lt n f).moduleId = s.moduleId := rfl
@[simp] theorem modLane_gesso (s : State) (lt n : Nat) (f : LaneCore → LaneCore) : (modLane s lt n f).gesso = s.gesso := rfl
@[simp] theorem modLane_mc (s : State) (lt n : Nat) (f : LaneCore → LaneCore) : (modLane s lt n f).mc = s.mc := rfl
@[simp] theorem modLane_regions (s : State) (lt n : Nat) (f : LaneCore → LaneCore) : (modLane s lt n f).regions = s.regions := rfl
@[simp] theorem modLane_mgmtCycles (s : State) (lt n : Nat) (f : LaneCore → LaneCore) : (modLane s lt n f).mgmtCycles = s.mgmtCycles := rfl
@[simp] theorem modLane_haltGroups (s : State) (lt n : Nat) (f : LaneCore → LaneCore) : (modLane s lt n f).haltGroups = s.haltGroups := rfl
@[simp] theorem modLane_tileGroups (s : State) (lt n : Nat) (f : LaneCore → LaneCore) : (modLane s lt n f).tileGroups = s.tileGroups := rfl
@[simp] theorem modLane_net (s : State) (lt n : Nat) (f : LaneCore → LaneCore) : (modLane s lt n f).net = s.net := rfl
@[simp] theorem modLane_replies (s : State) (lt n : Nat) (f : LaneCore → LaneCore) : (modLane s lt n f).replies = s.replies := rfl
@[simp] theorem modLane_stepBarrier (s : State) (lt n : Nat) (f : LaneCore → LaneCore) : (modLane s lt n f).stepBarrier = s.stepBarrier := rfl
@[simp] theorem modLane_mesh (s : State) (lt n : Nat) (f : LaneCore → LaneCore) : (modLane s lt n f).mesh = s.mesh := rfl
@[simp] theorem modLane_redHeld (s : State) (lt n : Nat) (f : LaneCore → LaneCore) : (modLane s lt n f).redHeld = s.redHeld := rfl
@[simp] theorem modLane_redChunks (s : State) (lt n : Nat) (f : LaneCore → LaneCore) : (modLane s lt n f).redChunks = s.redChunks := rfl
@[simp] theorem modLane_redLead (s : State) (lt n : Nat) (f : LaneCore → LaneCore) : (modLane s lt n f).redLead = s.redLead := rfl
@[simp] theorem modLane_upsets (s : State) (lt n : Nat) (f : LaneCore → LaneCore) : (modLane s lt n f).upsets = s.upsets := rfl
@[simp] theorem modLane_fab (s : State) (lt n : Nat) (f : LaneCore → LaneCore) : (modLane s lt n f).fab = s.fab := rfl
@[simp] theorem modLane_clk (s : State) (lt n : Nat) (f : LaneCore → LaneCore) : (modLane s lt n f).clk = s.clk := rfl
@[simp] theorem modLane_flash (s : State) (lt n : Nat) (f : LaneCore → LaneCore) : (modLane s lt n f).flash = s.flash := rfl
@[simp] theorem modLane_sec (s : State) (lt n : Nat) (f : LaneCore → LaneCore) : (modLane s lt n f).sec = s.sec := rfl
@[simp] theorem modLane_mgt (s : State) (lt n : Nat) (f : LaneCore → LaneCore) : (modLane s lt n f).mgt = s.mgt := rfl
@[simp] theorem modLane_mreg (s : State) (lt n : Nat) (f : LaneCore → LaneCore) (o : Nat) : (modLane s lt n f).mreg o = s.mreg o := rfl
@[simp] theorem modLane_freg (s : State) (lt n : Nat) (f : LaneCore → LaneCore) (x o : Nat) : (modLane s lt n f).freg x o = s.freg x o := rfl

/-! ### `modFc` -/

@[simp] theorem State.modFc_pending (s : State) (f : Nat) (g : Fc → Fc) : (s.modFc f g).pending = s.pending := rfl
@[simp] theorem State.modFc_fresh (s : State) (f : Nat) (g : Fc → Fc) : (s.modFc f g).fresh = s.fresh := rfl
@[simp] theorem State.modFc_aon (s : State) (f : Nat) (g : Fc → Fc) : (s.modFc f g).aon = s.aon := rfl
@[simp] theorem State.modFc_tiles (s : State) (f : Nat) (g : Fc → Fc) : (s.modFc f g).tiles = s.tiles := rfl
@[simp] theorem State.modFc_objs (s : State) (f : Nat) (g : Fc → Fc) : (s.modFc f g).objs = s.objs := rfl
@[simp] theorem State.modFc_groups (s : State) (f : Nat) (g : Fc → Fc) : (s.modFc f g).groups = s.groups := rfl
@[simp] theorem State.modFc_moduleId (s : State) (f : Nat) (g : Fc → Fc) : (s.modFc f g).moduleId = s.moduleId := rfl
@[simp] theorem State.modFc_gesso (s : State) (f : Nat) (g : Fc → Fc) : (s.modFc f g).gesso = s.gesso := rfl
@[simp] theorem State.modFc_mc (s : State) (f : Nat) (g : Fc → Fc) : (s.modFc f g).mc = s.mc := rfl
@[simp] theorem State.modFc_regions (s : State) (f : Nat) (g : Fc → Fc) : (s.modFc f g).regions = s.regions := rfl
@[simp] theorem State.modFc_mgmtCycles (s : State) (f : Nat) (g : Fc → Fc) : (s.modFc f g).mgmtCycles = s.mgmtCycles := rfl
@[simp] theorem State.modFc_haltGroups (s : State) (f : Nat) (g : Fc → Fc) : (s.modFc f g).haltGroups = s.haltGroups := rfl
@[simp] theorem State.modFc_tileGroups (s : State) (f : Nat) (g : Fc → Fc) : (s.modFc f g).tileGroups = s.tileGroups := rfl
@[simp] theorem State.modFc_net (s : State) (f : Nat) (g : Fc → Fc) : (s.modFc f g).net = s.net := rfl
@[simp] theorem State.modFc_replies (s : State) (f : Nat) (g : Fc → Fc) : (s.modFc f g).replies = s.replies := rfl
@[simp] theorem State.modFc_stepBarrier (s : State) (f : Nat) (g : Fc → Fc) : (s.modFc f g).stepBarrier = s.stepBarrier := rfl
@[simp] theorem State.modFc_mesh (s : State) (f : Nat) (g : Fc → Fc) : (s.modFc f g).mesh = s.mesh := rfl
@[simp] theorem State.modFc_redHeld (s : State) (f : Nat) (g : Fc → Fc) : (s.modFc f g).redHeld = s.redHeld := rfl
@[simp] theorem State.modFc_redChunks (s : State) (f : Nat) (g : Fc → Fc) : (s.modFc f g).redChunks = s.redChunks := rfl
@[simp] theorem State.modFc_redLead (s : State) (f : Nat) (g : Fc → Fc) : (s.modFc f g).redLead = s.redLead := rfl
@[simp] theorem State.modFc_upsets (s : State) (f : Nat) (g : Fc → Fc) : (s.modFc f g).upsets = s.upsets := rfl
@[simp] theorem State.modFc_fab (s : State) (f : Nat) (g : Fc → Fc) : (s.modFc f g).fab = s.fab := rfl
@[simp] theorem State.modFc_clk (s : State) (f : Nat) (g : Fc → Fc) : (s.modFc f g).clk = s.clk := rfl
@[simp] theorem State.modFc_flash (s : State) (f : Nat) (g : Fc → Fc) : (s.modFc f g).flash = s.flash := rfl
@[simp] theorem State.modFc_sec (s : State) (f : Nat) (g : Fc → Fc) : (s.modFc f g).sec = s.sec := rfl
@[simp] theorem State.modFc_mgt (s : State) (f : Nat) (g : Fc → Fc) : (s.modFc f g).mgt = s.mgt := rfl
@[simp] theorem State.modFc_tile (s : State) (f : Nat) (g : Fc → Fc) (x : Nat) : (s.modFc f g).tile x = s.tile x := rfl
@[simp] theorem State.modFc_treg (s : State) (f : Nat) (g : Fc → Fc) (x o : Nat) : (s.modFc f g).treg x o = s.treg x o := rfl
@[simp] theorem State.modFc_mreg (s : State) (f : Nat) (g : Fc → Fc) (o : Nat) : (s.modFc f g).mreg o = s.mreg o := rfl

/-! ### `setFreg` -/

@[simp] theorem State.setFreg_pending (s : State) (f off : Nat) (v : Word) : (s.setFreg f off v).pending = s.pending := rfl
@[simp] theorem State.setFreg_fresh (s : State) (f off : Nat) (v : Word) : (s.setFreg f off v).fresh = s.fresh := rfl
@[simp] theorem State.setFreg_aon (s : State) (f off : Nat) (v : Word) : (s.setFreg f off v).aon = s.aon := rfl
@[simp] theorem State.setFreg_tiles (s : State) (f off : Nat) (v : Word) : (s.setFreg f off v).tiles = s.tiles := rfl
@[simp] theorem State.setFreg_objs (s : State) (f off : Nat) (v : Word) : (s.setFreg f off v).objs = s.objs := rfl
@[simp] theorem State.setFreg_groups (s : State) (f off : Nat) (v : Word) : (s.setFreg f off v).groups = s.groups := rfl
@[simp] theorem State.setFreg_moduleId (s : State) (f off : Nat) (v : Word) : (s.setFreg f off v).moduleId = s.moduleId := rfl
@[simp] theorem State.setFreg_gesso (s : State) (f off : Nat) (v : Word) : (s.setFreg f off v).gesso = s.gesso := rfl
@[simp] theorem State.setFreg_mc (s : State) (f off : Nat) (v : Word) : (s.setFreg f off v).mc = s.mc := rfl
@[simp] theorem State.setFreg_regions (s : State) (f off : Nat) (v : Word) : (s.setFreg f off v).regions = s.regions := rfl
@[simp] theorem State.setFreg_mgmtCycles (s : State) (f off : Nat) (v : Word) : (s.setFreg f off v).mgmtCycles = s.mgmtCycles := rfl
@[simp] theorem State.setFreg_haltGroups (s : State) (f off : Nat) (v : Word) : (s.setFreg f off v).haltGroups = s.haltGroups := rfl
@[simp] theorem State.setFreg_tileGroups (s : State) (f off : Nat) (v : Word) : (s.setFreg f off v).tileGroups = s.tileGroups := rfl
@[simp] theorem State.setFreg_net (s : State) (f off : Nat) (v : Word) : (s.setFreg f off v).net = s.net := rfl
@[simp] theorem State.setFreg_replies (s : State) (f off : Nat) (v : Word) : (s.setFreg f off v).replies = s.replies := rfl
@[simp] theorem State.setFreg_stepBarrier (s : State) (f off : Nat) (v : Word) : (s.setFreg f off v).stepBarrier = s.stepBarrier := rfl
@[simp] theorem State.setFreg_mesh (s : State) (f off : Nat) (v : Word) : (s.setFreg f off v).mesh = s.mesh := rfl
@[simp] theorem State.setFreg_redHeld (s : State) (f off : Nat) (v : Word) : (s.setFreg f off v).redHeld = s.redHeld := rfl
@[simp] theorem State.setFreg_redChunks (s : State) (f off : Nat) (v : Word) : (s.setFreg f off v).redChunks = s.redChunks := rfl
@[simp] theorem State.setFreg_redLead (s : State) (f off : Nat) (v : Word) : (s.setFreg f off v).redLead = s.redLead := rfl
@[simp] theorem State.setFreg_upsets (s : State) (f off : Nat) (v : Word) : (s.setFreg f off v).upsets = s.upsets := rfl
@[simp] theorem State.setFreg_fab (s : State) (f off : Nat) (v : Word) : (s.setFreg f off v).fab = s.fab := rfl
@[simp] theorem State.setFreg_clk (s : State) (f off : Nat) (v : Word) : (s.setFreg f off v).clk = s.clk := rfl
@[simp] theorem State.setFreg_flash (s : State) (f off : Nat) (v : Word) : (s.setFreg f off v).flash = s.flash := rfl
@[simp] theorem State.setFreg_sec (s : State) (f off : Nat) (v : Word) : (s.setFreg f off v).sec = s.sec := rfl
@[simp] theorem State.setFreg_mgt (s : State) (f off : Nat) (v : Word) : (s.setFreg f off v).mgt = s.mgt := rfl
@[simp] theorem State.setFreg_tile (s : State) (f off : Nat) (v : Word) (x : Nat) : (s.setFreg f off v).tile x = s.tile x := rfl
@[simp] theorem State.setFreg_treg (s : State) (f off : Nat) (v : Word) (x o : Nat) : (s.setFreg f off v).treg x o = s.treg x o := rfl
@[simp] theorem State.setFreg_mreg (s : State) (f off : Nat) (v : Word) (o : Nat) : (s.setFreg f off v).mreg o = s.mreg o := rfl

/-! ### `setFfld` -/

@[simp] theorem State.setFfld_pending (s : State) (f off hi lo v : Nat) : (s.setFfld f off hi lo v).pending = s.pending := rfl
@[simp] theorem State.setFfld_fresh (s : State) (f off hi lo v : Nat) : (s.setFfld f off hi lo v).fresh = s.fresh := rfl
@[simp] theorem State.setFfld_aon (s : State) (f off hi lo v : Nat) : (s.setFfld f off hi lo v).aon = s.aon := rfl
@[simp] theorem State.setFfld_tiles (s : State) (f off hi lo v : Nat) : (s.setFfld f off hi lo v).tiles = s.tiles := rfl
@[simp] theorem State.setFfld_objs (s : State) (f off hi lo v : Nat) : (s.setFfld f off hi lo v).objs = s.objs := rfl
@[simp] theorem State.setFfld_groups (s : State) (f off hi lo v : Nat) : (s.setFfld f off hi lo v).groups = s.groups := rfl
@[simp] theorem State.setFfld_moduleId (s : State) (f off hi lo v : Nat) : (s.setFfld f off hi lo v).moduleId = s.moduleId := rfl
@[simp] theorem State.setFfld_gesso (s : State) (f off hi lo v : Nat) : (s.setFfld f off hi lo v).gesso = s.gesso := rfl
@[simp] theorem State.setFfld_mc (s : State) (f off hi lo v : Nat) : (s.setFfld f off hi lo v).mc = s.mc := rfl
@[simp] theorem State.setFfld_regions (s : State) (f off hi lo v : Nat) : (s.setFfld f off hi lo v).regions = s.regions := rfl
@[simp] theorem State.setFfld_mgmtCycles (s : State) (f off hi lo v : Nat) : (s.setFfld f off hi lo v).mgmtCycles = s.mgmtCycles := rfl
@[simp] theorem State.setFfld_haltGroups (s : State) (f off hi lo v : Nat) : (s.setFfld f off hi lo v).haltGroups = s.haltGroups := rfl
@[simp] theorem State.setFfld_tileGroups (s : State) (f off hi lo v : Nat) : (s.setFfld f off hi lo v).tileGroups = s.tileGroups := rfl
@[simp] theorem State.setFfld_net (s : State) (f off hi lo v : Nat) : (s.setFfld f off hi lo v).net = s.net := rfl
@[simp] theorem State.setFfld_replies (s : State) (f off hi lo v : Nat) : (s.setFfld f off hi lo v).replies = s.replies := rfl
@[simp] theorem State.setFfld_stepBarrier (s : State) (f off hi lo v : Nat) : (s.setFfld f off hi lo v).stepBarrier = s.stepBarrier := rfl
@[simp] theorem State.setFfld_mesh (s : State) (f off hi lo v : Nat) : (s.setFfld f off hi lo v).mesh = s.mesh := rfl
@[simp] theorem State.setFfld_redHeld (s : State) (f off hi lo v : Nat) : (s.setFfld f off hi lo v).redHeld = s.redHeld := rfl
@[simp] theorem State.setFfld_redChunks (s : State) (f off hi lo v : Nat) : (s.setFfld f off hi lo v).redChunks = s.redChunks := rfl
@[simp] theorem State.setFfld_redLead (s : State) (f off hi lo v : Nat) : (s.setFfld f off hi lo v).redLead = s.redLead := rfl
@[simp] theorem State.setFfld_upsets (s : State) (f off hi lo v : Nat) : (s.setFfld f off hi lo v).upsets = s.upsets := rfl
@[simp] theorem State.setFfld_fab (s : State) (f off hi lo v : Nat) : (s.setFfld f off hi lo v).fab = s.fab := rfl
@[simp] theorem State.setFfld_clk (s : State) (f off hi lo v : Nat) : (s.setFfld f off hi lo v).clk = s.clk := rfl
@[simp] theorem State.setFfld_flash (s : State) (f off hi lo v : Nat) : (s.setFfld f off hi lo v).flash = s.flash := rfl
@[simp] theorem State.setFfld_sec (s : State) (f off hi lo v : Nat) : (s.setFfld f off hi lo v).sec = s.sec := rfl
@[simp] theorem State.setFfld_mgt (s : State) (f off hi lo v : Nat) : (s.setFfld f off hi lo v).mgt = s.mgt := rfl
@[simp] theorem State.setFfld_tile (s : State) (f off hi lo v : Nat) (x : Nat) : (s.setFfld f off hi lo v).tile x = s.tile x := rfl
@[simp] theorem State.setFfld_treg (s : State) (f off hi lo v : Nat) (x o : Nat) : (s.setFfld f off hi lo v).treg x o = s.treg x o := rfl
@[simp] theorem State.setFfld_mreg (s : State) (f off hi lo v : Nat) (o : Nat) : (s.setFfld f off hi lo v).mreg o = s.mreg o := rfl

/-! ### `setMreg` -/

@[simp] theorem State.setMreg_pending (s : State) (off : Nat) (v : Word) : (s.setMreg off v).pending = s.pending := rfl
@[simp] theorem State.setMreg_fresh (s : State) (off : Nat) (v : Word) : (s.setMreg off v).fresh = s.fresh := rfl
@[simp] theorem State.setMreg_aon (s : State) (off : Nat) (v : Word) : (s.setMreg off v).aon = s.aon := rfl
@[simp] theorem State.setMreg_tiles (s : State) (off : Nat) (v : Word) : (s.setMreg off v).tiles = s.tiles := rfl
@[simp] theorem State.setMreg_fcs (s : State) (off : Nat) (v : Word) : (s.setMreg off v).fcs = s.fcs := rfl
@[simp] theorem State.setMreg_objs (s : State) (off : Nat) (v : Word) : (s.setMreg off v).objs = s.objs := rfl
@[simp] theorem State.setMreg_groups (s : State) (off : Nat) (v : Word) : (s.setMreg off v).groups = s.groups := rfl
@[simp] theorem State.setMreg_moduleId (s : State) (off : Nat) (v : Word) : (s.setMreg off v).moduleId = s.moduleId := rfl
@[simp] theorem State.setMreg_gesso (s : State) (off : Nat) (v : Word) : (s.setMreg off v).gesso = s.gesso := rfl
@[simp] theorem State.setMreg_regions (s : State) (off : Nat) (v : Word) : (s.setMreg off v).regions = s.regions := rfl
@[simp] theorem State.setMreg_mgmtCycles (s : State) (off : Nat) (v : Word) : (s.setMreg off v).mgmtCycles = s.mgmtCycles := rfl
@[simp] theorem State.setMreg_haltGroups (s : State) (off : Nat) (v : Word) : (s.setMreg off v).haltGroups = s.haltGroups := rfl
@[simp] theorem State.setMreg_tileGroups (s : State) (off : Nat) (v : Word) : (s.setMreg off v).tileGroups = s.tileGroups := rfl
@[simp] theorem State.setMreg_net (s : State) (off : Nat) (v : Word) : (s.setMreg off v).net = s.net := rfl
@[simp] theorem State.setMreg_replies (s : State) (off : Nat) (v : Word) : (s.setMreg off v).replies = s.replies := rfl
@[simp] theorem State.setMreg_stepBarrier (s : State) (off : Nat) (v : Word) : (s.setMreg off v).stepBarrier = s.stepBarrier := rfl
@[simp] theorem State.setMreg_mesh (s : State) (off : Nat) (v : Word) : (s.setMreg off v).mesh = s.mesh := rfl
@[simp] theorem State.setMreg_redHeld (s : State) (off : Nat) (v : Word) : (s.setMreg off v).redHeld = s.redHeld := rfl
@[simp] theorem State.setMreg_redChunks (s : State) (off : Nat) (v : Word) : (s.setMreg off v).redChunks = s.redChunks := rfl
@[simp] theorem State.setMreg_redLead (s : State) (off : Nat) (v : Word) : (s.setMreg off v).redLead = s.redLead := rfl
@[simp] theorem State.setMreg_upsets (s : State) (off : Nat) (v : Word) : (s.setMreg off v).upsets = s.upsets := rfl
@[simp] theorem State.setMreg_fab (s : State) (off : Nat) (v : Word) : (s.setMreg off v).fab = s.fab := rfl
@[simp] theorem State.setMreg_clk (s : State) (off : Nat) (v : Word) : (s.setMreg off v).clk = s.clk := rfl
@[simp] theorem State.setMreg_flash (s : State) (off : Nat) (v : Word) : (s.setMreg off v).flash = s.flash := rfl
@[simp] theorem State.setMreg_sec (s : State) (off : Nat) (v : Word) : (s.setMreg off v).sec = s.sec := rfl
@[simp] theorem State.setMreg_mgt (s : State) (off : Nat) (v : Word) : (s.setMreg off v).mgt = s.mgt := rfl
@[simp] theorem State.setMreg_tile (s : State) (off : Nat) (v : Word) (x : Nat) : (s.setMreg off v).tile x = s.tile x := rfl
@[simp] theorem State.setMreg_treg (s : State) (off : Nat) (v : Word) (x o : Nat) : (s.setMreg off v).treg x o = s.treg x o := rfl
@[simp] theorem State.setMreg_freg (s : State) (off : Nat) (v : Word) (x o : Nat) : (s.setMreg off v).freg x o = s.freg x o := rfl

/-! ### `setMfld` -/

@[simp] theorem State.setMfld_pending (s : State) (off hi lo v : Nat) : (s.setMfld off hi lo v).pending = s.pending := rfl
@[simp] theorem State.setMfld_fresh (s : State) (off hi lo v : Nat) : (s.setMfld off hi lo v).fresh = s.fresh := rfl
@[simp] theorem State.setMfld_aon (s : State) (off hi lo v : Nat) : (s.setMfld off hi lo v).aon = s.aon := rfl
@[simp] theorem State.setMfld_tiles (s : State) (off hi lo v : Nat) : (s.setMfld off hi lo v).tiles = s.tiles := rfl
@[simp] theorem State.setMfld_fcs (s : State) (off hi lo v : Nat) : (s.setMfld off hi lo v).fcs = s.fcs := rfl
@[simp] theorem State.setMfld_objs (s : State) (off hi lo v : Nat) : (s.setMfld off hi lo v).objs = s.objs := rfl
@[simp] theorem State.setMfld_groups (s : State) (off hi lo v : Nat) : (s.setMfld off hi lo v).groups = s.groups := rfl
@[simp] theorem State.setMfld_moduleId (s : State) (off hi lo v : Nat) : (s.setMfld off hi lo v).moduleId = s.moduleId := rfl
@[simp] theorem State.setMfld_gesso (s : State) (off hi lo v : Nat) : (s.setMfld off hi lo v).gesso = s.gesso := rfl
@[simp] theorem State.setMfld_regions (s : State) (off hi lo v : Nat) : (s.setMfld off hi lo v).regions = s.regions := rfl
@[simp] theorem State.setMfld_mgmtCycles (s : State) (off hi lo v : Nat) : (s.setMfld off hi lo v).mgmtCycles = s.mgmtCycles := rfl
@[simp] theorem State.setMfld_haltGroups (s : State) (off hi lo v : Nat) : (s.setMfld off hi lo v).haltGroups = s.haltGroups := rfl
@[simp] theorem State.setMfld_tileGroups (s : State) (off hi lo v : Nat) : (s.setMfld off hi lo v).tileGroups = s.tileGroups := rfl
@[simp] theorem State.setMfld_net (s : State) (off hi lo v : Nat) : (s.setMfld off hi lo v).net = s.net := rfl
@[simp] theorem State.setMfld_replies (s : State) (off hi lo v : Nat) : (s.setMfld off hi lo v).replies = s.replies := rfl
@[simp] theorem State.setMfld_stepBarrier (s : State) (off hi lo v : Nat) : (s.setMfld off hi lo v).stepBarrier = s.stepBarrier := rfl
@[simp] theorem State.setMfld_mesh (s : State) (off hi lo v : Nat) : (s.setMfld off hi lo v).mesh = s.mesh := rfl
@[simp] theorem State.setMfld_redHeld (s : State) (off hi lo v : Nat) : (s.setMfld off hi lo v).redHeld = s.redHeld := rfl
@[simp] theorem State.setMfld_redChunks (s : State) (off hi lo v : Nat) : (s.setMfld off hi lo v).redChunks = s.redChunks := rfl
@[simp] theorem State.setMfld_redLead (s : State) (off hi lo v : Nat) : (s.setMfld off hi lo v).redLead = s.redLead := rfl
@[simp] theorem State.setMfld_upsets (s : State) (off hi lo v : Nat) : (s.setMfld off hi lo v).upsets = s.upsets := rfl
@[simp] theorem State.setMfld_fab (s : State) (off hi lo v : Nat) : (s.setMfld off hi lo v).fab = s.fab := rfl
@[simp] theorem State.setMfld_clk (s : State) (off hi lo v : Nat) : (s.setMfld off hi lo v).clk = s.clk := rfl
@[simp] theorem State.setMfld_flash (s : State) (off hi lo v : Nat) : (s.setMfld off hi lo v).flash = s.flash := rfl
@[simp] theorem State.setMfld_sec (s : State) (off hi lo v : Nat) : (s.setMfld off hi lo v).sec = s.sec := rfl
@[simp] theorem State.setMfld_mgt (s : State) (off hi lo v : Nat) : (s.setMfld off hi lo v).mgt = s.mgt := rfl
@[simp] theorem State.setMfld_tile (s : State) (off hi lo v : Nat) (x : Nat) : (s.setMfld off hi lo v).tile x = s.tile x := rfl
@[simp] theorem State.setMfld_treg (s : State) (off hi lo v : Nat) (x o : Nat) : (s.setMfld off hi lo v).treg x o = s.treg x o := rfl
@[simp] theorem State.setMfld_freg (s : State) (off hi lo v : Nat) (x o : Nat) : (s.setMfld off hi lo v).freg x o = s.freg x o := rfl

/-! ### `drawn` -/

@[simp] theorem State.drawn_pending (s : State) : s.drawn.pending = s.pending := rfl
@[simp] theorem State.drawn_aon (s : State) : s.drawn.aon = s.aon := rfl
@[simp] theorem State.drawn_tiles (s : State) : s.drawn.tiles = s.tiles := rfl
@[simp] theorem State.drawn_fcs (s : State) : s.drawn.fcs = s.fcs := rfl
@[simp] theorem State.drawn_objs (s : State) : s.drawn.objs = s.objs := rfl
@[simp] theorem State.drawn_groups (s : State) : s.drawn.groups = s.groups := rfl
@[simp] theorem State.drawn_moduleId (s : State) : s.drawn.moduleId = s.moduleId := rfl
@[simp] theorem State.drawn_gesso (s : State) : s.drawn.gesso = s.gesso := rfl
@[simp] theorem State.drawn_mc (s : State) : s.drawn.mc = s.mc := rfl
@[simp] theorem State.drawn_regions (s : State) : s.drawn.regions = s.regions := rfl
@[simp] theorem State.drawn_mgmtCycles (s : State) : s.drawn.mgmtCycles = s.mgmtCycles := rfl
@[simp] theorem State.drawn_haltGroups (s : State) : s.drawn.haltGroups = s.haltGroups := rfl
@[simp] theorem State.drawn_tileGroups (s : State) : s.drawn.tileGroups = s.tileGroups := rfl
@[simp] theorem State.drawn_net (s : State) : s.drawn.net = s.net := rfl
@[simp] theorem State.drawn_replies (s : State) : s.drawn.replies = s.replies := rfl
@[simp] theorem State.drawn_stepBarrier (s : State) : s.drawn.stepBarrier = s.stepBarrier := rfl
@[simp] theorem State.drawn_mesh (s : State) : s.drawn.mesh = s.mesh := rfl
@[simp] theorem State.drawn_redHeld (s : State) : s.drawn.redHeld = s.redHeld := rfl
@[simp] theorem State.drawn_redChunks (s : State) : s.drawn.redChunks = s.redChunks := rfl
@[simp] theorem State.drawn_redLead (s : State) : s.drawn.redLead = s.redLead := rfl
@[simp] theorem State.drawn_upsets (s : State) : s.drawn.upsets = s.upsets := rfl
@[simp] theorem State.drawn_fab (s : State) : s.drawn.fab = s.fab := rfl
@[simp] theorem State.drawn_clk (s : State) : s.drawn.clk = s.clk := rfl
@[simp] theorem State.drawn_flash (s : State) : s.drawn.flash = s.flash := rfl
@[simp] theorem State.drawn_sec (s : State) : s.drawn.sec = s.sec := rfl
@[simp] theorem State.drawn_mgt (s : State) : s.drawn.mgt = s.mgt := rfl
@[simp] theorem State.drawn_tile (s : State) (x : Nat) : s.drawn.tile x = s.tile x := rfl
@[simp] theorem State.drawn_treg (s : State) (x o : Nat) : s.drawn.treg x o = s.treg x o := rfl
@[simp] theorem State.drawn_mreg (s : State) (o : Nat) : s.drawn.mreg o = s.mreg o := rfl
@[simp] theorem State.drawn_freg (s : State) (x o : Nat) : s.drawn.freg x o = s.freg x o := rfl

/-! ### Tiles -/

theorem State.tile_setTile (s : State) (lt : Nat) (t : Tile) (x : Nat) : (s.setTile lt t).tile x = if x = lt then t else s.tile x := by
  simp [State.setTile, State.tile, kvGet_kvSet]

@[simp] theorem State.tile_setTile_self (s : State) (lt : Nat) (t : Tile) : (s.setTile lt t).tile lt = t := by
  simp [State.tile_setTile]

theorem State.tile_modTile (s : State) (lt : Nat) (f : Tile → Tile) (x : Nat) :
    (s.modTile lt f).tile x = if x = lt then f (s.tile lt) else s.tile x := by
  simp [State.modTile, State.tile_setTile]

@[simp] theorem State.tile_modTile_self (s : State) (lt : Nat) (f : Tile → Tile) : (s.modTile lt f).tile lt = f (s.tile lt) := by
  simp [State.tile_modTile]

theorem State.tile_modTile_ne (s : State) {lt x : Nat} (f : Tile → Tile) (h : x ≠ lt) : (s.modTile lt f).tile x = s.tile x := by
  simp [State.tile_modTile, h]

theorem tile_modTcc (s : State) (lt : Nat) (f : Tcc → Tcc) (x : Nat) :
    (modTcc s lt f).tile x = if x = lt then { s.tile lt with tcc := f (s.tile lt).tcc } else s.tile x := by
  simp [modTcc, State.tile_modTile]

theorem tile_modLane (s : State) (lt n : Nat) (f : LaneCore → LaneCore) (x : Nat) :
    (modLane s lt n f).tile x = if x = lt then { s.tile lt with lanes := kvSet (s.tile lt).lanes n (f ((s.tile lt).lane n)) } else s.tile x := by
  simp [modLane, State.tile_modTile]

/-! ### Register words -/

theorem RegFile.get_kvSet (rows : List RegRow) (r : RegFile) (off o : Nat) (v : Word) :
    RegFile.get rows (kvSet r off v) o = if o = off then v else RegFile.get rows r o := by
  unfold RegFile.get
  rw [kvFind_kvSet]
  by_cases h : o = off <;> simp [h]

theorem State.treg_setTreg (s : State) (lt off : Nat) (v : Word) (x o : Nat) :
    (s.setTreg lt off v).treg x o = if x = lt ∧ o = off then v else s.treg x o := by
  by_cases h : x = lt
  · subst h; simp [State.treg, State.setTreg, RegFile.get_kvSet]
  · simp [State.treg, State.setTreg, State.tile_modTile, h]

@[simp] theorem State.treg_setTreg_self (s : State) (lt off : Nat) (v : Word) : (s.setTreg lt off v).treg lt off = v := by
  simp [State.treg_setTreg]

theorem State.mreg_setMreg (s : State) (off : Nat) (v : Word) (o : Nat) :
    (s.setMreg off v).mreg o = if o = off then v else s.mreg o := by
  simp [State.mreg, State.setMreg, RegFile.get_kvSet]

@[simp] theorem State.mreg_setMreg_self (s : State) (off : Nat) (v : Word) : (s.setMreg off v).mreg off = v := by
  simp [State.mreg_setMreg]

theorem State.freg_setFreg (s : State) (f off : Nat) (v : Word) (x o : Nat) :
    (s.setFreg f off v).freg x o = if x = f ∧ o = off then v else s.freg x o := by
  by_cases h : x = f
  · subst h; simp [State.freg, State.setFreg, State.modFc, State.fc, RegFile.get_kvSet]
  · simp [State.freg, State.setFreg, State.modFc, State.fc, kvGet_kvSet, h]

@[simp] theorem State.freg_setFreg_self (s : State) (f off : Nat) (v : Word) : (s.setFreg f off v).freg f off = v := by
  simp [State.freg_setFreg]

/-! ### What a register write leaves of a tile -/

@[simp] theorem modTcc_tile_regs (s : State) (lt : Nat) (g : Tcc → Tcc) (x : Nat) : ((modTcc s lt g).tile x).regs = (s.tile x).regs := by
  rw [tile_modTcc]; split
  · next h => rw [h]
  · rfl
@[simp] theorem modLane_tile_regs (s : State) (lt n : Nat) (g : LaneCore → LaneCore) (x : Nat) : ((modLane s lt n g).tile x).regs = (s.tile x).regs := by
  rw [tile_modLane]; split
  · next h => rw [h]
  · rfl
@[simp] theorem State.setTreg_tile_tcc (s : State) (lt off : Nat) (v : Word) (x : Nat) : ((s.setTreg lt off v).tile x).tcc = (s.tile x).tcc := by
  rw [State.setTreg, State.tile_modTile]; split
  · next h => rw [h]
  · rfl
@[simp] theorem State.setTfld_tile_tcc (s : State) (lt off hi lo v : Nat) (x : Nat) : ((s.setTfld lt off hi lo v).tile x).tcc = (s.tile x).tcc := State.setTreg_tile_tcc ..
@[simp] theorem State.setTbit_tile_tcc (s : State) (lt off i : Nat) (b : Bool) (x : Nat) : ((s.setTbit lt off i b).tile x).tcc = (s.tile x).tcc := State.setTreg_tile_tcc ..
@[simp] theorem modLane_tile_tcc (s : State) (lt n : Nat) (g : LaneCore → LaneCore) (x : Nat) : ((modLane s lt n g).tile x).tcc = (s.tile x).tcc := by
  rw [tile_modLane]; split
  · next h => rw [h]
  · rfl
@[simp] theorem State.setTreg_tile_lanes (s : State) (lt off : Nat) (v : Word) (x : Nat) : ((s.setTreg lt off v).tile x).lanes = (s.tile x).lanes := by
  rw [State.setTreg, State.tile_modTile]; split
  · next h => rw [h]
  · rfl
@[simp] theorem State.setTfld_tile_lanes (s : State) (lt off hi lo v : Nat) (x : Nat) : ((s.setTfld lt off hi lo v).tile x).lanes = (s.tile x).lanes := State.setTreg_tile_lanes ..
@[simp] theorem State.setTbit_tile_lanes (s : State) (lt off i : Nat) (b : Bool) (x : Nat) : ((s.setTbit lt off i b).tile x).lanes = (s.tile x).lanes := State.setTreg_tile_lanes ..
@[simp] theorem modTcc_tile_lanes (s : State) (lt : Nat) (g : Tcc → Tcc) (x : Nat) : ((modTcc s lt g).tile x).lanes = (s.tile x).lanes := by
  rw [tile_modTcc]; split
  · next h => rw [h]
  · rfl
@[simp] theorem State.setTreg_tile_slots (s : State) (lt off : Nat) (v : Word) (x : Nat) : ((s.setTreg lt off v).tile x).slots = (s.tile x).slots := by
  rw [State.setTreg, State.tile_modTile]; split
  · next h => rw [h]
  · rfl
@[simp] theorem State.setTfld_tile_slots (s : State) (lt off hi lo v : Nat) (x : Nat) : ((s.setTfld lt off hi lo v).tile x).slots = (s.tile x).slots := State.setTreg_tile_slots ..
@[simp] theorem State.setTbit_tile_slots (s : State) (lt off i : Nat) (b : Bool) (x : Nat) : ((s.setTbit lt off i b).tile x).slots = (s.tile x).slots := State.setTreg_tile_slots ..
@[simp] theorem modTcc_tile_slots (s : State) (lt : Nat) (g : Tcc → Tcc) (x : Nat) : ((modTcc s lt g).tile x).slots = (s.tile x).slots := by
  rw [tile_modTcc]; split
  · next h => rw [h]
  · rfl
@[simp] theorem modLane_tile_slots (s : State) (lt n : Nat) (g : LaneCore → LaneCore) (x : Nat) : ((modLane s lt n g).tile x).slots = (s.tile x).slots := by
  rw [tile_modLane]; split
  · next h => rw [h]
  · rfl
@[simp] theorem State.setTreg_tile_mem (s : State) (lt off : Nat) (v : Word) (x : Nat) : ((s.setTreg lt off v).tile x).mem = (s.tile x).mem := by
  rw [State.setTreg, State.tile_modTile]; split
  · next h => rw [h]
  · rfl
@[simp] theorem State.setTfld_tile_mem (s : State) (lt off hi lo v : Nat) (x : Nat) : ((s.setTfld lt off hi lo v).tile x).mem = (s.tile x).mem := State.setTreg_tile_mem ..
@[simp] theorem State.setTbit_tile_mem (s : State) (lt off i : Nat) (b : Bool) (x : Nat) : ((s.setTbit lt off i b).tile x).mem = (s.tile x).mem := State.setTreg_tile_mem ..
@[simp] theorem modTcc_tile_mem (s : State) (lt : Nat) (g : Tcc → Tcc) (x : Nat) : ((modTcc s lt g).tile x).mem = (s.tile x).mem := by
  rw [tile_modTcc]; split
  · next h => rw [h]
  · rfl
@[simp] theorem modLane_tile_mem (s : State) (lt n : Nat) (g : LaneCore → LaneCore) (x : Nat) : ((modLane s lt n g).tile x).mem = (s.tile x).mem := by
  rw [tile_modLane]; split
  · next h => rw [h]
  · rfl
@[simp] theorem State.setTreg_tile_istore (s : State) (lt off : Nat) (v : Word) (x : Nat) : ((s.setTreg lt off v).tile x).istore = (s.tile x).istore := by
  rw [State.setTreg, State.tile_modTile]; split
  · next h => rw [h]
  · rfl
@[simp] theorem State.setTfld_tile_istore (s : State) (lt off hi lo v : Nat) (x : Nat) : ((s.setTfld lt off hi lo v).tile x).istore = (s.tile x).istore := State.setTreg_tile_istore ..
@[simp] theorem State.setTbit_tile_istore (s : State) (lt off i : Nat) (b : Bool) (x : Nat) : ((s.setTbit lt off i b).tile x).istore = (s.tile x).istore := State.setTreg_tile_istore ..
@[simp] theorem modTcc_tile_istore (s : State) (lt : Nat) (g : Tcc → Tcc) (x : Nat) : ((modTcc s lt g).tile x).istore = (s.tile x).istore := by
  rw [tile_modTcc]; split
  · next h => rw [h]
  · rfl
@[simp] theorem modLane_tile_istore (s : State) (lt n : Nat) (g : LaneCore → LaneCore) (x : Nat) : ((modLane s lt n g).tile x).istore = (s.tile x).istore := by
  rw [tile_modLane]; split
  · next h => rw [h]
  · rfl
@[simp] theorem State.setTreg_tile_errs (s : State) (lt off : Nat) (v : Word) (x : Nat) : ((s.setTreg lt off v).tile x).errs = (s.tile x).errs := by
  rw [State.setTreg, State.tile_modTile]; split
  · next h => rw [h]
  · rfl
@[simp] theorem State.setTfld_tile_errs (s : State) (lt off hi lo v : Nat) (x : Nat) : ((s.setTfld lt off hi lo v).tile x).errs = (s.tile x).errs := State.setTreg_tile_errs ..
@[simp] theorem State.setTbit_tile_errs (s : State) (lt off i : Nat) (b : Bool) (x : Nat) : ((s.setTbit lt off i b).tile x).errs = (s.tile x).errs := State.setTreg_tile_errs ..
@[simp] theorem modTcc_tile_errs (s : State) (lt : Nat) (g : Tcc → Tcc) (x : Nat) : ((modTcc s lt g).tile x).errs = (s.tile x).errs := by
  rw [tile_modTcc]; split
  · next h => rw [h]
  · rfl
@[simp] theorem modLane_tile_errs (s : State) (lt n : Nat) (g : LaneCore → LaneCore) (x : Nat) : ((modLane s lt n g).tile x).errs = (s.tile x).errs := by
  rw [tile_modLane]; split
  · next h => rw [h]
  · rfl
@[simp] theorem State.setTreg_tile_banks (s : State) (lt off : Nat) (v : Word) (x : Nat) : ((s.setTreg lt off v).tile x).banks = (s.tile x).banks := by
  rw [State.setTreg, State.tile_modTile]; split
  · next h => rw [h]
  · rfl
@[simp] theorem State.setTfld_tile_banks (s : State) (lt off hi lo v : Nat) (x : Nat) : ((s.setTfld lt off hi lo v).tile x).banks = (s.tile x).banks := State.setTreg_tile_banks ..
@[simp] theorem State.setTbit_tile_banks (s : State) (lt off i : Nat) (b : Bool) (x : Nat) : ((s.setTbit lt off i b).tile x).banks = (s.tile x).banks := State.setTreg_tile_banks ..
@[simp] theorem modTcc_tile_banks (s : State) (lt : Nat) (g : Tcc → Tcc) (x : Nat) : ((modTcc s lt g).tile x).banks = (s.tile x).banks := by
  rw [tile_modTcc]; split
  · next h => rw [h]
  · rfl
@[simp] theorem modLane_tile_banks (s : State) (lt n : Nat) (g : LaneCore → LaneCore) (x : Nat) : ((modLane s lt n g).tile x).banks = (s.tile x).banks := by
  rw [tile_modLane]; split
  · next h => rw [h]
  · rfl
@[simp] theorem State.setTreg_tile_bankQ (s : State) (lt off : Nat) (v : Word) (x : Nat) : ((s.setTreg lt off v).tile x).bankQ = (s.tile x).bankQ := by
  rw [State.setTreg, State.tile_modTile]; split
  · next h => rw [h]
  · rfl
@[simp] theorem State.setTfld_tile_bankQ (s : State) (lt off hi lo v : Nat) (x : Nat) : ((s.setTfld lt off hi lo v).tile x).bankQ = (s.tile x).bankQ := State.setTreg_tile_bankQ ..
@[simp] theorem State.setTbit_tile_bankQ (s : State) (lt off i : Nat) (b : Bool) (x : Nat) : ((s.setTbit lt off i b).tile x).bankQ = (s.tile x).bankQ := State.setTreg_tile_bankQ ..
@[simp] theorem modTcc_tile_bankQ (s : State) (lt : Nat) (g : Tcc → Tcc) (x : Nat) : ((modTcc s lt g).tile x).bankQ = (s.tile x).bankQ := by
  rw [tile_modTcc]; split
  · next h => rw [h]
  · rfl
@[simp] theorem modLane_tile_bankQ (s : State) (lt n : Nat) (g : LaneCore → LaneCore) (x : Nat) : ((modLane s lt n g).tile x).bankQ = (s.tile x).bankQ := by
  rw [tile_modLane]; split
  · next h => rw [h]
  · rfl
@[simp] theorem State.setTreg_tile_isoBanks (s : State) (lt off : Nat) (v : Word) (x : Nat) : ((s.setTreg lt off v).tile x).isoBanks = (s.tile x).isoBanks := by
  rw [State.setTreg, State.tile_modTile]; split
  · next h => rw [h]
  · rfl
@[simp] theorem State.setTfld_tile_isoBanks (s : State) (lt off hi lo v : Nat) (x : Nat) : ((s.setTfld lt off hi lo v).tile x).isoBanks = (s.tile x).isoBanks := State.setTreg_tile_isoBanks ..
@[simp] theorem State.setTbit_tile_isoBanks (s : State) (lt off i : Nat) (b : Bool) (x : Nat) : ((s.setTbit lt off i b).tile x).isoBanks = (s.tile x).isoBanks := State.setTreg_tile_isoBanks ..
@[simp] theorem modTcc_tile_isoBanks (s : State) (lt : Nat) (g : Tcc → Tcc) (x : Nat) : ((modTcc s lt g).tile x).isoBanks = (s.tile x).isoBanks := by
  rw [tile_modTcc]; split
  · next h => rw [h]
  · rfl
@[simp] theorem modLane_tile_isoBanks (s : State) (lt n : Nat) (g : LaneCore → LaneCore) (x : Nat) : ((modLane s lt n g).tile x).isoBanks = (s.tile x).isoBanks := by
  rw [tile_modLane]; split
  · next h => rw [h]
  · rfl
@[simp] theorem State.setTreg_tile_scrubPos (s : State) (lt off : Nat) (v : Word) (x : Nat) : ((s.setTreg lt off v).tile x).scrubPos = (s.tile x).scrubPos := by
  rw [State.setTreg, State.tile_modTile]; split
  · next h => rw [h]
  · rfl
@[simp] theorem State.setTfld_tile_scrubPos (s : State) (lt off hi lo v : Nat) (x : Nat) : ((s.setTfld lt off hi lo v).tile x).scrubPos = (s.tile x).scrubPos := State.setTreg_tile_scrubPos ..
@[simp] theorem State.setTbit_tile_scrubPos (s : State) (lt off i : Nat) (b : Bool) (x : Nat) : ((s.setTbit lt off i b).tile x).scrubPos = (s.tile x).scrubPos := State.setTreg_tile_scrubPos ..
@[simp] theorem modTcc_tile_scrubPos (s : State) (lt : Nat) (g : Tcc → Tcc) (x : Nat) : ((modTcc s lt g).tile x).scrubPos = (s.tile x).scrubPos := by
  rw [tile_modTcc]; split
  · next h => rw [h]
  · rfl
@[simp] theorem modLane_tile_scrubPos (s : State) (lt n : Nat) (g : LaneCore → LaneCore) (x : Nat) : ((modLane s lt n g).tile x).scrubPos = (s.tile x).scrubPos := by
  rw [tile_modLane]; split
  · next h => rw [h]
  · rfl
@[simp] theorem State.setTreg_tile_laneSaved (s : State) (lt off : Nat) (v : Word) (x : Nat) : ((s.setTreg lt off v).tile x).laneSaved = (s.tile x).laneSaved := by
  rw [State.setTreg, State.tile_modTile]; split
  · next h => rw [h]
  · rfl
@[simp] theorem State.setTfld_tile_laneSaved (s : State) (lt off hi lo v : Nat) (x : Nat) : ((s.setTfld lt off hi lo v).tile x).laneSaved = (s.tile x).laneSaved := State.setTreg_tile_laneSaved ..
@[simp] theorem State.setTbit_tile_laneSaved (s : State) (lt off i : Nat) (b : Bool) (x : Nat) : ((s.setTbit lt off i b).tile x).laneSaved = (s.tile x).laneSaved := State.setTreg_tile_laneSaved ..
@[simp] theorem modTcc_tile_laneSaved (s : State) (lt : Nat) (g : Tcc → Tcc) (x : Nat) : ((modTcc s lt g).tile x).laneSaved = (s.tile x).laneSaved := by
  rw [tile_modTcc]; split
  · next h => rw [h]
  · rfl
@[simp] theorem modLane_tile_laneSaved (s : State) (lt n : Nat) (g : LaneCore → LaneCore) (x : Nat) : ((modLane s lt n g).tile x).laneSaved = (s.tile x).laneSaved := by
  rw [tile_modLane]; split
  · next h => rw [h]
  · rfl
@[simp] theorem State.setTreg_tile_window (s : State) (lt off : Nat) (v : Word) (x : Nat) : ((s.setTreg lt off v).tile x).window = (s.tile x).window := by
  rw [State.setTreg, State.tile_modTile]; split
  · next h => rw [h]
  · rfl
@[simp] theorem State.setTfld_tile_window (s : State) (lt off hi lo v : Nat) (x : Nat) : ((s.setTfld lt off hi lo v).tile x).window = (s.tile x).window := State.setTreg_tile_window ..
@[simp] theorem State.setTbit_tile_window (s : State) (lt off i : Nat) (b : Bool) (x : Nat) : ((s.setTbit lt off i b).tile x).window = (s.tile x).window := State.setTreg_tile_window ..
@[simp] theorem modTcc_tile_window (s : State) (lt : Nat) (g : Tcc → Tcc) (x : Nat) : ((modTcc s lt g).tile x).window = (s.tile x).window := by
  rw [tile_modTcc]; split
  · next h => rw [h]
  · rfl
@[simp] theorem modLane_tile_window (s : State) (lt n : Nat) (g : LaneCore → LaneCore) (x : Nat) : ((modLane s lt n g).tile x).window = (s.tile x).window := by
  rw [tile_modLane]; split
  · next h => rw [h]
  · rfl
@[simp] theorem State.setTreg_tile_ovfMsgs (s : State) (lt off : Nat) (v : Word) (x : Nat) : ((s.setTreg lt off v).tile x).ovfMsgs = (s.tile x).ovfMsgs := by
  rw [State.setTreg, State.tile_modTile]; split
  · next h => rw [h]
  · rfl
@[simp] theorem State.setTfld_tile_ovfMsgs (s : State) (lt off hi lo v : Nat) (x : Nat) : ((s.setTfld lt off hi lo v).tile x).ovfMsgs = (s.tile x).ovfMsgs := State.setTreg_tile_ovfMsgs ..
@[simp] theorem State.setTbit_tile_ovfMsgs (s : State) (lt off i : Nat) (b : Bool) (x : Nat) : ((s.setTbit lt off i b).tile x).ovfMsgs = (s.tile x).ovfMsgs := State.setTreg_tile_ovfMsgs ..
@[simp] theorem modTcc_tile_ovfMsgs (s : State) (lt : Nat) (g : Tcc → Tcc) (x : Nat) : ((modTcc s lt g).tile x).ovfMsgs = (s.tile x).ovfMsgs := by
  rw [tile_modTcc]; split
  · next h => rw [h]
  · rfl
@[simp] theorem modLane_tile_ovfMsgs (s : State) (lt n : Nat) (g : LaneCore → LaneCore) (x : Nat) : ((modLane s lt n g).tile x).ovfMsgs = (s.tile x).ovfMsgs := by
  rw [tile_modLane]; split
  · next h => rw [h]
  · rfl
@[simp] theorem State.setTreg_tile_reqQ (s : State) (lt off : Nat) (v : Word) (x : Nat) : ((s.setTreg lt off v).tile x).reqQ = (s.tile x).reqQ := by
  rw [State.setTreg, State.tile_modTile]; split
  · next h => rw [h]
  · rfl
@[simp] theorem State.setTfld_tile_reqQ (s : State) (lt off hi lo v : Nat) (x : Nat) : ((s.setTfld lt off hi lo v).tile x).reqQ = (s.tile x).reqQ := State.setTreg_tile_reqQ ..
@[simp] theorem State.setTbit_tile_reqQ (s : State) (lt off i : Nat) (b : Bool) (x : Nat) : ((s.setTbit lt off i b).tile x).reqQ = (s.tile x).reqQ := State.setTreg_tile_reqQ ..
@[simp] theorem modTcc_tile_reqQ (s : State) (lt : Nat) (g : Tcc → Tcc) (x : Nat) : ((modTcc s lt g).tile x).reqQ = (s.tile x).reqQ := by
  rw [tile_modTcc]; split
  · next h => rw [h]
  · rfl
@[simp] theorem modLane_tile_reqQ (s : State) (lt n : Nat) (g : LaneCore → LaneCore) (x : Nat) : ((modLane s lt n g).tile x).reqQ = (s.tile x).reqQ := by
  rw [tile_modLane]; split
  · next h => rw [h]
  · rfl
@[simp] theorem State.setTreg_tile_grants (s : State) (lt off : Nat) (v : Word) (x : Nat) : ((s.setTreg lt off v).tile x).grants = (s.tile x).grants := by
  rw [State.setTreg, State.tile_modTile]; split
  · next h => rw [h]
  · rfl
@[simp] theorem State.setTfld_tile_grants (s : State) (lt off hi lo v : Nat) (x : Nat) : ((s.setTfld lt off hi lo v).tile x).grants = (s.tile x).grants := State.setTreg_tile_grants ..
@[simp] theorem State.setTbit_tile_grants (s : State) (lt off i : Nat) (b : Bool) (x : Nat) : ((s.setTbit lt off i b).tile x).grants = (s.tile x).grants := State.setTreg_tile_grants ..
@[simp] theorem modTcc_tile_grants (s : State) (lt : Nat) (g : Tcc → Tcc) (x : Nat) : ((modTcc s lt g).tile x).grants = (s.tile x).grants := by
  rw [tile_modTcc]; split
  · next h => rw [h]
  · rfl
@[simp] theorem modLane_tile_grants (s : State) (lt n : Nat) (g : LaneCore → LaneCore) (x : Nat) : ((modLane s lt n g).tile x).grants = (s.tile x).grants := by
  rw [tile_modLane]; split
  · next h => rw [h]
  · rfl
@[simp] theorem State.setTreg_tile_reqs (s : State) (lt off : Nat) (v : Word) (x : Nat) : ((s.setTreg lt off v).tile x).reqs = (s.tile x).reqs := by
  rw [State.setTreg, State.tile_modTile]; split
  · next h => rw [h]
  · rfl
@[simp] theorem State.setTfld_tile_reqs (s : State) (lt off hi lo v : Nat) (x : Nat) : ((s.setTfld lt off hi lo v).tile x).reqs = (s.tile x).reqs := State.setTreg_tile_reqs ..
@[simp] theorem State.setTbit_tile_reqs (s : State) (lt off i : Nat) (b : Bool) (x : Nat) : ((s.setTbit lt off i b).tile x).reqs = (s.tile x).reqs := State.setTreg_tile_reqs ..
@[simp] theorem modTcc_tile_reqs (s : State) (lt : Nat) (g : Tcc → Tcc) (x : Nat) : ((modTcc s lt g).tile x).reqs = (s.tile x).reqs := by
  rw [tile_modTcc]; split
  · next h => rw [h]
  · rfl
@[simp] theorem modLane_tile_reqs (s : State) (lt n : Nat) (g : LaneCore → LaneCore) (x : Nat) : ((modLane s lt n g).tile x).reqs = (s.tile x).reqs := by
  rw [tile_modLane]; split
  · next h => rw [h]
  · rfl
@[simp] theorem State.setTreg_tile_nextTag (s : State) (lt off : Nat) (v : Word) (x : Nat) : ((s.setTreg lt off v).tile x).nextTag = (s.tile x).nextTag := by
  rw [State.setTreg, State.tile_modTile]; split
  · next h => rw [h]
  · rfl
@[simp] theorem State.setTfld_tile_nextTag (s : State) (lt off hi lo v : Nat) (x : Nat) : ((s.setTfld lt off hi lo v).tile x).nextTag = (s.tile x).nextTag := State.setTreg_tile_nextTag ..
@[simp] theorem State.setTbit_tile_nextTag (s : State) (lt off i : Nat) (b : Bool) (x : Nat) : ((s.setTbit lt off i b).tile x).nextTag = (s.tile x).nextTag := State.setTreg_tile_nextTag ..
@[simp] theorem modTcc_tile_nextTag (s : State) (lt : Nat) (g : Tcc → Tcc) (x : Nat) : ((modTcc s lt g).tile x).nextTag = (s.tile x).nextTag := by
  rw [tile_modTcc]; split
  · next h => rw [h]
  · rfl
@[simp] theorem modLane_tile_nextTag (s : State) (lt n : Nat) (g : LaneCore → LaneCore) (x : Nat) : ((modLane s lt n g).tile x).nextTag = (s.tile x).nextTag := by
  rw [tile_modLane]; split
  · next h => rw [h]
  · rfl
@[simp] theorem State.setTreg_tile_retries (s : State) (lt off : Nat) (v : Word) (x : Nat) : ((s.setTreg lt off v).tile x).retries = (s.tile x).retries := by
  rw [State.setTreg, State.tile_modTile]; split
  · next h => rw [h]
  · rfl
@[simp] theorem State.setTfld_tile_retries (s : State) (lt off hi lo v : Nat) (x : Nat) : ((s.setTfld lt off hi lo v).tile x).retries = (s.tile x).retries := State.setTreg_tile_retries ..
@[simp] theorem State.setTbit_tile_retries (s : State) (lt off i : Nat) (b : Bool) (x : Nat) : ((s.setTbit lt off i b).tile x).retries = (s.tile x).retries := State.setTreg_tile_retries ..
@[simp] theorem modTcc_tile_retries (s : State) (lt : Nat) (g : Tcc → Tcc) (x : Nat) : ((modTcc s lt g).tile x).retries = (s.tile x).retries := by
  rw [tile_modTcc]; split
  · next h => rw [h]
  · rfl
@[simp] theorem modLane_tile_retries (s : State) (lt n : Nat) (g : LaneCore → LaneCore) (x : Nat) : ((modLane s lt n g).tile x).retries = (s.tile x).retries := by
  rw [tile_modLane]; split
  · next h => rw [h]
  · rfl
@[simp] theorem State.setTreg_tile_xacts (s : State) (lt off : Nat) (v : Word) (x : Nat) : ((s.setTreg lt off v).tile x).xacts = (s.tile x).xacts := by
  rw [State.setTreg, State.tile_modTile]; split
  · next h => rw [h]
  · rfl
@[simp] theorem State.setTfld_tile_xacts (s : State) (lt off hi lo v : Nat) (x : Nat) : ((s.setTfld lt off hi lo v).tile x).xacts = (s.tile x).xacts := State.setTreg_tile_xacts ..
@[simp] theorem State.setTbit_tile_xacts (s : State) (lt off i : Nat) (b : Bool) (x : Nat) : ((s.setTbit lt off i b).tile x).xacts = (s.tile x).xacts := State.setTreg_tile_xacts ..
@[simp] theorem modTcc_tile_xacts (s : State) (lt : Nat) (g : Tcc → Tcc) (x : Nat) : ((modTcc s lt g).tile x).xacts = (s.tile x).xacts := by
  rw [tile_modTcc]; split
  · next h => rw [h]
  · rfl
@[simp] theorem modLane_tile_xacts (s : State) (lt n : Nat) (g : LaneCore → LaneCore) (x : Nat) : ((modLane s lt n g).tile x).xacts = (s.tile x).xacts := by
  rw [tile_modLane]; split
  · next h => rw [h]
  · rfl
@[simp] theorem State.setTreg_tile_xactOrder (s : State) (lt off : Nat) (v : Word) (x : Nat) : ((s.setTreg lt off v).tile x).xactOrder = (s.tile x).xactOrder := by
  rw [State.setTreg, State.tile_modTile]; split
  · next h => rw [h]
  · rfl
@[simp] theorem State.setTfld_tile_xactOrder (s : State) (lt off hi lo v : Nat) (x : Nat) : ((s.setTfld lt off hi lo v).tile x).xactOrder = (s.tile x).xactOrder := State.setTreg_tile_xactOrder ..
@[simp] theorem State.setTbit_tile_xactOrder (s : State) (lt off i : Nat) (b : Bool) (x : Nat) : ((s.setTbit lt off i b).tile x).xactOrder = (s.tile x).xactOrder := State.setTreg_tile_xactOrder ..
@[simp] theorem modTcc_tile_xactOrder (s : State) (lt : Nat) (g : Tcc → Tcc) (x : Nat) : ((modTcc s lt g).tile x).xactOrder = (s.tile x).xactOrder := by
  rw [tile_modTcc]; split
  · next h => rw [h]
  · rfl
@[simp] theorem modLane_tile_xactOrder (s : State) (lt n : Nat) (g : LaneCore → LaneCore) (x : Nat) : ((modLane s lt n g).tile x).xactOrder = (s.tile x).xactOrder := by
  rw [tile_modLane]; split
  · next h => rw [h]
  · rfl
@[simp] theorem State.setTreg_tile_dma (s : State) (lt off : Nat) (v : Word) (x : Nat) : ((s.setTreg lt off v).tile x).dma = (s.tile x).dma := by
  rw [State.setTreg, State.tile_modTile]; split
  · next h => rw [h]
  · rfl
@[simp] theorem State.setTfld_tile_dma (s : State) (lt off hi lo v : Nat) (x : Nat) : ((s.setTfld lt off hi lo v).tile x).dma = (s.tile x).dma := State.setTreg_tile_dma ..
@[simp] theorem State.setTbit_tile_dma (s : State) (lt off i : Nat) (b : Bool) (x : Nat) : ((s.setTbit lt off i b).tile x).dma = (s.tile x).dma := State.setTreg_tile_dma ..
@[simp] theorem modTcc_tile_dma (s : State) (lt : Nat) (g : Tcc → Tcc) (x : Nat) : ((modTcc s lt g).tile x).dma = (s.tile x).dma := by
  rw [tile_modTcc]; split
  · next h => rw [h]
  · rfl
@[simp] theorem modLane_tile_dma (s : State) (lt n : Nat) (g : LaneCore → LaneCore) (x : Nat) : ((modLane s lt n g).tile x).dma = (s.tile x).dma := by
  rw [tile_modLane]; split
  · next h => rw [h]
  · rfl
@[simp] theorem State.setTreg_tile_dmaSaved (s : State) (lt off : Nat) (v : Word) (x : Nat) : ((s.setTreg lt off v).tile x).dmaSaved = (s.tile x).dmaSaved := by
  rw [State.setTreg, State.tile_modTile]; split
  · next h => rw [h]
  · rfl
@[simp] theorem State.setTfld_tile_dmaSaved (s : State) (lt off hi lo v : Nat) (x : Nat) : ((s.setTfld lt off hi lo v).tile x).dmaSaved = (s.tile x).dmaSaved := State.setTreg_tile_dmaSaved ..
@[simp] theorem State.setTbit_tile_dmaSaved (s : State) (lt off i : Nat) (b : Bool) (x : Nat) : ((s.setTbit lt off i b).tile x).dmaSaved = (s.tile x).dmaSaved := State.setTreg_tile_dmaSaved ..
@[simp] theorem modTcc_tile_dmaSaved (s : State) (lt : Nat) (g : Tcc → Tcc) (x : Nat) : ((modTcc s lt g).tile x).dmaSaved = (s.tile x).dmaSaved := by
  rw [tile_modTcc]; split
  · next h => rw [h]
  · rfl
@[simp] theorem modLane_tile_dmaSaved (s : State) (lt n : Nat) (g : LaneCore → LaneCore) (x : Nat) : ((modLane s lt n g).tile x).dmaSaved = (s.tile x).dmaSaved := by
  rw [tile_modLane]; split
  · next h => rw [h]
  · rfl
@[simp] theorem State.setTreg_tile_dmaTurns (s : State) (lt off : Nat) (v : Word) (x : Nat) : ((s.setTreg lt off v).tile x).dmaTurns = (s.tile x).dmaTurns := by
  rw [State.setTreg, State.tile_modTile]; split
  · next h => rw [h]
  · rfl
@[simp] theorem State.setTfld_tile_dmaTurns (s : State) (lt off hi lo v : Nat) (x : Nat) : ((s.setTfld lt off hi lo v).tile x).dmaTurns = (s.tile x).dmaTurns := State.setTreg_tile_dmaTurns ..
@[simp] theorem State.setTbit_tile_dmaTurns (s : State) (lt off i : Nat) (b : Bool) (x : Nat) : ((s.setTbit lt off i b).tile x).dmaTurns = (s.tile x).dmaTurns := State.setTreg_tile_dmaTurns ..
@[simp] theorem modTcc_tile_dmaTurns (s : State) (lt : Nat) (g : Tcc → Tcc) (x : Nat) : ((modTcc s lt g).tile x).dmaTurns = (s.tile x).dmaTurns := by
  rw [tile_modTcc]; split
  · next h => rw [h]
  · rfl
@[simp] theorem modLane_tile_dmaTurns (s : State) (lt n : Nat) (g : LaneCore → LaneCore) (x : Nat) : ((modLane s lt n g).tile x).dmaTurns = (s.tile x).dmaTurns := by
  rw [tile_modLane]; split
  · next h => rw [h]
  · rfl
@[simp] theorem State.setTreg_tile_dmaKept (s : State) (lt off : Nat) (v : Word) (x : Nat) : ((s.setTreg lt off v).tile x).dmaKept = (s.tile x).dmaKept := by
  rw [State.setTreg, State.tile_modTile]; split
  · next h => rw [h]
  · rfl
@[simp] theorem State.setTfld_tile_dmaKept (s : State) (lt off hi lo v : Nat) (x : Nat) : ((s.setTfld lt off hi lo v).tile x).dmaKept = (s.tile x).dmaKept := State.setTreg_tile_dmaKept ..
@[simp] theorem State.setTbit_tile_dmaKept (s : State) (lt off i : Nat) (b : Bool) (x : Nat) : ((s.setTbit lt off i b).tile x).dmaKept = (s.tile x).dmaKept := State.setTreg_tile_dmaKept ..
@[simp] theorem modTcc_tile_dmaKept (s : State) (lt : Nat) (g : Tcc → Tcc) (x : Nat) : ((modTcc s lt g).tile x).dmaKept = (s.tile x).dmaKept := by
  rw [tile_modTcc]; split
  · next h => rw [h]
  · rfl
@[simp] theorem modLane_tile_dmaKept (s : State) (lt n : Nat) (g : LaneCore → LaneCore) (x : Nat) : ((modLane s lt n g).tile x).dmaKept = (s.tile x).dmaKept := by
  rw [tile_modLane]; split
  · next h => rw [h]
  · rfl
@[simp] theorem State.setTreg_tile_preSaving (s : State) (lt off : Nat) (v : Word) (x : Nat) : ((s.setTreg lt off v).tile x).preSaving = (s.tile x).preSaving := by
  rw [State.setTreg, State.tile_modTile]; split
  · next h => rw [h]
  · rfl
@[simp] theorem State.setTfld_tile_preSaving (s : State) (lt off hi lo v : Nat) (x : Nat) : ((s.setTfld lt off hi lo v).tile x).preSaving = (s.tile x).preSaving := State.setTreg_tile_preSaving ..
@[simp] theorem State.setTbit_tile_preSaving (s : State) (lt off i : Nat) (b : Bool) (x : Nat) : ((s.setTbit lt off i b).tile x).preSaving = (s.tile x).preSaving := State.setTreg_tile_preSaving ..
@[simp] theorem modTcc_tile_preSaving (s : State) (lt : Nat) (g : Tcc → Tcc) (x : Nat) : ((modTcc s lt g).tile x).preSaving = (s.tile x).preSaving := by
  rw [tile_modTcc]; split
  · next h => rw [h]
  · rfl
@[simp] theorem modLane_tile_preSaving (s : State) (lt n : Nat) (g : LaneCore → LaneCore) (x : Nat) : ((modLane s lt n g).tile x).preSaving = (s.tile x).preSaving := by
  rw [tile_modLane]; split
  · next h => rw [h]
  · rfl
@[simp] theorem State.setTreg_tile_lostLanes (s : State) (lt off : Nat) (v : Word) (x : Nat) : ((s.setTreg lt off v).tile x).lostLanes = (s.tile x).lostLanes := by
  rw [State.setTreg, State.tile_modTile]; split
  · next h => rw [h]
  · rfl
@[simp] theorem State.setTfld_tile_lostLanes (s : State) (lt off hi lo v : Nat) (x : Nat) : ((s.setTfld lt off hi lo v).tile x).lostLanes = (s.tile x).lostLanes := State.setTreg_tile_lostLanes ..
@[simp] theorem State.setTbit_tile_lostLanes (s : State) (lt off i : Nat) (b : Bool) (x : Nat) : ((s.setTbit lt off i b).tile x).lostLanes = (s.tile x).lostLanes := State.setTreg_tile_lostLanes ..
@[simp] theorem modTcc_tile_lostLanes (s : State) (lt : Nat) (g : Tcc → Tcc) (x : Nat) : ((modTcc s lt g).tile x).lostLanes = (s.tile x).lostLanes := by
  rw [tile_modTcc]; split
  · next h => rw [h]
  · rfl
@[simp] theorem modLane_tile_lostLanes (s : State) (lt n : Nat) (g : LaneCore → LaneCore) (x : Nat) : ((modLane s lt n g).tile x).lostLanes = (s.tile x).lostLanes := by
  rw [tile_modLane]; split
  · next h => rw [h]
  · rfl
@[simp] theorem State.setTreg_tile_discard (s : State) (lt off : Nat) (v : Word) (x : Nat) : ((s.setTreg lt off v).tile x).discard = (s.tile x).discard := by
  rw [State.setTreg, State.tile_modTile]; split
  · next h => rw [h]
  · rfl
@[simp] theorem State.setTfld_tile_discard (s : State) (lt off hi lo v : Nat) (x : Nat) : ((s.setTfld lt off hi lo v).tile x).discard = (s.tile x).discard := State.setTreg_tile_discard ..
@[simp] theorem State.setTbit_tile_discard (s : State) (lt off i : Nat) (b : Bool) (x : Nat) : ((s.setTbit lt off i b).tile x).discard = (s.tile x).discard := State.setTreg_tile_discard ..
@[simp] theorem modTcc_tile_discard (s : State) (lt : Nat) (g : Tcc → Tcc) (x : Nat) : ((modTcc s lt g).tile x).discard = (s.tile x).discard := by
  rw [tile_modTcc]; split
  · next h => rw [h]
  · rfl
@[simp] theorem modLane_tile_discard (s : State) (lt n : Nat) (g : LaneCore → LaneCore) (x : Nat) : ((modLane s lt n g).tile x).discard = (s.tile x).discard := by
  rw [tile_modLane]; split
  · next h => rw [h]
  · rfl
@[simp] theorem State.setTreg_tile_tlb (s : State) (lt off : Nat) (v : Word) (x : Nat) : ((s.setTreg lt off v).tile x).tlb = (s.tile x).tlb := by
  rw [State.setTreg, State.tile_modTile]; split
  · next h => rw [h]
  · rfl
@[simp] theorem State.setTfld_tile_tlb (s : State) (lt off hi lo v : Nat) (x : Nat) : ((s.setTfld lt off hi lo v).tile x).tlb = (s.tile x).tlb := State.setTreg_tile_tlb ..
@[simp] theorem State.setTbit_tile_tlb (s : State) (lt off i : Nat) (b : Bool) (x : Nat) : ((s.setTbit lt off i b).tile x).tlb = (s.tile x).tlb := State.setTreg_tile_tlb ..
@[simp] theorem modTcc_tile_tlb (s : State) (lt : Nat) (g : Tcc → Tcc) (x : Nat) : ((modTcc s lt g).tile x).tlb = (s.tile x).tlb := by
  rw [tile_modTcc]; split
  · next h => rw [h]
  · rfl
@[simp] theorem modLane_tile_tlb (s : State) (lt n : Nat) (g : LaneCore → LaneCore) (x : Nat) : ((modLane s lt n g).tile x).tlb = (s.tile x).tlb := by
  rw [tile_modLane]; split
  · next h => rw [h]
  · rfl
@[simp] theorem State.setTreg_tile_semTurn (s : State) (lt off : Nat) (v : Word) (x : Nat) : ((s.setTreg lt off v).tile x).semTurn = (s.tile x).semTurn := by
  rw [State.setTreg, State.tile_modTile]; split
  · next h => rw [h]
  · rfl
@[simp] theorem State.setTfld_tile_semTurn (s : State) (lt off hi lo v : Nat) (x : Nat) : ((s.setTfld lt off hi lo v).tile x).semTurn = (s.tile x).semTurn := State.setTreg_tile_semTurn ..
@[simp] theorem State.setTbit_tile_semTurn (s : State) (lt off i : Nat) (b : Bool) (x : Nat) : ((s.setTbit lt off i b).tile x).semTurn = (s.tile x).semTurn := State.setTreg_tile_semTurn ..
@[simp] theorem modTcc_tile_semTurn (s : State) (lt : Nat) (g : Tcc → Tcc) (x : Nat) : ((modTcc s lt g).tile x).semTurn = (s.tile x).semTurn := by
  rw [tile_modTcc]; split
  · next h => rw [h]
  · rfl
@[simp] theorem modLane_tile_semTurn (s : State) (lt n : Nat) (g : LaneCore → LaneCore) (x : Nat) : ((modLane s lt n g).tile x).semTurn = (s.tile x).semTurn := by
  rw [tile_modLane]; split
  · next h => rw [h]
  · rfl
@[simp] theorem State.setTreg_tile_delayed (s : State) (lt off : Nat) (v : Word) (x : Nat) : ((s.setTreg lt off v).tile x).delayed = (s.tile x).delayed := by
  rw [State.setTreg, State.tile_modTile]; split
  · next h => rw [h]
  · rfl
@[simp] theorem State.setTfld_tile_delayed (s : State) (lt off hi lo v : Nat) (x : Nat) : ((s.setTfld lt off hi lo v).tile x).delayed = (s.tile x).delayed := State.setTreg_tile_delayed ..
@[simp] theorem State.setTbit_tile_delayed (s : State) (lt off i : Nat) (b : Bool) (x : Nat) : ((s.setTbit lt off i b).tile x).delayed = (s.tile x).delayed := State.setTreg_tile_delayed ..
@[simp] theorem modTcc_tile_delayed (s : State) (lt : Nat) (g : Tcc → Tcc) (x : Nat) : ((modTcc s lt g).tile x).delayed = (s.tile x).delayed := by
  rw [tile_modTcc]; split
  · next h => rw [h]
  · rfl
@[simp] theorem modLane_tile_delayed (s : State) (lt n : Nat) (g : LaneCore → LaneCore) (x : Nat) : ((modLane s lt n g).tile x).delayed = (s.tile x).delayed := by
  rw [tile_modLane]; split
  · next h => rw [h]
  · rfl
@[simp] theorem State.setTreg_tile_preReq (s : State) (lt off : Nat) (v : Word) (x : Nat) : ((s.setTreg lt off v).tile x).preReq = (s.tile x).preReq := by
  rw [State.setTreg, State.tile_modTile]; split
  · next h => rw [h]
  · rfl
@[simp] theorem State.setTfld_tile_preReq (s : State) (lt off hi lo v : Nat) (x : Nat) : ((s.setTfld lt off hi lo v).tile x).preReq = (s.tile x).preReq := State.setTreg_tile_preReq ..
@[simp] theorem State.setTbit_tile_preReq (s : State) (lt off i : Nat) (b : Bool) (x : Nat) : ((s.setTbit lt off i b).tile x).preReq = (s.tile x).preReq := State.setTreg_tile_preReq ..
@[simp] theorem modTcc_tile_preReq (s : State) (lt : Nat) (g : Tcc → Tcc) (x : Nat) : ((modTcc s lt g).tile x).preReq = (s.tile x).preReq := by
  rw [tile_modTcc]; split
  · next h => rw [h]
  · rfl
@[simp] theorem modLane_tile_preReq (s : State) (lt n : Nat) (g : LaneCore → LaneCore) (x : Nat) : ((modLane s lt n g).tile x).preReq = (s.tile x).preReq := by
  rw [tile_modLane]; split
  · next h => rw [h]
  · rfl
@[simp] theorem State.setTreg_tile_pwrNotice (s : State) (lt off : Nat) (v : Word) (x : Nat) : ((s.setTreg lt off v).tile x).pwrNotice = (s.tile x).pwrNotice := by
  rw [State.setTreg, State.tile_modTile]; split
  · next h => rw [h]
  · rfl
@[simp] theorem State.setTfld_tile_pwrNotice (s : State) (lt off hi lo v : Nat) (x : Nat) : ((s.setTfld lt off hi lo v).tile x).pwrNotice = (s.tile x).pwrNotice := State.setTreg_tile_pwrNotice ..
@[simp] theorem State.setTbit_tile_pwrNotice (s : State) (lt off i : Nat) (b : Bool) (x : Nat) : ((s.setTbit lt off i b).tile x).pwrNotice = (s.tile x).pwrNotice := State.setTreg_tile_pwrNotice ..
@[simp] theorem modTcc_tile_pwrNotice (s : State) (lt : Nat) (g : Tcc → Tcc) (x : Nat) : ((modTcc s lt g).tile x).pwrNotice = (s.tile x).pwrNotice := by
  rw [tile_modTcc]; split
  · next h => rw [h]
  · rfl
@[simp] theorem modLane_tile_pwrNotice (s : State) (lt n : Nat) (g : LaneCore → LaneCore) (x : Nat) : ((modLane s lt n g).tile x).pwrNotice = (s.tile x).pwrNotice := by
  rw [tile_modLane]; split
  · next h => rw [h]
  · rfl
@[simp] theorem State.setTreg_tile_mailbox (s : State) (lt off : Nat) (v : Word) (x : Nat) : ((s.setTreg lt off v).tile x).mailbox = (s.tile x).mailbox := by
  rw [State.setTreg, State.tile_modTile]; split
  · next h => rw [h]
  · rfl
@[simp] theorem State.setTfld_tile_mailbox (s : State) (lt off hi lo v : Nat) (x : Nat) : ((s.setTfld lt off hi lo v).tile x).mailbox = (s.tile x).mailbox := State.setTreg_tile_mailbox ..
@[simp] theorem State.setTbit_tile_mailbox (s : State) (lt off i : Nat) (b : Bool) (x : Nat) : ((s.setTbit lt off i b).tile x).mailbox = (s.tile x).mailbox := State.setTreg_tile_mailbox ..
@[simp] theorem modTcc_tile_mailbox (s : State) (lt : Nat) (g : Tcc → Tcc) (x : Nat) : ((modTcc s lt g).tile x).mailbox = (s.tile x).mailbox := by
  rw [tile_modTcc]; split
  · next h => rw [h]
  · rfl
@[simp] theorem modLane_tile_mailbox (s : State) (lt n : Nat) (g : LaneCore → LaneCore) (x : Nat) : ((modLane s lt n g).tile x).mailbox = (s.tile x).mailbox := by
  rw [tile_modLane]; split
  · next h => rw [h]
  · rfl
@[simp] theorem State.setTreg_tile_studyInt (s : State) (lt off : Nat) (v : Word) (x : Nat) : ((s.setTreg lt off v).tile x).studyInt = (s.tile x).studyInt := by
  rw [State.setTreg, State.tile_modTile]; split
  · next h => rw [h]
  · rfl
@[simp] theorem State.setTfld_tile_studyInt (s : State) (lt off hi lo v : Nat) (x : Nat) : ((s.setTfld lt off hi lo v).tile x).studyInt = (s.tile x).studyInt := State.setTreg_tile_studyInt ..
@[simp] theorem State.setTbit_tile_studyInt (s : State) (lt off i : Nat) (b : Bool) (x : Nat) : ((s.setTbit lt off i b).tile x).studyInt = (s.tile x).studyInt := State.setTreg_tile_studyInt ..
@[simp] theorem modTcc_tile_studyInt (s : State) (lt : Nat) (g : Tcc → Tcc) (x : Nat) : ((modTcc s lt g).tile x).studyInt = (s.tile x).studyInt := by
  rw [tile_modTcc]; split
  · next h => rw [h]
  · rfl
@[simp] theorem modLane_tile_studyInt (s : State) (lt n : Nat) (g : LaneCore → LaneCore) (x : Nat) : ((modLane s lt n g).tile x).studyInt = (s.tile x).studyInt := by
  rw [tile_modLane]; split
  · next h => rw [h]
  · rfl
@[simp] theorem State.setTreg_tile_fatal (s : State) (lt off : Nat) (v : Word) (x : Nat) : ((s.setTreg lt off v).tile x).fatal = (s.tile x).fatal := by
  rw [State.setTreg, State.tile_modTile]; split
  · next h => rw [h]
  · rfl
@[simp] theorem State.setTfld_tile_fatal (s : State) (lt off hi lo v : Nat) (x : Nat) : ((s.setTfld lt off hi lo v).tile x).fatal = (s.tile x).fatal := State.setTreg_tile_fatal ..
@[simp] theorem State.setTbit_tile_fatal (s : State) (lt off i : Nat) (b : Bool) (x : Nat) : ((s.setTbit lt off i b).tile x).fatal = (s.tile x).fatal := State.setTreg_tile_fatal ..
@[simp] theorem modTcc_tile_fatal (s : State) (lt : Nat) (g : Tcc → Tcc) (x : Nat) : ((modTcc s lt g).tile x).fatal = (s.tile x).fatal := by
  rw [tile_modTcc]; split
  · next h => rw [h]
  · rfl
@[simp] theorem modLane_tile_fatal (s : State) (lt n : Nat) (g : LaneCore → LaneCore) (x : Nat) : ((modLane s lt n g).tile x).fatal = (s.tile x).fatal := by
  rw [tile_modLane]; split
  · next h => rw [h]
  · rfl
@[simp] theorem State.setTreg_tile_bypassed (s : State) (lt off : Nat) (v : Word) (x : Nat) : ((s.setTreg lt off v).tile x).bypassed = (s.tile x).bypassed := by
  rw [State.setTreg, State.tile_modTile]; split
  · next h => rw [h]
  · rfl
@[simp] theorem State.setTfld_tile_bypassed (s : State) (lt off hi lo v : Nat) (x : Nat) : ((s.setTfld lt off hi lo v).tile x).bypassed = (s.tile x).bypassed := State.setTreg_tile_bypassed ..
@[simp] theorem State.setTbit_tile_bypassed (s : State) (lt off i : Nat) (b : Bool) (x : Nat) : ((s.setTbit lt off i b).tile x).bypassed = (s.tile x).bypassed := State.setTreg_tile_bypassed ..
@[simp] theorem modTcc_tile_bypassed (s : State) (lt : Nat) (g : Tcc → Tcc) (x : Nat) : ((modTcc s lt g).tile x).bypassed = (s.tile x).bypassed := by
  rw [tile_modTcc]; split
  · next h => rw [h]
  · rfl
@[simp] theorem modLane_tile_bypassed (s : State) (lt n : Nat) (g : LaneCore → LaneCore) (x : Nat) : ((modLane s lt n g).tile x).bypassed = (s.tile x).bypassed := by
  rw [tile_modLane]; split
  · next h => rw [h]
  · rfl
@[simp] theorem State.setTreg_tile_isolated (s : State) (lt off : Nat) (v : Word) (x : Nat) : ((s.setTreg lt off v).tile x).isolated = (s.tile x).isolated := by
  rw [State.setTreg, State.tile_modTile]; split
  · next h => rw [h]
  · rfl
@[simp] theorem State.setTfld_tile_isolated (s : State) (lt off hi lo v : Nat) (x : Nat) : ((s.setTfld lt off hi lo v).tile x).isolated = (s.tile x).isolated := State.setTreg_tile_isolated ..
@[simp] theorem State.setTbit_tile_isolated (s : State) (lt off i : Nat) (b : Bool) (x : Nat) : ((s.setTbit lt off i b).tile x).isolated = (s.tile x).isolated := State.setTreg_tile_isolated ..
@[simp] theorem modTcc_tile_isolated (s : State) (lt : Nat) (g : Tcc → Tcc) (x : Nat) : ((modTcc s lt g).tile x).isolated = (s.tile x).isolated := by
  rw [tile_modTcc]; split
  · next h => rw [h]
  · rfl
@[simp] theorem modLane_tile_isolated (s : State) (lt n : Nat) (g : LaneCore → LaneCore) (x : Nat) : ((modLane s lt n g).tile x).isolated = (s.tile x).isolated := by
  rw [tile_modLane]; split
  · next h => rw [h]
  · rfl
@[simp] theorem State.setTreg_tile_cycleBase (s : State) (lt off : Nat) (v : Word) (x : Nat) : ((s.setTreg lt off v).tile x).cycleBase = (s.tile x).cycleBase := by
  rw [State.setTreg, State.tile_modTile]; split
  · next h => rw [h]
  · rfl
@[simp] theorem State.setTfld_tile_cycleBase (s : State) (lt off hi lo v : Nat) (x : Nat) : ((s.setTfld lt off hi lo v).tile x).cycleBase = (s.tile x).cycleBase := State.setTreg_tile_cycleBase ..
@[simp] theorem State.setTbit_tile_cycleBase (s : State) (lt off i : Nat) (b : Bool) (x : Nat) : ((s.setTbit lt off i b).tile x).cycleBase = (s.tile x).cycleBase := State.setTreg_tile_cycleBase ..
@[simp] theorem modTcc_tile_cycleBase (s : State) (lt : Nat) (g : Tcc → Tcc) (x : Nat) : ((modTcc s lt g).tile x).cycleBase = (s.tile x).cycleBase := by
  rw [tile_modTcc]; split
  · next h => rw [h]
  · rfl
@[simp] theorem modLane_tile_cycleBase (s : State) (lt n : Nat) (g : LaneCore → LaneCore) (x : Nat) : ((modLane s lt n g).tile x).cycleBase = (s.tile x).cycleBase := by
  rw [tile_modLane]; split
  · next h => rw [h]
  · rfl
@[simp] theorem State.setTreg_tile_recorder (s : State) (lt off : Nat) (v : Word) (x : Nat) : ((s.setTreg lt off v).tile x).recorder = (s.tile x).recorder := by
  rw [State.setTreg, State.tile_modTile]; split
  · next h => rw [h]
  · rfl
@[simp] theorem State.setTfld_tile_recorder (s : State) (lt off hi lo v : Nat) (x : Nat) : ((s.setTfld lt off hi lo v).tile x).recorder = (s.tile x).recorder := State.setTreg_tile_recorder ..
@[simp] theorem State.setTbit_tile_recorder (s : State) (lt off i : Nat) (b : Bool) (x : Nat) : ((s.setTbit lt off i b).tile x).recorder = (s.tile x).recorder := State.setTreg_tile_recorder ..
@[simp] theorem modTcc_tile_recorder (s : State) (lt : Nat) (g : Tcc → Tcc) (x : Nat) : ((modTcc s lt g).tile x).recorder = (s.tile x).recorder := by
  rw [tile_modTcc]; split
  · next h => rw [h]
  · rfl
@[simp] theorem modLane_tile_recorder (s : State) (lt n : Nat) (g : LaneCore → LaneCore) (x : Nat) : ((modLane s lt n g).tile x).recorder = (s.tile x).recorder := by
  rw [tile_modLane]; split
  · next h => rw [h]
  · rfl
@[simp] theorem State.setTreg_tile_counters (s : State) (lt off : Nat) (v : Word) (x : Nat) : ((s.setTreg lt off v).tile x).counters = (s.tile x).counters := by
  rw [State.setTreg, State.tile_modTile]; split
  · next h => rw [h]
  · rfl
@[simp] theorem State.setTfld_tile_counters (s : State) (lt off hi lo v : Nat) (x : Nat) : ((s.setTfld lt off hi lo v).tile x).counters = (s.tile x).counters := State.setTreg_tile_counters ..
@[simp] theorem State.setTbit_tile_counters (s : State) (lt off i : Nat) (b : Bool) (x : Nat) : ((s.setTbit lt off i b).tile x).counters = (s.tile x).counters := State.setTreg_tile_counters ..
@[simp] theorem modTcc_tile_counters (s : State) (lt : Nat) (g : Tcc → Tcc) (x : Nat) : ((modTcc s lt g).tile x).counters = (s.tile x).counters := by
  rw [tile_modTcc]; split
  · next h => rw [h]
  · rfl
@[simp] theorem modLane_tile_counters (s : State) (lt n : Nat) (g : LaneCore → LaneCore) (x : Nat) : ((modLane s lt n g).tile x).counters = (s.tile x).counters := by
  rw [tile_modLane]; split
  · next h => rw [h]
  · rfl
@[simp] theorem State.setTreg_tile_boltOwned (s : State) (lt off : Nat) (v : Word) (x : Nat) : ((s.setTreg lt off v).tile x).boltOwned = (s.tile x).boltOwned := by
  rw [State.setTreg, State.tile_modTile]; split
  · next h => rw [h]
  · rfl
@[simp] theorem State.setTfld_tile_boltOwned (s : State) (lt off hi lo v : Nat) (x : Nat) : ((s.setTfld lt off hi lo v).tile x).boltOwned = (s.tile x).boltOwned := State.setTreg_tile_boltOwned ..
@[simp] theorem State.setTbit_tile_boltOwned (s : State) (lt off i : Nat) (b : Bool) (x : Nat) : ((s.setTbit lt off i b).tile x).boltOwned = (s.tile x).boltOwned := State.setTreg_tile_boltOwned ..
@[simp] theorem modTcc_tile_boltOwned (s : State) (lt : Nat) (g : Tcc → Tcc) (x : Nat) : ((modTcc s lt g).tile x).boltOwned = (s.tile x).boltOwned := by
  rw [tile_modTcc]; split
  · next h => rw [h]
  · rfl
@[simp] theorem modLane_tile_boltOwned (s : State) (lt n : Nat) (g : LaneCore → LaneCore) (x : Nat) : ((modLane s lt n g).tile x).boltOwned = (s.tile x).boltOwned := by
  rw [tile_modLane]; split
  · next h => rw [h]
  · rfl
@[simp] theorem State.setTreg_tile_stepQueue (s : State) (lt off : Nat) (v : Word) (x : Nat) : ((s.setTreg lt off v).tile x).stepQueue = (s.tile x).stepQueue := by
  rw [State.setTreg, State.tile_modTile]; split
  · next h => rw [h]
  · rfl
@[simp] theorem State.setTfld_tile_stepQueue (s : State) (lt off hi lo v : Nat) (x : Nat) : ((s.setTfld lt off hi lo v).tile x).stepQueue = (s.tile x).stepQueue := State.setTreg_tile_stepQueue ..
@[simp] theorem State.setTbit_tile_stepQueue (s : State) (lt off i : Nat) (b : Bool) (x : Nat) : ((s.setTbit lt off i b).tile x).stepQueue = (s.tile x).stepQueue := State.setTreg_tile_stepQueue ..
@[simp] theorem modTcc_tile_stepQueue (s : State) (lt : Nat) (g : Tcc → Tcc) (x : Nat) : ((modTcc s lt g).tile x).stepQueue = (s.tile x).stepQueue := by
  rw [tile_modTcc]; split
  · next h => rw [h]
  · rfl
@[simp] theorem modLane_tile_stepQueue (s : State) (lt n : Nat) (g : LaneCore → LaneCore) (x : Nat) : ((modLane s lt n g).tile x).stepQueue = (s.tile x).stepQueue := by
  rw [tile_modLane]; split
  · next h => rw [h]
  · rfl
@[simp] theorem State.setTreg_tile_steps (s : State) (lt off : Nat) (v : Word) (x : Nat) : ((s.setTreg lt off v).tile x).steps = (s.tile x).steps := by
  rw [State.setTreg, State.tile_modTile]; split
  · next h => rw [h]
  · rfl
@[simp] theorem State.setTfld_tile_steps (s : State) (lt off hi lo v : Nat) (x : Nat) : ((s.setTfld lt off hi lo v).tile x).steps = (s.tile x).steps := State.setTreg_tile_steps ..
@[simp] theorem State.setTbit_tile_steps (s : State) (lt off i : Nat) (b : Bool) (x : Nat) : ((s.setTbit lt off i b).tile x).steps = (s.tile x).steps := State.setTreg_tile_steps ..
@[simp] theorem modTcc_tile_steps (s : State) (lt : Nat) (g : Tcc → Tcc) (x : Nat) : ((modTcc s lt g).tile x).steps = (s.tile x).steps := by
  rw [tile_modTcc]; split
  · next h => rw [h]
  · rfl
@[simp] theorem modLane_tile_steps (s : State) (lt n : Nat) (g : LaneCore → LaneCore) (x : Nat) : ((modLane s lt n g).tile x).steps = (s.tile x).steps := by
  rw [tile_modLane]; split
  · next h => rw [h]
  · rfl
@[simp] theorem State.setTreg_tile_stallsTold (s : State) (lt off : Nat) (v : Word) (x : Nat) : ((s.setTreg lt off v).tile x).stallsTold = (s.tile x).stallsTold := by
  rw [State.setTreg, State.tile_modTile]; split
  · next h => rw [h]
  · rfl
@[simp] theorem State.setTfld_tile_stallsTold (s : State) (lt off hi lo v : Nat) (x : Nat) : ((s.setTfld lt off hi lo v).tile x).stallsTold = (s.tile x).stallsTold := State.setTreg_tile_stallsTold ..
@[simp] theorem State.setTbit_tile_stallsTold (s : State) (lt off i : Nat) (b : Bool) (x : Nat) : ((s.setTbit lt off i b).tile x).stallsTold = (s.tile x).stallsTold := State.setTreg_tile_stallsTold ..
@[simp] theorem modTcc_tile_stallsTold (s : State) (lt : Nat) (g : Tcc → Tcc) (x : Nat) : ((modTcc s lt g).tile x).stallsTold = (s.tile x).stallsTold := by
  rw [tile_modTcc]; split
  · next h => rw [h]
  · rfl
@[simp] theorem modLane_tile_stallsTold (s : State) (lt n : Nat) (g : LaneCore → LaneCore) (x : Nat) : ((modLane s lt n g).tile x).stallsTold = (s.tile x).stallsTold := by
  rw [tile_modLane]; split
  · next h => rw [h]
  · rfl
@[simp] theorem State.setTreg_tile_loaded (s : State) (lt off : Nat) (v : Word) (x : Nat) : ((s.setTreg lt off v).tile x).loaded = (s.tile x).loaded := by
  rw [State.setTreg, State.tile_modTile]; split
  · next h => rw [h]
  · rfl
@[simp] theorem State.setTfld_tile_loaded (s : State) (lt off hi lo v : Nat) (x : Nat) : ((s.setTfld lt off hi lo v).tile x).loaded = (s.tile x).loaded := State.setTreg_tile_loaded ..
@[simp] theorem State.setTbit_tile_loaded (s : State) (lt off i : Nat) (b : Bool) (x : Nat) : ((s.setTbit lt off i b).tile x).loaded = (s.tile x).loaded := State.setTreg_tile_loaded ..
@[simp] theorem modTcc_tile_loaded (s : State) (lt : Nat) (g : Tcc → Tcc) (x : Nat) : ((modTcc s lt g).tile x).loaded = (s.tile x).loaded := by
  rw [tile_modTcc]; split
  · next h => rw [h]
  · rfl
@[simp] theorem modLane_tile_loaded (s : State) (lt n : Nat) (g : LaneCore → LaneCore) (x : Nat) : ((modLane s lt n g).tile x).loaded = (s.tile x).loaded := by
  rw [tile_modLane]; split
  · next h => rw [h]
  · rfl
@[simp] theorem State.setTreg_tile_preStop (s : State) (lt off : Nat) (v : Word) (x : Nat) : ((s.setTreg lt off v).tile x).preStop = (s.tile x).preStop := by
  rw [State.setTreg, State.tile_modTile]; split
  · next h => rw [h]
  · rfl
@[simp] theorem State.setTfld_tile_preStop (s : State) (lt off hi lo v : Nat) (x : Nat) : ((s.setTfld lt off hi lo v).tile x).preStop = (s.tile x).preStop := State.setTreg_tile_preStop ..
@[simp] theorem State.setTbit_tile_preStop (s : State) (lt off i : Nat) (b : Bool) (x : Nat) : ((s.setTbit lt off i b).tile x).preStop = (s.tile x).preStop := State.setTreg_tile_preStop ..
@[simp] theorem modTcc_tile_preStop (s : State) (lt : Nat) (g : Tcc → Tcc) (x : Nat) : ((modTcc s lt g).tile x).preStop = (s.tile x).preStop := by
  rw [tile_modTcc]; split
  · next h => rw [h]
  · rfl
@[simp] theorem modLane_tile_preStop (s : State) (lt n : Nat) (g : LaneCore → LaneCore) (x : Nat) : ((modLane s lt n g).tile x).preStop = (s.tile x).preStop := by
  rw [tile_modLane]; split
  · next h => rw [h]
  · rfl
@[simp] theorem State.setTreg_tile_asleep (s : State) (lt off : Nat) (v : Word) (x : Nat) : ((s.setTreg lt off v).tile x).asleep = (s.tile x).asleep := by
  rw [State.setTreg, State.tile_modTile]; split
  · next h => rw [h]
  · rfl
@[simp] theorem State.setTfld_tile_asleep (s : State) (lt off hi lo v : Nat) (x : Nat) : ((s.setTfld lt off hi lo v).tile x).asleep = (s.tile x).asleep := State.setTreg_tile_asleep ..
@[simp] theorem State.setTbit_tile_asleep (s : State) (lt off i : Nat) (b : Bool) (x : Nat) : ((s.setTbit lt off i b).tile x).asleep = (s.tile x).asleep := State.setTreg_tile_asleep ..
@[simp] theorem modTcc_tile_asleep (s : State) (lt : Nat) (g : Tcc → Tcc) (x : Nat) : ((modTcc s lt g).tile x).asleep = (s.tile x).asleep := by
  rw [tile_modTcc]; split
  · next h => rw [h]
  · rfl
@[simp] theorem modLane_tile_asleep (s : State) (lt n : Nat) (g : LaneCore → LaneCore) (x : Nat) : ((modLane s lt n g).tile x).asleep = (s.tile x).asleep := by
  rw [tile_modLane]; split
  · next h => rw [h]
  · rfl
@[simp] theorem State.setTreg_tile_me (s : State) (lt off : Nat) (v : Word) (x : Nat) : ((s.setTreg lt off v).tile x).me = (s.tile x).me := by
  rw [State.setTreg, State.tile_modTile]; split
  · next h => rw [h]
  · rfl
@[simp] theorem State.setTfld_tile_me (s : State) (lt off hi lo v : Nat) (x : Nat) : ((s.setTfld lt off hi lo v).tile x).me = (s.tile x).me := State.setTreg_tile_me ..
@[simp] theorem State.setTbit_tile_me (s : State) (lt off i : Nat) (b : Bool) (x : Nat) : ((s.setTbit lt off i b).tile x).me = (s.tile x).me := State.setTreg_tile_me ..
@[simp] theorem modTcc_tile_me (s : State) (lt : Nat) (g : Tcc → Tcc) (x : Nat) : ((modTcc s lt g).tile x).me = (s.tile x).me := by
  rw [tile_modTcc]; split
  · next h => rw [h]
  · rfl
@[simp] theorem modLane_tile_me (s : State) (lt n : Nat) (g : LaneCore → LaneCore) (x : Nat) : ((modLane s lt n g).tile x).me = (s.tile x).me := by
  rw [tile_modLane]; split
  · next h => rw [h]
  · rfl
@[simp] theorem State.setTreg_tile_palMarks (s : State) (lt off : Nat) (v : Word) (x : Nat) : ((s.setTreg lt off v).tile x).palMarks = (s.tile x).palMarks := by
  rw [State.setTreg, State.tile_modTile]; split
  · next h => rw [h]
  · rfl
@[simp] theorem State.setTfld_tile_palMarks (s : State) (lt off hi lo v : Nat) (x : Nat) : ((s.setTfld lt off hi lo v).tile x).palMarks = (s.tile x).palMarks := State.setTreg_tile_palMarks ..
@[simp] theorem State.setTbit_tile_palMarks (s : State) (lt off i : Nat) (b : Bool) (x : Nat) : ((s.setTbit lt off i b).tile x).palMarks = (s.tile x).palMarks := State.setTreg_tile_palMarks ..
@[simp] theorem modTcc_tile_palMarks (s : State) (lt : Nat) (g : Tcc → Tcc) (x : Nat) : ((modTcc s lt g).tile x).palMarks = (s.tile x).palMarks := by
  rw [tile_modTcc]; split
  · next h => rw [h]
  · rfl
@[simp] theorem modLane_tile_palMarks (s : State) (lt n : Nat) (g : LaneCore → LaneCore) (x : Nat) : ((modLane s lt n g).tile x).palMarks = (s.tile x).palMarks := by
  rw [tile_modLane]; split
  · next h => rw [h]
  · rfl
@[simp] theorem State.setTreg_tile_rtu (s : State) (lt off : Nat) (v : Word) (x : Nat) : ((s.setTreg lt off v).tile x).rtu = (s.tile x).rtu := by
  rw [State.setTreg, State.tile_modTile]; split
  · next h => rw [h]
  · rfl
@[simp] theorem State.setTfld_tile_rtu (s : State) (lt off hi lo v : Nat) (x : Nat) : ((s.setTfld lt off hi lo v).tile x).rtu = (s.tile x).rtu := State.setTreg_tile_rtu ..
@[simp] theorem State.setTbit_tile_rtu (s : State) (lt off i : Nat) (b : Bool) (x : Nat) : ((s.setTbit lt off i b).tile x).rtu = (s.tile x).rtu := State.setTreg_tile_rtu ..
@[simp] theorem modTcc_tile_rtu (s : State) (lt : Nat) (g : Tcc → Tcc) (x : Nat) : ((modTcc s lt g).tile x).rtu = (s.tile x).rtu := by
  rw [tile_modTcc]; split
  · next h => rw [h]
  · rfl
@[simp] theorem modLane_tile_rtu (s : State) (lt n : Nat) (g : LaneCore → LaneCore) (x : Nat) : ((modLane s lt n g).tile x).rtu = (s.tile x).rtu := by
  rw [tile_modLane]; split
  · next h => rw [h]
  · rfl
@[simp] theorem State.setTreg_tile_rtuHeldIn (s : State) (lt off : Nat) (v : Word) (x : Nat) : ((s.setTreg lt off v).tile x).rtuHeldIn = (s.tile x).rtuHeldIn := by
  rw [State.setTreg, State.tile_modTile]; split
  · next h => rw [h]
  · rfl
@[simp] theorem State.setTfld_tile_rtuHeldIn (s : State) (lt off hi lo v : Nat) (x : Nat) : ((s.setTfld lt off hi lo v).tile x).rtuHeldIn = (s.tile x).rtuHeldIn := State.setTreg_tile_rtuHeldIn ..
@[simp] theorem State.setTbit_tile_rtuHeldIn (s : State) (lt off i : Nat) (b : Bool) (x : Nat) : ((s.setTbit lt off i b).tile x).rtuHeldIn = (s.tile x).rtuHeldIn := State.setTreg_tile_rtuHeldIn ..
@[simp] theorem modTcc_tile_rtuHeldIn (s : State) (lt : Nat) (g : Tcc → Tcc) (x : Nat) : ((modTcc s lt g).tile x).rtuHeldIn = (s.tile x).rtuHeldIn := by
  rw [tile_modTcc]; split
  · next h => rw [h]
  · rfl
@[simp] theorem modLane_tile_rtuHeldIn (s : State) (lt n : Nat) (g : LaneCore → LaneCore) (x : Nat) : ((modLane s lt n g).tile x).rtuHeldIn = (s.tile x).rtuHeldIn := by
  rw [tile_modLane]; split
  · next h => rw [h]
  · rfl
@[simp] theorem State.setTreg_tile_sk (s : State) (lt off : Nat) (v : Word) (x : Nat) : ((s.setTreg lt off v).tile x).sk = (s.tile x).sk := by
  rw [State.setTreg, State.tile_modTile]; split
  · next h => rw [h]
  · rfl
@[simp] theorem State.setTfld_tile_sk (s : State) (lt off hi lo v : Nat) (x : Nat) : ((s.setTfld lt off hi lo v).tile x).sk = (s.tile x).sk := State.setTreg_tile_sk ..
@[simp] theorem State.setTbit_tile_sk (s : State) (lt off i : Nat) (b : Bool) (x : Nat) : ((s.setTbit lt off i b).tile x).sk = (s.tile x).sk := State.setTreg_tile_sk ..
@[simp] theorem modTcc_tile_sk (s : State) (lt : Nat) (g : Tcc → Tcc) (x : Nat) : ((modTcc s lt g).tile x).sk = (s.tile x).sk := by
  rw [tile_modTcc]; split
  · next h => rw [h]
  · rfl
@[simp] theorem modLane_tile_sk (s : State) (lt n : Nat) (g : LaneCore → LaneCore) (x : Nat) : ((modLane s lt n g).tile x).sk = (s.tile x).sk := by
  rw [tile_modLane]; split
  · next h => rw [h]
  · rfl
@[simp] theorem State.setTreg_tile_cntPrev (s : State) (lt off : Nat) (v : Word) (x : Nat) : ((s.setTreg lt off v).tile x).cntPrev = (s.tile x).cntPrev := by
  rw [State.setTreg, State.tile_modTile]; split
  · next h => rw [h]
  · rfl
@[simp] theorem State.setTfld_tile_cntPrev (s : State) (lt off hi lo v : Nat) (x : Nat) : ((s.setTfld lt off hi lo v).tile x).cntPrev = (s.tile x).cntPrev := State.setTreg_tile_cntPrev ..
@[simp] theorem State.setTbit_tile_cntPrev (s : State) (lt off i : Nat) (b : Bool) (x : Nat) : ((s.setTbit lt off i b).tile x).cntPrev = (s.tile x).cntPrev := State.setTreg_tile_cntPrev ..
@[simp] theorem modTcc_tile_cntPrev (s : State) (lt : Nat) (g : Tcc → Tcc) (x : Nat) : ((modTcc s lt g).tile x).cntPrev = (s.tile x).cntPrev := by
  rw [tile_modTcc]; split
  · next h => rw [h]
  · rfl
@[simp] theorem modLane_tile_cntPrev (s : State) (lt n : Nat) (g : LaneCore → LaneCore) (x : Nat) : ((modLane s lt n g).tile x).cntPrev = (s.tile x).cntPrev := by
  rw [tile_modLane]; split
  · next h => rw [h]
  · rfl
@[simp] theorem State.setTreg_tile_cntDelta (s : State) (lt off : Nat) (v : Word) (x : Nat) : ((s.setTreg lt off v).tile x).cntDelta = (s.tile x).cntDelta := by
  rw [State.setTreg, State.tile_modTile]; split
  · next h => rw [h]
  · rfl
@[simp] theorem State.setTfld_tile_cntDelta (s : State) (lt off hi lo v : Nat) (x : Nat) : ((s.setTfld lt off hi lo v).tile x).cntDelta = (s.tile x).cntDelta := State.setTreg_tile_cntDelta ..
@[simp] theorem State.setTbit_tile_cntDelta (s : State) (lt off i : Nat) (b : Bool) (x : Nat) : ((s.setTbit lt off i b).tile x).cntDelta = (s.tile x).cntDelta := State.setTreg_tile_cntDelta ..
@[simp] theorem modTcc_tile_cntDelta (s : State) (lt : Nat) (g : Tcc → Tcc) (x : Nat) : ((modTcc s lt g).tile x).cntDelta = (s.tile x).cntDelta := by
  rw [tile_modTcc]; split
  · next h => rw [h]
  · rfl
@[simp] theorem modLane_tile_cntDelta (s : State) (lt n : Nat) (g : LaneCore → LaneCore) (x : Nat) : ((modLane s lt n g).tile x).cntDelta = (s.tile x).cntDelta := by
  rw [tile_modLane]; split
  · next h => rw [h]
  · rfl
@[simp] theorem State.setTreg_tile_estRaw (s : State) (lt off : Nat) (v : Word) (x : Nat) : ((s.setTreg lt off v).tile x).estRaw = (s.tile x).estRaw := by
  rw [State.setTreg, State.tile_modTile]; split
  · next h => rw [h]
  · rfl
@[simp] theorem State.setTfld_tile_estRaw (s : State) (lt off hi lo v : Nat) (x : Nat) : ((s.setTfld lt off hi lo v).tile x).estRaw = (s.tile x).estRaw := State.setTreg_tile_estRaw ..
@[simp] theorem State.setTbit_tile_estRaw (s : State) (lt off i : Nat) (b : Bool) (x : Nat) : ((s.setTbit lt off i b).tile x).estRaw = (s.tile x).estRaw := State.setTreg_tile_estRaw ..
@[simp] theorem modTcc_tile_estRaw (s : State) (lt : Nat) (g : Tcc → Tcc) (x : Nat) : ((modTcc s lt g).tile x).estRaw = (s.tile x).estRaw := by
  rw [tile_modTcc]; split
  · next h => rw [h]
  · rfl
@[simp] theorem modLane_tile_estRaw (s : State) (lt n : Nat) (g : LaneCore → LaneCore) (x : Nat) : ((modLane s lt n g).tile x).estRaw = (s.tile x).estRaw := by
  rw [tile_modLane]; split
  · next h => rw [h]
  · rfl
@[simp] theorem State.setTreg_tile_slotsUsed (s : State) (lt off : Nat) (v : Word) (x : Nat) : ((s.setTreg lt off v).tile x).slotsUsed = (s.tile x).slotsUsed := by
  rw [State.setTreg, State.tile_modTile]; split
  · next h => rw [h]
  · rfl
@[simp] theorem State.setTfld_tile_slotsUsed (s : State) (lt off hi lo v : Nat) (x : Nat) : ((s.setTfld lt off hi lo v).tile x).slotsUsed = (s.tile x).slotsUsed := State.setTreg_tile_slotsUsed ..
@[simp] theorem State.setTbit_tile_slotsUsed (s : State) (lt off i : Nat) (b : Bool) (x : Nat) : ((s.setTbit lt off i b).tile x).slotsUsed = (s.tile x).slotsUsed := State.setTreg_tile_slotsUsed ..
@[simp] theorem modTcc_tile_slotsUsed (s : State) (lt : Nat) (g : Tcc → Tcc) (x : Nat) : ((modTcc s lt g).tile x).slotsUsed = (s.tile x).slotsUsed := by
  rw [tile_modTcc]; split
  · next h => rw [h]
  · rfl
@[simp] theorem modLane_tile_slotsUsed (s : State) (lt n : Nat) (g : LaneCore → LaneCore) (x : Nat) : ((modLane s lt n g).tile x).slotsUsed = (s.tile x).slotsUsed := by
  rw [tile_modLane]; split
  · next h => rw [h]
  · rfl
@[simp] theorem State.setTreg_tile_winJob (s : State) (lt off : Nat) (v : Word) (x : Nat) : ((s.setTreg lt off v).tile x).winJob = (s.tile x).winJob := by
  rw [State.setTreg, State.tile_modTile]; split
  · next h => rw [h]
  · rfl
@[simp] theorem State.setTfld_tile_winJob (s : State) (lt off hi lo v : Nat) (x : Nat) : ((s.setTfld lt off hi lo v).tile x).winJob = (s.tile x).winJob := State.setTreg_tile_winJob ..
@[simp] theorem State.setTbit_tile_winJob (s : State) (lt off i : Nat) (b : Bool) (x : Nat) : ((s.setTbit lt off i b).tile x).winJob = (s.tile x).winJob := State.setTreg_tile_winJob ..
@[simp] theorem modTcc_tile_winJob (s : State) (lt : Nat) (g : Tcc → Tcc) (x : Nat) : ((modTcc s lt g).tile x).winJob = (s.tile x).winJob := by
  rw [tile_modTcc]; split
  · next h => rw [h]
  · rfl
@[simp] theorem modLane_tile_winJob (s : State) (lt n : Nat) (g : LaneCore → LaneCore) (x : Nat) : ((modLane s lt n g).tile x).winJob = (s.tile x).winJob := by
  rw [tile_modLane]; split
  · next h => rw [h]
  · rfl
@[simp] theorem State.setTreg_tile_winFill (s : State) (lt off : Nat) (v : Word) (x : Nat) : ((s.setTreg lt off v).tile x).winFill = (s.tile x).winFill := by
  rw [State.setTreg, State.tile_modTile]; split
  · next h => rw [h]
  · rfl
@[simp] theorem State.setTfld_tile_winFill (s : State) (lt off hi lo v : Nat) (x : Nat) : ((s.setTfld lt off hi lo v).tile x).winFill = (s.tile x).winFill := State.setTreg_tile_winFill ..
@[simp] theorem State.setTbit_tile_winFill (s : State) (lt off i : Nat) (b : Bool) (x : Nat) : ((s.setTbit lt off i b).tile x).winFill = (s.tile x).winFill := State.setTreg_tile_winFill ..
@[simp] theorem modTcc_tile_winFill (s : State) (lt : Nat) (g : Tcc → Tcc) (x : Nat) : ((modTcc s lt g).tile x).winFill = (s.tile x).winFill := by
  rw [tile_modTcc]; split
  · next h => rw [h]
  · rfl
@[simp] theorem modLane_tile_winFill (s : State) (lt n : Nat) (g : LaneCore → LaneCore) (x : Nat) : ((modLane s lt n g).tile x).winFill = (s.tile x).winFill := by
  rw [tile_modLane]; split
  · next h => rw [h]
  · rfl
@[simp] theorem State.setTreg_tile_fillGate (s : State) (lt off : Nat) (v : Word) (x : Nat) : ((s.setTreg lt off v).tile x).fillGate = (s.tile x).fillGate := by
  rw [State.setTreg, State.tile_modTile]; split
  · next h => rw [h]
  · rfl
@[simp] theorem State.setTfld_tile_fillGate (s : State) (lt off hi lo v : Nat) (x : Nat) : ((s.setTfld lt off hi lo v).tile x).fillGate = (s.tile x).fillGate := State.setTreg_tile_fillGate ..
@[simp] theorem State.setTbit_tile_fillGate (s : State) (lt off i : Nat) (b : Bool) (x : Nat) : ((s.setTbit lt off i b).tile x).fillGate = (s.tile x).fillGate := State.setTreg_tile_fillGate ..
@[simp] theorem modTcc_tile_fillGate (s : State) (lt : Nat) (g : Tcc → Tcc) (x : Nat) : ((modTcc s lt g).tile x).fillGate = (s.tile x).fillGate := by
  rw [tile_modTcc]; split
  · next h => rw [h]
  · rfl
@[simp] theorem modLane_tile_fillGate (s : State) (lt n : Nat) (g : LaneCore → LaneCore) (x : Nat) : ((modLane s lt n g).tile x).fillGate = (s.tile x).fillGate := by
  rw [tile_modLane]; split
  · next h => rw [h]
  · rfl
@[simp] theorem State.setTreg_tile_preL (s : State) (lt off : Nat) (v : Word) (x : Nat) : ((s.setTreg lt off v).tile x).preL = (s.tile x).preL := by
  rw [State.setTreg, State.tile_modTile]; split
  · next h => rw [h]
  · rfl
@[simp] theorem State.setTfld_tile_preL (s : State) (lt off hi lo v : Nat) (x : Nat) : ((s.setTfld lt off hi lo v).tile x).preL = (s.tile x).preL := State.setTreg_tile_preL ..
@[simp] theorem State.setTbit_tile_preL (s : State) (lt off i : Nat) (b : Bool) (x : Nat) : ((s.setTbit lt off i b).tile x).preL = (s.tile x).preL := State.setTreg_tile_preL ..
@[simp] theorem modTcc_tile_preL (s : State) (lt : Nat) (g : Tcc → Tcc) (x : Nat) : ((modTcc s lt g).tile x).preL = (s.tile x).preL := by
  rw [tile_modTcc]; split
  · next h => rw [h]
  · rfl
@[simp] theorem modLane_tile_preL (s : State) (lt n : Nat) (g : LaneCore → LaneCore) (x : Nat) : ((modLane s lt n g).tile x).preL = (s.tile x).preL := by
  rw [tile_modLane]; split
  · next h => rw [h]
  · rfl
@[simp] theorem State.setTreg_tile_rampB0 (s : State) (lt off : Nat) (v : Word) (x : Nat) : ((s.setTreg lt off v).tile x).rampB0 = (s.tile x).rampB0 := by
  rw [State.setTreg, State.tile_modTile]; split
  · next h => rw [h]
  · rfl
@[simp] theorem State.setTfld_tile_rampB0 (s : State) (lt off hi lo v : Nat) (x : Nat) : ((s.setTfld lt off hi lo v).tile x).rampB0 = (s.tile x).rampB0 := State.setTreg_tile_rampB0 ..
@[simp] theorem State.setTbit_tile_rampB0 (s : State) (lt off i : Nat) (b : Bool) (x : Nat) : ((s.setTbit lt off i b).tile x).rampB0 = (s.tile x).rampB0 := State.setTreg_tile_rampB0 ..
@[simp] theorem modTcc_tile_rampB0 (s : State) (lt : Nat) (g : Tcc → Tcc) (x : Nat) : ((modTcc s lt g).tile x).rampB0 = (s.tile x).rampB0 := by
  rw [tile_modTcc]; split
  · next h => rw [h]
  · rfl
@[simp] theorem modLane_tile_rampB0 (s : State) (lt n : Nat) (g : LaneCore → LaneCore) (x : Nat) : ((modLane s lt n g).tile x).rampB0 = (s.tile x).rampB0 := by
  rw [tile_modLane]; split
  · next h => rw [h]
  · rfl

end Sys2Proof.Machine
end

