-- ==== Sys2Proof/Laws/Mem.lean ====
section
/-!
SUPPORT. Byte memory: every operation keeps the canonical form, and what a read gives after a write.
-/
namespace Sys2Proof.Machine

open Sys2Proof

/-! ### The canonical form -/

theorem memWfFrom_mono {lo lo' : Nat} {m : Memory} (h : memWfFrom lo m = true) (hl : lo' ≤ lo) : memWfFrom lo' m = true := by
  cases m with
  | nil => rfl
  | cons p r => obtain ⟨a, b⟩ := p; simp [memWfFrom] at h ⊢; exact ⟨⟨by omega, h.1.2⟩, h.2⟩

theorem memWfFrom_memSet {lo : Nat} {m : Memory} (x : Nat) (v : Byte) (h : memWfFrom lo m = true) (hx : lo ≤ x) :
    memWfFrom lo (memSet m x v) = true := by
  induction m generalizing lo with
  | nil => by_cases hv : v = memDefault <;> simp [memSet, hv, memWfFrom, hx]
  | cons p r ih =>
    obtain ⟨a, b⟩ := p
    simp only [memWfFrom, Bool.and_eq_true, decide_eq_true_eq] at h
    obtain ⟨⟨h1, h2⟩, h3⟩ := h
    simp only [memSet]
    split
    · subst_vars
      split
      · exact memWfFrom_mono h3 (by omega)
      · simp_all [memWfFrom]
    · split
      · split
        · simp_all [memWfFrom]
        · simp only [memWfFrom, Bool.and_eq_true, decide_eq_true_eq]
          exact ⟨⟨hx, ‹_›⟩, ⟨by omega, h2⟩, h3⟩
      · simp only [memWfFrom, Bool.and_eq_true, decide_eq_true_eq]
        exact ⟨⟨h1, h2⟩, ih h3 (by omega)⟩

/-- Writing a byte keeps the canonical form. -/
theorem Memory.wf_memSet {m : Memory} (x : Nat) (v : Byte) (h : Memory.wf m = true) : Memory.wf (memSet m x v) = true :=
  memWfFrom_memSet x v h (Nat.zero_le _)

/-- Writing bytes keeps the canonical form. -/
theorem Memory.wf_memPut {m : Memory} (a : Nat) (bs : List Byte) (h : Memory.wf m = true) : Memory.wf (memPut m a bs) = true := by
  induction bs generalizing m a with
  | nil => exact h
  | cons b r ih => exact ih _ (Memory.wf_memSet _ _ h)

theorem memWfFrom_filter {lo : Nat} {m : Memory} (p : Host.Cell → Bool) (h : memWfFrom lo m = true) : memWfFrom lo (m.filter p) = true := by
  induction m generalizing lo with
  | nil => rfl
  | cons q r ih =>
    obtain ⟨a, b⟩ := q
    simp only [memWfFrom, Bool.and_eq_true, decide_eq_true_eq] at h
    rw [List.filter_cons]
    split
    · simp only [memWfFrom, Bool.and_eq_true, decide_eq_true_eq]; exact ⟨h.1, ih h.2⟩
    · exact memWfFrom_mono (ih h.2) (by omega)

/-- Taking entries out keeps the canonical form. -/
theorem Memory.wf_filter {m : Memory} (p : Host.Cell → Bool) (h : Memory.wf m = true) : Memory.wf (m.filter p) = true :=
  memWfFrom_filter p h

/-- The memory of every tile at reset is in its canonical form. -/
theorem Memory.wf_reset (lt : Nat) : Memory.wf (State.reset.tile lt).mem = true := rfl

/-- A store keeps the canonical form of every tile's memory. -/
theorem wf_memStore {s : State} (h : ∀ lt, Memory.wf (s.tile lt).mem = true) (lt off : Nat) (bs : List Byte) (x : Nat) :
    Memory.wf ((memStore s lt off bs).tile x).mem = true := by
  rw [memStore, State.tile_modTile]
  split
  · exact Memory.wf_memPut _ _ (h lt)
  · exact h x

/-- Erasing a bank keeps the canonical form of every tile's memory. -/
theorem wf_eraseBank {s : State} (h : ∀ lt, Memory.wf (s.tile lt).mem = true) (lt b : Nat) (x : Nat) :
    Memory.wf ((eraseBank s lt b).tile x).mem = true := by
  rw [eraseBank, State.tile_modTile]
  split
  · exact Memory.wf_filter _ (h lt)
  · exact h x

/-! ### Reads -/

theorem memGet_below {lo : Nat} {m : Memory} (h : memWfFrom lo m = true) {x : Nat} (hx : x < lo) : memGet m x = memDefault := by
  cases m with
  | nil => rfl
  | cons p r =>
    obtain ⟨a, b⟩ := p
    simp only [memWfFrom, Bool.and_eq_true, decide_eq_true_eq] at h
    have h1 : a ≠ x := by omega
    have h2 : x < a := by omega
    simp [memGet, h1, h2]

theorem memGet_memSet_from {lo : Nat} {m : Memory} (h : memWfFrom lo m = true) (x y : Nat) (v : Byte) :
    memGet (memSet m x v) y = if y = x then v else memGet m y := by
  induction m generalizing lo with
  | nil =>
    by_cases hv : v = memDefault
    · simp [memSet, hv, memGet]
    · by_cases hy : y = x
      · simp [memSet, hv, memGet, hy]
      · simp [memSet, hv, memGet, hy, Ne.symm hy]
  | cons p r ih =>
    obtain ⟨a, b⟩ := p
    simp only [memWfFrom, Bool.and_eq_true, decide_eq_true_eq] at h
    obtain ⟨⟨h1, h2⟩, h3⟩ := h
    have hlow : ∀ y, y ≤ a → memGet r y = memDefault := fun y hy => memGet_below h3 (by omega)
    simp only [memSet]
    split
    · next hax =>
      subst hax
      split
      · next hv =>
        by_cases hy : y = a
        · simp [hy, hv, hlow a (le_refl a)]
        · simp only [memGet, hy, Ne.symm hy, if_false]
          split
          · exact hlow y (by omega)
          · rfl
      · by_cases hy : y = a
        · simp [memGet, hy]
        · simp [memGet, hy, Ne.symm hy]
    · next hax =>
      split
      · next hxa =>
        split
        · next hv =>
          by_cases hy : y = x
          · have h5 : y < a := by omega
            simp [memGet, hy, hv, hax, hxa]
          · simp [hy]
        · by_cases hy : y = x
          · simp [memGet, hy]
          · simp only [memGet, hy, Ne.symm hy, if_false]
            by_cases hyx : y < x
            · have h5 : a ≠ y := by omega
              have h6 : y < a := by omega
              simp [hyx, h5, h6]
            · simp [hyx]
      · next hxa =>
        by_cases hy : y = x
        · subst hy; simp [memGet, hax, hxa, ih h3]
        · simp only [memGet, ih h3, hy, if_false]

/-- A byte read after a byte written. -/
theorem memGet_memSet {m : Memory} (h : Memory.wf m = true) (x y : Nat) (v : Byte) :
    memGet (memSet m x v) y = if y = x then v else memGet m y := memGet_memSet_from h x y v

/-- A byte read after bytes written. -/
theorem memGet_memPut {m : Memory} (h : Memory.wf m = true) (a : Nat) (bs : List Byte) (y : Nat) :
    memGet (memPut m a bs) y = if a ≤ y ∧ y < a + bs.length then bs.getD (y - a) 0 else memGet m y := by
  induction bs generalizing m a with
  | nil => simp [memPut]
  | cons b r ih =>
    simp only [memPut, ih (Memory.wf_memSet _ _ h), memGet_memSet h, List.length_cons]
    by_cases h1 : y = a
    · subst h1; simp
    · by_cases h2 : a + 1 ≤ y ∧ y < a + 1 + r.length
      · have h3 : a ≤ y ∧ y < a + (r.length + 1) := by omega
        have h4 : y - a = (y - (a + 1)) + 1 := by omega
        simp only [h2, h3, and_self, if_true]
        rw [h4]; simp
      · have h3 : ¬ (a ≤ y ∧ y < a + (r.length + 1)) := by omega
        simp only [h2, h3, if_false, h1]

/-- Bytes read where bytes have been written. -/
theorem memBytes_memPut {m : Memory} (h : Memory.wf m = true) (a : Nat) (bs : List Byte) :
    memBytes (memPut m a bs) a bs.length = bs := by
  apply List.ext_getElem
  · simp [memBytes]
  · intro i h1 h2
    simp only [memBytes, List.getElem_map, List.getElem_range, memGet_memPut h]
    have h3 : a ≤ a + i ∧ a + i < a + bs.length := by omega
    simp [h3, h2]

/-- The bytes of a tile after a store: the bytes stored in their range, the old ones elsewhere. -/
theorem memGet_memStore {s : State} {lt : Nat} (h : Memory.wf (s.tile lt).mem = true) (off : Nat) (bs : List Byte) (x y : Nat) :
    memGet ((memStore s lt off bs).tile x).mem y =
      if x = lt ∧ off ≤ y ∧ y < off + bs.length then bs.getD (y - off) 0 else memGet (s.tile x).mem y := by
  rw [memStore, State.tile_modTile]
  by_cases hx : x = lt
  · subst hx; simp [memGet_memPut h]
  · simp [hx]

end Sys2Proof.Machine
end

