-- ==== Sys2Proof/Laws/Insn.lean ====
section
/-!
SUPPORT. What the attempt of one instruction can do, and the reads and writes of a core's registers.
-/
namespace Sys2Proof.Machine

open Sys2Proof

/-! ### The attempt of an instruction -/

/-- An instruction that issues ends as its own effect says, on the state after its fetch. -/
theorem insn_of_issues {lt : Nat} {c : CoreId} {len : Nat} {w : Where} {s : State} (word : Word) (body : State → InsnOut)
    (h : issues s lt c len w = true) : insn lt c len word w body s = .next (finish lt c len (body (fetched s lt c len))) := by
  simp only [issues, Bool.and_eq_true, decide_eq_true_eq, Option.isNone_iff_eq_none] at h
  obtain ⟨⟨⟨⟨⟨⟨⟨h1, h2⟩, h3⟩, h0⟩, h4⟩, h5⟩, h6⟩, h7⟩ := h
  simp only [insn, h1, h2, and_self, if_true, attempt, h3, Bool.not_true, Bool.false_eq_true, if_false, h0]
  congr 1
  cases hf : fetchInsn (setWait s lt c none) lt c (fetchLen c len) with
  | mk s1 o =>
    rw [hf] at h4
    subst h4
    simp only [fetched, hf] at h6 h7 ⊢
    simp only [h5, h7, Bool.not_true, Bool.false_or, Bool.false_eq_true, if_false]
    cases hh : isTcc c && inHandler s1 lt <;> simp_all

theorem ite_three {α : Type} (p q : Prop) [Decidable p] [Decidable q] (x y z : α) :
    (if p then x else if q then y else z) = x ∨ (if p then x else if q then y else z) = y ∨ (if p then x else if q then y else z) = z := by
  by_cases hp : p <;> by_cases hq : q <;> simp [hp, hq]

/-- What an instruction can do: nothing at all on a core that issues nothing, the trap or interrupt that goes before it, a fetch fault, a trap
for the kind of core, the handler or the level, or its own effect. -/
theorem attempt_cases (lt : Nat) (c : CoreId) (len : Nat) (word : Word) (w : Where) (body : State → InsnOut) (s : State) :
    (canIssue s lt c = false ∧ attempt lt c len word w body s = s) ∨
    (∃ s1, coreFirst s lt c = some s1 ∧ attempt lt c len word w body s = s1) ∨
    (∃ st, (fetchInsn (setWait s lt c none) lt c (fetchLen c len)).2 = some st ∧
      attempt lt c len word w body s = coreTrap (fetched s lt c len) lt c causeFetch st (some (pcOf (fetched s lt c len) lt c)) 0) ∨
    (attempt lt c len word w body s = coreTrap (fetched s lt c len) lt c causeIllegal stOk (some (word.setWidth 64)) 0) ∨
    (attempt lt c len word w body s = coreTrap (fetched s lt c len) lt c causePriv stOk (some (word.setWidth 64)) 0) ∨
    (attempt lt c len word w body s = finish lt c len (body (fetched s lt c len))) := by
  simp only [attempt, fetched]
  cases hc : canIssue s lt c
  · exact Or.inl ⟨rfl, by simp⟩
  · right
    simp only [Bool.not_true, Bool.false_eq_true, if_false]
    cases h0 : coreFirst s lt c with
    | some s1 => exact Or.inl ⟨s1, rfl, rfl⟩
    | none =>
      right
      cases hf : fetchInsn (setWait s lt c none) lt c (fetchLen c len) with
      | mk s1 o =>
        cases o with
        | some st => exact Or.inl ⟨st, rfl, by simp⟩
        | none =>
          right
          simp only []
          apply ite_three

end Sys2Proof.Machine
end

