-- ==== Sys2Proof/WellFormed.lean ====
section
/-!
DEFINITION. Which commands name hardware that exists: a tile selector below 1,320, a lane core below 256, a field controller, region, port,
PLL, physical tile, connection, part or bundle of the module (00, R16; 02, R35 to R37; 14, R345; 17, R415; 20, R476).
-/
namespace Sys2Proof

/-- A logical tile's selector (00, R16). -/
def tileOk (lt : Nat) : Bool := lt < 1320

/-- A core of a tile (04, R87). -/
def coreOk (c : CoreId) : Bool :=
  match c with
  | .tcc => true
  | .lane n => n < 256

/-- A physical tile (02, R35). -/
def ptOk (pt : Nat) : Bool := pt < 1440

/-- A field controller (02, R36). -/
def fcOk (f : Nat) : Bool := f < 60

/-- A region (02, R36). -/
def regionOk (r : Nat) : Bool := r < 30

/-- A fabric port (14, R345). -/
def portOk (p : Nat) : Bool := p < 120

/-- A PLL (17, R415). -/
def pllOk (n : Nat) : Bool := n < 37

/-- A connection of the Lerux Control Protocol, or 6 for USB (20, R476, R479). -/
def viaOk (via : Nat) : Bool := (1 ≤ via && via ≤ 4) || via == 6

/-- An entry of the parts block (20, R472). -/
def partIdxOk (i : Nat) : Bool := i < 16

/-- A fabric bundle (21, R484). -/
def bundleOk (b : Nat) : Bool := b < 12

/-- A message type that Table 20.10 does not list (20, R477). -/
def unknownTypeOk (typ : BitVec 16) : Bool := typ.toNat = 0 || 0x14 < typ.toNat

/-- Whether a command names hardware that exists. -/
def Instr.wellFormed (i : Instr) : Bool :=
  match i with
  | .registerWrite _ _ _ _ => true
  | .clkAonLoRead _ => true
  | .secUnlockCtrLoRead _ => true
  | .reservedOpcode lt c _ _ => tileOk lt && coreOk c
  | .add lt c _ _ _ _ => tileOk lt && coreOk c
  | .sub lt c _ _ _ _ => tileOk lt && coreOk c
  | .and lt c _ _ _ _ => tileOk lt && coreOk c
  | .or lt c _ _ _ _ => tileOk lt && coreOk c
  | .xor lt c _ _ _ _ => tileOk lt && coreOk c
  | .sll lt c _ _ _ _ => tileOk lt && coreOk c
  | .srl lt c _ _ _ _ => tileOk lt && coreOk c
  | .sra lt c _ _ _ _ => tileOk lt && coreOk c
  | .slt lt c _ _ _ _ => tileOk lt && coreOk c
  | .sltu lt c _ _ _ _ => tileOk lt && coreOk c
  | .min lt c _ _ _ _ => tileOk lt && coreOk c
  | .max lt c _ _ _ _ => tileOk lt && coreOk c
  | .minu lt c _ _ _ _ => tileOk lt && coreOk c
  | .maxu lt c _ _ _ _ => tileOk lt && coreOk c
  | .mul lt c _ _ _ _ => tileOk lt && coreOk c
  | .mulh lt c _ _ _ _ => tileOk lt && coreOk c
  | .mulhu lt c _ _ _ _ => tileOk lt && coreOk c
  | .div lt c _ _ _ _ => tileOk lt && coreOk c
  | .divu lt c _ _ _ _ => tileOk lt && coreOk c
  | .rem lt c _ _ _ _ => tileOk lt && coreOk c
  | .remu lt c _ _ _ _ => tileOk lt && coreOk c
  | .clz lt c _ _ _ _ => tileOk lt && coreOk c
  | .ctz lt c _ _ _ _ => tileOk lt && coreOk c
  | .popc lt c _ _ _ _ => tileOk lt && coreOk c
  | .addi lt c _ _ _ => tileOk lt && coreOk c
  | .andi lt c _ _ _ => tileOk lt && coreOk c
  | .ori lt c _ _ _ => tileOk lt && coreOk c
  | .xori lt c _ _ _ => tileOk lt && coreOk c
  | .cmpiLt lt c _ _ _ => tileOk lt && coreOk c
  | .cmpiLtu lt c _ _ _ => tileOk lt && coreOk c
  | .slli lt c _ _ _ => tileOk lt && coreOk c
  | .srli lt c _ _ _ => tileOk lt && coreOk c
  | .srai lt c _ _ _ => tileOk lt && coreOk c
  | .ldhi lt c _ _ => tileOk lt && coreOk c
  | .ldpc lt c _ _ => tileOk lt && coreOk c
  | .call lt c _ _ => tileOk lt && coreOk c
  | .callR lt c _ _ _ => tileOk lt && coreOk c
  | .brEq lt c _ _ _ => tileOk lt && coreOk c
  | .brNe lt c _ _ _ => tileOk lt && coreOk c
  | .brLt lt c _ _ _ => tileOk lt && coreOk c
  | .brGe lt c _ _ _ => tileOk lt && coreOk c
  | .brLtu lt c _ _ _ => tileOk lt && coreOk c
  | .brGeu lt c _ _ _ => tileOk lt && coreOk c
  | .ld lt c _ _ _ _ => tileOk lt && coreOk c
  | .st lt c _ _ _ _ => tileOk lt && coreOk c
  | .ldTr lt c _ _ _ => tileOk lt && coreOk c
  | .amoSwap lt c _ _ _ _ => tileOk lt && coreOk c
  | .amoAdd lt c _ _ _ _ => tileOk lt && coreOk c
  | .amoAnd lt c _ _ _ _ => tileOk lt && coreOk c
  | .amoOr lt c _ _ _ _ => tileOk lt && coreOk c
  | .amoXor lt c _ _ _ _ => tileOk lt && coreOk c
  | .amoMin lt c _ _ _ _ => tileOk lt && coreOk c
  | .amoMax lt c _ _ _ _ => tileOk lt && coreOk c
  | .amoMinu lt c _ _ _ _ => tileOk lt && coreOk c
  | .amoMaxu lt c _ _ _ _ => tileOk lt && coreOk c
  | .amoCas lt c _ _ _ _ => tileOk lt && coreOk c
  | .boltPush lt c _ _ _ _ => tileOk lt && coreOk c
  | .boltPeek lt c _ _ _ _ => tileOk lt && coreOk c
  | .boltPop lt c _ _ _ _ => tileOk lt && coreOk c
  | .boltRel lt c _ _ _ _ => tileOk lt && coreOk c
  | .chSend lt c _ _ _ _ => tileOk lt && coreOk c
  | .chAm lt c _ _ _ _ => tileOk lt && coreOk c
  | .chClose lt c _ _ _ _ => tileOk lt && coreOk c
  | .chState lt c _ _ _ _ => tileOk lt && coreOk c
  | .semP lt c _ _ _ => tileOk lt && coreOk c
  | .semV lt c _ _ _ => tileOk lt && coreOk c
  | .syncArrive lt c _ _ _ => tileOk lt && coreOk c
  | .syncWait lt c _ _ _ => tileOk lt && coreOk c
  | .syncAdd lt c _ _ _ => tileOk lt && coreOk c
  | .syncRead lt c _ _ _ => tileOk lt && coreOk c
  | .skSwitch lt c _ _ _ => tileOk lt && coreOk c
  | .qGet lt c _ _ _ _ => tileOk lt && coreOk c
  | .qPut lt c _ _ _ _ => tileOk lt && coreOk c
  | .csrR lt c _ _ _ => tileOk lt && coreOk c
  | .csrW lt c _ _ _ => tileOk lt && coreOk c
  | .csrSet lt c _ _ _ => tileOk lt && coreOk c
  | .csrClr lt c _ _ _ => tileOk lt && coreOk c
  | .scall lt c _ _ _ => tileOk lt && coreOk c
  | .eret lt c _ _ _ => tileOk lt && coreOk c
  | .wfi lt c _ _ _ => tileOk lt && coreOk c
  | .fence lt c _ _ _ => tileOk lt && coreOk c
  | .fenceI lt c _ _ _ => tileOk lt && coreOk c
  | .brk lt c _ _ _ => tileOk lt && coreOk c
  | .tlbInv lt c _ _ _ => tileOk lt && coreOk c
  | .itemWait lt c _ _ _ => tileOk lt && coreOk c
  | .itemPoll lt c _ _ _ => tileOk lt && coreOk c
  | .stop lt c _ _ _ => tileOk lt && coreOk c
  | .vfFma lt c _ _ _ _ _ => tileOk lt && coreOk c
  | .vfFms lt c _ _ _ _ _ => tileOk lt && coreOk c
  | .vfFnma lt c _ _ _ _ _ => tileOk lt && coreOk c
  | .vfMul lt c _ _ _ _ _ => tileOk lt && coreOk c
  | .vfAdd lt c _ _ _ _ _ => tileOk lt && coreOk c
  | .vfSub lt c _ _ _ _ _ => tileOk lt && coreOk c
  | .vfMin lt c _ _ _ _ _ => tileOk lt && coreOk c
  | .vfMax lt c _ _ _ _ _ => tileOk lt && coreOk c
  | .viAdd lt c _ _ _ _ _ => tileOk lt && coreOk c
  | .viSub lt c _ _ _ _ _ => tileOk lt && coreOk c
  | .viAnd lt c _ _ _ _ _ => tileOk lt && coreOk c
  | .viOr lt c _ _ _ _ _ => tileOk lt && coreOk c
  | .viXor lt c _ _ _ _ _ => tileOk lt && coreOk c
  | .viSll lt c _ _ _ _ _ => tileOk lt && coreOk c
  | .viSrl lt c _ _ _ _ _ => tileOk lt && coreOk c
  | .viSra lt c _ _ _ _ _ => tileOk lt && coreOk c
  | .vcvtTo lt c _ _ _ _ => tileOk lt && coreOk c
  | .vcvtFrom lt c _ _ _ _ => tileOk lt && coreOk c
  | .vsfuExp2 lt c _ _ _ _ _ => tileOk lt && coreOk c
  | .vsfuLog2 lt c _ _ _ _ _ => tileOk lt && coreOk c
  | .vsfuRcp lt c _ _ _ _ _ => tileOk lt && coreOk c
  | .vsfuRsqrt lt c _ _ _ _ _ => tileOk lt && coreOk c
  | .vsfuSin lt c _ _ _ _ _ => tileOk lt && coreOk c
  | .vsfuCos lt c _ _ _ _ _ => tileOk lt && coreOk c
  | .vld lt c _ _ _ => tileOk lt && coreOk c
  | .vst lt c _ _ _ => tileOk lt && coreOk c
  | .vmovBroadcast lt c _ _ _ _ _ => tileOk lt && coreOk c
  | .vmovExtract lt c _ _ _ _ _ => tileOk lt && coreOk c
  | .vmovInsert lt c _ _ _ _ _ => tileOk lt && coreOk c
  | .vmovPermute lt c _ _ _ _ _ => tileOk lt && coreOk c
  | .vredSum lt c _ _ _ _ _ => tileOk lt && coreOk c
  | .vredMax lt c _ _ _ _ _ => tileOk lt && coreOk c
  | .vredMin lt c _ _ _ _ _ => tileOk lt && coreOk c
  | .radd lt c _ _ _ _ _ => tileOk lt && coreOk c
  | .vcmpEq lt c _ _ _ _ _ => tileOk lt && coreOk c
  | .vcmpLt lt c _ _ _ _ _ => tileOk lt && coreOk c
  | .vcmpLe lt c _ _ _ _ _ => tileOk lt && coreOk c
  | .vcmpNe lt c _ _ _ _ _ => tileOk lt && coreOk c
  | .mmaBf16 lt c _ _ _ _ _ => tileOk lt && coreOk c
  | .mmaFp16 lt c _ _ _ _ _ => tileOk lt && coreOk c
  | .mmaFp8 lt c _ _ _ _ _ => tileOk lt && coreOk c
  | .mmaMx lt c _ _ _ _ _ => tileOk lt && coreOk c
  | .mmaI8 lt c _ _ _ _ _ => tileOk lt && coreOk c
  | .mmaI4 lt c _ _ _ _ _ => tileOk lt && coreOk c
  | .meWload lt c _ _ _ _ _ => tileOk lt && coreOk c
  | .meFence lt c _ _ _ _ _ => tileOk lt && coreOk c
  | .mmaSp lt c _ _ _ _ _ => tileOk lt && coreOk c
  | .mmaPr lt c _ _ _ _ _ => tileOk lt && coreOk c
  | .prune lt c _ _ _ _ _ => tileOk lt && coreOk c
  | .mePred lt c _ _ _ _ _ => tileOk lt && coreOk c
  | .meSelSelect lt c _ _ _ _ _ => tileOk lt && coreOk c
  | .meSelVerify lt c _ _ _ _ _ => tileOk lt && coreOk c
  | .dmaCopy lt c _ _ _ _ _ => tileOk lt && coreOk c
  | .dmaCvt lt c _ _ _ _ _ => tileOk lt && coreOk c
  | .dmaGather lt c _ _ _ _ _ => tileOk lt && coreOk c
  | .dmaScatter lt c _ _ _ _ _ => tileOk lt && coreOk c
  | .dma2d lt c _ _ _ _ _ => tileOk lt && coreOk c
  | .dmaRemote lt c _ _ _ _ _ => tileOk lt && coreOk c
  | .dmaRearm lt c _ _ _ _ _ => tileOk lt && coreOk c
  | .rtuDispatch lt c _ _ _ _ _ => tileOk lt && coreOk c
  | .rtuCombine lt c _ _ _ _ _ => tileOk lt && coreOk c
  | .skLoad lt c _ _ _ _ _ => tileOk lt && coreOk c
  | .skFlush lt c _ _ _ _ _ => tileOk lt && coreOk c
  | .takeInterrupt lt => tileOk lt
  | .machineCheck r => tileOk r.tile && (match r.found with | some (.lane n, _) => decide (n < 256) | _ => true)
  | .tileTimerExpire lt => tileOk lt
  | .amEntry lt => tileOk lt
  | .lcStart lt _ _ _ => tileOk lt
  | .lcResume lt _ _ => tileOk lt
  | .lcSkip lt _ _ => tileOk lt
  | .lcEnd lt _ _ => tileOk lt
  | .lcRedirect lt _ _ => tileOk lt
  | .scrubTick lt => tileOk lt
  | .bankPowerDown lt _ _ => tileOk lt
  | .bankPowerOffDone lt _ => tileOk lt
  | .bankPowerUp lt _ _ => tileOk lt
  | .bankPowerUpDone lt _ => tileOk lt
  | .bankPowerQueuedStart lt _ => tileOk lt
  | .boltEnable lt _ _ _ => tileOk lt
  | .boltClose lt _ _ _ => tileOk lt
  | .boltCounterWrite lt _ _ _ _ => tileOk lt
  | .boltStallTimeout lt _ => tileOk lt
  | .lwinEnable lt _ _ _ => tileOk lt
  | .lwinRelease lt _ _ _ => tileOk lt
  | .creditRequest lt _ => tileOk lt
  | .creditGrantDeferred lt _ => tileOk lt
  | .creditGrant lt _ => tileOk lt
  | .creditNack lt _ => tileOk lt
  | .creditRetry lt _ => tileOk lt
  | .creditAnswerTimeout lt _ => tileOk lt
  | .creditRefuse lt _ => tileOk lt
  | .creditReturn lt _ => tileOk lt
  | .creditAck lt _ => tileOk lt
  | .creditedWriteArrive lt _ => tileOk lt
  | .meItemStart lt => tileOk lt
  | .meWloadDone lt => tileOk lt
  | .meFillDone lt => tileOk lt
  | .meIssueSlot lt _ => tileOk lt
  | .meBlockStaged lt => tileOk lt
  | .meBlockWriteback lt => tileOk lt
  | .meItemComplete lt => tileOk lt
  | .predVerifyGroupDone lt _ => tileOk lt
  | .meRelease lt _ => tileOk lt
  | .meAbort lt _ => tileOk lt
  | .meSave lt _ => tileOk lt
  | .meSaveDone lt => tileOk lt
  | .meRestore lt _ => tileOk lt
  | .meDiscard lt _ => tileOk lt
  | .studySampleDone r => regionOk r.toNat
  | .stepBoundary lt => tileOk lt
  | .rtuItemStart lt => tileOk lt
  | .rtuPosition lt => tileOk lt
  | .rtuDispatchDone lt => tileOk lt
  | .rtuCombineToken lt => tileOk lt
  | .rtuNoticePop lt => tileOk lt
  | .rtuCombineTimeout lt => tileOk lt
  | .rtuAbort lt _ => tileOk lt
  | .skLoadStart lt => tileOk lt
  | .skLoadDone lt => tileOk lt
  | .skFlushStart lt => tileOk lt
  | .skTriggerSwitch lt _ _ => tileOk lt
  | .skSwitchLaneStart lt => tileOk lt
  | .skTokenArrive lt _ => tileOk lt
  | .skSpillMove lt _ _ _ => tileOk lt
  | .skCreditReturn lt _ _ _ _ _ => tileOk lt
  | .skStallTimeout lt _ => tileOk lt
  | .skHistSample lt => tileOk lt
  | .skHistCfgWrite lt _ _ => tileOk lt
  | .skBatchTimer lt _ _ _ => tileOk lt
  | .skBatchComplete lt _ _ _ _ _ => tileOk lt
  | .meshFlitReceive pt net _ _ => if net = 3 then decide (pt < 1530) else ptOk pt
  | .meshLossNotice lt pt _ => tileOk lt && ptOk pt
  | .epochChangeStart => true
  | .epochSwap => true
  | .redPacketArrive pt _ => ptOk pt
  | .redWaitExpire pt _ => ptOk pt
  | .redChunkStall _ _ => true
  | .syncArrival _ arr => arr.all (fun a => a.2.2.2 != 0)
  | .syncHomeUpdate _ _ _ => true
  | .syncFetch lt _ => tileOk lt
  | .syncUpdateArrive lt _ _ _ => tileOk lt
  | .syncUpdateApply lt _ _ => tileOk lt
  | .syncRefuseArrive lt _ => tileOk lt
  | .syncBroken _ => true
  | .syncMirrorWrite lt _ _ _ => tileOk lt
  | .syncSemWrite lt _ _ _ => tileOk lt
  | .syncWaitStall lt c => tileOk lt && coreOk c
  | .chXactStart lt _ => tileOk lt
  | .chXactTimeout lt _ => tileOk lt
  | .chReopen lt _ _ => tileOk lt
  | .chCloseCtrl lt _ _ => tileOk lt
  | .chOvfMapWrite lt _ _ _ => tileOk lt
  | .ovfMove lt _ => tileOk lt
  | .chStallTimeout lt _ => tileOk lt
  | .dmaItemStart lt => tileOk lt
  | .dmaChunk lt _ => tileOk lt
  | .dmaStallTimeout lt _ => tileOk lt
  | .dmaAbort lt _ => tileOk lt
  | .preemptRequest lt => tileOk lt
  | .laneStateSave lt _ => tileOk lt
  | .tilePreSave lt _ => tileOk lt
  | .tilePreSaved lt => tileOk lt
  | .tilePreResume lt _ => tileOk lt
  | .tilePreDiscard lt _ => tileOk lt
  | .placementGroupHalt _ => true
  | .fabPortEnable _ p => portOk p
  | .fabPortDisable _ p => portOk p
  | .fabPortTrained p => portOk p
  | .fabHelloReceive p _ => portOk p
  | .fabPortDown p _ => portOk p
  | .fabPortRetry p => portOk p
  | .fabFlitReceive p _ _ => portOk p
  | .fabPacketArrive p _ _ => portOk p
  | .fabAckReceive _ _ _ _ _ _ => true
  | .fabRetransmit _ _ _ => true
  | .fabEscMove p _ _ => portOk p
  | .fabCcPeriod _ _ => true
  | .fabFlagHoldExpire _ _ _ => true
  | .kexInitReceive _ _ _ _ => true
  | .kexReplyReceive _ _ _ _ => true
  | .authReceive _ _ _ _ => true
  | .sessionAbortReceive _ _ _ _ => true
  | .iskShareReceive _ _ _ _ => true
  | .sessionResend _ => true
  | .sessionRotate _ => true
  | .sessionOldGenExpire _ => true
  | .pwrEstimateWindow r => regionOk r
  | .pwrRegionPeriod r => regionOk r
  | .pwrCalibrate _ => true
  | .pwrAllocate => true
  | .pwrCapWrite _ _ => true
  | .droopClamp lt => tileOk lt
  | .droopNotice r => regionOk r
  | .droopRecoveryTick r => regionOk r
  | .droopClockStop r _ => regionOk r
  | .pwrBarrierWait r => regionOk r
  | .pwrBarrierRelease r => regionOk r
  | .pwrRampTick r => regionOk r
  | .thermalSample f _ => fcOk f
  | .regionHaltDone r => regionOk r
  | .regionResume _ r => regionOk r
  | .thermalTrip r => regionOk r
  | .mcTakeover => true
  | .refMonitorWindow _ => true
  | .refTimeout => true
  | .trimCount _ _ => true
  | .pllLossOfLock n => pllOk n
  | .pllRelockDone n => pllOk n
  | .clkPllStart _ n => pllOk n
  | .clkPllStop _ n => pllOk n
  | .pllLock n => pllOk n
  | .tileSleep lt => tileOk lt
  | .tileWake lt => tileOk lt
  | .tileWakeDone lt => tileOk lt
  | .testStart f => fcOk f
  | .testDone f _ _ _ _ _ _ => fcOk f
  | .fcFirmwareReloadDone f => fcOk f
  | .skbTrigger _ _ => true
  | .skbRecordWrite _ => true
  | .skbFire _ _ _ => true
  | .gessoFullTestWrite _ => true
  | .fullTestDone _ => true
  | .secCommitSvn _ => true
  | .powerGood _ => true
  | .moduleResetPin _ => true
  | .inputSag _ _ => true
  | .powerFail _ => true
  | .lifeHourTick _ _ => true
  | .pmbusPoll _ => true
  | .partInserted idx _ => partIdxOk idx
  | .bundlePresentChange b _ => bundleOk b
  | .mgtStatus => true
  | .mgtSerial => true
  | .mgtMacBase => true
  | .mgtTmax => true
  | .mgtPin => true
  | .mgtAlertCause => true
  | .smbusAlertResponse => true
  | .i3cEntdaa _ => true
  | .i3cSetdasa _ _ => true
  | .i3cRstdaa => true
  | .i3cGetpid => true
  | .i3cGetbcr => true
  | .i3cGetdcr => true
  | .i3cGetstatus => true
  | .i3cEnec _ => true
  | .i3cDisec _ => true
  | .i3cSetmwl _ => true
  | .i3cGetmwl => true
  | .i3cSetmrl _ => true
  | .i3cGetmrl => true
  | .lcpConnect _ _ => true
  | .lcpDisconnect _ => true
  | .lcpUnknownType via _ typ => viaOk via && unknownTypeOk typ
  | .getStatus via _ => viaOk via
  | .attest via _ _ => viaOk via
  | .enroll via _ _ _ => viaOk via
  | .setPolicy via _ _ => viaOk via
  | .setMembership via _ _ => viaOk via
  | .setRoutes via _ _ => viaOk via
  | .loadJob via _ _ _ _ => viaOk via
  | .endJob via _ => viaOk via
  | .setCap via _ _ => viaOk via
  | .readLog via _ _ _ _ => viaOk via
  | .fwWrite via _ _ _ => viaOk via
  | .lcpCommitSvn via _ => viaOk via
  | .iskCreate via _ => viaOk via
  | .openStream via _ _ _ _ _ _ _ _ => viaOk via
  | .closeStream via _ _ => viaOk via
  | .lcpFullTest via _ => viaOk via
  | .reset via _ _ => viaOk via
  | .unlock via _ _ => viaOk via
  | .regRead via _ _ _ _ => viaOk via
  | .regWrite via _ _ _ _ => viaOk via
  | .usbAttach _ => true
  | .rdmaWriteReceive _ _ _ _ => true
  | .rdmaReadReceive _ _ _ _ => true
  | .rdmaSendReceive _ _ _ => true
  | .roceCnpReceive _ => true
  | .roceRateTimer _ => true
  | .fieldControllerFatal f => fcOk f
  | .hostPortDown _ => true
  | .hostPortUp _ => true
  | .fabAckSend _ _ => true

end Sys2Proof
end

