-- ==== Sys2Proof/Tests/Slice0.lean ====
section
/-!
SUPPORT. Tests: the well-formedness checks refuse, worked examples of the spec come out, and a witness for the hypotheses of each statement.
-/
namespace Sys2Proof.Tests

open Sys2Proof Sys2Proof.Machine

/-! ### Small states -/

/-- Tile 0 with its TCC running with the given registers, and lane core 3 running, while the PLL of their region runs. -/
def coreState (gs : List (Nat × DWord)) : State :=
  (State.reset.setMreg (regClkPll 7) 2).modTile 0 (fun t => { t with
    tcc := { t.tcc with held := false, g := gs.foldl (fun v p => v.setIfInBounds p.1 p.2) t.tcc.g }
    lanes := [(3, { LaneCore.reset with st := .running, started := true })] })

/-- The state with a register word of tile 0 set. -/
def withReg (off : Nat) (v : Word) (s : State) : State := s.setTreg 0 off v

/-- Whether an access was allowed, and to which offset. -/
def okAt (r : State × Except Status Nat) (off : Nat) : Bool := match r.2 with | .ok o => o == off | .error _ => false

/-- The state with bytes of tile 0's memory set. -/
def withMem (off : Nat) (bs : List Byte) (s : State) : State := s.modTile 0 (fun t => { t with mem := memPut t.mem off bs })

/-- BOLT_CFG of an open Bolt at 0x10000 with 16 slots of 256 bytes. -/
def boltWord : Word := 0x200100C1

/-- CH_CFG of an open channel that admits both kinds of message, with a limit of 16 units. -/
def chWord : Word := 0x00100C01

/-! ### Witnesses: cores -/

theorem witness_issue : issues (coreState []) 0 .tcc 4 anyCore = true ∧ issues (coreState []) 0 (.lane 3) 4 anyCore = true ∧
    issues (coreState []) 0 .tcc 4 anyCoreNoAm = true ∧ issues (coreState []) 0 (.lane 3) 4 anyCoreNoAm = true := by decide

/-- DivisionAndShifts, IntegerResult, JumpsAndBranches, RegisterWrite, RetireAndFetchFrame. -/
theorem witness_integer : issues (coreState []) 0 (.lane 3) 4 anyCore = true ∧ 31 < (32 : BitVec 6).toNat ∧ (31 : BitVec 6).toNat ≤ 31 ∧
    (1 : BitVec 5) ≠ 0 ∧ coreExists .tcc = true ∧ coreExists (.lane 3) = true ∧
    (0, coreKey (coreState []) 0 .tcc) ≠ (0, coreKey (coreState []) 0 (.lane 3)) := by decide

/-- LoadReads, StoreWrites, AtomicResult: memory at offset 64. -/
theorem witness_access : ∃ s1, coreOffset (fetched (coreState [(1, 64)]) 0 .tcc 4) 0 .tcc 64 8 .read = (s1, .ok 64) ∧
    (addrOf (fetched (coreState [(1, 64)]) 0 .tcc 4) 0 .tcc 1 (BitVec.ofInt 64 ((0 : BitVec 11).toInt * 8))).toNat = 64 ∧
    healthy s1 0 64 8 = true ∧ boltForbids s1 0 64 8 = false ∧ Memory.wf (s1.tile 0).mem = true := ⟨_, rfl, by decide⟩

/-- LoadReads, StoreWrites: the register clauses, at MEM_SEM 0 and an 8-byte pair. -/
theorem witness_register_access : ∃ s1, localAddr (fetched (coreState [(1, 0xF0A4000)]) 0 .tcc 4) 0 0xF0A4000 .write .m
      (((fetched (coreState [(1, 0xF0A4000)]) 0 .tcc 4).tile 0).tcc.xlat && !inHandler (fetched (coreState [(1, 0xF0A4000)]) 0 .tcc 4) 0) = (s1, .ok 0xF0A4000) ∧
    inBlocks 0xF0A4000 = true ∧ (s1.tile 0).tcc.prv = .m ∧ inHandler s1 0 = false ∧ (regWrite s1 (.tile 0) .m 0xF0A4000 5).2 = stOk ∧
    (regWrite (regWrite s1 (.tile 0) .m 0xF0A4000 5).1 (.tile 0) .m 0xF0A4004 5).2 = stOk := ⟨_, rfl, by decide⟩

/-- LoadReads, StoreWrites: the size codes at the ends of their ranges; AtomicResult's word that writes nothing. -/
theorem witness_sizes : (6 : BitVec 3) ∈ Obl.loadSizes .tcc ∧ (5 : BitVec 3) ∈ Obl.loadSizes (.lane 3) ∧ (3 : BitVec 3) ∈ Obl.storeSizes .tcc ∧
    (2 : BitVec 3) ∈ Obl.storeSizes (.lane 3) := by decide

/-- LoadReads, AtomicResult, MisalignedTraps on a lane core: an aligned and a misaligned address. -/
theorem witness_lane_access :
    okAt (coreOffset (fetched (coreState []) 0 (.lane 3) 4) 0 (.lane 3) 0x26FFFFC 4 .write) 0x26FFFFC = true ∧
    (addrOf (fetched (coreState []) 0 (.lane 3) 4) 0 (.lane 3) 1 (BitVec.ofInt 64 ((-1 : BitVec 11).toInt * 4))).toNat % 4 = 0 ∧
    (addrOf (fetched (coreState [(1, 2)]) 0 .tcc 4) 0 .tcc 1 0).toNat % 4 ≠ 0 ∧
    (addrOf (fetched (coreState [(1, 1)]) 0 .tcc 4) 0 .tcc 1 0).toNat % 8 ≠ 0 := by decide

/-- A request at offset 64 for one row of 16 bytes at 4096. -/
def trState : State := withMem 64 (leBytes 4 4096 ++ leBytes 2 1 ++ leBytes 2 4 ++ leBytes 4 0 ++ [3, 0]) (coreState [(1, 64), (2, 8192)])

/-- BlockAndVectorAccess: `ld.tr`. -/
theorem witness_ldTr : ∃ s1 b s2 bs s3, coreRead (fetched trState 0 .tcc 4) 0 .tcc
      (addrOf (fetched trState 0 .tcc 4) 0 .tcc 1 0).toNat 32 = (s1, .ok b) ∧
    (trRequest b).valid = true ∧ (trRequest b).size ≤ 65536 ∧ blockRead s1 0 (levelAt s1 0 .tcc) (trRequest b) = (s2, .ok bs) ∧
    storePieces s2 0 .tcc bs (piecesOf (addrOf s2 0 .tcc 2 0).toNat bs.length) = (s3, none) :=
  ⟨_, _, _, _, _, rfl, by decide, by decide, rfl, rfl⟩

/-- BlockAndVectorAccess, MisalignedTraps: vector accesses at the last aligned and at a misaligned offset. -/
theorem witness_vector_access : issues (coreState []) 0 (.lane 3) 4 laneOnly = true ∧
    ((fetched (coreState []) 0 (.lane 3) 4).tile 0 |> fun t => visible 0x26FFFF0 (16 * (coreLanes t 3).length)) = true ∧
    healthy (fetched (coreState []) 0 (.lane 3) 4) 0 0x26FFFF0 16 = true ∧ boltForbids (coreState []) 0 0x26FFFF0 16 = false ∧
    (addrOf ((coreState []).modTile 0 (fun t => { t with lanes := [(3, { LaneCore.reset with st := .running, g := LaneCore.reset.g.set 1 8 })] }))
      0 (.lane 3) 1 0).toNat % 16 ≠ 0 := by decide

/-- Tile 0 with Bolt 0 open, `ready` slots committed, and TCC registers. -/
def boltState (cfg : Word) (ready : Nat) (gs : List (Nat × DWord)) : State :=
  withReg (regBoltReserve 0) (BitVec.ofNat 32 ready) (withReg (regBoltCommit 0) (BitVec.ofNat 32 ready) (withReg (regBoltCfg 0) cfg (coreState gs)))

/-- BoltCounters, BoltInstructions: a push into the last free slot. -/
theorem witness_push : ∃ s1 bs s2, let f := fetched (boltState boltWord 15 [(1, 64), (2, 1)]) 0 .tcc 4
    boltMod f 0 0 ≤ 2 ^ 20 ∧ boltOpen f 0 0 = true ∧ ceilDiv 1 (cfgSlot (boltCfg f 0 0)) ≤ boltFree f 0 0 ∧ (boltWindow f 0 0).length < 64 ∧
    coreRead f 0 .tcc 64 1 = (s1, .ok bs) ∧ writeParts s1 0 .tcc (boltParts s1 0 0 (boltReserve f 0 0) bs) = (s2, none) :=
  ⟨_, _, _, by decide, by decide, by decide, by decide, rfl, rfl⟩

/-- BoltInstructions: full, empty, strict and closed Bolts, and the slot that a pop reads. -/
theorem witness_bolts : boltFree (boltState boltWord 16 []) 0 0 < ceilDiv 1 256 ∧ boltReady (boltState boltWord 1 []) 0 0 ≠ 0 ∧
    boltReady (boltState boltWord 0 []) 0 0 = 0 ∧ bit (boltCfg (boltState boltWord 0 []) 0 0) 1 = false ∧
    bit (boltCfg (boltState (boltWord ||| 2) 0 []) 0 0) 1 = true ∧ boltOpen (boltState 0 0 []) 0 0 = false ∧
    healthy (boltState boltWord 1 []) 0 (slotOff (boltState boltWord 1 []) 0 0 0) 256 = true ∧
    (storePieces (readDone (boltState 0x100100C1 1 []) 0 .tcc 0x10000 16) 0 .tcc (List.replicate 16 0) (piecesOf 64 16)).2 = none := by decide

/-- BoltRegisters. -/
theorem witness_bolt_registers : boltCfgValid (coreState []) 0 0 (setBit boltWord 0 true &&& boltCfgMask) = true ∧
    boltCfgValid (coreState []) 0 0 (setBit 0 0 true &&& boltCfgMask) = false ∧ bit (boltCfg (boltState boltWord 1 []) 0 0) 0 = true ∧
    bit (boltCfg (coreState []) 0 0) 0 = false ∧ (coreState []).tfld 0 (regBoltGranted 0) 19 0 = 0 ∧ boltWindow (coreState []) 0 0 = [] ∧
    ((coreState []).tile 0).boltOwned.contains 0 = false ∧ (withReg (regBoltGranted 0) 1 (coreState [])).tfld 0 (regBoltGranted 0) 19 0 ≠ 0 ∧
    boltWindow ((coreState []).modTile 0 (fun t => { t with window := [(0, [⟨4, 1, false, false⟩])] })) 0 0 ≠ [] ∧
    (let r := lwinRange 0x2000000 1
     1 ≤ r.2 ∧ visible r.1 r.2 = true ∧ meetsBolt (coreState []) 0 r 64 = false) ∧ (coreState []).tbit 0 (regMemLwinBase 15) 0 = false ∧
    someoneWaits { Tile.reset with tcc := { Tcc.reset with wait := some (.bolt 63) } } (.bolt 63) = true := by decide

/-- ChannelInstructions: a message at 64 on an open channel, a channel at its limit, a closed one. -/
theorem witness_channel : ∃ s1 msg, let f := fetched (withReg (regChCfg 0) chWord (coreState [(1, 64)])) 0 .tcc 4
    issues (withReg (regChCfg 0) chWord (coreState [(1, 64)])) 0 .tcc 4 tccNoAm = true ∧ f.tbit 0 (regChCfg 0) 10 = true ∧
    f.tbit 0 (regChCfg 0) 11 = true ∧ chState f 0 0 = 1 ∧
    coreRead f 0 .tcc 64 32 = (s1, .ok msg) ∧ msgValid true false msg = true ∧ msgValid false false msg = true ∧
    s1.tfld 0 (regChUse 0) 15 0 + msgUnits true false (msgLength msg) ≤ s1.tfld 0 (regChCfg 0) 31 16 ∧ chForeign s1 0 0 = false ∧
    freeSlots s1 0 4 ≠ [] ∧ s1.tfld 0 (regChUse 0) 22 16 < 127 :=
  ⟨_, _, by decide, by decide, by decide, by decide, rfl, by decide⟩

theorem witness_channel_limits :
    let s := withReg (regChUse 0) 16 (withReg (regChCfg 0) chWord (coreState []))
    s.tfld 0 (regChCfg 0) 31 16 < s.tfld 0 (regChUse 0) 15 0 + msgUnits true false 0 ∧ chState (withReg (regChCfg 255) 2 s) 0 255 = 2 ∧
    chState s 0 0 ≠ 0 ∧ (gRead (coreState [(3, 3)]) 0 .tcc 3).toNat < 4 := by decide

/-- A transaction of channel 0 in slot 5. -/
def xactState (ph : XPhase) : State :=
  withReg (regChUse 0) 0x10001 (withReg (regChCfg 0) chWord (coreState []) |>.modTile 0 (fun t => { t with
    xacts := [(5, ⟨0, false, List.replicate 32 0, 1, 0, .m, false, 0, ph, false⟩)] }))

/-- ChannelEvents. -/
theorem witness_channel_events : (∃ s1, checkPieces (xactState .queued) 0 .m false (piecesOf 0 0) = (s1, none)) ∧
    (xactOf (xactState .queued) 0 5).isSome = true ∧ 1 ≤ (xactState .sent).tfld 0 (regChUse 0) 22 16 ∧ chForeign (xactState .sent) 0 0 = false ∧
    (xactState .sent).tbit 0 regDmaCringCfg 0 = false ∧ earlierXact (xactState .queued) 0 ⟨0, false, [], 1, 0, .m, false, 0, .queued, false⟩ = false ∧
    chState (withReg (regChCfg 255) 2 (coreState [])) 0 255 = 2 ∧ chState (coreState []) 0 0 = 0 := ⟨⟨_, rfl⟩, by decide⟩

/-- ChannelEvents: Bolt 1 as overflow Bolt of Bolt 0. -/
def ovfState (map : Word) : State := withReg (regBoltCommit 1) 1 (withReg (regBoltReserve 1) 1 (withReg (regChOvfMap 0) map
  (withReg (regBoltCfg 1) 0x200200C1 (boltState boltWord 15 []))))

theorem witness_overflow : ovfValid (ovfState 0) 0 0 1 = true ∧ bit (0x81 : Word) 7 = true ∧ bit (0x81 : Word) 15 = false ∧
    overflowOf (ovfState 0) 0 0 = none ∧ overflowOf (ovfState 0x81) 0 0 = some 1 ∧ boltReady (ovfState 0x81) 0 1 ≠ 0 ∧
    boltFree (ovfState 0x81) 0 0 ≠ 0 ∧ (1 : Nat) ≠ (0 : BitVec 6).toNat ∧ boltMod (ovfState 0x81) 0 0 ≤ 2 ^ 20 ∧ boltMod (ovfState 0x81) 0 1 ≤ 2 ^ 20 ∧
    boltWindow (ovfState 0x81) 0 0 = [] ∧ healthy (ovfState 0x81) 0 (slotOff (ovfState 0x81) 0 1 0) 256 = true ∧
    healthy (ovfState 0x81) 0 (slotOff (ovfState 0x81) 0 0 15) 256 = true := by decide

/-! ### Witnesses: system and synchronisation -/

/-- The TCC of tile 0 changed by `f`. -/
def withTcc (f : Tcc → Tcc) (s : State) : State := s.modTile 0 (fun t => { t with tcc := f t.tcc })

/-- CsrResult: read, write, level too low, read-only and unassigned numbers, for both kinds of core. -/
theorem witness_csr : (csrValue (fetched (coreState []) 0 .tcc 4) 0 .tcc 0xC06).isSome = true ∧
    lvNum (csrLevel 0xC06) ≤ lvNum (levelAt (fetched (coreState []) 0 .tcc 4) 0 .tcc) ∧ bit (0xC06 : BitVec 12) 9 = false ∧
    (csrValue (fetched (coreState []) 0 (.lane 3) 4) 0 (.lane 3) 0).isSome = true ∧
    lvNum (levelAt (coreState []) 0 (.lane 3)) < lvNum (csrLevel 0xC06) ∧
    lvNum (levelAt (withTcc (fun t => { t with prv := .s }) (coreState [])) 0 .tcc) < lvNum (csrLevel 0xC06) ∧
    csrValue (coreState []) 0 .tcc 0x0FF = none ∧ (csrValue (coreState []) 0 .tcc 0x200).isSome = true ∧ bit (0x200 : BitVec 12) 9 = true ∧
    fld (0x200 : DWord) 9 8 < 3 := by decide

/-- TrapAndReturn: a cause routed to S, nested at S, and at M. -/
theorem witness_trap :
    (let t := (withTcc (fun t => { t with prv := .u, route := 8 }) (coreState [])).tile 0
     t.tcc.prv ≠ .m ∧ bit t.tcc.route (3 : Cause).toNat = true ∧ t.tcc.trapS = false ∧ t.tcc.trapM = false) ∧
    bit (0 : DWord) (3 : Cause).toNat ≠ true ∧ issues (coreState []) 0 .tcc 4 ⟨true, false, .s, true⟩ = true ∧
    issues (withTcc (fun t => { t with prv := .s, pc := 4096 }) (coreState [])) 0 .tcc 4 ⟨true, false, .s, true⟩ = true ∧
    inHandler (fetched (coreState []) 0 .tcc 4) 0 = false := by decide

/-- TrapInstructions: reserved words, and a tile marked by a machine check. -/
theorem witness_reserved : fld (0 : Word) 1 0 ≠ 3 ∧ reservedInsn .tcc 0 = true ∧ reservedInsn (.lane 3) 0xFFFFFFFE = true ∧
    canIssue (coreState []) 0 .tcc = true ∧ ((coreState []).modTile 0 (fun t => { t with fatal := true }) |> fun s =>
      (s.tile 0).fatal = true ∧ canIssue s 0 .tcc = true ∧ (s.tile 0).tcc.trapM = false ∧ bit (s.tile 0).tcc.route 0x10 = false) := by decide

/-- InterruptEntry: PRE wins over interrupt 0, both enabled at U; nothing to take. -/
theorem witness_interrupt :
    (let s := (withTcc (fun t => { t with prv := .u, intEn := 0xFFFF, swiS := true }) (coreState [])).modTile 0 (fun t => { t with preReq := true })
     intToTake s 0 = some 14 ∧ canIssue s 0 .tcc = true ∧ regionState s (regionOf s 0) ≠ 3 ∧ (s.tile 0).tcc.wait ≠ some .interrupt) ∧
    (let s := withTcc (fun t => { t with prv := .u, intEn := 0xFFFF, swiS := true, route := BitVec.ofNat 64 (2 ^ 32) }) (coreState [])
     intToTake s 0 = some 0 ∧ bit (s.tile 0).tcc.route 32 = true) ∧
    (let s := (coreState []).modTile 0 (fun t => { t with fatal := true })
     canIssue s 0 .tcc = true ∧ (s.tile 0).fatal = true) ∧
    intToTake (coreState []) 0 = none := by decide

/-- Tile 0 with slot 0 of unit 1 used, generation 3, busy or not; the TCC holds its handle in g1. -/
def itemState (busy : Bool) : State :=
  (coreState [(1, BitVec.ofNat 64 (mkHandle 1 0 3))]).modTile 0 (fun t => { t with slots := [(256, ⟨3, true, busy, CRec.zero⟩)] })

/-- SystemInstructions. -/
theorem witness_items : issues (itemState true) 0 .tcc 4 tccNoAm = true ∧
    (slotOfHandle (fetched (itemState true) 0 .tcc 4) 0 (gRead (itemState true) 0 .tcc 1).toNat).map (·.busy) = some true ∧
    (slotOfHandle (fetched (itemState false) 0 .tcc 4) 0 (gRead (itemState false) 0 .tcc 1).toNat).map (·.busy) = some false ∧
    slotOfHandle (coreState []) 0 0 = none ∧ issues (coreState []) 0 .tcc 4 ⟨true, false, .s, false⟩ = true ∧
    issues (coreState []) 0 (.lane 3) 4 ⟨false, true, .u, false⟩ = true ∧ intToTake (coreState []) 0 = none := by decide

/-- SemaphoresAndSync: semaphore 63 at 5. -/
theorem witness_sem :
    let s := withReg (regSyncSem 63) 5 (coreState [(1, 63), (2, 5), (3, 6), (4, 64)])
    (gRead s 0 .tcc 1).toNat < 64 ∧ (gRead s 0 .tcc 2).toNat ≤ semVal s 0 63 ∧ semVal s 0 63 < (gRead s 0 .tcc 3).toNat ∧
    64 ≤ (gRead s 0 .tcc 4).toNat ∧ semVal s 0 63 + (gRead s 0 .tcc 2).toNat < 2 ^ 32 ∧
    2 ^ 32 ≤ semVal (withReg (regSyncSem 63) 0xFFFFFFFF s) 0 63 + 1 ∧ (tileCores s 0).all (fun c => waitOf s 0 c == none) = true := by decide

/-- An object of type `typ` at index 7 with two parts, and a mirror of it in entry 2 of tile 0. -/
def objState (typ : Nat) (pend : Bool) : State :=
  let s := withReg (regSyncMir 2) (if pend then 0xC0000007 else 0x80000007) (coreState [(1, 7)])
  { s with objs := [(7, { SyncObj.unused with typ := typ, scope := 1, parts := 2 })] }

/-- SemaphoresAndSync, SyncHome, SyncMirrors: each type of object, mirrored and pending. -/
theorem witness_objects : ∀ typ ∈ [1, 2, 3],
    homeAccepts (objState typ false) ((objState typ false).obj 7) 0 = true ∧ mirrorOf (objState typ false) 0 7 = some 2 ∧
    (objState typ false).tbit 0 (regSyncMir 2) 30 = false ∧ (objState typ true).tbit 0 (regSyncMir 2) 30 = true ∧
    ((objState typ false).obj 7).scope ≠ 2 ∧ ((objState typ false).obj 7).count < ((objState typ false).obj 7).parts ∧
    (objState typ false).stepBarrier ≠ some 7 ∧ ((objState typ false).obj 7).broken = false ∧
    mayArrive (objState typ false) (.sync true 0 1 7 true false 1 0) = true ∧
    mayArrive (objState typ false) (arrivalMsg (objState typ false) 7 (true, ((objState typ false).obj 7).value, 0, 3)) = true ∧ mayArrive (objState typ true) (.sync false 0 8 7 false true 0 0) = true ∧
    (takeSync (fun a : Nat × BitVec 32 => NetMsg.sync true a.1 2 7 false false 0 a.2) (objState typ false) [(0, 5)]).2 = [(0, 5)] := by decide

theorem witness_no_object : homeAccepts (objState 1 false) ((objState 1 false).obj 8) 0 = false ∧
    revBits 6 0 = 0 ∧ revBits 6 1 ≠ 0 ∧ ((1 : BitVec 32) - 2).msb = true ∧ ((2 : BitVec 32) - 1).msb = false ∧
    waitOf (withTcc (fun t => { t with wait := some (.mirror 7) }) (objState 1 true)) 0 .tcc = some (.mirror 7) ∧
    stallNew (objState 1 true) 0 .tcc = true ∧ mayArrive (objState 1 true) (.lost 7) = true ∧ (2 : Nat) - 0 < (3 : BitVec 11).toNat ∧
    (((objState 1 false).modTile 1 (fun t => { t with delayed := [(7, 1)] })).tile 1).delayed.contains (7, 1) = true := by decide

/-- SyncHome: a BROKEN that reaches a tile that mirrors the object. -/
theorem witness_broken : ∃ f : Flight, f.msg = .sync false 0 6 7 false false 0 0 ∧ mirrorOf (objState 1 false) 0 7 = some 2 :=
  ⟨⟨.sync false 0 6 7 false false 0 0, .sync, .tree, 1530, 0, 0, 4, 0, 1, 0, false⟩, rfl, by decide⟩

/-- SemaphoresAndSync, SyncMirrors: an object that no entry mirrors. -/
theorem witness_not_mirrored : mirrorOf (coreState []) 0 8 = none := by decide +kernel

/-! ### Witnesses: vectors, tile units -/

/-- VectorInteger, VectorFloat, VectorConvert: single and cluster mode, all counts at the ends of their range. -/
theorem witness_vector : activeLanes ((fetched (coreState []) 0 (.lane 3) 4).tile 0) 3 0 = some [3] ∧
    ((coreState []).tile 0).cluster = false ∧ ((withReg regLcCfg 1 (coreState [])).tile 0).cluster = true ∧
    activeLanes ((withReg regLcCfg 1 (coreState [])).tile 0) 0 15 = some [0, 1, 2, 3, 4, 5, 6, 7, 8, 9, 10, 11, 12, 13, 14] ∧
    issues (coreState []) 0 (.lane 3) 4 laneOnly = true ∧ (palCfg (coreState []) 0 0).format ∈ [0, 1, 2, 3, 4, 11, 12, 13] ∧
    (15 : BitVec 4) ≠ 0 ∧ (0 : BitVec 5).toNat % 2 = 0 ∧ (1 : BitVec 5).toNat % 2 = 1 ∧ (3 : BitVec 5).toNat < 4 ∧
    (fp32.decode 0x3F800000).isNan = false ∧ (fp32.decode 0x3F800000).cmp (fp32.decode 0x40000000) ≠ 0 ∧
    (Obl.laneAt 32 (vGet (coreState []) 0 3 2) 3).toNat < 4 := by decide

/-- Tile 0 with an active message in Bolt 0 whose handler entry holds `eb`; the TCC runs at U. -/
def amState (eb : Nat) (flag : Byte) : State :=
  withMem 0x800 (leBytes 8 eb) (withMem 0x10011 [flag] (withReg regChAmBase 0x800 (withReg regChAmCfg 1
    (withTcc (fun t => { t with prv := .u, intEn := 0xFFFF, route := BitVec.ofNat 64 (2 ^ 41) }) (boltState boltWord 1 [])))))

/-- ActiveMessages: a valid entry, an entry that is not valid, a notice. -/
theorem witness_am : ∀ x ∈ [(0x4001, (0 : Byte)), (0x4000, 0), (0, 0xFF)],
    let s := amState x.1 x.2
    (s.tile 0).fatal = false ∧ regionState s (regionOf s 0) ≠ 3 ∧ intToTake s 0 = some 9 ∧ healthy s 0 0x10000 0 = true ∧ canIssue s 0 .tcc = true ∧ amPending s 0 = true ∧ bit (s.tile 0).tcc.route 41 = true ∧ intTakable s 0 9 = true ∧
    s.tbit 0 regChAmStatus 0 = false ∧ boltMod s 0 0 ≤ 2 ^ 20 ∧ healthy s 0 (slotOff s 0 0 0) 64 = true ∧ healthy s 0 0x800 8 = true ∧
    leNat (memBytes (s.tile 0).mem 0x800 8) = x.1 ∧ fieldAt (memBytes (s.tile 0).mem (slotOff s 0 0 0) 64) 0x11 1 = x.2.toNat := by decide

/-- ActiveMessages: slots of 32 bytes, so that the message goes on at BASE. -/
theorem witness_am_wraps :
    let s := withReg (regBoltHead 0) 15 (withReg (regBoltReserve 0) 17 (withReg (regBoltCommit 0) 17 (withReg (regBoltCfg 0) 0x14010091 (amState 0x4001 0))))
    boltHead s 0 0 = 15 ∧ slotOff s 0 0 15 = 0x101E0 ∧ amPending s 0 = true ∧ healthy s 0 0x101E0 32 = true ∧ healthy s 0 0x10000 32 = true := by decide

theorem witness_am_return :
    let s := withReg regChAmStatus 1 (withTcc (fun t => { t with prv := .s, pc := 4096 }) (coreState []))
    issues s 0 .tcc 4 ⟨true, false, .s, true⟩ = true ∧ inHandler (fetched s 0 .tcc 4) 0 = true := by decide

/-- LaneControl: a Sketch active or not, a fault record held or not. -/
theorem witness_lanes : (Tile.reset.sk.active = none) ∧ (Tile.reset.lane 255).frec.valid = false ∧ (Tile.reset.lane 0).st ≠ .running ∧
    ({ Tile.reset with sk := { SkStore.reset with active := some 3 } } : Tile).sk.active ≠ none ∧
    (({ Tile.reset with lanes := [(0, { LaneCore.reset with frec := { FRec.none with valid := true } })] } : Tile).lane (leadLane Tile.reset 0)).frec.valid = true :=
  by decide

/-- Tile 0 with bank 63 in a state and requests waiting for it. -/
def bankState (b : BankSt) (q : List Bool) : State := (coreState []).modTile 0 (fun t => { t with banks := [(63, b)], bankQ := [(63, q)] })

/-- BankPower. -/
theorem witness_banks : ((bankState .on []).tile 0).bank 63 = .on ∧ interleavedOf (bankState .on []) 0 = false ∧
    meetsBolt (bankState .on []) 0 (0x9C000 * 63, 0x9C000) 64 = false ∧ meetsLwin (bankState .on []) 0 (0x9C000 * 63, 0x9C000) 16 = false ∧
    ((bankState .on []).tile 0).laneSaved = false ∧ downCause (bankState .off []) 0 63 = some 5 ∧ ((bankState .draining []).tile 0).bank 63 = .draining ∧
    ((bankState .ramping []).tile 0).bank 63 = .ramping ∧ bankWaits (bankState .off [true, false]) 0 63 = true :: [false] ∧
    (bankState .on []).tbit 0 regMemCfg 1 = true ∧ unitsStop (bankState .on []) 0 = false := by decide

theorem witness_word_errors :
    let s := State.reset.modTile 0 (fun t => { t with errs := [(4, 1), (5, 2)] })
    wordBlocked s 0 4 = none ∧ wordErr s 0 4 = 1 ∧ 2 ≤ wordErr s 0 5 := by decide

/-- Tile 0 with Bolt 0 open for remote writes. -/
def remoteState : State := boltState (boltWord ||| 8) 0 []

/-- A request of tile 1 for 256 bytes of Bolt 0. -/
def reqMsg : CreditMsg := { target := 0, reqTag := 9, creditTag := 0, status := 0, kind := 0, bytes := 256, offset := 0, peer := 0x10000000, am := false }

/-- CreditReceive: a request that fits, and requests that are refused. -/
theorem witness_request : Obl.grantable (netArrive remoteState (.credit (tileGa remoteState 0) 1 reqMsg)) 0 reqMsg :=
  ⟨by decide, by decide, by decide, by decide, by decide, by decide, by decide, by decide +kernel, by decide, by decide, by decide, by decide, by decide⟩

theorem witness_refused : mayArrive remoteState (.credit (tileGa remoteState 0) 1 reqMsg) = true ∧ regionState remoteState (regionOf remoteState 0) ≠ 5 ∧ refusal remoteState 0 reqMsg = none ∧
    refusal remoteState 0 { reqMsg with target := 64 } = some stCreditDenied ∧ refusal remoteState 0 { reqMsg with target := 63 } = some stPeerClosed ∧
    answersOut remoteState 0 < 64 ∧ (List.replicate 16 reqMsg).length < 17 := by decide

/-- Tile 0 with grant 5 of Bolt 0 to tile 1. -/
def grantState : State := remoteState.modTile 0 (fun t => { t with grants := [(5, ⟨true, 3, 0, 0x10000000, 9, 0, 0x10000, 256, 0, 0, 1⟩)] })

/-- CreditReceive, CreditedWrite: a live grant, and a tag of an older generation. -/
theorem witness_grant : (grantOfTag grantState 0 (5 + 3 * 512)).map (fun p => (p.1, p.2.sender.toNat, p.2.bolt, p.2.offset, p.2.bytes)) =
      some (5, 0x10000000, 0, 0x10000, 256) ∧ grantOfTag grantState 0 (5 + 2 * 512) = none ∧ visible 0x10000 1 = true ∧ unitsStop grantState 0 = false ∧
    mayArrive grantState (.credit (tileGa grantState 0) 5 reqMsg) = true ∧
    0x10000 + 256 ≤ cfgBase (boltCfg grantState 0 0) + cfgSize (boltCfg grantState 0 0) ∧ healthy grantState 0 0x10000 256 = true := by decide

/-- CreditSender: a request of transaction 5 of tile 0, asked or in back-off. -/
def askState (ph : ReqPhase) : State :=
  (xactState .credit).modTile 0 (fun t => { t with reqs := [(9, ⟨.xact 5, 0x10000000, reqMsg, ph, 0, 0, 0, []⟩)] })

theorem witness_sender : (∀ n ∈ [2, 3, 4, 6], mayArrive (askState .asked) (.credit (tileGa (askState .asked) 0) n reqMsg) = true) ∧ (reqOf (askState .asked) 0 9).map (·.phase) = some .asked ∧ (reqOf (askState .backoff) 0 9).map (·.phase) = some .backoff ∧
    reqOf (askState .asked) 0 8 = none ∧ (xactOf (askState .asked) 0 5).isSome = true ∧ 1 ≤ (askState .asked).tfld 0 (regChUse 0) 22 16 ∧
    (askState .asked).tbit 0 regDmaCringCfg 0 = false ∧ (0x10000000 : Nat) / 2 ^ 48 = hereId (askState .asked) ∧
    (∃ s1 data, readRange (netArrive (askState .asked) (.credit 0 2 reqMsg)) 0 .m false (piecesOf 0 0) = (s1, .ok data)) :=
  ⟨by decide, by decide, by decide, by decide, by decide, by decide, by decide, by decide, _, _, rfl⟩

/-! ### Witnesses: Matrix Engine, DMA, Routing Unit -/

/-- The rows of MeInstructions: a legal payload each, and one that is not. -/
theorem witness_me_payloads : (Obl.meRows.all (fun p => p.2.2.2 (if p.2.1 = 0x13 then 0x10 else 0) 0 0 0)) = true ∧
    (Obl.meRows.all (fun p => !p.2.2.2 0xFFFFFFFF 0 0 0)) = true ∧ issues (coreState []) 0 .tcc 8 tccNoAm = true ∧
    freeSlots (fetched (coreState []) 0 .tcc 8) 0 0 ≠ [] := by decide

theorem witness_full_queue : freeSlots ((coreState []).modTile 0 (fun t => { t with
    slots := (List.range 64).map (fun n => (n, { Slot.reset with busy := true })) })) 0 0 = [] := by decide

/-- A buffer of one BF16 value 1.0. -/
def oneBuf : MeBuf := ⟨0, true, 0, 1, 1, 1, 0, 0, 0, [[some (bf16.decode 0x3F80)]]⟩

/-- An item of one row; `wop`, payload, and how far it is. -/
def meItem (wop payload : Nat) (started : Bool) (st : MeItem → MeItem) : MeItem :=
  st { slot := 5, handle := mkHandle 0 5 1, wop := wop, payload := payload, word := 0, r1 := 0x1000, r2 := 0x1000, r3 := 0, drain := false, lv := .m
       started := started, checked := started, descA := if started then oneDesc else [], descD := if started then oneDesc else []
       cfgA := ⟨1, 1, 0⟩, cfgD := ⟨1, 1, 0⟩, rows := if started then 1 else 0, staged := [], stagedTo := 0, issued := 0, done := 0, reading := false
       plane := none, failed := none, sample := none, refs := [], num := none, remask := false, flip := 0 }
where
  /-- A descriptor of one BF16 element at 0x2000 through entry 1. -/
  oneDesc : List Byte := leBytes 4 0x2000 ++ leBytes 2 1 ++ leBytes 2 1 ++ leBytes 4 2 ++ [1, 0] ++ List.replicate 50 0

/-- Tile 0 with the engine's queue and buffer 0 loaded. -/
def meState (items : List MeItem) : State :=
  (withMem 0x1000 meItem.oneDesc (withReg (regPalEntry 1) 1 (coreState []))).modTile 0 (fun t => { t with me := { t.me with items := items, buf0 := oneBuf } })

/-- MeEngineEvents: an item starts, a fence, and an item with a misaligned descriptor. -/
theorem witness_me_start : ∃ s1 j, let i := meItem 0 8 false id
    meOpen (meState [i]) 0 = true ∧ isMma i.wop = true ∧ setNotReady (meState [i]) 0 i = false ∧ i.addrs.all (descAddrOk i.lv) = true ∧
    readDescs (studyCount (meState [i]) 0 i).1 0 i = (s1, .ok j) ∧
    let d := studyDraw s1 0 0 false (studyCount (meState [i]) 0 i).2 j
    let k := { j with started := true, num := some 0, sample := d.2, remask := recomputes d.1 0 j.r3 }
    let s2 := modItem d.1 0 5 (fun _ => k)
    ((meOf (meState [i]) 0).mmaCount = 0 ∧ ((meState [i]).region 0).studyDue = false ∧ awaitsLoad (meOf s2 0) k = false) ∧
    itemChecks s2 0 k (.now ((meOf s2 0).buf (meWbuf k.payload))) = none :=
  ⟨_, _, by decide, by decide, by decide, by decide, rfl, by decide, by decide⟩

theorem witness_me_load : ∃ s1 vals, let i := meItem 8 0 true (fun i => { i with reading := true })
    readB (meState [i]) 0 i.lv i.cfgA i.dA = (s1, .ok vals) := ⟨_, _, rfl⟩

/-- MeEngineEvents: fill, staging, issue, write-back and end of an item of one row. -/
theorem witness_me_run :
    (let i := meItem 0 8 true id
     (meOf (meState [i]) 0).items.find? (fun i => i.isRows && i.plane.isNone) = some i ∧ i.wantsPlane = true ∧ shadowFree (meOf (meState [i]) 0) = true ∧
     meStopping (meState [i]) 0 = false ∧ stagingItem (meOf (meState [i]) 0) = some i ∧ i.wb ≠ 4) ∧
    (let i := meItem 0 8 true (fun i => { i with plane := some oneBuf, staged := [(0, [[bf16.decode 0x3F80]])], stagedTo := 1 })
     readyItem (meOf (meState [i]) 0) = some i ∧ isIssueSlot (slotsOf (meState [i]) 0) 63 = true ∧ oneBuf.n ≤ 128 ∧
     rowMeetsErr (meOf (meState [i]) 0) i oneBuf 0 = false) ∧
    (let i := meItem 0 8 true (fun i => { i with issued := 1, done := 1, stagedTo := 1, plane := some oneBuf })
     (meOf (meState [i]) 0).items.find? (fun j => (meOf (meState [i]) 0).ended j && !(meStopping (meState [i]) 0 && j.wop == wopSel)) = some i) := by decide

theorem witness_me_block : ∃ s1 rows, let i := meItem 0 8 true id
    readABlock (meState [i]) 0 i.lv i.cfgA i.dA i.stagedTo = (s1, .ok rows) := ⟨_, _, rfl⟩

theorem witness_me_writeback : ∃ s1 n, let i := meItem 0 0x10 true (fun i => { i with issued := 1, plane := some oneBuf, stagedTo := 1 })
    writingItem (meOf (meState [i]) 0) false = some (i, 0) ∧ blockMeetsErr (meOf (meState [i]) 0) i 0 i.resultCols = false ∧
    writeBlock (meState [i]) 0 i 0 (blockValues (meOf (meState [i]) 0) i 0 i.resultCols) = (s1, n, none) ∧
    (∃ x ∈ (meOf s1 0).items, x.slot = i.slot) :=
  ⟨_, _, by decide, by decide, rfl, _, List.Mem.head _, rfl⟩

/-- Tile 0 with an open prediction set of one neuron, of `k` chunks of K, that SELECT left out. -/
def predState (k : Nat) : State :=
  (withMem 0x8000 (leBytes 4 1 ++ List.replicate 28 0 ++ leBytes 4 0x9000 ++ leBytes 4 0x9000 ++ leBytes 2 k) (withReg regPwrStatus 0x4001 (coreState []))).modTile 0
    (fun t => { t with me := { t.me with preds := [⟨0x8000, 0, 0, 0, [], false, false, 0⟩] } })

/-- RegistersAndSteps: a group of one neuron; MeEngineEvents: a set that wants its rows issued. -/
theorem witness_verify : ∃ s1 x u, readShadows (predState 0) 0 0x8000 = (s1, .ok x) ∧
    verifyRun 0 0x8000 (required s1 0 0x8000 1) x.1 s1 [0] = (u, none) ∧ skipped (predState 0) 0 0x8000 = [0] ∧
    (((skipped (predState 0) 0 0x8000).drop (runOf (predState 0) 0 0x8000).next).take 128) = [0] :=
  ⟨_, _, _, rfl, rfl, by decide, by decide⟩

theorem witness_fill : (meOf (predState 0) 0).preds.any (fun p => p.set == 0x8000 && !p.stopped) = true ∧ unitsStop (predState 0) 0 = false ∧
    wantsFill (predState 0) 0 (runOf (predState 0) 0 0x8000) = false ∧ Memory.wf ((predState 0).tile 0).mem = true ∧
    (meOf (predState 1) 0).preds.find? (wantsFill (predState 1) 0) = some ⟨0x8000, 0, 0, 0, [], false, false, 0⟩ ∧
    underpaints (predState 1) 0 = true := by decide

theorem witness_underpaint :
    let s := withReg regPwrStatus 0x4001 (coreState [])
    underpaints s 0 = true ∧ readyItem (meOf s 0) = none ∧ isIssueSlot (slotsOf s 0) 63 = true ∧ (63 : BitVec 6) ≠ 0 := by decide

/-- MeControl. -/
theorem witness_me_control : meQuiet { discardStaged (meOf (meState [meItem 0 8 false id]) 0) with stopping := some stAborted } = true ∧
    meQuiet { discardStaged (meOf (meState [meItem 8 0 true (fun i => { i with reading := true })]) 0) with stopping := some stAborted } = true ∧
    (∀ b, b < 27 → ((coreState []).tile 0).bank b = .on) ∧ ((coreState []).modTile 0 (fun t => { t with banks := [(26, .off)] }) |> fun s =>
      (s.tile 0).bank 26 ≠ .on) ∧ (withReg regMeStatus 0x1000 (coreState [])).tbit 0 regMeStatus 12 = true ∧
    meQuiet (meOf (coreState []) 0) = true := by decide

/-- A copy of 100 bytes from 0x2000 to 0x3010 in slot 7. -/
def dmaItem (running : Bool) (progress : Nat) : DmaItem :=
  { slot := 7, wop := 0, addr := 0x1000, desc := if running then copyDesc else [], lv := .m, xlat := false, progress := progress, running := running
    checked := running, sentTo := 0, inFlight := [], failed := none, reported := false, cfgS := ⟨0, 0, 0⟩, cfgD := ⟨0, 0, 0⟩ }
where
  /-- The descriptor. -/
  copyDesc : List Byte := leBytes 8 0x2000 ++ leBytes 8 0x3010 ++ leBytes 4 100 ++ List.replicate 44 0

/-- Tile 0 with that item in its queue. -/
def dmaState (running : Bool) (progress : Nat) : State :=
  (withMem 0x1000 dmaItem.copyDesc (coreState [])).modTile 0 (fun t => { t with dma := [dmaItem running progress] })

/-- DmaRtuInstructions. -/
theorem witness_dma_issue : freeSlots (fetched (coreState []) 0 .tcc 8) 0 1 ≠ [] ∧ freeSlots (fetched (coreState []) 0 .tcc 8) 0 2 ≠ [] ∧
    freeSlots ((coreState []).modTile 0 (fun t => { t with slots := (List.range 16).map (fun n => (512 + n, { Slot.reset with busy := true })) })) 0 2 = [] ∧
    (let h := mkHandle 1 7 3
     let s := (coreState [(1, BitVec.ofNat 64 h)]).modTile 0 (fun t => { t with
       slots := [(263, ⟨3, true, false, { CRec.zero with handle := h, valid := true }⟩)], dmaKept := [(7, dmaItem true 36)] })
     (slotOfHandle (fetched s 0 .tcc 8) 0 (gRead s 0 .tcc 1).toNat).map (fun x => (x.crec.valid, x.crec.handle == h)) = some (true, true) ∧
     handleParts h = (1, 7, 3) ∧ (kvFind (s.tile 0).dmaKept 7).isSome = true) := by decide

/-- DmaEvents: start, the first and the last chunk of the copy, a stalled item. -/
theorem witness_dma_start : ∃ s1 bs, let i := dmaItem false 0
    nextDma ((dmaState false 0).tile 0) = some (i, true) ∧ readDescriptor (dmaState false 0) 0 i = (s1, .ok bs) ∧
    dmaChecks (putDma s1 0 { i with desc := bs }) 0 { i with desc := bs } = none ∧
    i.progress < dmaTotal (putDma s1 0 { i with desc := bs }) { i with desc := bs } :=
  ⟨_, _, by decide, rfl, by decide, by decide⟩

theorem witness_dma_chunk : ∀ x ∈ [(0, 48, 0x2000, 0x3010), (48, 52, 0x2030, 0x3040)],
    let i := dmaItem true x.1
    dmaTurn (dmaState true x.1) 0 = some 7 ∧ i.srcBolt = false ∧ i.dstBolt = false ∧
    min (i.length - i.progress) (64 - (i.dst + i.progress) % 64) = x.2.1 ∧
    healthy (dmaState true x.1) 0 x.2.2.1 x.2.1 = true ∧ healthy (dmaState true x.1) 0 x.2.2.2 x.2.1 = true ∧
    boltForbids (dmaState true x.1) 0 x.2.2.2 x.2.1 = false := by decide

theorem witness_dma_offsets : ∃ s1 s2, let i := dmaItem true 0
    dmaOffs (servedDma (dmaState true 0) 0 7) 0 i .read (piecesOf 0x2000 48) = (s1, .ok [(0x2000, 48)]) ∧
    dmaOffs (readDone s1 0 .tcc 0x2000 48) 0 i .write (piecesOf 0x3010 48) = (s2, .ok [(0x3010, 48)]) := ⟨_, _, rfl, rfl⟩

theorem witness_dma_stall :
    let i : DmaItem := { dmaItem true 0 with desc := leBytes 8 0 ++ leBytes 8 0x3010 ++ leBytes 4 100 ++ leBytes 2 0 ++ leBytes 2 4 ++ List.replicate 40 0 }
    dmaWaits ((boltState boltWord 0 []).modTile 0 (fun t => { t with dma := [i] })) 0 i ≠ none := by decide

/-- A control block for one token and one expert. -/
def rtuBlock (h : Nat) : List Byte :=
  leBytes 2 1 ++ leBytes 2 1 ++ [1, 0x10, 0, 0] ++ leBytes 4 0x1100 ++ leBytes 4 4 ++ leBytes 4 0x1200 ++ leBytes 4 16 ++ leBytes 4 16 ++
    leBytes 4 0x1300 ++ leBytes 4 0x1400 ++ leBytes 4 0x1500 ++ leBytes 4 0x1600 ++ leBytes 2 0 ++ leBytes 2 0 ++ leBytes 4 0x1700 ++
    leBytes 4 0 ++ leBytes 8 0 ++ leBytes 4 7 ++ leBytes 4 0x1800 ++ leBytes 4 64 ++ leBytes 2 h ++ [1, 1] ++ leBytes 4 0x1900 ++ leBytes 4 64 ++
    List.replicate 40 0

/-- An item of the Routing Unit in slot 15. -/
def rtuItem (wop pos : Nat) (running : Bool) : RtuItem :=
  { slot := 15, wop := wop, addr := 0x1000, int := false, running := running, cb := if running then rtuBlock 1 else [], pos := pos, heldIn := 0
    flying := [], stop := none }

/-- Tile 0 with the item, its control block, Bolt 0 with a notice, and assignment 0 in a state. -/
def rtuState (i : RtuItem) (asg : Nat) : State :=
  (withMem 0x1000 (rtuBlock 1) (withMem 0x1500 (leBytes 8 (asg * 65536)) (withMem 0x10010 (leBytes 4 7) (withReg (regPalEntry 1) 1
    (boltState boltWord 1 []))))).modTile 0 (fun t => { t with rtu := [i] })

/-- RtuEvents. -/
theorem witness_rtu_start : ∃ s1 b s2 n, tryRead (rtuState (rtuItem 0 0 false) 0) 0 0x1000 128 = (s1, .ok b) ∧ cbValid s1 0 b = true ∧
    cbResume b = false ∧ freshDispatch s1 0 b = (s2, .ok n) := ⟨_, _, _, _, rfl, by decide, by decide, rfl⟩

set_option maxRecDepth 8000 in
theorem witness_rtu_position : ∃ s1, let i := rtuItem 0 0 true
    rtuRunning (rtuState i 0) 0 = some i ∧ i.pos < i.total ∧ i.stop = none ∧ position (rtuState i 0) 0 i = (s1, .ok true) ∧
    (∃ x, rtuRunning s1 0 = some x ∧ x.pos = i.pos) := ⟨_, by decide, by decide, by decide, rfl, _, rfl, rfl⟩

theorem witness_rtu_end : (rtuItem 0 1 true).total ≤ 1 ∧ healthy (rtuState (rtuItem 0 1 true) 0) 0 0x1600 0x18 = true ∧
    combineTotal (rtuState (rtuItem 1 1 true) 0) 0 (rtuItem 1 1 true) ≤ 1 ∧
    (let s := rtuState (rtuItem 1 0 true) 0
     boltOpen s 0 0 = true ∧ 1 ≤ boltReady s 0 0 ∧ 32 ≤ cfgSlot (boltCfg s 0 0) ∧ healthy s 0 0x10000 32 = true ∧
     fieldAt (memBytes (s.tile 0).mem 0x10000 32) 0x10 4 = cbMicro (rtuBlock 1) ∧ fieldAt (memBytes (s.tile 0).mem 0x10000 32) 0x14 2 < cbAssigns (rtuBlock 1) ∧
     memGet (s.tile 0).mem (0x1500 + 2) = 0) := by decide

theorem witness_rtu_combine : ∃ s1 s2, let i := rtuItem 1 0 true
    let s := (rtuState i 2).modTile 0 (fun t => { t with rtuHeldIn := [List.replicate 32 0] })
    combineNext s 0 i = (s1, .ok (some ())) ∧ addReport s1 0 i.cb 0x28 1 = (s2, .ok ()) ∧ i.pos + 1 < combineTotal s 0 i := ⟨_, _, rfl, rfl, by decide⟩

theorem witness_rtu_room : ∃ s1, 0 < cbE (rtuBlock 1) ∧ hasRoom (rtuState (rtuItem 0 0 true) 0) 0 (rtuBlock 1) 0 = (s1, .ok false) :=
  ⟨_, by decide, rfl⟩

theorem witness_rtu_waits : ∃ s1, combineNext (rtuState (rtuItem 1 0 true) 0) 0 (rtuItem 1 0 true) = (s1, .ok none) := ⟨_, rfl⟩

/-! ### Witnesses: Sketches and networks -/

/-- An image in which lane core 3 has an input queue of depth 2 without spill, or with Bolt 1, and a route of credit 4 to tile 0. -/
def skImage (spill : Byte) : List Byte :=
  List.replicate 0xC 0 ++ [1, 0] ++ leBytes 2 1 ++ leBytes 2 1 ++ leBytes 2 0 ++ leBytes 4 0x90 ++ List.replicate 0x28 0 ++ List.replicate 0x30 0 ++
    ([1, 0] ++ leBytes 2 8 ++ [2, 0, 0, 0] ++ [spill, 255, 255, 255] ++ leBytes 4 0) ++ List.replicate 16 0 ++ ([1, 0, 5, 0] ++ leBytes 2 0 ++ leBytes 2 4)

/-- A token for queue 0 of lane core 3 in slot 1. -/
def skTok : SkToken :=
  { srcTile := 0, srcLane := 3, srcRoute := 0, srcSlot := 1, srcGen := 0, slot := 1, lane := 3, queue := 0, data := 7 }

/-- Tile 0 with slot 1 in a state, its image, tokens in the queue, and whether it is active. -/
def skState (st : Nat) (spill : Byte) (toks : List SkToken) (active : Option Nat) : State :=
  (coreState []).modTile 0 (fun t => { t with sk := { t.sk with
    active := active, slots := [(1, { SkSlot.empty with st := st, image := skImage spill, queues := [(12, toks)] })] } })

/-- SketchInstructions: the switch, `q.get` with and without a token, `q.put` with and without a credit. -/
theorem witness_sketch :
    (let f := fetched (skState 2 255 [skTok] (some 1)) 0 (.lane 3) 4
     issues (skState 2 255 [skTok] (some 1)) 0 (.lane 3) 4 laneOnly = true ∧ (f.tile 0).sk.active = some 1 ∧ (f.tile 0).cluster = false ∧
     laneDepth (skSlot f 0 1).image 3 0 = 2 ∧ queueToks f 0 1 (qKey 3 0) = [skTok] ∧ routeKind (skSlot f 0 1).image 3 0 = 1 ∧
     (skSlot f 0 1).failed.contains (rKey 3 0) = false ∧ kvGet 0 (skSlot f 0 1).inUse (rKey 3 0) < routeFld (skSlot f 0 1).image (routeNo (skSlot f 0 1).image 3 0) 6 2) ∧
    queueToks (skState 2 255 [] (some 1)) 0 1 (qKey 3 0) = [] ∧ (skSlot (skState 2 255 [] none) 0 1).st = 2 ∧
    (skSlot (skState 0 255 [] none) 0 1).st ≠ 2 ∧ bit (7 : BitVec 14) 2 = true ∧ bit (3 : BitVec 14) 2 = false ∧ (7 : BitVec 14).toNat < 8 ∧
    issues (skState 2 255 [] none) 0 .tcc 4 ⟨true, false, .s, false⟩ = true ∧ freeSlots (fetched (coreState []) 0 .tcc 8) 0 3 ≠ [] := by decide

/-- SketchStore: loading, flushing, switching. -/
theorem witness_sketch_store :
    ((skState 2 255 [skTok] none).tile 0).sk.active ≠ some 1 ∧ (skSlot (skState 2 255 [] none) 0 1).st ≠ 1 ∧
    (skSlot (skState 2 255 [] none) 0 1).tokens = 0 ∧ (skSlot (skState 1 255 [] none) 0 1).st ≠ 0 ∧ laneUsed (skImage 255) 3 = true ∧
    laneUsed (skImage 255) 4 = false ∧ (withReg (regSkTrig 3) 0x14000 (skState 2 255 [] none)).tbit 0 (regSkTrig 3) 16 = true ∧
    (skSlot (skState 2 255 [] none) 0 ((withReg (regSkTrig 3) 0x14000 (skState 2 255 [] none)).tfld 0 (regSkTrig 3) 15 14)).st = 2 := by decide

/-- SketchTokens: a queue with room, a full one without spill, a spilled token that can move. -/
theorem witness_tokens :
    (queueToks (skState 2 255 [skTok] none) 0 1 (qKey 3 0)).length < laneDepth (skImage 255) 3 0 ∧ spillToks (skState 2 255 [skTok] none) 0 1 (qKey 3 0) = [] ∧
    laneDepth (skImage 255) 3 0 ≤ (queueToks (skState 2 255 [skTok, skTok] none) 0 1 (qKey 3 0)).length ∧ laneSpill (skImage 255) 3 0 = 0xFF ∧
    laneSpill (skImage 1) 3 0 = 1 ∧ healthy (skState 2 1 [] none) 0 (slotOff (skState 2 1 [] none) 0 1 0) 16 = true ∧
    boltMod (skState 2 1 [] none) 0 1 ≤ 2 ^ 20 ∧
    (let s := (skState 2 255 [] (some 1)).modTile 0 (fun t => { t with lanes := [(3, { LaneCore.reset with wait := some (.token 3) })] })
     ((s.tile 0).lane 3).wait = some (.token 3) ∧ (s.tile 0).sk.reported.contains 3 = false ∧ s.tbit 0 regSkStall 31 = false) ∧
    (withReg regSkHistCfg 0x19 (coreState [])).tbit 0 regSkHistCfg 0 = true ∧ bit (0x100 : Word) 8 = true := by decide

theorem witness_spilled :
    let s := (skState 2 1 [] none).modTile 0 (fun t => { t with sk := { t.sk with slots := [(1, { (t.sk.slot 1) with
      spilled := [(12, [skTok])], batch := [(24, [skTok])], sentBatches := [(batchKey 0 24, 1)] })] } })
    spillToks s 0 1 (qKey 3 0) = [skTok] ∧ kvGet [] (skSlot s 0 1).batch (rKey 3 0) ≠ [] ∧ kvGet 0 (skSlot s 0 1).sentBatches (batchKey 0 (rKey 3 0)) ≠ 0 := by
  decide

set_option maxRecDepth 20000 in
/-- LinksAndEpochs: links at the corners, replays below and at the limit. -/
theorem witness_links : (neighbourPt 0 1).isSome = true ∧ (neighbourPt 1439 0).isSome = true ∧ linkDown State.reset 0 2 1 = false ∧
    kvGet 0 State.reset.mesh.replays (linkKey 0 (linkCode 2 1)) < 8 ∧
    8 ≤ kvGet 0 [(linkKey 0 (linkCode 2 1), 8)] (linkKey 0 (linkCode 2 1)) ∧
    ({ State.reset with mesh := { State.reset.mesh with shadow := some ⟨[], [], [], [], []⟩ } } : State).mesh.shadow = some ⟨[], [], [], [], []⟩ ∧
    linkExists 1439 2 0 = true ∧ linkExists 1529 3 1 = true ∧ netDrained State.reset = true ∧
    ltOfPt State.reset (ptOf State.reset 1) = some 1 := by decide

/-- A packet that came on B1 from router 2. -/
def redFlight (p : RedPkt) : Flight := ⟨.red p, .reduce, .xy, 2, 0, 9, 1, 5, 65, 0, false⟩

/-- Reduction 63: five participants, FP32, 128 elements, to tile 0. -/
def redState (held : List RedPkt) (pt : Nat) : State :=
  { ((((State.reset.setMreg (regMeshRedDecl 63) 0x01000000).setMreg (regMeshRedDecl 63 + 4) 5).setMreg (regMeshRedDecl 63 + 8) 128).setMreg
      (regMeshRedDecl 63 + 12) 2) with redHeld := [(pt, held.map (fun p => (p, redFlight p)))] }

/-- A packet of it. -/
def redPkt (lo k : Nat) : RedPkt := ⟨63, 1, lo, k, List.replicate 64 (0, 0)⟩

/-- Reductions: siblings meet, a packet is held, a packet reaches its destination. -/
theorem witness_reductions : mayArrive (redState [] 9) (.red (redPkt 4 0)) = true ∧ redKnown (redState [] 9) (redPkt 4 0) = true ∧ redValid (redState [] 9) 63 = true ∧
    ptOf (redState [] 9) (redDest (redState [] 9) 63) ≠ 9 ∧ promoteSpan 5 12 (redPkt 4 0) = redPkt 4 2 ∧
    (heldAt (redState [redPkt 1 0] 9) 9).find? (fun h => areSiblings (promoteSpan 5 12 (redPkt 0 0)) h.1) = some (redPkt 1 0, redFlight (redPkt 1 0)) ∧
    (heldAt (redState [] 9) 9).find? (fun h => areSiblings (redPkt 0 0) h.1) = none ∧ (heldAt (redState [redPkt 1 0] 9) 9).find? (fun h => h.1 == redPkt 1 0) = some (redPkt 1 0, redFlight (redPkt 1 0)) ∧
    16 ≤ (heldAt (redState (List.replicate 16 (redPkt 2 0)) 9) 9).length ∧ (4 < redParts (redState [] 9) 63) ∧
    (redChunk (redState [] 9) 63 1).spans.any (spansMeet (4, 0)) = false ∧ spansMeet (0, 0) (0, 1) = true ∧
    redFormatOk (palCfg (redState [] 9) (redDest (redState [] 9) 63) (redPal (redState [] 9) 63)).format = true ∧ (1 < redChunkCount (redState [] 9) 63) ∧
    (absorb (redState [] 9) 12 [] (redPkt 4 0)).find? (fun z => z.lo == 0 && z.k == clog2 5) = none ∧
    redParts (redState [] 9) 63 ≤ (redPkt 5 0).lo := by decide

theorem witness_reduction_done :
    let s := redState [] 9
    (absorb s 12 [redPkt 0 2] (promoteSpan 5 12 (redPkt 4 0))).find? (fun z => z.lo == 0 && z.k == clog2 (redParts s 63)) ≠ none ∧
    kvGet 0 s.redLead 63 ≤ 0 ∧ (redChunk s 63 0).done = false ∧
    (redChunk { s with redChunks := [(chunkKey 63 1, ⟨[(0, 0)], [redPkt 0 0], false⟩)] } 63 1).spans ≠ [] := by decide

/-! ### Witnesses: pre-emption, fabric -/

/-- A tile's TILE_PRE_STATUS. -/
def preState (w : Word) : State := withReg regTilePreStatus w (coreState [])

/-- TileSave, TileResume: nothing saved, saving and quiet, saved, refused, banks on and off. -/
theorem witness_preempt : preBit (preState 0) 0 0 = false ∧ preBit (preState 0) 0 1 = false ∧ (∀ b, b < 29 → ((preState 0).tile 0).bank b = .on) ∧
    ((preState 0).modTile 0 (fun t => { t with banks := [(28, .off)] }) |> fun s => (s.tile 0).bank 28 ≠ .on) ∧
    preBit (preState 1) 0 0 = true ∧ preQuiet (withReg regMeStatus 0x2000 (preState 1)) 0 = true ∧ preBit (preState 2) 0 1 = true ∧
    preBit (preState 4) 0 2 = true ∧ preBit (preState 4) 0 1 = false ∧ ((preState 0).modTile 0 (fun t => { t with preStop := true }) |> fun s =>
      (s.tile 0).preStop = true ∧ ((s.tile 0).lane 255).parked = false ∧ (s.tile 0).bank (255 / 4) = .on) ∧ ((preState 1).tile 0).discard = false ∧
    (meOf (preState 2) 0).saved = none := by decide

theorem witness_saved_items :
    let s := (preState 2).modTile 0 (fun t => { t with dmaSaved := [dmaItem false 0], lanes := [(255, { LaneCore.reset with parked := true })] })
    (s.tile 0).dmaSaved[0]? = some (dmaItem false 0) ∧ ((s.tile 0).lane 255).parked = true ∧ (s.tile 0).lostLanes.contains 255 = false ∧
    ({ s with haltGroups := [3] } : State).haltGroups.contains 3 = true ∧ tileLive s 0 = true ∧ groupOfTile s 0 ≠ 3 := by decide

/-- Port 119 with STATUS and CFG words. -/
def portWords (st cfg : Word) : State := (State.reset.setFreg 59 (regFabPortStatus 1) st).setFreg 59 (regFabPortCfg 1) cfg

/-- A packet for a module with a credit message. -/
def fabPkt (dst : BitVec 16) (ttl : BitVec 8) : FabPkt :=
  { dst := dst, src := 2, cls := 1, esc := false, flagged := false, ce := false, typ := 3, ttl := ttl, keyId := 4, psn := 9, ga := 0, srcTile := 0, age := 0
    length := 64, xid := 0, segs := 1, orderBase := 0, clean := true, genuine := true, body := .credit 2 reqMsg }

/-- A flit that ends it. -/
def fabFlit (good nak : Bool) : FabFlit :=
  { seq := 0, ack := 5, vc := 2, idle := false, sop := true, eop := true, nak := nak, cvc := 0, hello := false, credits := 0, good := good, pkt := some (fabPkt 1 9) }

/-- The memory of an optical cable, its CRC behind it. -/
def goodCable : List Byte :=
  leBytes 4 0x4C424143 ++ leBytes 2 1 ++ [3] ++ List.replicate 245 0 ++ leBytes 4 0x382b5611

theorem witness_cable : cableOk goodCable = true := by decide +kernel

/-- FabricPorts: each state of a port, the causes at both ends of their range, flits good and bad. -/
theorem witness_ports : portState (portWords 0 0) 119 = 0 ∧ portState (portWords 0x14 0) 119 = 4 ∧
    (portWords 0x14 0).ffld 59 (regFabPortStatus 1) 7 4 = 1 ∧ portState (portWords 1 1) 119 = 1 ∧ portState (portWords 2 1) 119 = 2 ∧
    portState (portWords 3 1) 119 = 3 ∧ (portWords 4 1).ffld 59 (regFabPortCfg 1) 0 0 = 1 ∧ (1 : BitVec 4).toNat = 1 ∧ (10 : BitVec 4).toNat = 10 ∧
    (fabFlit true false).seq.toNat = (fabPort (portWords 3 1) 119).rxSeq ∧ (fabFlit true false).pkt = some (fabPkt 1 9) ∧ (119 : Nat) < 120 ∧
    heldCause (portWords 1 1) 119 ≠ 0 ∧ heldCause ((portWords 1 1).setMreg (regClkPll 6) 2) 119 = 0 ∧
    seqLe 7 (0 + 2 ^ 16 - 1) = false ∧ seqLe 65000 (0 + 2 ^ 16 - 1) = true := by decide

/-- FabricPorts: a cable that reads badly, and one that reads well and leads back to this module, at a port whose loopback is enabled. -/
theorem witness_pairing : pairing (portWords 2 1) 119 ⟨2, true, 5, [], [], 0⟩ ≠ 0 ∧
    (pairing { portWords 2 5 with mgt := { State.reset.mgt with parts := [(13, goodCable)] } } 119 ⟨1, true, 118, Config.serial, [], 0⟩ = 0) := by
  refine ⟨by decide, ?_⟩
  have hm : cableMem { portWords 2 5 with mgt := { State.reset.mgt with parts := [(13, goodCable)] } } (119 / 10) = goodCable := rfl
  have hb : bit (({ portWords 2 5 with mgt := { State.reset.mgt with parts := [(13, goodCable)] } } : State).freg (119 / 2) (regFabPortCfg (119 % 2))) 2 = true := by decide
  simp only [pairing, hm, witness_cable, hb]
  rfl

/-- FabricPorts: a NAK that names the flit after the last one acknowledged; the first, the sixteenth failure, and one whose replay is still to be sent. -/
def nakState (nakAt : Option Nat) (fails : Nat) (resend : List (FabFlit × List Byte)) : State :=
  { (portWords 3 1) with fab := { (portWords 3 1).fab with
    ports := [(119, { FabPort.reset with replay := [({ fabFlit true false with seq := 6 }, [])], resend := resend, nakAt := nakAt, fails := fails, txSeq := 7 })] } }

theorem witness_nak :
    let x := fun (s : State) => ackFlits (fabPort s 119) (fabFlit true true).ack.toNat
    let next := fun (g : FabFlit × List Byte) => g.1.seq.toNat == ((fabFlit true true).ack.toNat + 1) % 2 ^ 16
    (fabFlit true true).ack.toNat = 5 ∧ (x (nakState none 0 [])).replay.any next = true ∧ (x (nakState (some 5) 15 [])).replay.any next = true ∧
    (fabPort (nakState (some 5) 15 []) 119).nakAt = some 5 ∧ 15 ≤ (fabPort (nakState (some 5) 15 []) 119).fails ∧
    (x (nakState (some 5) 15 [])).resend.any next = false ∧ (x (nakState (some 5) 0 [({ fabFlit true false with seq := 6 }, [])])).resend.any next = true ∧
    (x (portWords 3 1)).replay.any next = false := by decide

/-- Module 1, whose routes lead to module 5 over port 119, which is up; a packet queued, received, out and held. -/
def fabState (x : FabPkt) : State :=
  let s := portWords 3 1
  { s with
    moduleId := some 1
    fab := { s.fab with
      ports := [(119, { FabPort.reset with rx := [(2, [x])], queues := [(2, [⟨fabPkt 5 9, some 118, 2, 0, 0⟩])] })]
      routes := some ⟨1, 1, 0, 64, 2 ^ 120 - 1, 0, [(5, 0x00F7F7F7)]⟩
      tx := [(5, { FabTx.reset with psn := [(4, 10)], out := [⟨fabPkt 5 9, 0, 0, false⟩], rate := 400 })]
      rx := [(36, { FabRx.reset with base := 9, acks := [(9, false)], held := [] })]
      sess := [(2, { Sess.none with cur := some 4 })] } }

/-- FabricTransport: packets of no kind, for another module with and without hops left, for this one. -/
theorem witness_transport : malformed { fabPkt 1 9 with typ := 9 } = true ∧ malformed (fabPkt 1 9) = false ∧ (fabState (fabPkt 5 9)).moduleId ≠ some 5 ∧
    kvGet [] (fabPort (fabState (fabPkt 5 9)) 119).rx 2 = fabPkt 5 9 :: [] ∧ (fabPkt 5 1).ttl.toNat ≤ 1 ∧ 1 < (fabPkt 5 9).ttl.toNat ∧
    keyKnown (fabState (fabPkt 1 9)) (fabPkt 1 9) = true ∧ keyKnown (fabState (fabPkt 1 9)) { fabPkt 1 9 with keyId := 3 } = false ∧
    (fabRx (fabState (fabPkt 1 9)) 2 4).base ≤ 9 ∧ (fabRx (fabState (fabPkt 1 9)) 2 4).seen.contains 9 = false ∧
    egress (fabState (fabPkt 5 9)) 6 9 false (some 119) = none ∧ egress (fabState (fabPkt 5 9)) 5 9 true none = some 119 := by decide

theorem witness_retransmit :
    let s := fabState (fabPkt 5 9)
    ((fabTx s 5).out.find? (isOut 4 9)).map (fun o => o.tries) = some 0 ∧ (egress s 5 9 false none).isSome = true ∧ 0 < s.mfld regFabXportCfg 13 10 ∧
    0 < s.mfld regFabXportCfg 15 14 ∧ s.mfld regFabXportCfg 13 10 ≤ 15 ∧ 9 < kvGet 0 (fabTx s 5).psn 4 ∧ (∀ o ∈ (fabTx s 5).out, o.pkt.srcTile.toNat < 1320) ∧
    (ackedPsns 9 1).any (fun n => isOut 4 n ⟨fabPkt 5 9, 0, 0, false⟩) = true ∧ 0 < s.mfld regFabCcCfg1 7 0 ∧ (fabTx s 5).cut = false ∧
    0 < s.mfld regFabCcCfg0 11 0 ∧ 0 < min (s.mfld regFabCcCfg0 23 12) ((fabTx s 5).rate + s.mfld regFabCcCfg1 15 8) ∧
    portQueue (fabPort s 119) 2 = [⟨fabPkt 5 9, some 118, 2, 0, 0⟩] ∧ egress s 5 9 true (some 118) = some 119 ∧ egressRoom s 119 6 (pktFlits (fabPkt 5 9)) = true ∧
    ackLeaves s 5 = true ∧ mayArrive s (.fabAck 5 (.ack 9 1 false 1) 4) = true ∧ s.mesh.shadow = none ∧ s.fab.toSend = [] ∧ kvGet 0 (fabPort s 119).headSent 2 = 0 ∧ kvGet 0 (fabPort s 119).credits 6 = 0 := by decide

theorem witness_held_packet :
    ([((0 : Nat), fabPkt 1 9)].find? (fun y => y.2.psn == 9)) = some (0, fabPkt 1 9) ∧ (∀ p ∈ [((9 : Nat), false), (25, true)], 9 ≤ p.1) ∧
    (egress { fabState (fabPkt 1 9) with fab := { (fabState (fabPkt 1 9)).fab with routes := none } } 5 9 false none).isNone = true := by decide

/-- A session in a phase. -/
def sessState (e : Sess) : State := { State.reset with
  moduleId := some 1, aon := 90000000000, sec := { State.reset.sec with policy := true }, fab := { State.reset.fab with sess := [(7, e)] } }

/-- Sessions. -/
theorem witness_sessions : (sessState { Sess.none with phase := 1, initiator := true, xchg := 3 }).sec.policy = true ∧
    (14 : BitVec 4) ≠ 15 ∧ ¬ (((sessOf (sessState Sess.none) 7).phase = 1) ∧ hereId (sessState Sess.none) < 7) ∧
    (sessOf (sessState { Sess.none with phase := 1 }) 7).phase = 1 ∧ hereId (sessState Sess.none) < 7 ∧
    (let e := sessOf (sessState { Sess.none with phase := 3, initiator := true, tries := 2 }) 7
     e.phase = (if e.initiator then 3 else 2) ∧ e.tries < 3 ∧ 1 ≤ e.phase ∧ e.phase ≤ 4) ∧
    (let e := sessOf (sessState { Sess.none with phase := 2, initiator := false }) 7
     e.phase = (if e.initiator then 3 else 2)) ∧
    (sessOf (sessState { Sess.none with phase := 4 }) 7).phase = 4 ∧
    (fabTx (sessState { Sess.none with phase := 4 }) 7).out.any (isAuth (sessOf (sessState { Sess.none with phase := 4 }) 7).xchg) = false ∧
    (fabTx (fabState (fabPkt 5 9)) 5).out.any (isAuth 3) = false ∧
    [FabOut.mk { fabPkt 7 9 with body := .session 3 0 1 14 3 [] } 0 0 false].any (isAuth 3) = true ∧
    (sessOf (sessState { Sess.none with cur := some 14 }) 7).since + (sessState Sess.none).mfld regSecSessCfg 7 0 * 3600000000 ≤ (sessState Sess.none).aon ∧
    (sessOf (sessState { Sess.none with firstNew := some 0 }) 7).firstNew.isSome = true ∧
    authRefused (sessState Sess.none) Sess.none [] ≠ 0 := by decide

theorem witness_session_bodies : (∃ b : List Byte, b.length = 1329) ∧ (∃ b : List Byte, b.length = 1233) ∧ (∃ b : List Byte, b.length = 64) :=
  ⟨⟨List.replicate 1329 0, List.length_replicate⟩, ⟨List.replicate 1233 0, List.length_replicate⟩, ⟨List.replicate 64 0, List.length_replicate⟩⟩

/-! ### Witnesses: power, clocks, tests, management, LCP, host -/

/-- The state with the power state of region 29 set. -/
def regionWord (w : Word) : State := State.reset.setFreg (upperField 29) regPwrRegState w

/-- PowerControl. -/
theorem witness_power : regionState (regionWord 0x404000) 29 = 0 ∧ regionState (regionWord 0x404002) 29 = 2 ∧
    (State.reset.region 29).guarded = false ∧ State.reset.clk.relocked.contains 29 = false ∧ regionOf State.reset 1319 = 29 ∧
    (({ State.reset with regions := [(29, { Region.reset with droopNotice := [1319], ramp := some 9 })] } : State).region 29).droopNotice ≠ [] ∧
    rfld State.reset 29 regPwrRegCtrl 0 0 = 1 := by decide

/-- PowerControl, the allocator's and the guard's conditions: no estimate or one above every input power, no demand or one above every budget,
and a sag that begins or is held. -/
def estState (est demand : Nat) : State := { State.reset with regions := [(0, { Region.reset with estRaw := est, demand := demand })] }

theorem witness_power_guard :
    regionState State.reset 29 < 3 ∧ State.reset.clk.relocked.contains 29 = false ∧ (State.reset.region 29).guarded = false ∧
    (State.reset.region 29).sagHeld = false ∧ State.reset.mgt.sagging = false ∧ (guardState State.reset).2 = false ∧
    (guardState (estState (10 ^ 16) 0)).2 = true ∧ ((estState (10 ^ 16) 0).region 29).guarded = false ∧
    ({ State.reset.mgt with sagging := true } : Mgt).sagging = true ∧
    (({ State.reset with regions := [(29, { Region.reset with guarded := true, sagHeld := true })] } : State).region 29).guarded = true := by decide

theorem witness_power_budget :
    ((List.range 30).map (fun k => ((estState 0 0).region k).demand)).foldl (· + ·) 0 ≤ tileBudget (estState 0 0) := by
  have h0 : ((List.range 30).map (fun k => ((estState 0 0).region k).demand)).foldl (· + ·) 0 = 0 := by decide
  rw [h0]; exact Nat.zero_le _

theorem witness_power_short :
    tileBudget (estState 0 (10 ^ 30)) < ((List.range 30).map (fun k => ((estState 0 (10 ^ 30)).region k).demand)).foldl (· + ·) 0 := by
  have h1 : ((List.range 30).map (fun k => ((estState 0 (10 ^ 30)).region k).demand)).foldl (· + ·) 0 = 10 ^ 30 := by decide
  rw [h1]
  have hc : capOf (estState 0 (10 ^ 30)) ≤ 511 := by decide
  have hg : gain (estState 0 (10 ^ 30)) = 4096 := by decide
  have hf : (estState 0 (10 ^ 30)).mgt.pinFails = 0 := by decide
  have hq : ∀ n d : Nat, quantise n d ≤ n / d + 1 := by
    intro n d; unfold quantise; split <;> omega
  have := hq (10 ^ 11 * capOf (estState 0 (10 ^ 30)) * 10 * 9 * 4096) (10 * 4096)
  simp only [tileBudget, hg, hf, show ¬ (3 ≤ 0) by omega, if_false]
  omega

/-- HeatControl. -/
theorem witness_heat : regionState (regionWord 3) 29 = 3 ∧ drained (regionWord 3) 29 = true ∧ regionState (regionWord 4) 29 = 4 ∧
    regionCool (regionWord 4) 29 = true ∧ ((regionWord 4).region 29).fatalHalt = false ∧ bit ((State.reset.setMreg regSecStatus 2).mreg regSecStatus) 1 = true ∧
    bit (State.reset.mreg regSecStatus) 1 = false := by decide

/-- A module with a clock status word, powered. -/
def clkState (w : Word) : State := { State.reset.setMreg regClkStatus w with mgt := { State.reset.mgt with powered := true } }

/-- ClocksAndSleep: the reference valid, and valid again after 100 windows; counts at the ends of each range. -/
theorem witness_clocks : (clkState 8).mgt.powered = true ∧ refValid (clkState 10) = true ∧ 2 ≤ (clkState 10).mfld regClkStatus 1 0 ∧
    refValid (clkState 0) = false ∧ ({ clkState 0 with clk := { (clkState 0).clk with good := 99, waitStart := [36] } } : State).clk.good = 99 ∧
    ¬ (495 ≤ 494 ∧ (494 : Nat) ≤ 505) ∧ (clkState 10).mfld regClkTrim 10 10 = 0 ∧ ((clkState 10).setMreg regClkTrim 0x400).mfld regClkTrim 10 10 = 1 ∧
    pllState ((clkState 10).setMreg (regClkPll 36) 0x40002) 36 = 2 ∧ pllState ((clkState 10).setMreg (regClkPll 0) 0x40001) 0 = 1 ∧
    pllState (clkState 10) 6 = 0 ∧ pllState ((clkState 10).setMreg (regClkPll 36) 0x40004) 36 = 4 ∧ autoRelock (clkState 10) 36 = true ∧
    jobLoaded (clkState 10) = false ∧ (clkState 10).fab.routes.isNone = true ∧ jobLoaded ((clkState 10).setMreg regMgtBootStatus 0x100) = true := by decide

theorem witness_sleep :
    let s := ((coreState []).setMreg (regClkPll 7) 2).modTile 0 (fun t => { t with tcc := { t.tcc with wait := some .interrupt }, lanes := [] })
    tileIdle s 0 = true ∧ wakePending s 0 = false ∧ (s.tile 0).asleep = 0 ∧ regionState s (regionOf s 0) < 3 ∧
    (s.modTile 0 (fun t => { t with asleep := 2, preReq := true, tcc := { t.tcc with prv := .u, intEn := 0x4000 } }) |> fun u =>
      (u.tile 0).asleep = 2 ∧ wakePending u 0 = true ∧ intToTake (u.modTile 0 (fun x => { x with asleep := 0 })) 0 = some 14 ∧
      tccLive (u.modTile 0 (fun x => { x with asleep := 0 })) 0 = true) := by decide

/-- TestsAndRecords. -/
theorem witness_tests :
    let j : TestJob := ⟨⟨4, 0, 16⟩, 0, true, false, false⟩
    let c : Fc := { Fc.reset with tests := [j] }
    nextTest c = some j ∧ nextTest Fc.reset = none ∧ c.reloading = false ∧ ([{ j with running := true }].find? (fun k => k.running && k.unit == j.unit)).isSome = true ∧
    targetOf State.reset 0xC00 = some .mc ∧ targetOf State.reset 0x83B = some (.fc 59) ∧ targetOf State.reset 1319 = some (.tile 1319) ∧
    bit (0x0E05 : Word) 0 = true ∧ fld (0x0E05 : Word) 2 1 ≠ 1 ∧ fld (0x0E03 : Word) 2 1 = 1 ∧ jobLoaded State.reset = false ∧
    regionState State.reset 0 ≠ 5 := by decide

theorem witness_records :
    let s := State.reset.modTile 0 (fun t => { t with preReq := true, recorder := { t.recorder with queue := [⟨5, 1, 0, 0, []⟩] } })
    (recorderOf s (.tile 0)).queue ≠ [] ∧ intPending s 0 (fld (0xE03 : Word) 15 8) = true ∧
    ({ s with gesso := { s.gesso with fullBusy := true } } : State).gesso.fullBusy = true := by decide

/-- PowerAndManagement. -/
theorem witness_management : State.reset.mgt.powered = false ∧ (clkState 8).mgt.powered = true ∧ State.reset.mgt.alerts = 0 ∧ State.reset.mgt.i3c = none ∧
    ({ State.reset.mgt with alerts := 1 } : Mgt).alerts ≠ 0 ∧ usbClockGood ((clkState 10).setMreg (regClkPll 2) 2) = true ∧ usbClockGood (clkState 10) = false ∧
    State.reset.mgt.heat = (0, 0) ∧ ({ State.reset.mgt with heat := (1200, 20) } : Mgt).heat.2 ≠ 0 ∧
    (mcFailed State.reset false && mcFailed State.reset true) = false ∧ bit (1 : BitVec 8) 0 = true ∧ bit (0xFE : BitVec 8) 0 = false := by decide

/-- A powered module, booted to step 15 and ready, with connections 1 (full) and 2, USB attached with both scopes open. -/
def lcpState' : State :=
  let s := State.reset.setMreg regMgtBootStatus 0x1F
  { s with
    mgt := { s.mgt with powered := true, conns := [⟨1, true, 0⟩, ⟨2, false, 1⟩], usb := true }, sec := { s.sec with scopes := 3 } }

/-- ControlProtocol: what each sender may send, what is busy, and the conditions of single messages. -/
theorem witness_lcp : viaExists 1 = true ∧ viaExists 6 = true ∧ viaOpen lcpState' 1 = true ∧ viaOpen lcpState' 3 = false ∧
    (∀ t ∈ [1, 2, 3, 4, 5, 6, 7, 8, 9, 0xA, 0xB, 0xC, 0xD, 0xE, 0xF, 0x10, 0x11, 0x12], lcpAllowed lcpState' 1 t = true ∧ lcpIsBusy lcpState' 1 t = false) ∧
    lcpAllowed lcpState' 6 0x13 = true ∧ lcpAllowed lcpState' 6 0x14 = true ∧ lcpAllowed lcpState' 2 4 = false ∧
    lcpIsBusy { lcpState' with mgt := { lcpState'.mgt with loading := some ⟨2, []⟩ } } 1 7 = true ∧ 4 ≤ lcpState'.mfld regMgtBootStatus 3 0 ∧
    lcpState'.mfld regMgtBootStatus 4 4 = 1 ∧ jobLoaded lcpState' = false ∧ lcpState'.flash.owners.length < 4 ∧
    [1, 2, 3, 4].find? (fun i => !lcpState'.mgt.conns.any (fun c => c.id == i)) = some 3 ∧ 14 ≤ lcpState'.mfld regMgtBootStatus 3 0 ∧
    nextPiece lcpState' 0 [1, 2] = some [1, 2] ∧ imageWhole [1, 2] = false ∧ imageWhole (List.replicate 16 0) = true ∧
    (0 < ltCount lcpState') ∧ healthy lcpState' 0 0x27FFFFC 4 = true ∧ boltForbids lcpState' 0 0x27FFFFC 4 = false ∧ streamOf lcpState' 5 = none := by decide

theorem witness_owner_keys : (∃ k, ownerKeysOk k = true) ∧ ∃ n : List Byte, n.length = 32 :=
  ⟨⟨List.replicate 388 0, by unfold ownerKeysOk; rw [List.length_replicate]; rfl⟩, ⟨List.replicate 32 0, rfl⟩⟩

/-- An open stream of 4,100 bytes of tile 0. -/
def stream (dirOut : Bool) : Stream := ⟨0, 1, dirOut, 0, 0, 0x1000, 0, 4100, 0, none, 3, 800, [], [], true, 0, none⟩

/-- HostStreams, ControlProtocol: streams out and in, their first and last block. -/
theorem witness_streams : streamOk lcpState' (stream true) = true ∧ streamOk lcpState' { stream true with len := 0 } = false ∧
    (let s := putStream (lcpState'.setMreg (regHostPortStatus 0) 2) 3 (stream false)
     streamOf s 3 = some (stream false) ∧ s.mfld (regHostPortStatus 0) 1 0 = 2 ∧ (stream false).port = (0 : BitVec 1).toNat ∧ (stream false).lastCnp.all (fun t => decide (t + 50 ≤ s.aon)) = true ∧
     (0 : BitVec 12).toNat = s.mfld (regHostPortCfg 0) 27 16 ∧
     wholeBlocks (stream false) (blockAt (stream false) 0) 4112 = some (0, 1) ∧ streamBlocks (stream true) = 2 ∧
     healthy s 0 (0x1000 + 4096) (blockBytes (stream true) 1) = true) ∧
    (lcpState'.setMreg (regHostPortStatus 1) 1).mfld (regHostPortStatus 1) 1 0 = 1 ∧
    (lcpState'.setMreg (regClkPll 4) 2 |>.mfld (regHostPortStatus 1) 1 0) = 0 ∧ 14 ≤ lcpState'.mfld regMgtBootStatus 3 0 ∧
    pllState (lcpState'.setMreg (regClkPll 4) 2) (3 + (1 : BitVec 1).toNat) = 2 ∧ bit (((lcpState'.setMreg (regHostPortCfg 1) 1)).mreg (regHostPortCfg 1)) 0 = true := by decide

/-- HostStreams: a frame that the port takes, plain, marked CE, or with parts that are not supported. -/
theorem witness_frames : ∀ odd ce : Bool, (HostFrame.mk 0 (macOf 0) 0 odd ce).dst = macOf 0 ∧ (HostFrame.mk 0 (macOf 0) 0 odd ce).vlan = 0 :=
  fun _ _ => ⟨rfl, rfl⟩

/-- PowerAndManagement: a device certificate that holds the derived keys, and one that does not. -/
def certState (a b : List Byte) : State := { State.reset with flash := { State.reset.flash with certRsa := a, certPq := b } }

theorem witness_device_keys : keysAgree (certState (dikOf Config.deviceSecret).rsa (dikOf Config.deviceSecret).pq) = true ∧
    keysAgree (certState ((dikOf Config.deviceSecret).rsa ++ [0]) []) = false := by
  constructor <;> simp [keysAgree, certState]

/-- RegistersAndSteps: the targets and blocks at the ends of the map, and registers of the recorder. -/
theorem witness_registers : targetOf State.reset 0xFFF = none ∧ blockExists (.tile 0) 0xF0E0000 = true ∧ blockExists .mc 0xF010000 = false ∧
    (findRow tileRows (regSkbTrig 0)).isSome = true ∧ regSkbTrig 0 / 0x10000 = 0xF0C ∧ bootLocked State.reset = false ∧
    (({ State.reset with regions := [(29, { Region.reset with samples := [⟨0, 0, 255, 4, true, 1, 0, true⟩] })] } : State).region 29).samples ≠ [] ∧
    sampleExceeds State.reset ⟨0, 0, 255, 4, true, 1, 0, true⟩ = true ∧ sampleExceeds State.reset ⟨0, 0, 255, 4, true, 1, 0, false⟩ = false ∧
    (let s : State := { (coreState []).modTile 0 (fun t => { t with stepQueue := [(1, 5), (2, 9)] }) with stepBarrier := some 3, regions := [(0, { Region.reset with samples := [⟨0, 0, 255, 4, true, 1, 0, true⟩] })] }
     (s.tile 0).stepQueue = (1, 5) :: [(2, 9)] ∧ s.stepBarrier = some 3 ∧ unitsStop s 0 = false ∧ regionRefuses s 0 = false ∧ regionState s 0 < 4 ∧
     (s.region (regionOf s 0)).samples.any (fun x => decide (x.seq < 5)) = true ∧ (s.region (regionOf s 0)).samples.any (fun x => decide (x.seq < 4)) = false ∧
     mayArrive s (.sync false 0 4 3 false false 0 2) = true ∧ revBits 6 0 = 0) ∧
    regionRefuses (State.reset.setFreg (upperField 0) regPwrRegState 4) 0 = true ∧
    4 ≤ regionState (State.reset.setFreg (upperField 0) regPwrRegState 4) 0 := by decide

/-- MemoryInvariant, FusesInvariant: a state with bytes in memory, from which an instruction steps on. -/
theorem witness_invariants : memoriesOk (withMem 64 [1, 0, 2] (coreState [])) = true ∧ (coreState []).flash.floors.length = 3 ∧
    (∃ t, step { withMem 64 [1, 0, 2] (coreState []) with pending := [.fence 0 .tcc 0 0 0] } = .next t) := ⟨by decide, by decide, _, rfl⟩


/-! ### WellFormed: an ill-formed term for each check, refused; and the last unit of each kind, admitted -/

theorem wf_tile : (Instr.tileWake 1320).wellFormed = false ∧ (Instr.tileWake 1319).wellFormed = true := by decide
theorem wf_core : (Instr.addi 0 (.lane 256) 1 2 3).wellFormed = false ∧ (Instr.addi 0 (.lane 255) 1 2 3).wellFormed = true ∧
    (Instr.addi 1320 .tcc 1 2 3).wellFormed = false := by decide
theorem wf_physical_tile : (Instr.redWaitExpire 1440 ⟨0, 0, 0, 0, []⟩).wellFormed = false ∧
    (Instr.redWaitExpire 1439 ⟨0, 0, 0, 0, []⟩).wellFormed = true := by decide
theorem wf_field_controller : (Instr.testStart 60).wellFormed = false ∧ (Instr.testStart 59).wellFormed = true := by decide
theorem wf_region : (Instr.droopNotice 30).wellFormed = false ∧ (Instr.droopNotice 29).wellFormed = true := by decide
theorem wf_port : (Instr.fabPortTrained 120).wellFormed = false ∧ (Instr.fabPortTrained 119).wellFormed = true := by decide
theorem wf_pll : (Instr.pllLossOfLock 37).wellFormed = false ∧ (Instr.pllLossOfLock 36).wellFormed = true := by decide
theorem wf_connection : (Instr.getStatus 5 0).wellFormed = false ∧ (Instr.getStatus 0 0).wellFormed = false ∧
    (Instr.getStatus 6 0).wellFormed = true := by decide
theorem wf_part : (Instr.partInserted 16 []).wellFormed = false ∧ (Instr.partInserted 15 []).wellFormed = true := by decide
theorem wf_bundle : (Instr.bundlePresentChange 12 true).wellFormed = false ∧ (Instr.bundlePresentChange 11 true).wellFormed = true := by decide
theorem wf_unknown_type : (Instr.lcpUnknownType 1 0 0x14).wellFormed = false ∧ (Instr.lcpUnknownType 1 0 0x15).wellFormed = true := by decide

/-! ### Worked examples of the spec -/

/-- 04, worked example: `addi g5, g3, -12` is 0xFFD0_6508. -/
theorem test_addi_word : wordI 0x02 5 3 (-12) = 0xFFD06508 := by decide

/-- 04, worked example: `br.ne g7, g0, -16` is 0xFF84_E034. -/
theorem test_br_word : wordL 0x0D 0 7 1 (-4) = 0xFF84E034 := by decide

/-- 07, worked element: the rounding stream gives R = 0x3C8F_F757. -/
theorem test_rounding_stream : roundStream 0x0000003100005EED 0x1004 0x212 76871 = 0x3C8FF757 := by decide

/-- 07, worked element: FP32 0xBC23_C5A0 is written as BF16 0xBC24. -/
theorem test_stochastic_element : (toFloat bf16 false false (.stoch 0x3C8FF757) (fp32.decode 0xBC23C5A0) Tally.none).1 = 0xBC24 := by decide

/-- 07, after R186: the millionth addition of 2^−30 to 1.0 gives the pair 0x3F80_1E85, 0x8000; before it the value is 1 + 999,999 × 2^−30. -/
theorem test_compensated_sum : fp32cAdd 0x3F801E84 0x7E00 0x30800000 = (0x3F801E85, 0x8000) := by decide

/-- 10, example of six participants: siblings are combined whatever the order of arrival, and the sum is 0x3F80_0001. -/
theorem test_reduction_order :
    let s := (State.reset.setMreg (regMeshRedDecl 0) 0x01000000).setMreg (regMeshRedDecl 0 + 4) 6
    let p (lo : Nat) (x : Word) : RedPkt := ⟨0, 0, lo, 0, [(x, 0)]⟩
    let ps := [p 0 0x3F800000, p 1 0x33800000, p 3 0x33800000, p 2 0x33800000, p 4 0, p 5 0]
    (ps.foldl (fun acc q => absorb s 4 acc (promoteSpan 6 12 q)) []).map (fun q => (q.lo, q.k, q.elems)) = [(0, 3, [(0x3F800001, 0)])] := by
  decide

/-- 16, worked example: 7.45 W of budget at 11.2 W for 64 slots is 42 slots. -/
theorem test_ramp_slots : slotsFor 7450 11200 = 42 ∧ slotsFor 7850 11200 = 44 ∧ slotsFor 10650 11200 = 60 := by decide

/-- 02, worked example of region 14: physical tiles 343, 352, 583 and 592 are its spares, home 1 of field 14 (0,1) is at (21, 12), and the
spare at distance 3 is the nearest to it. -/
theorem test_region_14 : ([343, 352, 583, 592].all (fun x => (sparePts 14).contains x)) = true ∧ (sparePts 14).length = 4 ∧ ptXY (homePt 14 1) = (21, 12) ∧
    [343, 352, 583, 592].map (ptDist (homePt 14 1)) = [3, 5, 9, 11] ∧ regionOf State.reset 616 = 14 ∧ regionOf State.reset 659 = 14 ∧
    homePt 14 31 = ptOf State.reset 647 := by decide

/-- 02, worked example: with the factory map's three substitutions and a later one, homes 1, 31, 43 and 34 are served by the spares. -/
theorem test_substitution :
    let bad (pt : Nat) : MapEnt := ⟨1, false, true, false, pt, 0, 0, 0⟩
    let sub (h sp : Nat) : MapEnt := ⟨2, false, true, false, homePt 14 h, sp, 0, 0⟩
    let es := [bad (homePt 14 1), bad (homePt 14 31), bad (homePt 14 43), sub 1 343, sub 31 583, sub 43 592]
    servingPt es 14 1 = some 343 ∧ servingPt es 14 31 = some 583 ∧ servingPt es 14 43 = some 592 ∧
    servingPt (es ++ [bad (homePt 14 34), sub 34 352]) 14 34 = some 352 ∧
    servingPt (es ++ [bad (homePt 14 34), sub 34 352, bad (homePt 14 20)]) 14 20 = none ∧
    (servedHomes (es ++ [bad (homePt 14 34), sub 34 352, bad (homePt 14 20)]) 14).length = 43 := by decide

/-- 08, example of R209: the 2:4 BF16 entry of group 3, column 5 is 0x36, at bit 30 of its metadata row. -/
theorem test_sparse_entry :
    let d : TDesc := { tdesc (List.replicate 64 0) with metaStride := 0x20000 + 96 }
    d.metaBits = 6 ∧ 5 * d.metaBits = 30 ∧ metaEntry d [0, 0, 0, 0x80, 0x0D] 5 = (2, [1, 3]) := by decide

/-- The decoder of table words: no row of the opcode table gives bits. -/
theorem test_no_table_word : decodeTableWord 32 0 = none ∧ decodeTableWord 0 0 = none := by decide

end Sys2Proof.Tests
end

section
/-!
O57: the last clause fails. A set whose bank refuses accesses while the shadows can be read is verified, and VERIFIED stays as it was.
-/
namespace Sys2Proof.Machine

open Sys2Proof

/-! ### A write to a bank that refuses accesses -/

@[simp] theorem length_leBytes (n x : Nat) : (leBytes n x).length = n := by
  induction n generalizing x with
  | zero => rfl
  | succ n ih => simp [leBytes, ih]

/-- A word that cannot be reached stops a write, whether the write covers it or reads it first (R63, R66), and nothing has changed. -/
theorem touchWrite_of_blocked {s : State} {lt w : Nat} {st : Status} (hb : wordBlocked s lt w = some st) (off n : Nat) :
    touchWrite s lt off n w = (s, some st) := by
  unfold touchWrite
  split
  · rw [hb]
  · simp [touchRead, hb]

/-- A field of a prediction set whose first word cannot be reached is not written, and nothing else changes. -/
theorem setSetField_of_blocked {s : State} {lt set off n w : Nat} {ws : List Nat} {st : Status} (hreg : regionRefuses s lt = false)
    (hw : wordsOf (set + off) n = w :: ws) (hb : wordBlocked s lt w = some st) (v : Nat) : setSetField s lt set off n v = s := by
  simp [setSetField, memWrite, memWriteBy, hreg, hw, touchWrites, touchWrite_of_blocked hb]

/-! ### One neuron verified -/

/-- The run of a set is the engine's, not part of the set's fields in memory. -/
@[simp] theorem setField_setRun (s : State) (lt set off n : Nat) (p : PredRun) : setField (setRun s lt p) lt set off n = setField s lt set off n := by
  simp [setField, setRun, modMe]

/-- A neuron that is no miss is verified without a failure, but where VERIFIED cannot be written it is not counted. -/
theorem verifyRun_uncounted {s s1 : State} {lt set n w : Nat} {ws : List Nat} {st : Status} {x : Shadows} (v : Nat)
    (hn : verifyNeuron s lt set n x = (s1, .ok false)) (hreg : regionRefuses s1 lt = false) (hw : wordsOf (set + 0x30) 4 = w :: ws)
    (hb : wordBlocked s1 lt w = some st) :
    ∃ u, verifyRun lt set v x s [n] = (u, none) ∧ setField u lt set 0x30 4 = setField s1 lt set 0x30 4 := by
  simp [verifyRun, hn, setSetField_of_blocked hreg hw hb]

/-! ### The counterexample -/

/-- Tile 0 with an open prediction set of one neuron, left out by SELECT, at the first offset of bank 1, and its zero shadow descriptors in bank 0,
which is on. Bank 1 is being powered down: it still holds its contents and accepts no access (R66). -/
def drainingSet : State :=
  (State.reset.setMreg (regClkPll 7) 2).modTile 0 (fun t => { t with
    mem := [(0x9C000, 1)]
    banks := [(1, .draining)]
    me := { t.me with preds := [⟨0x9C000, 0, 0, 0, [], false, false, 0⟩] } })

theorem drainingSet_openGroup :
    (meOf drainingSet 0).preds.any (fun p => p.set == 0x9C000 && !p.stopped) = true ∧ unitsStop drainingSet 0 = false ∧
      wantsFill drainingSet 0 (runOf drainingSet 0 0x9C000) = false ∧ Memory.wf (drainingSet.tile 0).mem = true := by
  decide

/-- The shadows of the set can be read, its group is neuron 0, which is no miss, and the word that holds VERIFIED is in the bank that drains. -/
theorem drainingSet_verifies :
    ∃ s1 x, readShadows drainingSet 0 0x9C000 = (s1, .ok x) ∧ verifyNeuron s1 0 0x9C000 0 x.1 = (s1, .ok false) ∧
      ((skipped drainingSet 0 0x9C000).drop (runOf s1 0 0x9C000).next).take 128 = [0] ∧ regionRefuses s1 0 = false ∧
      wordsOf (0x9C000 + 0x30) 4 = [0x13806] ∧ wordBlocked s1 0 0x13806 = some stBankOff :=
  ⟨_, _, rfl, rfl, by decide, by decide, by decide, by decide⟩

/-- Refutes O57: the clause on verification groups asks that the shadows can be read, not that the set can be written. Where the set's own bank is
being powered down, its group is verified without a failure and VERIFIED does not advance. -/
theorem not_registersAndSteps : ¬ Obligations.RegistersAndSteps := by
  unfold Obligations.RegistersAndSteps
  rintro ⟨-, -, -, -, hgroup⟩
  obtain ⟨hopen, hstop, hfill, hwf⟩ := drainingSet_openGroup
  obtain ⟨s1, x, hread, hneuron, hone, hreg, hword, hblocked⟩ := drainingSet_verifies
  obtain ⟨u, hrun, hfield⟩ := verifyRun_uncounted (required s1 0 0x9C000 (skipped drainingSet 0 0x9C000).length) hneuron hreg hword hblocked
  rw [← hone] at hrun
  obtain ⟨-, hcount, -⟩ := hgroup drainingSet 0 0x9C000#28 (by decide) hopen hstop hfill hwf s1 x hread u hrun
  have hnext : setField u 0 0x9C000 0x30 4 = (setField s1 0 0x9C000 0x30 4 + 1) % 2 ^ 32 := by
    simpa [hone] using hcount
  omega

end Sys2Proof.Machine
end

section
/-!
O58: the registers, logs and memories at power-on.
-/
namespace Sys2Proof.Machine
open Sys2Proof

/-! ### Registers at power-on -/

theorem reset_treg (lt off : Nat) : State.reset.treg lt off = resetOf tileRows off := rfl

theorem reset_freg (f off : Nat) : State.reset.freg f off = resetOf (fcRows ++ regionRows) off := rfl

theorem reset_mreg (off : Nat) : State.reset.mreg off = resetOf mcRows off := rfl

theorem tileRows_resets :
    resetOf tileRows regMemCfg = 2 ∧ resetOf tileRows regMemPwrOn0 = 0xFFFFFFFF ∧ resetOf tileRows regMemPwrOn1 = 0xFFFFFFFF ∧
      resetOf tileRows regMemRemap = 0x7F7F ∧ resetOf tileRows regMeRate = 0x404040 ∧ resetOf tileRows regSkHistCfg = 0x18 ∧
      resetOf tileRows regMeshRedCfg = 0x20 ∧ resetOf tileRows regChTimeout = 0x1814 := by decide

theorem tileRows_resets_bolts (n : Nat) (hn : n < 64) :
    resetOf tileRows (regBoltClim n) = 0xFFFFF ∧ resetOf tileRows (regBoltStatus n) = 1 ∧ resetOf tileRows (regBoltCfg n) = 0 := by
  revert n; decide

theorem fcRows_resets :
    resetOf (fcRows ++ regionRows) regRasCeCfg = 0x1410 ∧ resetOf (fcRows ++ regionRows) regStudyCfg = 0x14 ∧
      resetOf (fcRows ++ regionRows) regPwrRegCtrl = 1 ∧ resetOf (fcRows ++ regionRows) regPwrRegState = 0x404000 ∧
      resetOf (fcRows ++ regionRows) regPwrRegBudget = 1000 ∧ resetOf (fcRows ++ regionRows) regPwrRegModel = 0x1EC8B432 ∧
      resetOf (fcRows ++ regionRows) regPwrRegDroop = 0x11084 := by decide

theorem mcRows_resets :
    resetOf mcRows regFabXportCfg = 0x14205C32 ∧ resetOf mcRows regFabCcCfg0 = 0x640190 ∧ resetOf mcRows regFabCcCfg1 = 0x1410A01 ∧
      resetOf mcRows regFabMark = 0x20 ∧ resetOf mcRows regPwrModCap = 360 ∧ resetOf mcRows regPwrModGain = 4096 ∧
      resetOf mcRows regSecSessCfg = 24 ∧ resetOf mcRows regMgtResetCause = 1 ∧ resetOf mcRows regMgtGessoStatus = 0 ∧
      resetOf mcRows regClkTrim = 0 := by decide

theorem mcRows_resets_plls (n : Nat) (hn : n < 37) : resetOf mcRows (regClkPll n) = 0x40000 := by
  revert n; decide

theorem mcRows_resets_measurements (n : Nat) (hn : n < 64) : resetOf mcRows (regSecMr n) = 0 := by
  revert n; decide

/-- Settles O58: at power-on no register has been written, so each reads its row of the register tables, and every log, recorder and memory
is empty. -/
theorem resetState : Obligations.ResetState := by
  unfold Obligations.ResetState
  simp only [reset_treg, reset_freg, reset_mreg]
  obtain ⟨hmem, hon0, hon1, hremap, hrate, hhist, hred, htimeout⟩ := tileRows_resets
  obtain ⟨hce, hstudy, hctrl, hstate, hbudget, hmodel, hdroop⟩ := fcRows_resets
  obtain ⟨hxport, hcc0, hcc1, hmark, hcap, hgain, hsess, hcause, hgesso, htrim⟩ := mcRows_resets
  exact ⟨fun _ => ⟨hmem, hon0, hon1, hremap, hrate, hhist, hred, htimeout, tileRows_resets_bolts, rfl, rfl⟩,
    fun _ => ⟨hce, hstudy, hctrl, hstate, hbudget, hmodel, hdroop, rfl, rfl, rfl⟩,
    hxport, hcc0, hcc1, hmark, hcap, hgain, hsess, hcause, hgesso, htrim, rfl, mcRows_resets_plls, mcRows_resets_measurements,
    rfl, rfl, rfl, rfl, rfl⟩

end Sys2Proof.Machine
end

section
/-!
SUPPORT. Fields and bits of a word after one of them is set, and the registers that hold them.
-/
namespace Sys2Proof.Machine

open Sys2Proof

/-! ### Words -/

theorem testBit_fld {n : Nat} (w : BitVec n) (hi lo j : Nat) :
    (fld w hi lo).testBit j = (decide (j < hi + 1 - lo) && w.getLsbD (lo + j)) := by
  simp only [fld, Nat.testBit_mod_two_pow, Nat.testBit_div_two_pow, BitVec.getLsbD, Nat.add_comm]

/-- A bit of a word after a field of it is set: the field's own bit within the field, the old bit elsewhere. -/
theorem getLsbD_setFld {n : Nat} (w : BitVec n) (hi lo v i : Nat) (hin : i < n) :
    (setFld w hi lo v).getLsbD i = if lo ≤ i ∧ i ≤ hi then v.testBit (i - lo) else w.getLsbD i := by
  simp only [setFld, mask, BitVec.getLsbD_or, BitVec.getLsbD_and, BitVec.getLsbD_not, BitVec.getLsbD_ofNat, Nat.testBit_mul_two_pow,
    Nat.testBit_two_pow_sub_one, Nat.testBit_mod_two_pow, hin, decide_true, Bool.true_and]
  by_cases hlo : lo ≤ i
  · by_cases hhi : i ≤ hi
    · have hlt : i - lo < hi + 1 - lo := by omega
      simp [hlo, hhi, hlt]
    · have hge : ¬ i - lo < hi + 1 - lo := by omega
      simp [hlo, hhi, hge]
  · simp [hlo]

theorem fld_setFld_same {n : Nat} (w : BitVec n) {hi lo v : Nat} (hhi : hi < n) (hv : v < 2 ^ (hi + 1 - lo)) :
    fld (setFld w hi lo v) hi lo = v := by
  apply Nat.eq_of_testBit_eq
  intro j
  rw [testBit_fld]
  by_cases hj : j < hi + 1 - lo
  · have hfield : lo ≤ lo + j ∧ lo + j ≤ hi := by omega
    simp [hj, getLsbD_setFld w hi lo v (lo + j) (by omega), hfield]
  · have hzero : v < 2 ^ j := lt_of_lt_of_le hv (Nat.pow_le_pow_right (by omega) (by omega))
    simp [hj, Nat.testBit_lt_two_pow hzero]

theorem fld_setFld_of_disjoint {n : Nat} (w : BitVec n) {hi lo hi' lo' : Nat} (v : Nat) (hn : hi < n) (hd : hi < lo' ∨ hi' < lo) :
    fld (setFld w hi' lo' v) hi lo = fld w hi lo := by
  apply Nat.eq_of_testBit_eq
  intro j
  rw [testBit_fld, testBit_fld]
  by_cases hj : j < hi + 1 - lo
  · have hout : ¬ (lo' ≤ lo + j ∧ lo + j ≤ hi') := by omega
    rw [getLsbD_setFld w hi' lo' v (lo + j) (by omega), if_neg hout]
  · simp [hj]

theorem bit_setBit_same {n : Nat} (w : BitVec n) {i : Nat} (b : Bool) (hi : i < n) : bit (setBit w i b) i = b := by
  cases b <;> simp [bit, setBit, getLsbD_setFld w i i _ i hi]

theorem bit_setBit_ne {n : Nat} (w : BitVec n) {i j : Nat} (b : Bool) (hj : j < n) (h : j ≠ i) : bit (setBit w i b) j = bit w j := by
  have hout : ¬ (i ≤ j ∧ j ≤ i) := by omega
  simp only [bit, setBit]
  rw [getLsbD_setFld w i i _ j hj, if_neg hout]

/-- Setting a bit to one clears none. -/
theorem bit_setBit_true {n : Nat} {w : BitVec n} {j : Nat} (i : Nat) (h : bit w j = true) : bit (setBit w i true) j = true := by
  have hj : j < n := BitVec.lt_of_getLsbD h
  by_cases hij : j = i
  · rw [hij]; exact bit_setBit_same w true (hij ▸ hj)
  · rw [bit_setBit_ne w true hj hij, h]

theorem fld_setBit_same {n : Nat} (w : BitVec n) {i : Nat} (hi : i < n) : fld (setBit w i true) i i = 1 :=
  fld_setFld_same w hi (by simp)

/-- A count that saturates at all ones of `n` bits. -/
theorem satInc_eq_min (n x : Nat) : satInc n x = min (2 ^ n - 1) (x + 1) := by
  unfold satInc; split <;> omega

/-- A count of 16 bits that saturates. -/
theorem satInc_16 (x : Nat) : satInc 16 x = min 65535 (x + 1) := satInc_eq_min 16 x

theorem satInc_16_lt (x : Nat) : satInc 16 x < 2 ^ 16 := by
  rw [satInc_16]; omega

/-! ### Registers -/

theorem State.treg_setTreg_off_ne (s : State) (lt : Nat) {off o : Nat} (v : Word) (x : Nat) (h : o ≠ off) :
    (s.setTreg lt off v).treg x o = s.treg x o := by
  simp [State.treg_setTreg, h]

theorem State.freg_setFreg_off_ne (s : State) (f : Nat) {off o : Nat} (v : Word) (x : Nat) (h : o ≠ off) :
    (s.setFreg f off v).freg x o = s.freg x o := by
  simp [State.freg_setFreg, h]

theorem State.mreg_setMreg_ne (s : State) {off o : Nat} (v : Word) (h : o ≠ off) : (s.setMreg off v).mreg o = s.mreg o := by
  simp [State.mreg_setMreg, h]

theorem State.tfld_setTfld_same (s : State) (lt off : Nat) {hi lo v : Nat} (hhi : hi < 32) (hv : v < 2 ^ (hi + 1 - lo)) :
    (s.setTfld lt off hi lo v).tfld lt off hi lo = v := by
  simp [State.tfld, State.setTfld, fld_setFld_same _ hhi hv]

theorem State.mfld_setMfld_same (s : State) (off : Nat) {hi lo v : Nat} (hhi : hi < 32) (hv : v < 2 ^ (hi + 1 - lo)) :
    (s.setMfld off hi lo v).mfld off hi lo = v := by
  simp [State.mfld, State.setMfld, fld_setFld_same _ hhi hv]

/-- A field that does not meet the one that is set, of the same register of any tile. -/
theorem State.tfld_setTfld_disjoint (s : State) (lt off : Nat) {hi lo hi' lo' : Nat} (v x : Nat) (hhi : hi < 32)
    (hd : hi < lo' ∨ hi' < lo) : (s.setTfld lt off hi' lo' v).tfld x off hi lo = s.tfld x off hi lo := by
  by_cases hx : x = lt
  · subst hx
    simp [State.tfld, State.setTfld, fld_setFld_of_disjoint _ v hhi hd]
  · simp [State.tfld, State.setTfld, State.treg_setTreg, hx]

theorem State.treg_setTfld_off_ne (s : State) (lt hi lo v : Nat) {off o : Nat} (x : Nat) (h : o ≠ off) :
    (s.setTfld lt off hi lo v).treg x o = s.treg x o := State.treg_setTreg_off_ne s lt _ x h

/-- Marking a bit of a tile's register clears no bit of any. -/
theorem State.tbit_setTbit_true {s : State} {x o j : Nat} (lt off i : Nat) (h : s.tbit x o j = true) :
    (s.setTbit lt off i true).tbit x o j = true := by
  by_cases hx : x = lt ∧ o = off
  · obtain ⟨rfl, rfl⟩ := hx
    simpa [State.tbit, State.setTbit, State.setTfld, State.treg_setTreg, setBit, b2n] using bit_setBit_true i h
  · simpa [State.tbit, State.setTbit, State.setTfld, State.treg_setTreg, hx] using h

/-! ### Controllers -/

theorem State.fc_modFc (s : State) (f : Nat) (g : Fc → Fc) (x : Nat) : (s.modFc f g).fc x = if x = f then g (s.fc f) else s.fc x := by
  simp [State.modFc, State.fc, kvGet_kvSet]

@[simp] theorem State.fc_modFc_same (s : State) (f : Nat) (g : Fc → Fc) : (s.modFc f g).fc f = g (s.fc f) := by
  simp [State.fc_modFc]

/-- Where a change of a controller leaves its registers, they read as before. -/
theorem State.freg_modFc (s : State) (f : Nat) {g : Fc → Fc} (hg : (g (s.fc f)).regs = (s.fc f).regs) (x o : Nat) :
    (s.modFc f g).freg x o = s.freg x o := by
  unfold State.freg
  rw [State.fc_modFc]
  split
  · next h => rw [hg, h]
  · rfl

end Sys2Proof.Machine
end

section
/-!
SUPPORT. What recording an event or an error leaves as it was.
-/
namespace Sys2Proof.Machine

open Sys2Proof

/-! ### The frame of a record -/

/-- The registers of an error log (18, R428). -/
def logRegs : List Nat := [regRasLogHead, regRasLogTail, regRasLogStatus]

/-- Where an error may be logged: at the controllers of `F` and in the Management Complex. -/
def logsAt (F : List Nat) : Target → Prop
  | .tile _ => False
  | .fc f => f ∈ F
  | .mc => True

/-- `t` is `s` after records in Sketchbook recorders and entries in the logs of the controllers of `F` and of the Management Complex: maps,
networks, regions, tile memory, queues of tests and all other registers of tiles and controllers stand as they did. -/
structure Noted (F : List Nat) (s t : State) : Prop where
  gesso : t.gesso = s.gesso
  mesh : t.mesh = s.mesh
  regions : t.regions = s.regions
  haltGroups : t.haltGroups = s.haltGroups
  tileGroups : t.tileGroups = s.tileGroups
  mem : ∀ lt, (t.tile lt).mem = (s.tile lt).mem
  treg : ∀ lt off, off ≠ regSkbLost → t.treg lt off = s.treg lt off
  bootCount : t.mreg regMgtBootCount = s.mreg regMgtBootCount
  tests : ∀ f, (t.fc f).tests = (s.fc f).tests
  history : ∀ f, (t.fc f).history = (s.fc f).history
  reloading : ∀ f, (t.fc f).reloading = (s.fc f).reloading
  log : ∀ f, f ∉ F → (t.fc f).log = (s.fc f).log
  freg : ∀ f off, off ≠ regSkbLost → (f ∈ F → off ∉ logRegs) → t.freg f off = s.freg f off

theorem Noted.refl (F : List Nat) (s : State) : Noted F s s := by
  constructor <;> intros <;> rfl

theorem Noted.trans {F : List Nat} {s t u : State} (h : Noted F s t) (k : Noted F t u) : Noted F s u where
  gesso := k.gesso.trans h.gesso
  mesh := k.mesh.trans h.mesh
  regions := k.regions.trans h.regions
  haltGroups := k.haltGroups.trans h.haltGroups
  tileGroups := k.tileGroups.trans h.tileGroups
  mem lt := (k.mem lt).trans (h.mem lt)
  treg lt off ho := (k.treg lt off ho).trans (h.treg lt off ho)
  bootCount := k.bootCount.trans h.bootCount
  tests f := (k.tests f).trans (h.tests f)
  history f := (k.history f).trans (h.history f)
  reloading f := (k.reloading f).trans (h.reloading f)
  log f hf := (k.log f hf).trans (h.log f hf)
  freg f off ho hl := (k.freg f off ho hl).trans (h.freg f off ho hl)

/-- Without an entry in a controller's log, that log may still be said to take some. -/
theorem Noted.weaken {s t : State} (h : Noted [] s t) (F : List Nat) : Noted F s t :=
  { h with
    log := fun f _ => h.log f (List.not_mem_nil)
    freg := fun f off ho _ => h.freg f off ho (fun hf => absurd hf List.not_mem_nil) }

theorem Noted.foldl {α : Type} {F : List Nat} {g : State → α → State} (hg : ∀ s a, Noted F s (g s a)) (l : List α) (s : State) :
    Noted F s (l.foldl g s) := by
  induction l generalizing s with
  | nil => exact Noted.refl F s
  | cons a r ih => exact (hg s a).trans (ih (g s a))

/-! ### Single updates -/

theorem noted_modTile (F : List Nat) (g : Tile → Tile) {s : State} {lt : Nat} (hmem : (g (s.tile lt)).mem = (s.tile lt).mem)
    (hregs : ∀ off, off ≠ regSkbLost → RegFile.get tileRows (g (s.tile lt)).regs off = s.treg lt off) : Noted F s (s.modTile lt g) :=
  { Noted.refl F s with
    mem := fun x => by
      rw [State.tile_modTile]; split
      · next h => rw [hmem, h]
      · rfl
    treg := fun x off ho => by
      unfold State.treg; rw [State.tile_modTile]; split
      · next h => rw [hregs off ho, h]; rfl
      · rfl }

theorem noted_modFc {F : List Nat} (g : Fc → Fc) {s : State} {f : Nat} (htests : (g (s.fc f)).tests = (s.fc f).tests)
    (hhistory : (g (s.fc f)).history = (s.fc f).history) (hreloading : (g (s.fc f)).reloading = (s.fc f).reloading)
    (hlog : f ∉ F → (g (s.fc f)).log = (s.fc f).log)
    (hregs : ∀ off, off ≠ regSkbLost → (f ∈ F → off ∉ logRegs) → RegFile.get (fcRows ++ regionRows) (g (s.fc f)).regs off = s.freg f off) :
    Noted F s (s.modFc f g) :=
  { Noted.refl F s with
    tests := fun x => by rw [State.fc_modFc]; split <;> simp_all
    history := fun x => by rw [State.fc_modFc]; split <;> simp_all
    reloading := fun x => by rw [State.fc_modFc]; split <;> simp_all
    log := fun x hx => by rw [State.fc_modFc]; split <;> simp_all
    freg := fun x off ho hx => by
      unfold State.freg; rw [State.fc_modFc]; split
      · next h => rw [hregs off ho (h ▸ hx), h]; rfl
      · rfl }

theorem noted_mc (F : List Nat) {s : State} {m : Mc}
    (hboot : RegFile.get mcRows m.regs regMgtBootCount = s.mreg regMgtBootCount) : Noted F s { s with mc := m } :=
  { Noted.refl F s with bootCount := hboot }

theorem noted_setMreg (F : List Nat) (s : State) {off : Nat} (v : Word) (h : regMgtBootCount ≠ off) : Noted F s (s.setMreg off v) :=
  noted_mc F (State.mreg_setMreg_ne s v h)

theorem noted_drawn (F : List Nat) (s : State) : Noted F s s.drawn := { Noted.refl F s with }

/-- A register of a log, or the count of lost records, is written. -/
theorem noted_rset {F : List Nat} (s : State) {tg : Target} {off : Nat} (v : Word)
    (h : off = regSkbLost ∨ (logsAt F tg ∧ off ∈ logRegs)) : Noted F s (rset s tg off v) := by
  cases tg with
  | tile lt =>
    obtain rfl : off = regSkbLost := h.resolve_right (fun hl => hl.1)
    exact noted_modTile F (fun t => { t with regs := kvSet t.regs regSkbLost v }) rfl
      (fun o ho => by simp [State.treg, RegFile.get_kvSet, ho])
  | fc f =>
    refine noted_modFc (fun c => { c with regs := kvSet c.regs off v }) rfl rfl rfl (fun _ => rfl) (fun o ho hf => ?_)
    have hne : o ≠ off := by
      rintro rfl
      exact h.elim ho (fun hl => hf hl.1 hl.2)
    simp [State.freg, RegFile.get_kvSet, hne]
  | mc =>
    refine noted_setMreg F s v ?_
    rintro rfl
    revert h
    simp [logRegs, regMgtBootCount, regSkbLost, regRasLogHead, regRasLogTail, regRasLogStatus]

/-! ### The Sketchbook -/

theorem noted_setRecorder (F : List Nat) (s : State) (tg : Target) (r : Recorder) : Noted F s (setRecorder s tg r) := by
  cases tg with
  | tile lt => exact noted_modTile F (fun t => { t with recorder := r }) rfl (fun _ _ => rfl)
  | fc f => exact noted_modFc (fun c => { c with recorder := r }) rfl rfl rfl (fun _ => rfl) (fun _ _ _ => rfl)
  | mc => exact noted_mc F rfl

theorem noted_skbQueue (F : List Nat) (s : State) (tg : Target) (id : Nat) (words : List Word) : Noted F s (skbQueue s tg id words) := by
  unfold skbQueue
  dsimp only
  split
  · exact (noted_setRecorder F s tg _).trans (noted_rset _ _ (Or.inl rfl))
  · split
    · exact (noted_setRecorder F s tg _).trans (noted_rset _ _ (Or.inl rfl))
    · exact noted_setRecorder F s tg _

theorem noted_skbProg (F : List Nat) (s : State) (tg : Target) (n : Nat) : Noted F s (skbProg s tg n) := noted_skbQueue F s tg _ _

/-- An event, and the programmable triggers that follow it. -/
theorem noted_skbEvent (F : List Nat) (s : State) (tg : Target) (id : Nat) (args : List Nat) : Noted F s (skbEvent s tg id args) := by
  unfold skbEvent
  dsimp only
  split
  · exact noted_skbQueue F s tg id _
  · refine (noted_skbQueue F s tg id _).trans (Noted.foldl (fun st n => ?_) _ _)
    split
    · exact noted_skbProg F st tg n
    · exact Noted.refl F st

/-! ### Error logs -/

theorem noted_lcpEvent (F : List Nat) (s : State) (body : List Byte) : Noted F s (lcpEvent s body) := { Noted.refl F s with }

theorem noted_eventCopy (F : List Nat) (s : State) (tg : Target) (e : LogEnt) : Noted F s (eventCopy s tg e) := by
  unfold eventCopy
  split
  · exact noted_lcpEvent F s _
  · exact Noted.refl F s

theorem noted_setLog {F : List Nat} (s : State) {tg : Target} (l : KV LogEnt) (h : logsAt F tg) : Noted F s (setLog s tg l) := by
  cases tg with
  | tile lt => exact h.elim
  | fc f => exact noted_modFc (fun c => { c with log := l }) rfl rfl rfl (fun hf => absurd h hf) (fun _ _ _ => rfl)
  | mc => exact noted_mc F rfl

theorem noted_logAppend {F : List Nat} (s : State) (tg : Target) (e : LogEnt) (h : logsAt F tg) : Noted F s (logAppend s tg e) := by
  have hset : ∀ (u : State) (off : Nat) (v : Word), off ∈ logRegs → Noted F u (rset u tg off v) :=
    fun u off v ho => noted_rset u v (Or.inr ⟨h, ho⟩)
  unfold logAppend
  extract_lets u head tail entry put
  have hcopy : Noted F s u := noted_eventCopy F s tg _
  have hput : Noted F u (put u) := (noted_setLog u _ h).trans (hset _ _ _ (by simp [logRegs]))
  split
  · exact hcopy.trans hput
  · split
    · split
      · exact (hcopy.trans hput).trans ((hset _ _ _ (by simp [logRegs])).trans (hset _ _ _ (by simp [logRegs])))
      · exact hcopy.trans (hset _ _ _ (by simp [logRegs]))
    · exact hcopy.trans hput

theorem noted_errorEvent (F : List Nat) (s : State) (tg : Target) (k pt seq cls d : Nat) : Noted F s (errorEvent s tg k pt seq cls d) :=
  noted_skbEvent F s tg _ _

theorem noted_mcLog (F : List Nat) (s : State) (cls k pt unit : Nat) (st : BitVec 8) (d : Nat) : Noted F s (mcLog s cls k pt unit st d) := by
  have hlog : ∀ e, Noted F s (logAppend s .mc e) := fun e => noted_logAppend s .mc e trivial
  unfold mcLog
  dsimp only
  split
  · exact (hlog _).trans (noted_errorEvent F _ _ _ _ _ _ _)
  · exact hlog _

theorem noted_mcNote (F : List Nat) (s : State) (k pt unit d : Nat) : Noted F s (mcNote s k pt unit d) :=
  (noted_drawn F s).trans (noted_mcLog F _ _ _ _ _ _ _)

/-- An error of a unit, logged at its controller and copied. -/
theorem noted_logBoth (s : State) (f : Nat) (u : UnitId) (cls : Nat) (st : BitVec 8) (out d : Nat) : Noted [f] s (logBoth s f u cls st out d) :=
  ((noted_logAppend s (.fc f) _ (List.mem_singleton_self f)).trans (noted_logAppend _ .mc _ trivial)).trans
    (noted_errorEvent [f] _ _ _ _ _ _ _)

theorem noted_raiseAlert (F : List Nat) (s : State) (i : Nat) : Noted F s (raiseAlert s i) := by
  unfold raiseAlert
  dsimp only
  split
  · exact { Noted.refl F s with }
  · exact { Noted.refl F s with }

theorem noted_failState (F : List Nat) (s : State) : Noted F s (failState s) :=
  (noted_setMreg F s _ (by decide)).trans (noted_raiseAlert F _ 2)

end Sys2Proof.Machine
end

section
/-!
SUPPORT. Epochs that start, units that are isolated, and findings that reach the Gesso map.
-/
namespace Sys2Proof.Machine

open Sys2Proof

/-- What every step of a fold leaves as it was, the fold leaves. -/
theorem foldl_keeps {α β : Type} (o : State → β) {g : State → α → State} (hg : ∀ s a, o (g s a) = o s) (l : List α) (s : State) :
    o (l.foldl g s) = o s := by
  induction l generalizing s with
  | nil => rfl
  | cons a r ih => exact (ih (g s a)).trans (hg s a)

/-! ### Isolation -/

/-- `t` is `s` after units have been taken out of use: no entry of the map, no controller, no region and no byte of memory has changed, no mark of
a tile's status is cleared, and groups are only added to those that are to be halted. -/
structure Isolated (s t : State) : Prop where
  fcs : t.fcs = s.fcs
  mc : t.mc = s.mc
  regions : t.regions = s.regions
  entries : t.gesso.entries = s.gesso.entries
  fullBusy : t.gesso.fullBusy = s.gesso.fullBusy
  failed : t.gesso.failed = s.gesso.failed
  outLinks : t.mesh.outLinks = s.mesh.outLinks
  replays : t.mesh.replays = s.mesh.replays
  mem : ∀ lt, (t.tile lt).mem = (s.tile lt).mem
  status : ∀ lt i, s.tbit lt regRasTileStatus i = true → t.tbit lt regRasTileStatus i = true
  haltGroups : s.haltGroups ⊆ t.haltGroups

theorem Isolated.refl (s : State) : Isolated s s :=
  ⟨rfl, rfl, rfl, rfl, rfl, rfl, rfl, rfl, fun _ => rfl, fun _ _ h => h, List.Subset.refl _⟩

theorem Isolated.trans {s t u : State} (h : Isolated s t) (k : Isolated t u) : Isolated s u where
  fcs := k.fcs.trans h.fcs
  mc := k.mc.trans h.mc
  regions := k.regions.trans h.regions
  entries := k.entries.trans h.entries
  fullBusy := k.fullBusy.trans h.fullBusy
  failed := k.failed.trans h.failed
  outLinks := k.outLinks.trans h.outLinks
  replays := k.replays.trans h.replays
  mem lt := (k.mem lt).trans (h.mem lt)
  status lt i hi := k.status lt i (h.status lt i hi)
  haltGroups := List.Subset.trans h.haltGroups k.haltGroups

theorem Isolated.foldl {α : Type} {g : State → α → State} (hg : ∀ s a, Isolated s (g s a)) (l : List α) (s : State) :
    Isolated s (l.foldl g s) := by
  induction l generalizing s with
  | nil => exact Isolated.refl s
  | cons a r ih => exact (hg s a).trans (ih (g s a))

theorem mem_haltGroup (s : State) (g : Nat) : g ∈ (haltGroup s g).haltGroups := by
  unfold haltGroup
  split
  · next h => simpa using h
  · simp

theorem isolated_haltGroup (s : State) (g : Nat) : Isolated s (haltGroup s g) := by
  unfold haltGroup
  split
  · exact Isolated.refl s
  · exact { Isolated.refl s with haltGroups := List.subset_append_left _ _ }

theorem isolated_setTbit (s : State) (lt i : Nat) : Isolated s (s.setTbit lt regRasTileStatus i true) :=
  { Isolated.refl s with
    mem := State.setTbit_tile_mem s lt _ i true
    status := fun _ _ h => State.tbit_setTbit_true lt _ i h }

/-- A mark of a tile that is neither in its registers nor in its memory. -/
theorem isolated_modTile {s : State} {lt : Nat} (g : Tile → Tile) (hmem : (g (s.tile lt)).mem = (s.tile lt).mem)
    (hregs : (g (s.tile lt)).regs = (s.tile lt).regs) : Isolated s (s.modTile lt g) :=
  { Isolated.refl s with
    mem := fun x => by
      rw [State.tile_modTile]; split
      · next h => rw [hmem, h]
      · rfl
    status := fun x i h => by
      unfold State.tbit State.treg at h ⊢; rw [State.tile_modTile]; split
      · next hx => rw [hregs, ← hx]; exact h
      · exact h }

theorem isolated_isolateTile (s : State) (lt : Nat) : Isolated s (isolateTile s lt) :=
  ((isolated_modTile (fun t => { t with isolated := true }) rfl rfl).trans (isolated_setTbit _ lt 18)).trans
    (isolated_haltGroup _ _)

@[simp] theorem haltGroup_gesso (s : State) (g : Nat) : (haltGroup s g).gesso = s.gesso := by
  unfold haltGroup; split <;> rfl

@[simp] theorem haltGroup_mesh (s : State) (g : Nat) : (haltGroup s g).mesh = s.mesh := by
  unfold haltGroup; split <;> rfl

@[simp] theorem isolateTile_gesso (s : State) (lt : Nat) : (isolateTile s lt).gesso = s.gesso := by
  simp [isolateTile]

@[simp] theorem isolateTile_mesh (s : State) (lt : Nat) : (isolateTile s lt).mesh = s.mesh := by
  simp [isolateTile]

/-! ### Epochs -/

theorem startEpoch_mesh (s : State) : (startEpoch s).mesh = { s.mesh with shadow := some (newTab s) } := by
  unfold startEpoch
  exact foldl_keeps State.mesh (fun st pt => by split <;> simp) _ _

@[simp] theorem startEpoch_gesso (s : State) : (startEpoch s).gesso = s.gesso := by
  unfold startEpoch
  exact foldl_keeps State.gesso (fun st pt => by split <;> simp) _ _

/-- An epoch that starts isolates tiles that the new tables cannot reach (10, R261). -/
theorem isolated_startEpoch (s : State) : Isolated s (startEpoch s) := by
  unfold startEpoch
  have hshadow : Isolated s { s with mesh := { s.mesh with shadow := some (newTab s) } } := { Isolated.refl s with }
  refine hshadow.trans (Isolated.foldl (fun st pt => ?_) _ _)
  split
  · exact isolated_isolateTile _ _
  · exact Isolated.refl st

/-! ### Findings -/

theorem isolated_isolateUnit (s : State) (typ pt a : Nat) : Isolated s (isolateUnit s typ pt a) := by
  unfold isolateUnit
  extract_lets gesso mesh s0 s1
  have h0 : Isolated s s0 := by
    unfold s0
    split
    · exact { Isolated.refl s with }
    · split
      · exact { Isolated.refl s with }
      · split
        · exact { Isolated.refl s with }
        · exact Isolated.refl s
  have h1 : Isolated s s1 := by
    unfold s1
    split
    · exact h0.trans (isolated_startEpoch s0)
    · exact h0
  split
  · exact h1
  · next lt _ =>
    split
    · exact h1.trans ((isolated_modTile (fun t => { t with isoBanks := t.isoBanks ++ [a] }) rfl rfl).trans (isolated_setTbit _ lt 18))
    · split
      · exact h1.trans (isolated_isolateTile s1 lt)
      · exact h1.trans (isolated_setTbit s1 lt 18)

/-- `t` is `s` after findings: the map may have new entries and the module may have failed, and units are out of use; controllers keep their tests,
histories and logs, and tile memory, regions and the count of boots stand as they did. -/
structure Found (s t : State) : Prop where
  regions : t.regions = s.regions
  fullBusy : t.gesso.fullBusy = s.gesso.fullBusy
  failed : s.gesso.failed = true → t.gesso.failed = true
  outLinks : t.mesh.outLinks = s.mesh.outLinks
  replays : t.mesh.replays = s.mesh.replays
  mem : ∀ lt, (t.tile lt).mem = (s.tile lt).mem
  status : ∀ lt i, s.tbit lt regRasTileStatus i = true → t.tbit lt regRasTileStatus i = true
  bootCount : t.mreg regMgtBootCount = s.mreg regMgtBootCount
  tests : ∀ f, (t.fc f).tests = (s.fc f).tests
  history : ∀ f, (t.fc f).history = (s.fc f).history
  reloading : ∀ f, (t.fc f).reloading = (s.fc f).reloading
  log : ∀ f, (t.fc f).log = (s.fc f).log
  freg : ∀ f off, off ≠ regSkbLost → t.freg f off = s.freg f off
  haltGroups : s.haltGroups ⊆ t.haltGroups

theorem Found.trans {s t u : State} (h : Found s t) (k : Found t u) : Found s u where
  regions := k.regions.trans h.regions
  fullBusy := k.fullBusy.trans h.fullBusy
  failed hs := k.failed (h.failed hs)
  outLinks := k.outLinks.trans h.outLinks
  replays := k.replays.trans h.replays
  mem lt := (k.mem lt).trans (h.mem lt)
  status lt i hi := k.status lt i (h.status lt i hi)
  bootCount := k.bootCount.trans h.bootCount
  tests f := (k.tests f).trans (h.tests f)
  history f := (k.history f).trans (h.history f)
  reloading f := (k.reloading f).trans (h.reloading f)
  log f := (k.log f).trans (h.log f)
  freg f off ho := (k.freg f off ho).trans (h.freg f off ho)
  haltGroups := List.Subset.trans h.haltGroups k.haltGroups

theorem Isolated.found {s t : State} (h : Isolated s t) : Found s t where
  regions := h.regions
  fullBusy := h.fullBusy
  failed := fun hs => h.failed.trans hs
  outLinks := h.outLinks
  replays := h.replays
  mem := h.mem
  status := h.status
  bootCount := by simp [State.mreg, h.mc]
  tests f := by simp [State.fc, h.fcs]
  history f := by simp [State.fc, h.fcs]
  reloading f := by simp [State.fc, h.fcs]
  log f := by simp [State.fc, h.fcs]
  freg f off _ := by simp [State.freg, State.fc, h.fcs]
  haltGroups := h.haltGroups

theorem Noted.found {s t : State} (h : Noted [] s t) : Found s t where
  regions := h.regions
  fullBusy := by rw [h.gesso]
  failed := fun hs => by rw [h.gesso, hs]
  outLinks := by rw [h.mesh]
  replays := by rw [h.mesh]
  mem := h.mem
  status lt i hi := by
    unfold State.tbit at hi ⊢
    rw [h.treg lt regRasTileStatus (by decide), hi]
  bootCount := h.bootCount
  tests := h.tests
  history := h.history
  reloading := h.reloading
  log f := h.log f List.not_mem_nil
  freg f off ho := h.freg f off ho (fun hf => absurd hf List.not_mem_nil)
  haltGroups := by rw [h.haltGroups]; exact List.Subset.refl _

theorem Found.refl (s : State) : Found s s := (Isolated.refl s).found

/-- A digest is measured into registers that are not the count of boots. -/
theorem noted_measure (F : List Nat) (s : State) (n : Nat) (d : List Byte) : Noted F s (measure s n d) :=
  Noted.foldl (fun st w => noted_setMreg F st _ (by simp only [regMgtBootCount, regSecMr]; omega)) _ _

theorem putMap_entries (s : State) (es : List MapEnt) : (putMap s es).gesso.entries = es := by
  unfold putMap
  extract_lets g b g1 s1
  rw [(noted_measure [] s1 5 _).gesso]
  unfold s1
  split <;> rfl

theorem found_putMap (s : State) (es : List MapEnt) : Found s (putMap s es) := by
  unfold putMap
  extract_lets g b g1 s1
  have hput : Found s s1 := by
    unfold s1
    split
    · exact { Found.refl s with }
    · exact { Found.refl s with }
  exact hput.trans (noted_measure [] s1 5 _).found

/-- A write of the map fails and changes nothing, or the entries written are those of the map in effect. -/
theorem writeMap_cases (s : State) (es : List MapEnt) :
    writeMap s es = (s.drawn, false) ∨ ∃ t, writeMap s es = (t, true) ∧ Found s t ∧ t.gesso.entries = es := by
  unfold writeMap
  split
  · exact Or.inl rfl
  · refine Or.inr ⟨_, rfl, ?_, ?_⟩
    · exact ((noted_drawn [] s).found.trans (found_putMap s.drawn es)).trans (noted_mcNote [] _ _ _ _ _).found
    · rw [(noted_mcNote [] _ _ _ _ _).gesso, putMap_entries]

/-- The module has failed for a map that could not be written (02, R48). -/
def mapFailed (s : State) : Prop := s.gesso.failed = true ∧ s.mfld regMgtBootStatus 6 6 = 1

theorem failState_mark (s : State) : (failState s).mfld regMgtBootStatus 6 6 = 1 := by
  have hmark : (s.setMfld regMgtBootStatus 6 6 1).mfld regMgtBootStatus 6 6 = 1 := by
    exact State.mfld_setMfld_same _ regMgtBootStatus (by decide) (by decide)
  unfold failState raiseAlert
  dsimp only
  split <;> exact hmark

/-- The failed mark of the map. -/
def markFailed (s : State) : State := { s with gesso := { s.gesso with failed := true } }

theorem found_markFailed (s : State) : Found s (markFailed s) := { Found.refl s with failed := fun _ => rfl }

theorem unwritten_eq (s : State) (e : MapEnt) :
    unwritten s e = failState (markFailed (mcLog s 2 16 e.pt e.typ 0 (e.arg0 + e.arg1 * 2 ^ 32))) := rfl

theorem unwritten_gesso (s : State) (e : MapEnt) : (unwritten s e).gesso = { s.gesso with failed := true } := by
  rw [unwritten_eq, (noted_failState [] _).gesso, markFailed, (noted_mcLog [] s _ _ _ _ _ _).gesso]

theorem unwritten_fails (s : State) (e : MapEnt) : mapFailed (unwritten s e) := by
  constructor
  · rw [unwritten_gesso]
  · rw [unwritten_eq]
    exact failState_mark _

theorem found_unwritten (s : State) (e : MapEnt) : Found s (unwritten s e) := by
  rw [unwritten_eq]
  exact ((noted_mcLog [] s _ _ _ _ _ _).found.trans (found_markFailed _)).trans (noted_failState [] _).found

/-- A finding is an entry more, or the module fails. -/
theorem gessoFinding_entries (s : State) (typ pt a0 a1 : Nat) (tr : Bool) :
    (gessoFinding s typ pt a0 a1 tr).gesso.entries = s.gesso.entries ++ [pendingEntry s typ pt a0 a1 tr] ∨
      ((gessoFinding s typ pt a0 a1 tr).gesso.entries = s.gesso.entries ∧ mapFailed (gessoFinding s typ pt a0 a1 tr)) := by
  unfold gessoFinding
  extract_lets e p
  obtain hfail | ⟨t, ht, -, hes⟩ := writeMap_cases (isolateUnit s e.typ e.pt e.arg0) (s.gesso.entries ++ [e])
  · refine Or.inr ?_
    simp only [p, hfail, Bool.false_eq_true, if_false]
    exact ⟨(congrArg Gesso.entries (unwritten_gesso _ e)).trans (isolated_isolateUnit s _ _ _).entries, unwritten_fails _ e⟩
  · refine Or.inl ?_
    simp only [p, ht, if_true, hes, e]

theorem found_gessoFinding (s : State) (typ pt a0 a1 : Nat) (tr : Bool) : Found s (gessoFinding s typ pt a0 a1 tr) := by
  unfold gessoFinding
  extract_lets e p
  have hunit := (isolated_isolateUnit s e.typ e.pt e.arg0).found
  obtain hfail | ⟨t, ht, hfound, -⟩ := writeMap_cases (isolateUnit s e.typ e.pt e.arg0) (s.gesso.entries ++ [e])
  · simp only [p, hfail, Bool.false_eq_true, if_false]
    exact (hunit.trans (noted_drawn [] _).found).trans (found_unwritten _ e)
  · simp only [p, ht, if_true]
    exact hunit.trans hfound

theorem found_makeLasting (s : State) (u : UnitId) (lane : Option Nat) (out : Nat) : Found s (makeLasting s u lane out) := by
  unfold makeLasting
  split
  · exact found_gessoFinding s _ _ _ _ _
  · exact Found.refl s

/-- An entry depends on the state by the count of boots alone. -/
theorem pendingEntry_of_bootCount {s t : State} (h : t.mreg regMgtBootCount = s.mreg regMgtBootCount) (typ pt a0 a1 : Nat) (tr : Bool) :
    pendingEntry t typ pt a0 a1 tr = pendingEntry s typ pt a0 a1 tr := by
  simp [pendingEntry, h]

end Sys2Proof.Machine
end

section
/-!
SUPPORT. What the report of a corrected or an uncorrected error leaves as it was.
-/
namespace Sys2Proof.Machine

open Sys2Proof

/-! ### The status of a tile -/

/-- RAS_TILE_STATUS of the tile that a physical tile serves is changed, where it serves one. -/
theorem onRasTile_of_some {s : State} {pt lt : Nat} (h : ltOfPt s pt = some lt) (g : Word → Word) :
    onRasTile s pt g = s.setTreg lt regRasTileStatus (g (s.treg lt regRasTileStatus)) := by
  simp [onRasTile, h]

theorem onRasTile_cases (s : State) (pt : Nat) (g : Word → Word) :
    onRasTile s pt g = s ∨ ∃ lt, onRasTile s pt g = s.setTreg lt regRasTileStatus (g (s.treg lt regRasTileStatus)) := by
  unfold onRasTile
  split
  · next lt _ => exact Or.inr ⟨lt, rfl⟩
  · exact Or.inl rfl

@[simp] theorem onRasTile_fcs (s : State) (pt : Nat) (g : Word → Word) : (onRasTile s pt g).fcs = s.fcs := by
  obtain h | ⟨lt, h⟩ := onRasTile_cases s pt g <;> simp [h]

@[simp] theorem onRasTile_mc (s : State) (pt : Nat) (g : Word → Word) : (onRasTile s pt g).mc = s.mc := by
  obtain h | ⟨lt, h⟩ := onRasTile_cases s pt g <;> simp [h]

@[simp] theorem onRasTile_gesso (s : State) (pt : Nat) (g : Word → Word) : (onRasTile s pt g).gesso = s.gesso := by
  obtain h | ⟨lt, h⟩ := onRasTile_cases s pt g <;> simp [h]

@[simp] theorem onRasTile_mesh (s : State) (pt : Nat) (g : Word → Word) : (onRasTile s pt g).mesh = s.mesh := by
  obtain h | ⟨lt, h⟩ := onRasTile_cases s pt g <;> simp [h]

@[simp] theorem onRasTile_regions (s : State) (pt : Nat) (g : Word → Word) : (onRasTile s pt g).regions = s.regions := by
  obtain h | ⟨lt, h⟩ := onRasTile_cases s pt g <;> simp [h]

@[simp] theorem onRasTile_haltGroups (s : State) (pt : Nat) (g : Word → Word) : (onRasTile s pt g).haltGroups = s.haltGroups := by
  obtain h | ⟨lt, h⟩ := onRasTile_cases s pt g <;> simp [h]

@[simp] theorem onRasTile_mem (s : State) (pt : Nat) (g : Word → Word) (x : Nat) : ((onRasTile s pt g).tile x).mem = (s.tile x).mem := by
  obtain h | ⟨lt, h⟩ := onRasTile_cases s pt g
  · rw [h]
  · rw [h, State.setTreg_tile_mem]

/-! ### The frame of a report -/

/-- `t` is `s` after errors have been reported: regions, links out for a test, counts of replays, tile memory, the power state of regions and the reloading of
controllers stand as they did, and groups are only added to those that are to be halted. -/
structure Reported (s t : State) : Prop where
  regions : t.regions = s.regions
  outLinks : t.mesh.outLinks = s.mesh.outLinks
  replays : t.mesh.replays = s.mesh.replays
  mem : ∀ lt, (t.tile lt).mem = (s.tile lt).mem
  reloading : ∀ f, (t.fc f).reloading = (s.fc f).reloading
  power : ∀ f, t.freg f regPwrRegState = s.freg f regPwrRegState
  haltGroups : s.haltGroups ⊆ t.haltGroups

theorem Reported.trans {s t u : State} (h : Reported s t) (k : Reported t u) : Reported s u where
  regions := k.regions.trans h.regions
  outLinks := k.outLinks.trans h.outLinks
  replays := k.replays.trans h.replays
  mem lt := (k.mem lt).trans (h.mem lt)
  reloading f := (k.reloading f).trans (h.reloading f)
  power f := (k.power f).trans (h.power f)
  haltGroups := List.Subset.trans h.haltGroups k.haltGroups

theorem Found.reported {s t : State} (h : Found s t) : Reported s t :=
  { h with power := fun f => h.freg f regPwrRegState (by decide) }

theorem Noted.reported {F : List Nat} {s t : State} (h : Noted F s t) : Reported s t where
  regions := h.regions
  outLinks := by rw [h.mesh]
  replays := by rw [h.mesh]
  mem := h.mem
  reloading := h.reloading
  power f := h.freg f regPwrRegState (by decide) (fun _ => by decide)
  haltGroups := by rw [h.haltGroups]; exact List.Subset.refl _

theorem Reported.refl (s : State) : Reported s s := (Found.refl s).reported

theorem reported_onRasTile (s : State) (pt : Nat) (g : Word → Word) : Reported s (onRasTile s pt g) where
  regions := onRasTile_regions s pt g
  outLinks := by rw [onRasTile_mesh]
  replays := by rw [onRasTile_mesh]
  mem := onRasTile_mem s pt g
  reloading f := by simp [State.fc]
  power f := by simp [State.freg, State.fc]
  haltGroups := by rw [onRasTile_haltGroups]; exact List.Subset.refl _

/-- A change of a controller that neither starts nor ends its reloading and leaves the power state that it holds. -/
theorem reported_modFc {s : State} {f : Nat} {g : Fc → Fc} (hreloading : (g (s.fc f)).reloading = (s.fc f).reloading)
    (hpower : RegFile.get (fcRows ++ regionRows) (g (s.fc f)).regs regPwrRegState = s.freg f regPwrRegState) : Reported s (s.modFc f g) :=
  { Reported.refl s with
    reloading := fun x => by rw [State.fc_modFc]; split <;> simp_all
    power := fun x => by
      unfold State.freg; rw [State.fc_modFc]; split
      · next h => rw [hpower, h]; rfl
      · rfl }

/-! ### Reports -/

theorem reported_logFc (s : State) (f : Nat) (e : LogEnt) : Reported s (logAppend s (.fc f) e) :=
  (noted_logAppend s (.fc f) e (List.mem_singleton_self f)).reported

theorem reported_markTests (s : State) (u : UnitId) (ended : Bool) : Reported s (markTests s u ended) := by
  unfold markTests
  exact reported_onRasTile s u.pt _

theorem reported_testEnded (s : State) (f : Nat) (j : TestJob) (out dur : Nat) : Reported s (testEnded s f j out dur) := by
  unfold testEnded
  extract_lets u s1
  have h1 : Reported s s1 := reported_logFc s f _
  exact (h1.trans (noted_skbEvent [] s1 _ _ _).reported).trans (reported_markTests _ u _)

theorem reported_ceWindow (s : State) (f : Nat) (u : UnitId) : Reported s (ceWindow s f u).1 := by
  unfold ceWindow
  dsimp only
  split <;> dsimp only
  · exact reported_modFc (by rfl) (by rfl)
  · exact reported_modFc (by rfl) (by rfl)

theorem reported_queueTest (s : State) (f : Nat) (j : TestJob) : Reported s (queueTest s f j).1 := by
  unfold queueTest
  split <;> dsimp only
  · exact reported_modFc (by rfl) (by rfl)
  · exact Reported.refl s

theorem reported_reportCE (s : State) (f : Nat) (u : UnitId) (detail : Nat) : Reported s (reportCE s f u detail) := by
  unfold reportCE
  have hwin := reported_ceWindow s f u
  revert hwin
  generalize ceWindow s f u = p
  obtain ⟨s1, n⟩ := p
  intro hwin
  dsimp -zeta only at hwin ⊢
  extract_lets s2 th seq ent
  have h2 : Reported s s2 := hwin.trans (reported_onRasTile s1 _ _)
  split
  · split
    · exact (h2.trans (reported_modFc (by rfl) (by rfl))).trans (reported_logFc _ _ _)
    · have hq := reported_queueTest s2 f ⟨u, seq, false, false, false⟩
      split
      · next s3 h => rw [h] at hq; exact (h2.trans hq).trans (reported_logFc _ _ _)
      · next s3 h =>
        rw [h] at hq
        refine (h2.trans hq).trans (Reported.trans (reported_modFc (by rfl) ?_) (reported_logFc _ _ _))
        simp [RegFile.get_kvSet, State.freg, regPwrRegState, regRasStStatus]
  · exact h2.trans (reported_logFc _ _ _)

theorem reported_reportUE (s : State) (f : Nat) (u : UnitId) (st : BitVec 8) (detail : Nat) : Reported s (reportUE s f u st detail) := by
  have hboth : ∀ v out, Reported v (logBoth v f u 2 st out detail) := fun v out => (noted_logBoth v f u 2 st out detail).reported
  have hlast : ∀ v lane out, Reported v (makeLasting v u lane out) := fun v lane out => (found_makeLasting v u lane out).reported
  unfold reportUE
  extract_lets s0 seq
  have h0 : Reported s s0 := reported_onRasTile s _ _
  split
  · exact h0.trans (hboth _ _)
  · split
    · exact ((((h0.trans (reported_modFc (by rfl) (by rfl))).trans (hboth _ 5)).trans (noted_drawn [] _).reported).trans
        (reported_testEnded _ _ _ _ _)).trans (hlast _ _ _)
    · have hq := reported_queueTest s0 f ⟨u, seq, true, false, false⟩
      split
      · next s1 h => rw [h] at hq; exact (h0.trans hq).trans (hboth _ _)
      · next s1 h => rw [h] at hq; exact ((h0.trans hq).trans (hboth _ _)).trans (hlast _ _ _)

end Sys2Proof.Machine
end

section
/-!
SUPPORT. What a message that is sent on the wafer or over the fabric leaves as it was.
-/
namespace Sys2Proof.Machine

open Sys2Proof

/-! ### What stands while messages are sent -/

/-- The parts of the module that sending a message does not touch: tiles, controllers, the map, regions, the groups to be halted, and the routing
tables with their epoch. -/
structure Standing where
  tiles : KV Tile
  fcs : KV Fc
  gesso : Gesso
  regions : KV Region
  haltGroups : List Nat
  active : MeshTab
  shadow : Option MeshTab
  epoch : Nat

/-- Those parts of a state. -/
def standing (s : State) : Standing :=
  ⟨s.tiles, s.fcs, s.gesso, s.regions, s.haltGroups, s.mesh.active, s.mesh.shadow, s.mesh.epoch⟩

@[simp] theorem standing_drawn (s : State) : standing s.drawn = standing s := rfl
@[simp] theorem standing_setMreg (s : State) (off : Nat) (v : Word) : standing (s.setMreg off v) = standing s := rfl
@[simp] theorem standing_setMfld (s : State) (off hi lo v : Nat) : standing (s.setMfld off hi lo v) = standing s := rfl
@[simp] theorem standing_modPort (s : State) (p : Nat) (g : FabPort → FabPort) : standing (modPort s p g) = standing s := rfl
@[simp] theorem standing_modTx (s : State) (d : Nat) (g : FabTx → FabTx) : standing (modTx s d g) = standing s := rfl
@[simp] theorem standing_modSess (s : State) (d : Nat) (g : Sess → Sess) : standing (modSess s d g) = standing s := rfl
@[simp] theorem standing_fabGive (s : State) (lt : Nat) : standing (fabGive s lt) = standing s := rfl

/-! ### On the wafer -/

@[simp] theorem standing_pushFlight (s : State) (f : Flight) : standing (pushFlight s f) = standing s := by
  unfold pushFlight
  split <;> rfl

@[simp] theorem standing_push (s : State) (m : NetMsg) : standing (push s m) = standing s := by
  simp [push, pushFrom]

@[simp] theorem standing_crossTo (s : State) (e : EgPkt) (q : Nat) : standing (crossTo s e q) = standing s := by
  simp [crossTo, pushFrom]

/-! ### Over the fabric -/

@[simp] theorem standing_lostLocal (s : State) (st : Status) (x : FabPkt) : standing (lostLocal s st x) = standing s := by
  unfold lostLocal
  dsimp only
  split
  case h_2 => split <;> simp
  all_goals simp

@[simp] theorem standing_loseOut (s : State) (d key psn : Nat) (st : Status) : standing (loseOut s d key psn st) = standing s := by
  unfold loseOut
  split
  · rfl
  · simp

@[simp] theorem standing_noRoute (s : State) (e : EgPkt) : standing (noRoute s e) = standing s := by
  unfold noRoute
  split
  · simp
  · split
    · rfl
    · simp

theorem standing_trySend {s t : State} {e : EgPkt} (h : trySend s e = some t) : standing t = standing s := by
  unfold trySend at h
  dsimp only at h
  split at h
  · obtain rfl := Option.some.inj h; simp
  · split at h
    · cases h
    · split at h
      · obtain rfl := Option.some.inj h; simp
      · split at h
        · cases h
        · obtain rfl := Option.some.inj h; simp

/-- A packet that can leave at once does, and another one stays. -/
theorem standing_trySend_getD {s w : State} (e : EgPkt) (hw : standing w = standing s) : standing ((trySend s e).getD w) = standing s := by
  cases h : trySend s e with
  | none => exact hw
  | some t => exact standing_trySend h

@[simp] theorem standing_sendOrWait (s : State) (e : EgPkt) : standing (sendOrWait s e) = standing s := by
  unfold sendOrWait
  extract_lets fab wait
  have hwait : standing wait = standing s := rfl
  split
  · exact hwait
  · exact standing_trySend_getD e hwait

@[simp] theorem standing_launch (s : State) (x : FabPkt) : standing (launch s x) = standing s := by
  unfold launch
  split
  · simp
  · rfl

@[simp] theorem standing_sendPkt (s : State) (d key : Nat) (x : FabPkt) : standing (sendPkt s d key x) = standing s := by
  simp [sendPkt]

@[simp] theorem standing_sendSess (s : State) (d key msg gen xchg : Nat) (body : List Byte) :
    standing (sendSess s d key msg gen xchg body) = standing s := by
  unfold sendSess
  exact foldl_keeps standing (fun st q => by simp) _ _

@[simp] theorem standing_startExchange (s : State) (d : Nat) : standing (startExchange s d) = standing s := by
  unfold startExchange
  dsimp only
  split
  · rfl
  · simp

@[simp] theorem standing_fabPost (s : State) (d : Nat) (x : FabPkt) : standing (fabPost s d x) = standing s := by
  unfold fabPost
  split
  · simp
  · split <;> simp

@[simp] theorem standing_fabAbort (s : State) (lt : Nat) (tag : BitVec 16) : standing (fabAbort s lt tag) = standing s := by
  unfold fabAbort
  refine foldl_keeps standing (fun st p => ?_) _ _
  split
  · split
    · simp
    · rfl
  · rfl

/-- A write in progress is marked as aborted, on the wafer and over the fabric. -/
@[simp] theorem standing_abortWrite (s : State) (lt : Nat) (tag : BitVec 16) : standing (abortWrite s lt tag) = standing s :=
  standing_fabAbort s lt tag

end Sys2Proof.Machine
end

section
/-!
O43: links, epochs, the order of arrival, lost packets.
-/
namespace Sys2Proof.Machine

open Sys2Proof

/-! ### Replays on a link -/

@[simp] theorem kvGet_kvDel_self {α : Type} (d : α) (m : KV α) (k : Nat) : kvGet d (kvDel m k) k = d := by
  induction m with
  | nil => rfl
  | cons p r ih =>
    obtain ⟨k', v⟩ := p
    by_cases h : k' = k
    · subst h; simpa [kvDel] using ih
    · simpa [kvDel, h, kvGet] using ih

/-- A link that tests hold out of routing is out. -/
theorem linkDown_of_outLinks {s : State} {pt net dir : Nat} (h : linkKey pt (linkCode net dir) ∈ s.mesh.outLinks) :
    linkDown s pt net dir = true := by
  simp [linkDown, linksOut, h]

theorem Reported.sameMemory {s t : State} (h : Reported s t) : sameMemory s t := fun lt a => by rw [h.mem]

theorem exec_meshFlitReceive (pt : Nat) (net : BitVec 4) (dir : BitVec 2) (good : Bool) (s : State) :
    exec (.meshFlitReceive pt net dir good) s = execMeshFlitReceive pt net dir good s := rfl

theorem meshFlitReceive_good {s : State} {pt : Nat} {net : BitVec 4} {dir : BitVec 2} (hlink : linkExists pt net.toNat dir.toNat = true)
    (hup : linkDown s pt net.toNat dir.toNat = false) :
    ∃ t, exec (.meshFlitReceive pt net dir true) s = .next t ∧
      Reported (modMesh s (fun x => { x with replays := kvDel x.replays (linkKey pt (linkCode net.toNat dir.toNat)) })) t := by
  simp only [exec_meshFlitReceive, execMeshFlitReceive, hlink, hup, Bool.not_true, Bool.false_eq_true, if_false, if_true]
  refine ⟨_, rfl, ?_⟩
  split
  · exact reported_reportCE _ _ _ _
  · exact Reported.refl _

theorem meshFlitReceive_failed {s : State} {pt : Nat} {net : BitVec 4} {dir : BitVec 2} (hlink : linkExists pt net.toNat dir.toNat = true)
    (hup : linkDown s pt net.toNat dir.toNat = false) (hn : kvGet 0 s.mesh.replays (linkKey pt (linkCode net.toNat dir.toNat)) < 8) :
    exec (.meshFlitReceive pt net dir false) s = .next (modMesh s (fun x => { x with
      replays := kvSet x.replays (linkKey pt (linkCode net.toNat dir.toNat))
        (kvGet 0 s.mesh.replays (linkKey pt (linkCode net.toNat dir.toNat)) + 1) })) := by
  simp only [exec_meshFlitReceive, execMeshFlitReceive, hlink, hup, hn, Bool.not_true, Bool.false_eq_true, if_false, if_true]

/-- The ninth failure in a row takes the direction out, an epoch starts, and the error is reported (log entry 31). -/
theorem meshFlitReceive_lost {s : State} {pt : Nat} {net : BitVec 4} {dir : BitVec 2} (hlink : linkExists pt net.toNat dir.toNat = true)
    (hup : linkDown s pt net.toNat dir.toNat = false) (hn : 8 ≤ kvGet 0 s.mesh.replays (linkKey pt (linkCode net.toNat dir.toNat))) :
    ∃ t, exec (.meshFlitReceive pt net dir false) s = .next t ∧ linkDown t pt net.toNat dir.toNat = true ∧ sameMemory s t := by
  have hn' : ¬ kvGet 0 s.mesh.replays (linkKey pt (linkCode net.toNat dir.toNat)) < 8 := by omega
  simp only [exec_meshFlitReceive, execMeshFlitReceive, hlink, hup, hn', Bool.not_true, Bool.false_eq_true, if_false]
  refine ⟨_, rfl, ?_⟩
  have hrep := (isolated_startEpoch (modMesh s (fun x => { x with
    replays := kvDel x.replays (linkKey pt (linkCode net.toNat dir.toNat))
    outLinks := x.outLinks ++ [linkKey pt (linkCode net.toNat dir.toNat)] }))).found.reported.trans
      (reported_reportUE _ ((linkUnit pt net.toNat (linkCode net.toNat dir.toNat)).pt / 24)
        (linkUnit pt net.toNat (linkCode net.toNat dir.toNat)) 0 (linkCode net.toNat dir.toNat))
  refine ⟨linkDown_of_outLinks ?_, hrep.sameMemory⟩
  rw [hrep.outLinks]
  simp [modMesh]

/-! ### Epochs -/

/-- `t` is `s` after packets have been sent another way: the routing tables, the map and tile memory stand as they did. -/
structure Rerouted (s t : State) : Prop where
  gesso : t.gesso = s.gesso
  active : t.mesh.active = s.mesh.active
  shadow : t.mesh.shadow = s.mesh.shadow
  epoch : t.mesh.epoch = s.mesh.epoch
  mem : ∀ lt, (t.tile lt).mem = (s.tile lt).mem

theorem Rerouted.refl (s : State) : Rerouted s s := ⟨rfl, rfl, rfl, rfl, fun _ => rfl⟩

theorem Rerouted.trans {s t u : State} (h : Rerouted s t) (k : Rerouted t u) : Rerouted s u where
  gesso := k.gesso.trans h.gesso
  active := k.active.trans h.active
  shadow := k.shadow.trans h.shadow
  epoch := k.epoch.trans h.epoch
  mem lt := (k.mem lt).trans (h.mem lt)

theorem Rerouted.foldl {α : Type} {g : State → α → State} (hg : ∀ s a, Rerouted s (g s a)) (l : List α) (s : State) :
    Rerouted s (l.foldl g s) := by
  induction l generalizing s with
  | nil => exact Rerouted.refl s
  | cons a r ih => exact (hg s a).trans (ih (g s a))

theorem rerouted_of_standing {s t : State} (h : standing t = standing s) : Rerouted s t where
  gesso := congrArg Standing.gesso h
  active := congrArg Standing.active h
  shadow := congrArg Standing.shadow h
  epoch := congrArg Standing.epoch h
  mem lt := by
    have htiles : t.tiles = s.tiles := congrArg Standing.tiles h
    rw [State.tile, State.tile, htiles]

theorem Noted.rerouted {F : List Nat} {s t : State} (h : Noted F s t) : Rerouted s t where
  gesso := h.gesso
  active := by rw [h.mesh]
  shadow := by rw [h.mesh]
  epoch := by rw [h.mesh]
  mem := h.mem

theorem rerouted_resumeFlight (s : State) (f : Flight) : Rerouted s (resumeFlight s f) := by
  unfold resumeFlight
  split
  · exact rerouted_of_standing (standing_pushFlight s f)
  · exact ⟨rfl, rfl, rfl, rfl, fun _ => rfl⟩

theorem rerouted_setFfld (s : State) (f off hi lo v : Nat) : Rerouted s (s.setFfld f off hi lo v) :=
  ⟨rfl, rfl, rfl, rfl, fun _ => rfl⟩

theorem rerouted_setPortState (s : State) (p st cause lanes : Nat) : Rerouted s (setPortState s p st cause lanes) :=
  ((rerouted_setFfld s _ _ _ _ _).trans (rerouted_setFfld _ _ _ _ _ _)).trans (rerouted_setFfld _ _ _ _ _ _)

theorem rerouted_relookup (p : Nat) (s : State) (e : EgPkt) : Rerouted s (relookup p s e) := by
  unfold relookup
  dsimp only
  split
  · exact rerouted_of_standing (standing_trySend_getD _ rfl)
  · exact rerouted_of_standing (standing_sendOrWait s _)

/-- A port that goes down: its packets are looked up again. -/
theorem rerouted_portDown (s : State) (p cause : Nat) : Rerouted s (portDown s p cause) := by
  unfold portDown
  split
  · exact Rerouted.refl s
  · extract_lets moved fab s0 s1 s2
    have h0 : Rerouted s (modPort s0 p (fun _ => FabPort.reset)) := rerouted_of_standing rfl
    have h1 : Rerouted s s1 := h0.trans (rerouted_setPortState _ p 4 cause 0)
    have h2 : Rerouted s s2 := (h1.trans (rerouted_setFfld s1 _ _ _ _ _)).trans (noted_mcLog [] _ _ _ _ _ _ _).rerouted
    exact h2.trans (Rerouted.foldl (rerouted_relookup p) _ _)

theorem rerouted_dropPort (s : State) (p : Nat) : Rerouted s (dropPort s p) := by
  unfold dropPort
  split
  · exact rerouted_portDown s p _
  · exact Rerouted.refl s

theorem swapEpoch_of_not_drained {s : State} (h : netDrained s = false) : swapEpoch s = s := by
  unfold swapEpoch
  cases s.mesh.shadow with
  | none => rfl
  | some m => simp [h]

/-- The shadow tables become active, and then packets that waited and ports at routers that are out go their ways. -/
theorem rerouted_swapEpoch {s : State} {m : MeshTab} (hm : s.mesh.shadow = some m) (h : netDrained s = true) :
    Rerouted (modMesh { s with net := [] } (fun x => { x with active := m, shadow := none, epoch := (x.epoch + 1) % 2 ^ 16, outs := [] }))
      (swapEpoch s) := by
  simp only [swapEpoch, hm, h, if_true]
  exact (Rerouted.foldl rerouted_resumeFlight _ _).trans (Rerouted.foldl rerouted_dropPort _ _)

/-! ### The order of arrival -/

/-- With another of its pair ahead of it, a flight cannot arrive (10, R262). -/
theorem arrivesNext_of_aheadOf {s : State} {f g : Flight} (hf : f ∈ s.net) (hahead : aheadOf f g = true) (hstays : tokenStays s f = false) :
    arrivesNext s g = false := by
  have hany : s.net.any (fun f => (aheadOf f g && !tokenStays s f) || (onLink f g && f.pos != g.pos)) = true :=
    List.any_eq_true.mpr ⟨f, hf, by simp [hahead, hstays]⟩
  simp [arrivesNext, hany]

theorem arriving_of_not_mayArrive {s : State} {m : NetMsg} (h : mayArrive s m = false) (g : State → State) : arriving s m g = s := by
  simp [arriving, h]

/-- The command of a credit message that cannot arrive has no effect. -/
theorem onCredit_of_not_mayArrive {s : State} {lt typ : Nat} {m : CreditMsg} (hlt : lt < 1320)
    (h : mayArrive s (.credit (tileGa s lt) typ m) = false) (g : State → State) :
    onTile lt s (fun s => onCredit s lt typ m g) = .next s := by
  simp only [onTile, maxTiles, hlt, if_true, onCredit, arriving_of_not_mayArrive h]

/-! ### Lost packets -/

/-- The state in which a loss is counted, at the router and at the sender, before the item that it was part of ends (10, R268). -/
def lossCounted (s : State) (lt pt : Nat) (what : Loss) : State :=
  let s1 := countDiscard { s with net := s.net.eraseP (fun f => isLost lt what f.msg) } pt
  s1.setTfld lt regMeshLost 31 16 (satInc 16 (s1.tfld lt regMeshLost 31 16))

theorem exec_meshLossNotice {lt : Nat} (hlt : lt < 1320) (pt : Nat) (what : Loss) (s : State) :
    exec (.meshLossNotice lt pt what) s = .next (endLost (lossCounted s lt pt what) lt what) := by
  show execMeshLossNotice lt pt what s = _
  simp only [execMeshLossNotice, onTile, maxTiles, hlt, if_true]
  rfl

section Counted
variable {s : State} {lt pt k : Nat} (what : Loss) (hk : ltOfPt s pt = some k)
include hk

theorem lossCounted_eq :
    lossCounted s lt pt what =
      (({ s with net := s.net.eraseP (fun f => isLost lt what f.msg) }.setTfld k regMeshLost 15 0 (satInc 16 (s.tfld k regMeshLost 15 0))).setTfld
        lt regMeshLost 31 16 (satInc 16 (s.tfld lt regMeshLost 31 16))) := by
  have hcount : countDiscard { s with net := s.net.eraseP (fun f => isLost lt what f.msg) } pt =
      { s with net := s.net.eraseP (fun f => isLost lt what f.msg) }.setTfld k regMeshLost 15 0 (satInc 16 (s.tfld k regMeshLost 15 0)) := by
    have hk' : ltOfPt { s with net := s.net.eraseP (fun f => isLost lt what f.msg) } pt = some k := hk
    simp only [countDiscard, hk']
    rfl
  simp only [lossCounted, hcount]
  rw [State.tfld_setTfld_disjoint _ k regMeshLost _ lt (by decide) (Or.inr (by decide))]
  rfl

/-- The notice is counted at the tile that sent the packet, the discard at the one whose router discarded it. -/
theorem lossCounted_counts (lt : Nat) :
    (lossCounted s lt pt what).tfld lt regMeshLost 31 16 = min 65535 (s.tfld lt regMeshLost 31 16 + 1) ∧
      (lossCounted s lt pt what).tfld k regMeshLost 15 0 = min 65535 (s.tfld k regMeshLost 15 0 + 1) := by
  rw [lossCounted_eq what hk]
  constructor
  · rw [State.tfld_setTfld_same _ _ _ (by decide) (satInc_16_lt _), satInc_16]
  · rw [State.tfld_setTfld_disjoint _ lt regMeshLost _ k (by decide) (Or.inl (by decide)),
      State.tfld_setTfld_same _ _ _ (by decide) (satInc_16_lt _), satInc_16]

theorem lossCounted_treg {o : Nat} (ho : o ≠ regMeshLost) (x : Nat) : (lossCounted s lt pt what).treg x o = s.treg x o := by
  rw [lossCounted_eq what hk, State.treg_setTfld_off_ne _ _ _ _ _ _ ho, State.treg_setTfld_off_ne _ _ _ _ _ _ ho]
  rfl

theorem lossCounted_mem (x : Nat) : ((lossCounted s lt pt what).tile x).mem = (s.tile x).mem := by
  rw [lossCounted_eq what hk, State.setTfld_tile_mem, State.setTfld_tile_mem]
  rfl

theorem lossCounted_reqs (x : Nat) : ((lossCounted s lt pt what).tile x).reqs = (s.tile x).reqs := by
  rw [lossCounted_eq what hk, State.setTfld_tile_reqs, State.setTfld_tile_reqs]
  rfl

theorem lossCounted_xacts (x : Nat) : ((lossCounted s lt pt what).tile x).xacts = (s.tile x).xacts := by
  rw [lossCounted_eq what hk, State.setTfld_tile_xacts, State.setTfld_tile_xacts]
  rfl

theorem lossCounted_moduleId : (lossCounted s lt pt what).moduleId = s.moduleId := by
  rw [lossCounted_eq what hk]
  rfl

end Counted

/-! ### The end of a channel transaction -/

/-- Without a completion ring, an item completes in its slot alone. -/
theorem completeItem_of_noRing {s : State} {lt : Nat} (hring : s.tbit lt regDmaCringCfg 0 = false) (u n kind : Nat) (st : Status) (progress : Nat) :
    completeItem s lt u n kind st progress = setSlot s lt u n { (s.tile lt).slot u n with
      busy := false
      crec := ⟨mkHandle u n ((s.tile lt).slot u n).gen.toNat, true, st, kind, progress % 2 ^ 32, s.aon % 2 ^ 32⟩ } := by
  have hring' : ∀ x, (setSlot s lt u n x).tbit lt regDmaCringCfg 0 = false := fun x => by
    rw [← hring]
    simp [setSlot, State.tbit, State.treg]
  simp only [completeItem, ringAppend, hring', Bool.false_eq_true, if_false]

/-- What the end of a transaction with REGION_OFF leaves of the tile's registers before the item completes: those of USE of its channel. -/
def xactFreed (s : State) (lt slot : Nat) (x : Xact) : State :=
  let s1 := s.modTile lt (fun t => { t with xacts := kvDel t.xacts slot })
  let s2 := s1.setTfld lt (regChUse x.ch) 15 0 (s1.tfld lt (regChUse x.ch) 15 0 - x.units)
  let s3 := s2.setTfld lt (regChUse x.ch) 22 16 (s2.tfld lt (regChUse x.ch) 22 16 - 1)
  s3.setTfld lt (regChUse x.ch) 31 24 stRegionOff.toNat

theorem endXact_regionOff {s : State} {lt slot : Nat} {x : Xact} (hforeign : chForeign s lt x.ch = false) :
    endXact s lt slot x stRegionOff = completeItem (xactFreed s lt slot x) lt 4 slot (b2n x.am) stRegionOff 0 := by
  simp [endXact, hforeign, xactFreed]

theorem xactFreed_treg (s : State) (lt slot : Nat) (x : Xact) {o : Nat} (ho : o ≠ regChUse x.ch) (y : Nat) :
    (xactFreed s lt slot x).treg y o = s.treg y o := by
  simp only [xactFreed]
  rw [State.treg_setTfld_off_ne _ _ _ _ _ _ ho, State.treg_setTfld_off_ne _ _ _ _ _ _ ho, State.treg_setTfld_off_ne _ _ _ _ _ _ ho]
  unfold State.treg
  rw [State.tile_modTile]
  split
  · next h => rw [h]
  · rfl

theorem xactFreed_mem (s : State) (lt slot : Nat) (x : Xact) (y : Nat) : ((xactFreed s lt slot x).tile y).mem = (s.tile y).mem := by
  simp only [xactFreed, State.setTfld_tile_mem, State.tile_modTile]
  split
  · next h => rw [h]
  · rfl

theorem xactFreed_xacts (s : State) (lt slot : Nat) (x : Xact) : ((xactFreed s lt slot x).tile lt).xacts = kvDel (s.tile lt).xacts slot := by
  simp [xactFreed]

/-- A transaction that ends with REGION_OFF is gone, and its slot holds the record of it. -/
theorem endXact_regionOff_ends {s : State} {lt : Nat} {x : Xact} (slot : Nat) (hch : x.ch < 256) (hforeign : chForeign s lt x.ch = false)
    (hring : s.tbit lt regDmaCringCfg 0 = false) :
    let t := endXact s lt slot x stRegionOff
    xactOf t lt slot = none ∧ ((t.tile lt).slot 4 slot).busy = false ∧ ((t.tile lt).slot 4 slot).crec.status = stRegionOff ∧
      (∀ y, (t.tile y).mem = (s.tile y).mem) ∧ ∀ y, t.treg y regMeshLost = s.treg y regMeshLost := by
  have hne : ∀ o, o = regMeshLost ∨ o = regDmaCringCfg → o ≠ regChUse x.ch := by
    rintro o (rfl | rfl) <;> simp only [regMeshLost, regDmaCringCfg, regChUse] <;> omega
  have hring' : (xactFreed s lt slot x).tbit lt regDmaCringCfg 0 = false := by
    rw [State.tbit, xactFreed_treg s lt slot x (hne _ (Or.inr rfl)), ← hring, State.tbit]
  intro t
  have ht : t = setSlot (xactFreed s lt slot x) lt 4 slot _ := (endXact_regionOff hforeign).trans (completeItem_of_noRing hring' _ _ _ _ _)
  rw [ht]
  refine ⟨?_, ?_, ?_, fun y => ?_, fun y => ?_⟩
  · simp [xactOf, setSlot, xactFreed_xacts]
  · simp [setSlot, Tile.slot]
  · simp [setSlot, Tile.slot]
  · rw [← xactFreed_mem s lt slot x y, setSlot, State.tile_modTile]
    split
    · next h => rw [h]
    · rfl
  · rw [← xactFreed_treg s lt slot x (hne _ (Or.inl rfl)) y]
    unfold State.treg
    rw [setSlot, State.tile_modTile]
    split
    · next h => rw [h]
    · rfl

/-- A request that is dropped leaves the transactions, the memory and the registers of its tile. -/
theorem dropReq_tile (s : State) (lt : Nat) (tag : BitVec 16) (x : Nat) :
    ((dropReq s lt tag).tile x).xacts = (s.tile x).xacts ∧ ((dropReq s lt tag).tile x).mem = (s.tile x).mem ∧
      ((dropReq s lt tag).tile x).regs = (s.tile x).regs := by
  rw [dropReq, State.tile_modTile]
  split
  · next h => rw [h]; exact ⟨rfl, rfl, rfl⟩
  · exact ⟨rfl, rfl, rfl⟩

/-- The write of a channel transaction is lost: the transaction ends. -/
theorem endReq_xact {s : State} {lt slot : Nat} {tag : BitVec 16} {r : SendReq} {x : Xact} (hr : reqOf s lt tag = some r)
    (howner : r.owner = .xact slot) (hphase : r.phase ≠ .givenUp) (hx : xactOf s lt slot = some x) (st : Status) :
    endReq s lt tag st = endXact (dropReq s lt tag) lt slot x st := by
  have hx' : xactOf (dropReq s lt tag) lt slot = some x := by
    rw [xactOf, (dropReq_tile s lt tag lt).1]; exact hx
  simp [endReq, hr, howner, hphase, hx']

theorem endReq_of_none {s : State} {lt : Nat} {tag : BitVec 16} (hr : reqOf s lt tag = none) (st : Status) : endReq s lt tag st = s := by
  simp [endReq, hr]

section LostWrite
variable {s : State} {lt pt k slot : Nat} {tag : BitVec 16} {r : SendReq} {x : Xact}

theorem lossCounted_reqOf (what : Loss) (hk : ltOfPt s pt = some k) (tag : BitVec 16) :
    reqOf (lossCounted s lt pt what) lt tag = reqOf s lt tag := by
  rw [reqOf, lossCounted_reqs what hk, reqOf]

/-- A lost write of a channel transaction is counted, and ends the transaction with REGION_OFF (10, R268). -/
theorem meshLossNotice_xact (hlt : lt < 1320) (hk : ltOfPt s pt = some k) (hr : reqOf s lt tag = some r) (howner : r.owner = .xact slot)
    (hphase : r.phase ≠ .givenUp) (hx : xactOf s lt slot = some x) (hch : x.ch < 256) (hforeign : chForeign s lt x.ch = false)
    (hring : s.tbit lt regDmaCringCfg 0 = false) :
    ∃ t, exec (.meshLossNotice lt pt (.request tag)) s = .next t ∧
      (t.tfld lt regMeshLost 31 16 = min 65535 (s.tfld lt regMeshLost 31 16 + 1) ∧
        t.tfld k regMeshLost 15 0 = min 65535 (s.tfld k regMeshLost 15 0 + 1)) ∧
      xactOf t lt slot = none ∧ ((t.tile lt).slot 4 slot).busy = false ∧ ((t.tile lt).slot 4 slot).crec.status = stRegionOff ∧
      sameMemory s t := by
  let v := lossCounted s lt pt (.request tag)
  let u := dropReq v lt tag
  have hregs : ∀ y o, u.treg y o = v.treg y o := fun y o => by rw [State.treg, (dropReq_tile v lt tag y).2.2, State.treg]
  have hkept : ∀ y o, o ≠ regMeshLost → u.treg y o = s.treg y o := fun y o ho =>
    (hregs y o).trans (lossCounted_treg (.request tag) hk ho y)
  have hring' : u.tbit lt regDmaCringCfg 0 = false := by rw [State.tbit, hkept lt _ (by decide), ← hring, State.tbit]
  have hforeign' : chForeign u lt x.ch = false := by
    have hdst : regChDst x.ch ≠ regMeshLost := by simp only [regChDst, regMeshLost]; omega
    have hid : hereId u = hereId s := congrArg (·.getD 0) (lossCounted_moduleId (.request tag) hk)
    rw [← hforeign, chForeign, chForeign, State.tfld, State.tfld, hkept lt _ hdst, hid]
  have hx' : xactOf v lt slot = some x := by rw [xactOf, lossCounted_xacts _ hk]; exact hx
  obtain ⟨hgone, hbusy, hrecord, hmem, hlost⟩ := endXact_regionOff_ends slot hch hforeign' hring'
  refine ⟨_, exec_meshLossNotice hlt pt (.request tag) s, ?_⟩
  rw [endLost, endReq_xact ((lossCounted_reqOf _ hk tag).trans hr) howner hphase hx']
  obtain ⟨hnotice, hdiscard⟩ := lossCounted_counts (.request tag) hk lt
  refine ⟨⟨?_, ?_⟩, hgone, hbusy, hrecord, fun y a => ?_⟩
  · rw [State.tfld, hlost, hregs]; exact hnotice
  · rw [State.tfld, hlost, hregs]; exact hdiscard
  · rw [hmem, (dropReq_tile v lt tag y).2.1, lossCounted_mem _ hk]

end LostWrite

/-! ### The statement -/

/-- Settles O43, clause by clause: the flits of a link, the start and the swap of an epoch, the order of arrival, the loss notice. -/
theorem linksAndEpochs : Obligations.LinksAndEpochs := by
  unfold Obligations.LinksAndEpochs
  refine ⟨fun s pt net dir hlink hup => ⟨?_, fun hn => ?_, meshFlitReceive_lost hlink hup⟩, fun s => ?_, fun s h => ?_,
    fun s f g hf hahead hstays => arrivesNext_of_aheadOf hf hahead hstays, fun s lt m hlt p hp hmay => ?_, fun s m hm hdrained => ?_,
    fun s lt pt k tag hlt hk => ?_⟩
  · obtain ⟨t, ht, hrep⟩ := meshFlitReceive_good hlink hup
    exact ⟨t, ht, by rw [hrep.replays]; simp [modMesh], hrep.outLinks, hrep.sameMemory⟩
  · exact ⟨_, meshFlitReceive_failed hlink hup hn, by simp [modMesh], rfl, rfl⟩
  · exact ⟨startEpoch s, rfl, by rw [startEpoch_mesh], by rw [startEpoch_mesh], by rw [startEpoch_mesh],
      (isolated_startEpoch s).found.reported.sameMemory⟩
  · exact congrArg _ (swapEpoch_of_not_drained h)
  · simp only [List.mem_cons, List.not_mem_nil, or_false] at hp
    rcases hp with rfl | rfl | rfl | rfl | rfl | rfl <;> exact onCredit_of_not_mayArrive hlt hmay _
  · have hre := rerouted_swapEpoch hm hdrained
    exact ⟨swapEpoch s, rfl, hre.active, hre.shadow, hre.epoch, hre.gesso, fun lt a => by rw [hre.mem]; rfl⟩
  · have hmem : ∀ what, sameMemory s (lossCounted s lt pt what) := fun what x a => by rw [lossCounted_mem what hk]
    refine ⟨⟨_, exec_meshLossNotice hlt pt .other s, lossCounted_counts .other hk lt, hmem _⟩, fun hnone => ?_,
      fun r slot x hr howner hphase hx _ hch hforeign hring => meshLossNotice_xact hlt hk hr howner hphase hx hch hforeign hring⟩
    refine ⟨_, exec_meshLossNotice hlt pt (.request tag) s, ?_⟩
    rw [endLost, endReq_of_none ((lossCounted_reqOf _ hk tag).trans hnone)]
    exact ⟨lossCounted_counts _ hk lt, hmem _⟩

end Sys2Proof.Machine
end

section
/-!
SUPPORT. What the halt of a region leaves of its control: the state of regions, the controllers that reload, the groups that are to be halted.
-/
namespace Sys2Proof.Machine

open Sys2Proof

/-! ### The frame of a halt -/

/-- `t` is `s` after units have stopped: no controller starts or ends its reloading, no region changes its power state or its mark of a FATAL, and
groups are only added to those that are to be halted. -/
structure HaltKept (s t : State) : Prop where
  reloading : ∀ f, (t.fc f).reloading = (s.fc f).reloading
  power : ∀ f, t.freg f regPwrRegState = s.freg f regPwrRegState
  fatalHalt : ∀ r, (t.region r).fatalHalt = (s.region r).fatalHalt
  haltGroups : s.haltGroups ⊆ t.haltGroups

theorem HaltKept.trans {s t u : State} (h : HaltKept s t) (k : HaltKept t u) : HaltKept s u where
  reloading f := (k.reloading f).trans (h.reloading f)
  power f := (k.power f).trans (h.power f)
  fatalHalt r := (k.fatalHalt r).trans (h.fatalHalt r)
  haltGroups := List.Subset.trans h.haltGroups k.haltGroups

theorem Reported.haltKept {s t : State} (h : Reported s t) : HaltKept s t :=
  { h with fatalHalt := fun r => by rw [State.region, State.region, h.regions] }

theorem HaltKept.refl (s : State) : HaltKept s s := (Reported.refl s).haltKept

theorem HaltKept.foldl {α : Type} {g : State → α → State} (hg : ∀ s a, HaltKept s (g s a)) (l : List α) (s : State) :
    HaltKept s (l.foldl g s) := by
  induction l generalizing s with
  | nil => exact HaltKept.refl s
  | cons a r ih => exact (hg s a).trans (ih (g s a))

theorem HaltKept.regionState {s t : State} (h : HaltKept s t) (r : Nat) : regionState t r = regionState s r := by
  simp only [Machine.regionState, State.ffld, h.power]

/-- The controllers, the regions and the groups that are to be halted. -/
def control (s : State) : KV Fc × KV Region × List Nat := (s.fcs, s.regions, s.haltGroups)

theorem haltKept_of_control {s t : State} (h : control t = control s) : HaltKept s t := by
  simp only [control, Prod.mk.injEq] at h
  obtain ⟨hfcs, hregions, hgroups⟩ := h
  exact ⟨fun f => by rw [State.fc, State.fc, hfcs], fun f => by rw [State.freg, State.freg, State.fc, State.fc, hfcs],
    fun r => by rw [State.region, State.region, hregions], by rw [hgroups]; exact List.Subset.refl _⟩

theorem control_of_standing {s t : State} (h : standing t = standing s) : control t = control s := by
  simp only [standing, Standing.mk.injEq] at h
  obtain ⟨-, hfcs, -, hregions, hgroups, -⟩ := h
  simp only [control, hfcs, hregions, hgroups]

/-! ### Updates of one tile -/

@[simp] theorem control_modTile (s : State) (lt : Nat) (g : Tile → Tile) : control (s.modTile lt g) = control s := rfl
@[simp] theorem control_setTreg (s : State) (lt off : Nat) (v : Word) : control (s.setTreg lt off v) = control s := rfl
@[simp] theorem control_setTfld (s : State) (lt off hi lo v : Nat) : control (s.setTfld lt off hi lo v) = control s := rfl
@[simp] theorem control_setTbit (s : State) (lt off i : Nat) (b : Bool) : control (s.setTbit lt off i b) = control s := rfl
@[simp] theorem control_bumpCnt (s : State) (lt n k : Nat) : control (bumpCnt s lt n k) = control s := rfl
@[simp] theorem control_memStore (s : State) (lt off : Nat) (bs : List Byte) : control (memStore s lt off bs) = control s := rfl
@[simp] theorem control_setSlot (s : State) (lt u n : Nat) (x : Slot) : control (setSlot s lt u n x) = control s := rfl
@[simp] theorem control_setReq (s : State) (lt : Nat) (tag : BitVec 16) (r : SendReq) : control (setReq s lt tag r) = control s := rfl
@[simp] theorem control_dropReq (s : State) (lt : Nat) (tag : BitVec 16) : control (dropReq s lt tag) = control s := rfl
@[simp] theorem control_fabGive (s : State) (lt : Nat) : control (fabGive s lt) = control s := rfl
@[simp] theorem control_modDma (s : State) (lt : Nat) (g : List DmaItem → List DmaItem) : control (modDma s lt g) = control s := rfl
@[simp] theorem control_modSlot (s : State) (lt n : Nat) (g : SkSlot → SkSlot) : control (modSlot s lt n g) = control s := rfl
@[simp] theorem control_releaseBolts (s : State) (lt : Nat) (bs : List Nat) : control (releaseBolts s lt bs) = control s := rfl
@[simp] theorem control_modMe (s : State) (lt : Nat) (g : MeState → MeState) : control (modMe s lt g) = control s := rfl
@[simp] theorem control_setMeBit (s : State) (lt i : Nat) (b : Bool) : control (setMeBit s lt i b) = control s := rfl
@[simp] theorem control_setChState (s : State) (lt n v : Nat) : control (setChState s lt n v) = control s := rfl
@[simp] theorem control_abortWrite (s : State) (lt : Nat) (tag : BitVec 16) : control (abortWrite s lt tag) = control s :=
  control_of_standing (standing_abortWrite s lt tag)

@[simp] theorem control_bumpXbar (s : State) (loc : Bool) (lt k : Nat) : control (bumpXbar s loc lt k) = control s := by
  unfold bumpXbar
  split <;> rfl

/-! ### Items that end -/

@[simp] theorem control_ringAppend (s : State) (lt : Nat) (r : CRec) : control (ringAppend s lt r) = control s := by
  unfold ringAppend
  dsimp only
  split
  · split <;> simp
  · rfl

@[simp] theorem control_completeItem (s : State) (lt u n kind : Nat) (st : Status) (progress : Nat) :
    control (completeItem s lt u n kind st progress) = control s := by
  simp [completeItem]

@[simp] theorem control_giveUp (s : State) (lt : Nat) (r : SendReq) : control (giveUp s lt r) = control s := by
  unfold giveUp
  extract_lets s1
  have h1 : control s1 = control s := by unfold s1; split <;> rfl
  split <;> simp [h1]

@[simp] theorem control_endDma (s : State) (lt : Nat) (i : DmaItem) (st : Status) (check : Nat) : control (endDma s lt i st check) = control s := by
  simp [endDma, apply_ite control]

@[simp] theorem control_endRtu (s : State) (lt : Nat) (i : RtuItem) (st : Status) : control (endRtu s lt i st) = control s := by
  simp [endRtu, apply_ite control]

@[simp] theorem control_endXact (s : State) (lt slot : Nat) (x : Xact) (st : Status) : control (endXact s lt slot x st) = control s := by
  simp [endXact, apply_ite control]

/-! ### Engines that halt -/

theorem control_dmaHalt (s : State) (lt : Nat) : control (dmaHalt s lt) = control s := by
  unfold dmaHalt
  extract_lets mine s1
  have h1 : control s1 = control s := foldl_keeps control (fun x p => by split <;> simp [apply_ite control]) _ _
  rw [foldl_keeps control (fun x i => control_endDma x lt i _ _), h1]

theorem control_chHalt (s : State) (lt : Nat) : control (chHalt s lt) = control s := by
  unfold chHalt
  refine foldl_keeps control (fun x p => ?_) _ _
  rw [control_endXact]
  refine foldl_keeps control (fun y r => ?_) _ _
  split
  · simp
  · split <;> simp

theorem control_skHalt (s : State) (lt : Nat) : control (skHalt s lt) = control s := by
  unfold skHalt
  split
  · split
    · simp [endSk, modSk]
    · rfl
  · rfl

theorem haltKept_dropSample (s : State) (lt handle : Nat) : HaltKept s (dropSample s lt handle) :=
  { HaltKept.refl s with
    fatalHalt := fun r => by
      simp only [dropSample, State.modRegion, State.region, kvGet_kvSet]
      split
      · next h => rw [h]
      · rfl }

theorem haltKept_meComplete (s : State) (lt : Nat) (i : MeItem) (st : Status) (prog : Nat) : HaltKept s (meComplete s lt i st prog) := by
  unfold meComplete
  extract_lets s1 s2
  have h0 : HaltKept s (if i.sample.isSome then dropSample s lt i.handle else s) := by
    split
    · exact haltKept_dropSample s lt _
    · exact HaltKept.refl s
  have h2 : HaltKept s s2 := h0.trans (haltKept_of_control (by simp [s2, s1]))
  split
  · exact h2.trans (haltKept_of_control (by simp))
  · exact h2

theorem haltKept_meStop (s : State) (lt : Nat) (st : Status) : HaltKept s (meStop s lt st) := by
  have hall : ∀ v st', HaltKept v (completeAll v lt st') := fun v st' => HaltKept.foldl (fun x i => haltKept_meComplete x lt i _ _) _ _
  have hsettle : ∀ v, HaltKept v (settleStop v lt) := fun v => by
    unfold settleStop
    split
    · next st' _ =>
      split
      · exact (hall v st').trans (haltKept_of_control (by simp [apply_ite control]))
      · exact HaltKept.refl v
    · exact HaltKept.refl v
  unfold meStop
  extract_lets s1
  have h1 : HaltKept s s1 := haltKept_of_control (by simp [s1, apply_ite control])
  exact (h1.trans (haltKept_of_control (by simp))).trans (hsettle _)

/-! ### Memory accesses that find errors -/

theorem haltKept_eccCorrect (s : State) (lt w : Nat) : HaltKept s (eccCorrect s lt w) := by
  unfold eccCorrect
  extract_lets s1 s2
  exact (haltKept_of_control rfl : HaltKept s s2).trans (reported_reportCE _ _ _ _).haltKept

theorem haltKept_eccUncorr (s : State) (lt w : Nat) : HaltKept s (eccUncorr s lt w) := by
  unfold eccUncorr
  extract_lets s1 e e1 s2 s3
  exact (haltKept_of_control rfl : HaltKept s s3).trans (reported_reportUE _ _ _ _ _).haltKept

theorem haltKept_touchRead (s : State) (lt w : Nat) : HaltKept s (touchRead s lt w).1 := by
  unfold touchRead
  split
  · exact HaltKept.refl s
  · split
    · exact haltKept_eccUncorr s lt w
    · split
      · exact haltKept_eccCorrect s lt w
      · exact HaltKept.refl s

theorem haltKept_touchReads (s : State) (lt : Nat) (ws : List Nat) : HaltKept s (touchReads s lt ws).1 := by
  induction ws generalizing s with
  | nil => exact HaltKept.refl s
  | cons w r ih =>
    have hw := haltKept_touchRead s lt w
    unfold touchReads
    split
    · next s1 h => rw [h] at hw; exact hw.trans (ih s1)
    · next s1 st h => rw [h] at hw; exact hw

theorem haltKept_touchWrite (s : State) (lt off n w : Nat) : HaltKept s (touchWrite s lt off n w).1 := by
  unfold touchWrite
  split
  · exact HaltKept.refl s
  · exact haltKept_touchRead s lt w

theorem haltKept_touchWrites (s : State) (lt off n : Nat) (ws : List Nat) : HaltKept s (touchWrites s lt off n ws).1 := by
  induction ws generalizing s with
  | nil => exact HaltKept.refl s
  | cons w r ih =>
    have hw := haltKept_touchWrite s lt off n w
    unfold touchWrites
    split
    · next s1 h => rw [h] at hw; exact hw.trans (ih s1)
    · next s1 st h => rw [h] at hw; exact hw

theorem haltKept_memReadBy (loc : Bool) (s : State) (lt off n : Nat) : HaltKept s (memReadBy loc s lt off n).1 := by
  have hw := haltKept_touchReads s lt (wordsOf off n)
  unfold memReadBy
  split
  · exact HaltKept.refl s
  · split
    · next s1 st h => rw [h] at hw; exact hw
    · next s1 h => rw [h] at hw; exact hw.trans (haltKept_of_control (by simp))

theorem haltKept_memWriteBy (loc : Bool) (s : State) (lt off : Nat) (bs : List Byte) : HaltKept s (memWriteBy loc s lt off bs).1 := by
  have hw := haltKept_touchWrites s lt off bs.length (wordsOf off bs.length)
  unfold memWriteBy
  split
  · exact HaltKept.refl s
  · split
    · next s1 st h => rw [h] at hw; exact hw
    · next s1 h => rw [h] at hw; exact hw.trans (haltKept_of_control (by simp))

/-! ### The Routing Unit -/

theorem haltKept_andThen {α β : Type} {s : State} {r : Try α} {f : State → α → Try β} (hr : HaltKept s r.1)
    (hf : ∀ v a, HaltKept v (f v a).1) : HaltKept s (andThen r f).1 := by
  obtain ⟨v, e | a⟩ := r
  · exact hr
  · exact hr.trans (hf v a)

theorem haltKept_tryRead (s : State) (lt off n : Nat) : HaltKept s (tryRead s lt off n).1 := by
  have hr := haltKept_memReadBy false s lt off n
  unfold tryRead memRead
  split
  · next s1 e h => rw [h] at hr; exact hr
  · next s1 bs h => rw [h] at hr; exact hr

theorem haltKept_tryNat (s : State) (lt off n : Nat) : HaltKept s (tryNat s lt off n).1 :=
  haltKept_andThen (haltKept_tryRead s lt off n) (fun v _ => HaltKept.refl v)

theorem haltKept_tryWrite (s : State) (lt off : Nat) (bs : List Byte) : HaltKept s (tryWrite s lt off bs).1 := by
  have hw := haltKept_memWriteBy false s lt off bs
  unfold tryWrite memWrite
  split
  · next s1 e h => rw [h] at hw; exact hw
  · next s1 h => rw [h] at hw; exact hw

theorem haltKept_failAsg (s : State) (lt : Nat) (b : Block) (num pos : Nat) (st : Status) : HaltKept s (failAsg s lt b num pos st).1 := by
  unfold failAsg
  refine haltKept_andThen (haltKept_tryWrite s lt _ _) (fun s1 _ => haltKept_andThen (haltKept_tryNat s1 lt _ _) (fun s2 n =>
    haltKept_andThen (haltKept_tryWrite s2 lt _ _) (fun s3 _ => haltKept_andThen (haltKept_tryNat s3 lt _ _) (fun s4 first => ?_))))
  split
  · exact haltKept_tryWrite s4 lt _ _
  · exact HaltKept.refl s4

theorem haltKept_rtuHalt (s : State) (lt : Nat) : HaltKept s (rtuHalt s lt) := by
  unfold rtuHalt
  extract_lets mine s1
  have h1 : HaltKept s s1 := by
    refine HaltKept.foldl (fun x p => ?_) _ _
    extract_lets pos x1
    have hx1 : HaltKept x x1 := by
      unfold x1
      split
      · exact haltKept_failAsg x lt _ _ _ _
      · exact HaltKept.refl x
    split
    · exact hx1.trans (haltKept_of_control (by simp [apply_ite control]))
    · exact hx1.trans (haltKept_of_control (by simp))
  exact h1.trans (HaltKept.foldl (fun x i => haltKept_of_control (control_endRtu x lt _ _)) _ _)

/-! ### The halt of a region -/

theorem haltKept_haltTileUnits (s : State) (lt : Nat) : HaltKept s (haltTileUnits s lt) := by
  unfold haltTileUnits
  extract_lets s0
  have h0 : HaltKept s s0 := haltKept_of_control rfl
  have hchannels : ∀ v, HaltKept v (chHalt v lt) := fun v => haltKept_of_control (control_chHalt v lt)
  have hdma : ∀ v, HaltKept v (dmaHalt v lt) := fun v => haltKept_of_control (control_dmaHalt v lt)
  have hsketch : ∀ v, HaltKept v (skHalt v lt) := fun v => haltKept_of_control (control_skHalt v lt)
  exact ((((h0.trans (haltKept_meStop s0 lt _)).trans (haltKept_rtuHalt _ lt)).trans (hdma _)).trans (hchannels _)).trans (hsketch _)

end Sys2Proof.Machine
end

section
/-!
O53: targeted tests, controllers, the Sketchbook, full tests, security versions.
-/
namespace Sys2Proof.Machine

open Sys2Proof

/-! ### A controller that takes a FATAL -/

theorem State.region_modRegion (s : State) (r : Nat) (g : Region → Region) (x : Nat) :
    (s.modRegion r g).region x = if x = r then g (s.region r) else s.region x := by
  simp [State.modRegion, State.region, kvGet_kvSet]

theorem setRfld_reloading (s : State) (r off hi lo v f : Nat) : ((setRfld s r off hi lo v).fc f).reloading = (s.fc f).reloading := by
  rw [setRfld, State.setFfld, State.setFreg, State.fc_modFc]
  split
  · next h => rw [h]
  · rfl

/-- STATE of a region after its field of PWR_REG_STATE is set, and another field of the same register. -/
theorem regionState_setRegionState (s : State) (r v : Nat) (hv : v < 8) (w : Nat) :
    regionState (setRfld (setRegionState s r v) r regPwrRegState 14 8 w) r = v := by
  simp only [regionState, setRegionState, setRfld, State.ffld, State.setFfld, State.freg_setFreg, and_self, if_true]
  rw [fld_setFld_of_disjoint _ w (by decide) (Or.inl (by decide)), fld_setFld_same _ (by decide) hv]

/-- A region halt sets STATE to 3, and keeps what the marks of a FATAL say. -/
theorem startHalt_halts (s : State) (r : Nat) :
    regionState (startHalt s r) r = 3 ∧ (∀ f, ((startHalt s r).fc f).reloading = (s.fc f).reloading) ∧
      (∀ x, ((startHalt s r).region x).fatalHalt = (s.region x).fatalHalt) ∧ s.haltGroups ⊆ (startHalt s r).haltGroups := by
  unfold startHalt
  extract_lets s1
  have hkept : HaltKept (setRfld s1 r regPwrRegState 14 8 16) ((regionTiles s1 r).foldl haltTileUnits (setRfld s1 r regPwrRegState 14 8 16)) :=
    HaltKept.foldl haltKept_haltTileUnits _ _
  refine ⟨?_, fun f => ?_, fun x => ?_, hkept.haltGroups⟩
  · rw [hkept.regionState]
    exact regionState_setRegionState _ r 3 (by decide) 16
  · rw [hkept.reloading, setRfld_reloading]
    exact setRfld_reloading _ r _ _ _ _ f
  · rw [hkept.fatalHalt]
    show ((s.modRegion r (fun g => { g with ramp := none })).region x).fatalHalt = (s.region x).fatalHalt
    rw [State.region_modRegion]
    split
    · next h => rw [h]
    · rfl

/-- Groups that are halted one after another are all to be halted, and nothing else of control changes. -/
theorem foldl_haltGroup (gs : List Nat) (s : State) :
    (gs.foldl haltGroup s).fcs = s.fcs ∧ (gs.foldl haltGroup s).regions = s.regions ∧ s.haltGroups ⊆ (gs.foldl haltGroup s).haltGroups ∧
      ∀ g ∈ gs, g ∈ (gs.foldl haltGroup s).haltGroups := by
  induction gs generalizing s with
  | nil => exact ⟨rfl, rfl, List.Subset.refl _, fun g hg => absurd hg List.not_mem_nil⟩
  | cons a r ih =>
    obtain ⟨hfcs, hregions, hsub, hall⟩ := ih (haltGroup s a)
    have hone := isolated_haltGroup s a
    refine ⟨hfcs.trans hone.fcs, hregions.trans hone.regions, List.Subset.trans hone.haltGroups hsub, fun g hg => ?_⟩
    rcases List.mem_cons.mp hg with rfl | hr
    · exact hsub (mem_haltGroup s g)
    · exact hall g hr

/-- The state in which a region bears the mark of a FATAL and the groups of its tiles are to be halted (18, R426). -/
def fatalMarked (s : State) (r : Nat) : State :=
  let s3 := s.modRegion r (fun g => { g with fatalHalt := true })
  (((regionTiles s3 r).map (groupOfTile s3)).eraseDups).foldl haltGroup s3

theorem fatalMarked_marks (s : State) (r : Nat) :
    (fatalMarked s r).fcs = s.fcs ∧ ((fatalMarked s r).region r).fatalHalt = true ∧
      ∀ lt ∈ regionTiles s r, groupOfTile s lt ∈ (fatalMarked s r).haltGroups := by
  obtain ⟨hfcs, hregions, -, hall⟩ := foldl_haltGroup
    (((regionTiles s r).map (groupOfTile s)).eraseDups) (s.modRegion r (fun g => { g with fatalHalt := true }))
  refine ⟨hfcs, ?_, fun lt hlt => hall _ (List.mem_eraseDups.mpr (List.mem_map_of_mem hlt))⟩
  have hregion : (fatalMarked s r).region r = (s.modRegion r (fun g => { g with fatalHalt := true })).region r :=
    congrArg (fun m => kvGet Region.reset m r) hregions
  rw [hregion, State.region_modRegion, if_pos rfl]

/-- A controller's FATAL, on a state in which the error is logged and the controller reloads: the marks, and the halt of a region that runs. -/
def fatalEnds (s : State) (r : Nat) : State :=
  if regionState s r = 5 then s
  else if regionState (fatalMarked s r) r < 3 then startHalt (fatalMarked s r) r else fatalMarked s r

theorem exec_fieldControllerFatal {f : Nat} (hf : f < 60) (s : State) :
    exec (.fieldControllerFatal f) s =
      .next (fatalEnds ((logBoth s f ⟨9, noPt, f⟩ 3 0 0 0).modFc f (fun c => { c with reloading := true })) (regionOfField f)) := by
  show execFieldControllerFatal f s = _
  simp only [execFieldControllerFatal, onFc, hf, if_true]
  rfl

theorem fatalEnds_halts (s : State) (r : Nat) :
    (∀ f, ((fatalEnds s r).fc f).reloading = (s.fc f).reloading) ∧
      (regionState s r < 3 → regionState (fatalEnds s r) r = 3) ∧ (3 ≤ regionState s r → regionState (fatalEnds s r) r = regionState s r) ∧
      (regionState s r ≠ 5 → ((fatalEnds s r).region r).fatalHalt = true ∧
        ∀ lt ∈ regionTiles s r, groupOfTile s lt ∈ (fatalEnds s r).haltGroups) := by
  obtain ⟨hfcs, hfatal, hgroups⟩ := fatalMarked_marks s r
  have hstate : regionState (fatalMarked s r) r = regionState s r := by
    simp only [regionState, State.ffld, State.freg, State.fc, hfcs]
  have hreload : ∀ f, ((fatalMarked s r).fc f).reloading = (s.fc f).reloading := fun f => by rw [State.fc, State.fc, hfcs]
  unfold fatalEnds
  rw [hstate]
  split
  · next h5 => exact ⟨fun _ => rfl, fun h3 => by omega, fun _ => rfl, fun hne => absurd h5 hne⟩
  · split
    · next h3 =>
      obtain ⟨hthree, hreload', hfatal', hsub⟩ := startHalt_halts (fatalMarked s r) r
      exact ⟨fun f => (hreload' f).trans (hreload f), fun _ => hthree, fun hge => by omega,
        fun _ => ⟨(hfatal' r).trans hfatal, fun lt hlt => hsub (hgroups lt hlt)⟩⟩
    · next h3 => exact ⟨hreload, fun hlt => absurd hlt h3, fun _ => hstate, fun _ => ⟨hfatal, hgroups⟩⟩

/-- FIELD_CONTROLLER_FATAL halts the region, marks the groups of its tiles, and the controller reloads (18, R426). -/
theorem fieldControllerFatal_halts (s : State) {f : Nat} (hf : f < 60) :
    ∃ t, exec (.fieldControllerFatal f) s = .next t ∧ (t.fc f).reloading = true ∧
      (regionState s (regionOfField f) < 3 → regionState t (regionOfField f) = 3) ∧
      (3 ≤ regionState s (regionOfField f) → regionState t (regionOfField f) = regionState s (regionOfField f)) ∧
      (regionState s (regionOfField f) ≠ 5 → (t.region (regionOfField f)).fatalHalt = true ∧
        ∀ lt ∈ regionTiles s (regionOfField f), t.haltGroups.contains (groupOfTile s lt) = true) := by
  have hlog := noted_logBoth s f ⟨9, noPt, f⟩ 3 0 0 0
  refine ⟨_, exec_fieldControllerFatal hf s, ?_⟩
  generalize regionOfField f = r
  generalize logBoth s f ⟨9, noPt, f⟩ 3 0 0 0 = v at hlog ⊢
  obtain ⟨hreload, hruns, hstands, hmarks⟩ := fatalEnds_halts (v.modFc f (fun c => { c with reloading := true })) r
  have hstate : regionState (v.modFc f (fun c => { c with reloading := true })) r = regionState s r := by
    simp only [regionState, State.ffld]
    rw [State.freg_modFc v f (by rfl), hlog.reported.power]
  have htiles : regionTiles (v.modFc f (fun c => { c with reloading := true })) r = regionTiles s r := by
    simp only [regionTiles, State.modFc_gesso, hlog.gesso]
  rw [hstate] at hruns hstands hmarks
  rw [htiles] at hmarks
  refine ⟨by rw [hreload, State.fc_modFc_same], hruns, hstands, fun h5 => ⟨(hmarks h5).1, fun lt hlt => ?_⟩⟩
  have hgroup : groupOfTile (v.modFc f (fun c => { c with reloading := true })) lt = groupOfTile s lt := by
    simp only [groupOfTile, State.modFc_tileGroups, hlog.tileGroups]
  have hmem := (hmarks h5).2 lt hlt
  rw [hgroup] at hmem
  simpa using hmem

end Sys2Proof.Machine
end

section
/-!
O53: targeted tests that start and that end (18, R430 to R435).
-/
namespace Sys2Proof.Machine

open Sys2Proof

/-! ### Links and routers under test -/

theorem putBack_mesh_only (s : State) (u : UnitId) : ∃ m, putBack s u = { s with mesh := m } := by
  unfold putBack
  split
  · exact ⟨_, rfl⟩
  · split
    · exact ⟨_, rfl⟩
    · exact ⟨s.mesh, rfl⟩

theorem takeOut_mesh_only (s : State) (u : UnitId) : ∃ m, takeOut s u = { s with mesh := m } := by
  unfold takeOut
  split
  · exact ⟨_, rfl⟩
  · split
    · exact ⟨_, rfl⟩
    · exact ⟨s.mesh, rfl⟩

/-- `t` is `s` but for its map and networks and the tiles that are out of use: the queues of tests, histories and logs of controllers and their
registers, tile memory and the marks of tiles stand. -/
structure TestKept (s t : State) : Prop where
  tests : ∀ f, (t.fc f).tests = (s.fc f).tests
  history : ∀ f, (t.fc f).history = (s.fc f).history
  log : ∀ f, (t.fc f).log = (s.fc f).log
  freg : ∀ f off, off ≠ regSkbLost → t.freg f off = s.freg f off
  mem : ∀ lt, (t.tile lt).mem = (s.tile lt).mem
  status : ∀ lt i, s.tbit lt regRasTileStatus i = true → t.tbit lt regRasTileStatus i = true

theorem TestKept.trans {s t u : State} (h : TestKept s t) (k : TestKept t u) : TestKept s u where
  tests f := (k.tests f).trans (h.tests f)
  history f := (k.history f).trans (h.history f)
  log f := (k.log f).trans (h.log f)
  freg f off ho := (k.freg f off ho).trans (h.freg f off ho)
  mem lt := (k.mem lt).trans (h.mem lt)
  status lt i hi := k.status lt i (h.status lt i hi)

theorem Found.testKept {s t : State} (h : Found s t) : TestKept s t := { h with }

theorem testKept_mesh (s : State) (m : Mesh) : TestKept s { s with mesh := m } :=
  ⟨fun _ => rfl, fun _ => rfl, fun _ => rfl, fun _ _ _ => rfl, fun _ => rfl, fun _ _ h => h⟩

theorem testKept_putBack (s : State) (u : UnitId) : TestKept s (putBack s u) := by
  obtain ⟨m, hm⟩ := putBack_mesh_only s u
  exact hm ▸ testKept_mesh s m

theorem testKept_takeOut (s : State) (u : UnitId) : TestKept s (takeOut s u) := by
  obtain ⟨m, hm⟩ := takeOut_mesh_only s u
  exact hm ▸ testKept_mesh s m

theorem testKept_routeUnit (s : State) (u : UnitId) (out : Bool) : TestKept s (routeUnit s u out) := by
  unfold routeUnit
  split
  · refine TestKept.trans ?_ (isolated_startEpoch _).found.testKept
    split
    · exact testKept_takeOut s u
    · exact testKept_putBack s u
  · exact (Found.refl s).testKept

@[simp] theorem putBack_gesso (s : State) (u : UnitId) : (putBack s u).gesso = s.gesso := by
  obtain ⟨m, hm⟩ := putBack_mesh_only s u
  rw [hm]

@[simp] theorem putBack_mc (s : State) (u : UnitId) : (putBack s u).mc = s.mc := by
  obtain ⟨m, hm⟩ := putBack_mesh_only s u
  rw [hm]

@[simp] theorem takeOut_gesso (s : State) (u : UnitId) : (takeOut s u).gesso = s.gesso := by
  obtain ⟨m, hm⟩ := takeOut_mesh_only s u
  rw [hm]

@[simp] theorem routeUnit_gesso (s : State) (u : UnitId) (out : Bool) : (routeUnit s u out).gesso = s.gesso := by
  unfold routeUnit
  split
  · rw [startEpoch_gesso]; split <;> simp
  · rfl

theorem routeUnit_takes_link (s : State) {u : UnitId} (h : u.kind = 4) : linkKey u.pt u.num ∈ (routeUnit s u true).mesh.outLinks := by
  simp [routeUnit, h, startEpoch_mesh, takeOut, modMesh]

theorem routeUnit_takes_router (s : State) {u : UnitId} (h : u.kind = 5) : (u.pt, u.num) ∈ (routeUnit s u true).mesh.outRouters := by
  simp [routeUnit, h, startEpoch_mesh, takeOut, modMesh]

theorem routeUnit_returns_link (s : State) {u : UnitId} (h : u.kind = 4) : linkKey u.pt u.num ∉ (routeUnit s u false).mesh.outLinks := by
  simp [routeUnit, h, startEpoch_mesh, putBack, modMesh]

/-! ### A test that starts -/

/-- A test that waits in a queue is marked as running, and the queue keeps its length. -/
theorem markRunning_any {u : UnitId} {l : List TestJob} {j : TestJob} (hj : j ∈ l) (hu : j.unit = u) (hr : j.running = false)
    (hd : j.deferred = false) : (markRunning u l).any (fun k => k.running && k.unit == u) = true := by
  induction l with
  | nil => exact absurd hj List.not_mem_nil
  | cons a r ih =>
    unfold markRunning
    split
    · next h =>
      simp only [Bool.and_eq_true, beq_iff_eq] at h
      simp [h.1.1]
    · next h =>
      rcases List.mem_cons.mp hj with rfl | hr'
      · simp [hu, hr, hd] at h
      · simp [ih hr']

theorem length_markRunning (u : UnitId) (l : List TestJob) : (markRunning u l).length = l.length := by
  induction l with
  | nil => rfl
  | cons a r ih => unfold markRunning; split <;> simp [ih]

/-- The next test waits in the queue of its controller. -/
theorem nextTest_waits {c : Fc} {j : TestJob} (h : nextTest c = some j) : j ∈ c.tests ∧ j.running = false ∧ j.deferred = false := by
  have hp := List.find?_some h
  simp only [Bool.and_eq_true, Bool.not_eq_true'] at hp
  exact ⟨List.mem_of_find?_eq_some h, hp.1.1, hp.1.2⟩

/-- The state in which the test of a unit runs: it is marked, its tile shows TESTING, and a link or a router is out of routing. -/
def testRuns (s : State) (f : Nat) (u : UnitId) : State :=
  setTesting (routeUnit (s.modFc f (fun c => { c with tests := markRunning u c.tests })) u true) u.pt true

section Start
variable {f : Nat} (hf : f < 60) {s : State}
include hf

theorem exec_testStart_of_reloading (h : (s.fc f).reloading = true) : exec (.testStart f) s = .next s := by
  show execTestStart f s = _
  simp only [execTestStart, onFc, hf, h, if_true]

theorem exec_testStart_of_none (h : nextTest (s.fc f) = none) : exec (.testStart f) s = .next s := by
  show execTestStart f s = _
  simp only [execTestStart, onFc, hf, h, if_true, ite_self]

theorem exec_testStart_of_some {j : TestJob} (hrun : (s.fc f).reloading = false) (h : nextTest (s.fc f) = some j) :
    exec (.testStart f) s = .next (testRuns s f j.unit) := by
  show execTestStart f s = _
  simp only [execTestStart, onFc, hf, hrun, h, if_true, Bool.false_eq_true, if_false]
  rfl

end Start

theorem setTesting_marks {s : State} {pt lt : Nat} (h : ltOfPt s pt = some lt) : (setTesting s pt true).tbit lt regRasTileStatus 19 = true := by
  simp only [setTesting, onRasTile_of_some h, State.tbit, State.treg_setTreg, and_self, if_true]
  exact bit_setBit_same _ true (by decide)

theorem ltOfPt_of_gesso {s t : State} (h : t.gesso = s.gesso) (pt : Nat) : ltOfPt t pt = ltOfPt s pt := by
  simp only [ltOfPt, allTiles, ltCount, ptOf, h]

theorem testRuns_fc (s : State) (f : Nat) (u : UnitId) : ((testRuns s f u).fc f).tests = markRunning u (s.fc f).tests := by
  have hroute := (testKept_routeUnit (s.modFc f (fun c => { c with tests := markRunning u c.tests })) u true).tests f
  rw [State.fc_modFc_same] at hroute
  rw [testRuns, setTesting, State.fc, onRasTile_fcs]
  exact hroute

theorem testRuns_mem (s : State) (f : Nat) (u : UnitId) : sameMemory s (testRuns s f u) := fun lt a => by
  rw [testRuns, setTesting, onRasTile_mem, (testKept_routeUnit _ u true).mem]
  rfl

theorem testRuns_mesh (s : State) (f : Nat) (u : UnitId) :
    (testRuns s f u).mesh = (routeUnit (s.modFc f (fun c => { c with tests := markRunning u c.tests })) u true).mesh :=
  onRasTile_mesh _ _ _

theorem testRuns_testing {s : State} {u : UnitId} {lt : Nat} (f : Nat) (h : ltOfPt s u.pt = some lt) :
    (testRuns s f u).tbit lt regRasTileStatus 19 = true := by
  refine setTesting_marks ?_
  rw [ltOfPt_of_gesso (routeUnit_gesso _ u true)]
  exact h

/-! ### A test that ends -/

/-- An entry with the sequence number that a controller's log gives it, and the time (Table 18.2). -/
def stamped (s : State) (f : Nat) (e : LogEnt) : LogEnt := { e with seq := (s.freg f regRasLogHead).toNat, aon := s.aon % 2 ^ 48 }

/-- An entry goes to a controller's log that has room (18, R428). -/
theorem logAppend_of_room {s : State} {f : Nat} (e : LogEnt)
    (hroom : ((s.freg f regRasLogHead).toNat + 2 ^ 32 - (s.freg f regRasLogTail).toNat) % 2 ^ 32 < 64) :
    logAppend s (.fc f) e =
      (s.modFc f (fun c => { c with log := kvSet (s.fc f).log ((s.freg f regRasLogHead).toNat % 64) (stamped s f e) })).setFreg f
        regRasLogHead (s.freg f regRasLogHead + 1) := by
  have hcopy : ∀ e', eventCopy s (.fc f) e' = s := fun e' => rfl
  have hnext : BitVec.ofNat 32 ((s.freg f regRasLogHead).toNat + 1) = s.freg f regRasLogHead + 1 := by
    simp [BitVec.ofNat_add]
  simp only [logAppend, hcopy, rget, logSize, hroom, if_true, hnext]
  rfl

section Ended
variable (s : State) (f : Nat) (j : TestJob) (out dur : Nat)

/-- The entry that tells of a test's end (18, R433). -/
def resultEntry : LogEnt :=
  logEnt 0 j.unit.kind j.unit.pt j.unit.num 0 out (ceNow s f j.unit) (j.seq % 2 ^ 32 + dur % 2 ^ 32 * 2 ^ 32)

/-- The state in which a test's end is logged and recorded, before its tile is told. -/
def testLogged : State :=
  skbEvent (logAppend s (.fc f) (resultEntry s f j out dur)) (.fc f) 0x02
    [j.seq, j.unit.kind + out * 2 ^ 8 + j.unit.pt * 2 ^ 16, j.unit.num, dur]

theorem noted_testLogged : Noted [f] s (testLogged s f j out dur) :=
  (noted_logAppend s (.fc f) _ (List.mem_singleton_self f)).trans (noted_skbEvent [f] _ _ _ _)

theorem testEnded_eq : testEnded s f j out dur = markTests (testLogged s f j out dur) j.unit (out != 8) := rfl

@[simp] theorem testEnded_fc (x : Nat) : (testEnded s f j out dur).fc x = (testLogged s f j out dur).fc x := by
  simp [testEnded_eq, markTests, State.fc]

@[simp] theorem testEnded_freg (x o : Nat) : (testEnded s f j out dur).freg x o = (testLogged s f j out dur).freg x o := by
  rw [State.freg, testEnded_fc, State.freg]

@[simp] theorem testEnded_gesso : (testEnded s f j out dur).gesso = s.gesso := by
  rw [testEnded_eq, markTests, onRasTile_gesso, (noted_testLogged s f j out dur).gesso]

@[simp] theorem testEnded_mem (x : Nat) : ((testEnded s f j out dur).tile x).mem = (s.tile x).mem := by
  rw [testEnded_eq, markTests, onRasTile_mem, (noted_testLogged s f j out dur).mem]

theorem testEnded_bootCount : (testEnded s f j out dur).mreg regMgtBootCount = s.mreg regMgtBootCount := by
  rw [← (noted_testLogged s f j out dur).bootCount, State.mreg, State.mreg, testEnded_eq, markTests, onRasTile_mc]

/-- A test that has ended is shown by ST_DONE of its tile. -/
theorem testEnded_done {lt : Nat} (hlt : ltOfPt s j.unit.pt = some lt) (hout : out ≠ 8) :
    (testEnded s f j out dur).tbit lt regRasTileStatus 17 = true := by
  have hlt' : ltOfPt (testLogged s f j out dur) j.unit.pt = some lt := by
    rw [ltOfPt_of_gesso (noted_testLogged s f j out dur).gesso, hlt]
  have hended : (out != 8) = true := by simpa using hout
  simp only [testEnded_eq, markTests, onRasTile_of_some hlt', hended, if_true, State.tbit, State.treg_setTreg, and_self]
  rw [bit_setBit_ne _ _ (by decide) (by decide), bit_setBit_same _ true (by decide)]

/-- Where the log has room, it takes the entry and HEAD advances. -/
theorem testEnded_log (hroom : ((s.freg f regRasLogHead).toNat + 2 ^ 32 - (s.freg f regRasLogTail).toNat) % 2 ^ 32 < 64) :
    (testEnded s f j out dur).freg f regRasLogHead = s.freg f regRasLogHead + 1 ∧
      kvFind ((testEnded s f j out dur).fc f).log ((s.freg f regRasLogHead).toNat % 64) =
        some (stamped s f (resultEntry s f j out dur)) := by
  have hevent := noted_skbEvent [] (logAppend s (.fc f) (resultEntry s f j out dur)) (.fc f) 0x02
    [j.seq, j.unit.kind + out * 2 ^ 8 + j.unit.pt * 2 ^ 16, j.unit.num, dur]
  rw [testEnded_freg, testEnded_fc, testLogged, hevent.log f List.not_mem_nil,
    hevent.freg f _ (by decide) (fun hf => absurd hf List.not_mem_nil), logAppend_of_room _ hroom]
  refine ⟨by simp, ?_⟩
  simp [State.setFreg]

end Ended

/-! ### The end of a test, as a whole -/

/-- A controller whose test of a unit has ended: it is off the queue, and one that passed is in the history (18, R433). -/
def testOff (u : UnitId) (pass : Bool) (now : Nat) (c : Fc) : Fc :=
  { c with
    tests := c.tests.filter (fun k => !(k.unit == u && k.running))
    history := if pass then addTransient c.history u now else c.history }

/-- OUTCOME of a test (18, R433). -/
def testOutcome (s : State) (f : Nat) (u : UnitId) (pass : Bool) : Nat := if pass then transientOutcome (s.fc f).history u s.aon else 3

theorem transientOutcome_cases (h : List (UnitId × Nat)) (u : UnitId) (now : Nat) : transientOutcome h u now = 2 ∨ transientOutcome h u now = 4 := by
  unfold transientOutcome
  dsimp only
  split
  · exact Or.inr rfl
  · exact Or.inl rfl

theorem testOutcome_ne (s : State) (f : Nat) (u : UnitId) (pass : Bool) : testOutcome s f u pass ≠ 8 := by
  cases pass
  · simp [testOutcome]
  · rcases transientOutcome_cases (s.fc f).history u s.aon with h | h <;> simp [testOutcome, h]

/-- The state in which a test has ended, before its unit returns to routing or becomes lasting. -/
def testTold (s : State) (f : Nat) (j : TestJob) (pass : Bool) : State :=
  testEnded (s.modFc f (testOff j.unit pass s.aon)) f j (testOutcome s f j.unit pass) (testCycles j.unit.kind)

theorem testDone_eq (s : State) (f : Nat) (j : TestJob) (pass : Bool) (lane : Option Nat) :
    testDone s f j pass lane =
      if testOutcome s f j.unit pass = 2 then routeUnit (testTold s f j pass) j.unit false
      else putBack (makeLasting (testTold s f j pass) j.unit lane (testOutcome s f j.unit pass)) j.unit := rfl

/-- What follows a test's end keeps what the end has told. -/
theorem testKept_testDone (s : State) (f : Nat) (j : TestJob) (pass : Bool) (lane : Option Nat) :
    TestKept (testTold s f j pass) (testDone s f j pass lane) := by
  rw [testDone_eq]
  split
  · exact testKept_routeUnit _ _ _
  · exact (found_makeLasting _ _ _ _).testKept.trans (testKept_putBack _ _)

theorem exec_testDone {f : Nat} (hf : f < 60) {s : State} {kind pt num : Nat} {j : TestJob} (pass : Bool) (lanes lane : Nat)
    (hj : (s.fc f).tests.find? (fun k => k.running && k.unit == ⟨kind, pt, num⟩) = some j) :
    exec (.testDone f kind pt num pass lanes lane) s = .next (testDone s f j pass (if lanes = 1 then some lane else none)) := by
  show execTestDone f kind pt num pass lanes lane s = _
  simp only [execTestDone, onFc, hf, hj, if_true]

section Told
variable (s : State) (f : Nat) (j : TestJob) (pass : Bool)

theorem testTold_tests : ((testTold s f j pass).fc f).tests = (s.fc f).tests.filter (fun k => !(k.unit == j.unit && k.running)) := by
  rw [testTold, testEnded_fc, (noted_testLogged _ f j _ _).tests, State.fc_modFc_same, testOff]

theorem testTold_history :
    ((testTold s f j pass).fc f).history = if pass then addTransient (s.fc f).history j.unit s.aon else (s.fc f).history := by
  rw [testTold, testEnded_fc, (noted_testLogged _ f j _ _).history, State.fc_modFc_same, testOff]

theorem testTold_mem (x : Nat) : ((testTold s f j pass).tile x).mem = (s.tile x).mem := by
  rw [testTold, testEnded_mem, State.modFc_tile]

theorem testTold_gesso : (testTold s f j pass).gesso = s.gesso := by
  rw [testTold, testEnded_gesso, State.modFc_gesso]

theorem testTold_bootCount : (testTold s f j pass).mreg regMgtBootCount = s.mreg regMgtBootCount := by
  rw [testTold, testEnded_bootCount, State.modFc_mreg]

theorem testTold_done {lt : Nat} (hlt : ltOfPt s j.unit.pt = some lt) : (testTold s f j pass).tbit lt regRasTileStatus 17 = true :=
  testEnded_done _ f j _ _ hlt (testOutcome_ne s f j.unit pass)

/-- The RESULT entry: class 0, the unit, its outcome, the entry that started the test and the cycles that it took (18, R433). -/
theorem testTold_log (hroom : ((s.freg f regRasLogHead).toNat + 2 ^ 32 - (s.freg f regRasLogTail).toNat) % 2 ^ 32 < 64) :
    (testTold s f j pass).freg f regRasLogHead = s.freg f regRasLogHead + 1 ∧
      ∃ e, kvFind ((testTold s f j pass).fc f).log ((s.freg f regRasLogHead).toNat % 64) = some e ∧ e.cls = 0 ∧ e.unitKind = j.unit.kind ∧
        e.pt = j.unit.pt ∧ e.outcome = testOutcome s f j.unit pass ∧ e.seq = (s.freg f regRasLogHead).toNat ∧
        e.detail = j.seq % 2 ^ 32 + testCycles j.unit.kind % 2 ^ 32 * 2 ^ 32 := by
  have hfreg : ∀ o, (s.modFc f (testOff j.unit pass s.aon)).freg f o = s.freg f o := fun o => State.freg_modFc s f (by rfl) f o
  have hlog := testEnded_log (s.modFc f (testOff j.unit pass s.aon)) f j (testOutcome s f j.unit pass) (testCycles j.unit.kind)
    (by rw [hfreg, hfreg]; exact hroom)
  rw [hfreg] at hlog
  exact ⟨hlog.1, _, hlog.2, rfl, rfl, rfl, rfl, by rw [stamped, hfreg], rfl⟩

end Told

/-- A lane repair of a lasting unit is one of a link of the Bulk Mesh or a Neighbour link (Table 2.6). -/
theorem lastingEntry_repair {u : UnitId} {lane : Option Nat} {pt a0 a1 : Nat} (he : lastingEntry u lane = some (5, pt, a0, a1)) :
    a0 % 16 < 2 := by
  unfold lastingEntry at he
  split at he
  case h_4 =>
    split at he
    · split at he
      · next hnum =>
        cases he
        exact hnum
      · simp at he
    · simp at he
  all_goals simp at he

/-- The pending entry of a lasting unit is taken as the test names it. -/
theorem pendingEntry_of_lasting {s : State} {u : UnitId} {lane : Option Nat} {e : Nat × Nat × Nat × Nat} (he : lastingEntry u lane = some e) :
    pendingEntry s e.1 e.2.1 e.2.2.1 e.2.2.2 false =
      ⟨e.1, true, false, false, e.2.1, e.2.2.1, e.2.2.2, (s.mreg regMgtBootCount).toNat⟩ := by
  have hrepair : ¬ (e.1 = 5 ∧ 2 ≤ e.2.2.1 % 16) := by
    rintro ⟨h5, h2⟩
    have hlt : e.2.2.1 % 16 < 2 := lastingEntry_repair (h5 ▸ he : lastingEntry u lane = some (5, e.2))
    omega
  simp only [pendingEntry, hrepair, if_false]

/-- A test that fails makes its unit a pending entry, or the module fails. -/
theorem testDone_lasting (s : State) (f : Nat) (j : TestJob) {lane : Option Nat} {e : Nat × Nat × Nat × Nat}
    (he : lastingEntry j.unit lane = some e) :
    (testDone s f j false lane).gesso.entries =
        s.gesso.entries ++ [⟨e.1, true, false, false, e.2.1, e.2.2.1, e.2.2.2, (s.mreg regMgtBootCount).toNat⟩] ∨
      ((testDone s f j false lane).gesso.entries = s.gesso.entries ∧ mapFailed (testDone s f j false lane)) := by
  have hdone : testDone s f j false lane = putBack (makeLasting (testTold s f j false) j.unit lane 3) j.unit := rfl
  have hlast : makeLasting (testTold s f j false) j.unit lane 3 = gessoFinding (testTold s f j false) e.1 e.2.1 e.2.2.1 e.2.2.2 false := by
    simp only [makeLasting, he]
    rfl
  have hfinding := gessoFinding_entries (testTold s f j false) e.1 e.2.1 e.2.2.1 e.2.2.2 false
  rw [pendingEntry_of_lasting he, testTold_gesso, testTold_bootCount] at hfinding
  rw [hdone, hlast, putBack_gesso]
  refine hfinding.imp id (fun h => ⟨h.1, ?_, ?_⟩)
  · rw [putBack_gesso]; exact h.2.1
  · rw [State.mfld, State.mreg, putBack_mc]; exact h.2.2

/-- A test that passes as a transient one changes no entry of the map and returns its link to routing. -/
theorem testDone_transient {s : State} {f : Nat} {j : TestJob} {pass : Bool} (lane : Option Nat) (h : testOutcome s f j.unit pass = 2) :
    (testDone s f j pass lane).gesso = s.gesso ∧
      (j.unit.kind = 4 → linkKey j.unit.pt j.unit.num ∉ (testDone s f j pass lane).mesh.outLinks) := by
  rw [testDone_eq, if_pos h]
  exact ⟨(routeUnit_gesso _ _ _).trans (testTold_gesso s f j pass), routeUnit_returns_link _⟩

end Sys2Proof.Machine
end

section
/-!
O53: the Sketchbook, full tests, security versions, and the statement as a whole.
-/
namespace Sys2Proof.Machine

open Sys2Proof

theorem Noted.sameMemory {F : List Nat} {s t : State} (h : Noted F s t) : sameMemory s t := fun lt a => by rw [h.mem]

/-! ### Recorders -/

@[simp] theorem recorderOf_setRecorder (s : State) (tg : Target) (r : Recorder) : recorderOf (setRecorder s tg r) tg = r := by
  cases tg <;> simp [recorderOf, setRecorder]

@[simp] theorem recorderOf_rset (s : State) (tg : Target) (off : Nat) (v : Word) : recorderOf (rset s tg off v) tg = recorderOf s tg := by
  cases tg <;> simp [recorderOf, rset, State.setFreg, State.setMreg]

@[simp] theorem rget_rset_same (s : State) (tg : Target) (off : Nat) (v : Word) : rget (rset s tg off v) tg off = v := by
  cases tg <;> simp [rget, rset]

/-- A trigger that is taken, or lost, is counted. -/
theorem skbQueue_fired (s : State) (tg : Target) (id : Nat) (words : List Word) :
    kvGet 0 (recorderOf (skbQueue s tg id words) tg).fired id = min 65535 (kvGet 0 (recorderOf s tg).fired id + 1) := by
  unfold skbQueue
  dsimp only
  split
  · simp [rsetFld, satInc_16]
  · split <;> simp [rsetFld, satInc_16]

/-- A programmable trigger that fires is counted, and no byte of memory changes. -/
theorem skbProg_counts (s : State) (tg : Target) (n : Nat) :
    kvGet 0 (recorderOf (skbProg s tg n) tg).fired (0x40 + n) = min 65535 (kvGet 0 (recorderOf s tg).fired (0x40 + n) + 1) ∧
      sameMemory s (skbProg s tg n) :=
  ⟨skbQueue_fired s tg _ _, (noted_skbProg [] s tg n).sameMemory⟩

section Recorder
variable {s : State} {sel : BitVec 12} {tg : Target} (htg : targetOf s sel.toNat = some tg)
include htg

theorem exec_skbTrigger_tile (n : BitVec 4) {lt : Nat} (hlt : tg = .tile lt) :
    exec (.skbTrigger sel n) s = .next (if bit (rget s tg (regSkbTrig n.toNat)) 0 && fld (rget s tg (regSkbTrig n.toNat)) 2 1 == 1 &&
      intPending s lt (fld (rget s tg (regSkbTrig n.toNat)) 15 8) then skbProg s tg n.toNat else s) := by
  subst hlt
  show execSkbTrigger sel n s = _
  simp only [execSkbTrigger, onRecorder, htg]

theorem exec_skbFire {lv : Level} (n : BitVec 4) (hlv : lv ≠ .u) :
    exec (.skbFire sel lv n) s = .next (accessReply (skbFire s tg n.toNat) stOk 0) := by
  show execSkbFire sel lv n s = _
  simp only [execSkbFire, htg, hlv, if_false]

theorem exec_skbFire_user (n : BitVec 4) : exec (.skbFire sel .u n) s = .next (accessReply s stProtFault 0) := by
  show execSkbFire sel .u n s = _
  simp only [execSkbFire, htg, if_true]

theorem exec_skbRecordWrite : exec (.skbRecordWrite sel) s = .next (skbWrite s tg) := by
  show execSkbRecordWrite sel s = _
  simp only [execSkbRecordWrite, onRecorder, htg]

end Recorder

/-- The record that a taken trigger becomes (Table 18.4). -/
def recordOf (seq : Nat) (x : SkbTake) : SkbRec :=
  { header := BitVec.ofNat 32 (1 + x.id * 2 ^ 8 + x.count * 2 ^ 16), seq := seq, aon := x.aon, cycle := x.cycle, words := x.words }

theorem recordOf_id (seq : Nat) (x : SkbTake) : fld (recordOf seq x).header 15 8 = x.id % 256 := by
  simp only [fld, recordOf, BitVec.toNat_ofNat]
  omega

theorem skbWrite_of_cons {s : State} {tg : Target} {x : SkbTake} {rest : List SkbTake} (h : (recorderOf s tg).queue = x :: rest) :
    skbWrite s tg = rset (setRecorder s tg { recorderOf s tg with
      queue := rest
      recs := kvSet (recorderOf s tg).recs ((rget s tg regSkbHead).toNat % recorderSize tg) (recordOf (rget s tg regSkbHead).toNat x) }) tg
        regSkbHead (BitVec.ofNat 32 ((rget s tg regSkbHead).toNat + 1)) := by
  simp only [skbWrite, h]
  rfl

theorem mem_rset (s : State) (tg : Target) (off : Nat) (v : Word) (lt : Nat) : ((rset s tg off v).tile lt).mem = (s.tile lt).mem := by
  cases tg with
  | tile x => exact State.setTreg_tile_mem s x off v lt
  | fc f => rfl
  | mc => rfl

/-! ### Full tests -/

theorem sameMemory_of_tiles {s t : State} (h : t.tiles = s.tiles) : sameMemory s t := fun lt a => by rw [State.tile, State.tile, h]

/-- Findings become pending entries in their order, but for those that could not be written, with which the module fails (02, R48). -/
theorem addFindings_entries (fs : List Finding) (s : State) :
    Found s (addFindings s fs) ∧
      ∃ es : List MapEnt, (addFindings s fs).gesso.entries = s.gesso.entries ++ es ∧
        es.Sublist (fs.map (fun f => pendingEntry s f.typ f.pt f.arg0 f.arg1 false)) ∧
        (es.length < fs.length → (addFindings s fs).gesso.failed = true) := by
  induction fs generalizing s with
  | nil => exact ⟨Found.refl s, [], by simp [addFindings], List.Sublist.refl _, fun h => absurd h (lt_irrefl _)⟩
  | cons a r ih =>
    have hone := found_gessoFinding s a.typ a.pt a.arg0 a.arg1 false
    obtain ⟨hrest, es, hes, hsub, hfail⟩ := ih (gessoFinding s a.typ a.pt a.arg0 a.arg1 false)
    have hcons : addFindings s (a :: r) = addFindings (gessoFinding s a.typ a.pt a.arg0 a.arg1 false) r := rfl
    simp only [pendingEntry_of_bootCount hone.bootCount] at hsub
    rw [hcons]
    refine ⟨hone.trans hrest, ?_⟩
    rcases gessoFinding_entries s a.typ a.pt a.arg0 a.arg1 false with hnew | ⟨hold, hfailed, -⟩
    · refine ⟨pendingEntry s a.typ a.pt a.arg0 a.arg1 false :: es, by rw [hes, hnew, List.append_assoc, List.singleton_append], ?_, fun h => ?_⟩
      · exact hsub.cons_cons _
      · exact hfail (by simpa using h)
    · exact ⟨es, by rw [hes, hold], hsub.cons _, fun _ => hrest.failed hfailed⟩

/-! ### Security version floors -/

/-- A floor rises to the version of its stage that runs, up to 64 steps, and never falls (19, R446; log entry 46). -/
theorem commitSvn_floor (s : State) {n : Nat} (hn : n < 3) :
    (commitSvn s).flash.floors.getD n 0 = max (s.flash.floors.getD n 0) (match kvFind s.sec.running (n + 1) with
      | some c => min 64 (kvGet FwCopy.shipped s.flash.fw c).svn
      | none => 0) := by
  interval_cases n <;> rfl

/-! ### The clauses -/

/-- The first test whose unit is not under test starts (18, R430, R432). -/
theorem testStart_starts {s : State} {f : Nat} (hf : f < 60) (hrun : (s.fc f).reloading = false) {j : TestJob}
    (hj : nextTest (s.fc f) = some j) :
    ∃ t, exec (.testStart f) s = .next t ∧ (t.fc f).tests.any (fun k => k.running && k.unit == j.unit) = true ∧
      (t.fc f).tests.length = (s.fc f).tests.length ∧ sameMemory s t ∧
      (∀ lt, ltOfPt s j.unit.pt = some lt → t.tbit lt regRasTileStatus 19 = true) ∧
      (j.unit.kind = 4 → t.mesh.outLinks.contains (linkKey j.unit.pt j.unit.num) = true) ∧
      (j.unit.kind = 5 → t.mesh.outRouters.contains (j.unit.pt, j.unit.num) = true) := by
  obtain ⟨hmem, hidle, hnow⟩ := nextTest_waits hj
  refine ⟨_, exec_testStart_of_some hf hrun hj, ?_, ?_, testRuns_mem s f j.unit, fun lt hlt => testRuns_testing f hlt, fun h4 => ?_, fun h5 => ?_⟩
  · rw [testRuns_fc]; exact markRunning_any hmem rfl hidle hnow
  · rw [testRuns_fc, length_markRunning]
  · rw [testRuns_mesh]; simpa using routeUnit_takes_link (s.modFc f (fun c => { c with tests := markRunning j.unit c.tests })) h4
  · rw [testRuns_mesh]; simpa using routeUnit_takes_router (s.modFc f (fun c => { c with tests := markRunning j.unit c.tests })) h5

/-- A running test ends: it is off the queue and logged, and its unit is lasting or a transient one (18, R433, R435). -/
theorem testDone_ends {s : State} {f : Nat} (hf : f < 60) (kind pt num lanes lane : Nat) (pass : Bool) {j : TestJob}
    (hj : (s.fc f).tests.find? (fun k => k.running && k.unit == ⟨kind, pt, num⟩) = some j) :
    let u : UnitId := ⟨kind, pt, num⟩
    let out := if pass then transientOutcome (s.fc f).history u s.aon else 3
    let head := s.freg f regRasLogHead
    ∃ t, exec (.testDone f kind pt num pass lanes lane) s = .next t ∧ (∀ k ∈ (t.fc f).tests, ¬ (k.running = true ∧ k.unit = u)) ∧
      (t.fc f).history = (if pass then addTransient (s.fc f).history u s.aon else (s.fc f).history) ∧ sameMemory s t ∧
      (∀ lt, ltOfPt s pt = some lt → t.tbit lt regRasTileStatus 17 = true) ∧
      ((head.toNat + 2 ^ 32 - (s.freg f regRasLogTail).toNat) % 2 ^ 32 < 64 →
        t.freg f regRasLogHead = head + 1 ∧ ∃ e, kvFind (t.fc f).log (head.toNat % 64) = some e ∧ e.cls = 0 ∧ e.unitKind = kind ∧ e.pt = pt ∧
          e.outcome = out ∧ e.seq = head.toNat ∧ e.detail = j.seq % 2 ^ 32 + testCycles kind % 2 ^ 32 * 2 ^ 32) ∧
      (∀ e, pass = false → lastingEntry u (if lanes = 1 then some lane else none) = some e → s.gesso.entries.length < 4096 →
        t.gesso.entries = s.gesso.entries ++ [⟨e.1, true, false, false, e.2.1, e.2.2.1, e.2.2.2, (s.mreg regMgtBootCount).toNat⟩] ∨
        (t.gesso.entries = s.gesso.entries ∧ t.gesso.failed = true ∧ t.mfld regMgtBootStatus 6 6 = 1)) ∧
      (pass = true → out = 2 → t.gesso.entries = s.gesso.entries ∧ (kind = 4 → t.mesh.outLinks.contains (linkKey pt num) = false)) := by
  intro u out head
  have hunit : j.unit = u := by
    have hp := List.find?_some hj
    simp only [Bool.and_eq_true, beq_iff_eq] at hp
    exact hp.2
  refine ⟨_, exec_testDone hf pass lanes lane hj, ?_⟩
  generalize (if lanes = 1 then some lane else none) = group
  have hkept := testKept_testDone s f j pass group
  refine ⟨fun k hk => ?_, ?_, fun lt a => ?_, fun lt hlt => ?_, fun hroom => ?_, fun e hfails he _ => ?_, fun _ hout => ?_⟩
  · rw [hkept.tests, testTold_tests, hunit, List.mem_filter] at hk
    rintro ⟨hrun, hku⟩
    simp [hrun, hku] at hk
  · rw [hkept.history, testTold_history, hunit]
  · rw [hkept.mem, testTold_mem]
  · exact hkept.status lt 17 (testTold_done s f j pass (by rw [hunit]; exact hlt))
  · rw [hkept.freg f _ (by decide), hkept.log]
    have hlog := testTold_log s f j pass hroom
    rw [hunit] at hlog
    exact hlog
  · subst hfails
    exact testDone_lasting s f j (by rw [hunit]; exact he)
  · obtain ⟨hmap, hlink⟩ := testDone_transient group (show testOutcome s f j.unit pass = 2 by rw [hunit]; exact hout)
    rw [hunit] at hlink
    exact ⟨by rw [hmap], fun h4 => by simpa using hlink h4⟩

/-- The next queued record is written under its sequence number (18, R437, R438). -/
theorem skbRecordWrite_writes {s : State} {sel : BitVec 12} {tg : Target} (htg : targetOf s sel.toNat = some tg) {x : SkbTake}
    {rest : List SkbTake} (hqueue : (recorderOf s tg).queue = x :: rest) :
    let seq := (rget s tg regSkbHead).toNat
    ∃ t e, exec (.skbRecordWrite sel) s = .next t ∧ (recorderOf t tg).queue = rest ∧ rget t tg regSkbHead = BitVec.ofNat 32 (seq + 1) ∧
      kvFind (recorderOf t tg).recs (seq % recorderSize tg) = some e ∧ e.seq = seq ∧ e.words = x.words ∧ e.aon = x.aon ∧
      fld e.header 15 8 = x.id % 256 ∧ sameMemory s t := by
  intro seq
  refine ⟨_, recordOf seq x, exec_skbRecordWrite htg, ?_⟩
  rw [skbWrite_of_cons hqueue]
  refine ⟨by simp, by simp [seq], by simp [seq], rfl, rfl, rfl, recordOf_id seq x, fun lt a => ?_⟩
  rw [mem_rset, (noted_setRecorder [] s tg _).mem]

/-- A full test whose findings are given ends, and they become pending entries (02, R48, R50). -/
theorem fullTestDone_finds {s : State} (fs : List Finding) (hbusy : s.gesso.fullBusy = true) :
    ∃ t, exec (.fullTestDone fs) s = .next t ∧ t.gesso.fullBusy = false ∧ sameMemory s t ∧
      ∃ es : List MapEnt, t.gesso.entries = s.gesso.entries ++ es ∧ es.Sublist (fs.map (fun f => pendingEntry s f.typ f.pt f.arg0 f.arg1 false)) ∧
        (es.length < fs.length → t.gesso.failed = true) := by
  have hexec : exec (.fullTestDone fs) s = .next (addFindings { s with gesso := { s.gesso with fullBusy := false } } fs) := by
    show execFullTestDone fs s = _
    simp only [execFullTestDone, hbusy, if_true]
  obtain ⟨hfound, hentries⟩ := addFindings_entries fs { s with gesso := { s.gesso with fullBusy := false } }
  exact ⟨_, hexec, hfound.fullBusy, fun lt a => by rw [hfound.mem]; rfl, hentries⟩

/-- A full test is refused while a job is loaded (02, R50). -/
theorem fullTest_of_jobLoaded {s : State} (h : jobLoaded s = true) : (fullTest s).mfld regMgtGessoCtrl 2 2 = 1 := by
  simp only [fullTest, h, if_true]
  exact State.mfld_setMfld_same s regMgtGessoCtrl (by decide) (by decide)

/-! ### The statement -/

/-- Settles O53, clause by clause: tests and controllers, the Sketchbook, the full tests and the registers of the Management Complex. -/
theorem testsAndRecords : Obligations.TestsAndRecords := by
  unfold Obligations.TestsAndRecords
  refine ⟨fun s f hf => ⟨fun hrun => ⟨exec_testStart_of_none hf, fun j hj => testStart_starts hf hrun hj⟩, exec_testStart_of_reloading hf,
    fun kind pt num lanes lane pass j hj => testDone_ends hf kind pt num lanes lane pass hj, ?_, fieldControllerFatal_halts s hf⟩,
    fun s sel n tg htg => ⟨fun lt hlt => ⟨fun hen hkind hint => ?_, fun hno => ?_⟩, fun lv hlv => ⟨fun hen hkind => ?_, fun hno => ?_⟩,
      exec_skbFire_user htg n, fun x rest hqueue => skbRecordWrite_writes htg hqueue⟩,
    fun s => ⟨rfl, rfl, fun hjob => ?_, fun hjob => ?_, fun fs hbusy _ => fullTestDone_finds fs hbusy, fun fs hidle => ?_, rfl, rfl, ?_,
      fun lv hlv => ?_, rfl⟩⟩
  · refine ⟨s.modFc f (fun c => { c with reloading := false }), ?_, by simp, rfl⟩
    show execFcFirmwareReloadDone f s = _
    simp only [execFcFirmwareReloadDone, onFc, hf, if_true]
  · refine ⟨_, exec_skbTrigger_tile htg n hlt, ?_⟩
    simp only [hen, hkind, hint, beq_self_eq_true, Bool.and_self, if_true]
    exact skbProg_counts s tg n.toNat
  · rw [exec_skbTrigger_tile htg n hlt, if_neg]
    simp only [Bool.and_eq_true, beq_iff_eq]
    rintro ⟨⟨hen, hkind⟩, hint⟩
    rcases hno with h | h | h
    · simp [h] at hen
    · exact h hkind
    · simp [h] at hint
  · refine ⟨_, exec_skbFire htg n hlv, ?_⟩
    simp only [skbFire, hen, hkind, beq_self_eq_true, Bool.and_self, if_true]
    exact skbProg_counts s tg n.toNat
  · rw [exec_skbFire htg n hlv, skbFire, if_neg]
    simp only [Bool.and_eq_true, beq_iff_eq]
    rintro ⟨hen, hkind⟩
    rcases hno with h | h
    · simp [h] at hen
    · exact h hkind
  · refine ⟨accessReply (fullTest s) stOk 0, rfl, fullTest_of_jobLoaded hjob, ?_, ?_⟩
    all_goals simp only [accessReply, fullTest, hjob, if_true]; rfl
  · refine ⟨accessReply (fullTest s) stOk 0, rfl, ?_, ?_, ?_⟩
    all_goals simp only [accessReply, fullTest, hjob, Bool.false_eq_true, if_false]
  · show execFullTestDone fs s = _
    simp only [execFullTestDone, hidle, Bool.false_eq_true, if_false]
  · refine ⟨accessReply (commitSvn s) stOk 0, rfl, rfl, fun n hn => ?_⟩
    show s.flash.floors.getD n 0 ≤ (commitSvn s).flash.floors.getD n 0 ∧ _
    rw [show (accessReply (commitSvn s) stOk 0).flash = (commitSvn s).flash from rfl, commitSvn_floor s hn]
    exact ⟨le_max_left _ _, fun hnone => by rw [hnone]; exact Nat.max_zero _, fun c hc => by rw [hc]⟩
  · refine ⟨accessReply { s with sec := { s.sec with unlockHi := wordAt s.sec.unlockCtr.toNat 1 } } stOk (wordAt s.sec.unlockCtr.toNat 0),
      ?_, rfl, rfl, rfl⟩
    show execSecUnlockCtrLoRead lv s = _
    simp only [execSecUnlockCtrLoRead, hlv, if_false]

end Sys2Proof.Machine
end

section
/-!
SUPPORT. Tiles and registers after one of them is written, and the fields of a register that a value too wide is cut to.
-/
namespace Sys2Proof.Machine

open Sys2Proof

/-! ### Observations of a tile -/

/-- What an update of one tile leaves of it, it leaves of every tile. -/
theorem State.tile_modTile_keeps {β : Type} (o : Tile → β) {s : State} {lt : Nat} {g : Tile → Tile} (h : o (g (s.tile lt)) = o (s.tile lt))
    (x : Nat) : o ((s.modTile lt g).tile x) = o (s.tile x) := by
  rw [State.tile_modTile]
  split
  · next hx => rw [h, hx]
  · rfl

/-- An update that leaves the registers of its tile leaves every register word. -/
theorem State.treg_modTile {s : State} {lt : Nat} {g : Tile → Tile} (h : (g (s.tile lt)).regs = (s.tile lt).regs) (x off : Nat) :
    (s.modTile lt g).treg x off = s.treg x off :=
  congrArg (RegFile.get tileRows · off) (State.tile_modTile_keeps Tile.regs h x)

theorem State.treg_of_regs {s t : State} {x : Nat} (h : (t.tile x).regs = (s.tile x).regs) (off : Nat) : t.treg x off = s.treg x off := by
  rw [State.treg, State.treg, h]

/-! ### Fields -/

/-- A field that is set holds the value, cut to the width of the field. -/
theorem fld_setFld {n : Nat} (w : BitVec n) {hi lo : Nat} (v : Nat) (hhi : hi < n) : fld (setFld w hi lo v) hi lo = v % 2 ^ (hi + 1 - lo) := by
  have hcut : setFld w hi lo v = setFld w hi lo (v % 2 ^ (hi + 1 - lo)) := by simp [setFld]
  rw [hcut, fld_setFld_same w hhi (Nat.mod_lt _ (Nat.two_pow_pos _))]

theorem fld_lt {n : Nat} (w : BitVec n) (hi lo : Nat) : fld w hi lo < 2 ^ (hi + 1 - lo) := Nat.mod_lt _ (Nat.two_pow_pos _)

theorem State.tfld_lt (s : State) (lt off hi lo : Nat) : s.tfld lt off hi lo < 2 ^ (hi + 1 - lo) := fld_lt _ _ _

theorem State.tfld_setTfld (s : State) (lt off : Nat) {hi lo : Nat} (v : Nat) (hhi : hi < 32) :
    (s.setTfld lt off hi lo v).tfld lt off hi lo = v % 2 ^ (hi + 1 - lo) := by
  simp [State.tfld, State.setTfld, fld_setFld _ v hhi]

theorem State.tfld_setTfld_off_ne (s : State) (lt hi lo v : Nat) {off o : Nat} (x hi' lo' : Nat) (h : o ≠ off) :
    (s.setTfld lt off hi lo v).tfld x o hi' lo' = s.tfld x o hi' lo' := by
  rw [State.tfld, State.treg_setTfld_off_ne _ _ _ _ _ _ h, State.tfld]

theorem State.treg_setTbit_off_ne (s : State) (lt i : Nat) (b : Bool) {off o : Nat} (x : Nat) (h : o ≠ off) :
    (s.setTbit lt off i b).treg x o = s.treg x o := State.treg_setTfld_off_ne s lt i i _ x h

theorem State.tbit_setTbit_same (s : State) (lt off : Nat) {i : Nat} (b : Bool) (hi : i < 32) : (s.setTbit lt off i b).tbit lt off i = b := by
  have h := bit_setBit_same (s.treg lt off) b hi
  cases b <;> simpa [State.tbit, State.setTbit, State.setTfld, setBit, b2n] using h

theorem State.tbit_setTbit_ne (s : State) (lt off : Nat) {i j : Nat} (b : Bool) (x : Nat) (hj : j < 32) (h : j ≠ i) :
    (s.setTbit lt off i b).tbit x off j = s.tbit x off j := by
  have hbit := bit_setBit_ne (s.treg lt off) b hj h
  by_cases hx : x = lt
  · subst hx
    cases b <;> simpa [State.tbit, State.setTbit, State.setTfld, setBit, b2n] using hbit
  · simp [State.tbit, State.setTbit, State.setTfld, State.treg_setTreg, hx]

end Sys2Proof.Machine
end

section
/-!
O12: the counters of a Bolt.
-/
namespace Sys2Proof.Machine

open Sys2Proof

/-! ### What the operations of a Bolt leave of its tile -/

/-- An observation of a tile that sees neither its registers nor what stands behind its Bolts. -/
structure BoltBlind {β : Type} (o : Tile → β) : Prop where
  regs : ∀ t r, o { t with regs := r } = o t
  window : ∀ t w, o { t with window := w } = o t
  ovfMsgs : ∀ t l, o { t with ovfMsgs := l } = o t

section Blind
variable {β : Type} {o : Tile → β} (ho : BoltBlind o) (s : State) (lt b x : Nat)
include ho

theorem BoltBlind.setTfld (off hi lo v : Nat) : o ((s.setTfld lt off hi lo v).tile x) = o (s.tile x) :=
  State.tile_modTile_keeps o (ho.regs _ _) x

theorem BoltBlind.setTbit (off i : Nat) (v : Bool) : o ((s.setTbit lt off i v).tile x) = o (s.tile x) := ho.setTfld s lt x off i i _

theorem BoltBlind.setWindow (w : List Resv) : o ((setWindow s lt b w).tile x) = o (s.tile x) :=
  State.tile_modTile_keeps o (ho.window _ _) x

theorem BoltBlind.setOvfMsgs (l : List OvfMsg) : o ((setOvfMsgs s lt b l).tile x) = o (s.tile x) :=
  State.tile_modTile_keeps o (ho.ovfMsgs _ _) x

theorem BoltBlind.boltAdvance : o ((boltAdvance s lt b).tile x) = o (s.tile x) := by
  unfold Machine.boltAdvance
  extract_lets y s1 s2
  have h2 : o (s2.tile x) = o (s.tile x) := (ho.setTfld s1 lt x _ _ _ _).trans (ho.setWindow s lt b x _)
  split
  · exact (ho.setTbit s2 lt x _ _ _).trans h2
  · exact h2

theorem BoltBlind.boltTake (k : Nat) : o ((boltTake s lt b k).tile x) = o (s.tile x) :=
  (ho.setTfld _ lt x _ _ _ _).trans (ho.setWindow s lt b x _)

theorem BoltBlind.boltLand (start : Nat) (notify : Bool) : o ((boltLand s lt b start notify).tile x) = o (s.tile x) :=
  (ho.boltAdvance _ lt b x).trans (ho.setWindow s lt b x _)

theorem BoltBlind.trimOvf : o ((trimOvf s lt b).tile x) = o (s.tile x) := by
  unfold Machine.trimOvf
  split
  · rfl
  · exact ho.setOvfMsgs s lt b x _

theorem BoltBlind.boltRelease (k : Nat) : o ((boltRelease s lt b k).tile x) = o (s.tile x) :=
  (ho.trimOvf _ lt b x).trans (ho.setTfld s lt x _ _ _ _)

end Blind

theorem boltBlind_mem : BoltBlind Tile.mem := ⟨fun _ _ => rfl, fun _ _ => rfl, fun _ _ => rfl⟩

/-! ### What they leave of its registers -/

@[simp] theorem treg_setWindow (s : State) (lt b : Nat) (w : List Resv) (x off : Nat) : (setWindow s lt b w).treg x off = s.treg x off :=
  State.treg_modTile rfl x off

@[simp] theorem treg_setOvfMsgs (s : State) (lt b : Nat) (l : List OvfMsg) (x off : Nat) : (setOvfMsgs s lt b l).treg x off = s.treg x off :=
  State.treg_modTile rfl x off

@[simp] theorem treg_trimOvf (s : State) (lt b x off : Nat) : (trimOvf s lt b).treg x off = s.treg x off := by
  unfold trimOvf
  split
  · rfl
  · exact treg_setOvfMsgs s lt b _ x off

@[simp] theorem boltWindow_setWindow (s : State) (lt b : Nat) (w : List Resv) : boltWindow (setWindow s lt b w) lt b = w := by
  simp [boltWindow, setWindow]

theorem treg_boltTake (s : State) (lt b k x : Nat) {off : Nat} (h : off ≠ regBoltReserve b) : (boltTake s lt b k).treg x off = s.treg x off :=
  (State.treg_setTfld_off_ne _ lt _ _ _ x h).trans (treg_setWindow s lt b _ x off)

theorem treg_boltRelease (s : State) (lt b k x : Nat) {off : Nat} (h : off ≠ regBoltHead b) :
    (boltRelease s lt b k).treg x off = s.treg x off :=
  (treg_trimOvf _ lt b x off).trans (State.treg_setTfld_off_ne s lt _ _ _ x h)

theorem treg_boltAdvance (s : State) (lt b x : Nat) {off : Nat} (hcommit : off ≠ regBoltCommit b) (hstatus : off ≠ regChStatus) :
    (boltAdvance s lt b).treg x off = s.treg x off := by
  unfold boltAdvance
  extract_lets y s1 s2
  have h2 : s2.treg x off = s.treg x off := (State.treg_setTfld_off_ne s1 lt _ _ _ x hcommit).trans (treg_setWindow s lt b _ x off)
  split
  · exact (State.treg_setTbit_off_ne s2 lt _ _ x hstatus).trans h2
  · exact h2

theorem treg_boltLand (s : State) (lt b start x : Nat) (notify : Bool) {off : Nat} (hcommit : off ≠ regBoltCommit b) (hstatus : off ≠ regChStatus) :
    (boltLand s lt b start notify).treg x off = s.treg x off :=
  (treg_boltAdvance _ lt b x hcommit hstatus).trans (treg_setWindow s lt b _ x off)

/-! ### The counters -/

theorem boltMod_pos (s : State) (lt b : Nat) : 0 < boltMod s lt b := by
  have h : 0 < boltSlots (boltCfg s lt b) := Nat.two_pow_pos _
  simp only [boltMod]; omega

/-- What retires from the front of a window: its longest run of reservations that have landed (R70). -/
theorem retireFront_eq (w : List Resv) :
    (retireFront w).1 = ((w.takeWhile (fun r => r.landed)).map (fun r => r.slots)).sum ∧
      (retireFront w).2.2 = w.dropWhile (fun r => r.landed) := by
  induction w with
  | nil => exact ⟨rfl, rfl⟩
  | cons r rest ih =>
    obtain ⟨hslots, hrest⟩ := ih
    cases hr : r.landed <;> simp [retireFront, hr, hslots, hrest]

section Counters
variable (s : State) (lt b : Nat) (hmod : boltMod s lt b ≤ 2 ^ 20)
include hmod

/-- A counter below the modulus of its Bolt fits its register. -/
theorem tfld_setTfld_counter (t : State) (off v : Nat) :
    (t.setTfld lt off 19 0 (v % boltMod s lt b)).tfld lt off 19 0 = v % boltMod s lt b :=
  State.tfld_setTfld_same t lt off (by decide) (lt_of_lt_of_le (Nat.mod_lt v (boltMod_pos s lt b)) hmod)

theorem boltCommit_boltAdvance (hb : b < 64) :
    boltCommit (boltAdvance s lt b) lt b =
      (boltCommit s lt b + (((boltWindow s lt b).takeWhile (fun r => r.landed)).map (fun r => r.slots)).sum) % boltMod s lt b := by
  rw [← (retireFront_eq _).1]
  have hne : regBoltCommit b ≠ regChStatus := by simp only [regBoltCommit, regChStatus]; omega
  unfold boltAdvance
  extract_lets y s1 s2
  have h2 : boltCommit s2 lt b = (boltCommit s lt b + y.1) % boltMod s lt b := tfld_setTfld_counter s lt b hmod s1 _ _
  split
  · rw [← h2, boltCommit, boltCommit, State.tfld, State.treg_setTbit_off_ne s2 lt _ _ lt hne, State.tfld]
  · exact h2

theorem boltReserve_boltTake (k : Nat) : boltReserve (boltTake s lt b k) lt b = (boltReserve s lt b + k) % boltMod s lt b :=
  tfld_setTfld_counter s lt b hmod _ _ _

theorem boltHead_boltRelease (k : Nat) : boltHead (boltRelease s lt b k) lt b = (boltHead s lt b + k) % boltMod s lt b := by
  rw [← tfld_setTfld_counter s lt b hmod s (regBoltHead b), boltHead, State.tfld, boltRelease, treg_trimOvf, ← State.tfld]

end Counters

theorem boltWindow_boltAdvance (s : State) (lt b : Nat) :
    boltWindow (boltAdvance s lt b) lt b = (boltWindow s lt b).dropWhile (fun r => r.landed) := by
  rw [← (retireFront_eq _).2]
  unfold boltAdvance
  extract_lets y s1 s2
  have h2 : boltWindow s2 lt b = y.2.2 := by
    rw [boltWindow, State.setTfld_tile_window]; exact boltWindow_setWindow s lt b _
  split
  · rw [boltWindow, State.setTbit_tile_window]; exact h2
  · exact h2

theorem boltWindow_boltTake (s : State) (lt b k : Nat) :
    boltWindow (boltTake s lt b k) lt b = boltWindow s lt b ++ [⟨boltReserve s lt b, k, false, false⟩] := by
  rw [boltWindow, boltTake, State.setTfld_tile_window]; exact boltWindow_setWindow s lt b _

theorem boltWindow_boltRelease (s : State) (lt b k : Nat) : boltWindow (boltRelease s lt b k) lt b = boltWindow s lt b := by
  have htrim : ∀ u, ((trimOvf u lt b).tile lt).window = (u.tile lt).window := fun u => by
    unfold trimOvf
    split
    · rfl
    · simp [setOvfMsgs]
  rw [boltWindow, boltRelease, htrim, State.setTfld_tile_window, boltWindow]

/-! ### The statement -/

/-- Settles O12: each operation writes one of the three counters, and the window and the other two counters by the lemmas above. -/
theorem boltCounters : Obligations.BoltCounters := by
  unfold Obligations.BoltCounters
  intro s lt b k hb hmod
  obtain ⟨hch, hcr, hhr⟩ : regBoltCommit b ≠ regBoltHead b ∧ regBoltCommit b ≠ regBoltReserve b ∧ regBoltHead b ≠ regBoltReserve b := by
    simp only [regBoltHead, regBoltCommit, regBoltReserve]; omega
  obtain ⟨hhs, hrs⟩ : regBoltHead b ≠ regChStatus ∧ regBoltReserve b ≠ regChStatus := by
    simp only [regBoltHead, regBoltReserve, regChStatus]; omega
  have hmem : ∀ {t : State}, (∀ x, (t.tile x).mem = (s.tile x).mem) → sameMemory s t := fun h x a => by rw [h]
  refine ⟨⟨boltCommit_boltAdvance s lt b hmod hb, boltWindow_boltAdvance s lt b, ?_, ?_⟩,
    ⟨boltReserve_boltTake s lt b hmod k, ?_, ?_, boltWindow_boltTake s lt b k⟩,
    ⟨boltHead_boltRelease s lt b hmod k, ?_, ?_, boltWindow_boltRelease s lt b k⟩,
    hmem (boltBlind_mem.boltAdvance s lt b), hmem fun x => boltBlind_mem.boltTake s lt b x k, hmem fun x => boltBlind_mem.boltRelease s lt b x k⟩
  · exact congrArg (fld · 19 0) (treg_boltAdvance s lt b lt hch.symm hhs)
  · exact congrArg (fld · 19 0) (treg_boltAdvance s lt b lt hcr.symm hrs)
  · exact congrArg (fld · 19 0) (treg_boltTake s lt b k lt hhr)
  · exact congrArg (fld · 19 0) (treg_boltTake s lt b k lt hcr)
  · exact congrArg (fld · 19 0) (treg_boltRelease s lt b k lt hch)
  · exact congrArg (fld · 19 0) (treg_boltRelease s lt b k lt hhr.symm)

end Sys2Proof.Machine
end

section
/-!
SUPPORT. Accesses to tile memory that meets no fault.
-/
namespace Sys2Proof.Machine

open Sys2Proof

/-- A word that can be reached and is in no error (03, R63, R66). -/
def wordFine (s : State) (lt w : Nat) : Prop := wordBlocked s lt w = none ∧ wordErr s lt w = 0

theorem healthy_iff (s : State) (lt off n : Nat) :
    healthy s lt off n = true ↔ regionRefuses s lt = false ∧ ∀ w ∈ wordsOf off n, wordFine s lt w := by
  simp [healthy, wordFine, List.all_eq_true]

theorem touchRead_of_fine {s : State} {lt w : Nat} (h : wordFine s lt w) : touchRead s lt w = (s, none) := by
  simp [touchRead, h.1, h.2]

theorem touchReads_of_fine {s : State} {lt : Nat} {ws : List Nat} (h : ∀ w ∈ ws, wordFine s lt w) : touchReads s lt ws = (s, none) := by
  induction ws with
  | nil => rfl
  | cons w r ih =>
    obtain ⟨hw, hr⟩ := List.forall_mem_cons.mp h
    rw [touchReads, touchRead_of_fine hw]
    exact ih hr

/-- A read of a healthy range answers its bytes; only the lines read are counted. -/
theorem memReadBy_of_healthy {s : State} {lt off n : Nat} (h : healthy s lt off n = true) (c : CoreId) :
    memReadBy (localPath s lt c off n) s lt off n = (readDone s lt c off n, .ok (memBytes (s.tile lt).mem off n)) := by
  obtain ⟨hregion, hwords⟩ := (healthy_iff s lt off n).mp h
  simp only [memReadBy, hregion, Bool.false_eq_true, if_false, touchReads_of_fine hwords, readDone]

theorem touchWrite_of_fine {s : State} {lt w : Nat} (h : wordFine s lt w) (off n : Nat) : touchWrite s lt off n w = (s, none) := by
  unfold touchWrite
  split
  · rw [h.1]
  · exact touchRead_of_fine h

theorem touchWrites_of_fine {s : State} {lt : Nat} {ws : List Nat} (h : ∀ w ∈ ws, wordFine s lt w) (off n : Nat) :
    touchWrites s lt off n ws = (s, none) := by
  induction ws with
  | nil => rfl
  | cons w r ih =>
    obtain ⟨hw, hr⟩ := List.forall_mem_cons.mp h
    rw [touchWrites, touchWrite_of_fine hw]
    exact ih hr

end Sys2Proof.Machine
end

section
/-!
O13: the Bolt instructions.
-/
namespace Sys2Proof.Machine

open Sys2Proof

/-! ### Consumers -/

/-- On a Bolt that is not enabled every instruction faults (R100). -/
theorem boltConsume_of_closed {s : State} {lt b : Nat} (h : boltOpen s lt b = false) (body : State → InsnOut) :
    boltConsume s lt b body = boltFault s stPeerClosed := by
  simp only [boltConsume, h, Bool.not_false, if_true]

section Open
variable {s : State} {lt b : Nat} (hopen : boltOpen s lt b = true)
include hopen

theorem boltConsume_of_ready (hready : boltReady s lt b ≠ 0) (body : State → InsnOut) : boltConsume s lt b body = body s := by
  simp only [boltConsume, hopen, hready, Bool.not_true, Bool.false_eq_true, if_false]

/-- An empty Bolt stalls its consumer (R72). -/
theorem boltConsume_stalls (hempty : boltReady s lt b = 0) (hstrict : bit (boltCfg s lt b) 1 = false) (body : State → InsnOut) :
    boltConsume s lt b body = .wait s (.bolt b) := by
  simp only [boltConsume, hopen, hempty, hstrict, Bool.not_true, Bool.false_eq_true, if_false, if_true]

/-- An empty Bolt with STRICT set faults its consumer (R72). -/
theorem boltConsume_faults (hempty : boltReady s lt b = 0) (hstrict : bit (boltCfg s lt b) 1 = true) (body : State → InsnOut) :
    boltConsume s lt b body = boltFault (s.setTbit lt (regBoltStatus b) 3 true) stBoltEmpty := by
  simp only [boltConsume, hopen, hempty, hstrict, Bool.not_true, Bool.false_eq_true, if_false, if_true]

/-- The head slot is copied out and released. -/
theorem boltPop_of_ready (hready : boltReady s lt b ≠ 0) {c : CoreId} {addr : Nat} {s2 : State}
    (hread : healthy s lt (slotOff s lt b (boltHead s lt b)) (cfgSlot (boltCfg s lt b)) = true)
    (hstore : storePieces (readDone s lt c (slotOff s lt b (boltHead s lt b)) (cfgSlot (boltCfg s lt b))) lt c
      (memBytes (s.tile lt).mem (slotOff s lt b (boltHead s lt b)) (cfgSlot (boltCfg s lt b))) (piecesOf addr (cfgSlot (boltCfg s lt b))) =
        (s2, none)) (rd : BitVec 5) :
    boltPop s lt c rd b addr = .done (gWrite (boltRelease s2 lt b 1) lt c rd (BitVec.ofNat 64 (cfgSlot (boltCfg s lt b)))) := by
  rw [boltPop, boltConsume_of_ready hopen hready]
  simp only [memReadBy_of_healthy hread, hstore]

/-- Slots up to COMMIT are released (R72). -/
theorem boltRel_releases {k : Nat} (hk : 1 ≤ k) (hready : k ≤ boltReady s lt b) (word : Word) :
    boltRel s lt b k word = .done (boltRelease s lt b k) := by
  have hk0 : k ≠ 0 := by omega
  have hle : ¬ boltReady s lt b < k := by omega
  simp only [boltRel, hopen, hk0, hle, Bool.not_true, Bool.false_eq_true, if_false]

/-! ### `bolt.push` -/

section Push
variable {n : Nat} (hn : 1 ≤ n) (hmax : n ≤ 65536) (hslots : ceilDiv n (cfgSlot (boltCfg s lt b)) ≤ boltSlots (boltCfg s lt b))
include hn hmax hslots

/-- Bytes that fit the free slots are copied into slots that are reserved for them, and have landed (R70, R71). -/
theorem boltPush_of_room (hfree : ceilDiv n (cfgSlot (boltCfg s lt b)) ≤ boltFree s lt b) (hwindow : (boltWindow s lt b).length < 64)
    {c : CoreId} {addr : Nat} {s1 s2 : State} {bs : List Byte} (hread : coreRead s lt c addr n = (s1, .ok bs))
    (hwrite : writeParts s1 lt c (boltParts s1 lt b (boltReserve s lt b) bs) = (s2, none)) (rd : BitVec 5) (word : Word) :
    boltPush s lt c rd b addr n word = .done (gWrite (boltLand (boltTake s2 lt b (ceilDiv n (cfgSlot (boltCfg s lt b)))) lt b
      (boltReserve s lt b) false) lt c rd (BitVec.ofNat 64 (boltReserve s lt b))) := by
  have hvalid : ¬ (n = 0 ∨ 65536 < n ∨ boltSlots (boltCfg s lt b) < ceilDiv n (cfgSlot (boltCfg s lt b))) := by omega
  have hroom : ¬ (boltFree s lt b < ceilDiv n (cfgSlot (boltCfg s lt b)) ∨ 64 ≤ (boltWindow s lt b).length) := by omega
  simp only [boltPush, hopen, hvalid, hroom, hread, hwrite, Bool.not_true, Bool.false_eq_true, if_false]

theorem boltPush_stalls (hfull : boltFree s lt b < ceilDiv n (cfgSlot (boltCfg s lt b))) (c : CoreId) (rd : BitVec 5) (addr : Nat)
    (word : Word) : boltPush s lt c rd b addr n word = .wait s (.bolt b) := by
  have hvalid : ¬ (n = 0 ∨ 65536 < n ∨ boltSlots (boltCfg s lt b) < ceilDiv n (cfgSlot (boltCfg s lt b))) := by omega
  simp only [boltPush, hopen, hvalid, hfull, Bool.not_true, Bool.false_eq_true, if_false, true_or, if_true]

end Push
end Open

/-! ### The instructions as they issue -/

section Issues
variable {s : State} {lt : Nat} {c : CoreId} (rd rs1 rs2 : BitVec 5) (idx : BitVec 6) (h : issues s lt c 4 anyCoreNoAm = true)
include h

theorem exec_boltPush_of_issues :
    exec (.boltPush lt c rd rs1 rs2 idx) s = .next (finish lt c 4 (boltPush (fetched s lt c 4) lt c rd idx.toNat
      (gRead (fetched s lt c 4) lt c rs1).toNat (gRead (fetched s lt c 4) lt c rs2).toNat (wordT 0x12 rd rs1 rs2 idx 0))) :=
  insn_of_issues _ _ h

theorem exec_boltPeek_of_issues :
    exec (.boltPeek lt c rd rs1 rs2 idx) s = .next (finish lt c 4 (boltConsume (fetched s lt c 4) lt idx.toNat (fun u =>
      .done (gWrite u lt c rd (BitVec.ofNat 64 (slotOff u lt idx.toNat (boltHead u lt idx.toNat))))))) :=
  insn_of_issues _ _ h

theorem exec_boltPop_of_issues :
    exec (.boltPop lt c rd rs1 rs2 idx) s = .next (finish lt c 4 (boltPop (fetched s lt c 4) lt c rd idx.toNat
      (gRead (fetched s lt c 4) lt c rs1).toNat)) :=
  insn_of_issues _ _ h

theorem exec_boltRel_of_issues :
    exec (.boltRel lt c rd rs1 rs2 idx) s = .next (finish lt c 4 (boltRel (fetched s lt c 4) lt idx.toNat
      (gRead (fetched s lt c 4) lt c rs2).toNat (wordT 0x12 rd rs1 rs2 idx 3))) :=
  insn_of_issues _ _ h

/-- On a Bolt that is not enabled all four raise a Bolt fault with PEER_CLOSED (R100). -/
theorem exec_bolt_of_closed (hclosed : boltOpen (fetched s lt c 4) lt idx.toNat = false)
    {i : Nat → CoreId → BitVec 5 → BitVec 5 → BitVec 5 → BitVec 6 → Instr} (hi : i ∈ [.boltPush, .boltPeek, .boltPop, .boltRel]) :
    exec (i lt c rd rs1 rs2 idx) s = .next (coreTrap (fetched s lt c 4) lt c causeBolt stPeerClosed none 0) := by
  simp only [List.mem_cons, List.not_mem_nil, or_false] at hi
  rcases hi with rfl | rfl | rfl | rfl
  · rw [exec_boltPush_of_issues rd rs1 rs2 idx h]
    simp only [boltPush, hclosed, Bool.not_false, if_true, boltFault, finish]
  · rw [exec_boltPeek_of_issues rd rs1 rs2 idx h, boltConsume_of_closed hclosed]
    rfl
  · rw [exec_boltPop_of_issues rd rs1 rs2 idx h, boltPop, boltConsume_of_closed hclosed]
    rfl
  · rw [exec_boltRel_of_issues rd rs1 rs2 idx h]
    simp only [boltRel, hclosed, Bool.not_false, if_true, boltFault, finish]

end Issues

/-! ### The statement -/

/-- Settles O13: each instruction issues and ends as its effect on the fetched state says. -/
theorem boltInstructions : Obligations.BoltInstructions := by
  unfold Obligations.BoltInstructions
  intro s lt c rd rs1 rs2 idx h f b slot n a
  refine ⟨fun hopen => ⟨fun hn hmax hslots => ⟨fun hfree hwindow s1 bs s2 hread hwrite => ?_, fun hfull => ?_⟩,
    fun hready => ⟨?_, fun s2 hhealthy hstore => ?_⟩, fun hempty hstrict => ⟨?_, ?_⟩, fun hempty hstrict => ⟨?_, ?_⟩, fun hn hready => ?_⟩,
    fun hclosed i hi => exec_bolt_of_closed rd rs1 rs2 idx h hclosed hi⟩
  · rw [exec_boltPush_of_issues rd rs1 rs2 idx h, boltPush_of_room hopen hn hmax hslots hfree hwindow hread hwrite]
    rfl
  · rw [exec_boltPush_of_issues rd rs1 rs2 idx h, boltPush_stalls hopen hn hmax hslots hfull]
    rfl
  · rw [exec_boltPeek_of_issues rd rs1 rs2 idx h, boltConsume_of_ready hopen hready]
    rfl
  · rw [exec_boltPop_of_issues rd rs1 rs2 idx h, boltPop_of_ready hopen hready hhealthy hstore]
    rfl
  · rw [exec_boltPeek_of_issues rd rs1 rs2 idx h, boltConsume_stalls hopen hempty hstrict]
    rfl
  · rw [exec_boltPop_of_issues rd rs1 rs2 idx h, boltPop, boltConsume_stalls hopen hempty hstrict]
    rfl
  · rw [exec_boltPeek_of_issues rd rs1 rs2 idx h, boltConsume_faults hopen hempty hstrict]
    rfl
  · rw [exec_boltPop_of_issues rd rs1 rs2 idx h, boltPop, boltConsume_faults hopen hempty hstrict]
    rfl
  · rw [exec_boltRel_of_issues rd rs1 rs2 idx h, boltRel_releases hopen hn hready]
    rfl

end Sys2Proof.Machine
end

section
/-!
SUPPORT. What records, reports of errors and accesses to tile memory leave of each tile, for any observation that does not see what they change.
-/
namespace Sys2Proof.Machine

open Sys2Proof

/-! ### The frame -/

/-- From `s` to `t` the module keeps its number, and `o` reads the same of every tile. -/
structure Kept {β : Type} (o : Tile → β) (s t : State) : Prop where
  moduleId : t.moduleId = s.moduleId
  tile : ∀ x, o (t.tile x) = o (s.tile x)

section Frame
variable {β : Type} {o : Tile → β}

theorem Kept.refl (o : Tile → β) (s : State) : Kept o s s := ⟨rfl, fun _ => rfl⟩

theorem Kept.trans {s t u : State} (h : Kept o s t) (k : Kept o t u) : Kept o s u :=
  ⟨k.moduleId.trans h.moduleId, fun x => (k.tile x).trans (h.tile x)⟩

theorem Kept.foldl {α : Type} {g : State → α → State} (hg : ∀ s a, Kept o s (g s a)) (l : List α) (s : State) : Kept o s (l.foldl g s) := by
  induction l generalizing s with
  | nil => exact Kept.refl o s
  | cons a r ih => exact (hg s a).trans (ih (g s a))

/-- Whichever way a test falls. -/
theorem Kept.ite {s t u : State} {p : Prop} [Decidable p] (h : Kept o s t) (k : Kept o s u) : Kept o s (if p then t else u) := by
  split
  · exact h
  · exact k

theorem Kept.modTile (g : Tile → Tile) {s : State} {lt : Nat} (h : o (g (s.tile lt)) = o (s.tile lt)) : Kept o s (s.modTile lt g) :=
  ⟨rfl, State.tile_modTile_keeps o h⟩

theorem Kept.of_tiles {s t : State} (htiles : t.tiles = s.tiles) (hid : t.moduleId = s.moduleId) : Kept o s t :=
  ⟨hid, fun x => by rw [State.tile, State.tile, htiles]⟩

theorem Kept.hereId {s t : State} (h : Kept o s t) : hereId t = hereId s := by
  rw [Machine.hereId, Machine.hereId, h.moduleId]

end Frame

/-- The word of a tile at a register offset, as an observation of the tile. -/
def regAt (off : Nat) (t : Tile) : Word := RegFile.get tileRows t.regs off

theorem Kept.treg {s t : State} {off : Nat} (h : Kept (regAt off) s t) (x : Nat) : t.treg x off = s.treg x off := h.tile x

theorem Kept.sameMemory {s t : State} (h : Kept Tile.mem s t) : sameMemory s t := fun x a => by rw [h.tile x]

/-- An observation of a tile that does not see what records and findings change: the recorder, the isolation of the tile and of its banks, and the
registers SKB_LOST and RAS_TILE_STATUS. -/
structure ReportBlind {β : Type} (o : Tile → β) : Prop where
  recorder : ∀ t r, o { t with recorder := r } = o t
  isolated : ∀ t b, o { t with isolated := b } = o t
  isoBanks : ∀ t l, o { t with isoBanks := l } = o t
  regs : ∀ t off v, off = regSkbLost ∨ off = regRasTileStatus → o { t with regs := kvSet t.regs off v } = o t

/-- A register that records and findings do not write. -/
theorem reportBlind_regAt {off : Nat} (hlost : off ≠ regSkbLost) (hstatus : off ≠ regRasTileStatus) : ReportBlind (regAt off) where
  recorder _ _ := rfl
  isolated _ _ := rfl
  isoBanks _ _ := rfl
  regs t o v ho := by
    have hne : off ≠ o := by
      rintro rfl
      exact ho.elim hlost hstatus
    rw [regAt, RegFile.get_kvSet, if_neg hne, regAt]

section Reports
variable {β : Type} {o : Tile → β} (ho : ReportBlind o) (s : State)
include ho

theorem ReportBlind.setTreg (lt : Nat) {off : Nat} (v : Word) (h : off = regSkbLost ∨ off = regRasTileStatus) : Kept o s (s.setTreg lt off v) :=
  Kept.modTile (fun t => { t with regs := kvSet t.regs off v }) (ho.regs _ _ _ h)

/-! ### The Sketchbook -/

theorem ReportBlind.setRecorder (tg : Target) (r : Recorder) : Kept o s (setRecorder s tg r) := by
  cases tg with
  | tile lt => exact Kept.modTile (fun t => { t with recorder := r }) (ho.recorder _ _)
  | fc f => exact Kept.of_tiles rfl rfl
  | mc => exact Kept.of_tiles rfl rfl

theorem ReportBlind.rset (tg : Target) {off : Nat} (v : Word) (h : off = regSkbLost ∨ ∀ lt, tg ≠ .tile lt) : Kept o s (rset s tg off v) := by
  cases tg with
  | tile lt => exact ho.setTreg s lt v (Or.inl (h.resolve_right (fun hne => hne lt rfl)))
  | fc f => exact Kept.of_tiles rfl rfl
  | mc => exact Kept.of_tiles rfl rfl

theorem ReportBlind.skbQueue (tg : Target) (id : Nat) (words : List Word) : Kept o s (skbQueue s tg id words) := by
  have hrec : ∀ q, Kept o s (Machine.setRecorder s tg q) := ho.setRecorder s tg
  have hlost : ∀ u v, Kept o u (Machine.rset u tg regSkbLost v) := fun u v => ho.rset u tg v (Or.inl rfl)
  unfold Machine.skbQueue
  dsimp only
  split
  · exact (hrec _).trans (hlost _ _)
  · split
    · exact (hrec _).trans (hlost _ _)
    · exact hrec _

theorem ReportBlind.skbProg (tg : Target) (n : Nat) : Kept o s (skbProg s tg n) := ho.skbQueue s tg _ _

theorem ReportBlind.skbEvent (tg : Target) (id : Nat) (args : List Nat) : Kept o s (skbEvent s tg id args) := by
  unfold Machine.skbEvent
  dsimp only
  split
  · exact ho.skbQueue s tg id _
  · refine (ho.skbQueue s tg id _).trans (Kept.foldl (fun st n => ?_) _ _)
    split
    · exact ho.skbProg st tg n
    · exact Kept.refl o st

/-! ### Error logs -/

theorem ReportBlind.logAppend {tg : Target} (e : LogEnt) (htg : ∀ lt, tg ≠ .tile lt) : Kept o s (logAppend s tg e) := by
  have hset : ∀ (u : State) (off : Nat) (v : Word), Kept o u (Machine.rset u tg off v) := fun u off v => ho.rset u tg v (Or.inr htg)
  have hlog : ∀ u l, Kept o u (setLog u tg l) := fun u l => by
    cases tg with
    | tile lt => exact absurd rfl (htg lt)
    | fc f => exact Kept.of_tiles rfl rfl
    | mc => exact Kept.of_tiles rfl rfl
  unfold Machine.logAppend
  extract_lets u head tail entry put
  have hcopy : Kept o s u := by
    unfold u eventCopy
    split
    · exact Kept.of_tiles rfl rfl
    · exact Kept.refl o s
  have hput : Kept o s (put u) := hcopy.trans ((hlog u _).trans (hset _ _ _))
  split
  · exact hput
  · split
    · split
      · exact hput.trans ((hset _ _ _).trans (hset _ _ _))
      · exact hcopy.trans (hset _ _ _)
    · exact hput

theorem ReportBlind.logFc (f : Nat) (e : LogEnt) : Kept o s (Machine.logAppend s (.fc f) e) := ho.logAppend s e (fun _ h => by cases h)

theorem ReportBlind.logMc (e : LogEnt) : Kept o s (Machine.logAppend s .mc e) := ho.logAppend s e (fun _ h => by cases h)

theorem ReportBlind.mcLog (cls k pt unit : Nat) (st : BitVec 8) (d : Nat) : Kept o s (mcLog s cls k pt unit st d) := by
  unfold Machine.mcLog
  dsimp only
  split
  · exact (ho.logMc s _).trans (ho.skbEvent _ _ _ _)
  · exact ho.logMc s _

theorem ReportBlind.logBoth (f : Nat) (u : UnitId) (cls : Nat) (st : BitVec 8) (out d : Nat) : Kept o s (logBoth s f u cls st out d) :=
  ((ho.logFc s f _).trans (ho.logMc _ _)).trans (ho.skbEvent _ _ _ _)

/-! ### Isolation and findings -/

omit ho in
theorem kept_haltGroup (g : Nat) : Kept o s (haltGroup s g) := by
  unfold haltGroup
  split
  · exact Kept.refl o s
  · exact Kept.of_tiles rfl rfl

theorem ReportBlind.isolateTile (lt : Nat) : Kept o s (isolateTile s lt) :=
  ((Kept.modTile (fun t => { t with isolated := true }) (ho.isolated _ _)).trans (ho.setTreg _ lt _ (Or.inr rfl))).trans (kept_haltGroup _ _)

theorem ReportBlind.startEpoch : Kept o s (startEpoch s) := by
  unfold Machine.startEpoch
  refine (Kept.of_tiles rfl rfl : Kept o s { s with mesh := { s.mesh with shadow := some (newTab s) } }).trans (Kept.foldl (fun st pt => ?_) _ _)
  split
  · exact ho.isolateTile st _
  · exact Kept.refl o st

theorem ReportBlind.isolateUnit (typ pt a : Nat) : Kept o s (isolateUnit s typ pt a) := by
  have hmark : ∀ u lt, Kept o u (u.setTbit lt regRasTileStatus 18 true) := fun u lt => ho.setTreg u lt _ (Or.inr rfl)
  unfold Machine.isolateUnit
  extract_lets gesso mesh s0 s1
  have h0 : Kept o s s0 := by
    unfold s0
    split
    · exact Kept.of_tiles rfl rfl
    · split
      · exact Kept.of_tiles rfl rfl
      · split
        · exact Kept.of_tiles rfl rfl
        · exact Kept.refl o s
  have h1 : Kept o s s1 := by
    unfold s1
    split
    · exact h0.trans (ho.startEpoch s0)
    · exact h0
  split
  · exact h1
  · next lt _ =>
    split
    · exact h1.trans ((Kept.modTile (fun t => { t with isoBanks := t.isoBanks ++ [a] }) (ho.isoBanks _ _)).trans (hmark _ lt))
    · split
      · exact h1.trans (ho.isolateTile s1 lt)
      · exact h1.trans (hmark s1 lt)

omit ho in
theorem kept_setMreg (off : Nat) (v : Word) : Kept o s (s.setMreg off v) := Kept.of_tiles rfl rfl

omit ho in
theorem kept_measure (n : Nat) (d : List Byte) : Kept o s (measure s n d) := Kept.foldl (fun st _ => kept_setMreg st _ _) _ _

omit ho in
theorem kept_raiseAlert (i : Nat) : Kept o s (raiseAlert s i) := by
  unfold raiseAlert
  dsimp only
  split
  · exact Kept.of_tiles rfl rfl
  · exact Kept.of_tiles rfl rfl

omit ho in
theorem kept_drawn : Kept o s s.drawn := Kept.of_tiles rfl rfl

omit ho in
theorem kept_putMap (es : List MapEnt) : Kept o s (putMap s es) := by
  unfold putMap
  extract_lets g b g1 s1
  have hput : Kept o s s1 := by
    unfold s1
    split
    · exact Kept.of_tiles rfl rfl
    · exact Kept.of_tiles rfl rfl
  exact hput.trans (kept_measure s1 5 _)

theorem ReportBlind.writeMap (es : List MapEnt) : Kept o s (writeMap s es).1 := by
  unfold Machine.writeMap
  split
  · exact kept_drawn s
  · exact ((kept_drawn s).trans (kept_putMap s.drawn es)).trans ((kept_drawn _).trans (ho.mcLog _ _ _ _ _ _ _))

theorem ReportBlind.unwritten (e : MapEnt) : Kept o s (unwritten s e) := by
  have hmark : ∀ u, Kept o u (markFailed u) := fun u => Kept.of_tiles rfl rfl
  have hfail : ∀ u, Kept o u (failState u) := fun u => (kept_setMreg u _ _).trans (kept_raiseAlert _ 2)
  rw [unwritten_eq]
  exact ((ho.mcLog s _ _ _ _ _ _).trans (hmark _)).trans (hfail _)

theorem ReportBlind.makeLasting (u : UnitId) (lane : Option Nat) (out : Nat) : Kept o s (makeLasting s u lane out) := by
  unfold Machine.makeLasting
  split
  · unfold gessoFinding
    extract_lets e p
    have hp : Kept o s p.1 := (ho.isolateUnit s _ _ _).trans (ho.writeMap _ _)
    split
    · exact hp
    · exact hp.trans (ho.unwritten _ e)
  · exact Kept.refl o s

/-! ### Reports -/

theorem ReportBlind.onRasTile (pt : Nat) (g : Word → Word) : Kept o s (onRasTile s pt g) := by
  obtain h | ⟨lt, h⟩ := onRasTile_cases s pt g
  · rw [h]; exact Kept.refl o s
  · rw [h]; exact ho.setTreg s lt _ (Or.inr rfl)

theorem ReportBlind.markTests (u : UnitId) (ended : Bool) : Kept o s (markTests s u ended) := by
  unfold Machine.markTests
  exact ho.onRasTile s u.pt _

theorem ReportBlind.testEnded (f : Nat) (j : TestJob) (out dur : Nat) : Kept o s (testEnded s f j out dur) := by
  unfold Machine.testEnded
  extract_lets u s1
  have h1 : Kept o s s1 := ho.logFc s f _
  exact (h1.trans (ho.skbEvent s1 _ _ _)).trans (ho.markTests _ u _)

omit ho in
theorem kept_modFc (f : Nat) (g : Fc → Fc) : Kept o s (s.modFc f g) := Kept.of_tiles rfl rfl

omit ho in
theorem kept_ceWindow (f : Nat) (u : UnitId) : Kept o s (ceWindow s f u).1 := by
  unfold ceWindow
  dsimp only
  split <;> dsimp only
  · exact kept_modFc s f _
  · exact kept_modFc s f _

omit ho in
theorem kept_queueTest (f : Nat) (j : TestJob) : Kept o s (queueTest s f j).1 := by
  unfold queueTest
  split <;> dsimp only
  · exact kept_modFc s f _
  · exact Kept.refl o s

theorem ReportBlind.reportCE (f : Nat) (u : UnitId) (detail : Nat) : Kept o s (reportCE s f u detail) := by
  unfold Machine.reportCE
  have hwin : Kept o s (ceWindow s f u).1 := kept_ceWindow s f u
  revert hwin
  generalize ceWindow s f u = p
  obtain ⟨s1, n⟩ := p
  intro hwin
  dsimp -zeta only at hwin ⊢
  extract_lets s2 th seq ent
  have h2 : Kept o s s2 := hwin.trans (ho.onRasTile s1 _ _)
  split
  · split
    · exact (h2.trans (kept_modFc s2 f _)).trans (ho.logFc _ _ _)
    · have hq : Kept o s2 (queueTest s2 f ⟨u, seq, false, false, false⟩).1 := kept_queueTest s2 f _
      split
      · next s3 h => rw [h] at hq; exact (h2.trans hq).trans (ho.logFc _ _ _)
      · next s3 h => rw [h] at hq; exact ((h2.trans hq).trans (kept_modFc s3 f _)).trans (ho.logFc _ _ _)
  · exact h2.trans (ho.logFc _ _ _)

theorem ReportBlind.reportUE (f : Nat) (u : UnitId) (st : BitVec 8) (detail : Nat) : Kept o s (reportUE s f u st detail) := by
  have hboth : ∀ v out, Kept o v (Machine.logBoth v f u 2 st out detail) := fun v out => ho.logBoth v f u 2 st out detail
  have hlast : ∀ v lane out, Kept o v (Machine.makeLasting v u lane out) := fun v lane out => ho.makeLasting v u lane out
  unfold Machine.reportUE
  extract_lets s0 seq
  have h0 : Kept o s s0 := ho.onRasTile s _ _
  split
  · exact h0.trans (hboth _ _)
  · split
    · exact ((((h0.trans (kept_modFc s0 f _)).trans (hboth _ 5)).trans (kept_drawn _)).trans (ho.testEnded _ _ _ _ _)).trans (hlast _ _ _)
    · have hq : Kept o s0 (queueTest s0 f ⟨u, seq, true, false, false⟩).1 := kept_queueTest s0 f _
      split
      · next s1 h => rw [h] at hq; exact (h0.trans hq).trans (hboth _ _)
      · next s1 h => rw [h] at hq; exact ((h0.trans hq).trans (hboth _ _)).trans (hlast _ _ _)

end Reports

/-! ### Accesses to tile memory -/

/-- An observation that does not see what an access to tile memory changes beside the bytes themselves: what reports change, the words in error,
the activity counters, and the registers MEM_ECC_STATUS and MEM_ECC_ADDR. -/
structure AccessBlind {β : Type} (o : Tile → β) : Prop extends ReportBlind o where
  errs : ∀ t e, o { t with errs := e } = o t
  counters : ∀ t c, o { t with counters := c } = o t
  eccRegs : ∀ t off v, off = regMemEccStatus ∨ off = regMemEccAddr → o { t with regs := kvSet t.regs off v } = o t

theorem accessBlind_regAt {off : Nat} (h : off ∉ [regSkbLost, regRasTileStatus, regMemEccStatus, regMemEccAddr]) : AccessBlind (regAt off) where
  toReportBlind := reportBlind_regAt (by rintro rfl; simp at h) (by rintro rfl; simp at h)
  errs _ _ := rfl
  counters _ _ := rfl
  eccRegs t o v ho := by
    have hne : off ≠ o := by
      rintro rfl
      rcases ho with rfl | rfl <;> simp at h
    rw [regAt, RegFile.get_kvSet, if_neg hne, regAt]

section Accesses
variable {β : Type} {o : Tile → β} (ho : AccessBlind o) (s : State) (lt : Nat)
include ho

theorem AccessBlind.setEccReg {off : Nat} (v : Word) (h : off = regMemEccStatus ∨ off = regMemEccAddr) : Kept o s (s.setTreg lt off v) :=
  Kept.modTile (fun t => { t with regs := kvSet t.regs off v }) (ho.eccRegs _ _ _ h)

theorem AccessBlind.eccCorrect (w : Nat) : Kept o s (eccCorrect s lt w) := by
  unfold Machine.eccCorrect
  extract_lets s1 s2
  have h1 : Kept o s s1 := Kept.modTile _ (ho.errs _ _)
  have h2 : Kept o s1 s2 := ho.setEccReg s1 lt _ (Or.inl rfl)
  exact (h1.trans h2).trans (ho.reportCE s2 _ _ _)

theorem AccessBlind.eccUncorr (w : Nat) : Kept o s (eccUncorr s lt w) := by
  unfold Machine.eccUncorr
  extract_lets s1 e e1 s2 s3
  have h1 : Kept o s s1 := Kept.modTile _ (ho.errs _ _)
  have h2 : Kept o s1 s2 := ho.setEccReg s1 lt _ (Or.inl rfl)
  have h3 : Kept o s2 s3 := ho.setEccReg s2 lt _ (Or.inr rfl)
  exact ((h1.trans h2).trans h3).trans (ho.reportUE s3 _ _ _ _)

theorem AccessBlind.touchRead (w : Nat) : Kept o s (touchRead s lt w).1 := by
  unfold Machine.touchRead
  split
  · exact Kept.refl o s
  · split
    · exact ho.eccUncorr s lt w
    · split
      · exact ho.eccCorrect s lt w
      · exact Kept.refl o s

theorem AccessBlind.touchReads (ws : List Nat) : Kept o s (touchReads s lt ws).1 := by
  induction ws generalizing s with
  | nil => exact Kept.refl o s
  | cons w r ih =>
    have hw := ho.touchRead s lt w
    unfold Machine.touchReads
    split
    · next s1 h => rw [h] at hw; exact hw.trans (ih s1)
    · next s1 st h => rw [h] at hw; exact hw

theorem AccessBlind.touchWrites (off n : Nat) (ws : List Nat) : Kept o s (touchWrites s lt off n ws).1 := by
  induction ws generalizing s with
  | nil => exact Kept.refl o s
  | cons w r ih =>
    have hw : Kept o s (touchWrite s lt off n w).1 := by
      unfold touchWrite
      split
      · exact Kept.refl o s
      · exact ho.touchRead s lt w
    unfold Machine.touchWrites
    split
    · next s1 h => rw [h] at hw; exact hw.trans (ih s1)
    · next s1 st h => rw [h] at hw; exact hw

theorem AccessBlind.bumpCnt (n k : Nat) : Kept o s (bumpCnt s lt n k) := Kept.modTile _ (ho.counters _ _)

theorem AccessBlind.bumpXbar (loc : Bool) (k : Nat) : Kept o s (bumpXbar s loc lt k) := by
  unfold Machine.bumpXbar
  split
  · exact Kept.refl o s
  · exact ho.bumpCnt s lt 14 k

theorem AccessBlind.memReadBy (loc : Bool) (off n : Nat) : Kept o s (memReadBy loc s lt off n).1 := by
  have hw := ho.touchReads s lt (wordsOf off n)
  unfold Machine.memReadBy
  split
  · exact Kept.refl o s
  · split
    · next s1 st h => rw [h] at hw; exact hw
    · next s1 h => rw [h] at hw; exact (hw.trans (ho.bumpCnt s1 lt _ _)).trans (ho.bumpXbar _ lt loc _)

section Stores
variable (hmem : ∀ t m, o { t with mem := m } = o t)
include hmem

theorem AccessBlind.memStore (off : Nat) (bs : List Byte) : Kept o s (memStore s lt off bs) :=
  Kept.modTile _ ((ho.errs { s.tile lt with mem := memPut (s.tile lt).mem off bs } _).trans (hmem _ _))

theorem AccessBlind.memWriteBy (loc : Bool) (off : Nat) (bs : List Byte) : Kept o s (memWriteBy loc s lt off bs).1 := by
  have hw := ho.touchWrites s lt off bs.length (wordsOf off bs.length)
  unfold Machine.memWriteBy
  split
  · exact Kept.refl o s
  · split
    · next s1 st h => rw [h] at hw; exact hw
    · next s1 h =>
      rw [h] at hw
      exact ((hw.trans (ho.memStore s1 lt hmem off bs)).trans (ho.bumpCnt _ lt _ _)).trans (ho.bumpXbar _ lt loc _)

end Stores
end Accesses

end Sys2Proof.Machine
end

section
/-!
O30: bank power and the patrol scrubber.
-/
namespace Sys2Proof.Machine

open Sys2Proof

/-! ### Commands -/

theorem onTile_of_lt {lt : Nat} (hlt : lt < 1320) (s : State) (f : State → State) : onTile lt s f = .next (f s) := if_pos hlt

/-- A register write from S or M is performed, and answered OK (R59). -/
theorem regCommand_of_privileged {lt : Nat} {lv : Level} (hlt : lt < 1320) (hlv : lv ≠ .u) (f : State → State) (s : State) :
    regCommand lt lv f s = .next (accessReply (f s) stOk 0) := by
  rw [regCommand, onTile_of_lt hlt, if_neg hlv]

section Reply
variable (s : State) (st : Status) (v : Word)

@[simp] theorem accessReply_tile (x : Nat) : (accessReply s st v).tile x = s.tile x := rfl

@[simp] theorem accessReply_treg (x off : Nat) : (accessReply s st v).treg x off = s.treg x off := by
  rw [State.treg, accessReply_tile, State.treg]

@[simp] theorem accessReply_tfld (x off hi lo : Nat) : (accessReply s st v).tfld x off hi lo = s.tfld x off hi lo := by
  rw [State.tfld, accessReply_treg, State.tfld]

@[simp] theorem accessReply_tbit (x off i : Nat) : (accessReply s st v).tbit x off i = s.tbit x off i := by
  rw [State.tbit, accessReply_treg, State.tbit]

theorem sameMemory_accessReply {u : State} (h : sameMemory u s) : sameMemory u (accessReply s st v) := fun x a => h x a

end Reply

/-! ### Requests for the power of a bank -/

theorem pwrWord_fields (b : BitVec 6) (up : Bool) :
    fld (pwrWord b up) 5 0 = b.toNat ∧ bit (pwrWord b up) 8 = up ∧ bit (pwrWord b up) 9 = true := by
  revert b up; decide

/-- The state in which a request for bank `b` is decided: its operands stand in MEM_PWR_CTRL, and MEM_PWR_STATUS names the bank (R65, R67). -/
def bankAsked (s : State) (lt : Nat) (b : BitVec 6) (up : Bool) : State :=
  (s.setTreg lt regMemPwrCtrl (pwrWord b up &&& 0x13F)).setTfld lt regMemPwrStatus 5 0 b.toNat

section Asked
variable (s : State) (lt : Nat) (b : BitVec 6) (up : Bool)

theorem treg_bankAsked (x : Nat) {off : Nat} (hctrl : off ≠ regMemPwrCtrl) (hstatus : off ≠ regMemPwrStatus) :
    (bankAsked s lt b up).treg x off = s.treg x off := by
  rw [bankAsked, State.treg_setTfld_off_ne _ _ _ _ _ _ hstatus, State.treg_setTreg, if_neg (fun h => hctrl h.2)]

theorem bank_bankAsked (x n : Nat) : ((bankAsked s lt b up).tile x).bank n = (s.tile x).bank n := by simp [bankAsked, Tile.bank]

theorem bankWaits_bankAsked (x n : Nat) : bankWaits (bankAsked s lt b up) x n = bankWaits s x n := by simp [bankAsked, bankWaits]

theorem sameMemory_bankAsked : sameMemory s (bankAsked s lt b up) := fun x a => by simp [bankAsked]

/-- What excludes a power-down reads neither of the two registers (R65). -/
theorem downCause_bankAsked (n : Nat) : downCause (bankAsked s lt b up) lt n = downCause s lt n := by
  have hreg : ∀ {off}, off ≠ regMemPwrCtrl → off ≠ regMemPwrStatus → (bankAsked s lt b up).treg lt off = s.treg lt off :=
    fun h h' => treg_bankAsked s lt b up lt h h'
  have hmap : interleavedOf (bankAsked s lt b up) lt = interleavedOf s lt := by
    rw [interleavedOf, State.tbit, hreg (by decide) (by decide), interleavedOf, State.tbit]
  have hbolt : ∀ i, boltCfg (bankAsked s lt b up) lt i = boltCfg s lt i := fun i =>
    hreg (by simp only [regBoltCfg, regMemPwrCtrl]; omega) (by simp only [regBoltCfg, regMemPwrStatus]; omega)
  have hlwin : ∀ i, (bankAsked s lt b up).treg lt (regMemLwinBase i) = s.treg lt (regMemLwinBase i) ∧
      (bankAsked s lt b up).treg lt (regMemLwinSize i) = s.treg lt (regMemLwinSize i) := fun i =>
    ⟨hreg (by simp only [regMemLwinBase, regMemPwrCtrl]; omega) (by simp only [regMemLwinBase, regMemPwrStatus]; omega),
      hreg (by simp only [regMemLwinSize, regMemPwrCtrl]; omega) (by simp only [regMemLwinSize, regMemPwrStatus]; omega)⟩
  have hmeetsBolt : meetsBolt (bankAsked s lt b up) lt (bankRange n) 64 = meetsBolt s lt (bankRange n) 64 := by simp only [meetsBolt, hbolt]
  have hmeetsLwin : meetsLwin (bankAsked s lt b up) lt (bankRange n) 16 = meetsLwin s lt (bankRange n) 16 := by
    simp only [meetsLwin, (hlwin _).1, (hlwin _).2]
  have hsaved : ((bankAsked s lt b up).tile lt).laneSaved = (s.tile lt).laneSaved := by simp [bankAsked]
  rw [downCause, downCause, hmap, hmeetsBolt, hmeetsLwin, hsaved, bank_bankAsked]

/-- What a write of MEM_PWR_CTRL that submits a request does (R65, R67). -/
theorem writeMemPwr_pwrWord : writeMemPwr s lt (pwrWord b up) =
    if bankBusy s lt b.toNat then
      (if !up && (s.tile lt).bank b.toNat == .ramping then refuseBank (bankAsked s lt b up) lt 5
        else setBankWaits (bankAsked s lt b up) lt b.toNat (bankWaits s lt b.toNat ++ [up]))
    else startBank (bankAsked s lt b up) lt b.toNat up := by
  obtain ⟨hbank, hup, hgo⟩ := pwrWord_fields b up
  have hreq : writeMemPwr s lt (pwrWord b up) = requestBank (s.setTreg lt regMemPwrCtrl (pwrWord b up &&& 0x13F)) lt b.toNat up := by
    rw [writeMemPwr, hbank, hup, hgo, if_pos rfl]
  rw [hreq, requestBank, ← bankAsked, bankBusy, bankBusy, bank_bankAsked, bankWaits_bankAsked]

end Asked

theorem bank_setBank (s : State) (lt b : Nat) (x : BankSt) : ((setBank s lt b x).tile lt).bank b = x := by simp [setBank, Tile.bank]

theorem sameMemory_setBank (s : State) (lt b : Nat) (x : BankSt) : sameMemory s (setBank s lt b x) :=
  Kept.sameMemory (Kept.modTile (fun t => { t with banks := kvSet t.banks b x }) rfl)

theorem sameMemory_setBankWaits (s : State) (lt b : Nat) (q : List Bool) : sameMemory s (setBankWaits s lt b q) :=
  Kept.sameMemory (Kept.modTile (fun t => { t with bankQ := kvSet t.bankQ b q }) rfl)

theorem bankWaits_setBankWaits (s : State) (lt b : Nat) (q : List Bool) : bankWaits (setBankWaits s lt b q) lt b = q := by
  simp [bankWaits, setBankWaits]

theorem bank_setBankWaits (s : State) (lt b : Nat) (q : List Bool) (n : Nat) : ((setBankWaits s lt b q).tile lt).bank n = (s.tile lt).bank n :=
  congrArg (kvGet BankSt.on · n) (State.tile_modTile_keeps (g := fun t => { t with bankQ := kvSet t.bankQ b q }) Tile.banks rfl lt)

theorem sameMemory_trans {s t u : State} (h : sameMemory s t) (k : sameMemory t u) : sameMemory s u := fun x a => (k x a).trans (h x a)

/-- A refusal is marked with its cause (R65, R67). -/
theorem refuseBank_marks (s : State) (lt : Nat) {c : Nat} (hc : c < 8) :
    (refuseBank s lt c).tbit lt regMemPwrStatus 9 = true ∧ (refuseBank s lt c).tfld lt regMemPwrStatus 12 10 = c ∧
      (∀ n, ((refuseBank s lt c).tile lt).bank n = (s.tile lt).bank n) ∧ sameMemory s (refuseBank s lt c) := by
  refine ⟨State.tbit_setTbit_same _ _ _ true (by decide), ?_, fun n => by simp [refuseBank, Tile.bank], fun x a => by simp [refuseBank]⟩
  rw [refuseBank, State.setTbit, State.tfld_setTfld_disjoint _ _ _ _ _ (by decide) (by decide)]
  exact State.tfld_setTfld_same s lt _ (by decide) hc

section Requests
variable {s : State} {lt : Nat} {lv : Level} (b : BitVec 6) (hlt : lt < 1320) (hlv : lv ≠ .u)
include hlt hlv

theorem exec_bankPowerDown : exec (.bankPowerDown lt lv b) s = .next (accessReply (writeMemPwr s lt (pwrWord b false)) stOk 0) := by
  show regCommand lt lv (fun s => writeMemPwr s lt (pwrWord b false)) s = _
  rw [regCommand_of_privileged hlt hlv]

theorem exec_bankPowerUp : exec (.bankPowerUp lt lv b) s = .next (accessReply (writeMemPwr s lt (pwrWord b true)) stOk 0) := by
  show regCommand lt lv (fun s => writeMemPwr s lt (pwrWord b true)) s = _
  rw [regCommand_of_privileged hlt hlv]

end Requests

/-- The state in which the request that waited longest on a bank is decided (R67). -/
def bankTaken (s : State) (lt : Nat) (b : BitVec 6) (rest : List Bool) : State :=
  (setBankWaits s lt b.toNat rest).setTfld lt regMemPwrStatus 5 0 b.toNat

theorem bank_bankTaken (s : State) (lt : Nat) (b : BitVec 6) (rest : List Bool) (n : Nat) :
    ((bankTaken s lt b rest).tile lt).bank n = (s.tile lt).bank n := by
  rw [bankTaken, Tile.bank, State.setTfld_tile_banks]; exact bank_setBankWaits s lt _ _ n

theorem bankWaits_bankTaken (s : State) (lt : Nat) (b : BitVec 6) (rest : List Bool) : bankWaits (bankTaken s lt b rest) lt b.toNat = rest := by
  rw [bankTaken, bankWaits, State.setTfld_tile_bankQ]; exact bankWaits_setBankWaits s lt _ _

theorem sameMemory_bankTaken (s : State) (lt : Nat) (b : BitVec 6) (rest : List Bool) : sameMemory s (bankTaken s lt b rest) :=
  sameMemory_trans (sameMemory_setBankWaits s lt b.toNat rest) (fun x a => by simp [bankTaken])

section Down
variable {s : State} {lt : Nat} {b : BitVec 6} (h : bankBusy s lt b.toNat = false)
include h

/-- A power-down that nothing excludes, of a bank on which no operation runs, starts its drain (R65). -/
theorem writeMemPwr_down_drains (hcause : downCause s lt b.toNat = none) :
    writeMemPwr s lt (pwrWord b false) = setBank (bankAsked s lt b false) lt b.toNat .draining := by
  simp only [writeMemPwr_pwrWord, h, Bool.false_eq_true, if_false, startBank, downCause_bankAsked, hcause]

theorem writeMemPwr_down_refused {c : Nat} (hcause : downCause s lt b.toNat = some c) :
    writeMemPwr s lt (pwrWord b false) = refuseBank (bankAsked s lt b false) lt c := by
  simp only [writeMemPwr_pwrWord, h, Bool.false_eq_true, if_false, startBank, downCause_bankAsked, hcause]

end Down

/-- The causes of a refusal fit the field (R65). -/
theorem downCause_lt {s : State} {lt b c : Nat} (h : downCause s lt b = some c) : c < 8 := by
  unfold downCause at h
  split_ifs at h <;> cases h <;> decide

/-! ### Contents -/

theorem memGet_filter {m : Memory} (h : Memory.wf m = true) (p : Nat → Bool) (a : Nat) :
    memGet (m.filter fun c => p c.1) a = if p a then memGet m a else memDefault := by
  suffices hgen : ∀ lo, memWfFrom lo m = true → memGet (m.filter fun c => p c.1) a = if p a then memGet m a else memDefault from hgen 0 h
  clear h
  induction m with
  | nil => intro lo _; simp [memGet]
  | cons c r ih =>
    intro lo h
    obtain ⟨x, v⟩ := c
    simp only [memWfFrom, Bool.and_eq_true] at h
    obtain ⟨-, hr⟩ := h
    have hrest := ih (x + 1) hr
    have hbelow : a < x → memGet (r.filter fun c => p c.1) a = memDefault := fun hax =>
      memGet_below (memWfFrom_filter (fun c => p c.1) hr) (by omega)
    rw [List.filter_cons]
    by_cases hp : p x = true
    · rw [if_pos hp, memGet, memGet, hrest]
      split_ifs with hxa hpa hpa <;> simp_all
    · rw [if_neg hp]
      by_cases hxa : x = a
      · rw [hrest, ← hxa, if_neg hp, if_neg hp]
      · by_cases hax : a < x
        · rw [hbelow hax, memGet, if_neg hxa, if_pos hax, ite_self]
        · rw [hrest, memGet, if_neg hxa, if_neg hax]

/-- A bank that has gone off or come on reads as zero, and every other byte as before (R66, R67). -/
theorem eraseBank_setBank {s : State} {lt : Nat} (h : Memory.wf (s.tile lt).mem = true) (b : Nat) (x : BankSt) :
    ((eraseBank (setBank s lt b x) lt b).tile lt).bank b = x ∧
      (∀ a, memGet ((eraseBank (setBank s lt b x) lt b).tile lt).mem a =
        if bankOf (interleavedOf s lt) a = b then 0 else memGet (s.tile lt).mem a) ∧
      ∀ y, y ≠ lt → (eraseBank (setBank s lt b x) lt b).tile y = s.tile y := by
  have hmap : interleavedOf (setBank s lt b x) lt = interleavedOf s lt := congrArg (bit · 0) (State.treg_modTile (by rfl) lt regMemCfg)
  refine ⟨by simp [eraseBank, setBank, Tile.bank], fun a => ?_, fun y hy => ?_⟩
  · rw [eraseBank, State.tile_modTile_self, hmap]
    simp only [setBank, State.tile_modTile_self]
    rw [memGet_filter h (fun a => bankOf (interleavedOf s lt) a != b)]
    by_cases hb : bankOf (interleavedOf s lt) a = b <;> simp [hb, memDefault]
  · rw [eraseBank, State.tile_modTile_ne _ _ hy, setBank, State.tile_modTile_ne _ _ hy]

/-! ### Reads of words in error -/

theorem accessBlind_mem : AccessBlind Tile.mem where
  recorder _ _ := rfl
  isolated _ _ := rfl
  isoBanks _ _ := rfl
  regs _ _ _ _ := rfl
  errs _ _ := rfl
  counters _ _ := rfl
  eccRegs _ _ _ _ := rfl

theorem accessBlind_scrubPos : AccessBlind Tile.scrubPos where
  recorder _ _ := rfl
  isolated _ _ := rfl
  isoBanks _ _ := rfl
  regs _ _ _ _ := rfl
  errs _ _ := rfl
  counters _ _ := rfl
  eccRegs _ _ _ _ := rfl

theorem reportBlind_errs : ReportBlind Tile.errs where
  recorder _ _ := rfl
  isolated _ _ := rfl
  isoBanks _ _ := rfl
  regs _ _ _ _ := rfl

/-- A single-bit error is corrected (R63). -/
theorem wordErr_eccCorrect (s : State) (lt w : Nat) : wordErr (eccCorrect s lt w) lt w = 0 := by
  unfold eccCorrect
  extract_lets s1 s2
  rw [wordErr, (reportBlind_errs.reportCE s2 _ _ _).tile lt, State.setTfld_tile_errs, State.tile_modTile_self]
  exact kvGet_kvDel_self _ _ _

/-- A double-bit error poisons its word (R63). -/
theorem wordErr_eccUncorr (s : State) (lt w : Nat) : wordErr (eccUncorr s lt w) lt w = 2 := by
  unfold eccUncorr
  extract_lets s1 e e1 s2 s3
  rw [wordErr, (reportBlind_errs.reportUE s3 _ _ _ _).tile lt, State.setTreg_tile_errs, State.setTreg_tile_errs, State.tile_modTile_self]
  exact kvGet_kvSet_self _ _ _ _

/-- What the read of a word in error answers and leaves (R63). -/
theorem touchRead_of_error {s : State} {lt w : Nat} (hopen : wordBlocked s lt w = none) :
    (wordErr s lt w = 1 → touchRead s lt w = (eccCorrect s lt w, none)) ∧
      (2 ≤ wordErr s lt w → touchRead s lt w = (eccUncorr s lt w, some stEccUncorr)) := by
  refine ⟨fun h => ?_, fun h => ?_⟩
  · simp [touchRead, hopen, h]
  · simp [touchRead, hopen, h]

theorem AccessBlind.scrubLine {β : Type} {o : Tile → β} (ho : AccessBlind o) (s : State) (lt i b : Nat) : Kept o s (scrubLine lt i s b) := by
  unfold Machine.scrubLine
  split
  · exact Kept.foldl (fun u w => ho.touchRead u lt w) _ _
  · exact Kept.refl o s

/-- The lines of the banks that the scrubber reads in one step (R64). -/
def scrubLines (s : State) (lt : Nat) : State := (List.range 64).foldl (scrubLine lt (s.tile lt).scrubPos) s

theorem AccessBlind.scrubLines {β : Type} {o : Tile → β} (ho : AccessBlind o) (s : State) (lt : Nat) : Kept o s (scrubLines s lt) :=
  Kept.foldl (fun u n => ho.scrubLine u lt _ n) _ _

/-- The scrubber goes on to the next line. -/
def scrubNext (t : Tile) : Tile := { t with scrubPos := (t.scrubPos + 1) % bankLines }

theorem scrubNext_mem (t : Tile) : (scrubNext t).mem = t.mem := rfl

theorem exec_scrubTick {s : State} {lt : Nat} (hlt : lt < 1320) (hscrub : s.tbit lt regMemCfg 1 = true) (hrun : unitsStop s lt = false) :
    exec (.scrubTick lt) s = .next ((scrubLines s lt).modTile lt scrubNext) := by
  show execScrubTick lt s = _
  rw [execScrubTick, onTile_of_lt hlt, hscrub, hrun]
  rfl

/-! ### The statement -/

section Superior
variable {s : State} {lt : Nat} {lv : Level} (b : BitVec 6) (hlt : lt < 1320) (hlv : lv ≠ .u)
include hlt hlv

/-- From S or M a power-down of a bank that is on, and that nothing excludes, starts its drain (R65, R66). -/
theorem bankPowerDown_drains (hon : (s.tile lt).bank b.toNat = .on) (hcause : downCause s lt b.toNat = none) :
    ∃ t, exec (.bankPowerDown lt lv b) s = .next t ∧ (t.tile lt).bank b.toNat = .draining ∧ sameMemory s t := by
  have hw := writeMemPwr_down_drains (b := b) (by simp [bankBusy, hon]) hcause
  rw [exec_bankPowerDown b hlt hlv, hw]
  exact ⟨_, rfl, bank_setBank _ _ _ _,
    sameMemory_accessReply _ _ _ (sameMemory_trans (sameMemory_bankAsked s lt b false) (sameMemory_setBank _ _ _ _))⟩

theorem bankPowerDown_refused {c : Nat} (hidle : (s.tile lt).bank b.toNat = .on ∨ (s.tile lt).bank b.toNat = .off)
    (hc : downCause s lt b.toNat = some c) :
    ∃ t, exec (.bankPowerDown lt lv b) s = .next t ∧ (t.tile lt).bank b.toNat = (s.tile lt).bank b.toNat ∧
      t.tbit lt regMemPwrStatus 9 = true ∧ t.tfld lt regMemPwrStatus 12 10 = c ∧ sameMemory s t := by
  have hw := writeMemPwr_down_refused (b := b) (by rcases hidle with h | h <;> simp [bankBusy, h]) hc
  obtain ⟨hmark, hfld, hbank, hmem⟩ := refuseBank_marks (bankAsked s lt b false) lt (downCause_lt hc)
  rw [exec_bankPowerDown b hlt hlv, hw]
  refine ⟨_, rfl, ?_, ?_, ?_, sameMemory_accessReply _ _ _ (sameMemory_trans (sameMemory_bankAsked s lt b false) hmem)⟩
  · rw [accessReply_tile, hbank, bank_bankAsked]
  · rw [accessReply_tbit, hmark]
  · rw [accessReply_tfld, hfld]

theorem bankPowerUp_ramps (hoff : (s.tile lt).bank b.toNat = .off) :
    ∃ t, exec (.bankPowerUp lt lv b) s = .next t ∧ (t.tile lt).bank b.toNat = .ramping ∧ sameMemory s t := by
  have hw : writeMemPwr s lt (pwrWord b true) = setBank (bankAsked s lt b true) lt b.toNat .ramping := by
    simp [writeMemPwr_pwrWord, bankBusy, hoff, startBank, bank_bankAsked]
  rw [exec_bankPowerUp b hlt hlv, hw]
  exact ⟨_, rfl, bank_setBank _ _ _ _,
    sameMemory_accessReply _ _ _ (sameMemory_trans (sameMemory_bankAsked s lt b true) (sameMemory_setBank _ _ _ _))⟩

theorem bankPowerUp_refused (hon : (s.tile lt).bank b.toNat = .on) :
    ∃ t, exec (.bankPowerUp lt lv b) s = .next t ∧ (t.tile lt).bank b.toNat = .on ∧ t.tbit lt regMemPwrStatus 9 = true ∧
      t.tfld lt regMemPwrStatus 12 10 = 6 ∧ sameMemory s t := by
  have hw : writeMemPwr s lt (pwrWord b true) = refuseBank (bankAsked s lt b true) lt 6 := by
    simp [writeMemPwr_pwrWord, bankBusy, hon, startBank, bank_bankAsked]
  obtain ⟨hmark, hfld, hbank, hmem⟩ := refuseBank_marks (bankAsked s lt b true) lt (c := 6) (by decide)
  rw [exec_bankPowerUp b hlt hlv, hw]
  refine ⟨_, rfl, ?_, ?_, ?_, sameMemory_accessReply _ _ _ (sameMemory_trans (sameMemory_bankAsked s lt b true) hmem)⟩
  · rw [accessReply_tile, hbank, bank_bankAsked, hon]
  · rw [accessReply_tbit, hmark]
  · rw [accessReply_tfld, hfld]

theorem bankPowerUp_waits (hbusy : (s.tile lt).bank b.toNat = .draining ∨ (s.tile lt).bank b.toNat = .ramping) :
    ∃ t, exec (.bankPowerUp lt lv b) s = .next t ∧ bankWaits t lt b.toNat = bankWaits s lt b.toNat ++ [true] ∧
      (t.tile lt).bank b.toNat = (s.tile lt).bank b.toNat ∧ sameMemory s t := by
  have hw : writeMemPwr s lt (pwrWord b true) = setBankWaits (bankAsked s lt b true) lt b.toNat (bankWaits s lt b.toNat ++ [true]) := by
    rcases hbusy with h | h <;> simp [writeMemPwr_pwrWord, bankBusy, h]
  rw [exec_bankPowerUp b hlt hlv, hw]
  exact ⟨_, rfl, bankWaits_setBankWaits _ _ _ _, (bank_setBankWaits _ _ _ _ _).trans (bank_bankAsked ..),
    sameMemory_accessReply _ _ _ (sameMemory_trans (sameMemory_bankAsked s lt b true) (sameMemory_setBankWaits _ _ _ _))⟩

end Superior

section Progress
variable {s : State} {lt : Nat} (b : BitVec 6) (hlt : lt < 1320)
include hlt

theorem exec_bankPowerOffDone (h : (s.tile lt).bank b.toNat = .draining) :
    exec (.bankPowerOffDone lt b) s = .next (eraseBank (setBank s lt b.toNat .off) lt b.toNat) := by
  show execBankPowerOffDone lt b s = _
  rw [execBankPowerOffDone, onTile_of_lt hlt, if_pos h]

theorem exec_bankPowerUpDone (h : (s.tile lt).bank b.toNat = .ramping) :
    exec (.bankPowerUpDone lt b) s = .next (eraseBank (setBank s lt b.toNat .on) lt b.toNat) := by
  show execBankPowerUpDone lt b s = _
  rw [execBankPowerUpDone, onTile_of_lt hlt, if_pos h]

theorem bankPowerQueuedStart_ramps {rest : List Bool} (hq : bankWaits s lt b.toNat = true :: rest) (hoff : (s.tile lt).bank b.toNat = .off) :
    ∃ t, exec (.bankPowerQueuedStart lt b) s = .next t ∧ (t.tile lt).bank b.toNat = .ramping ∧ bankWaits t lt b.toNat = rest ∧ sameMemory s t := by
  refine ⟨setBank (bankTaken s lt b rest) lt b.toNat .ramping, ?_, bank_setBank _ _ _ _, ?_, ?_⟩
  · have hidle : ((bankTaken s lt b rest).tile lt).bank b.toNat ≠ .on := by rw [bank_bankTaken, hoff]; decide
    show execBankPowerQueuedStart lt b s = _
    rw [execBankPowerQueuedStart, onTile_of_lt hlt, hq]
    dsimp only
    rw [if_neg (by simp [bankBusy, hoff]), ← bankTaken, startBank, if_pos rfl, if_neg hidle]
  · exact (congrArg (kvGet [] · b.toNat) (State.tile_modTile_keeps (g := fun t => { t with banks := kvSet t.banks b.toNat .ramping })
      Tile.bankQ rfl lt)).trans (bankWaits_bankTaken s lt b rest)
  · exact sameMemory_trans (sameMemory_bankTaken s lt b rest) (sameMemory_setBank _ _ _ _)

theorem scrubTick_advances (hscrub : s.tbit lt regMemCfg 1 = true) (hrun : unitsStop s lt = false) :
    ∃ t, exec (.scrubTick lt) s = .next t ∧ (t.tile lt).scrubPos = ((s.tile lt).scrubPos + 1) % 10240 ∧ sameMemory s t := by
  refine ⟨_, exec_scrubTick hlt hscrub hrun, ?_, ((accessBlind_mem.scrubLines s lt).trans (Kept.modTile scrubNext (scrubNext_mem _))).sameMemory⟩
  rw [State.tile_modTile_self, scrubNext, (accessBlind_scrubPos.scrubLines s lt).tile lt, bankLines]

end Progress

/-- Settles O30: a request is decided in `bankAsked`, where the bank and what excludes its power-down read as before; erasure filters the memory. -/
theorem bankPower : Obligations.BankPower := by
  unfold Obligations.BankPower
  refine ⟨fun s lt lv b hlt hlv => ⟨fun hon hmap hbolt hlwin hsaved => ?_, fun c => bankPowerDown_refused b hlt hlv,
      bankPowerUp_ramps b hlt hlv, bankPowerUp_refused b hlt hlv, bankPowerUp_waits b hlt hlv⟩,
    fun s lt b hlt => ⟨fun p hp hst hwf => ?_, fun rest => bankPowerQueuedStart_ramps b hlt, scrubTick_advances hlt⟩,
    fun s lt w hopen => ⟨fun h => ?_, fun h => ?_⟩⟩
  · exact bankPowerDown_drains b hlt hlv hon (by simp [downCause, bankRange, hmap, hbolt, hlwin, hsaved, hon])
  · rcases List.mem_pair.mp hp with rfl | rfl
    · exact ⟨_, exec_bankPowerOffDone b hlt hst, eraseBank_setBank hwf b.toNat .off⟩
    · exact ⟨_, exec_bankPowerUpDone b hlt hst, eraseBank_setBank hwf b.toNat .on⟩
  · rw [(touchRead_of_error hopen).1 h]
    exact ⟨rfl, wordErr_eccCorrect s lt w, (accessBlind_mem.eccCorrect s lt w).sameMemory⟩
  · rw [(touchRead_of_error hopen).2 h]
    exact ⟨rfl, wordErr_eccUncorr s lt w, (accessBlind_mem.eccUncorr s lt w).sameMemory⟩

end Sys2Proof.Machine
end

section
/-!
O14: the registers of Bolts and landing windows.
-/
namespace Sys2Proof.Machine

open Sys2Proof

/-! ### Messages that are sent -/

@[simp] theorem standing_fabSend (s : State) (d : Nat) (m : NetMsg) : standing (fabSend s d m) = standing s := by
  unfold fabSend
  split
  · split
    · exact standing_fabPost s d _
    · exact foldl_keeps standing (fun st x => standing_fabPost st d x) _ _
  case h_6 => rfl
  all_goals exact standing_fabPost s d _

@[simp] theorem standing_netSend (s : State) (m : NetMsg) : standing (netSend s m) = standing s := by
  unfold netSend
  split
  · exact standing_fabSend s _ m
  · exact standing_push s m

/-- A message that is sent leaves every tile. -/
theorem netSend_tiles (s : State) (m : NetMsg) : (netSend s m).tiles = s.tiles := congrArg Standing.tiles (standing_netSend s m)

@[simp] theorem netSend_tile (s : State) (m : NetMsg) (x : Nat) : (netSend s m).tile x = s.tile x := by
  rw [State.tile, netSend_tiles, State.tile]

/-- A queue of requests that is refused is empty; nothing else changes in the tile (R288). -/
theorem refuseQueue_tile (s : State) (lt g x : Nat) :
    (refuseQueue s lt g).tile x = (s.modTile lt (fun t => { t with reqQ := kvSet t.reqQ g [] })).tile x := by
  unfold refuseQueue
  extract_lets q s1
  have htiles : ∀ l : List CreditMsg, (l.foldl (fun st m => netSend st (.credit m.peer.toNat 4
      { m with status := stPeerClosed, kind := 0, creditTag := 0, peer := BitVec.ofNat 64 (tileGa st lt), am := false })) s1).tiles = s1.tiles :=
    fun l => foldl_keeps State.tiles (fun st m => netSend_tiles st _) l s1
  rw [State.tile, htiles q, ← State.tile]

theorem refuseQueue_treg (s : State) (lt g x off : Nat) : (refuseQueue s lt g).treg x off = s.treg x off := by
  rw [State.treg, refuseQueue_tile]
  exact State.treg_modTile (g := fun t => { t with reqQ := kvSet t.reqQ g [] }) rfl x off

theorem refuseQueue_reqQ (s : State) (lt g : Nat) : kvGet [] ((refuseQueue s lt g).tile lt).reqQ g = [] := by
  rw [refuseQueue_tile, State.tile_modTile_self]
  exact kvGet_kvSet_self _ _ _ _

theorem sameMemory_refuseQueue (s : State) (lt g : Nat) : sameMemory s (refuseQueue s lt g) := fun x a => by
  rw [refuseQueue_tile]
  exact Kept.sameMemory (Kept.modTile (fun t => { t with reqQ := kvSet t.reqQ g [] }) rfl) x a

/-! ### Words written -/

theorem sameMemory_setTreg (s : State) (lt off : Nat) (v : Word) : sameMemory s (s.setTreg lt off v) := fun x a => by simp

theorem sameMemory_setTfld (s : State) (lt off hi lo v : Nat) : sameMemory s (s.setTfld lt off hi lo v) := fun x a => by simp

theorem sameMemory_setTbit (s : State) (lt off i : Nat) (v : Bool) : sameMemory s (s.setTbit lt off i v) := fun x a => by simp

theorem bit_and {n : Nat} (w m : BitVec n) (i : Nat) : bit (w &&& m) i = (bit w i && bit m i) := BitVec.getLsbD_and

/-- A mask with ones in a field leaves the field. -/
theorem fld_and_of_ones {n : Nat} (w : BitVec n) {m : BitVec n} {hi lo : Nat} (h : ∀ i, lo ≤ i → i ≤ hi → bit m i = true) :
    fld (w &&& m) hi lo = fld w hi lo := by
  refine Nat.eq_of_testBit_eq fun i => ?_
  simp only [fld, BitVec.toNat_and, Nat.testBit_mod_two_pow, Nat.testBit_div_two_pow, Nat.testBit_and]
  by_cases hi' : i < hi + 1 - lo
  · have hone : m.toNat.testBit (i + lo) = true := h (i + lo) (by omega) (by omega)
    simp [hone]
  · simp [hi']

/-! ### Configuration -/

/-- The configuration that a write setting EN of a closed Bolt asks for (R69). -/
def cfgAsked (v : Word) : Word := setBit v 0 true &&& boltCfgMask

theorem cfgAsked_en (v : Word) : bit (cfgAsked v) 0 = true := by
  rw [cfgAsked, bit_and, bit_setBit_same v true (by decide)]; decide

theorem writeBoltCfg_opening {s : State} {lt b : Nat} (v : Word) (howned : (s.tile lt).boltOwned.contains b = false)
    (hclosed : bit (boltCfg s lt b) 0 = false) :
    writeBoltCfg s lt b (setBit v 0 true) =
      if boltCfgValid s lt b (cfgAsked v) then s.setTreg lt (regBoltCfg b) (cfgAsked v)
      else (s.setTreg lt (regBoltCfg b) (setBit (cfgAsked v) 0 false)).setTbit lt (regBoltStatus b) 5 true := by
  rw [writeBoltCfg, howned, hclosed, ← cfgAsked]
  dsimp only
  rw [cfgAsked_en]
  rfl

theorem writeBoltCfg_closing {s : State} {lt b : Nat} (v : Word) (howned : (s.tile lt).boltOwned.contains b = false)
    (hopen : bit (boltCfg s lt b) 0 = true) :
    writeBoltCfg s lt b (setBit v 0 false) =
      refuseQueue (s.setTreg lt (regBoltCfg b) (setBit (setBit (boltCfg s lt b) 1 (bit (setBit v 0 false) 1)) 0 false)) lt b := by
  rw [writeBoltCfg, howned, hopen, bit_setBit_same v false (by decide)]
  rfl

/-! ### Counters -/

theorem writeBoltCounter_of_clear {s : State} {lt b : Nat} (w : BoltCounter) (v : Word) (hclosed : bit (boltCfg s lt b) 0 = false)
    (hgranted : s.tfld lt (regBoltGranted b) 19 0 = 0) (hwindow : boltWindow s lt b = []) (howned : (s.tile lt).boltOwned.contains b = false) :
    writeBoltCounter s lt b w v = (setOvfMsgs s lt b []).setTreg lt (counterReg b w) (v &&& 0xFFFFF) := by
  rw [writeBoltCounter, hclosed, hgranted, hwindow, howned]
  rfl

theorem writeBoltCounter_of_busy {s : State} {lt b : Nat} (w : BoltCounter) (v : Word)
    (h : bit (boltCfg s lt b) 0 = true ∨ s.tfld lt (regBoltGranted b) 19 0 ≠ 0 ∨ boltWindow s lt b ≠ []) : writeBoltCounter s lt b w v = s := by
  rw [writeBoltCounter, if_pos]
  rcases h with h | h | h <;> simp [h]

/-! ### Landing windows -/

/-- The word that a write setting EN of a closed landing window stores (R82). -/
def lwinAsked (v : Word) : Word := setBit v 0 true &&& 0x03FFF001

theorem lwinAsked_en (v : Word) : bit (lwinAsked v) 0 = true := by
  rw [lwinAsked, bit_and, bit_setBit_same v true (by decide)]; decide

theorem lwinAsked_base (v : Word) : fld (lwinAsked v) 25 12 = fld v 25 12 := by
  rw [lwinAsked, fld_and_of_ones _ (by decide), setBit, fld_setFld_of_disjoint v _ (by decide) (by decide)]

theorem writeLwinBase_opening {s : State} {lt m : Nat} (v : Word) (hclosed : s.tbit lt (regMemLwinBase m) 0 = false)
    (hsize : 1 ≤ (lwinRange v (s.treg lt (regMemLwinSize m))).2)
    (hvisible : visible (lwinRange v (s.treg lt (regMemLwinSize m))).1 (lwinRange v (s.treg lt (regMemLwinSize m))).2 = true)
    (hbolt : meetsBolt s lt (lwinRange v (s.treg lt (regMemLwinSize m))) 64 = false) :
    writeLwinBase s lt m (setBit v 0 true) = s.setTreg lt (regMemLwinBase m) (lwinAsked v) := by
  have hrange : lwinRange (lwinAsked v) (s.treg lt (regMemLwinSize m)) = lwinRange v (s.treg lt (regMemLwinSize m)) := by
    rw [lwinRange, lwinAsked_base, lwinRange]
  have hclosed' : bit (s.treg lt (regMemLwinBase m)) 0 = false := hclosed
  rw [writeLwinBase, hclosed', ← lwinAsked]
  dsimp only
  rw [hrange, hvisible, hbolt, decide_eq_true hsize, if_neg (by decide), if_neg (by simp)]

theorem tfld_writeLwinRel (s : State) (lt m : Nat) (v : Word) :
    (writeLwinRel s lt m v).tfld lt (regMemLwinCred m) 25 0 =
      s.tfld lt (regMemLwinCred m) 25 0 - min (s.tfld lt (regMemLwinCred m) 25 0) (fld v 25 0) :=
  State.tfld_setTfld_same s lt _ (by decide) (lt_of_le_of_lt (Nat.sub_le _ _) (State.tfld_lt s lt _ 25 0))

/-! ### Stalls -/

theorem reportBlind_waits (w : Wait) : ReportBlind (someoneWaits · w) where
  recorder _ _ := rfl
  isolated _ _ := rfl
  isoBanks _ _ := rfl
  regs _ _ _ _ := rfl

/-- The state of a Bolt whose core waits past the timeout (R73). -/
def boltStalled (s : State) (lt b : Nat) : State := s.setTbit lt (regBoltStatus b) 2 true

theorem exec_boltStallTimeout {s : State} {lt : Nat} {b : BitVec 6} (hlt : lt < 1320) (hwait : someoneWaits (s.tile lt) (.bolt b.toNat) = true) :
    exec (.boltStallTimeout lt b) s = .next (skbEvent (boltStalled s lt b.toNat) (.tile lt) 0x03
      [b.toNat, boltHead s lt b.toNat, boltCommit s lt b.toNat, boltReserve s lt b.toNat]) := by
  show execBoltStallTimeout lt b s = _
  rw [execBoltStallTimeout, onTile_of_lt hlt, if_pos hwait, boltStalled]

theorem boltStallTimeout_waits {s : State} {lt : Nat} {b : BitVec 6} (hlt : lt < 1320)
    (hwait : someoneWaits (s.tile lt) (.bolt b.toNat) = true) :
    ∃ t, exec (.boltStallTimeout lt b) s = .next t ∧ t.tbit lt (regBoltStatus b.toNat) 2 = true ∧
      someoneWaits (t.tile lt) (.bolt b.toNat) = true ∧ sameMemory s t := by
  have hreg : ReportBlind (regAt (regBoltStatus b.toNat)) := reportBlind_regAt (by simp only [regBoltStatus, regSkbLost]; omega)
    (by simp only [regBoltStatus, regRasTileStatus]; omega)
  refine ⟨_, exec_boltStallTimeout hlt hwait, ?_, ?_, ?_⟩
  · rw [State.tbit, (hreg.skbEvent (boltStalled s lt b.toNat) _ _ _).treg lt, ← State.tbit, boltStalled]
    exact State.tbit_setTbit_same s lt _ true (by decide)
  · rw [((reportBlind_waits _).skbEvent (boltStalled s lt b.toNat) _ _ _).tile lt, ← hwait, boltStalled]
    simp only [someoneWaits, State.setTbit_tile_tcc, State.setTbit_tile_lanes]
  · exact sameMemory_trans (sameMemory_setTbit s lt _ _ _) (accessBlind_mem.toReportBlind.skbEvent (boltStalled s lt b.toNat) _ _ _).sameMemory

/-! ### The statement -/

section Privileged
variable {s : State} {lt : Nat} {lv : Level} (b : BitVec 6) (m : BitVec 4) (v : Word) (hlt : lt < 1320) (hlv : lv ≠ .u)
include hlt hlv

theorem exec_boltEnable : exec (.boltEnable lt lv b v) s = .next (accessReply (writeBoltCfg s lt b.toNat (setBit v 0 true)) stOk 0) := by
  show regCommand lt lv (fun s => writeBoltCfg s lt b.toNat (setBit v 0 true)) s = _
  rw [regCommand_of_privileged hlt hlv]

theorem exec_boltClose : exec (.boltClose lt lv b v) s = .next (accessReply (writeBoltCfg s lt b.toNat (setBit v 0 false)) stOk 0) := by
  show regCommand lt lv (fun s => writeBoltCfg s lt b.toNat (setBit v 0 false)) s = _
  rw [regCommand_of_privileged hlt hlv]

theorem exec_boltCounterWrite (w : BoltCounter) :
    exec (.boltCounterWrite lt lv b w v) s = .next (accessReply (writeBoltCounter s lt b.toNat w v) stOk 0) := by
  show regCommand lt lv (fun s => writeBoltCounter s lt b.toNat w v) s = _
  rw [regCommand_of_privileged hlt hlv]

theorem exec_lwinEnable : exec (.lwinEnable lt lv m v) s = .next (accessReply (writeLwinBase s lt m.toNat (setBit v 0 true)) stOk 0) := by
  show regCommand lt lv (fun s => writeLwinBase s lt m.toNat (setBit v 0 true)) s = _
  rw [regCommand_of_privileged hlt hlv]

theorem exec_lwinRelease : exec (.lwinRelease lt lv m v) s = .next (accessReply (writeLwinRel s lt m.toNat v) stOk 0) := by
  show regCommand lt lv (fun s => writeLwinRel s lt m.toNat v) s = _
  rw [regCommand_of_privileged hlt hlv]

theorem boltEnable_opens (howned : (s.tile lt).boltOwned.contains b.toNat = false) (hclosed : bit (boltCfg s lt b.toNat) 0 = false)
    (hvalid : boltCfgValid s lt b.toNat (cfgAsked v) = true) :
    ∃ t, exec (.boltEnable lt lv b v) s = .next t ∧ boltCfg t lt b.toNat = cfgAsked v ∧ bit (boltCfg t lt b.toNat) 0 = true ∧
      t.replies = s.replies ++ [⟨0, 0, leBytes 4 0⟩] ∧ sameMemory s t := by
  rw [exec_boltEnable b v hlt hlv, writeBoltCfg_opening v howned hclosed, if_pos hvalid]
  have hcfg : boltCfg (accessReply (s.setTreg lt (regBoltCfg b.toNat) (cfgAsked v)) stOk 0) lt b.toNat = cfgAsked v := by
    rw [boltCfg, accessReply_treg, State.treg_setTreg_self]
  refine ⟨_, rfl, hcfg, ?_, rfl, sameMemory_accessReply _ _ _ (sameMemory_setTreg s lt _ _)⟩
  rw [hcfg, cfgAsked_en]

theorem boltEnable_refused (howned : (s.tile lt).boltOwned.contains b.toNat = false) (hclosed : bit (boltCfg s lt b.toNat) 0 = false)
    (hvalid : boltCfgValid s lt b.toNat (cfgAsked v) = false) :
    ∃ t, exec (.boltEnable lt lv b v) s = .next t ∧ bit (boltCfg t lt b.toNat) 0 = false ∧ t.tbit lt (regBoltStatus b.toNat) 5 = true ∧
      sameMemory s t := by
  have hne : regBoltCfg b.toNat ≠ regBoltStatus b.toNat := by simp only [regBoltCfg, regBoltStatus]; omega
  rw [exec_boltEnable b v hlt hlv, writeBoltCfg_opening v howned hclosed, if_neg (by simp [hvalid])]
  refine ⟨_, rfl, ?_, ?_, sameMemory_accessReply _ _ _ (sameMemory_trans (sameMemory_setTreg s lt _ _) (sameMemory_setTbit _ lt _ _ _))⟩
  · rw [boltCfg, accessReply_treg, State.treg_setTbit_off_ne _ _ _ _ _ hne, State.treg_setTreg_self, bit_setBit_same _ false (by decide)]
  · rw [accessReply_tbit, State.tbit_setTbit_same _ _ _ true (by decide)]

theorem boltClose_closes (howned : (s.tile lt).boltOwned.contains b.toNat = false) (hopen : bit (boltCfg s lt b.toNat) 0 = true) :
    ∃ t, exec (.boltClose lt lv b v) s = .next t ∧ bit (boltCfg t lt b.toNat) 0 = false ∧ kvGet [] (t.tile lt).reqQ b.toNat = [] ∧
      sameMemory s t := by
  rw [exec_boltClose b v hlt hlv, writeBoltCfg_closing v howned hopen]
  refine ⟨_, rfl, ?_, ?_, sameMemory_accessReply _ _ _ (sameMemory_trans (sameMemory_setTreg s lt _ _) (sameMemory_refuseQueue _ lt _))⟩
  · rw [boltCfg, accessReply_treg, refuseQueue_treg, State.treg_setTreg_self, bit_setBit_same _ false (by decide)]
  · rw [accessReply_tile, refuseQueue_reqQ]

theorem lwinEnable_opens (hclosed : s.tbit lt (regMemLwinBase m.toNat) 0 = false)
    (hsize : 1 ≤ (lwinRange v (s.treg lt (regMemLwinSize m.toNat))).2)
    (hvisible : visible (lwinRange v (s.treg lt (regMemLwinSize m.toNat))).1 (lwinRange v (s.treg lt (regMemLwinSize m.toNat))).2 = true)
    (hbolt : meetsBolt s lt (lwinRange v (s.treg lt (regMemLwinSize m.toNat))) 64 = false) :
    ∃ t, exec (.lwinEnable lt lv m v) s = .next t ∧ t.tbit lt (regMemLwinBase m.toNat) 0 = true ∧
      fld (t.treg lt (regMemLwinBase m.toNat)) 25 12 = fld v 25 12 ∧ sameMemory s t := by
  rw [exec_lwinEnable m v hlt hlv, writeLwinBase_opening v hclosed hsize hvisible hbolt]
  refine ⟨_, rfl, ?_, ?_, sameMemory_accessReply _ _ _ (sameMemory_setTreg s lt _ _)⟩
  · rw [accessReply_tbit, State.tbit, State.treg_setTreg_self, lwinAsked_en]
  · rw [accessReply_treg, State.treg_setTreg_self, lwinAsked_base]

theorem lwinRelease_releases : ∃ t, exec (.lwinRelease lt lv m v) s = .next t ∧
    t.tfld lt (regMemLwinCred m.toNat) 25 0 =
      s.tfld lt (regMemLwinCred m.toNat) 25 0 - min (s.tfld lt (regMemLwinCred m.toNat) 25 0) (fld v 25 0) ∧ sameMemory s t := by
  rw [exec_lwinRelease m v hlt hlv]
  refine ⟨_, rfl, ?_, sameMemory_accessReply _ _ _ (sameMemory_setTfld s lt _ _ _ _)⟩
  rw [accessReply_tfld, tfld_writeLwinRel]

theorem boltCounterWrite_stores (w : BoltCounter) (hclosed : bit (boltCfg s lt b.toNat) 0 = false)
    (hgranted : s.tfld lt (regBoltGranted b.toNat) 19 0 = 0) (hwindow : boltWindow s lt b.toNat = [])
    (howned : (s.tile lt).boltOwned.contains b.toNat = false) :
    ∃ t, exec (.boltCounterWrite lt lv b w v) s = .next t ∧ t.treg lt (counterReg b.toNat w) = (v &&& 0xFFFFF) ∧ sameMemory s t := by
  rw [exec_boltCounterWrite b v hlt hlv, writeBoltCounter_of_clear w v hclosed hgranted hwindow howned]
  refine ⟨_, rfl, ?_, ?_⟩
  · rw [accessReply_treg, State.treg_setTreg_self]
  · exact sameMemory_accessReply _ _ _ (sameMemory_trans (fun x a => by rw [boltBlind_mem.setOvfMsgs]) (sameMemory_setTreg _ lt _ _))

end Privileged

/-- Settles O14: each write is the function of its register, taken in the case that its premises choose. -/
theorem boltRegisters : Obligations.BoltRegisters := by
  unfold Obligations.BoltRegisters
  intro s lt lv b m v w hlt
  refine ⟨fun hlv => ⟨fun howned hclosed => ⟨boltEnable_opens b v hlt hlv howned hclosed, boltEnable_refused b v hlt hlv howned hclosed⟩,
      boltClose_closes b v hlt hlv, boltCounterWrite_stores b v hlt hlv w, fun h => ?_, lwinEnable_opens m v hlt hlv,
      lwinRelease_releases m v hlt hlv⟩, ?_, boltStallTimeout_waits hlt⟩
  · rw [exec_boltCounterWrite b v hlt hlv, writeBoltCounter_of_busy w v h]
  · rintro rfl i hi
    have huser : ∀ f, regCommand lt .u f s = .next (accessReply s stProtFault 0) := fun f => by rw [regCommand, onTile_of_lt hlt, if_pos rfl]
    simp only [List.mem_cons, List.not_mem_nil, or_false] at hi
    rcases hi with rfl | rfl | rfl | rfl | rfl
    · exact huser (fun s => writeBoltCfg s lt b.toNat (setBit v 0 true))
    · exact huser (fun s => writeBoltCfg s lt b.toNat (setBit v 0 false))
    · exact huser (fun s => writeBoltCounter s lt b.toNat w v)
    · exact huser (fun s => writeLwinBase s lt m.toNat (setBit v 0 true))
    · exact huser (fun s => writeLwinRel s lt m.toNat v)

end Sys2Proof.Machine
end

section
/-!
O31: requests for credit, grants and returns at the receiver.
-/
namespace Sys2Proof.Machine

open Sys2Proof

/-! ### Messages of this module -/

theorem msgs_pushFlight (s : State) (f : Flight) : (pushFlight s f).msgs = s.msgs ++ [f.msg] := by
  unfold pushFlight
  split
  · simp [State.msgs]
  · simp [State.msgs, inject]

/-- A credit message to a tile of this module joins those in flight. -/
theorem msgs_netSend_credit {s : State} {dst : Nat} (h : dst / 2 ^ 48 = hereId s) (typ : Nat) (c : CreditMsg) :
    (netSend s (.credit dst typ c)).msgs = s.msgs ++ [.credit dst typ c] := by
  have hnear : foreignOf s (.credit dst typ c) = none := if_pos h
  rw [netSend, hnear]
  exact msgs_pushFlight s _

theorem mem_msgs_netSend_credit {s : State} {dst : Nat} (h : dst / 2 ^ 48 = hereId s) (typ : Nat) (c : CreditMsg) :
    NetMsg.credit dst typ c ∈ (netSend s (.credit dst typ c)).msgs := by
  rw [msgs_netSend_credit h]
  exact List.mem_append_right _ (List.mem_singleton_self _)

/-- A credit message that may arrive at a tile arrives. -/
theorem onCredit_of_mayArrive {s : State} {lt typ : Nat} {m : CreditMsg} (h : mayArrive s (.credit (tileGa s lt) typ m) = true)
    (g : State → State) : onCredit s lt typ m g = g (netArrive s (.credit (tileGa s lt) typ m)) := if_pos h

/-! ### Requests -/

/-- What a request that may be granted is not: refused (R78). -/
theorem refusal_of_grantable {s : State} {lt : Nat} {m : CreditMsg} (h : Obl.grantable s lt m) : refusal s lt m = none := by
  obtain ⟨ham, htarget, hkind, hopen, hremote, -, -, -, -, -, hslots, -, -⟩ := h
  have ht : reqTarget s lt m = m.target.toNat := by simp [reqTarget, ham]
  rw [refusal, ht]
  simp only [ham, hopen, hremote, Bool.false_and, Bool.false_eq_true, if_false, Bool.not_true]
  rw [if_neg (by omega), if_pos (by omega), if_neg (by omega), if_neg (by omega)]

theorem placeFor_of_grantable {s : State} {lt : Nat} {m : CreditMsg} (h : Obl.grantable s lt m) :
    placeFor s lt m.target.toNat m.bytes.toNat = some m.target.toNat := by
  obtain ⟨-, -, -, -, -, hovf, -, -, -, -, -, hfits, -⟩ := h
  rw [placeFor, hovf]
  simp only [hfits, if_true]

/-- The slots that a request asks of a Bolt (R78). -/
def slotsAsked (s : State) (lt : Nat) (m : CreditMsg) : Nat := ceilDiv m.bytes.toNat (cfgSlot (boltCfg s lt m.target.toNat))

/-- The state in which a grant's space is reserved (R70, R78). -/
def slotsGranted (s : State) (lt : Nat) (m : CreditMsg) : State :=
  addGranted (boltTake s lt m.target.toNat (slotsAsked s lt m)) lt m.target.toNat (slotsAsked s lt m) 0

/-- The state that the grant of a request to a Bolt leaves (R78). -/
def grantMade (s : State) (lt : Nat) (m : CreditMsg) : State :=
  makeGrant (slotsGranted s lt m) lt m.target.toNat m m.target.toNat (boltReserve s lt m.target.toNat) (slotsAsked s lt m)
    (slotOff s lt m.target.toNat (boltReserve s lt m.target.toNat)) (slotsAsked s lt m * cfgSlot (boltCfg s lt m.target.toNat))

theorem tryGrant_of_grantable {s : State} {lt : Nat} {m : CreditMsg} (h : Obl.grantable s lt m) :
    tryGrant s lt m.target.toNat m = some (grantMade s lt m) := by
  have hplace := placeFor_of_grantable h
  obtain ⟨-, htarget, -, -, -, -, hlive, -, hroom, -, -, -, -⟩ := h
  rw [tryGrant, if_neg (by omega), if_pos (by omega), hplace]
  rfl

/-! ### Grants -/

/-- The entry of the grant table that a grant takes (R78). -/
def grantIndex (s : State) (lt : Nat) : Nat := (freeGrants s lt).getD (s.freeBelow (freeGrants s lt).length) 0

theorem grantIndex_mem {s : State} {lt : Nat} (h : freeGrants s lt ≠ []) : grantIndex s lt ∈ freeGrants s lt := by
  have hpos : 0 < (freeGrants s lt).length := List.length_pos_of_ne_nil h
  have hlt : s.freeBelow (freeGrants s lt).length < (freeGrants s lt).length := by
    rw [State.freeBelow, if_neg (by omega)]
    exact Nat.mod_lt _ hpos
  rw [grantIndex, List.getD_eq_getElem _ _ hlt]
  exact List.getElem_mem hlt

theorem lt_of_mem_freeGrants {s : State} {lt i : Nat} (h : i ∈ freeGrants s lt) : i < 512 := by
  have := (List.mem_filter.mp h).1
  simpa using this

theorem boltBlind_grants : BoltBlind Tile.grants := ⟨fun _ _ => rfl, fun _ _ => rfl, fun _ _ => rfl⟩

section Reserved
variable (s : State) (lt : Nat) (m : CreditMsg)

theorem grants_slotsGranted : ((slotsGranted s lt m).tile lt).grants = (s.tile lt).grants :=
  (boltBlind_grants.setTfld _ lt lt _ _ _ _).trans (boltBlind_grants.boltTake s lt _ lt _)

theorem freeGrants_slotsGranted : freeGrants (slotsGranted s lt m) lt = freeGrants s lt := by
  rw [freeGrants, grants_slotsGranted, freeGrants]

theorem treg_slotsGranted {off : Nat} (hgranted : off ≠ regBoltGranted m.target.toNat) (hreserve : off ≠ regBoltReserve m.target.toNat) :
    (slotsGranted s lt m).treg lt off = s.treg lt off :=
  (State.treg_setTfld_off_ne _ lt _ _ _ lt hgranted).trans (treg_boltTake s lt _ _ lt hreserve)

theorem boltReserve_slotsGranted (hmod : boltMod s lt m.target.toNat ≤ 2 ^ 20) :
    boltReserve (slotsGranted s lt m) lt m.target.toNat =
      (boltReserve s lt m.target.toNat + slotsAsked s lt m) % boltMod s lt m.target.toNat := by
  have hne : regBoltReserve m.target.toNat ≠ regBoltGranted m.target.toNat := by simp only [regBoltReserve, regBoltGranted]; omega
  rw [← boltReserve_boltTake s lt _ hmod, boltReserve, slotsGranted, addGranted, State.tfld_setTfld_off_ne _ _ _ _ _ _ _ _ hne, boltReserve]

/-- GRANTED grows by the slots of the grant, which its limit keeps within its register (R78, R81). -/
theorem granted_slotsGranted (hfits : boltFits s lt m.target.toNat (slotsAsked s lt m) = true) :
    (slotsGranted s lt m).tfld lt (regBoltGranted m.target.toNat) 19 0 =
      s.tfld lt (regBoltGranted m.target.toNat) 19 0 + slotsAsked s lt m := by
  have hne : regBoltGranted m.target.toNat ≠ regBoltReserve m.target.toNat := by simp only [regBoltReserve, regBoltGranted]; omega
  have htake : (boltTake s lt m.target.toNat (slotsAsked s lt m)).tfld lt (regBoltGranted m.target.toNat) 19 0 =
      s.tfld lt (regBoltGranted m.target.toNat) 19 0 := congrArg (fld · 19 0) (treg_boltTake s lt _ _ lt hne)
  have hclim := State.tfld_lt s lt (regBoltClim m.target.toNat) 19 0
  simp only [boltFits, Bool.and_eq_true, decide_eq_true_eq] at hfits
  rw [slotsGranted, addGranted, State.tfld_setTfld_same _ _ _ (by decide) (by omega), htake]
  omega

end Reserved

section Made
variable (s : State) (lt : Nat) (m : CreditMsg)

/-- The state in which GRANT is sent. -/
def grantEntered (s : State) (lt : Nat) (m : CreditMsg) : State :=
  let u := slotsGranted s lt m
  let i := grantIndex u lt
  setGrant u.drawn lt i
    { live := true, gen := (kvGet Grant.reset (u.tile lt).grants i).gen, target := BitVec.ofNat 8 m.target.toNat, sender := m.peer,
      reqTag := m.reqTag, kind := m.kind.toNat, offset := slotOff s lt m.target.toNat (boltReserve s lt m.target.toNat),
      bytes := slotsAsked s lt m * cfgSlot (boltCfg s lt m.target.toNat), bolt := m.target.toNat, start := boltReserve s lt m.target.toNat,
      slots := slotsAsked s lt m }

/-- The GRANT that answers a request. -/
def grantAnswer (s : State) (lt : Nat) (m : CreditMsg) : CreditMsg :=
  let u := slotsGranted s lt m
  let i := grantIndex u lt
  { target := BitVec.ofNat 8 m.target.toNat, reqTag := m.reqTag,
    creditTag := BitVec.ofNat 16 (i + ((kvGet Grant.reset (u.tile lt).grants i).gen % 128) * 2 ^ 9), status := stOk, kind := 0,
    bytes := BitVec.ofNat 32 (slotsAsked s lt m * cfgSlot (boltCfg s lt m.target.toNat)),
    offset := BitVec.ofNat 32 (slotOff s lt m.target.toNat (boltReserve s lt m.target.toNat)),
    peer := BitVec.ofNat 64 (tileGa (grantEntered s lt m) lt), am := false }

theorem grantMade_eq : grantMade s lt m = netSend (grantEntered s lt m) (.credit m.peer.toNat tyGrant (grantAnswer s lt m)) := rfl

theorem treg_grantMade (x off : Nat) : (grantMade s lt m).treg x off = (slotsGranted s lt m).treg x off := by
  rw [grantMade_eq, State.treg, netSend_tile]
  exact State.treg_modTile (s := (slotsGranted s lt m).drawn) (by rfl) x off

theorem sameMemory_grantMade : sameMemory s (grantMade s lt m) := fun x a => by
  have htake : ((slotsGranted s lt m).tile x).mem = (s.tile x).mem :=
    (boltBlind_mem.setTfld _ lt x _ _ _ _).trans (boltBlind_mem.boltTake s lt _ x _)
  have henter : ((grantEntered s lt m).tile x).mem = ((slotsGranted s lt m).tile x).mem :=
    State.tile_modTile_keeps (s := (slotsGranted s lt m).drawn) Tile.mem (by rfl) x
  rw [grantMade_eq, netSend_tile, henter, htake]

/-- A request that may be granted is (R70, R77, R78). -/
theorem granted_of_grantable (h : Obl.grantable s lt m) : Obl.granted s (grantMade s lt m) lt m := by
  obtain ⟨-, -, -, -, -, -, -, hfree, -, hmod, -, hfits, hhere⟩ := h
  obtain ⟨hhg, hhr⟩ : regBoltHead m.target.toNat ≠ regBoltGranted m.target.toNat ∧ regBoltHead m.target.toNat ≠ regBoltReserve m.target.toNat := by
    simp only [regBoltHead, regBoltGranted, regBoltReserve]; omega
  obtain ⟨hcg, hcr⟩ : regBoltCommit m.target.toNat ≠ regBoltGranted m.target.toNat ∧
      regBoltCommit m.target.toNat ≠ regBoltReserve m.target.toNat := by
    simp only [regBoltCommit, regBoltGranted, regBoltReserve]; omega
  have hmem : grantIndex (slotsGranted s lt m) lt ∈ freeGrants s lt := by
    rw [← freeGrants_slotsGranted s lt m]
    exact grantIndex_mem (by rw [freeGrants_slotsGranted]; exact hfree)
  have hfld : ∀ off, (grantMade s lt m).tfld lt off 19 0 = (slotsGranted s lt m).tfld lt off 19 0 := fun off =>
    congrArg (fld · 19 0) (treg_grantMade s lt m lt off)
  refine ⟨grantIndex (slotsGranted s lt m) lt, _, grantAnswer s lt m, hmem, rfl, ?_⟩
  have hentry : kvGet Grant.reset ((grantMade s lt m).tile lt).grants (grantIndex (slotsGranted s lt m) lt) =
      { live := true, gen := (kvGet Grant.reset ((slotsGranted s lt m).tile lt).grants (grantIndex (slotsGranted s lt m) lt)).gen,
        target := BitVec.ofNat 8 m.target.toNat, sender := m.peer, reqTag := m.reqTag, kind := m.kind.toNat,
        offset := slotOff s lt m.target.toNat (boltReserve s lt m.target.toNat),
        bytes := slotsAsked s lt m * cfgSlot (boltCfg s lt m.target.toNat), bolt := m.target.toNat, start := boltReserve s lt m.target.toNat,
        slots := slotsAsked s lt m } := by
    rw [grantMade_eq, netSend_tile, grantEntered, setGrant, State.tile_modTile_self]
    exact kvGet_kvSet_self _ _ _ _
  have htag : fld (grantAnswer s lt m).creditTag 8 0 = grantIndex (slotsGranted s lt m) lt := by
    have hlt := lt_of_mem_freeGrants hmem
    simp only [grantAnswer, fld, BitVec.toNat_ofNat]
    omega
  rw [hentry]
  refine ⟨rfl, BitVec.ofNat_toNat .., rfl, rfl, rfl, rfl, ?_, ?_, ?_, ?_, ?_, rfl, BitVec.ofNat_toNat .., htag, ?_, sameMemory_grantMade s lt m⟩
  · exact (hfld _).trans (boltReserve_slotsGranted s lt m hmod)
  · exact (hfld _).trans (congrArg (fld · 19 0) (treg_slotsGranted s lt m hhg hhr))
  · exact (hfld _).trans (congrArg (fld · 19 0) (treg_slotsGranted s lt m hcg hcr))
  · exact (hfld _).trans (granted_slotsGranted s lt m hfits)
  · rw [grantMade_eq]
    exact mem_msgs_netSend_credit (s := grantEntered s lt m) hhere 2 _
  · exact BitVec.toNat_ofNat ..

/-- What a grant leaves stands when the queue of requests is set. -/
theorem granted_setQueue {t : State} (target : Nat) (q : List CreditMsg) (h : Obl.granted s t lt m) :
    Obl.granted s (setQueue t lt target q) lt m := by
  have hreg : ∀ x off, (setQueue t lt target q).treg x off = t.treg x off := fun x off =>
    State.treg_modTile (g := fun y => { y with reqQ := kvSet y.reqQ target q }) rfl x off
  have hgrants : ((setQueue t lt target q).tile lt).grants = (t.tile lt).grants :=
    State.tile_modTile_keeps (g := fun y => { y with reqQ := kvSet y.reqQ target q }) Tile.grants rfl lt
  have hmem : sameMemory t (setQueue t lt target q) :=
    Kept.sameMemory (Kept.modTile (fun y => { y with reqQ := kvSet y.reqQ target q }) rfl)
  obtain ⟨i, g, a, hi, hg, hlive, htarget, hsender, hbolt, hstart, hslots, hreserve, hhead, hcommit, hgranted, hmsg, hreq, hatarget, htag, hoff,
    hsame⟩ := h
  refine ⟨i, g, a, hi, ?_, hlive, htarget, hsender, hbolt, hstart, hslots, ?_, ?_, ?_, ?_, hmsg, hreq, hatarget, htag, hoff, sameMemory_trans hsame hmem⟩
  · rw [hgrants, hg]
  · rw [boltReserve, State.tfld, hreg, ← State.tfld, ← boltReserve, hreserve]
  · rw [boltHead, State.tfld, hreg, ← State.tfld, ← boltHead, hhead]
  · rw [boltCommit, State.tfld, hreg, ← State.tfld, ← boltCommit, hcommit]
  · rw [State.tfld, hreg, ← State.tfld, hgranted]

end Made

/-! ### A request that arrives -/

section Arrives
variable {s : State} {lt : Nat} {m : CreditMsg} (hlt : lt < 1320)
include hlt

theorem exec_creditRequest (hregion : regionState s (regionOf s lt) ≠ 5) (h : mayArrive s (.credit (tileGa s lt) 1 m) = true) :
    exec (.creditRequest lt m) s = .next (onRequest (netArrive s (.credit (tileGa s lt) 1 m)) lt m) := by
  have hon : regionState (netArrive s (.credit (tileGa s lt) 1 m)) (regionOf (netArrive s (.credit (tileGa s lt) 1 m)) lt) ≠ 5 := hregion
  show execCreditRequest lt m s = _
  rw [execCreditRequest, onTile_of_lt hlt, onCredit_of_mayArrive h, if_neg hon]

theorem exec_creditReturn (h : mayArrive s (.credit (tileGa s lt) 5 m) = true) :
    exec (.creditReturn lt m) s = .next (onReturn (netArrive s (.credit (tileGa s lt) 5 m)) lt m) := by
  show execCreditReturn lt m s = _
  rw [execCreditReturn, onTile_of_lt hlt, onCredit_of_mayArrive h]

theorem exec_creditGrantDeferred (target : BitVec 8) :
    exec (.creditGrantDeferred lt target) s = .next (onDeferred s lt target.toNat) := by
  show execCreditGrantDeferred lt target s = _
  rw [execCreditGrantDeferred, onTile_of_lt hlt]

end Arrives

section Request
variable {s : State} {lt : Nat} {m : CreditMsg}

/-- The answer of tile `lt` to a request. -/
def answerMsg (s : State) (lt : Nat) (m : CreditMsg) (st : Status) (bytes : Nat) : CreditMsg :=
  { target := m.target, reqTag := m.reqTag, creditTag := 0, status := st, kind := 0, bytes := BitVec.ofNat 32 bytes, offset := 0,
    peer := BitVec.ofNat 64 (tileGa s lt), am := false }

/-- A refused request is answered REFUSE (R78). -/
theorem onRequest_refused {st : Status} (h : refusal s lt m = some st) (hroom : answersOut s lt < 64) :
    onRequest s lt m = netSend s (.credit m.peer.toNat 4 (answerMsg s lt m st m.bytes.toNat)) := by
  simp only [onRequest, h, hroom, if_true]
  rfl

theorem onRequest_granted (h : Obl.grantable s lt m) (hq : queueOf s lt m.target.toNat = []) : onRequest s lt m = grantMade s lt m := by
  have ht : reqTarget s lt m = m.target.toNat := by
    obtain ⟨ham, -⟩ := h
    simp [reqTarget, ham]
  simp only [onRequest, ht, refusal_of_grantable h, hq, List.isEmpty_nil, if_true, tryGrant_of_grantable h]

section Behind
variable (ham : m.am = false) (haccept : refusal s lt m = none) (hq : queueOf s lt m.target.toNat ≠ [])
include ham haccept hq

/-- A request behind another waits at the end of the queue (R78). -/
theorem onRequest_waits (hlen : (queueOf s lt m.target.toNat).length < 16) :
    onRequest s lt m = setQueue s lt m.target.toNat (queueOf s lt m.target.toNat ++ [m]) := by
  have ht : reqTarget s lt m = m.target.toNat := by simp [reqTarget, ham]
  have hne : (queueOf s lt m.target.toNat).isEmpty = false := by simpa using hq
  simp only [onRequest, ht, haccept, hne, Bool.false_eq_true, if_false, hlen, if_true]

/-- A full queue answers NACK (R78, R384). -/
theorem onRequest_nacked (hlen : 16 ≤ (queueOf s lt m.target.toNat).length) (hroom : answersOut s lt < 64) :
    onRequest s lt m = netSend s (.credit m.peer.toNat 3 (answerMsg s lt m stOk m.bytes.toNat)) := by
  have ht : reqTarget s lt m = m.target.toNat := by simp [reqTarget, ham]
  have hne : (queueOf s lt m.target.toNat).isEmpty = false := by simpa using hq
  simp only [onRequest, ht, haccept, hne, Bool.false_eq_true, if_false, Nat.not_lt.mpr hlen, hroom, if_true]
  rfl

end Behind

theorem onDeferred_granted {rest : List CreditMsg} (hq : queueOf s lt m.target.toNat = m :: rest) (h : Obl.grantable s lt m) :
    onDeferred s lt m.target.toNat = setQueue (grantMade s lt m) lt m.target.toNat rest := by
  obtain ⟨ham, -⟩ := id h
  simp only [onDeferred, hq, ham, Bool.false_and, Bool.false_eq_true, if_false, tryGrant_of_grantable h]

theorem queueOf_setQueue (t : Nat) (q : List CreditMsg) : kvGet [] ((setQueue s lt t q).tile lt).reqQ t = q := by
  rw [setQueue, State.tile_modTile_self]
  exact kvGet_kvSet_self _ _ _ _

theorem sameMemory_setQueue (t : Nat) (q : List CreditMsg) : sameMemory s (setQueue s lt t q) :=
  Kept.sameMemory (Kept.modTile (fun x => { x with reqQ := kvSet x.reqQ t q }) rfl)

end Request

/-! ### Returns -/

theorem accessBlind_grants : AccessBlind Tile.grants where
  recorder _ _ := rfl
  isolated _ _ := rfl
  isoBanks _ _ := rfl
  regs _ _ _ _ := rfl
  errs _ _ := rfl
  counters _ _ := rfl
  eccRegs _ _ _ _ := rfl

theorem AccessBlind.writeParts {β : Type} {o : Tile → β} (ho : AccessBlind o) (hmem : ∀ t m, o { t with mem := m } = o t) (s : State)
    (lt : Nat) (c : CoreId) (ps : List (Nat × List Byte)) : Kept o s (writeParts s lt c ps).1 := by
  induction ps generalizing s with
  | nil => exact Kept.refl o s
  | cons p r ih =>
    obtain ⟨off, bs⟩ := p
    have hp := ho.memWriteBy s lt hmem (localPath s lt c off bs.length) off bs
    unfold Machine.writeParts
    split
    · next s1 e h => rw [h] at hp; exact hp
    · next s1 h => rw [h] at hp; exact hp.trans (ih s1)

section Void
variable (s : State) (lt b start slots kind : Nat)

theorem grants_boltVoid : ((boltVoid s lt b start slots kind).tile lt).grants = (s.tile lt).grants := by
  unfold boltVoid
  extract_lets n s1
  exact (boltBlind_grants.boltLand s1 lt b lt start false).trans
    ((accessBlind_grants.writeParts (fun _ _ => rfl) s lt .tcc _).tile lt)

theorem treg_boltVoid {off : Nat} (hcommit : off ≠ regBoltCommit b) (hstatus : off ≠ regChStatus)
    (hreport : off ∉ [regSkbLost, regRasTileStatus, regMemEccStatus, regMemEccAddr]) :
    (boltVoid s lt b start slots kind).treg lt off = s.treg lt off := by
  unfold boltVoid
  extract_lets n s1
  exact (treg_boltLand s1 lt b start lt false hcommit hstatus).trans
    (((accessBlind_regAt hreport).writeParts (fun _ _ => rfl) s lt .tcc _).treg lt)

end Void

section Freed
variable (s : State) (lt i : Nat) (g : Grant)

theorem grants_endGrant : kvGet Grant.reset ((endGrant s lt i g).tile lt).grants i = { Grant.reset with gen := g.gen + 1 } := by
  rw [endGrant, setGrant, State.tile_modTile_self]
  exact kvGet_kvSet_self _ _ _ _

theorem treg_endGrant (x off : Nat) : (endGrant s lt i g).treg x off = s.treg x off :=
  State.treg_modTile (g := fun t => { t with grants := kvSet t.grants i { Grant.reset with gen := g.gen + 1 } }) rfl x off

theorem BoltBlind.noteOvf {β : Type} {o : Tile → β} (ho : BoltBlind o) (seq : Nat) (notify : Bool) (x : Nat) :
    o ((noteOvf s lt g seq notify).tile x) = o (s.tile x) := by
  unfold Machine.noteOvf
  split
  · rfl
  · exact ho.setOvfMsgs s lt _ x _

theorem treg_noteOvf (seq : Nat) (notify : Bool) (x off : Nat) : (noteOvf s lt g seq notify).treg x off = s.treg x off := by
  unfold noteOvf
  split
  · rfl
  · exact treg_setOvfMsgs s lt _ _ x off

theorem granted_addGranted (b down : Nat) :
    (addGranted s lt b 0 down).tfld lt (regBoltGranted b) 19 0 = s.tfld lt (regBoltGranted b) 19 0 - down :=
  State.tfld_setTfld_same s lt _ (by decide) (lt_of_le_of_lt (Nat.sub_le _ _) (State.tfld_lt s lt _ 19 0))

/-- A grant of a Bolt that ends frees its entry and its granted slots (R80). -/
theorem voidGrant_frees (htarget : g.target.toNat < 128) (hbolt : g.bolt < 64) :
    kvGet Grant.reset ((voidGrant s lt i g).tile lt).grants i = { Grant.reset with gen := g.gen + 1 } ∧
      (voidGrant s lt i g).tfld lt (regBoltGranted g.bolt) 19 0 = s.tfld lt (regBoltGranted g.bolt) 19 0 - g.slots := by
  obtain ⟨hcommit, hstatus⟩ : regBoltGranted g.bolt ≠ regBoltCommit g.bolt ∧ regBoltGranted g.bolt ≠ regChStatus := by
    simp only [regBoltGranted, regBoltCommit, regChStatus]; omega
  have hreport : regBoltGranted g.bolt ∉ [regSkbLost, regRasTileStatus, regMemEccStatus, regMemEccAddr] := by
    simp only [regBoltGranted, regSkbLost, regRasTileStatus, regMemEccStatus, regMemEccAddr, List.mem_cons, List.not_mem_nil, or_false]; omega
  have hvoid : voidGrant s lt i g = noteOvf (boltVoid (addGranted (endGrant s lt i g) lt g.bolt 0 g.slots) lt g.bolt g.start g.slots g.kind) lt g 0 false :=
    if_pos htarget
  rw [hvoid]
  constructor
  · rw [boltBlind_grants.noteOvf, grants_boltVoid, addGranted, boltBlind_grants.setTfld, grants_endGrant]
  · rw [State.tfld, treg_noteOvf, treg_boltVoid _ _ _ _ _ _ hcommit hstatus hreport, ← State.tfld, granted_addGranted, State.tfld, treg_endGrant, State.tfld]

end Freed

theorem onReturn_of_live {s : State} {lt i : Nat} {m : CreditMsg} {g : Grant} (h : grantOfTag s lt m.creditTag = some (i, g))
    (hsender : g.sender = m.peer) :
    onReturn s lt m = if g.target.toNat < 128 then voidGrant s lt i g
      else endGrant (s.setTfld lt (regMemLwinCred (g.target.toNat - 128)) 25 0
        (s.tfld lt (regMemLwinCred (g.target.toNat - 128)) 25 0 - g.bytes)) lt i g := by
  simp only [onReturn, h, hsender, bne_self_eq_false, Bool.false_eq_true, if_false]

/-- A grant of a landing window that ends frees its entry and its granted bytes (R80, R81). -/
theorem lwinReturn_frees (s : State) (lt i n : Nat) (g : Grant) :
    kvGet Grant.reset ((endGrant (s.setTfld lt (regMemLwinCred n) 25 0 (s.tfld lt (regMemLwinCred n) 25 0 - g.bytes)) lt i g).tile lt).grants i =
        { Grant.reset with gen := g.gen + 1 } ∧
      (endGrant (s.setTfld lt (regMemLwinCred n) 25 0 (s.tfld lt (regMemLwinCred n) 25 0 - g.bytes)) lt i g).tfld lt (regMemLwinCred n) 25 0 =
        s.tfld lt (regMemLwinCred n) 25 0 - g.bytes ∧
      sameMemory s (endGrant (s.setTfld lt (regMemLwinCred n) 25 0 (s.tfld lt (regMemLwinCred n) 25 0 - g.bytes)) lt i g) := by
  refine ⟨grants_endGrant _ lt i g, ?_, sameMemory_trans (sameMemory_setTfld s lt _ _ _ _) (Kept.sameMemory (Kept.modTile (fun t =>
    { t with grants := kvSet t.grants i { Grant.reset with gen := g.gen + 1 } }) rfl))⟩
  rw [State.tfld, treg_endGrant, ← State.tfld]
  exact State.tfld_setTfld_same s lt _ (by decide) (lt_of_le_of_lt (Nat.sub_le _ _) (State.tfld_lt s lt _ 25 0))

/-! ### The statement -/

/-- Settles O31: a request is decided in the state in which it has arrived, which differs from the one before in the networks alone. -/
theorem creditReceive : Obligations.CreditReceive := by
  unfold Obligations.CreditReceive
  refine ⟨fun s lt m hlt hregion harrive => ?_, fun s lt m rest hlt hq hgrant => ?_, fun s lt m i g hlt harrive hlive hsender => ?_⟩
  · extract_lets q s1
    have hexec : exec (.creditRequest lt m) s = .next (onRequest s1 lt m) := exec_creditRequest hlt hregion harrive
    refine ⟨fun hgrant hq => ?_, fun st hst hroom => ?_, fun ham haccept hq => ⟨fun hlen => ?_, fun hlen hroom => ?_⟩⟩
    · exact ⟨_, hexec.trans (congrArg _ (onRequest_granted hgrant hq)), granted_of_grantable s1 lt m hgrant⟩
    · exact ⟨_, hexec.trans (congrArg _ (onRequest_refused (s := s1) hst hroom)), rfl, rfl⟩
    · exact ⟨_, hexec.trans (congrArg _ (onRequest_waits (s := s1) ham haccept hq hlen)), queueOf_setQueue _ _, rfl, sameMemory_setQueue (s := s1) _ _⟩
    · exact ⟨_, hexec.trans (congrArg _ (onRequest_nacked (s := s1) ham haccept hq hlen hroom)), rfl⟩
  · exact ⟨_, (exec_creditGrantDeferred hlt m.target).trans (congrArg _ (onDeferred_granted hq hgrant)),
      granted_setQueue s lt m _ rest (granted_of_grantable s lt m hgrant), queueOf_setQueue _ _⟩
  · have hexec := exec_creditReturn hlt harrive
    have hreturn := onReturn_of_live (s := netArrive s (.credit (tileGa s lt) 5 m)) hlive hsender
    refine ⟨fun htarget hbolt => ?_, fun htarget _ => ?_⟩
    · exact ⟨_, hexec.trans (congrArg _ (hreturn.trans (if_pos htarget))), voidGrant_frees _ lt i g htarget hbolt⟩
    · exact ⟨_, hexec.trans (congrArg _ (hreturn.trans (if_neg (by omega)))), lwinReturn_frees (netArrive s (.credit (tileGa s lt) 5 m)) lt i _ g⟩

end Sys2Proof.Machine
end

section
/-!
O32: a credited write arrives.
-/
namespace Sys2Proof.Machine

open Sys2Proof

/-! ### Changes of tiles alone -/

/-- From `s` to `t` nothing has changed outside the tiles. -/
def OnlyTiles (s t : State) : Prop := { t with tiles := s.tiles } = s

namespace OnlyTiles

theorem refl (s : State) : OnlyTiles s s := rfl

theorem trans {s t u : State} (h : OnlyTiles s t) (k : OnlyTiles t u) : OnlyTiles s u := by
  have hk : { u with tiles := s.tiles } = { t with tiles := s.tiles } := congrArg (fun x : State => { x with tiles := s.tiles }) k
  exact hk.trans h

theorem ite {s t u : State} {p : Prop} [Decidable p] (h : OnlyTiles s t) (k : OnlyTiles s u) : OnlyTiles s (if p then t else u) := by
  split
  · exact h
  · exact k

theorem modTile (s : State) (lt : Nat) (g : Tile → Tile) : OnlyTiles s (s.modTile lt g) := rfl

theorem setTfld (s : State) (lt off hi lo v : Nat) : OnlyTiles s (s.setTfld lt off hi lo v) := rfl

theorem setTbit (s : State) (lt off i : Nat) (v : Bool) : OnlyTiles s (s.setTbit lt off i v) := rfl

theorem net {s t : State} (h : OnlyTiles s t) : t.net = s.net := by
  have hnet := congrArg State.net h
  exact hnet

theorem hereId {s t : State} (h : OnlyTiles s t) : hereId t = hereId s := by
  have hid := congrArg Machine.hereId h
  exact hid

theorem boltLand (s : State) (lt b start : Nat) (notify : Bool) : OnlyTiles s (boltLand s lt b start notify) := by
  unfold Machine.boltLand boltAdvance
  exact ite rfl rfl

theorem noteOvf (s : State) (lt : Nat) (g : Grant) (seq : Nat) (notify : Bool) : OnlyTiles s (noteOvf s lt g seq notify) := by
  unfold Machine.noteOvf
  exact ite rfl rfl

end OnlyTiles

/-! ### Parts of a write -/

theorem partsOff_of_healthy {s : State} {lt off : Nat} {bs : List Byte} (h : healthy s lt off bs.length = true) :
    partsOff s lt [(off, bs)] = none := by
  obtain ⟨-, hwords⟩ := (healthy_iff s lt off bs.length).mp h
  refine List.find?_eq_none.mpr fun w hw => ?_
  have hfine := (hwords w (by simpa using hw)).1
  simp [hfine]

/-- The state in which bytes have landed at a tile. -/
def bytesLanded (s : State) (lt off : Nat) (bs : List Byte) : State :=
  bumpXbar (bumpCnt (memStore s lt off bs) lt 5 (linesOf off bs.length)) false lt (linesOf off bs.length)

/-- A write of one part to memory that can be written lands (R79). -/
theorem writeAll_of_healthy {s : State} {lt off : Nat} {bs : List Byte} (h : healthy s lt off bs.length = true) :
    writeAll s lt [(off, bs)] = (bytesLanded s lt off bs, none) := by
  obtain ⟨hregion, hwords⟩ := (healthy_iff s lt off bs.length).mp h
  have hready : readyAll s lt [(off, bs)] = (s, none) := by
    rw [readyAll, hregion, partsOff_of_healthy h]
    simp only [Bool.false_eq_true, if_false, touchParts, touchWrites_of_fine hwords]
  simp only [writeAll, hready, List.foldl_cons, List.foldl_nil, bytesLanded]

section Landed
variable (s : State) (lt off : Nat) (bs : List Byte)

theorem onlyTiles_bytesLanded : OnlyTiles s (bytesLanded s lt off bs) := rfl

theorem treg_bumpCnt (n k x o : Nat) : (bumpCnt s lt n k).treg x o = s.treg x o :=
  State.treg_modTile (g := fun t => { t with counters := kvSet t.counters n ((kvGet 0 t.counters n + k) % 2 ^ 64) }) rfl x o

theorem treg_memStore (x o : Nat) : (memStore s lt off bs).treg x o = s.treg x o :=
  State.treg_modTile (g := fun t => { t with
    mem := memPut t.mem off bs
    errs := t.errs.filter (fun p => !(off ≤ 8 * p.1 && 8 * p.1 + 8 ≤ off + bs.length)) }) rfl x o

theorem treg_bytesLanded (x o : Nat) : (bytesLanded s lt off bs).treg x o = s.treg x o := by
  rw [bytesLanded, bumpXbar, if_neg (by decide), treg_bumpCnt, treg_bumpCnt, treg_memStore]

theorem mem_bytesLanded (x : Nat) : ((bytesLanded s lt off bs).tile x).mem = ((memStore s lt off bs).tile x).mem :=
  ((accessBlind_mem.bumpCnt (memStore s lt off bs) lt 5 _).trans (accessBlind_mem.bumpXbar _ lt false _)).tile x

end Landed

/-! ### A write that is covered by its grant -/

section Covered
variable {s : State} {lt i : Nat} {w : WriteMsg} {g : Grant} (hgrant : grantOfTag s lt w.creditTag = some (i, g))
include hgrant

theorem arriveCheck_of_covered (htarget : g.target = w.target) (hsender : g.sender = w.sender) (hwithin : withinGrant s lt g w = true)
    (hregion : regionRefuses s lt = false) (hvisible : visible w.offset.toNat 1 = true) : arriveCheck s lt w = none := by
  have hcovered : covered s lt w = true := by simp [covered, hgrant, htarget, hsender, hwithin]
  simp [arriveCheck, hvisible, hregion, hcovered]

omit hgrant in
theorem landParts_of_fits (hfits : g.target.toNat < 128 →
      w.offset.toNat + w.data.length ≤ cfgBase (boltCfg s lt g.bolt) + cfgSize (boltCfg s lt g.bolt)) :
    landParts s lt g w = [(w.offset.toNat, w.data)] := by
  unfold landParts
  split
  · next h =>
    have := hfits h
    exact if_pos (by omega)
  · rfl

/-- The state in which the slots of a grant whose write has landed are given back, and its message is noted (R79, R291). -/
def grantSettled (s : State) (lt : Nat) (g : Grant) (w : WriteMsg) : State :=
  if g.target.toNat < 128 then
    noteOvf (boltLand (addGranted s lt g.bolt 0 g.slots) lt g.bolt g.start (w.notify && g.bolt == g.target.toNat)) lt g
      (fieldAt w.data 0x14 4) w.notify
  else if w.notify then s.setTbit lt regChStatus 2 true else s

theorem performWrite_lands (hfits : g.target.toNat < 128 →
      w.offset.toNat + w.data.length ≤ cfgBase (boltCfg s lt g.bolt) + cfgSize (boltCfg s lt g.bolt))
    (hhealthy : healthy s lt w.offset.toNat w.data.length = true) :
    performWrite s lt w = ackWrite (grantSettled (endGrant (bytesLanded s lt w.offset.toNat w.data) lt i g) lt g w) lt w stOk := by
  simp only [performWrite, hgrant, landParts_of_fits hfits, writeAll_of_healthy hhealthy, grantSettled]

end Covered

section Settled
variable (s : State) (lt : Nat) (g : Grant) (w : WriteMsg)

theorem BoltBlind.grantSettled {β : Type} {o : Tile → β} (ho : BoltBlind o) (x : Nat) : o ((grantSettled s lt g w).tile x) = o (s.tile x) := by
  unfold Machine.grantSettled
  split
  · exact (ho.noteOvf _ lt g _ _ x).trans ((ho.boltLand _ lt _ x _ _).trans (ho.setTfld s lt x _ _ _ _))
  · split
    · exact ho.setTbit s lt x _ _ _
    · rfl

theorem onlyTiles_grantSettled : OnlyTiles s (grantSettled s lt g w) := by
  unfold grantSettled
  exact ((OnlyTiles.setTfld s lt _ _ _ _).trans ((OnlyTiles.boltLand _ lt _ _ _).trans (OnlyTiles.noteOvf _ lt g _ _))).ite
    ((OnlyTiles.setTbit s lt _ _ _).ite (OnlyTiles.refl s))

/-- A write that lands gives its granted slots back (R79). -/
theorem granted_grantSettled (htarget : g.target.toNat < 128) (hbolt : g.bolt < 64) :
    (grantSettled s lt g w).tfld lt (regBoltGranted g.bolt) 19 0 = s.tfld lt (regBoltGranted g.bolt) 19 0 - g.slots := by
  obtain ⟨hcommit, hstatus⟩ : regBoltGranted g.bolt ≠ regBoltCommit g.bolt ∧ regBoltGranted g.bolt ≠ regChStatus := by
    simp only [regBoltGranted, regBoltCommit, regChStatus]; omega
  rw [grantSettled, if_pos htarget, State.tfld, treg_noteOvf, treg_boltLand _ _ _ _ _ _ hcommit hstatus, ← State.tfld, granted_addGranted]

end Settled

/-! ### A write without a grant -/

section Uncovered
variable {s : State} {lt : Nat} {w : WriteMsg} (hgrant : grantOfTag s lt w.creditTag = none)
include hgrant

theorem arriveCheck_of_none (hregion : regionRefuses s lt = false) (hvisible : visible w.offset.toNat 1 = true) :
    arriveCheck s lt w = some (if targetOpen s lt w.target.toNat then stCreditDenied else stPeerClosed) := by
  have hcovered : covered s lt w = false := by simp [covered, hgrant]
  cases hopen : targetOpen s lt w.target.toNat <;> simp [arriveCheck, hvisible, hregion, hcovered, hopen]

omit hgrant in
theorem BoltBlind.countDenied {β : Type} {o : Tile → β} (ho : BoltBlind o) (st : Status) (x : Nat) :
    o ((countDenied s lt w st).tile x) = o (s.tile x) := by
  unfold Machine.countDenied
  extract_lets s1
  have h1 : o (s1.tile x) = o (s.tile x) := by
    unfold s1
    split
    · exact ho.setTfld s lt x _ _ _ _
    · rfl
  split
  · exact (ho.setTbit s1 lt x _ _ _).trans h1
  · exact h1

omit hgrant in
theorem onlyTiles_countDenied (st : Status) : OnlyTiles s (countDenied s lt w st) := by
  unfold countDenied
  extract_lets s1
  have h1 : OnlyTiles s s1 := (OnlyTiles.setTfld s lt _ _ _ _).ite (OnlyTiles.refl s)
  exact (h1.trans (OnlyTiles.setTbit s1 lt _ _ _)).ite h1

theorem failWrite_of_none (st : Status) : failWrite s lt w st = ackWrite (countDenied s lt w st) lt w st := by
  have hgone : grantOfTag (countDenied s lt w st) lt w.creditTag = none := by
    rw [← hgrant, grantOfTag, boltBlind_grants.countDenied, grantOfTag]
  have hown : ownGrant (countDenied s lt w st) lt w = none := by simp [ownGrant, hgone]
  simp only [failWrite, hown]

end Uncovered

/-! ### The statement -/

/-- The acknowledgement of a write, sent in state `s`. -/
def ackMsg (s : State) (lt : Nat) (w : WriteMsg) (st : Status) : CreditMsg :=
  { target := w.target, reqTag := w.reqTag, creditTag := w.creditTag, status := st, kind := 0,
    bytes := BitVec.ofNat 32 w.data.length, offset := w.offset, peer := BitVec.ofNat 64 (tileGa s lt), am := false }

theorem msgs_ackWrite {s u : State} (lt : Nat) {w : WriteMsg} (st : Status) (honly : OnlyTiles s u) (h : w.sender.toNat / 2 ^ 48 = hereId s) :
    (ackWrite u lt w st).msgs = s.msgs ++ [.credit w.sender.toNat 6 (ackMsg u lt w st)] := by
  rw [ackWrite, msgs_netSend_credit (by rw [h, honly.hereId]), State.msgs, honly.net]
  rfl

theorem ackWrite_tile (s : State) (lt : Nat) (w : WriteMsg) (st : Status) (x : Nat) : (ackWrite s lt w st).tile x = s.tile x := netSend_tile ..

/-- A write that may arrive at a tile whose region answers arrives. -/
theorem exec_creditedWriteArrive {s : State} {lt : Nat} {w : WriteMsg} (hlt : lt < 1320)
    (hregion : regionRefuses s lt = false) (h : mayArrive s (.write (tileGa s lt) w) = true) :
    exec (.creditedWriteArrive lt w) s = .next (onWrite (netArrive s (.write (tileGa s lt) w)) lt w) := by
  have hon : regionState (netArrive s (.write (tileGa s lt) w)) (regionOf (netArrive s (.write (tileGa s lt) w)) lt) ≠ 5 := by
    have hlow : ¬ 4 ≤ regionState s (regionOf s lt) := by simpa [regionRefuses] using hregion
    intro hoff
    exact hlow (by rw [show regionState s (regionOf s lt) = 5 from hoff]; omega)
  show execCreditedWriteArrive lt w s = _
  rw [execCreditedWriteArrive, onTile_of_lt hlt, arriving, if_pos h, if_neg hon]

theorem onWrite_lands {s : State} {lt i : Nat} {w : WriteMsg} {g : Grant} (habort : w.abort = false)
    (hgrant : grantOfTag s lt w.creditTag = some (i, g)) (hcheck : arriveCheck s lt w = none)
    (hfits : g.target.toNat < 128 → w.offset.toNat + w.data.length ≤ cfgBase (boltCfg s lt g.bolt) + cfgSize (boltCfg s lt g.bolt))
    (hhealthy : healthy s lt w.offset.toNat w.data.length = true) :
    onWrite s lt w = ackWrite (grantSettled (endGrant (bytesLanded s lt w.offset.toNat w.data) lt i g) lt g w) lt w stOk := by
  simp only [onWrite, habort, Bool.false_eq_true, if_false, hcheck, performWrite_lands hgrant hfits hhealthy]

theorem onWrite_denied {s : State} {lt : Nat} {w : WriteMsg} {st : Status} (habort : w.abort = false)
    (hgrant : grantOfTag s lt w.creditTag = none) (hcheck : arriveCheck s lt w = some st) :
    onWrite s lt w = ackWrite (countDenied s lt w st) lt w st := by
  simp only [onWrite, habort, Bool.false_eq_true, if_false, hcheck, failWrite_of_none hgrant]

/-- What a write that lands leaves of the tile: its bytes, its grant used up, and the slots given back (R79). -/
theorem creditedWrite_lands {s : State} {lt i : Nat} {w : WriteMsg} {g : Grant} (hwf : Memory.wf (s.tile lt).mem = true) :
    let t := ackWrite (grantSettled (endGrant (bytesLanded s lt w.offset.toNat w.data) lt i g) lt g w) lt w stOk
    memBytes (t.tile lt).mem w.offset.toNat w.data.length = w.data ∧ sameMemoryBut lt w.offset.toNat w.data.length s t ∧
      kvGet Grant.reset (t.tile lt).grants i = { Grant.reset with gen := g.gen + 1 } ∧
      (g.target.toNat < 128 → g.bolt < 64 → t.tfld lt (regBoltGranted g.bolt) 19 0 = s.tfld lt (regBoltGranted g.bolt) 19 0 - g.slots) := by
  intro t
  have hend : ∀ x, ((endGrant (bytesLanded s lt w.offset.toNat w.data) lt i g).tile x).mem = ((bytesLanded s lt w.offset.toNat w.data).tile x).mem :=
    State.tile_modTile_keeps (g := fun y => { y with grants := kvSet y.grants i { Grant.reset with gen := g.gen + 1 } }) Tile.mem rfl
  have hmem : ∀ x, (t.tile x).mem = ((memStore s lt w.offset.toNat w.data).tile x).mem := fun x => by
    rw [ackWrite_tile, boltBlind_mem.grantSettled, hend, mem_bytesLanded]
  refine ⟨?_, fun x a ha => ?_, ?_, fun htarget hbolt => ?_⟩
  · rw [hmem, memStore, State.tile_modTile_self]
    exact memBytes_memPut hwf _ _
  · rw [hmem]
    by_cases hx : x = lt
    · subst hx
      rw [memGet_memStore hwf, if_neg ha]
    · rw [memStore, State.tile_modTile_ne _ _ hx]
  · rw [ackWrite_tile, boltBlind_grants.grantSettled, grants_endGrant]
  · rw [State.tfld, State.treg, ackWrite_tile, ← State.treg, ← State.tfld, granted_grantSettled _ _ _ _ htarget hbolt, State.tfld, treg_endGrant,
      treg_bytesLanded, State.tfld]

/-- Settles O32: a covered write is stored, and what follows it sees no memory; without a grant nothing but counts changes. -/
theorem creditedWrite : Obligations.CreditedWrite := by
  unfold Obligations.CreditedWrite
  intro s lt w hlt habort hhere hregion hvisible harrive s1
  have hexec : exec (.creditedWriteArrive lt w) s = .next (onWrite s1 lt w) := exec_creditedWriteArrive hlt hregion harrive
  refine ⟨fun i g hgrant htarget hsender hwithin hfits hhealthy hwf => ?_, fun hgrant => ?_⟩
  · have hcheck : arriveCheck s1 lt w = none := arriveCheck_of_covered (s := s1) hgrant htarget hsender hwithin hregion hvisible
    have hland : onWrite s1 lt w = _ := onWrite_lands habort hgrant hcheck (fun h => (hfits h).2) hhealthy
    obtain ⟨hbytes, hrest, hentry, hgranted⟩ := creditedWrite_lands (s := s1) (lt := lt) (i := i) (w := w) (g := g) hwf
    have honly : OnlyTiles s1 (grantSettled (endGrant (bytesLanded s1 lt w.offset.toNat w.data) lt i g) lt g w) :=
      ((onlyTiles_bytesLanded s1 lt _ _).trans (OnlyTiles.modTile _ lt _)).trans (onlyTiles_grantSettled _ lt g w)
    exact ⟨_, _, hexec.trans (congrArg _ hland), hbytes, hrest, hentry, fun h => hgranted h (hfits h).1,
      msgs_ackWrite lt stOk honly hhere, rfl, rfl⟩
  · have hcheck := arriveCheck_of_none (s := s1) hgrant hregion hvisible
    have hdeny : onWrite s1 lt w = _ := onWrite_denied habort hgrant hcheck
    exact ⟨_, _, hexec.trans (congrArg _ hdeny), fun x a => by rw [ackWrite_tile, boltBlind_mem.countDenied]; rfl,
      msgs_ackWrite lt _ (onlyTiles_countDenied _) hhere, rfl, rfl⟩

end Sys2Proof.Machine
end

section
/-!
O33: credit answers at the sender.
-/
namespace Sys2Proof.Machine

open Sys2Proof

/-! ### Reads of a source range -/

section Translation
variable {β : Type} {o : Tile → β} (ho : AccessBlind o) (htlb : ∀ t l, o { t with tlb := l } = o t) (s : State) (lt : Nat)

theorem kept_pushAccess (src dst : Nat) : Kept o s (pushAccess s src dst) := by
  have hpush : ∀ f, Kept o s (pushFlight s f) := fun f => by
    unfold pushFlight
    split
    · exact Kept.of_tiles rfl rfl
    · exact Kept.of_tiles rfl rfl
  exact hpush _

include ho

theorem AccessBlind.walkRead (ma : Nat) : Kept o s (walkRead s lt ma).1 := by
  have hreq : Kept o s (if ma / 2 ^ 28 = lt then s else pushAccess s (ptOf s lt) (ptOf s (ma / 2 ^ 28))) :=
    (Kept.refl o s).ite (kept_pushAccess s _ _)
  have hread := fun u => ho.memReadBy u (ma / 2 ^ 28) false (ma % 2 ^ 28) 8
  unfold Machine.walkRead memRead
  split
  · have hr := hreq.trans (hread _)
    split
    · next s1 bs h => rw [h] at hr; exact hr
    · next s1 st h => rw [h] at hr; exact hr
  · exact Kept.refl o s

theorem AccessBlind.walk (fuel ma lvl va : Nat) : Kept o s (walk fuel s lt ma lvl va).1 := by
  induction fuel generalizing s ma lvl with
  | zero => exact Kept.refl o s
  | succ n ih =>
    have hr := ho.walkRead s lt (ma + 8 * walkIdx lvl va)
    unfold Machine.walk
    split
    · next s1 st h => rw [h] at hr; exact hr
    · next s1 e h =>
      rw [h] at hr
      split
      · exact hr
      · split
        · split
          · exact hr
          · split <;> split <;> exact hr
        · split
          · exact hr
          · split
            · exact hr
            · exact hr.trans (ih s1 _ _)

include htlb

omit ho in
theorem kept_tlbFill (e : TlbEnt) : Kept o s (tlbFill s lt e) := by
  unfold tlbFill
  extract_lets tl
  split
  · exact Kept.modTile (fun t => { t with tlb := t.tlb ++ [e] }) (htlb _ _)
  · exact (kept_drawn s).trans (Kept.modTile (fun t => { t with tlb := t.tlb.eraseIdx (s.freeBelow tl.length) ++ [e] }) (htlb _ _))

theorem AccessBlind.translate (va : Nat) (a : Access) (lv : Level) : Kept o s (translate s lt va a lv).1 := by
  unfold Machine.translate
  split
  · exact kept_drawn s
  · split
    · split
      · exact Kept.refl o s
      · exact Kept.refl o s
    · have hw := ho.walk s lt 4 (s.tfld lt regXlatRoot 27 0 * 2 ^ 12) 1 va
      split
      · next s1 f h => rw [h] at hw; exact hw
      · next s1 e h =>
        rw [h] at hw
        split
        · exact hw.trans (kept_tlbFill htlb s1 lt e)
        · exact hw

theorem AccessBlind.localAddr (addr : Nat) (a : Access) (lv : Level) (xlat : Bool) : Kept o s (localAddr s lt addr a lv xlat).1 := by
  unfold Machine.localAddr
  split
  · have ht := ho.translate htlb s lt addr a lv
    split
    · next s1 f h => rw [h] at ht; exact ht
    · next s1 ga h =>
      rw [h] at ht
      split
      · exact ht
      · exact ht
  · split
    · exact Kept.refl o s
    · exact Kept.refl o s

theorem AccessBlind.rangeOffset (addr n : Nat) (a : Access) (lv : Level) (xlat : Bool) : Kept o s (rangeOffset s lt addr n a lv xlat).1 := by
  have hl := ho.localAddr htlb s lt addr a lv xlat
  unfold Machine.rangeOffset
  split
  · next s1 f h => rw [h] at hl; exact hl
  · next s1 off h =>
    rw [h] at hl
    split
    · exact hl
    · exact hl

theorem AccessBlind.readRange (lv : Level) (xlat : Bool) (ps : List (Nat × Nat)) : Kept o s (readRange s lt lv xlat ps).1 := by
  induction ps generalizing s with
  | nil => exact Kept.refl o s
  | cons p r ih =>
    obtain ⟨a, n⟩ := p
    have hoff := ho.rangeOffset htlb s lt a n .read lv xlat
    unfold Machine.readRange memRead
    split
    · next s1 f h => rw [h] at hoff; exact hoff
    · next s1 off h =>
      rw [h] at hoff
      have hread := ho.memReadBy s1 lt false off n
      split
      · next s2 e h2 => rw [h2] at hread; exact hoff.trans hread
      · next s2 bs h2 =>
        rw [h2] at hread
        have hrest := ih s2
        split
        · next s3 st h3 => rw [h3] at hrest; exact (hoff.trans hread).trans hrest
        · next s3 bs' h3 => rw [h3] at hrest; exact (hoff.trans hread).trans hrest

end Translation

theorem accessBlind_unit : AccessBlind (fun _ : Tile => ()) where
  recorder _ _ := rfl
  isolated _ _ := rfl
  isoBanks _ _ := rfl
  regs _ _ _ _ := rfl
  errs _ _ := rfl
  counters _ _ := rfl
  eccRegs _ _ _ _ := rfl

/-- A read of a source range leaves the module's number. -/
theorem hereId_readRange {s s1 : State} {lt : Nat} {lv : Level} {xlat : Bool} {ps : List (Nat × Nat)} {e : Except Status (List Byte)}
    (h : readRange s lt lv xlat ps = (s1, e)) : hereId s1 = hereId s := by
  have hk := accessBlind_unit.readRange (fun _ _ => rfl) s lt lv xlat ps
  rw [h] at hk
  exact hk.hereId

/-! ### Waits -/

/-- What a sender adds to a wait is less than an eighth of it (R385). -/
theorem jitter_lt (s : State) (lt : Nat) {b : Nat} (h : 8 ≤ b) : jitter s lt b < b / 8 := Nat.mod_lt _ (by omega)

theorem answerWait_bounds {s : State} {dst : Nat} (lt : Nat) (h : dst / 2 ^ 48 = hereId s) : 4096 ≤ answerWait s lt dst ∧ answerWait s lt dst < 4608 := by
  have hj := jitter_lt s lt (b := 4096) (by decide)
  simp only [answerWait, h, if_true]
  omega

theorem backoffWait_bounds (s : State) (lt tries : Nat) :
    min 4096 (64 * 2 ^ tries) ≤ backoffWait s lt tries ∧ backoffWait s lt tries < min 4096 (64 * 2 ^ tries) + min 4096 (64 * 2 ^ tries) / 8 := by
  have hpos : 1 ≤ 2 ^ tries := Nat.one_le_two_pow
  have hj := jitter_lt s lt (b := min 4096 (64 * 2 ^ tries)) (by omega)
  simp only [backoffWait]
  omega

/-! ### Requests -/

theorem reqOf_setReq (s : State) (lt : Nat) (tag : BitVec 16) (r : SendReq) : reqOf (setReq s lt tag r) lt tag = some r := by
  rw [reqOf, setReq, State.tile_modTile_self]
  exact kvFind_kvSet_self _ _ _

theorem reqOf_netSend (s : State) (m : NetMsg) (lt : Nat) (tag : BitVec 16) : reqOf (netSend s m) lt tag = reqOf s lt tag := by
  rw [reqOf, netSend_tile, reqOf]

/-- The state of a tile that has counted a retry (R385). -/
def retryCounted (s : State) (lt : Nat) : State := s.modTile lt (fun t => { t with retries := t.retries + 1 })

theorem onNack_asked {s : State} {lt : Nat} {tag : BitVec 16} {r : SendReq} (hr : reqOf s lt tag = some r) (hphase : r.phase = .asked) :
    onNack s lt tag = setReq (retryCounted s lt) lt tag { r with phase := .backoff, tries := r.tries + 1, wait := backoffWait s lt r.tries } := by
  simp only [onNack, hr, hphase, if_true, retryCounted]

theorem resend_of_some {s : State} {lt : Nat} {tag : BitVec 16} {r : SendReq} (hr : reqOf s lt tag = some r) :
    resend s lt tag = netSend (setReq s lt tag { r with phase := .asked, wait := answerWait s lt r.dst.toNat }) (.credit r.dst.toNat 1 r.msg) := by
  simp only [resend, hr]

theorem sameMemory_setReq (s : State) (lt : Nat) (tag : BitVec 16) (r : SendReq) : sameMemory s (setReq s lt tag r) :=
  Kept.sameMemory (Kept.modTile (fun t => { t with reqs := kvSet t.reqs tag.toNat r }) rfl)

theorem sameMemory_retryCounted (s : State) (lt : Nat) : sameMemory s (retryCounted s lt) :=
  Kept.sameMemory (Kept.modTile (fun t => { t with retries := t.retries + 1 }) rfl)

theorem retries_setReq (s : State) (lt : Nat) (tag : BitVec 16) (r : SendReq) (x : Nat) :
    ((setReq s lt tag r).tile x).retries = (s.tile x).retries :=
  State.tile_modTile_keeps (g := fun t => { t with reqs := kvSet t.reqs tag.toNat r }) Tile.retries rfl x

/-! ### Grants -/

theorem onGrant_unknown {s : State} {lt : Nat} {m : CreditMsg} (hr : reqOf s lt m.reqTag = none) : onGrant s lt m = returnGrant s lt m := by
  simp only [onGrant, hr]

theorem onGrant_xact {s : State} {lt slot : Nat} {m : CreditMsg} {r : SendReq} {x : Xact} (hr : reqOf s lt m.reqTag = some r)
    (howner : r.owner = .xact slot) (hx : xactOf s lt slot = some x) (hphase : r.phase = .asked) :
    onGrant s lt m = grantXact s lt slot x r m := by
  simp [onGrant, hr, howner, hx, hphase]

theorem msgs_netSend_write {s : State} {dst : Nat} (h : dst / 2 ^ 48 = hereId s) (w : WriteMsg) :
    (netSend s (.write dst w)).msgs = s.msgs ++ [.write dst w] := by
  have hnear : foreignOf s (.write dst w) = none := if_pos h
  rw [netSend, hnear]
  exact msgs_pushFlight s _

/-- The state in which the write of a granted transaction is sent. -/
def xactSent (s : State) (lt slot : Nat) (x : Xact) (r : SendReq) : State := markSent (setXact s lt slot { x with phase := .sent }) lt r

theorem grantXact_of_read {s s1 : State} {lt slot : Nat} {x : Xact} {m : CreditMsg} {data : List Byte} (r : SendReq)
    (h : readRange s lt x.lv x.xlat (piecesOf (fieldAt x.msg 0 8) (msgLength x.msg)) = (s1, .ok data)) :
    grantXact s lt slot x r m = netSend (xactSent s1 lt slot x r) (.write r.dst.toNat (xactWrite s1 lt x r m data false)) := by
  simp only [grantXact, h, xactSent]

theorem xactOf_xactSent (s : State) (lt slot : Nat) (x : Xact) (r : SendReq) :
    xactOf (xactSent s lt slot x r) lt slot = some { x with phase := .sent } := by
  rw [xactOf, xactSent, markSent, setReq, State.tile_modTile_self, setXact, State.tile_modTile_self]
  exact kvFind_kvSet_self _ _ _

theorem sameMemory_xactSent (s : State) (lt slot : Nat) (x : Xact) (r : SendReq) : sameMemory s (xactSent s lt slot x r) :=
  sameMemory_trans (Kept.sameMemory (Kept.modTile (fun t => { t with xacts := kvSet t.xacts slot { x with phase := .sent } }) rfl))
    (sameMemory_setReq _ lt _ _)

theorem sameMemory_netSend {s u : State} (m : NetMsg) (h : sameMemory u s) : sameMemory u (netSend s m) := fun x a => by
  rw [netSend_tile]; exact h x a

/-! ### The end of a transaction -/

/-- The state of a tile whose transaction gives back its units (R281, R285). -/
def xactReleased (s : State) (lt slot : Nat) (x : Xact) : State :=
  let s1 := s.modTile lt (fun t => { t with xacts := kvDel t.xacts slot })
  let s2 := s1.setTfld lt (regChUse x.ch) 15 0 (s1.tfld lt (regChUse x.ch) 15 0 - x.units)
  s2.setTfld lt (regChUse x.ch) 22 16 (s2.tfld lt (regChUse x.ch) 22 16 - 1)

/-- The state in which the item of a transaction completes: LAST_STATUS is set, and PEER_CLOSED has closed the channel (R285, R288). -/
def xactClosed (s : State) (lt slot : Nat) (x : Xact) (st : Status) : State :=
  let s3 := xactReleased s lt slot x
  let s4 := if st = stOk then s3 else s3.setTfld lt (regChUse x.ch) 31 24 st.toNat
  if st = stPeerClosed then (setChState s4 lt x.ch 2).setTbit lt regChStatus 1 true else s4

theorem endXact_of_here {s : State} {lt : Nat} {x : Xact} (slot : Nat) (st : Status) (h : chForeign s lt x.ch = false) :
    endXact s lt slot x st =
      completeItem (xactClosed s lt slot x st) lt 4 slot (b2n x.am) st (if st = stOk then msgLength x.msg else 0) := by
  simp only [endXact, h, Bool.and_false, Bool.false_eq_true, if_false]
  rfl

section Closed
variable (s : State) (lt slot : Nat) (x : Xact) (st : Status)

theorem treg_xactReleased {o : Nat} (ho : o ≠ regChUse x.ch) (y : Nat) : (xactReleased s lt slot x).treg y o = s.treg y o := by
  rw [xactReleased, State.treg_setTfld_off_ne _ _ _ _ _ _ ho, State.treg_setTfld_off_ne _ _ _ _ _ _ ho]
  exact State.treg_modTile (g := fun t => { t with xacts := kvDel t.xacts slot }) rfl y o

theorem use_xactReleased :
    (xactReleased s lt slot x).tfld lt (regChUse x.ch) 15 0 = s.tfld lt (regChUse x.ch) 15 0 - x.units ∧
      (xactReleased s lt slot x).tfld lt (regChUse x.ch) 22 16 = s.tfld lt (regChUse x.ch) 22 16 - 1 := by
  have hgone : ∀ hi lo, (s.modTile lt (fun t => { t with xacts := kvDel t.xacts slot })).tfld lt (regChUse x.ch) hi lo =
      s.tfld lt (regChUse x.ch) hi lo := fun hi lo =>
    congrArg (fld · hi lo) (State.treg_modTile (g := fun t => { t with xacts := kvDel t.xacts slot }) rfl lt _)
  have hunits := State.tfld_lt s lt (regChUse x.ch) 15 0
  have hcount := State.tfld_lt s lt (regChUse x.ch) 22 16
  constructor
  · rw [xactReleased, State.tfld_setTfld_disjoint _ _ _ _ _ (by decide) (by decide),
      State.tfld_setTfld_same _ _ _ (by decide) (by rw [hgone]; omega), hgone]
  · rw [xactReleased, State.tfld_setTfld_same _ _ _ (by decide)]
    · rw [State.tfld_setTfld_disjoint _ _ _ _ _ (by decide) (by decide), hgone]
    · rw [State.tfld_setTfld_disjoint _ _ _ _ _ (by decide) (by decide), hgone]
      omega

theorem treg_xactClosed {o : Nat} (huse : o ≠ regChUse x.ch) (hcfg : o ≠ regChCfg x.ch) (hstatus : o ≠ regChStatus) (y : Nat) :
    (xactClosed s lt slot x st).treg y o = s.treg y o := by
  unfold xactClosed
  extract_lets s3 s4
  have h3 : s3.treg y o = s.treg y o := treg_xactReleased s lt slot x huse y
  have h4 : s4.treg y o = s.treg y o := by
    unfold s4
    split
    · exact h3
    · rw [State.treg_setTfld_off_ne _ _ _ _ _ _ huse, h3]
  split
  · rw [State.treg_setTbit_off_ne _ _ _ _ _ hstatus, setChState, State.treg_setTfld_off_ne _ _ _ _ _ _ hcfg, h4]
  · exact h4

/-- What is reported of the transaction leaves the units and transactions in use. -/
theorem use_xactClosed {hi lo : Nat} (hch : x.ch < 256) (hhi : hi < 24) :
    (xactClosed s lt slot x st).tfld lt (regChUse x.ch) hi lo = (xactReleased s lt slot x).tfld lt (regChUse x.ch) hi lo := by
  obtain ⟨hcfg, hstatus⟩ : regChUse x.ch ≠ regChCfg x.ch ∧ regChUse x.ch ≠ regChStatus := by
    simp only [regChUse, regChCfg, regChStatus]; omega
  unfold xactClosed
  extract_lets s3 s4
  have h4 : s4.tfld lt (regChUse x.ch) hi lo = s3.tfld lt (regChUse x.ch) hi lo := by
    unfold s4
    split
    · rfl
    · exact State.tfld_setTfld_disjoint _ _ _ _ _ (by omega) (Or.inl hhi)
  split
  · rw [State.tfld, State.treg_setTbit_off_ne _ _ _ _ _ hstatus, setChState, State.treg_setTfld_off_ne _ _ _ _ _ _ hcfg, ← State.tfld, h4]
  · exact h4

/-- An observation that sees no register sees no report of a transaction. -/
theorem tile_xactClosed {β : Type} (o : Tile → β) (hregs : ∀ t r, o { t with regs := r } = o t) (y : Nat) :
    o ((xactClosed s lt slot x st).tile y) = o ((s.modTile lt (fun t => { t with xacts := kvDel t.xacts slot })).tile y) := by
  have hset : ∀ (u : State) off hi lo v, o ((u.setTfld lt off hi lo v).tile y) = o (u.tile y) := fun u off hi lo v =>
    State.tile_modTile_keeps o (hregs _ _) y
  have h3 : o ((xactReleased s lt slot x).tile y) = o ((s.modTile lt (fun t => { t with xacts := kvDel t.xacts slot })).tile y) :=
    (hset _ _ _ _ _).trans (hset _ _ _ _ _)
  unfold xactClosed
  extract_lets s3 s4
  have h4 : o (s4.tile y) = o (s3.tile y) := by
    unfold s4
    split
    · rfl
    · exact hset _ _ _ _ _
  split
  · exact ((hset _ _ _ _ _).trans (hset _ _ _ _ _)).trans (h4.trans h3)
  · exact h4.trans h3

end Closed

/-- A transaction that ends is gone, its slot holds the record of it with its status, and its units are given back (R281, R285). -/
theorem endXact_ends {s : State} {lt : Nat} {x : Xact} (slot : Nat) (st : Status) (hch : x.ch < 256) (hforeign : chForeign s lt x.ch = false)
    (hring : s.tbit lt regDmaCringCfg 0 = false) :
    let t := endXact s lt slot x st
    xactOf t lt slot = none ∧ ((t.tile lt).slot 4 slot).busy = false ∧ ((t.tile lt).slot 4 slot).crec.status = st ∧
      t.tfld lt (regChUse x.ch) 15 0 = s.tfld lt (regChUse x.ch) 15 0 - x.units ∧
      t.tfld lt (regChUse x.ch) 22 16 = s.tfld lt (regChUse x.ch) 22 16 - 1 ∧ sameMemory s t := by
  obtain ⟨hu, hc, hs⟩ : regDmaCringCfg ≠ regChUse x.ch ∧ regDmaCringCfg ≠ regChCfg x.ch ∧ regDmaCringCfg ≠ regChStatus := by
    simp only [regDmaCringCfg, regChUse, regChCfg, regChStatus]; omega
  have hring' : (xactClosed s lt slot x st).tbit lt regDmaCringCfg 0 = false := by
    rw [State.tbit, treg_xactClosed s lt slot x st hu hc hs, ← State.tbit, hring]
  obtain ⟨hunits, hcount⟩ := use_xactReleased s lt slot x
  intro t
  have ht : t = setSlot (xactClosed s lt slot x st) lt 4 slot _ := (endXact_of_here slot st hforeign).trans (completeItem_of_noRing hring' _ _ _ _ _)
  have hreg : ∀ (u : State) n y o, (setSlot u lt 4 n y).treg lt o = u.treg lt o := fun u n y o => State.treg_modTile (by rfl) lt o
  rw [ht]
  refine ⟨?_, ?_, ?_, ?_, ?_, fun y a => ?_⟩
  · have hgone := tile_xactClosed s lt slot x st Tile.xacts (fun _ _ => rfl) lt
    simp [xactOf, setSlot, hgone]
  · simp [setSlot, Tile.slot]
  · simp [setSlot, Tile.slot]
  · rw [State.tfld, hreg, ← State.tfld, use_xactClosed s lt slot x st hch (by decide), hunits]
  · rw [State.tfld, hreg, ← State.tfld, use_xactClosed s lt slot x st hch (by decide), hcount]
  · have hslot : ∀ (u : State) n z, ((setSlot u lt 4 n z).tile y).mem = (u.tile y).mem := fun u n z => State.tile_modTile_keeps Tile.mem (by rfl) y
    rw [hslot, tile_xactClosed s lt slot x st Tile.mem (fun _ _ => rfl) y]
    exact Kept.sameMemory (Kept.modTile (fun t => { t with xacts := kvDel t.xacts slot }) rfl) y a

/-! ### The statement -/

section Commands
variable {s : State} {lt : Nat} (m : CreditMsg) (hlt : lt < 1320)
include hlt

theorem exec_creditGrant (h : mayArrive s (.credit (tileGa s lt) 2 m) = true) :
    exec (.creditGrant lt m) s = .next (onGrant (netArrive s (.credit (tileGa s lt) 2 m)) lt m) := by
  show execCreditGrant lt m s = _
  rw [execCreditGrant, onTile_of_lt hlt, onCredit_of_mayArrive h]

theorem exec_creditRefuse (h : mayArrive s (.credit (tileGa s lt) 4 m) = true) :
    exec (.creditRefuse lt m) s = .next (endReq (netArrive s (.credit (tileGa s lt) 4 m)) lt m.reqTag m.status) := by
  show execCreditRefuse lt m s = _
  rw [execCreditRefuse, onTile_of_lt hlt, onCredit_of_mayArrive h]

theorem exec_creditAck (h : mayArrive s (.credit (tileGa s lt) 6 m) = true) :
    exec (.creditAck lt m) s = .next (endReq (netArrive s (.credit (tileGa s lt) 6 m)) lt m.reqTag m.status) := by
  show execCreditAck lt m s = _
  rw [execCreditAck, onTile_of_lt hlt, onCredit_of_mayArrive h]

theorem exec_creditNack (h : mayArrive s (.credit (tileGa s lt) 3 m) = true) :
    exec (.creditNack lt m) s = .next (onNack (netArrive s (.credit (tileGa s lt) 3 m)) lt m.reqTag) := by
  show execCreditNack lt m s = _
  rw [execCreditNack, onTile_of_lt hlt, onCredit_of_mayArrive h]

theorem exec_creditRetry {tag : BitVec 16} {r : SendReq} (hr : reqOf s lt tag = some r) (hphase : r.phase = .backoff) :
    exec (.creditRetry lt tag) s = .next (resend s lt tag) := by
  show execCreditRetry lt tag s = _
  rw [execCreditRetry, onTile_of_lt hlt]
  simp only [hr, hphase, if_true]

theorem exec_creditAnswerTimeout {tag : BitVec 16} {r : SendReq} (hr : reqOf s lt tag = some r) (hphase : r.phase = .asked) :
    exec (.creditAnswerTimeout lt tag) s = .next (resend (setReq (retryCounted s lt) lt tag { r with tries := r.tries + 1 }) lt tag) := by
  show execCreditAnswerTimeout lt tag s = _
  rw [execCreditAnswerTimeout, onTile_of_lt hlt]
  simp only [hr, hphase, if_true, retryCounted]

end Commands

/-- An answer that ends the request of a transaction ends the transaction with its status (R78, R285). -/
theorem endReq_ends {s : State} {lt slot : Nat} {tag : BitVec 16} {r : SendReq} {x : Xact} (st : Status) (hr : reqOf s lt tag = some r)
    (howner : r.owner = .xact slot) (hphase : r.phase ≠ .givenUp) (hx : xactOf s lt slot = some x) (hch : x.ch < 256)
    (hforeign : chForeign s lt x.ch = false) (hring : s.tbit lt regDmaCringCfg 0 = false) :
    let t := endReq s lt tag st
    xactOf t lt slot = none ∧ ((t.tile lt).slot 4 slot).busy = false ∧ ((t.tile lt).slot 4 slot).crec.status = st ∧
      t.tfld lt (regChUse x.ch) 15 0 = s.tfld lt (regChUse x.ch) 15 0 - x.units ∧
      t.tfld lt (regChUse x.ch) 22 16 = s.tfld lt (regChUse x.ch) 22 16 - 1 ∧ sameMemory s t := by
  have hreg : ∀ o, (dropReq s lt tag).treg lt o = s.treg lt o := fun o => State.treg_of_regs (dropReq_tile s lt tag lt).2.2 o
  have hforeign' : chForeign (dropReq s lt tag) lt x.ch = false := by
    rw [← hforeign, chForeign, State.tfld, hreg, ← State.tfld]
    rfl
  have hring' : (dropReq s lt tag).tbit lt regDmaCringCfg 0 = false := by rw [State.tbit, hreg, ← State.tbit, hring]
  have huse : ∀ hi lo, (dropReq s lt tag).tfld lt (regChUse x.ch) hi lo = s.tfld lt (regChUse x.ch) hi lo := fun hi lo => congrArg (fld · hi lo) (hreg _)
  intro t
  obtain ⟨hgone, hbusy, hstatus, hunits, hcount, hmem⟩ := endXact_ends slot st hch hforeign' hring'
  have ht : t = endXact (dropReq s lt tag) lt slot x st := endReq_xact hr howner hphase hx st
  rw [ht]
  exact ⟨hgone, hbusy, hstatus, hunits.trans (by rw [huse]), hcount.trans (by rw [huse]),
    fun y a => (hmem y a).trans (by rw [(dropReq_tile s lt tag y).2.1])⟩

/-- The state of a tile whose request is to be sent again: the retry is counted, of the tile and of the request (R384, R385). -/
def reqRetried (s : State) (lt : Nat) (tag : BitVec 16) (r : SendReq) : State := setReq (retryCounted s lt) lt tag { r with tries := r.tries + 1 }

theorem creditAnswerTimeout_resends {s : State} {lt : Nat} {tag : BitVec 16} {r : SendReq} (hlt : lt < 1320) (hr : reqOf s lt tag = some r)
    (hphase : r.phase = .asked) :
    exec (.creditAnswerTimeout lt tag) s = .next (netSend (setReq (reqRetried s lt tag r) lt tag
      { r with phase := .asked, tries := r.tries + 1, wait := answerWait (reqRetried s lt tag r) lt r.dst.toNat }) (.credit r.dst.toNat 1 r.msg)) := by
  rw [exec_creditAnswerTimeout hlt hr hphase]
  exact congrArg _ (resend_of_some (reqOf_setReq (retryCounted s lt) lt tag { r with tries := r.tries + 1 }))

theorem retries_reqRetried (s : State) (lt : Nat) (tag : BitVec 16) (r : SendReq) :
    ((reqRetried s lt tag r).tile lt).retries = (s.tile lt).retries + 1 := by
  rw [reqRetried, retries_setReq, retryCounted, State.tile_modTile_self]

theorem hereId_reqRetried (s : State) (lt : Nat) (tag : BitVec 16) (r : SendReq) : hereId (reqRetried s lt tag r) = hereId s := rfl

theorem hereId_setReq (s : State) (lt : Nat) (tag : BitVec 16) (r : SendReq) : hereId (setReq s lt tag r) = hereId s := rfl

/-- Settles O33: each answer acts in the state in which it has arrived, and each request sent again is one of this tile's own. -/
theorem creditSender : Obligations.CreditSender := by
  unfold Obligations.CreditSender
  refine ⟨fun s lt m hlt => ⟨fun hr harrive => ?_, fun r slot x hr howner hx _ => ⟨fun hphase harrive hhere s1 data hread => ?_,
      fun hphase _ _ hch hforeign hring i hi harrive => ?_⟩⟩,
    fun s lt m r hlt hr hphase => ⟨?_, fun hhere => ?_⟩,
    fun s lt tag r hlt hr hphase => ⟨?_, answerWait_bounds lt⟩⟩
  · exact ⟨_, (exec_creditGrant m hlt harrive).trans (congrArg _ (onGrant_unknown (s := netArrive s (.credit (tileGa s lt) 2 m)) hr)), rfl⟩
  · have hgrant := (onGrant_xact (s := netArrive s (.credit (tileGa s lt) 2 m)) hr howner hx hphase).trans (grantXact_of_read r hread)
    have hsent : r.dst.toNat / 2 ^ 48 = hereId (xactSent s1 lt slot x r) := hhere.trans (hereId_readRange hread).symm
    refine ⟨_, xactWrite s1 lt x r m data false, (exec_creditGrant m hlt harrive).trans (congrArg _ hgrant), ?_, ?_, rfl, rfl, rfl, rfl,
      sameMemory_netSend _ (sameMemory_xactSent s1 lt slot x r)⟩
    · rw [xactOf, netSend_tile, ← xactOf, xactOf_xactSent]
    · rw [msgs_netSend_write hsent]
      exact List.mem_append_right _ (List.mem_singleton_self _)
  · rcases List.mem_pair.mp hi with rfl | rfl
    · exact ⟨_, exec_creditRefuse m hlt harrive,
        endReq_ends (s := netArrive s (.credit (tileGa s lt) 4 m)) m.status hr howner hphase hx hch hforeign hring⟩
    · exact ⟨_, exec_creditAck m hlt harrive,
        endReq_ends (s := netArrive s (.credit (tileGa s lt) 6 m)) m.status hr howner hphase hx hch hforeign hring⟩
  · intro harrive b
    have hnack := onNack_asked (s := netArrive s (.credit (tileGa s lt) 3 m)) hr hphase
    obtain ⟨hlow, hhigh⟩ := backoffWait_bounds (netArrive s (.credit (tileGa s lt) 3 m)) lt r.tries
    exact ⟨_, _, (exec_creditNack m hlt harrive).trans (congrArg _ hnack), reqOf_setReq _ _ _ _, hlow, hhigh,
      sameMemory_trans (sameMemory_retryCounted (netArrive s (.credit (tileGa s lt) 3 m)) lt) (sameMemory_setReq _ lt _ _)⟩
  · obtain ⟨hlow, hhigh⟩ := answerWait_bounds (s := reqRetried s lt m.reqTag r) lt (hhere.trans (hereId_reqRetried ..).symm)
    refine ⟨_, _, creditAnswerTimeout_resends hlt hr hphase, hlow, hhigh, mem_msgs_netSend_credit ?_ 1 _, ?_, ?_⟩
    · rw [hereId_setReq, hereId_reqRetried, hhere]
    · rw [reqOf_netSend, reqOf_setReq]
    · rw [netSend_tile, retries_setReq, retries_reqRetried]
  · rw [exec_creditRetry hlt hr hphase, resend_of_some hr]

end Sys2Proof.Machine
end

section
/-!
SUPPORT. What stopping the units of a tile and ending their items leaves of its pre-emption.
-/
namespace Sys2Proof.Machine

open Sys2Proof

/-! ### FATAL errors -/

theorem ReportBlind.reportFatal {β : Type} {o : Tile → β} (ho : ReportBlind o) (hfatal : ∀ t, o { t with fatal := true, bypassed := true } = o t)
    (s : State) (lt : Nat) (u : UnitId) (software : Bool) (detail : Nat) : Kept o s (reportFatal s lt u software detail) := by
  unfold Machine.reportFatal
  extract_lets f hit s0 s1 seq test s2 s3 s4
  have h0 : Kept o s s0 := kept_modFc s f _
  have h1 : Kept o s0 s1 := Kept.foldl (fun st j => (kept_drawn st).trans (ho.testEnded _ f j 8 _)) hit s0
  have h2 : Kept o s1 s2 := ho.logBoth s1 f u 3 0 _ detail
  have h3 : Kept o s2 s3 := (kept_modFc s2 f _).ite (Kept.refl o s2)
  have h4 : Kept o s3 s4 := (ho.markTests s3 u false).ite (Kept.refl o s3)
  have h5 : Kept o s4 (s4.modTile lt fun t => { t with fatal := true, bypassed := true }) := Kept.modTile _ (hfatal _)
  exact ((((((h0.trans h1).trans h2).trans h3).trans h4).trans h5).trans (ho.isolateTile _ lt)).trans (ho.startEpoch _)

/-! ### The pre-emption of a tile -/

/-- What a tile holds of its pre-emption: whether it saves, the saved DMA items, whether it is to be discarded, and TILE_PRE_STATUS. -/
def preTile (t : Tile) : Bool × List DmaItem × Bool × Word := (t.preSaving, t.dmaSaved, t.discard, regAt regTilePreStatus t)

theorem preTile_regs (t : Tile) {off : Nat} (v : Word) (h : off ≠ regTilePreStatus) : preTile { t with regs := kvSet t.regs off v } = preTile t := by
  rw [preTile, regAt, RegFile.get_kvSet, if_neg (Ne.symm h), preTile, regAt]

theorem accessBlind_preTile : AccessBlind preTile where
  recorder _ _ := rfl
  isolated _ _ := rfl
  isoBanks _ _ := rfl
  regs t _ v h := preTile_regs t v (by rintro rfl; revert h; decide)
  errs _ _ := rfl
  counters _ _ := rfl
  eccRegs t _ v h := preTile_regs t v (by rintro rfl; revert h; decide)

/-- From `s` to `t` every tile holds what it held of its pre-emption. -/
abbrev PreKept (s t : State) : Prop := Kept preTile s t

namespace PreKept

theorem modTile (s : State) (lt : Nat) {g : Tile → Tile} (h : ∀ t, preTile (g t) = preTile t) : PreKept s (s.modTile lt g) := Kept.modTile g (h _)

theorem setTreg (s : State) (lt : Nat) {off : Nat} (v : Word) (h : off ≠ regTilePreStatus) : PreKept s (s.setTreg lt off v) :=
  modTile s lt (g := fun t => { t with regs := kvSet t.regs off v }) fun t => preTile_regs t v h

theorem setTbit (s : State) (lt : Nat) {off : Nat} (i : Nat) (b : Bool) (h : off ≠ regTilePreStatus) : PreKept s (s.setTbit lt off i b) :=
  setTreg s lt _ h

theorem preBit {s t : State} (h : PreKept s t) (lt i : Nat) : preBit t lt i = preBit s lt i := by
  have hword : t.treg lt regTilePreStatus = s.treg lt regTilePreStatus := congrArg (fun p => p.2.2.2) (h.tile lt)
  rw [Machine.preBit, State.tbit, hword, Machine.preBit, State.tbit]

theorem preSaving {s t : State} (h : PreKept s t) (lt : Nat) : (t.tile lt).preSaving = (s.tile lt).preSaving := congrArg (fun p => p.1) (h.tile lt)

theorem dmaSaved {s t : State} (h : PreKept s t) (lt : Nat) : (t.tile lt).dmaSaved = (s.tile lt).dmaSaved := congrArg (fun p => p.2.1) (h.tile lt)

theorem discard {s t : State} (h : PreKept s t) (lt : Nat) : (t.tile lt).discard = (s.tile lt).discard := congrArg (fun p => p.2.2.1) (h.tile lt)

end PreKept

/-! ### Ends of items -/

section Ends
variable (s : State) (lt : Nat)

theorem preKept_memStore (off : Nat) (bs : List Byte) : PreKept s (memStore s lt off bs) := PreKept.modTile s lt fun _ => rfl

theorem preKept_ringAppend (r : CRec) : PreKept s (ringAppend s lt r) := by
  unfold ringAppend
  extract_lets size head tail off
  have hput : PreKept s (bumpCnt (memStore s lt off r.bytes) lt 5 1) := (preKept_memStore s lt off _).trans (PreKept.modTile _ lt fun _ => rfl)
  split
  · split
    · exact hput.trans (PreKept.setTreg _ lt _ (by decide))
    · exact PreKept.setTreg s lt _ (by decide)
  · exact Kept.refl preTile s

theorem preKept_completeItem (u n kind : Nat) (st : Status) (progress : Nat) : PreKept s (completeItem s lt u n kind st progress) := by
  unfold completeItem
  extract_lets x r
  have hslot : PreKept s (setSlot s lt u n { x with busy := false, crec := r }) := PreKept.modTile s lt fun _ => rfl
  exact hslot.trans (preKept_ringAppend _ lt r)

theorem preKept_giveUp (r : SendReq) : PreKept s (giveUp s lt r) := by
  unfold giveUp
  extract_lets s1
  have h1 : PreKept s s1 := Kept.ite (Kept.of_tiles rfl rfl) (Kept.refl preTile s)
  split
  · exact h1.trans (PreKept.modTile s1 lt fun _ => rfl)
  · exact h1.trans (PreKept.modTile s1 lt fun _ => rfl)
  · exact h1

theorem preKept_putDma (i : DmaItem) : PreKept s (putDma s lt i) := by
  unfold putDma modDma
  exact PreKept.modTile s lt fun _ => rfl

theorem preKept_endDma (i : DmaItem) (st : Status) (check : Nat) : PreKept s (endDma s lt i st check) := by
  unfold endDma
  extract_lets s1 resumable s2 s3 marked s4
  have h1 : PreKept s s1 := PreKept.modTile s lt fun _ => rfl
  have h2 : PreKept s1 s2 := PreKept.modTile s1 lt fun _ => rfl
  have h3 : PreKept s2 s3 := Kept.ite (PreKept.setTbit s2 lt 0 true (by decide)) (Kept.refl preTile s2)
  have hmark : PreKept s3 marked := PreKept.setTbit s3 lt 1 true (by decide)
  have h4 : PreKept s3 s4 := by
    unfold s4
    split
    · exact Kept.refl preTile s3
    · split
      · exact hmark
      · exact hmark.trans ((PreKept.setTreg marked lt _ (by decide)).trans (PreKept.setTreg _ lt _ (by decide)))
  exact (((h1.trans h2).trans h3).trans h4).trans (preKept_completeItem s4 lt _ _ _ _ _)

theorem preKept_stopDma (i : DmaItem) (st : Status) (at_ from_ : Nat) : PreKept s (stopDma s lt i st at_ from_) := by
  unfold stopDma
  extract_lets waiting lost s1 upTo flying p j
  have h1 : PreKept s s1 := Kept.foldl (fun x r => preKept_giveUp x lt r) waiting s
  exact Kept.ite (h1.trans (preKept_endDma s1 lt j st 0)) (h1.trans (preKept_putDma s1 lt j))

theorem preKept_endRtu (i : RtuItem) (st : Status) : PreKept s (endRtu s lt i st) := by
  unfold endRtu
  extract_lets s1 s2 s3
  have h1 : PreKept s s1 := PreKept.modTile s lt fun _ => rfl
  have h2 : PreKept s1 s2 := Kept.ite (PreKept.setTbit s1 lt 0 true (by decide)) (Kept.refl preTile s1)
  have h3 : PreKept s2 s3 := Kept.ite (Kept.refl preTile s2) (PreKept.setTbit s2 lt 1 true (by decide))
  exact ((h1.trans h2).trans h3).trans (preKept_completeItem s3 lt _ _ _ _ _)

theorem preKept_rtuStopAll (st : Status) : PreKept s (rtuStopAll s lt st) := by
  have hstop : PreKept s (stopRtu s lt st) := by
    unfold stopRtu
    split
    · exact Kept.refl preTile s
    · split
      · exact Kept.refl preTile s
      · split
        · exact preKept_endRtu s lt _ st
        · exact PreKept.modTile s lt fun _ => rfl
  exact hstop.trans (Kept.foldl (fun x i => preKept_endRtu x lt i st) _ _)

theorem preKept_modMe (f : MeState → MeState) : PreKept s (modMe s lt f) := PreKept.modTile s lt fun _ => rfl

theorem preKept_meComplete (i : MeItem) (st : Status) (prog : Nat) : PreKept s (meComplete s lt i st prog) := by
  unfold meComplete
  extract_lets s1 s2
  have hdrop : PreKept s (if i.sample.isSome then dropSample s lt i.handle else s) := Kept.ite (Kept.of_tiles rfl rfl) (Kept.refl preTile s)
  have h1 : PreKept s s1 := hdrop.trans (preKept_modMe _ lt _)
  have h2 : PreKept s1 s2 := preKept_completeItem s1 lt _ _ _ _ _
  exact (h1.trans h2).trans (Kept.ite (PreKept.setTbit s2 lt 0 true (by decide)) (Kept.refl preTile s2))

theorem preKept_setMeBit (i : Nat) (b : Bool) : PreKept s (setMeBit s lt i b) := PreKept.setTbit s lt i b (by decide)

/-! ### Whole units -/

theorem preKept_meSave : PreKept s (meSave s lt) := by
  unfold meSave
  exact Kept.ite (Kept.refl preTile s) (Kept.ite (preKept_setMeBit s lt 15 true) ((preKept_setMeBit s lt 12 true).trans (preKept_modMe _ lt _)))

theorem preKept_meDiscard : PreKept s (meDiscard s lt) := by
  unfold meDiscard
  split
  · exact ((Kept.foldl (fun x i => preKept_meComplete x lt i _ _) _ s).trans (preKept_modMe _ lt _)).trans (preKept_setMeBit _ lt 13 false)
  · exact Kept.refl preTile s

theorem preKept_dmaQuiet : PreKept s (dmaQuiet s lt) := by
  unfold dmaQuiet
  refine Kept.foldl (fun x i => ?_) _ s
  extract_lets waiting lost x1
  have h1 : PreKept x x1 := Kept.foldl (fun y r => preKept_giveUp y lt r) waiting x
  split
  · exact h1
  · split
    · split
      · exact preKept_stopDma x lt i _ _ 0
      · exact h1
    · exact h1.trans (preKept_putDma x1 lt _)

theorem preKept_stopLanes : PreKept s (stopLanes s lt) := PreKept.modTile s lt fun _ => rfl

theorem preKept_modTcc (f : Tcc → Tcc) : PreKept s (modTcc s lt f) := PreKept.modTile s lt fun _ => rfl

theorem preKept_tccTrap (cause : Cause) (st : Status) (info : Option DWord) : PreKept s (tccTrap s lt cause st info) := by
  unfold tccTrap
  extract_lets t toS i u
  have hu : PreKept s u := Kept.ite (Kept.of_tiles rfl rfl) (Kept.refl preTile s)
  split
  · exact hu.trans (preKept_modTcc u lt _)
  · split
    · exact hu.trans (preKept_modTcc u lt _)
    · split
      · exact hu.trans (preKept_modTcc u lt _)
      · exact (hu.trans (preKept_modTcc u lt _)).trans (accessBlind_preTile.toReportBlind.reportFatal (fun _ => rfl) _ lt _ _ _)

theorem preKept_skRequest (target : Option Nat) : PreKept s (skRequest s lt target) := by
  unfold skRequest
  split
  · exact Kept.refl preTile s
  · exact PreKept.modTile s lt fun _ => rfl

theorem preKept_releaseHeld : PreKept s (releaseHeld s lt) := by
  unfold releaseHeld
  split
  · exact Kept.refl preTile s
  · next n t o _ =>
    have hsk : PreKept s (modSk s lt fun k => { k with trigHeld := none }) := PreKept.modTile s lt fun _ => rfl
    refine hsk.trans ?_
    unfold triggerActs
    split
    · exact (kept_drawn _).trans (preKept_tccTrap _ lt _ _ _)
    · split
      · exact preKept_skRequest _ lt _
      · exact (PreKept.setTbit _ lt 5 true (by decide)).trans (accessBlind_preTile.toReportBlind.skbEvent _ _ _ _)

end Ends

end Sys2Proof.Machine
end

section
/-!
O45: saving a tile.
-/
namespace Sys2Proof.Machine

open Sys2Proof

/-! ### Bits of TILE_PRE_STATUS -/

theorem preBit_setPreBit_same (s : State) (lt : Nat) {i : Nat} (b : Bool) (hi : i < 32) : preBit (setPreBit s lt i b) lt i = b :=
  State.tbit_setTbit_same s lt _ b hi

theorem preBit_setPreBit_ne (s : State) (lt : Nat) {i j : Nat} (b : Bool) (hj : j < 32) (h : j ≠ i) :
    preBit (setPreBit s lt i b) lt j = preBit s lt j := State.tbit_setTbit_ne s lt _ b lt hj h

theorem sameMemory_setPreBit (s : State) (lt i : Nat) (b : Bool) : sameMemory s (setPreBit s lt i b) := sameMemory_setTbit s lt _ i b

/-! ### SAVE -/

theorem writeTilePre_save (s : State) (lt : Nat) : writeTilePre s lt .m 1 = preSave s lt := by
  obtain ⟨h0, h1, h2⟩ : bit (1 : Word) 0 = true ∧ bit (1 : Word) 1 = false ∧ bit (1 : Word) 2 = false := by decide
  simp only [writeTilePre, h0, h1, h2, if_true, Bool.false_eq_true, if_false]

theorem exec_tilePreSave {s : State} {lt : Nat} {lv : Level} (hlt : lt < 1320) (hlv : lv ≠ .u) :
    exec (.tilePreSave lt lv) s = .next (accessReply (writeTilePre s lt lv 1) stOk 0) := by
  show regCommand lt lv (fun s => writeTilePre s lt lv 1) s = _
  rw [regCommand_of_privileged hlt hlv]

section Save
variable {s : State} {lt : Nat} (hsaving : preBit s lt 0 = false) (hsaved : preBit s lt 1 = false)
include hsaving hsaved

theorem preSave_refused {b : Nat} (hb : b < 29) (hoff : (s.tile lt).bank b ≠ .on) : preSave s lt = setPreBit s lt 2 true := by
  have hany : (List.range 29).any (fun b => (s.tile lt).bank b != .on) = true :=
    List.any_eq_true.mpr ⟨b, List.mem_range.mpr hb, by simpa using hoff⟩
  rw [preSave, hsaving, hsaved, hany]
  rfl

/-- The state in which the units of a tile are asked to stop for a SAVE (R322). -/
def saveBegun (s : State) (lt : Nat) : State :=
  (setPreBit (setPreBit s lt 2 false) lt 0 true).modTile lt (fun t => { t with preSaving := true })

theorem preSave_begins (hon : ∀ b, b < 29 → (s.tile lt).bank b = .on) :
    preSave s lt = meSave (dmaQuiet (rtuStopAll (saveBegun s lt) lt stPreempted) lt) lt := by
  have hany : (List.range 29).any (fun b => (s.tile lt).bank b != .on) = false := by
    rw [List.any_eq_false]
    intro b hb
    simp [hon b (List.mem_range.mp hb)]
  rw [preSave, hsaving, hsaved, hany]
  rfl

omit hsaving in
/-- A SAVE that is accepted is marked (R322). -/
theorem saveBegun_marks : preBit (saveBegun s lt) lt 0 = true ∧ preBit (saveBegun s lt) lt 1 = false ∧ preBit (saveBegun s lt) lt 2 = false ∧
    ((saveBegun s lt).tile lt).preSaving = true := by
  have hbit : ∀ i, preBit (saveBegun s lt) lt i = preBit (setPreBit (setPreBit s lt 2 false) lt 0 true) lt i := fun i =>
    congrArg (bit · i) (State.treg_modTile (g := fun t => { t with preSaving := true }) rfl lt regTilePreStatus)
  refine ⟨?_, ?_, ?_, by rw [saveBegun, State.tile_modTile_self]⟩
  · rw [hbit, preBit_setPreBit_same _ _ _ (by decide)]
  · rw [hbit, preBit_setPreBit_ne _ _ _ (by decide) (by decide), preBit_setPreBit_ne _ _ _ (by decide) (by decide), hsaved]
  · rw [hbit, preBit_setPreBit_ne _ _ _ (by decide) (by decide), preBit_setPreBit_same _ _ _ (by decide)]

theorem tilePreSave_begins (hlt : lt < 1320) (hon : ∀ b, b < 29 → (s.tile lt).bank b = .on) :
    ∃ t, exec (.tilePreSave lt .m) s = .next t ∧ preBit t lt 0 = true ∧ preBit t lt 1 = false ∧ preBit t lt 2 = false ∧
      (t.tile lt).preSaving = true := by
  rw [exec_tilePreSave hlt (by decide), writeTilePre_save, preSave_begins hsaving hsaved hon]
  have hkept : PreKept (saveBegun s lt) (accessReply (meSave (dmaQuiet (rtuStopAll (saveBegun s lt) lt stPreempted) lt) lt) stOk 0) :=
    (((preKept_rtuStopAll _ lt _).trans (preKept_dmaQuiet _ lt)).trans (preKept_meSave _ lt)).trans (Kept.of_tiles rfl rfl)
  obtain ⟨h0, h1, h2, hp⟩ := saveBegun_marks (lt := lt) hsaved
  exact ⟨_, rfl, by rw [hkept.preBit, h0], by rw [hkept.preBit, h1], by rw [hkept.preBit, h2], by rw [hkept.preSaving, hp]⟩

theorem tilePreSave_refused (hlt : lt < 1320) {b : Nat} (hb : b < 29) (hoff : (s.tile lt).bank b ≠ .on) :
    ∃ t, exec (.tilePreSave lt .m) s = .next t ∧ preBit t lt 0 = false ∧ preBit t lt 1 = false ∧ preBit t lt 2 = true ∧
      (t.tile lt).lanes = (s.tile lt).lanes ∧ (t.tile lt).dma = (s.tile lt).dma ∧ (t.tile lt).rtu = (s.tile lt).rtu ∧ sameMemory s t := by
  have hreply : ∀ (u : State) i, preBit (accessReply u stOk 0) lt i = preBit u lt i := fun u i => accessReply_tbit u stOk 0 lt _ i
  rw [exec_tilePreSave hlt (by decide), writeTilePre_save, preSave_refused hsaving hsaved hb hoff]
  refine ⟨_, rfl, ?_, ?_, ?_, ?_, ?_, ?_, sameMemory_accessReply _ _ _ (sameMemory_setPreBit s lt 2 true)⟩
  · rw [hreply, preBit_setPreBit_ne _ _ _ (by decide) (by decide), hsaving]
  · rw [hreply, preBit_setPreBit_ne _ _ _ (by decide) (by decide), hsaved]
  · rw [hreply, preBit_setPreBit_same _ _ _ (by decide)]
  · rw [accessReply_tile, setPreBit, State.setTbit_tile_lanes]
  · rw [accessReply_tile, setPreBit, State.setTbit_tile_dma]
  · rw [accessReply_tile, setPreBit, State.setTbit_tile_rtu]

end Save

/-! ### Lane cores -/

theorem length_flatten_of_const {α : Type} {l : List (List α)} {n : Nat} (h : ∀ x ∈ l, x.length = n) : l.flatten.length = l.length * n := by
  rw [List.length_flatten, List.sum_eq_card_nsmul _ n (by simpa using h), List.length_map, smul_eq_mul]

theorem length_laneImage (l : LaneCore) : (laneImage l).length = 1024 := by
  have hg : ((l.g.toList.drop 1).map (fun w => leBytes 4 w.toNat)).flatten.length = 31 * 4 := by
    rw [length_flatten_of_const (n := 4) (fun x hx => by obtain ⟨w, -, rfl⟩ := List.mem_map.mp hx; exact length_leBytes _ _)]; simp
  have hv : ((l.v.toList.map (fun w => leBytes 16 w.toNat)).flatten).length = 32 * 16 := by
    rw [length_flatten_of_const (n := 16) (fun x hx => by obtain ⟨w, -, rfl⟩ := List.mem_map.mp hx; exact length_leBytes _ _)]; simp
  simp only [laneImage, List.length_append, length_leBytes, hg, hv]

/-- The state in which a lane core is saved: the first to be saved finds no others lost (R324). -/
def laneSaveBegun (s : State) (lt : Nat) : State :=
  if (s.tile lt).lanes.all (fun p => !p.2.parked) then (s.setTfld lt regTilePreStatus 16 8 0).modTile lt (fun t => { t with lostLanes := [] }) else s

/-- A lane core that is parked. -/
def laneParked (l : LaneCore) : LaneCore := { l with parked := true, wait := none }

/-- A lane core that is parked and lost: it stays stopped. -/
def laneLost (l : LaneCore) : LaneCore := { l with parked := true, wait := none, st := .stopped, frec := { l.frec with valid := false } }

theorem lane_modLane (s : State) (lt n : Nat) (f : LaneCore → LaneCore) (k : Nat) :
    ((modLane s lt n f).tile lt).lane k = if k = n then f ((s.tile lt).lane n) else (s.tile lt).lane k := by
  simp only [modLane, State.tile_modTile_self, Tile.lane, kvGet_kvSet]

section Begun
variable (s : State) (lt : Nat)

/-- What sees neither the registers of a tile nor the list of its lost lane cores sees no such start. -/
theorem laneSaveBegun_keeps {β : Type} (o : Tile → β) (hregs : ∀ t r, o { t with regs := r } = o t) (hlost : ∀ t l, o { t with lostLanes := l } = o t)
    (x : Nat) : o ((laneSaveBegun s lt).tile x) = o (s.tile x) := by
  unfold laneSaveBegun
  split
  · exact (State.tile_modTile_keeps (g := fun t => { t with lostLanes := [] }) o (hlost _ _) x).trans (State.tile_modTile_keeps o (hregs _ _) x)
  · rfl

theorem lane_laneSaveBegun (n : Nat) : ((laneSaveBegun s lt).tile lt).lane n = (s.tile lt).lane n :=
  laneSaveBegun_keeps s lt (fun t => t.lane n) (fun _ _ => rfl) (fun _ _ => rfl) lt

theorem bank_laneSaveBegun (b : Nat) : ((laneSaveBegun s lt).tile lt).bank b = (s.tile lt).bank b :=
  laneSaveBegun_keeps s lt (fun t => t.bank b) (fun _ _ => rfl) (fun _ _ => rfl) lt

theorem mem_laneSaveBegun (x : Nat) : ((laneSaveBegun s lt).tile x).mem = (s.tile x).mem :=
  laneSaveBegun_keeps s lt Tile.mem (fun _ _ => rfl) (fun _ _ => rfl) x

theorem lostCount_laneSaveBegun : (laneSaveBegun s lt).tfld lt regTilePreStatus 16 8 =
    if (s.tile lt).lanes.any (fun p => p.2.parked) then s.tfld lt regTilePreStatus 16 8 else 0 := by
  have hall : (s.tile lt).lanes.all (fun p => !p.2.parked) = !(s.tile lt).lanes.any (fun p => p.2.parked) := by
    rw [List.any_eq_not_all_not, Bool.not_not]
  rw [laneSaveBegun, hall]
  cases (s.tile lt).lanes.any (fun p => p.2.parked) with
  | true => rfl
  | false =>
    refine (congrArg (fld · 16 8) (State.treg_modTile (g := fun t => { t with lostLanes := [] }) rfl lt regTilePreStatus)).trans ?_
    exact State.tfld_setTfld_same s lt _ (by decide) (by decide)

end Begun

/-- The tile whose lane core has been saved refuses power-downs (R65). -/
def markLaneSaved (t : Tile) : Tile := { t with laneSaved := true }

theorem saveLane_of_on {s : State} {lt n : Nat} (hon : (s.tile lt).bank (n / 4) = .on) :
    saveLane s lt n = (memStore (modLane (laneSaveBegun s lt) lt n laneParked) lt (lanePart n) (laneImage ((s.tile lt).lane n))).modTile lt
      markLaneSaved := by
  rw [← bank_laneSaveBegun] at hon
  rw [← lane_laneSaveBegun]
  exact if_pos hon

/-- A lost lane core is listed (R324). -/
def listLost (n : Nat) (t : Tile) : Tile := { t with lostLanes := t.lostLanes ++ [n] }

theorem saveLane_of_off {s : State} {lt n : Nat} (hoff : (s.tile lt).bank (n / 4) ≠ .on) :
    saveLane s lt n = ((modLane (laneSaveBegun s lt) lt n laneLost).setTfld lt regTilePreStatus 16 8
      ((modLane (laneSaveBegun s lt) lt n laneLost).tfld lt regTilePreStatus 16 8 + 1)).modTile lt (listLost n) := by
  rw [← bank_laneSaveBegun] at hoff
  exact if_neg hoff

theorem exec_laneStateSave {s : State} {lt : Nat} {lane : BitVec 8} (hlt : lt < 1320) (hstop : (s.tile lt).preStop = true)
    (hparked : ((s.tile lt).lane lane.toNat).parked = false) (hrun : unitsStop s lt = false) :
    exec (.laneStateSave lt lane) s = .next (saveLane s lt lane.toNat) := by
  show execLaneStateSave lt lane s = _
  rw [execLaneStateSave, onTile_of_lt hlt, hstop, hparked, hrun]
  rfl

/-- A lane core whose bank is on is parked, and its state stands in its part of the save area (R116, Table 4.11). -/
theorem saveLane_saves {s : State} {lt n : Nat} (hon : (s.tile lt).bank (n / 4) = .on) (hwf : Memory.wf (s.tile lt).mem = true) :
    (((saveLane s lt n).tile lt).lane n).parked = true ∧ ((saveLane s lt n).tile lt).laneSaved = true ∧
      memBytes ((saveLane s lt n).tile lt).mem (lanePart n) 1024 = laneImage ((s.tile lt).lane n) ∧
      sameMemoryBut lt (lanePart n) 1024 s (saveLane s lt n) ∧ ∀ k, k ≠ n → ((saveLane s lt n).tile lt).lane k = (s.tile lt).lane k := by
  have hlane : ∀ k, ((saveLane s lt n).tile lt).lane k = ((modLane (laneSaveBegun s lt) lt n laneParked).tile lt).lane k := fun k => by
    rw [saveLane_of_on hon, State.tile_modTile_self, memStore, State.tile_modTile_self]
    rfl
  have hmem : ∀ x, ((saveLane s lt n).tile x).mem =
      ((memStore (modLane (laneSaveBegun s lt) lt n laneParked) lt (lanePart n) (laneImage ((s.tile lt).lane n))).tile x).mem := fun x => by
    rw [saveLane_of_on hon]
    exact State.tile_modTile_keeps (g := markLaneSaved) Tile.mem (by rw [markLaneSaved]) x
  have hbefore : ∀ x, ((modLane (laneSaveBegun s lt) lt n laneParked).tile x).mem = (s.tile x).mem := fun x => by
    rw [modLane_tile_mem, mem_laneSaveBegun]
  have hlen := length_laneImage ((s.tile lt).lane n)
  refine ⟨?_, ?_, ?_, fun x a ha => ?_, fun k hk => ?_⟩
  · rw [hlane, lane_modLane, if_pos rfl, laneParked]
  · rw [saveLane_of_on hon, State.tile_modTile_self, markLaneSaved]
  · rw [hmem, memStore, State.tile_modTile_self, ← hlen]
    exact memBytes_memPut (by rw [hbefore]; exact hwf) _ _
  · rw [hmem]
    by_cases hx : x = lt
    · subst hx
      rw [memGet_memStore (by rw [hbefore]; exact hwf), hlen, if_neg ha, hbefore]
    · rw [memStore, State.tile_modTile_ne _ _ hx, hbefore]
  · rw [hlane, lane_modLane, if_neg hk, lane_laneSaveBegun]

/-- A lane core whose bank is not on is lost (R324). -/
theorem saveLane_loses {s : State} {lt n : Nat} (hoff : (s.tile lt).bank (n / 4) ≠ .on) :
    (((saveLane s lt n).tile lt).lane n).parked = true ∧ (((saveLane s lt n).tile lt).lane n).st = .stopped ∧
      n ∈ ((saveLane s lt n).tile lt).lostLanes ∧
      (saveLane s lt n).tfld lt regTilePreStatus 16 8 =
        ((if (s.tile lt).lanes.any (fun p => p.2.parked) then s.tfld lt regTilePreStatus 16 8 else 0) + 1) % 512 ∧
      sameMemory s (saveLane s lt n) := by
  have hlane : ((saveLane s lt n).tile lt).lane n = laneLost ((s.tile lt).lane n) := by
    rw [saveLane_of_off hoff, State.tile_modTile_self, ← lane_laneSaveBegun s lt]
    show kvGet LaneCore.reset (State.tile _ lt).lanes n = _
    rw [State.setTfld_tile_lanes]
    exact (lane_modLane _ lt n laneLost n).trans (if_pos rfl)
  have hbegun : (modLane (laneSaveBegun s lt) lt n laneLost).tfld lt regTilePreStatus 16 8 = (laneSaveBegun s lt).tfld lt regTilePreStatus 16 8 :=
    congrArg (fld · 16 8) (State.treg_modTile (g := fun t => { t with lanes := kvSet t.lanes n (laneLost (t.lane n)) }) rfl lt regTilePreStatus)
  have hcount : (saveLane s lt n).treg lt regTilePreStatus = ((modLane (laneSaveBegun s lt) lt n laneLost).setTfld lt regTilePreStatus 16 8
      ((modLane (laneSaveBegun s lt) lt n laneLost).tfld lt regTilePreStatus 16 8 + 1)).treg lt regTilePreStatus := by
    rw [saveLane_of_off hoff]
    exact State.treg_modTile (g := listLost n) (by rw [listLost]) lt regTilePreStatus
  refine ⟨by rw [hlane, laneLost], by rw [hlane, laneLost], ?_, ?_, fun x a => ?_⟩
  · rw [saveLane_of_off hoff, State.tile_modTile_self, listLost]
    exact List.mem_append_right _ (List.mem_singleton_self n)
  · rw [State.tfld, hcount, ← State.tfld, State.tfld_setTfld _ _ _ _ (by decide), hbegun, lostCount_laneSaveBegun]
    rfl
  · have hmem : ((saveLane s lt n).tile x).mem = (s.tile x).mem := by
      rw [saveLane_of_off hoff, State.tile_modTile_keeps (g := listLost n) Tile.mem (by rw [listLost]), State.setTfld_tile_mem, modLane_tile_mem,
        mem_laneSaveBegun]
    rw [hmem]

/-! ### Regions of the save area -/

/-- One chunk of a region, stored in its part (R323). -/
def storeChunk (lt p : Nat) (bs : List Byte) (s : State) (k : Nat) : State :=
  memStore s lt (regionByte p (3072 * k)) ((bs.drop (3072 * k)).take 3072)

theorem storeRegion_eq (s : State) (lt p : Nat) (bs : List Byte) :
    storeRegion s lt p bs = (List.range (ceilDiv bs.length 3072)).foldl (storeChunk lt p bs) s := rfl

section Chunks
variable (lt p : Nat) (bs : List Byte)

/-- What sees neither memory nor errors sees no chunk. -/
theorem storeChunks_keep {β : Type} (o : Tile → β) (hstore : ∀ t m e, o { t with mem := m, errs := e } = o t) (ks : List Nat) (s : State) (x : Nat) :
    o ((ks.foldl (storeChunk lt p bs) s).tile x) = o (s.tile x) := by
  induction ks generalizing s with
  | nil => rfl
  | cons k r ih => exact (ih _).trans (State.tile_modTile_keeps o (hstore _ _ _) x)

theorem wf_storeChunks (ks : List Nat) {s : State} (hwf : Memory.wf (s.tile lt).mem = true) :
    Memory.wf ((ks.foldl (storeChunk lt p bs) s).tile lt).mem = true := by
  induction ks generalizing s with
  | nil => exact hwf
  | cons k r ih =>
    refine ih ?_
    rw [storeChunk, memStore, State.tile_modTile_self]
    exact Memory.wf_memPut _ _ hwf

/-- A byte outside the parts that the chunks fill stays as it was. -/
theorem memGet_storeChunks_outside (ks : List Nat) {s : State} (hwf : Memory.wf (s.tile lt).mem = true) {x a : Nat}
    (hout : x = lt → ∀ k ∈ ks, ¬ (regionByte (p + k) 0 ≤ a ∧ a < regionByte (p + k) 0 + 3072)) :
    memGet ((ks.foldl (storeChunk lt p bs) s).tile x).mem a = memGet (s.tile x).mem a := by
  induction ks generalizing s with
  | nil => rfl
  | cons k r ih =>
    have hstep : memGet ((storeChunk lt p bs s k).tile x).mem a = memGet (s.tile x).mem a := by
      by_cases hx : x = lt
      · subst hx
        have hk := hout rfl k (List.mem_cons_self ..)
        have hpart : regionByte (p + k) 0 = regionByte p (3072 * k) := by simp only [regionByte]; omega
        rw [storeChunk, memGet_memStore hwf, if_neg]
        rw [hpart] at hk
        simp only [List.length_take]
        omega
      · rw [storeChunk, memStore, State.tile_modTile_ne _ _ hx]
    exact (ih (s := storeChunk lt p bs s k) (wf_storeChunks lt p bs [k] hwf) (fun h j hj => hout h j (List.mem_cons_of_mem _ hj))).trans hstep

/-- A byte of a chunk that has been stored is the byte of the region. -/
theorem memGet_storeChunks_inside (m : Nat) {s : State} (hwf : Memory.wf (s.tile lt).mem = true) {j : Nat} (hj : j < bs.length) (hm : j / 3072 < m) :
    memGet (((List.range m).foldl (storeChunk lt p bs) s).tile lt).mem (regionByte p j) = bs.getD j 0 := by
  induction m with
  | zero => omega
  | succ m ih =>
    rw [List.range_succ, List.foldl_append, List.foldl_cons, List.foldl_nil, storeChunk,
      memGet_memStore (wf_storeChunks lt p bs _ hwf)]
    by_cases h : j / 3072 = m
    · have hpos : regionByte p j = regionByte p (3072 * m) + (j - 3072 * m) := by simp only [regionByte]; omega
      rw [if_pos ⟨rfl, by omega, by rw [List.length_take, List.length_drop]; omega⟩, hpos, Nat.add_sub_cancel_left, List.getD_eq_getElem?_getD,
        List.getElem?_take_of_lt (by omega), List.getElem?_drop, List.getD_eq_getElem?_getD]
      congr 2
      omega
    · rw [if_neg, ih (by omega)]
      simp only [regionByte, List.length_take, List.length_drop]
      omega

end Chunks

/-- A region reads back as what was stored in it (R323). -/
theorem regionBytes_storeRegion {s : State} {lt : Nat} (p : Nat) (bs : List Byte) (hwf : Memory.wf (s.tile lt).mem = true) :
    regionBytes (storeRegion s lt p bs) lt p bs.length = bs := by
  refine List.ext_getElem (by simp [regionBytes]) fun j h1 h2 => ?_
  simp only [regionBytes, List.getElem_map, List.getElem_range]
  rw [storeRegion_eq, memGet_storeChunks_inside lt p bs _ hwf h2 (by simp only [ceilDiv]; omega), List.getD_eq_getElem _ _ h2]

/-! ### The image of a tile -/

theorem length_slice (bs : List Byte) (i n : Nat) : (slice bs i n).length = n := by
  have htake : ((bs.drop i).take n).length ≤ n := List.length_take_le _ _
  simp only [slice, List.length_append, List.length_replicate]
  omega

theorem length_dmaRecord (s : State) (lt : Nat) : (dmaRecord s lt).length = 5184 := by
  simp only [dmaRecord, List.length_append, length_slice]

theorem length_lcImage (s : State) (lt : Nat) : (lcImage s lt).length = 4352 := by
  have hwords : ∀ (n : Nat) (f : Nat → Word), (((List.range n).map (fun k => leBytes 4 (f k).toNat)).flatten).length = n * 4 := fun n f => by
    rw [length_flatten_of_const (n := 4) (fun x hx => by obtain ⟨k, -, rfl⟩ := List.mem_map.mp hx; exact length_leBytes _ _), List.length_map,
      List.length_range]
  simp only [lcImage, List.length_append, hwords]

/-- The state whose DMA record and LC image stand in the save area (R322 step 6). -/
def imageStored (s : State) (lt : Nat) : State := storeRegion (storeRegion s.drawn lt 109 (dmaRecord s lt)) lt 111 (lcImage s lt)

/-- The DMA queue of a tile is held as saved (R322 step 7). -/
def queueSaved (t : Tile) : Tile := { t with dmaSaved := t.dma, dma := [], dmaTurns := [], preSaving := false }

theorem preSaved_eq (s : State) (lt : Nat) :
    preSaved s lt = setPreBit (setPreBit ((imageStored s lt).modTile lt queueSaved) lt 0 false) lt 1 true := rfl

section Image
variable (s : State) (lt : Nat)

theorem imageStored_keeps {β : Type} (o : Tile → β) (hstore : ∀ t m e, o { t with mem := m, errs := e } = o t) (x : Nat) :
    o ((imageStored s lt).tile x) = o (s.tile x) :=
  (storeChunks_keep lt 111 _ o hstore _ _ x).trans (storeChunks_keep lt 109 _ o hstore _ s.drawn x)

/-- The observations of a tile that a change of TILE_PRE_STATUS and of the DMA queue leaves, a SAVE that ends leaves as the storing left them. -/
theorem preSaved_keeps {β : Type} (o : Tile → β) (hregs : ∀ t r, o { t with regs := r } = o t) (hqueue : ∀ t, o (queueSaved t) = o t) (x : Nat) :
    o ((preSaved s lt).tile x) = o ((imageStored s lt).tile x) := by
  have hbit : ∀ (u : State) i b, o ((setPreBit u lt i b).tile x) = o (u.tile x) := fun u i b => State.tile_modTile_keeps o (hregs _ _) x
  rw [preSaved_eq, hbit, hbit]
  exact State.tile_modTile_keeps o (hqueue _) x

theorem preSaved_mem (x : Nat) : ((preSaved s lt).tile x).mem = ((imageStored s lt).tile x).mem :=
  preSaved_keeps s lt Tile.mem (fun _ _ => rfl) (fun _ => rfl) x

theorem preSaved_discard (x : Nat) : ((preSaved s lt).tile x).discard = (s.tile x).discard :=
  (preSaved_keeps s lt Tile.discard (fun _ _ => rfl) (fun _ => rfl) x).trans (imageStored_keeps s lt Tile.discard (fun _ _ _ => rfl) x)

theorem preSaved_bits : preBit (preSaved s lt) lt 0 = false ∧ preBit (preSaved s lt) lt 1 = true := by
  rw [preSaved_eq]
  refine ⟨?_, preBit_setPreBit_same _ _ _ (by decide)⟩
  rw [preBit_setPreBit_ne _ _ _ (by decide) (by decide), preBit_setPreBit_same _ _ _ (by decide)]

/-- The DMA queue is held as saved, and the tile saves no more (R322). -/
theorem preSaved_queue : ((preSaved s lt).tile lt).dmaSaved = (s.tile lt).dma ∧ ((preSaved s lt).tile lt).dma = [] ∧
    ((preSaved s lt).tile lt).preSaving = false := by
  have hdma : ((imageStored s lt).tile lt).dma = (s.tile lt).dma := imageStored_keeps s lt Tile.dma (fun _ _ _ => rfl) lt
  rw [preSaved_eq]
  simp only [setPreBit, State.setTbit_tile_dmaSaved, State.setTbit_tile_dma, State.setTbit_tile_preSaving, State.tile_modTile_self, queueSaved, hdma,
    and_self]

variable {s lt} (hwf : Memory.wf (s.tile lt).mem = true)
include hwf

theorem regionBytes_imageStored : regionBytes (imageStored s lt) lt 111 4352 = lcImage s lt := by
  rw [← length_lcImage s lt]
  exact regionBytes_storeRegion 111 _ (wf_storeChunks lt 109 _ _ hwf)

/-- A byte outside the four parts of the two regions stays as it was (R323). -/
theorem memGet_imageStored_outside {x a : Nat}
    (hout : x = lt → ∀ k, k < 4 → ¬ (regionByte (109 + k) 0 ≤ a ∧ a < regionByte (109 + k) 0 + 3072)) :
    memGet ((imageStored s lt).tile x).mem a = memGet (s.tile x).mem a := by
  have hparts : ∀ {bs : List Byte} {k : Nat}, bs.length ≤ 6144 → k ∈ List.range (ceilDiv bs.length 3072) → k < 2 := fun hlen hk => by
    have := List.mem_range.mp hk
    simp only [ceilDiv] at this
    omega
  refine (memGet_storeChunks_outside lt 111 _ _ (wf_storeChunks lt 109 _ _ (s := s.drawn) hwf) fun hx k hk => ?_).trans
    (memGet_storeChunks_outside lt 109 _ _ (s := s.drawn) hwf fun hx k hk => ?_)
  · have hk2 := hparts (by rw [length_lcImage]; decide) hk
    have := hout hx (k + 2) (by omega)
    rwa [show 109 + (k + 2) = 111 + k by omega] at this
  · have hk2 := hparts (by rw [length_dmaRecord]; decide) hk
    exact hout hx k (by omega)

end Image

/-! ### A tile that is discarded at once -/

/-- A tile that is to be discarded no more. -/
def discardTaken (t : Tile) : Tile := { t with discard := false }

/-- A tile without saved DMA items. -/
def savedDropped (t : Tile) : Tile := { t with dmaSaved := [] }

/-- The state in which the saved DMA items of a tile have completed (R325). -/
def savedEnded (s : State) (lt : Nat) : State := (s.tile lt).dmaSaved.foldl (fun x i => endDma x lt i stPreempted 0) s

/-- The state in which a tile is discarded but for what the pre-emption held back (R325). -/
def discardDone (s : State) (lt : Nat) : State := setPreBit (stopLanes (meDiscard ((savedEnded s lt).modTile lt savedDropped) lt) lt) lt 1 false

theorem preDiscard_of_saved {s : State} {lt : Nat} (h : preBit s lt 1 = true) : preDiscard s lt = releaseHeld (discardDone s lt) lt := by
  rw [preDiscard, if_pos h]
  rfl

/-- DISCARD of a saved tile clears SAVED and drops the saved DMA items (R325). -/
theorem preDiscard_drops {s : State} {lt : Nat} (h : preBit s lt 1 = true) :
    preBit (preDiscard s lt) lt 0 = preBit s lt 0 ∧ preBit (preDiscard s lt) lt 1 = false ∧ ((preDiscard s lt).tile lt).dmaSaved = [] ∧
      ((preDiscard s lt).tile lt).discard = (s.tile lt).discard := by
  have hended : PreKept s (savedEnded s lt) := Kept.foldl (fun x i => preKept_endDma x lt i stPreempted 0) _ s
  have hunits : PreKept ((savedEnded s lt).modTile lt savedDropped) (stopLanes (meDiscard ((savedEnded s lt).modTile lt savedDropped) lt) lt) :=
    (preKept_meDiscard _ lt).trans (preKept_stopLanes _ lt)
  have hheld : PreKept (discardDone s lt) (preDiscard s lt) := by rw [preDiscard_of_saved h]; exact preKept_releaseHeld _ lt
  have hdropped : ∀ i, preBit ((savedEnded s lt).modTile lt savedDropped) lt i = preBit (savedEnded s lt) lt i := fun i =>
    congrArg (bit · i) (State.treg_modTile (g := savedDropped) (by rw [savedDropped]) lt regTilePreStatus)
  refine ⟨?_, ?_, ?_, ?_⟩
  · rw [hheld.preBit, discardDone, preBit_setPreBit_ne _ _ _ (by decide) (by decide), hunits.preBit, hdropped, hended.preBit]
  · rw [hheld.preBit, discardDone, preBit_setPreBit_same _ _ _ (by decide)]
  · rw [hheld.dmaSaved, discardDone, setPreBit, State.setTbit_tile_dmaSaved, hunits.dmaSaved, State.tile_modTile_self, savedDropped]
  · rw [hheld.discard, discardDone, setPreBit, State.setTbit_tile_discard, hunits.discard, State.tile_modTile_self, savedDropped, hended.discard]

/-! ### The statement -/

section Saved
variable {s : State} {lt : Nat} (hlt : lt < 1320) (hsaving : preBit s lt 0 = true) (hquiet : preQuiet s lt = true) (hrun : unitsStop s lt = false)
include hlt hsaving hquiet hrun

theorem exec_tilePreSaved :
    exec (.tilePreSaved lt) s =
      .next (if (s.tile lt).discard then preDiscard ((preSaved s lt).modTile lt discardTaken) lt else preSaved s lt) := by
  show execTilePreSaved lt s = _
  rw [execTilePreSaved, onTile_of_lt hlt, hsaving, hquiet, hrun, ← preSaved_discard]
  rfl

theorem tilePreSaved_saves (hkeep : (s.tile lt).discard = false) (hwf : Memory.wf (s.tile lt).mem = true) :
    ∃ t, exec (.tilePreSaved lt) s = .next t ∧ preBit t lt 0 = false ∧ preBit t lt 1 = true ∧ (t.tile lt).dmaSaved = (s.tile lt).dma ∧
      (t.tile lt).dma = [] ∧ (t.tile lt).preSaving = false ∧ regionBytes t lt 111 4352 = lcImage s lt ∧
      (∀ lt' a, (lt' = lt → ∀ k, k < 4 → ¬ (regionByte (109 + k) 0 ≤ a ∧ a < regionByte (109 + k) 0 + 3072)) →
        memGet (t.tile lt').mem a = memGet (s.tile lt').mem a) := by
  have hexec := exec_tilePreSaved hlt hsaving hquiet hrun
  rw [if_neg (by simp [hkeep])] at hexec
  obtain ⟨hnot, hsaved⟩ := preSaved_bits s lt
  obtain ⟨hqueue, hempty, hdone⟩ := preSaved_queue s lt
  refine ⟨_, hexec, hnot, hsaved, hqueue, hempty, hdone, ?_, fun x a hout => ?_⟩
  · rw [regionBytes, preSaved_mem, ← regionBytes, regionBytes_imageStored hwf]
  · rw [preSaved_mem, memGet_imageStored_outside hwf hout]

theorem tilePreSaved_discards (hdiscard : (s.tile lt).discard = true) :
    ∃ t, exec (.tilePreSaved lt) s = .next t ∧ preBit t lt 0 = false ∧ preBit t lt 1 = false ∧ (t.tile lt).dmaSaved = [] ∧
      (t.tile lt).discard = false := by
  have hexec := exec_tilePreSaved hlt hsaving hquiet hrun
  rw [if_pos hdiscard] at hexec
  have hbit : ∀ i, preBit ((preSaved s lt).modTile lt discardTaken) lt i = preBit (preSaved s lt) lt i := fun i =>
    congrArg (bit · i) (State.treg_modTile (g := discardTaken) (by rw [discardTaken]) lt regTilePreStatus)
  obtain ⟨hnot, hsaved⟩ := preSaved_bits s lt
  obtain ⟨h0, h1, hdropped, htaken⟩ := preDiscard_drops (s := (preSaved s lt).modTile lt discardTaken) ((hbit 1).trans hsaved)
  refine ⟨_, hexec, h0.trans ((hbit 0).trans hnot), h1, hdropped, ?_⟩
  rw [htaken, State.tile_modTile_self, discardTaken]

end Saved

/-- Settles O45: what stops the units of a tile keeps what it holds of its pre-emption, and the save area is written part by part. -/
theorem tileSave : Obligations.TileSave := by
  unfold Obligations.TileSave
  refine ⟨fun s lt hlt => ?_, fun s lt hlt => ⟨?_, fun hsaving hsaved => ⟨tilePreSave_begins hsaving hsaved hlt,
      fun b => tilePreSave_refused hsaving hsaved hlt⟩⟩,
    ?_, fun s lt hlt hsaving hquiet hrun => ⟨tilePreSaved_saves hlt hsaving hquiet hrun, tilePreSaved_discards hlt hsaving hquiet hrun⟩⟩
  · have hexec : exec (.preemptRequest lt) s = .next (s.modTile lt (fun t => { t with preReq := true })) := by
      show execPreemptRequest lt s = _
      rw [execPreemptRequest, onTile_of_lt hlt]
    refine ⟨_, hexec, ?_, Kept.sameMemory (Kept.modTile (fun t => { t with preReq := true }) rfl), ?_⟩
    · simp [intPending]
    · rw [State.tile_modTile_self]
  · rw [exec_tilePreSave hlt (by decide), writeTilePre, if_neg (by decide)]
  · intro s lt lane hlt hstop hrun n l hparked
    have hexec := exec_laneStateSave hlt hstop hparked hrun
    exact ⟨fun hon hwf => ⟨_, hexec, saveLane_saves hon hwf⟩, fun hoff => ⟨_, hexec, saveLane_loses hoff⟩⟩

end Sys2Proof.Machine
end

section
/-!
O2, O3, O4: integer instructions, jumps and branches.
-/
namespace Sys2Proof.Machine

open Sys2Proof

/-! ### Immediates -/

/-- A sign-extended immediate scaled by a power of two. -/
theorem signExtend_shiftLeft {n : Nat} (imm : BitVec n) (k : Nat) :
    imm.signExtend 64 <<< k = BitVec.ofInt 64 (imm.toInt * 2 ^ k) := by
  rw [BitVec.ofInt_mul, BitVec.shiftLeft_eq_mul_twoPow]
  congr 1
  apply BitVec.eq_of_toInt_eq
  rw [BitVec.toInt_ofInt]
  simp [BitVec.toInt_eq_toNat_bmod, BitVec.toNat_twoPow, Int.bmod_def]

theorem wordOffset_eq {n : Nat} (imm : BitVec n) : wordOffset imm = BitVec.ofInt 64 (imm.toInt * 4) := signExtend_shiftLeft imm 2

theorem imm19Hi_eq (imm : BitVec 19) : imm19Hi imm = BitVec.ofInt 64 (imm.toInt * 2 ^ 13) := signExtend_shiftLeft imm 13

theorem setWidth_signExtend {n : Nat} (imm : BitVec n) : (imm.signExtend 64).setWidth 32 = imm.signExtend 32 := by
  ext i hi
  simp only [BitVec.getElem_setWidth, BitVec.getLsbD_signExtend, BitVec.getElem_signExtend]
  have h64 : i < 64 := by omega
  by_cases hin : i < n <;> simp [h64, hin, BitVec.getElem_eq_testBit_toNat, BitVec.getLsbD]

theorem setFld_low_two (a : DWord) : setFld a 1 0 0 = a &&& ~~~3#64 := by
  simp [setFld, mask]

/-! ### Operations as Table 4.5 states them -/

theorem aluSlt_eq {n : Nat} (a b : BitVec n) : aluSlt a b = if a.toInt < b.toInt then BitVec.ofNat n 1 else BitVec.ofNat n 0 := by
  simp only [aluSlt, BitVec.slt_iff_toInt_lt]
  rfl

theorem aluSltu_eq {n : Nat} (a b : BitVec n) : aluSltu a b = if a.toNat < b.toNat then BitVec.ofNat n 1 else BitVec.ofNat n 0 := by
  simp only [aluSltu, BitVec.ult_iff_toNat_lt]
  rfl

/-- Where two values that are compared are equal, either branch may be taken if they answer the same. -/
theorem ite_lt_eq_ite_le {α β : Type} [LinearOrder β] {p q : β} {x y : α} (h : p = q → x = y) :
    (if p < q then x else y) = if p ≤ q then x else y := by
  rcases lt_trichotomy p q with hlt | heq | hgt
  · rw [if_pos hlt, if_pos hlt.le]
  · rw [h heq, ite_self, ite_self]
  · rw [if_neg hgt.le.not_gt, if_neg hgt.not_ge]

theorem aluMin_eq {n : Nat} (a b : BitVec n) : aluMin a b = if a.toInt ≤ b.toInt then a else b := by
  simp only [aluMin, BitVec.slt_iff_toInt_lt]
  exact ite_lt_eq_ite_le BitVec.eq_of_toInt_eq

theorem aluMax_eq {n : Nat} (a b : BitVec n) : aluMax a b = if a.toInt ≤ b.toInt then b else a := by
  simp only [aluMax, BitVec.slt_iff_toInt_lt]
  exact ite_lt_eq_ite_le fun h => (BitVec.eq_of_toInt_eq h).symm

theorem aluMinu_eq {n : Nat} (a b : BitVec n) : aluMinu a b = if a.toNat ≤ b.toNat then a else b := by
  simp only [aluMinu, BitVec.ult_iff_toNat_lt]
  exact ite_lt_eq_ite_le BitVec.eq_of_toNat_eq

theorem aluMaxu_eq {n : Nat} (a b : BitVec n) : aluMaxu a b = if a.toNat ≤ b.toNat then b else a := by
  simp only [aluMaxu, BitVec.ult_iff_toNat_lt]
  exact ite_lt_eq_ite_le fun h => (BitVec.eq_of_toNat_eq h).symm

theorem aluMul_eq {n : Nat} (a b : BitVec n) : aluMul a b = BitVec.ofInt n (a.toInt * b.toInt) := by
  rw [BitVec.ofInt_mul, BitVec.ofInt_toInt, BitVec.ofInt_toInt, aluMul]

/-- The one word of a width that is read as -1. -/
theorem eq_neg_one_iff_toInt {n : Nat} (hn : 0 < n) (b : BitVec n) : b = -1 ↔ b.toInt = -1 := by
  have h : (-1 : BitVec n).toInt = -1 := by
    rw [show (-1 : BitVec n) = BitVec.allOnes n from BitVec.neg_one_eq_allOnes, BitVec.toInt_allOnes, if_pos hn]
  rw [← BitVec.toInt_inj, h]

theorem aluDiv_eq {n : Nat} (hn : 0 < n) (a b : BitVec n) :
    aluDiv a b = if b = 0 then (if a.toInt < 0 then BitVec.intMin n else BitVec.intMax n)
      else if a = BitVec.intMin n ∧ b.toInt = -1 then BitVec.intMax n else BitVec.ofInt n (a.toInt.tdiv b.toInt) := by
  simp only [aluDiv, eq_neg_one_iff_toInt hn, ← not_lt (b := (0 : Int)), ite_not]

theorem aluRem_eq {n : Nat} (hn : 0 < n) (a b : BitVec n) :
    aluRem a b = if b = 0 then a
      else if a = BitVec.intMin n ∧ b.toInt = -1 then 0 else BitVec.ofInt n (a.toInt.tmod b.toInt) := by
  simp only [aluRem, eq_neg_one_iff_toInt hn]

theorem aluDivu_eq {n : Nat} (a b : BitVec n) : aluDivu a b = if b = 0 then BitVec.allOnes n else BitVec.ofNat n (a.toNat / b.toNat) := by
  change (if b = 0 then _ else a / b) = _
  rw [BitVec.udiv_def]

theorem aluRemu_eq {n : Nat} (a b : BitVec n) : aluRemu a b = if b = 0 then a else BitVec.ofNat n (a.toNat % b.toNat) := by
  change (if b = 0 then _ else a % b) = _
  rw [BitVec.umod_def]

/-! ### Counts of bits -/

theorem leadingZeros_eq {n : Nat} (a : BitVec n) (k : Nat) :
    leadingZeros a k = ((List.range k).takeWhile (fun i => !(decide (i < k) && a.getLsbD (k - 1 - i)))).length := by
  induction k with
  | zero => rfl
  | succ k ih =>
    have hshift : ∀ i, k - 1 - i = k - (i + 1) := fun i => by omega
    rw [leadingZeros, List.range_succ_eq_map, List.takeWhile_cons]
    cases h : a.getLsbD k
    · simp [h, ih, hshift, List.takeWhile_map, Function.comp_def]
      omega
    · simp [h]

theorem trailingZeros_eq {n : Nat} (a : BitVec n) (i k : Nat) :
    trailingZeros a i k = ((List.range k).takeWhile (fun j => !a.getLsbD (i + j))).length := by
  induction k generalizing i with
  | zero => rfl
  | succ k ih =>
    rw [trailingZeros, List.range_succ_eq_map, List.takeWhile_cons]
    cases h : a.getLsbD i
    · simp [ih, List.takeWhile_map, Function.comp_def, Nat.add_comm 1, Nat.add_assoc]
    · simp

theorem popcount_eq (k x : Nat) : popcount k x = ((List.range k).filter (fun i => x.testBit i)).length := by
  induction k generalizing x with
  | zero => rfl
  | succ k ih =>
    rw [popcount, ih, List.range_succ_eq_map, List.filter_cons]
    by_cases h : x % 2 = 1
    · simp [h, b2n, List.filter_map, Function.comp_def, Nat.testBit_add_one, Nat.add_comm 1]
    · simp [h, b2n, List.filter_map, Function.comp_def, Nat.testBit_add_one]

/-- What the three counts of bits count. -/
theorem aluClz_eq {n : Nat} (a : BitVec n) :
    aluClz a = BitVec.ofNat n ((List.range n).takeWhile (fun i => !a.getMsbD i)).length := by
  rw [aluClz, leadingZeros_eq]
  rfl

theorem aluCtz_eq {n : Nat} (a : BitVec n) :
    aluCtz a = BitVec.ofNat n ((List.range n).takeWhile (fun i => !a.getLsbD i)).length := by
  simp only [aluCtz, trailingZeros_eq, Nat.zero_add]

theorem aluPopc_eq {n : Nat} (a : BitVec n) :
    aluPopc a = BitVec.ofNat n ((List.range n).filter (fun i => a.getLsbD i)).length := by
  rw [aluPopc, popcount_eq]
  rfl

/-! ### Forms -/

/-- An operation given at both widths of a form is the operation of Table 4.5 at the width of the form. -/
theorem atWidth2_eq_formValue {f : (n : Nat) → BitVec n → BitVec n → BitVec n} {f64 : DWord → DWord → DWord} {f32 : Word → Word → Word}
    (h64 : ∀ a b, f64 a b = f 64 a b) (h32 : ∀ a b, f32 a b = f 32 a b) (c : CoreId) (w : Bool) (a b : DWord) :
    atWidth2 c w f64 f32 a b = Obl.formValue c w f a b := by
  cases c <;> cases w <;> simp only [atWidth2, Obl.formValue, h64, h32, Bool.false_eq_true, if_false, if_true]

theorem atWidth_eq_formValue {f : (n : Nat) → BitVec n → BitVec n → BitVec n} {f64 : DWord → DWord} {f32 : Word → Word} {b : DWord}
    (h64 : ∀ a, f64 a = f 64 a b) (h32 : ∀ a, f32 a = f 32 a (b.setWidth 32)) (c : CoreId) (a : DWord) :
    atWidth c f64 f32 a = Obl.formValue c false f a b := by
  cases c <;> simp only [atWidth, Obl.formValue, h64, h32]

/-- A count below 2^32 is the same number at 32 bits, sign-extended or not, and at 64. -/
theorem signExtend_ofNat_of_le {k : Nat} (hk : k ≤ 32) : (BitVec.ofNat 32 k).signExtend 64 = BitVec.ofNat 64 k := by
  interval_cases k <;> rfl

theorem setWidth_ofNat_of_le {k : Nat} (hk : k ≤ 32) : (BitVec.ofNat 32 k).setWidth 64 = BitVec.ofNat 64 k := by
  interval_cases k <;> rfl

theorem atWidth2_count {f : (n : Nat) → BitVec n → Nat} {f64 : DWord → DWord} {f32 : Word → Word}
    (h64 : ∀ a, f64 a = BitVec.ofNat 64 (f 64 a)) (h32 : ∀ a, f32 a = BitVec.ofNat 32 (f 32 a)) (hle : ∀ a, f 32 a ≤ 32)
    (c : CoreId) (w : Bool) (a b : DWord) :
    atWidth2 c w (fun x _ => f64 x) (fun x _ => f32 x) a b =
      BitVec.ofNat 64 (if c = .tcc ∧ w = false then f 64 a else f 32 (a.setWidth 32)) := by
  cases c <;> cases w <;> simp [atWidth2, h64, h32, signExtend_ofNat_of_le, setWidth_ofNat_of_le, hle]

/-! ### The instructions as they issue -/

section Issues
variable {s : State} {lt : Nat} {c : CoreId} (rd rs1 rs2 : BitVec 5) (h : issues s lt c 4 anyCore = true)
include h

theorem aluR_of_issues (fn : Nat) (f64 : DWord → DWord → DWord) (f32 : Word → Word → Word) {w : Bool} (hw : w = true → c = .tcc) :
    aluR fn f64 f32 lt c rd rs1 rs2 w s = .next (retired lt c 4 (gWrite (fetched s lt c 4) lt c rd
      (atWidth2 c w f64 f32 (gRead (fetched s lt c 4) lt c rs1) (gRead (fetched s lt c 4) lt c rs2)))) := by
  have hform : (w && !isTcc c) = false := by
    cases w
    · rfl
    · rw [hw rfl]; rfl
  rw [aluR, insn_of_issues _ _ h, if_neg (by simp [hform])]
  rfl

/-- A form whose operation at both widths is that of Table 4.5. -/
theorem aluR_of_form {f : (n : Nat) → BitVec n → BitVec n → BitVec n} {f64 : DWord → DWord → DWord} {f32 : Word → Word → Word} {w : Bool}
    (fn : Nat) (hw : w = true → c = .tcc) (h64 : ∀ a b, f64 a b = f 64 a b) (h32 : ∀ a b, f32 a b = f 32 a b) :
    aluR fn f64 f32 lt c rd rs1 rs2 w s = .next (retired lt c 4 (gWrite (fetched s lt c 4) lt c rd
      (Obl.formValue c w f (gRead (fetched s lt c 4) lt c rs1) (gRead (fetched s lt c 4) lt c rs2)))) := by
  rw [aluR_of_issues rd rs1 rs2 h fn f64 f32 hw, atWidth2_eq_formValue h64 h32]

theorem aluR_of_count {f : (n : Nat) → BitVec n → Nat} {f64 : DWord → DWord} {f32 : Word → Word} {w : Bool}
    (fn : Nat) (hw : w = true → c = .tcc) (h64 : ∀ a, f64 a = BitVec.ofNat 64 (f 64 a)) (h32 : ∀ a, f32 a = BitVec.ofNat 32 (f 32 a))
    (hle : ∀ a, f 32 a ≤ 32) :
    aluR fn (fun a _ => f64 a) (fun a _ => f32 a) lt c rd rs1 rs2 w s =
      .next (retired lt c 4 (gWrite (fetched s lt c 4) lt c rd (BitVec.ofNat 64
        (if c = .tcc ∧ w = false then f 64 (gRead (fetched s lt c 4) lt c rs1)
         else f 32 ((gRead (fetched s lt c 4) lt c rs1).setWidth 32))))) := by
  rw [aluR_of_issues rd rs1 rs2 h fn _ _ hw, atWidth2_count h64 h32 hle]

theorem aluI_of_form {f : (n : Nat) → BitVec n → BitVec n → BitVec n} {f64 : DWord → DWord} {f32 : Word → Word} {imm : BitVec 14} (op : Nat)
    (h64 : ∀ a, f64 a = f 64 a (imm.signExtend 64)) (h32 : ∀ a, f32 a = f 32 a (imm.signExtend 32)) :
    aluI op f64 f32 lt c rd rs1 imm s = .next (retired lt c 4 (gWrite (fetched s lt c 4) lt c rd
      (Obl.formValue c false f (gRead (fetched s lt c 4) lt c rs1) (imm.signExtend 64)))) := by
  have h32' : ∀ a, f32 a = f 32 a ((imm.signExtend 64).setWidth 32) := by rwa [setWidth_signExtend]
  rw [← atWidth_eq_formValue h64 h32']
  exact insn_of_issues _ _ h

theorem aluShiftI_of_issues (sel : Nat) (f64 : DWord → Nat → DWord) (f32 : Word → Nat → Word) {amt : BitVec 6}
    (hamt : c = .tcc ∨ amt.toNat ≤ 31) :
    aluShiftI sel f64 f32 lt c rd rs1 amt s = .next (retired lt c 4 (gWrite (fetched s lt c 4) lt c rd
      (atWidth c (fun a => f64 a amt.toNat) (fun a => f32 a amt.toNat) (gRead (fetched s lt c 4) lt c rs1)))) := by
  have hform : (!isTcc c && decide (31 < amt.toNat)) = false := by
    rcases hamt with rfl | hle
    · rfl
    · simp only [Nat.not_lt.mpr hle, decide_false, Bool.and_false]
  rw [aluShiftI, insn_of_issues _ _ h, if_neg (by simp [hform])]
  rfl

/-- A lane core's words have no bit that an amount above 31 could name (R95). -/
theorem aluShiftI_refused (sel : Nat) (f64 : DWord → Nat → DWord) (f32 : Word → Nat → Word) {amt : BitVec 6} (hc : isTcc c = false)
    (hamt : 31 < amt.toNat) :
    ∃ word, aluShiftI sel f64 f32 lt c rd rs1 amt s = .next (coreTrap (fetched s lt c 4) lt c causeOperand stOk (some word) 0) := by
  rw [aluShiftI, insn_of_issues _ _ h, if_pos (by simp [hc, hamt])]
  exact ⟨_, rfl⟩

end Issues

/-! ### The rows of Table 4.5 -/

/-- The amount of a shift by a register: bits [5:0] at 64 bits, bits [4:0] of the low word at 32 (R95). -/
theorem mod_64_eq_fld (b : DWord) : b.toNat % 64 = fld b 5 0 := by
  simp [fld]

theorem setWidth_mod_32_eq_fld (b : DWord) : (b.setWidth 32).toNat % 32 = fld b 4 0 := by
  rw [BitVec.toNat_setWidth, Nat.mod_mod_of_dvd _ (by decide)]
  simp [fld]

theorem execDiv_of_issues {s : State} {lt : Nat} {c : CoreId} (h : issues s lt c 4 anyCore = true)
    {p : (Nat → CoreId → BitVec 5 → BitVec 5 → BitVec 5 → Bool → Instr) × ((n : Nat) → BitVec n → BitVec n → BitVec n)}
    (hp : p ∈ Obl.divRows) (rd rs1 rs2 : BitVec 5) {w : Bool} (hw : w = true → c = .tcc) :
    exec (p.1 lt c rd rs1 rs2 w) s = .next (retired lt c 4 (gWrite (fetched s lt c 4) lt c rd
      (Obl.formValue c w p.2 (gRead (fetched s lt c 4) lt c rs1) (gRead (fetched s lt c 4) lt c rs2)))) := by
  simp only [Obl.divRows, List.mem_cons, List.not_mem_nil, or_false] at hp
  rcases hp with rfl | rfl | rfl | rfl
  · exact aluR_of_form rd rs1 rs2 h 0x14 hw (aluDiv_eq (by decide)) (aluDiv_eq (by decide))
  · exact aluR_of_form rd rs1 rs2 h 0x15 hw aluDivu_eq aluDivu_eq
  · exact aluR_of_form rd rs1 rs2 h 0x16 hw (aluRem_eq (by decide)) (aluRem_eq (by decide))
  · exact aluR_of_form rd rs1 rs2 h 0x17 hw aluRemu_eq aluRemu_eq

theorem execAlu_of_issues {s : State} {lt : Nat} {c : CoreId} (h : issues s lt c 4 anyCore = true)
    {p : (Nat → CoreId → BitVec 5 → BitVec 5 → BitVec 5 → Bool → Instr) × ((n : Nat) → BitVec n → BitVec n → BitVec n)}
    (hp : p ∈ Obl.aluRows) (rd rs1 rs2 : BitVec 5) {w : Bool} (hw : w = true → c = .tcc) :
    exec (p.1 lt c rd rs1 rs2 w) s = .next (retired lt c 4 (gWrite (fetched s lt c 4) lt c rd
      (Obl.formValue c w p.2 (gRead (fetched s lt c 4) lt c rs1) (gRead (fetched s lt c 4) lt c rs2)))) := by
  simp only [Obl.aluRows, List.mem_cons, List.not_mem_nil, or_false] at hp
  rcases hp with rfl | rfl | rfl | rfl | rfl | rfl | rfl | rfl | rfl | rfl | rfl | rfl | rfl | rfl | rfl | rfl | rfl
  · exact aluR_of_form rd rs1 rs2 h 0x00 hw (fun _ _ => rfl) (fun _ _ => rfl)
  · exact aluR_of_form rd rs1 rs2 h 0x01 hw (fun _ _ => rfl) (fun _ _ => rfl)
  · exact aluR_of_form rd rs1 rs2 h 0x02 hw (fun _ _ => rfl) (fun _ _ => rfl)
  · exact aluR_of_form rd rs1 rs2 h 0x03 hw (fun _ _ => rfl) (fun _ _ => rfl)
  · exact aluR_of_form rd rs1 rs2 h 0x04 hw (fun _ _ => rfl) (fun _ _ => rfl)
  · exact aluR_of_form rd rs1 rs2 h 0x05 hw (fun _ _ => rfl) (fun _ _ => rfl)
  · exact aluR_of_form rd rs1 rs2 h 0x06 hw (fun _ _ => rfl) (fun _ _ => rfl)
  · exact aluR_of_form rd rs1 rs2 h 0x07 hw (fun _ _ => rfl) (fun _ _ => rfl)
  · exact aluR_of_form rd rs1 rs2 h 0x08 hw aluSlt_eq aluSlt_eq
  · exact aluR_of_form rd rs1 rs2 h 0x09 hw aluSltu_eq aluSltu_eq
  · exact aluR_of_form rd rs1 rs2 h 0x0A hw aluMin_eq aluMin_eq
  · exact aluR_of_form rd rs1 rs2 h 0x0B hw aluMax_eq aluMax_eq
  · exact aluR_of_form rd rs1 rs2 h 0x0C hw aluMinu_eq aluMinu_eq
  · exact aluR_of_form rd rs1 rs2 h 0x0D hw aluMaxu_eq aluMaxu_eq
  · exact aluR_of_form rd rs1 rs2 h 0x10 hw aluMul_eq aluMul_eq
  · exact aluR_of_form rd rs1 rs2 h 0x11 hw (fun _ _ => rfl) (fun _ _ => rfl)
  · exact aluR_of_form rd rs1 rs2 h 0x12 hw (fun _ _ => rfl) (fun _ _ => rfl)

theorem length_takeWhile_range_le (n : Nat) (p : Nat → Bool) : ((List.range n).takeWhile p).length ≤ n :=
  (List.takeWhile_prefix p).length_le.trans_eq List.length_range

theorem execCount_of_issues {s : State} {lt : Nat} {c : CoreId} (h : issues s lt c 4 anyCore = true)
    {p : (Nat → CoreId → BitVec 5 → BitVec 5 → BitVec 5 → Bool → Instr) × ((n : Nat) → BitVec n → Nat)}
    (hp : p ∈ Obl.countRows) (rd rs1 rs2 : BitVec 5) {w : Bool} (hw : w = true → c = .tcc) :
    exec (p.1 lt c rd rs1 rs2 w) s = .next (retired lt c 4 (gWrite (fetched s lt c 4) lt c rd (BitVec.ofNat 64
      (if c = .tcc ∧ w = false then p.2 64 (gRead (fetched s lt c 4) lt c rs1)
       else p.2 32 ((gRead (fetched s lt c 4) lt c rs1).setWidth 32))))) := by
  simp only [Obl.countRows, List.mem_cons, List.not_mem_nil, or_false] at hp
  rcases hp with rfl | rfl | rfl
  · exact aluR_of_count rd rs1 rs2 h 0x18 hw aluClz_eq aluClz_eq fun _ => length_takeWhile_range_le 32 _
  · exact aluR_of_count rd rs1 rs2 h 0x19 hw aluCtz_eq aluCtz_eq fun _ => length_takeWhile_range_le 32 _
  · exact aluR_of_count rd rs1 rs2 h 0x1A hw aluPopc_eq aluPopc_eq
      fun _ => (List.length_filter_le _ _).trans_eq List.length_range

/-! ### The statements -/

/-- Settles O3: each row is one of the forms of Table 4.4 with the operation of Table 4.5 at the width of the core. -/
theorem integerResult : Obligations.IntegerResult := by
  unfold Obligations.IntegerResult
  refine ⟨fun p hp s lt c rd rs1 rs2 w h hw => execAlu_of_issues h hp rd rs1 rs2 hw,
    fun p hp s lt c rd rs1 rs2 w h hw => execCount_of_issues h hp rd rs1 rs2 hw,
    fun p hp s lt c rd rs1 imm h => ?immediates, fun p hp s lt c rd rs1 amt h hamt => ?shifts, fun s lt c rd imm h => ⟨?ldhi, ?ldpc⟩⟩
  case immediates =>
    simp only [List.mem_cons, List.not_mem_nil, or_false] at hp
    rcases hp with rfl | rfl | rfl | rfl | rfl | rfl
    · exact aluI_of_form rd rs1 h 0x02 (fun _ => rfl) (fun _ => rfl)
    · exact aluI_of_form rd rs1 h 0x03 (fun _ => rfl) (fun _ => rfl)
    · exact aluI_of_form rd rs1 h 0x04 (fun _ => rfl) (fun _ => rfl)
    · exact aluI_of_form rd rs1 h 0x05 (fun _ => rfl) (fun _ => rfl)
    · exact aluI_of_form rd rs1 h 0x06 (fun a => aluSlt_eq a _) (fun a => aluSlt_eq a _)
    · exact aluI_of_form rd rs1 h 0x07 (fun a => aluSltu_eq a _) (fun a => aluSltu_eq a _)
  case shifts =>
    simp only [List.mem_cons, List.not_mem_nil, or_false] at hp
    rcases hp with rfl | rfl | rfl
    · rw [← atWidth_eq_formValue (fun _ => rfl) (fun _ => rfl)]
      exact aluShiftI_of_issues rd rs1 h 0 aluSll aluSll hamt
    · rw [← atWidth_eq_formValue (fun _ => rfl) (fun _ => rfl)]
      exact aluShiftI_of_issues rd rs1 h 1 aluSrl aluSrl hamt
    · rw [← atWidth_eq_formValue (fun _ => rfl) (fun _ => rfl)]
      exact aluShiftI_of_issues rd rs1 h 2 aluSra aluSra hamt
  case ldhi =>
    rw [← imm19Hi_eq]
    exact insn_of_issues _ _ h
  case ldpc =>
    rw [← imm19Hi_eq]
    exact insn_of_issues _ _ h

/-- A shift by a register in the three forms that Table 4.5 gives it. -/
theorem aluR_shift (g : (n : Nat) → BitVec n → Nat → BitVec n) (fn : Nat) (s : State) (lt : Nat) (rd rs1 rs2 : BitVec 5) :
    let shift := fun c w => aluR fn (fun a b => g 64 a (b.toNat % 64)) (fun a b => g 32 a (b.toNat % 32)) lt c rd rs1 rs2 w s
    (issues s lt .tcc 4 anyCore = true →
      shift .tcc false = .next (retired lt .tcc 4 (gWrite (fetched s lt .tcc 4) lt .tcc rd
        (g 64 (gRead (fetched s lt .tcc 4) lt .tcc rs1) (fld (gRead (fetched s lt .tcc 4) lt .tcc rs2) 5 0)))) ∧
      shift .tcc true = .next (retired lt .tcc 4 (gWrite (fetched s lt .tcc 4) lt .tcc rd
        ((g 32 ((gRead (fetched s lt .tcc 4) lt .tcc rs1).setWidth 32)
          (fld (gRead (fetched s lt .tcc 4) lt .tcc rs2) 4 0)).signExtend 64)))) ∧
    (∀ n, issues s lt (.lane n) 4 anyCore = true →
      shift (.lane n) false = .next (retired lt (.lane n) 4 (gWrite (fetched s lt (.lane n) 4) lt (.lane n) rd
        ((g 32 ((gRead (fetched s lt (.lane n) 4) lt (.lane n) rs1).setWidth 32)
          (fld (gRead (fetched s lt (.lane n) 4) lt (.lane n) rs2) 4 0)).setWidth 64)))) := by
  refine ⟨fun h => ⟨?_, ?_⟩, fun n h => ?_⟩
  · rw [← mod_64_eq_fld]
    exact aluR_of_issues rd rs1 rs2 h fn _ _ (fun _ => rfl)
  · rw [← setWidth_mod_32_eq_fld]
    exact aluR_of_issues rd rs1 rs2 h fn _ _ (fun _ => rfl)
  · rw [← setWidth_mod_32_eq_fld]
    exact aluR_of_issues rd rs1 rs2 h fn _ _ (fun hw => nomatch hw)

/-- Settles O2: the divisions are rows of Table 4.5, and the amount of a shift is its operand modulo the width. -/
theorem divisionAndShifts : Obligations.DivisionAndShifts := by
  unfold Obligations.DivisionAndShifts
  refine ⟨fun p hp s lt c rd rs1 rs2 w h hw => execDiv_of_issues h hp rd rs1 rs2 hw, fun p hp s lt rd rs1 rs2 => ?_,
    fun i hi s lt n rd rs1 amt h hamt => ?_⟩
  · simp only [List.mem_cons, List.not_mem_nil, or_false] at hp
    rcases hp with rfl | rfl | rfl
    · exact aluR_shift (fun _ a k => a <<< k) 0x05 s lt rd rs1 rs2
    · exact aluR_shift (fun _ a k => a >>> k) 0x06 s lt rd rs1 rs2
    · exact aluR_shift (fun _ a k => a.sshiftRight k) 0x07 s lt rd rs1 rs2
  · simp only [List.mem_cons, List.not_mem_nil, or_false] at hi
    rcases hi with rfl | rfl | rfl
    · exact aluShiftI_refused rd rs1 h 0 aluSll aluSll rfl hamt
    · exact aluShiftI_refused rd rs1 h 1 aluSrl aluSrl rfl hamt
    · exact aluShiftI_refused rd rs1 h 2 aluSra aluSra rfl hamt

/-- Whether a comparison holds of two operands at the width of the core (Table 4.4, OP 0x0D). -/
def condHolds (c : CoreId) (cmp : (n : Nat) → BitVec n → BitVec n → Bool) (a b : DWord) : Bool :=
  match c with
  | .tcc => cmp 64 a b
  | .lane _ => cmp 32 (a.setWidth 32) (b.setWidth 32)

/-- A branch whose comparison at both widths is the condition of Table 4.4. -/
theorem branch_of_form {s : State} {lt : Nat} {c : CoreId} (h : issues s lt c 4 anyCore = true) (rs1 rs2 : BitVec 5) (imm : BitVec 11)
    (cond : Nat) {cmp : (n : Nat) → BitVec n → BitVec n → Bool} {f64 : DWord → DWord → Bool} {f32 : Word → Word → Bool}
    (h64 : ∀ a b, f64 a b = cmp 64 a b) (h32 : ∀ a b, f32 a b = cmp 32 a b) :
    branch cond f64 f32 lt c rs1 rs2 imm s =
      if condHolds c cmp (gRead (fetched s lt c 4) lt c rs1) (gRead (fetched s lt c 4) lt c rs2) = true
      then .next (jumped lt c (pcOf (fetched s lt c 4) lt c + BitVec.ofInt 64 (imm.toInt * 4)) (fetched s lt c 4))
      else .next (retired lt c 4 (fetched s lt c 4)) := by
  obtain rfl : f64 = cmp 64 := funext fun a => funext (h64 a)
  obtain rfl : f32 = cmp 32 := funext fun a => funext (h32 a)
  rw [branch, insn_of_issues _ _ h, ← wordOffset_eq]
  cases c <;> exact (apply_ite (fun o => Host.Outcome.next (finish lt _ 4 o)) _ _ _)

theorem not_slt_eq {n : Nat} (a b : BitVec n) : (!a.slt b) = decide (b.toInt ≤ a.toInt) := by
  simp only [BitVec.slt_eq_decide, ← decide_not, not_lt]

theorem not_ult_eq {n : Nat} (a b : BitVec n) : (!a.ult b) = decide (b.toNat ≤ a.toNat) := by
  simp only [BitVec.ult_eq_decide, ← decide_not, not_lt]

theorem bne_eq_decide {n : Nat} (a b : BitVec n) : (a != b) = decide (a ≠ b) := by
  rw [bne, beq_eq_decide, ← decide_not]

/-- Settles O4: each jump and branch issues and goes on where its effect on the fetched state says. -/
theorem jumpsAndBranches : Obligations.JumpsAndBranches := by
  unfold Obligations.JumpsAndBranches
  refine ⟨fun s lt c rd imm h => ?_, fun s lt c rd rs1 imm h => ?_, fun p hp s lt c rs1 rs2 imm h => ?_⟩
  · rw [← wordOffset_eq]
    exact insn_of_issues _ _ h
  · rw [← wordOffset_eq, setFld_low_two]
    exact insn_of_issues _ _ h
  · simp only [List.mem_cons, List.not_mem_nil, or_false] at hp
    rcases hp with rfl | rfl | rfl | rfl | rfl | rfl
    · exact branch_of_form h rs1 rs2 imm 0 (fun _ _ => rfl) (fun _ _ => rfl)
    · exact branch_of_form h rs1 rs2 imm 1 bne_eq_decide bne_eq_decide
    · exact branch_of_form h rs1 rs2 imm 2 (fun _ _ => rfl) (fun _ _ => rfl)
    · exact branch_of_form h rs1 rs2 imm 3 (cmp := fun _ a b => decide (b.toInt ≤ a.toInt)) not_slt_eq not_slt_eq
    · exact branch_of_form h rs1 rs2 imm 4 (fun _ _ => rfl) (fun _ _ => rfl)
    · exact branch_of_form h rs1 rs2 imm 5 (cmp := fun _ a b => decide (b.toNat ≤ a.toNat)) not_ult_eq not_ult_eq

end Sys2Proof.Machine
end

section
/-!
SUPPORT. The registers of cores: what a change of lane cores, a register write, a retirement and a fetch do to each core, and what they leave.
-/
namespace Sys2Proof.Machine

open Sys2Proof

/-! ### Changes of several lane cores -/

/-- The lane cores of a tile with those in a list changed. -/
def lanesChanged (ns : List Nat) (f : Nat → LaneCore → LaneCore) (l : KV LaneCore) : KV LaneCore :=
  ns.foldl (fun l n => kvSet l n (f n (kvGet LaneCore.reset l n))) l

theorem modLanes_eq_modTile (s : State) (lt : Nat) (ns : List Nat) (f : Nat → LaneCore → LaneCore) (x : Nat) :
    (modLanes s lt ns f).tile x = if x = lt then { s.tile lt with lanes := lanesChanged ns f (s.tile lt).lanes } else s.tile x := by
  induction ns generalizing s with
  | nil =>
    split
    · next h => rw [h]; rfl
    · rfl
  | cons n r ih =>
    rw [show modLanes s lt (n :: r) f = modLanes (modLane s lt n (f n)) lt r f from rfl, ih]
    split
    · rw [tile_modLane, if_pos rfl]
      rfl
    · next h => rw [tile_modLane, if_neg h]

theorem kvGet_lanesChanged {ns : List Nat} (hns : ns.Nodup) (f : Nat → LaneCore → LaneCore) (l : KV LaneCore) (k : Nat) :
    kvGet LaneCore.reset (lanesChanged ns f l) k =
      if k ∈ ns then f k (kvGet LaneCore.reset l k) else kvGet LaneCore.reset l k := by
  induction ns generalizing l with
  | nil => rfl
  | cons n r ih =>
    obtain ⟨hn, hr⟩ := List.nodup_cons.mp hns
    rw [show lanesChanged (n :: r) f l = lanesChanged r f (kvSet l n (f n (kvGet LaneCore.reset l n))) from rfl, ih hr, kvGet_kvSet]
    by_cases hk : k = n
    · subst hk
      simp [hn]
    · simp [hk]

/-- An observation of a tile that does not see its lane cores. -/
theorem tile_modLanes_keeps {β : Type} (o : Tile → β) (ho : ∀ t l, o { t with lanes := l } = o t) (s : State) (lt : Nat) (ns : List Nat)
    (f : Nat → LaneCore → LaneCore) (x : Nat) : o ((modLanes s lt ns f).tile x) = o (s.tile x) := by
  rw [modLanes_eq_modTile]
  split
  · next h => rw [ho, h]
  · rfl

theorem lane_modLanes {ns : List Nat} (hns : ns.Nodup) (s : State) (lt : Nat) (f : Nat → LaneCore → LaneCore) (x k : Nat) :
    ((modLanes s lt ns f).tile x).lane k = if x = lt ∧ k ∈ ns then f k ((s.tile x).lane k) else (s.tile x).lane k := by
  rw [modLanes_eq_modTile]
  by_cases hx : x = lt
  · subst hx
    simp only [if_true, true_and]
    exact kvGet_lanesChanged hns f _ k
  · simp only [hx, if_false, false_and]

/-- An observation of lane cores that their changes do not touch. -/
theorem lane_modLanes_keeps {β : Type} (o : LaneCore → β) {f : Nat → LaneCore → LaneCore} (ho : ∀ k l, o (f k l) = o l) (s : State) (lt : Nat)
    (ns : List Nat) (x k : Nat) : o (((modLanes s lt ns f).tile x).lane k) = o ((s.tile x).lane k) := by
  induction ns generalizing s with
  | nil => rfl
  | cons n r ih =>
    rw [show modLanes s lt (n :: r) f = modLanes (modLane s lt n (f n)) lt r f from rfl, ih, tile_modLane]
    split
    · next h =>
      rw [h, show Tile.lane _ k = kvGet LaneCore.reset (kvSet (s.tile lt).lanes n (f n ((s.tile lt).lane n))) k from rfl, kvGet_kvSet]
      split
      · next hk => rw [ho, hk]
      · rfl
    · rfl

/-! ### The lane cores of an executing core -/

theorem nodup_coreLanes (t : Tile) (n : Nat) : (coreLanes t n).Nodup := by
  unfold coreLanes
  split
  · exact List.Nodup.map (fun a b h => by simpa using h) List.nodup_range
  · exact List.nodup_singleton n

theorem mem_coreLanes (t : Tile) (n k : Nat) : k ∈ coreLanes t n ↔ if t.cluster then k / 16 = n / 16 else k = n := by
  unfold coreLanes
  split
  · simp only [List.mem_map, List.mem_range]
    constructor
    · rintro ⟨j, hj, rfl⟩
      omega
    · intro h
      exact ⟨k % 16, by omega, by omega⟩
  · exact List.mem_singleton

theorem leadLane_mem_coreLanes (t : Tile) (n : Nat) : leadLane t n ∈ coreLanes t n := by
  rw [mem_coreLanes, leadLane]
  split
  · omega
  · rfl

/-- The lead lane of a core lies among the lane cores of another only where both are one core. -/
theorem leadLane_mem_coreLanes_iff (t : Tile) (n k : Nat) : leadLane t k ∈ coreLanes t n ↔ leadLane t k = leadLane t n := by
  rw [mem_coreLanes, leadLane, leadLane]
  split
  · omega
  · rfl

/-! ### Writes of a register -/

/-- An observation of a tile that sees no general register. -/
theorem tile_gWrite_keeps {β : Type} (o : Tile → β) (htcc : ∀ t g, o { t with tcc := { t.tcc with g := g } } = o t)
    (hlanes : ∀ t l, o { t with lanes := l } = o t) (s : State) (lt : Nat) (c : CoreId) (r : BitVec 5) (v : DWord) (x : Nat) :
    o ((gWrite s lt c r v).tile x) = o (s.tile x) := by
  unfold gWrite
  split
  · rfl
  · cases c with
    | tcc => exact State.tile_modTile_keeps o (htcc _ _) x
    | lane n => exact tile_modLanes_keeps o hlanes s lt _ _ x

@[simp] theorem gWrite_zero (s : State) (lt : Nat) (c : CoreId) (v : DWord) : gWrite s lt c 0 v = s := rfl

@[simp] theorem gRead_zero (s : State) (lt : Nat) (c : CoreId) : gRead s lt c 0 = 0 := rfl

@[simp] theorem mem_gWrite (s : State) (lt : Nat) (c : CoreId) (r : BitVec 5) (v : DWord) (x : Nat) :
    ((gWrite s lt c r v).tile x).mem = (s.tile x).mem := tile_gWrite_keeps Tile.mem (fun _ _ => rfl) (fun _ _ => rfl) s lt c r v x

@[simp] theorem regs_gWrite (s : State) (lt : Nat) (c : CoreId) (r : BitVec 5) (v : DWord) (x : Nat) :
    ((gWrite s lt c r v).tile x).regs = (s.tile x).regs := tile_gWrite_keeps Tile.regs (fun _ _ => rfl) (fun _ _ => rfl) s lt c r v x

@[simp] theorem treg_gWrite (s : State) (lt : Nat) (c : CoreId) (r : BitVec 5) (v : DWord) (x off : Nat) :
    (gWrite s lt c r v).treg x off = s.treg x off := State.treg_of_regs (regs_gWrite s lt c r v x) off

theorem sameMemory_gWrite (s : State) (lt : Nat) (c : CoreId) (r : BitVec 5) (v : DWord) : sameMemory s (gWrite s lt c r v) :=
  fun x a => by rw [mem_gWrite]

theorem cluster_of_regs {t u : Tile} (h : u.regs = t.regs) : u.cluster = t.cluster := by
  rw [Tile.cluster, Tile.cluster, h]

theorem leadLane_of_cluster {t u : Tile} (h : u.cluster = t.cluster) (n : Nat) : leadLane u n = leadLane t n := by
  rw [leadLane, leadLane, h]

theorem coreLanes_of_cluster {t u : Tile} (h : u.cluster = t.cluster) (n : Nat) : coreLanes u n = coreLanes t n := by
  rw [coreLanes, coreLanes, h]

@[simp] theorem leadLane_gWrite (s : State) (lt : Nat) (c : CoreId) (r : BitVec 5) (v : DWord) (x n : Nat) :
    leadLane ((gWrite s lt c r v).tile x) n = leadLane (s.tile x) n := leadLane_of_cluster (cluster_of_regs (regs_gWrite s lt c r v x)) n

/-- The TCC but for its registers. -/
theorem tcc_gWrite_keeps {β : Type} (o : Tcc → β) (ho : ∀ t g, o { t with g := g } = o t) (s : State) (lt : Nat) (c : CoreId)
    (r : BitVec 5) (v : DWord) (x : Nat) : o ((gWrite s lt c r v).tile x).tcc = o (s.tile x).tcc :=
  tile_gWrite_keeps (fun t => o t.tcc) (fun _ _ => ho _ _) (fun _ _ => rfl) s lt c r v x

/-- A lane core but for its registers. -/
theorem lane_gWrite_keeps {β : Type} (o : LaneCore → β) (ho : ∀ l g, o { l with g := g } = o l) (s : State) (lt : Nat) (c : CoreId)
    (r : BitVec 5) (v : DWord) (x k : Nat) : o (((gWrite s lt c r v).tile x).lane k) = o ((s.tile x).lane k) := by
  unfold gWrite
  split
  · rfl
  · cases c with
    | tcc => exact State.tile_modTile_keeps (fun t => o (t.lane k)) rfl x
    | lane n => exact lane_modLanes_keeps o (fun _ _ => ho _ _) s lt _ x k

@[simp] theorem pcOf_gWrite (s : State) (lt : Nat) (c : CoreId) (r : BitVec 5) (v : DWord) (x : Nat) (c' : CoreId) :
    pcOf (gWrite s lt c r v) x c' = pcOf s x c' := by
  cases c' with
  | tcc => exact tcc_gWrite_keeps Tcc.pc (fun _ _ => rfl) s lt c r v x
  | lane n => rw [pcOf, pcOf, leadLane_gWrite, lane_gWrite_keeps LaneCore.pc (fun _ _ => rfl)]

@[simp] theorem waitOf_gWrite (s : State) (lt : Nat) (c : CoreId) (r : BitVec 5) (v : DWord) (x : Nat) (c' : CoreId) :
    waitOf (gWrite s lt c r v) x c' = waitOf s x c' := by
  cases c' with
  | tcc => exact tcc_gWrite_keeps Tcc.wait (fun _ _ => rfl) s lt c r v x
  | lane n => exact lane_gWrite_keeps LaneCore.wait (fun _ _ => rfl) s lt c r v x n

@[simp] theorem levelAt_gWrite (s : State) (lt : Nat) (c : CoreId) (r : BitVec 5) (v : DWord) (x : Nat) (c' : CoreId) :
    levelAt (gWrite s lt c r v) x c' = levelAt s x c' := by
  cases c' with
  | tcc => exact tcc_gWrite_keeps Tcc.prv (fun _ _ => rfl) s lt c r v x
  | lane n => rfl

/-- The vector registers. -/
@[simp] theorem vGet_gWrite (s : State) (lt : Nat) (c : CoreId) (r : BitVec 5) (v : DWord) (x k : Nat) (vr : BitVec 5) :
    vGet (gWrite s lt c r v) x k vr = vGet s x k vr :=
  lane_gWrite_keeps (fun l => l.v[vr.toNat]'vr.isLt) (fun _ _ => rfl) s lt c r v x k

/-! ### Reads of a register -/

/-- A register of the TCC depends on its register file alone. -/
theorem gRead_tcc_congr {s t : State} {x y : Nat} (h : (t.tile x).tcc.g = (s.tile y).tcc.g) (r : BitVec 5) :
    gRead t x .tcc r = gRead s y .tcc r := by
  simp only [gRead, h]

/-- A register of a lane core depends on the register file of its lead lane alone. -/
theorem gRead_lane_congr {s t : State} {x n : Nat} (hmode : (t.tile x).cluster = (s.tile x).cluster)
    (h : ∀ k, ((t.tile x).lane k).g = ((s.tile x).lane k).g) (r : BitVec 5) : gRead t x (.lane n) r = gRead s x (.lane n) r := by
  simp only [gRead, leadLane_of_cluster hmode, h]

theorem gRead_congr {s t : State} {x : Nat} (htcc : (t.tile x).tcc.g = (s.tile x).tcc.g) (hmode : (t.tile x).cluster = (s.tile x).cluster)
    (h : ∀ k, ((t.tile x).lane k).g = ((s.tile x).lane k).g) (c : CoreId) (r : BitVec 5) : gRead t x c r = gRead s x c r := by
  cases c with
  | tcc => exact gRead_tcc_congr htcc r
  | lane n => exact gRead_lane_congr hmode h r

theorem gWrite_tcc_g (s : State) (lt : Nat) {r : BitVec 5} (hr : r ≠ 0) (v : DWord) (x : Nat) :
    ((gWrite s lt .tcc r v).tile x).tcc.g = if x = lt then (s.tile lt).tcc.g.set r.toNat v r.isLt else (s.tile x).tcc.g := by
  rw [gWrite, if_neg hr, State.tile_modTile]
  split <;> rfl

theorem gWrite_tcc_lanes (s : State) (lt : Nat) (r : BitVec 5) (v : DWord) (x : Nat) :
    ((gWrite s lt .tcc r v).tile x).lanes = (s.tile x).lanes := by
  rw [gWrite]
  split
  · rfl
  · exact State.tile_modTile_keeps Tile.lanes rfl x

theorem gWrite_lane_tcc (s : State) (lt n : Nat) (r : BitVec 5) (v : DWord) (x : Nat) :
    ((gWrite s lt (.lane n) r v).tile x).tcc = (s.tile x).tcc := by
  rw [gWrite]
  split
  · rfl
  · exact tile_modLanes_keeps Tile.tcc (fun _ _ => rfl) s lt _ _ x

theorem gWrite_lane_g (s : State) (lt n : Nat) {r : BitVec 5} (hr : r ≠ 0) (v : DWord) (x k : Nat) :
    (((gWrite s lt (.lane n) r v).tile x).lane k).g =
      if x = lt ∧ k ∈ coreLanes (s.tile lt) n then ((s.tile x).lane k).g.set r.toNat (v.setWidth 32) r.isLt
      else ((s.tile x).lane k).g := by
  rw [gWrite, if_neg hr, lane_modLanes (nodup_coreLanes _ _)]
  split <;> rfl

/-- A register that has been written reads as its value at the width of the core (R86 to R88). -/
theorem gRead_gWrite_same (s : State) (lt : Nat) (c : CoreId) {r : BitVec 5} (hr : r ≠ 0) (v : DWord) :
    gRead (gWrite s lt c r v) lt c r = (match c with | .tcc => v | .lane _ => (v.setWidth 32).setWidth 64) := by
  cases c with
  | tcc => simp only [gRead, if_neg hr, gWrite_tcc_g s lt hr, if_true, Vector.getElem_set_self]
  | lane n =>
    simp only [gRead, if_neg hr, leadLane_gWrite, gWrite_lane_g s lt n hr, leadLane_mem_coreLanes, and_self, if_true,
      Vector.getElem_set_self]

/-- Another register of any core (R88). -/
theorem gRead_gWrite_ne {s : State} {lt lt' : Nat} {c c' : CoreId} {r r' : BitVec 5} (v : DWord)
    (h : (lt', coreKey s lt' c', r') ≠ (lt, coreKey s lt c, r)) : gRead (gWrite s lt c r v) lt' c' r' = gRead s lt' c' r' := by
  by_cases hr : r = 0
  · rw [hr, gWrite_zero]
  have hset : ∀ {α : Type} (g : Vector α 32) (y : α), r ≠ r' → (g.set r.toNat y r.isLt)[r'.toNat]'r'.isLt = g[r'.toNat]'r'.isLt :=
    fun g y hne => Vector.getElem_set_ne _ _ fun e => hne (BitVec.eq_of_toNat_eq e)
  cases c with
  | tcc =>
    cases c' with
    | tcc =>
      simp only [gRead, gWrite_tcc_g s lt hr]
      by_cases hlt : lt' = lt
      · subst hlt
        have hne : r ≠ r' := by
          rintro rfl
          exact h rfl
        simp only [if_true, hset _ _ hne]
      · simp only [if_neg hlt]
    | lane n =>
      exact gRead_lane_congr (cluster_of_regs (regs_gWrite s lt .tcc r v lt')) (fun k => by rw [Tile.lane, gWrite_tcc_lanes]; rfl) r'
  | lane n =>
    cases c' with
    | tcc => exact gRead_tcc_congr (by rw [gWrite_lane_tcc]) r'
    | lane n' =>
      simp only [gRead, leadLane_gWrite, gWrite_lane_g s lt n hr]
      by_cases hmem : lt' = lt ∧ leadLane (s.tile lt') n' ∈ coreLanes (s.tile lt) n
      · obtain ⟨rfl, hlead⟩ := hmem
        have hne : r ≠ r' := by
          rintro rfl
          exact h (by simp only [coreKey, (leadLane_mem_coreLanes_iff _ _ _).mp hlead])
        simp only [hlead, and_self, if_true, hset _ _ hne]
      · simp only [if_neg hmem]

/-! ### Frames -/

section Frames
variable {β : Type} {o : Tile → β} (s : State) (lt : Nat)

theorem Kept.modLane {n : Nat} {f : LaneCore → LaneCore} (h : ∀ t, o { t with lanes := kvSet t.lanes n (f (t.lane n)) } = o t) :
    Kept o s (modLane s lt n f) := Kept.modTile _ (h _)

theorem Kept.modLanes {ns : List Nat} {f : Nat → LaneCore → LaneCore}
    (h : ∀ t n, o { t with lanes := kvSet t.lanes n (f n (t.lane n)) } = o t) : Kept o s (modLanes s lt ns f) :=
  Kept.foldl (fun s n => Kept.modLane s lt (h · n)) ns s

theorem Kept.gWrite (htcc : ∀ t g, o { t with tcc := { t.tcc with g := g } } = o t)
    (hlane : ∀ t n g, o { t with lanes := kvSet t.lanes n { t.lane n with g := g } } = o t) (c : CoreId) (r : BitVec 5) (v : DWord) :
    Kept o s (gWrite s lt c r v) := by
  unfold Machine.gWrite
  split
  · exact Kept.refl o s
  · cases c with
    | tcc =>
      refine Kept.modTile _ ?_
      exact htcc _ _
    | lane n => exact Kept.modLanes s lt fun t n => hlane t n _

theorem Kept.setWait (htcc : ∀ t w, o { t with tcc := { t.tcc with wait := w } } = o t)
    (hlane : ∀ t n w, o { t with lanes := kvSet t.lanes n { t.lane n with wait := w } } = o t) (c : CoreId) (w : Option Wait) :
    Kept o s (setWait s lt c w) := by
  unfold Machine.setWait
  cases c with
  | tcc =>
    refine Kept.modTile _ ?_
    exact htcc _ _
  | lane n => exact Kept.modLanes s lt fun t n => hlane t n _

theorem Kept.endWait (hstall : ∀ t l, o { t with stallsTold := l } = o t) (c : CoreId) : Kept o s (endWait s lt c) := by
  refine Kept.modTile _ ?_
  exact hstall _ _

theorem Kept.setPc (htcc : ∀ t p, o { t with tcc := { t.tcc with pc := p } } = o t)
    (hlane : ∀ t n p, o { t with lanes := kvSet t.lanes n { t.lane n with pc := p } } = o t) (c : CoreId) (pc : DWord) :
    Kept o s (setPc s lt c pc) := by
  unfold Machine.setPc
  cases c with
  | tcc =>
    refine Kept.modTile _ ?_
    exact htcc _ _
  | lane n => exact Kept.modLanes s lt fun t n => hlane t n _

theorem Kept.countRetired (hcnt : ∀ t c, o { t with counters := c } = o t)
    (htcc : ∀ t r, o { t with tcc := { t.tcc with retired := r } } = o t)
    (hlane : ∀ t n r, o { t with lanes := kvSet t.lanes n { t.lane n with retired := r } } = o t) (c : CoreId) :
    Kept o s (countRetired s lt c) := by
  have hbump : ∀ u k, Kept o u (bumpCnt u lt 13 k) := fun u k => by
    refine Kept.modTile _ ?_
    exact hcnt _ _
  unfold Machine.countRetired
  cases c with
  | tcc =>
    refine (Kept.modTile _ ?_).trans (hbump _ _)
    exact htcc _ _
  | lane n => exact (Kept.modLanes s lt fun t n => hlane t n _).trans (hbump _ _)

/-- An observation that sees no program counter, no count of instructions and no report of a stall. -/
theorem Kept.jumped (hstall : ∀ t l, o { t with stallsTold := l } = o t) (hcnt : ∀ t c, o { t with counters := c } = o t)
    (htcc : ∀ t p r, o { t with tcc := { t.tcc with pc := p, retired := r } } = o t)
    (hlane : ∀ t n p r, o { t with lanes := kvSet t.lanes n { t.lane n with pc := p, retired := r } } = o t) (c : CoreId) (pc : DWord) :
    Kept o s (jumped lt c pc s) :=
  ((Kept.endWait s lt hstall c).trans (Kept.setPc _ lt (fun t p => htcc t p _) (fun t n p => hlane t n p _) c pc)).trans
    (Kept.countRetired _ lt hcnt (fun t r => htcc t _ r) (fun t n r => hlane t n _ r) c)

end Frames

/-- An observation of every lane core of a tile. -/
def eachLane {β : Type} (o : LaneCore → β) (t : Tile) (k : Nat) : β := o (t.lane k)

/-- A lane core replaced by one that looks the same. -/
theorem eachLane_kvSet {β : Type} {o : LaneCore → β} {t : Tile} {n : Nat} {l : LaneCore} (h : o l = o (t.lane n)) :
    eachLane o { t with lanes := kvSet t.lanes n l } = eachLane o t := by
  funext k
  show o (kvGet LaneCore.reset (kvSet t.lanes n l) k) = o (t.lane k)
  rw [kvGet_kvSet]
  split
  · next hk => rw [h, hk]
  · rfl

/-- What the general registers of a tile's cores are read from. -/
def generalRegs (t : Tile) : Vector DWord 32 × Bool × (Nat → Vector Word 32) := (t.tcc.g, t.cluster, eachLane LaneCore.g t)

/-- What the program counters of a tile's cores are read from. -/
def programCounters (t : Tile) : DWord × Bool × (Nat → Word) := (t.tcc.pc, t.cluster, eachLane LaneCore.pc t)

theorem gRead_of_kept {s t : State} (h : Kept generalRegs s t) (x : Nat) (c : CoreId) (r : BitVec 5) : gRead t x c r = gRead s x c r := by
  obtain ⟨hg, hmode, hlanes⟩ := Prod.ext_iff.mp (h.tile x) |>.imp id Prod.ext_iff.mp
  exact gRead_congr hg hmode (fun k => congrFun hlanes k) c r

theorem pcOf_of_kept {s t : State} (h : Kept programCounters s t) (x : Nat) (c : CoreId) : pcOf t x c = pcOf s x c := by
  obtain ⟨hpc, hmode, hlanes⟩ := Prod.ext_iff.mp (h.tile x) |>.imp id Prod.ext_iff.mp
  cases c with
  | tcc => exact hpc
  | lane n =>
    rw [pcOf, pcOf, leadLane_of_cluster hmode]
    exact congrArg (BitVec.setWidth 64) (congrFun hlanes _)

/-! ### The fetch -/

section Fetch
variable {β : Type} {o : Tile → β} (ho : AccessBlind o) (htlb : ∀ t l, o { t with tlb := l } = o t)
  (hibuf : ∀ t n b, o { t with lanes := kvSet t.lanes n { t.lane n with ibuf := b } } = o t) (s : State) (lt : Nat)

include hibuf in
theorem kept_fillLine (n line : Nat) : Kept o s (fillLine s lt n line) := by
  unfold fillLine
  extract_lets k
  split
  · exact Kept.modLane s lt fun t => hibuf t n _
  · exact (kept_drawn s).trans (Kept.modLane s.drawn lt fun t => hibuf t n _)

include ho htlb hibuf

omit htlb in
theorem AccessBlind.lineFetch (n pc : Nat) : Kept o s (lineFetch s lt n pc).1 := by
  have hread : Kept o s (memRead s lt (pc / 64 * 64) 64).1 := ho.memReadBy s lt false _ _
  unfold Machine.lineFetch
  extract_lets lead
  split
  · exact Kept.refl o s
  · split
    · exact Kept.refl o s
    · split
      · next s1 e h => rw [h] at hread; exact hread
      · next s1 bs h => rw [h] at hread; exact hread.trans (kept_fillLine hibuf s1 lt _ _)

theorem AccessBlind.fetchWord (c : CoreId) (pc : Nat) : Kept o s (fetchWord s lt c pc).1 := by
  unfold Machine.fetchWord
  cases c with
  | tcc =>
    dsimp only
    split
    · exact Kept.refl o s
    · have haddr := ho.localAddr htlb s lt pc .fetch (s.tile lt).tcc.prv ((s.tile lt).tcc.xlat && !inHandler s lt)
      split
      · next s1 f h => rw [h] at haddr; exact haddr
      · next s1 off h =>
        rw [h] at haddr
        have hread : Kept o s1 (memRead s1 lt off 4).1 := ho.memReadBy s1 lt false off 4
        split
        · split
          · next s2 e h2 => rw [h2] at hread; exact haddr.trans hread
          · next s2 bs h2 => rw [h2] at hread; exact haddr.trans hread
        · exact haddr
  | lane n =>
    dsimp only
    split
    · split
      · exact Kept.refl o s
      · exact Kept.refl o s
    · exact ho.lineFetch hibuf s lt n pc

theorem AccessBlind.fetchInsn (c : CoreId) (len : Nat) : Kept o s (fetchInsn s lt c len).1 := by
  unfold Machine.fetchInsn
  extract_lets pc
  have hfirst := ho.fetchWord htlb hibuf s lt c pc
  split
  · exact Kept.refl o s
  · split
    · next s1 st h => rw [h] at hfirst; exact hfirst
    · next s1 h =>
      rw [h] at hfirst
      split
      · exact hfirst.trans (ho.fetchWord htlb hibuf s1 lt c _)
      · exact hfirst

/-- What the fetch of an instruction keeps: whatever sees neither an access to memory, nor the TLB, an instruction buffer, or a core's wait. -/
theorem AccessBlind.fetched (htcc : ∀ t w, o { t with tcc := { t.tcc with wait := w } } = o t)
    (hlane : ∀ t n w, o { t with lanes := kvSet t.lanes n { t.lane n with wait := w } } = o t) (c : CoreId) (len : Nat) :
    Kept o s (fetched s lt c len) :=
  (Kept.setWait s lt htcc hlane c none).trans (ho.fetchInsn htlb hibuf _ lt c _)

end Fetch

theorem cluster_kvSet (t : Tile) {off : Nat} (v : Word) (h : off ≠ regLcCfg) : Tile.cluster { t with regs := kvSet t.regs off v } = t.cluster := by
  rw [Tile.cluster, Tile.cluster, RegFile.get_kvSet, if_neg h.symm]

theorem accessBlind_generalRegs : AccessBlind generalRegs where
  recorder _ _ := rfl
  isolated _ _ := rfl
  isoBanks _ _ := rfl
  regs t off v h := by
    rw [generalRegs, cluster_kvSet t v (by rintro rfl; revert h; decide)]
    rfl
  errs _ _ := rfl
  counters _ _ := rfl
  eccRegs t off v h := by
    rw [generalRegs, cluster_kvSet t v (by rintro rfl; revert h; decide)]
    rfl

theorem accessBlind_programCounters : AccessBlind programCounters where
  recorder _ _ := rfl
  isolated _ _ := rfl
  isoBanks _ _ := rfl
  regs t off v h := by
    rw [programCounters, cluster_kvSet t v (by rintro rfl; revert h; decide)]
    rfl
  errs _ _ := rfl
  counters _ _ := rfl
  eccRegs t off v h := by
    rw [programCounters, cluster_kvSet t v (by rintro rfl; revert h; decide)]
    rfl

theorem generalRegs_lanes (t : Tile) {n : Nat} {l : LaneCore} (h : l.g = (t.lane n).g) :
    generalRegs { t with lanes := kvSet t.lanes n l } = generalRegs t := by
  simp only [generalRegs, eachLane_kvSet (o := LaneCore.g) h]
  rfl

theorem programCounters_lanes (t : Tile) {n : Nat} {l : LaneCore} (h : l.pc = (t.lane n).pc) :
    programCounters { t with lanes := kvSet t.lanes n l } = programCounters t := by
  simp only [programCounters, eachLane_kvSet (o := LaneCore.pc) h]
  rfl

theorem kept_mem_fetched (s : State) (lt : Nat) (c : CoreId) (len : Nat) : Kept Tile.mem s (fetched s lt c len) :=
  accessBlind_mem.fetched (fun _ _ => rfl) (fun _ _ _ => rfl) s lt (fun _ _ => rfl) (fun _ _ _ => rfl) c len

theorem sameMemory_fetched (s : State) (lt : Nat) (c : CoreId) (len : Nat) : sameMemory s (fetched s lt c len) :=
  (kept_mem_fetched s lt c len).sameMemory

theorem gRead_fetched (s : State) (lt : Nat) (c : CoreId) (len x : Nat) (c' : CoreId) (r : BitVec 5) :
    gRead (fetched s lt c len) x c' r = gRead s x c' r :=
  gRead_of_kept (accessBlind_generalRegs.fetched (fun _ _ => rfl) (fun t _ _ => generalRegs_lanes t rfl) s lt (fun _ _ => rfl)
    (fun t _ _ => generalRegs_lanes t rfl) c len) x c' r

theorem pcOf_fetched (s : State) (lt : Nat) (c : CoreId) (len x : Nat) (c' : CoreId) : pcOf (fetched s lt c len) x c' = pcOf s x c' :=
  pcOf_of_kept (accessBlind_programCounters.fetched (fun _ _ => rfl) (fun t _ _ => programCounters_lanes t rfl) s lt (fun _ _ => rfl)
    (fun t _ _ => programCounters_lanes t rfl) c len) x c'

/-! ### Retirement -/

theorem sameMemory_jumped (s : State) (lt : Nat) (c : CoreId) (pc : DWord) : sameMemory s (jumped lt c pc s) :=
  (Kept.jumped s lt (o := Tile.mem) (fun _ _ => rfl) (fun _ _ => rfl) (fun _ _ _ => rfl) (fun _ _ _ _ => rfl) c pc).sameMemory

@[simp] theorem gRead_jumped (s : State) (lt : Nat) (c : CoreId) (pc : DWord) (x : Nat) (c' : CoreId) (r : BitVec 5) :
    gRead (jumped lt c pc s) x c' r = gRead s x c' r :=
  gRead_of_kept (Kept.jumped s lt (fun _ _ => rfl) (fun _ _ => rfl) (fun _ _ _ => rfl) (fun t _ _ _ => generalRegs_lanes t rfl) c pc) x c' r

/-- A retirement is a jump to the next instruction. -/
theorem retired_eq_jumped (s : State) (lt : Nat) (c : CoreId) (len : Nat) :
    retired lt c len s = jumped lt c (pcOf s lt c + BitVec.ofNat 64 len) s := rfl

theorem pcOf_endWait (s : State) (lt : Nat) (c : CoreId) (x : Nat) (c' : CoreId) : pcOf (endWait s lt c) x c' = pcOf s x c' :=
  pcOf_of_kept (Kept.modTile _ rfl) x c'

theorem pcOf_countRetired (s : State) (lt : Nat) (c : CoreId) (x : Nat) (c' : CoreId) : pcOf (countRetired s lt c) x c' = pcOf s x c' :=
  pcOf_of_kept (Kept.countRetired s lt (fun _ _ => rfl) (fun _ _ => rfl) (fun t _ _ => programCounters_lanes t rfl) c) x c'

/-- A program counter after one has been set. -/
theorem pcOf_setPc_same (s : State) (lt : Nat) (c : CoreId) (pc : DWord) :
    pcOf (setPc s lt c pc) lt c = (match c with | .tcc => pc | .lane _ => (pc.setWidth 32).setWidth 64) := by
  cases c with
  | tcc => simp only [pcOf, setPc, State.tile_modTile_self]
  | lane n =>
    have hlead : leadLane ((setPc s lt (.lane n) pc).tile lt) n = leadLane (s.tile lt) n :=
      leadLane_of_cluster (tile_modLanes_keeps Tile.cluster (fun _ _ => rfl) s lt _ _ lt) n
    rw [pcOf, hlead]
    simp only [setPc, lane_modLanes (nodup_coreLanes _ _), leadLane_mem_coreLanes, and_self, if_true]

theorem pcOf_setPc_ne {s : State} {lt x : Nat} {c c' : CoreId} (pc : DWord) (h : (x, coreKey s x c') ≠ (lt, coreKey s lt c)) :
    pcOf (setPc s lt c pc) x c' = pcOf s x c' := by
  cases c with
  | tcc =>
    cases c' with
    | tcc =>
      have hx : x ≠ lt := by
        rintro rfl
        exact h rfl
      simp only [pcOf, setPc, State.tile_modTile_ne _ _ hx]
    | lane n =>
      have hregs : ((setPc s lt .tcc pc).tile x).regs = (s.tile x).regs := State.tile_modTile_keeps Tile.regs rfl x
      have hlanes : ((setPc s lt .tcc pc).tile x).lanes = (s.tile x).lanes := State.tile_modTile_keeps Tile.lanes rfl x
      rw [pcOf, pcOf, leadLane_of_cluster (cluster_of_regs hregs), Tile.lane, hlanes, Tile.lane]
  | lane n =>
    cases c' with
    | tcc => exact tile_modLanes_keeps (fun t => t.tcc.pc) (fun _ _ => rfl) s lt _ _ x
    | lane n' =>
      have hlead : leadLane ((setPc s lt (.lane n) pc).tile x) n' = leadLane (s.tile x) n' :=
        leadLane_of_cluster (tile_modLanes_keeps Tile.cluster (fun _ _ => rfl) s lt _ _ x) n'
      have hother : ¬ (x = lt ∧ leadLane (s.tile x) n' ∈ coreLanes (s.tile lt) n) := by
        rintro ⟨rfl, hmem⟩
        exact h (by simp only [coreKey, (leadLane_mem_coreLanes_iff _ _ _).mp hmem])
      rw [pcOf, hlead, pcOf]
      simp only [setPc, lane_modLanes (nodup_coreLanes _ _), if_neg hother]

theorem coreKey_endWait (s : State) (lt : Nat) (c : CoreId) (x : Nat) (c' : CoreId) : coreKey (endWait s lt c) x c' = coreKey s x c' := by
  cases c' with
  | tcc => rfl
  | lane n =>
    have hregs : ((endWait s lt c).tile x).regs = (s.tile x).regs := State.tile_modTile_keeps Tile.regs rfl x
    rw [coreKey, coreKey, leadLane_of_cluster (cluster_of_regs hregs)]

theorem pcOf_jumped_same (s : State) (lt : Nat) (c : CoreId) (pc : DWord) :
    pcOf (jumped lt c pc s) lt c = (match c with | .tcc => pc | .lane _ => (pc.setWidth 32).setWidth 64) := by
  rw [jumped, pcOf_countRetired, pcOf_setPc_same]

theorem pcOf_jumped_ne {s : State} {lt x : Nat} {c c' : CoreId} (pc : DWord) (h : (x, coreKey s x c') ≠ (lt, coreKey s lt c)) :
    pcOf (jumped lt c pc s) x c' = pcOf s x c' := by
  rw [jumped, pcOf_countRetired, pcOf_setPc_ne pc (by rwa [coreKey_endWait, coreKey_endWait]), pcOf_endWait]

end Sys2Proof.Machine
end

section
/-!
O5 and O6: g0 and the other registers, and what retiring and fetching leave.
-/
namespace Sys2Proof.Machine

open Sys2Proof

/-- Settles O5: a write lands in the register file of one core, at one index. -/
theorem registerWrite : Obligations.RegisterWrite :=
  ⟨gRead_zero, gWrite_zero, fun s lt c _ v hr => gRead_gWrite_same s lt c hr v, fun _ _ _ _ v _ _ _ _ _ h => gRead_gWrite_ne v h,
    fun s lt c r v x c' => ⟨pcOf_gWrite s lt c r v x c', waitOf_gWrite s lt c r v x c', levelAt_gWrite s lt c r v x c'⟩, sameMemory_gWrite⟩

/-- Settles O6: a retirement sets one core's pc and counts, and a fetch changes what its accesses change. -/
theorem retireAndFetchFrame : Obligations.RetireAndFetchFrame := by
  refine ⟨fun s lt c len _ => ⟨?_, fun x c' _ h => ?_, fun x c' r => ?_, ?_⟩,
    fun s lt c len => ⟨gRead_fetched s lt c len, pcOf_fetched s lt c len, sameMemory_fetched s lt c len⟩⟩
  · exact pcOf_jumped_same s lt c _
  · rw [retired_eq_jumped, pcOf_jumped_ne _ h]
  · rw [retired_eq_jumped, gRead_jumped]
  · exact sameMemory_jumped s lt c _

end Sys2Proof.Machine
end

section
/-!
SUPPORT. Little-endian bytes, and the accesses of a core to tile memory that meet no fault.
-/
namespace Sys2Proof.Machine

open Sys2Proof

/-! ### Little-endian bytes -/

theorem leNat_lt (bs : List Byte) : leNat bs < 256 ^ bs.length := by
  induction bs with
  | nil => exact Nat.one_pos
  | cons b r ih =>
    have hb : b.toNat < 256 := b.isLt
    rw [leNat, List.length_cons, Nat.pow_succ]
    omega

theorem leNat_leBytes (n x : Nat) : leNat (leBytes n x) = x % 256 ^ n := by
  induction n generalizing x with
  | zero => rw [Nat.pow_zero, Nat.mod_one]; rfl
  | succ n ih =>
    rw [leBytes, leNat, ih, Nat.pow_succ, Nat.mul_comm (256 ^ n), Nat.mod_mul]
    rfl

theorem leNat_append (a b : List Byte) : leNat (a ++ b) = leNat a + 256 ^ a.length * leNat b := by
  induction a with
  | nil => simp [leNat]
  | cons x r ih =>
    rw [List.cons_append, leNat, ih, leNat, List.length_cons, Nat.pow_succ]
    ring

/-- The bytes of a number that bytes give. -/
theorem leBytes_leNat (bs : List Byte) : leBytes bs.length (leNat bs) = bs := by
  induction bs with
  | nil => rfl
  | cons b r ih =>
    have hb : b.toNat < 256 := b.isLt
    have hhead : BitVec.ofNat 8 (b.toNat + 256 * leNat r) = b := BitVec.eq_of_toNat_eq (by rw [BitVec.toNat_ofNat]; omega)
    have htail : (b.toNat + 256 * leNat r) / 256 = leNat r := by omega
    rw [leNat, List.length_cons, leBytes, hhead, htail, ih]

theorem leBytes_add (m n x : Nat) : leBytes (m + n) x = leBytes m x ++ leBytes n (x / 256 ^ m) := by
  induction m generalizing x with
  | zero => simp [leBytes]
  | succ m ih =>
    rw [Nat.add_right_comm, leBytes, ih, leBytes, List.cons_append, Nat.pow_succ, Nat.mul_comm, Nat.div_div_eq_div_mul]

/-- Bytes within a record. -/
theorem slice_of_le {bs : List Byte} {i n : Nat} (h : i + n ≤ bs.length) : slice bs i n = (bs.drop i).take n := by
  have hlen : ((bs.drop i).take n).length = n := by
    rw [List.length_take, List.length_drop]
    omega
  rw [slice, hlen, Nat.sub_self, List.replicate_zero, List.append_nil]

/-- The field of a number's bytes is a digit of the number. -/
theorem fieldAt_leBytes (i n m x : Nat) : fieldAt (leBytes (i + n + m) x) i n = x / 256 ^ i % 256 ^ n := by
  have hsplit : leBytes (i + n + m) x = leBytes i x ++ (leBytes n (x / 256 ^ i) ++ leBytes m (x / 256 ^ (i + n))) := by
    rw [leBytes_add, leBytes_add, List.append_assoc]
  rw [fieldAt, slice_of_le (by rw [length_leBytes]; omega), hsplit, List.drop_left' (length_leBytes i x),
    List.take_left' (length_leBytes n _), leNat_leBytes]

@[simp] theorem length_memBytes (m : Memory) (a n : Nat) : (memBytes m a n).length = n := by
  rw [memBytes, List.length_map, List.length_range]

/-- Bytes depend on their addresses alone. -/
theorem memBytes_congr {m m' : Memory} {a n : Nat} (h : ∀ x, a ≤ x → x < a + n → memGet m' x = memGet m x) : memBytes m' a n = memBytes m a n := by
  refine List.map_congr_left fun i hi => h _ (Nat.le_add_right a i) ?_
  have := List.mem_range.mp hi
  omega

/-! ### Which ranges stay healthy -/

/-- From `s` to `t` the banks of a tile are in the same state and no word of it has come to be in error. -/
structure BanksKept (lt : Nat) (s t : State) : Prop where
  fcs : t.fcs = s.fcs
  gesso : t.gesso = s.gesso
  banks : (t.tile lt).banks = (s.tile lt).banks
  isoBanks : (t.tile lt).isoBanks = (s.tile lt).isoBanks
  regs : (t.tile lt).regs = (s.tile lt).regs
  errs : ∀ w, wordErr s lt w = 0 → wordErr t lt w = 0

theorem BanksKept.refl (lt : Nat) (s : State) : BanksKept lt s s := ⟨rfl, rfl, rfl, rfl, rfl, fun _ h => h⟩

theorem BanksKept.trans {lt : Nat} {s t u : State} (h : BanksKept lt s t) (k : BanksKept lt t u) : BanksKept lt s u :=
  ⟨k.fcs.trans h.fcs, k.gesso.trans h.gesso, k.banks.trans h.banks, k.isoBanks.trans h.isoBanks, k.regs.trans h.regs,
    fun w hw => k.errs w (h.errs w hw)⟩

theorem BanksKept.regionRefuses {lt : Nat} {s t : State} (h : BanksKept lt s t) : regionRefuses t lt = regionRefuses s lt := by
  have hstate : regionState t (regionOf t lt) = regionState s (regionOf s lt) := by
    simp only [regionState, State.ffld, State.freg, State.fc, regionOf, h.fcs, h.gesso]
  rw [Machine.regionRefuses, Machine.regionRefuses, hstate]

theorem BanksKept.physBank {lt : Nat} {s t : State} (h : BanksKept lt s t) (b : Nat) : physBank t lt b = physBank s lt b := by
  simp only [Machine.physBank, ptOf, h.gesso]

theorem BanksKept.wordBlocked {lt : Nat} {s t : State} (h : BanksKept lt s t) (w : Nat) : wordBlocked t lt w = wordBlocked s lt w := by
  have hmap : interleavedOf t lt = interleavedOf s lt := by rw [interleavedOf, interleavedOf, State.tbit, State.tbit, State.treg_of_regs h.regs]
  have hbank : ∀ b, (t.tile lt).bank b = (s.tile lt).bank b := fun b => by rw [Tile.bank, Tile.bank, h.banks]
  rw [Machine.wordBlocked, Machine.wordBlocked, hmap, hbank, h.physBank, h.isoBanks]

theorem BanksKept.localPath {lt : Nat} {s t : State} (h : BanksKept lt s t) (c : CoreId) (off n : Nat) :
    localPath t lt c off n = localPath s lt c off n := by
  cases c with
  | tcc => rfl
  | lane k => simp only [Machine.localPath, State.treg_of_regs h.regs, h.physBank]

theorem BanksKept.wordFine {lt : Nat} {s t : State} (h : BanksKept lt s t) {w : Nat} (hw : wordFine s lt w) : wordFine t lt w :=
  ⟨(h.wordBlocked w).trans hw.1, h.errs w hw.2⟩

theorem BanksKept.healthy {lt : Nat} {s t : State} (h : BanksKept lt s t) {off n : Nat} (hs : healthy s lt off n = true) :
    healthy t lt off n = true := by
  rw [healthy_iff] at hs ⊢
  exact ⟨h.regionRefuses.trans hs.1, fun w hw => h.wordFine (hs.2 w hw)⟩

theorem BanksKept.boltForbids {lt : Nat} {s t : State} (h : BanksKept lt s t) (off n : Nat) : boltForbids t lt off n = boltForbids s lt off n := by
  simp only [Machine.boltForbids, State.treg_of_regs h.regs]

/-- A change of a tile that leaves its banks and the words in error. -/
theorem BanksKept.modTile {s : State} {lt : Nat} {g : Tile → Tile} (hbanks : (g (s.tile lt)).banks = (s.tile lt).banks)
    (hiso : (g (s.tile lt)).isoBanks = (s.tile lt).isoBanks) (hregs : (g (s.tile lt)).regs = (s.tile lt).regs)
    (herrs : ∀ w, kvGet 0 (s.tile lt).errs w = 0 → kvGet 0 (g (s.tile lt)).errs w = 0) : BanksKept lt s (s.modTile lt g) where
  fcs := rfl
  gesso := rfl
  banks := by rw [State.tile_modTile_self]; exact hbanks
  isoBanks := by rw [State.tile_modTile_self]; exact hiso
  regs := by rw [State.tile_modTile_self]; exact hregs
  errs w hw := by
    rw [wordErr, State.tile_modTile_self]
    exact herrs w hw

theorem BanksKept.bumpCnt (lt : Nat) (s : State) (n k : Nat) : BanksKept lt s (bumpCnt s lt n k) :=
  BanksKept.modTile rfl rfl rfl fun _ h => h

theorem BanksKept.bumpXbar (lt : Nat) (s : State) (loc : Bool) (k : Nat) : BanksKept lt s (bumpXbar s loc lt k) := by
  unfold Machine.bumpXbar
  split
  · exact BanksKept.refl lt s
  · exact BanksKept.bumpCnt lt s 14 k

theorem BanksKept.readDone (lt : Nat) (s : State) (c : CoreId) (off n : Nat) : BanksKept lt s (readDone s lt c off n) :=
  (BanksKept.bumpCnt lt s 4 _).trans (BanksKept.bumpXbar lt _ _ _)

/-- A table with the keys that fail a test taken out. -/
theorem kvGet_filter {α : Type} (d : α) (q : Nat → Bool) (l : KV α) (k : Nat) :
    kvGet d (l.filter fun p => q p.1) k = if q k then kvGet d l k else d := by
  induction l with
  | nil => exact (ite_self d).symm
  | cons p r ih =>
    obtain ⟨j, v⟩ := p
    rw [List.filter_cons]
    by_cases hk : j = k
    · subst hk
      cases hq : q j with
      | true => simp [kvGet]
      | false => simpa [hq] using ih
    · cases hq : q j with
      | true => simpa [kvGet, hk] using ih
      | false => simpa [kvGet, hk] using ih

theorem BanksKept.memStore (lt : Nat) (s : State) (off : Nat) (bs : List Byte) : BanksKept lt s (memStore s lt off bs) :=
  BanksKept.modTile rfl rfl rfl fun w h => by
    refine (kvGet_filter 0 (fun k => !(off ≤ 8 * k && 8 * k + 8 ≤ off + bs.length)) _ w).trans ?_
    rw [h, ite_self]

theorem BanksKept.storeDone (lt : Nat) (s : State) (c : CoreId) (off : Nat) (bs : List Byte) : BanksKept lt s (storeDone s lt c off bs) :=
  ((BanksKept.memStore lt s off bs).trans (BanksKept.bumpCnt lt _ 5 _)).trans (BanksKept.bumpXbar lt _ _ _)

/-! ### Accesses that meet no fault -/

theorem memWriteBy_of_healthy {s : State} {lt off : Nat} {bs : List Byte} (h : healthy s lt off bs.length = true) (c : CoreId) :
    memWriteBy (localPath s lt c off bs.length) s lt off bs = (storeDone s lt c off bs, none) := by
  obtain ⟨hregion, hfine⟩ := (healthy_iff s lt off bs.length).mp h
  rw [memWriteBy, if_neg (by simp [hregion]), touchWrites_of_fine hfine]
  rfl

/-- Where the TCC reaches an offset, its address leads there and its level permits it (R97). -/
theorem localAddr_of_coreOffset {s s1 : State} {lt a n off : Nat} {acc : Access} (h : coreOffset s lt .tcc a n acc = (s1, .ok off)) :
    localAddr s lt a acc (s.tile lt).tcc.prv ((s.tile lt).tcc.xlat && !inHandler s lt) = (s1, .ok off) ∧
      permitted (s.tile lt).tcc.prv off n = true := by
  rw [coreOffset] at h
  split at h
  · cases h
  · split at h
    · next hperm =>
      cases h
      exact ⟨‹_›, hperm⟩
    · cases h

/-- Tile memory lies below the register blocks. -/
theorem inBlocks_of_permitted {lv : Level} {off n : Nat} (h : permitted lv off n = true) : inBlocks off = false := by
  have htop : off + n ≤ tileMemTop := by
    unfold permitted at h
    split at h
    · exact of_decide_eq_true h
    · exact (of_decide_eq_true h).trans (by decide)
  have hlow : ¬ 0xF000000 ≤ off := by
    simp only [tileMemTop] at htop
    omega
  rw [inBlocks, decide_eq_false hlow, Bool.false_and]

/-- An access that does not pass a 64 KiB boundary is one piece. -/
theorem piecesOf_within {a n : Nat} (hn : 0 < n) (h : a % 2 ^ 16 + n ≤ 2 ^ 16) : piecesOf a n = [(a, n)] := by
  have hmin : min n (2 ^ 16 - a % 2 ^ 16) = n := by omega
  rw [piecesOf, pagePieces, if_neg (by omega), hmin]
  dsimp only
  rw [ Nat.sub_self, pagePieces, if_pos rfl]

/-- A naturally aligned access does not pass a 64 KiB boundary. -/
theorem piecesOf_aligned {a n : Nat} (hn : n ∣ 2 ^ 16) (ha : a % n = 0) : piecesOf a n = [(a, n)] := by
  have hpos : 0 < n := Nat.pos_of_dvd_of_pos hn (by decide)
  refine piecesOf_within hpos ?_
  obtain ⟨k, hk⟩ := hn
  obtain ⟨j, hj⟩ := (Nat.dvd_mod_iff ⟨k, hk⟩).mpr (Nat.dvd_of_mod_eq_zero ha)
  have hlt : a % 2 ^ 16 < 2 ^ 16 := Nat.mod_lt _ (by decide)
  rw [hk] at hlt ⊢
  rw [hk] at hj
  rw [hj] at hlt ⊢
  have hjk : j + 1 ≤ k := Nat.lt_of_mul_lt_mul_left hlt
  calc n * j + n = n * (j + 1) := (Nat.mul_succ n j).symm
    _ ≤ n * k := Nat.mul_le_mul_left n hjk

/-- A load by a core of one piece. -/
theorem coreRead_of_healthy {s s1 : State} {lt a n off : Nat} {c : CoreId} (hone : piecesOf a n = [(a, n)])
    (hoff : coreOffset s lt c a n .read = (s1, .ok off)) (h : healthy s1 lt off n = true) :
    coreRead s lt c a n = (readDone s1 lt c off n, .ok (memBytes (s1.tile lt).mem off n)) := by
  rw [coreRead, hone, readPieces, hoff]
  dsimp only
  rw [memReadBy_of_healthy h]
  dsimp only
  rw [readPieces]
  dsimp only
  rw [List.append_nil]

theorem loadBytes_of_healthy {s s1 : State} {lt a n off : Nat} {c : CoreId} (hone : piecesOf a n = [(a, n)])
    (hoff : coreOffset s lt c a n .read = (s1, .ok off)) (h : healthy s1 lt off n = true) :
    loadBytes s lt c a n = (readDone s1 lt c off n, .ok (memBytes (s1.tile lt).mem off n)) := by
  cases c with
  | lane k => exact coreRead_of_healthy hone hoff h
  | tcc =>
    obtain ⟨haddr, hperm⟩ := localAddr_of_coreOffset hoff
    have hread : memRead s1 lt off n = (readDone s1 lt .tcc off n, .ok (memBytes (s1.tile lt).mem off n)) := memReadBy_of_healthy h .tcc
    simp only [loadBytes, haddr, inBlocks_of_permitted hperm, hperm, hread, Bool.not_true, Bool.false_eq_true, if_false]

/-- A plain store by a core of one piece. -/
theorem coreStore_of_healthy {s s1 : State} {lt a off : Nat} {c : CoreId} {bs : List Byte}
    (hoff : coreOffset s lt c a bs.length .write = (s1, .ok off)) (hbolt : boltForbids s1 lt off bs.length = false)
    (h : healthy s1 lt off bs.length = true) : coreStore s lt c a bs = (storeDone s1 lt c off bs, none) := by
  simp only [coreStore, hoff, hbolt, memWriteBy_of_healthy h, Bool.false_eq_true, if_false]

theorem storeBytes_of_healthy {s s1 : State} {lt a off : Nat} {c : CoreId} {bs : List Byte} (sets : BitVec 64)
    (hoff : coreOffset s lt c a bs.length .write = (s1, .ok off)) (hbolt : boltForbids s1 lt off bs.length = false)
    (h : healthy s1 lt off bs.length = true) : storeBytes s lt c a bs sets = (storeDone s1 lt c off bs, none) := by
  cases c with
  | lane k => exact coreStore_of_healthy hoff hbolt h
  | tcc =>
    obtain ⟨haddr, hperm⟩ := localAddr_of_coreOffset hoff
    have hwrite : memWrite s1 lt off bs = (storeDone s1 lt .tcc off bs, none) := memWriteBy_of_healthy h .tcc
    simp only [storeBytes, haddr, inBlocks_of_permitted hperm, hperm, hbolt, hwrite, Bool.not_true, Bool.or_self, Bool.false_eq_true, if_false]

/-! ### What accesses keep -/

/-- Where a core's address leads: nothing changes but through translation. -/
theorem AccessBlind.coreOffset {β : Type} {o : Tile → β} (ho : AccessBlind o) (htlb : ∀ t l, o { t with tlb := l } = o t) (s : State) (lt : Nat)
    (c : CoreId) (a n : Nat) (acc : Access) : Kept o s (coreOffset s lt c a n acc).1 := by
  unfold Machine.coreOffset
  cases c with
  | lane k =>
    dsimp only
    split
    · exact Kept.refl o s
    · exact Kept.refl o s
  | tcc =>
    dsimp only
    have haddr := ho.localAddr htlb s lt a acc (s.tile lt).tcc.prv ((s.tile lt).tcc.xlat && !inHandler s lt)
    split
    · next s1 f h => rw [h] at haddr; exact haddr
    · next s1 off h =>
      rw [h] at haddr
      split
      · exact haddr
      · exact haddr

theorem AccessBlind.readDone {β : Type} {o : Tile → β} (ho : AccessBlind o) (s : State) (lt : Nat) (c : CoreId) (off n : Nat) :
    Kept o s (readDone s lt c off n) := (ho.bumpCnt s lt 4 _).trans (ho.bumpXbar _ lt _ _)

theorem AccessBlind.storeDone {β : Type} {o : Tile → β} (ho : AccessBlind o) (hmem : ∀ t m, o { t with mem := m } = o t) (s : State) (lt : Nat)
    (c : CoreId) (off : Nat) (bs : List Byte) : Kept o s (storeDone s lt c off bs) :=
  ((ho.memStore s lt hmem off bs).trans (ho.bumpCnt _ lt 5 _)).trans (ho.bumpXbar _ lt _ _)

/-- The bytes of a tile after a core's store. -/
theorem memGet_storeDone {s : State} {lt : Nat} (h : Memory.wf (s.tile lt).mem = true) (c : CoreId) (off : Nat) (bs : List Byte) (x y : Nat) :
    memGet ((storeDone s lt c off bs).tile x).mem y =
      if x = lt ∧ off ≤ y ∧ y < off + bs.length then bs.getD (y - off) 0 else memGet (s.tile x).mem y := by
  have hcount : Kept Tile.mem (memStore s lt off bs) (storeDone s lt c off bs) :=
    (accessBlind_mem.bumpCnt _ lt 5 _).trans (accessBlind_mem.bumpXbar _ lt _ _)
  rw [hcount.tile x, memGet_memStore h]

theorem memBytes_storeDone {s : State} {lt : Nat} (h : Memory.wf (s.tile lt).mem = true) (c : CoreId) (off : Nat) (bs : List Byte) :
    memBytes ((storeDone s lt c off bs).tile lt).mem off bs.length = bs := by
  have hsame : memBytes ((storeDone s lt c off bs).tile lt).mem off bs.length = memBytes (memPut (s.tile lt).mem off bs) off bs.length :=
    memBytes_congr fun x hlo hhi => by rw [memGet_storeDone h, memGet_memPut h, if_pos ⟨rfl, hlo, hhi⟩, if_pos ⟨hlo, hhi⟩]
  rw [hsame, memBytes_memPut h]

theorem sameMemoryBut_storeDone {s : State} {lt : Nat} (h : Memory.wf (s.tile lt).mem = true) (c : CoreId) (off : Nat) (bs : List Byte) :
    sameMemoryBut lt off bs.length s (storeDone s lt c off bs) := fun x a hout => by rw [memGet_storeDone h, if_neg hout]

theorem sameMemoryBut_of_sameMemory {s t : State} (h : sameMemory s t) (lt off n : Nat) : sameMemoryBut lt off n s t := fun x a _ => h x a

theorem sameMemoryBut_trans {lt off n : Nat} {s t u : State} (h : sameMemoryBut lt off n s t) (k : sameMemoryBut lt off n t u) :
    sameMemoryBut lt off n s u := fun x a hout => (k x a hout).trans (h x a hout)

end Sys2Proof.Machine
end

section
/-!
O7, O8 and O11: loads and stores of a core.
-/
namespace Sys2Proof.Machine

open Sys2Proof

/-! ### Operands -/

theorem ldDisp_eq (imm : BitVec 11) (sz : Nat) : ldDisp imm sz = BitVec.ofInt 64 (imm.toInt * (2 ^ (sz % 4) : Nat)) := by
  rw [BitVec.ofInt_mul, BitVec.ofInt_natCast]
  rfl

theorem ldSize_eq (c : CoreId) (sz : BitVec 3) : ldSize c sz.toNat = decide (sz ∈ Obl.loadSizes c) := by
  cases c with
  | tcc => revert sz; decide
  | lane n => revert sz; exact (by decide : ∀ sz : BitVec 3, ldSize (.lane 0) sz.toNat = decide (sz ∈ Obl.loadSizes (.lane 0)))

theorem stSize_eq (c : CoreId) (sz : BitVec 3) : stSize c sz.toNat = decide (sz ∈ Obl.storeSizes c) := by
  cases c with
  | tcc => revert sz; decide
  | lane n => revert sz; exact (by decide : ∀ sz : BitVec 3, stSize (.lane 0) sz.toNat = decide (sz ∈ Obl.storeSizes (.lane 0)))

/-- The value that a size code gives (Table 4.5). -/
theorem ldValue_eq (sz : Nat) (bs : List Byte) : ldValue sz bs = Obl.loadValue sz (leNat bs) :=
  match sz with
  | 0 => rfl
  | 1 => rfl
  | 2 => rfl
  | n + 3 => by simp [ldValue, Obl.loadValue]

/-- A size code's number of bytes divides a page. -/
theorem szBytes_dvd (sz : Nat) : szBytes sz ∣ 2 ^ 16 := Nat.pow_dvd_pow 2 (by omega)

/-! ### The four ends of a load and a store -/

section Issues
variable {s : State} {lt : Nat} {c : CoreId} {rd rs1 : BitVec 5} {sz : BitVec 3} {imm : BitVec 11} {sets : BitVec 64}
  (hissues : issues s lt c 4 anyCore = true)
include hissues

theorem exec_ld_misaligned (hsz : sz ∈ Obl.loadSizes c)
    (ha : (addrOf (fetched s lt c 4) lt c rs1 (BitVec.ofInt 64 (imm.toInt * (2 ^ (sz.toNat % 4) : Nat)))).toNat % 2 ^ (sz.toNat % 4) ≠ 0) :
    exec (.ld lt c rd rs1 sz imm) s = .next (coreTrap (fetched s lt c 4) lt c causeAlign stOk
      (some (addrOf (fetched s lt c 4) lt c rs1 (BitVec.ofInt 64 (imm.toInt * (2 ^ (sz.toNat % 4) : Nat))))) 0) := by
  refine (insn_of_issues _ _ hissues).trans ?_
  simp only [ldSize_eq, hsz, decide_true, Bool.not_true, Bool.false_eq_true, if_false, ldDisp_eq, szBytes, if_pos ha]
  rfl

theorem exec_ld_of_loadBytes {s1 : State} {bs : List Byte} (hsz : sz ∈ Obl.loadSizes c)
    (ha : (addrOf (fetched s lt c 4) lt c rs1 (BitVec.ofInt 64 (imm.toInt * (2 ^ (sz.toNat % 4) : Nat)))).toNat % 2 ^ (sz.toNat % 4) = 0)
    (hload : loadBytes (fetched s lt c 4) lt c
      (addrOf (fetched s lt c 4) lt c rs1 (BitVec.ofInt 64 (imm.toInt * (2 ^ (sz.toNat % 4) : Nat)))).toNat (2 ^ (sz.toNat % 4)) = (s1, .ok bs)) :
    exec (.ld lt c rd rs1 sz imm) s = .next (retired lt c 4 (gWrite s1 lt c rd (Obl.loadValue sz.toNat (leNat bs)))) := by
  refine (insn_of_issues _ _ hissues).trans ?_
  simp only [ldSize_eq, hsz, decide_true, Bool.not_true, Bool.false_eq_true, if_false, ldDisp_eq, szBytes, ha, ne_eq, not_true_eq_false, hload,
    ldValue_eq]
  rfl

theorem exec_st_misaligned (hsz : sz ∈ Obl.storeSizes c)
    (ha : (addrOf (fetched s lt c 4) lt c rs1 (BitVec.ofInt 64 (imm.toInt * (2 ^ (sz.toNat % 4) : Nat)))).toNat % 2 ^ (sz.toNat % 4) ≠ 0) :
    exec (.st lt c rd rs1 sz ⟨imm, sets⟩) s = .next (coreTrap (fetched s lt c 4) lt c causeAlign stOk
      (some (addrOf (fetched s lt c 4) lt c rs1 (BitVec.ofInt 64 (imm.toInt * (2 ^ (sz.toNat % 4) : Nat))))) 0) := by
  refine (insn_of_issues _ _ hissues).trans ?_
  simp only [stSize_eq, hsz, decide_true, Bool.not_true, Bool.false_eq_true, if_false, ldDisp_eq, szBytes, if_pos ha]
  rfl

theorem exec_st_of_storeBytes {s1 : State} (hsz : sz ∈ Obl.storeSizes c)
    (ha : (addrOf (fetched s lt c 4) lt c rs1 (BitVec.ofInt 64 (imm.toInt * (2 ^ (sz.toNat % 4) : Nat)))).toNat % 2 ^ (sz.toNat % 4) = 0)
    (hstore : storeBytes (fetched s lt c 4) lt c
      (addrOf (fetched s lt c 4) lt c rs1 (BitVec.ofInt 64 (imm.toInt * (2 ^ (sz.toNat % 4) : Nat)))).toNat
      (leBytes (2 ^ (sz.toNat % 4)) (gRead (fetched s lt c 4) lt c rd).toNat) sets = (s1, none)) :
    exec (.st lt c rd rs1 sz ⟨imm, sets⟩) s = .next (retired lt c 4 s1) := by
  refine (insn_of_issues _ _ hissues).trans ?_
  simp only [stSize_eq, hsz, decide_true, Bool.not_true, Bool.false_eq_true, if_false, ldDisp_eq, szBytes, ha, ne_eq, not_true_eq_false, hstore]
  rfl

end Issues

/-! ### Register blocks -/

section Blocks
variable {s s1 : State} {lt a n off : Nat} (hblock : inBlocks off = true) (hprv : (s1.tile lt).tcc.prv ≠ .u) (hin : inHandler s1 lt = false)
include hblock hprv hin

omit hblock in
theorem blockAccess_of (hn : 4 ≤ n) : blockAccess s1 lt n = true := by
  simp [blockAccess, hprv, hin, hn]

theorem loadBytes_of_inBlocks (hn : 4 ≤ n)
    (haddr : localAddr s lt a .read (s.tile lt).tcc.prv ((s.tile lt).tcc.xlat && !inHandler s lt) = (s1, .ok off)) :
    loadBytes s lt .tcc a n = ((regLoad s1 lt off n).1, .ok (regLoad s1 lt off n).2) := by
  simp only [loadBytes, haddr, hblock, blockAccess_of hprv hin hn, if_true]

theorem storeBytes_of_inBlocks {bs : List Byte} {sets : BitVec 64} (hn : 4 ≤ bs.length)
    (haddr : localAddr s lt a .write (s.tile lt).tcc.prv ((s.tile lt).tcc.xlat && !inHandler s lt) = (s1, .ok off))
    (hok : (regStore s1 lt off bs sets).2 = stOk) : storeBytes s lt .tcc a bs sets = ((regStore s1 lt off bs sets).1, none) := by
  simp only [storeBytes, haddr, hblock, blockAccess_of hprv hin hn, hok, if_true]

end Blocks

theorem leNat_leBytes_word (w : Word) : leNat (leBytes 4 w.toNat) = w.toNat := by
  rw [leNat_leBytes]
  exact Nat.mod_eq_of_lt w.isLt

/-- The words of a store, the lower one first. -/
theorem fieldAt_low (n : Nat) (v : DWord) : BitVec.ofNat 32 (fieldAt (leBytes (4 + n) v.toNat) 0 4) = v.setWidth 32 := by
  have h : fieldAt (leBytes (0 + 4 + n) v.toNat) 0 4 = v.toNat / 256 ^ 0 % 256 ^ 4 := fieldAt_leBytes 0 4 n v.toNat
  rw [Nat.zero_add] at h
  apply BitVec.eq_of_toNat_eq
  rw [h, BitVec.toNat_ofNat, BitVec.toNat_setWidth]
  omega

theorem fieldAt_high (v : DWord) : BitVec.ofNat 32 (fieldAt (leBytes 8 v.toNat) 4 4) = (v >>> 32).setWidth 32 := by
  have h : fieldAt (leBytes 8 v.toNat) 4 4 = v.toNat / 256 ^ 4 % 256 ^ 4 := fieldAt_leBytes 4 4 0 v.toNat
  apply BitVec.eq_of_toNat_eq
  rw [h, BitVec.toNat_ofNat, BitVec.toNat_setWidth, BitVec.toNat_ushiftRight, Nat.shiftRight_eq_div_pow]
  omega

/-- The size codes that the TCC may load a register block with. -/
theorem blockSizes_load : ∀ sz : BitVec 3, sz ∈ ([2, 3, 6] : List (BitVec 3)) →
    sz ∈ Obl.loadSizes .tcc ∧ (2 ^ (sz.toNat % 4) = 4 ∨ 2 ^ (sz.toNat % 4) = 8 ∧ sz = 3) := by
  decide

/-- The size codes that the TCC may store to a register block with. -/
theorem blockSizes_store : ∀ sz : BitVec 3, sz ∈ ([2, 3] : List (BitVec 3)) → sz ∈ Obl.storeSizes .tcc := by
  decide

/-! ### The statements -/

/-- Settles O7: a load is an access of one piece, or of the words of a register block. -/
theorem loadReads : Obligations.LoadReads := by
  refine ⟨?_, ?_⟩
  · intro s lt c rd rs1 sz imm s1 off hissues hsz f n a ha hoff hhealthy
    refine ⟨exec_ld_of_loadBytes hissues hsz ha (loadBytes_of_healthy (piecesOf_aligned (szBytes_dvd sz.toNat) ha) hoff hhealthy), ?_⟩
    have haddr : Kept Tile.mem f s1 := by
      have h := accessBlind_mem.coreOffset (fun _ _ => rfl) f lt c a n .read
      rwa [hoff] at h
    have hread : sameMemory f (readDone s1 lt c off n) := (haddr.trans (accessBlind_mem.readDone s1 lt c off n)).sameMemory
    exact sameMemory_trans (sameMemory_trans hread (sameMemory_gWrite _ lt c rd _)) (sameMemory_jumped _ lt c _)
  · intro s lt rd rs1 sz imm s1 off hissues hsz f n a ha haddr hblock hprv hin
    obtain ⟨hsz', hword | ⟨hdword, hd⟩⟩ := blockSizes_load sz hsz
    · have hn : n = 4 := hword
      have hload := loadBytes_of_inBlocks hblock hprv hin hn.ge haddr
      rw [regLoad, if_pos hn] at hload
      rw [exec_ld_of_loadBytes hissues hsz' ha hload, if_pos hn, leNat_leBytes_word]
    · have hn : n = 8 := hdword
      have hne : n ≠ 4 := by rw [hn]; decide
      have hload := loadBytes_of_inBlocks (n := n) hblock hprv hin (by rw [hn]; decide) haddr
      rw [regLoad, if_neg hne] at hload
      rw [exec_ld_of_loadBytes hissues hsz' ha hload, if_neg hne, leNat_append, leNat_leBytes_word, leNat_leBytes_word, length_leBytes, hd]
      rfl

/-- Settles O8: a store is an access of one piece, or of the words of a register block. -/
theorem storeWrites : Obligations.StoreWrites := by
  refine ⟨?_, ?_⟩
  · intro s lt c rd rs1 sz imm sets s1 off hissues hsz f n a ha hoff hbolt hhealthy
    obtain ⟨bs, hbs⟩ : ∃ bs, bs = leBytes n (gRead f lt c rd).toNat := ⟨_, rfl⟩
    have hlen : bs.length = n := by rw [hbs, length_leBytes]
    rw [← hbs]
    rw [← hlen] at hoff hbolt hhealthy
    have hstore := storeBytes_of_healthy sets hoff hbolt hhealthy
    have haddr : ∀ {β : Type} {o : Tile → β}, AccessBlind o → (∀ t l, o { t with tlb := l } = o t) → Kept o f s1 := fun ho htlb => by
      have h := ho.coreOffset htlb f lt c a bs.length .write
      rwa [hoff] at h
    have hmem : sameMemory f s1 := (haddr accessBlind_mem fun _ _ => rfl).sameMemory
    refine ⟨_, exec_st_of_storeBytes hissues hsz ha (hbs ▸ hstore), rfl, fun hwf => ⟨?_, ?_⟩, fun x c' r => ?_⟩
    · have hsame : memBytes ((retired lt c 4 (storeDone s1 lt c off bs)).tile lt).mem off n = memBytes ((storeDone s1 lt c off bs).tile lt).mem off n :=
        memBytes_congr fun y _ _ => sameMemory_jumped _ lt c _ lt y
      rw [hsame, ← hlen, memBytes_storeDone hwf]
    · have hstored := sameMemoryBut_storeDone hwf c off bs
      rw [hlen] at hstored
      exact sameMemoryBut_trans (sameMemoryBut_trans (sameMemoryBut_of_sameMemory hmem lt off n) hstored)
        (sameMemoryBut_of_sameMemory (sameMemory_jumped _ lt c _) lt off n)
    · have hregs : Kept generalRegs f (storeDone s1 lt c off bs) :=
        (haddr accessBlind_generalRegs fun _ _ => rfl).trans (accessBlind_generalRegs.storeDone (fun _ _ => rfl) s1 lt c off bs)
      rw [retired_eq_jumped, gRead_jumped, gRead_of_kept hregs]
  · intro s lt rd rs1 sz imm sets s1 off hissues hsz f n a ha haddr hblock hprv hin p hok
    have hsz' := blockSizes_store sz hsz
    have hend : ∀ v : State × Status, 4 ≤ n → regStore s1 lt off (leBytes n (gRead f lt .tcc rd).toNat) sets = v → v.2 = stOk →
        exec (.st lt .tcc rd rs1 sz ⟨imm, sets⟩) s = .next (retired lt .tcc 4 v.1) := by
      intro v hn hreg hv
      have hstore := storeBytes_of_inBlocks hblock hprv hin ((length_leBytes n _).symm ▸ hn) haddr (by rw [hreg]; exact hv)
      rw [hreg] at hstore
      exact exec_st_of_storeBytes hissues hsz' ha hstore
    refine ⟨fun h4 => hend p h4.ge ?_ hok, fun h8 => fun hq => hend _ (by rw [h8]; decide) ?_ hq⟩
    · rw [regStore, h4, length_leBytes, if_pos (Or.inl le_rfl), fieldAt_low 0]
    · rw [regStore, h8, length_leBytes, fieldAt_low 4, fieldAt_high]
      exact if_neg (by simp [p, hok])

/-! ### Misaligned accesses -/

section Traps
variable {β : Type} {o : Tile → β} (ho : ReportBlind o) (htcc : ∀ t c, o { t with tcc := c } = o t)
  (hfatal : ∀ t, o { t with fatal := true, bypassed := true } = o t)
include ho htcc hfatal

/-- A trap of the TCC, to an observation that sees neither the TCC nor reports. -/
theorem ReportBlind.tccTrap (s : State) (lt : Nat) (cause : Cause) (st : Status) (info : Option DWord) :
    Kept o s (tccTrap s lt cause st info) := by
  have hmod : ∀ u f, Kept o u (modTcc u lt f) := fun u f => Kept.modTile (fun t => { t with tcc := f t.tcc }) (htcc _ _)
  unfold Machine.tccTrap
  extract_lets t toS i s1
  have hdrawn : Kept o s s1 := (kept_drawn s).ite (Kept.refl o s)
  refine hdrawn.trans ?_
  split
  · exact hmod s1 _
  · split
    · exact hmod s1 _
    · split
      · exact hmod s1 _
      · exact (hmod s1 _).trans (ho.reportFatal hfatal _ lt _ true _)

/-- A trap, to an observation that sees neither cores nor reports. -/
theorem ReportBlind.coreTrap (hstall : ∀ t l, o { t with stallsTold := l } = o t) (hlanes : ∀ t l, o { t with lanes := l } = o t) (s : State)
    (lt : Nat) (c : CoreId) (cause : Cause) (st : Status) (info : Option DWord) (slice : Nat) : Kept o s (coreTrap s lt c cause st info slice) := by
  have hend : Kept o s (endWait s lt c) := Kept.modTile (fun t => { t with stallsTold := t.stallsTold.filter (· != coreTurn c) }) (hstall _ _)
  unfold Machine.coreTrap
  extract_lets s1
  cases c with
  | tcc => exact hend.trans (ho.tccTrap htcc hfatal s1 lt cause st info)
  | lane n =>
    have hdrawn : Kept o s1 (if info.isNone then s1.drawn else s1) := (kept_drawn s1).ite (Kept.refl o s1)
    exact (hend.trans hdrawn).trans (Kept.modLanes _ lt fun t k => hlanes t _)

end Traps

theorem sameMemory_tccTrap (s : State) (lt : Nat) (cause : Cause) (st : Status) (info : Option DWord) :
    sameMemory s (tccTrap s lt cause st info) :=
  (accessBlind_mem.toReportBlind.tccTrap (fun _ _ => rfl) (fun _ => rfl) s lt cause st info).sameMemory

theorem sameMemory_coreTrap (s : State) (lt : Nat) (c : CoreId) (cause : Cause) (st : Status) (info : Option DWord) (slice : Nat) :
    sameMemory s (coreTrap s lt c cause st info slice) :=
  (accessBlind_mem.toReportBlind.coreTrap (fun _ _ => rfl) (fun _ => rfl) (fun _ _ => rfl) (fun _ _ => rfl) s lt c cause st info slice).sameMemory

/-- The address of a vector access (R98). -/
theorem vecAddr_eq (s : State) (lt : Nat) (c : CoreId) (rs1 : BitVec 5) (imm : BitVec 11) :
    vecAddr s lt c rs1 imm = addrOf s lt c rs1 (BitVec.ofInt 64 (imm.toInt * 16)) := by
  rw [vecAddr, signExtend_shiftLeft]
  rfl

/-- A vector instruction that issues acts on the lane cores that LCNT names (R92). -/
theorem vinsn_of_issues {s : State} {lt n : Nat} {lcnt : BitVec 4} {ls : List Nat} (word : Word) (body : State → Nat → List Nat → InsnOut)
    (hissues : issues s lt (.lane n) 4 laneOnly = true) (hls : activeLanes ((fetched s lt (.lane n) 4).tile lt) n lcnt.toNat = some ls) :
    vinsn lt (.lane n) word lcnt body s = .next (finish lt (.lane n) 4 (body (fetched s lt (.lane n) 4) n ls)) := by
  rw [vinsn, insn_of_issues _ _ hissues, laneNo, hls]

/-- With LCNT 0 that is every lane core of the executing core. -/
theorem activeLanes_zero (t : Tile) (n : Nat) : activeLanes t n 0 = some (coreLanes t n) := rfl

/-- Settles O11: the alignment is looked at before the address. -/
theorem misalignedTraps : Obligations.MisalignedTraps := by
  refine ⟨?_, ?_, fun s lt c info => sameMemory_coreTrap s lt c causeAlign stOk info 0⟩
  · intro s lt c rd rs1 sz imm sets hissues f n a ha
    exact ⟨fun hsz => exec_ld_misaligned hissues hsz ha, fun hsz => exec_st_misaligned hissues hsz ha⟩
  · intro s lt n vd rs1 imm hissues f a ha
    have hcase : ∀ {α : Type} (x y : α), (if a.toNat % 16 ≠ 0 then x else y) = x := fun x y => if_pos ha
    constructor
    · rw [show exec (.vld lt (.lane n) vd rs1 imm) s = execVld lt (.lane n) vd rs1 imm s from rfl, execVld,
        vinsn_of_issues _ _ hissues (lcnt := 0) (activeLanes_zero _ n)]
      simp only [vecAddr_eq]
      rw [hcase]
      rfl
    · rw [show exec (.vst lt (.lane n) vd rs1 imm) s = execVst lt (.lane n) vd rs1 imm s from rfl, execVst,
        vinsn_of_issues _ _ hissues (lcnt := 0) (activeLanes_zero _ n)]
      simp only [vecAddr_eq]
      rw [hcase]
      rfl

end Sys2Proof.Machine
end

section
/-!
O9: atomics.
-/
namespace Sys2Proof.Machine

open Sys2Proof

/-! ### Functions of the old word -/

/-- A function on numbers answers what one on words does. -/
def Agrees (f : Nat → Nat → Nat → Nat → Option Nat) (g : (n : Nat) → BitVec n → BitVec n → BitVec n → Option (BitVec n)) : Prop :=
  ∀ (n : Nat) (o v d : BitVec n), f n o.toNat v.toNat d.toNat = (g n o v d).map BitVec.toNat

/-- The signed value of a word's number. -/
theorem sgn_toNat {n : Nat} (x : BitVec n) : sgn n x.toNat = x.toInt := by
  have hlt := x.isLt
  have hmod : (x.toNat : Int) % 2 ^ n = x.toNat := Int.emod_eq_of_lt (Int.natCast_nonneg _) (by exact_mod_cast hlt)
  rw [sgn, BitVec.toInt_eq_toNat_cond, Nat.mod_eq_of_lt hlt, hmod]
  cases n with
  | zero =>
    have hzero : x.toNat = 0 := by omega
    simp [hzero]
  | succ k =>
    rw [Nat.add_sub_cancel, Nat.pow_succ]
    by_cases h : 2 ^ k ≤ x.toNat
    · rw [if_pos h, if_neg (by omega)]
      norm_cast
    · rw [if_neg h, if_pos (by omega)]

theorem agrees_add : Agrees (fun k o v _ => some ((o + v) % 2 ^ k)) (fun _ o v _ => some (o + v)) := fun n o v d => by
  rw [Option.map_some, BitVec.toNat_add]

theorem agrees_min : Agrees (fun k o v _ => some (if sgn k o ≤ sgn k v then o else v)) (fun _ o v _ => some (if o.toInt ≤ v.toInt then o else v)) :=
  fun n o v d => by
    simp only [Option.map_some, sgn_toNat, apply_ite BitVec.toNat]

theorem agrees_max : Agrees (fun k o v _ => some (if sgn k v ≤ sgn k o then o else v)) (fun _ o v _ => some (if v.toInt ≤ o.toInt then o else v)) :=
  fun n o v d => by
    simp only [Option.map_some, sgn_toNat, apply_ite BitVec.toNat]

theorem agrees_minu : Agrees (fun _ o v _ => some (min o v)) (fun _ o v _ => some (if o.toNat ≤ v.toNat then o else v)) := fun n o v d => by
  simp only [Option.map_some, apply_ite BitVec.toNat, min_def]

theorem agrees_maxu : Agrees (fun _ o v _ => some (max o v)) (fun _ o v _ => some (if v.toNat ≤ o.toNat then o else v)) := fun n o v d => by
  simp only [Option.map_some, apply_ite BitVec.toNat, max_comm o.toNat, max_def]

theorem agrees_cas : Agrees (fun _ o v d => if o = d then some v else none) (fun _ o v d => if o = d then some v else none) := fun n o v d => by
  by_cases h : o = d
  · simp only [h, if_true, Option.map_some]
  · have hne : o.toNat ≠ d.toNat := fun e => h (BitVec.eq_of_toNat_eq e)
    simp only [h, hne, if_false, Option.map_none]

/-- Each atomic of Table 4.5 is `amo` with a function that agrees with its row. -/
theorem amoRows_agree {p : (Nat → CoreId → BitVec 5 → BitVec 5 → BitVec 5 → Bool → Instr) ×
    ((n : Nat) → BitVec n → BitVec n → BitVec n → Option (BitVec n))} (hp : p ∈ Obl.amoRows) :
    ∃ fn f, Agrees f p.2 ∧ ∀ lt c rd rs1 rs2 four s, exec (p.1 lt c rd rs1 rs2 four) s = amo fn f lt c rd rs1 rs2 four s := by
  simp only [Obl.amoRows, List.mem_cons, List.not_mem_nil, or_false] at hp
  rcases hp with rfl | rfl | rfl | rfl | rfl | rfl | rfl | rfl | rfl | rfl
  · exact ⟨0, fun _ _ v _ => some v, fun _ _ _ _ => rfl, fun _ _ _ _ _ _ _ => rfl⟩
  · exact ⟨1, _, agrees_add, fun _ _ _ _ _ _ _ => rfl⟩
  · exact ⟨2, fun _ o v _ => some (o &&& v), fun _ o v _ => congrArg some (BitVec.toNat_and o v).symm, fun _ _ _ _ _ _ _ => rfl⟩
  · exact ⟨3, fun _ o v _ => some (o ||| v), fun _ o v _ => congrArg some (BitVec.toNat_or o v).symm, fun _ _ _ _ _ _ _ => rfl⟩
  · exact ⟨4, fun _ o v _ => some (o ^^^ v), fun _ o v _ => congrArg some (BitVec.toNat_xor o v).symm, fun _ _ _ _ _ _ _ => rfl⟩
  · exact ⟨5, _, agrees_min, fun _ _ _ _ _ _ _ => rfl⟩
  · exact ⟨6, _, agrees_max, fun _ _ _ _ _ _ _ => rfl⟩
  · exact ⟨7, _, agrees_minu, fun _ _ _ _ _ _ _ => rfl⟩
  · exact ⟨8, _, agrees_maxu, fun _ _ _ _ _ _ _ => rfl⟩
  · exact ⟨9, _, agrees_cas, fun _ _ _ _ _ _ _ => rfl⟩

/-! ### The access -/

/-- What an atomic leaves: the word read, and a new word written where its function gives one. -/
def amoDone (s : State) (lt : Nat) (c : CoreId) (off n : Nat) (new : Option Nat) : State :=
  match new with
  | none => readDone s lt c off n
  | some v => storeDone (readDone s lt c off n) lt c off (leBytes n v)

theorem atomic_of_healthy {s s1 : State} {lt a n off : Nat} {c : CoreId} (f : Nat → Option Nat)
    (hoff : coreOffset s lt c a n .write = (s1, .ok off)) (hbolt : boltForbids s1 lt off n = false) (h : healthy s1 lt off n = true) :
    atomic s lt c a n f =
      (amoDone s1 lt c off n (f (leNat (memBytes (s1.tile lt).mem off n))), .ok (leNat (memBytes (s1.tile lt).mem off n))) := by
  have hread := memReadBy_of_healthy h c
  have hhealthy : healthy (readDone s1 lt c off n) lt off n = true := (BanksKept.readDone lt s1 c off n).healthy h
  have hwrite : ∀ v, memWriteBy (localPath (readDone s1 lt c off n) lt c off n) (readDone s1 lt c off n) lt off (leBytes n v) =
      (storeDone (readDone s1 lt c off n) lt c off (leBytes n v), none) := fun v => by
    have := memWriteBy_of_healthy (bs := leBytes n v) (by rwa [length_leBytes]) c
    rwa [length_leBytes] at this
  cases hf : f (leNat (memBytes (s1.tile lt).mem off n)) with
  | none => simp only [atomic, hoff, hbolt, Bool.false_eq_true, if_false, hread, hf, amoDone]
  | some v => simp only [atomic, hoff, hbolt, Bool.false_eq_true, if_false, hread, hf, hwrite, amoDone]

theorem sameMemoryBut_amoDone {s : State} {lt : Nat} (h : Memory.wf (s.tile lt).mem = true) (c : CoreId) (off n : Nat) (new : Option Nat) :
    sameMemoryBut lt off n s (amoDone s lt c off n new) := by
  have hread : Kept Tile.mem s (readDone s lt c off n) := accessBlind_mem.readDone s lt c off n
  cases new with
  | none => exact sameMemoryBut_of_sameMemory hread.sameMemory lt off n
  | some v =>
    have hwf : Memory.wf ((readDone s lt c off n).tile lt).mem = true := by rwa [hread.tile lt]
    have hstore := sameMemoryBut_storeDone hwf c off (leBytes n v)
    rw [length_leBytes] at hstore
    exact sameMemoryBut_trans (sameMemoryBut_of_sameMemory hread.sameMemory lt off n) hstore

/-! ### The statement -/

section Issues
variable {s : State} {lt : Nat} {c : CoreId} {rd rs1 rs2 : BitVec 5} {four : Bool} (fn : Nat) (f : Nat → Nat → Nat → Nat → Option Nat)
  (hissues : issues s lt c 4 anyCore = true) (hform : four = true ∨ c = .tcc)
include hissues hform

omit hissues in
theorem amoForm_listed : (!four && !isTcc c) = false := by
  rcases hform with rfl | rfl
  · rfl
  · exact Bool.and_false _

theorem amo_misaligned (ha : (addrOf (fetched s lt c 4) lt c rs1 0).toNat % (if four then 4 else 8) ≠ 0) :
    amo fn f lt c rd rs1 rs2 four s = .next (coreTrap (fetched s lt c 4) lt c causeAlign stOk (some (addrOf (fetched s lt c 4) lt c rs1 0)) 0) := by
  rw [amo, insn_of_issues _ _ hissues]
  simp only [amoForm_listed hform, Bool.false_eq_true, if_false, if_pos ha]
  rfl

theorem amo_of_atomic {s1 : State} {old : Nat} (ha : (addrOf (fetched s lt c 4) lt c rs1 0).toNat % (if four then 4 else 8) = 0)
    (hatomic : atomic (fetched s lt c 4) lt c (addrOf (fetched s lt c 4) lt c rs1 0).toNat (if four then 4 else 8)
      (fun old => f (8 * if four then 4 else 8) old ((gRead (fetched s lt c 4) lt c rs2).toNat % 2 ^ (8 * if four then 4 else 8))
        ((gRead (fetched s lt c 4) lt c rd).toNat % 2 ^ (8 * if four then 4 else 8))) = (s1, .ok old)) :
    amo fn f lt c rd rs1 rs2 four s = .next (retired lt c 4 (gWrite s1 lt c rd
      (if four then (BitVec.ofNat 32 old).signExtend 64 else BitVec.ofNat 64 old))) := by
  rw [amo, insn_of_issues _ _ hissues]
  simp only [amoForm_listed hform, Bool.false_eq_true, if_false, ha, ne_eq, not_true_eq_false, hatomic]
  rfl

end Issues

/-- The old word as rd takes it: sign-extended for 4 B, whole for 8 B. -/
theorem amo_old (four : Bool) (x : Nat) :
    (if four then (BitVec.ofNat 32 x).signExtend 64 else BitVec.ofNat 64 x) = (BitVec.ofNat (8 * if four then 4 else 8) x).signExtend 64 := by
  cases four with
  | true => rfl
  | false => exact (BitVec.signExtend_eq (x := BitVec.ofNat 64 x)).symm

/-- Settles O9: one access that reads and, where the function gives a word, writes. -/
theorem atomicResult : Obligations.AtomicResult := by
  refine ⟨?_, ?_⟩
  · intro p hp s lt c rd rs1 rs2 four s1 off hissues hform fe n a ha hoff hbolt hhealthy old s2
    obtain ⟨fn, f, hagree, hexec⟩ := amoRows_agree hp
    have hold : leNat (memBytes (s1.tile lt).mem off n) = old.toNat := by
      have hlt := leNat_lt (memBytes (s1.tile lt).mem off n)
      rw [length_memBytes, show (256 : Nat) = 2 ^ 8 from rfl, ← Nat.pow_mul] at hlt
      rw [BitVec.toNat_ofNat, Nat.mod_eq_of_lt hlt]
    have hs2 : s2 = amoDone s1 lt c off n
        ((p.2 (8 * n) old ((gRead fe lt c rs2).setWidth (8 * n)) ((gRead fe lt c rd).setWidth (8 * n))).map BitVec.toNat) := by
      simp only [s2]
      cases p.2 (8 * n) old ((gRead fe lt c rs2).setWidth (8 * n)) ((gRead fe lt c rd).setWidth (8 * n)) <;> rfl
    have hnew : f (8 * n) (leNat (memBytes (s1.tile lt).mem off n)) ((gRead fe lt c rs2).toNat % 2 ^ (8 * n))
        ((gRead fe lt c rd).toNat % 2 ^ (8 * n)) =
          (p.2 (8 * n) old ((gRead fe lt c rs2).setWidth (8 * n)) ((gRead fe lt c rd).setWidth (8 * n))).map BitVec.toNat := by
      rw [hold, ← BitVec.toNat_setWidth, ← BitVec.toNat_setWidth, hagree]
    have hatomic := atomic_of_healthy (fun old => f (8 * n) old ((gRead fe lt c rs2).toNat % 2 ^ (8 * n))
      ((gRead fe lt c rd).toNat % 2 ^ (8 * n))) hoff hbolt hhealthy
    rw [hnew, ← hs2] at hatomic
    have haddr : Kept Tile.mem fe s1 := by
      have h := accessBlind_mem.coreOffset (fun _ _ => rfl) fe lt c a n .write
      rwa [hoff] at h
    refine ⟨?_, fun hwf => ?_⟩
    · rw [hexec, amo_of_atomic fn f hissues hform ha hatomic, amo_old]
    · have hdone : sameMemoryBut lt off n s1 s2 := by
        rw [hs2]
        exact sameMemoryBut_amoDone hwf c off n _
      exact sameMemoryBut_trans (sameMemoryBut_trans (sameMemoryBut_of_sameMemory haddr.sameMemory lt off n) hdone)
        (sameMemoryBut_of_sameMemory (sameMemory_trans (sameMemory_gWrite _ lt c rd _) (sameMemory_jumped _ lt c _)) lt off n)
  · intro p hp s lt c rd rs1 rs2 four hissues hform ha
    obtain ⟨fn, f, -, hexec⟩ := amoRows_agree hp
    rw [hexec, amo_misaligned fn f hissues hform ha]

end Sys2Proof.Machine
end

section
/-!
O18 and O19: traps of both kinds of core, the return from a trap, and the instructions that take one.
-/
namespace Sys2Proof.Machine

open Sys2Proof

/-! ### Traps of the TCC -/

@[simp] theorem tcc_modTcc_self (s : State) (lt : Nat) (f : Tcc → Tcc) : ((modTcc s lt f).tile lt).tcc = f (s.tile lt).tcc := by
  rw [tile_modTcc, if_pos rfl]

/-- An observation of a tile that does not see its TCC. -/
theorem tile_modTcc_keeps {β : Type} (o : Tile → β) (ho : ∀ t c, o { t with tcc := c } = o t) (s : State) (lt : Nat) (f : Tcc → Tcc) (x : Nat) :
    o ((modTcc s lt f).tile x) = o (s.tile x) := State.tile_modTile_keeps o (ho _ _) x

theorem sameMemory_modTcc (s : State) (lt : Nat) (f : Tcc → Tcc) : sameMemory s (modTcc s lt f) := fun x a => by
  rw [tile_modTcc_keeps Tile.mem fun _ _ => rfl]

@[simp] theorem tile_drawn (s : State) (x : Nat) : s.drawn.tile x = s.tile x := rfl

/-- A synchronous cause is routed to S (R111). -/
def TrapsToS (t : Tcc) (cause : Cause) : Prop := t.prv ≠ .m ∧ bit t.route cause.toNat = true

theorem trapsToS_iff (t : Tcc) (cause : Cause) : (t.prv != .m && bit t.route cause.toNat) = true ↔ TrapsToS t cause := by
  rw [TrapsToS, Bool.and_eq_true, bne_iff_ne]

section Traps
variable {s : State} {lt : Nat} {cause : Cause} (st : Status) (v : DWord)

theorem tccTrap_toS (hto : TrapsToS (s.tile lt).tcc cause) (htrap : (s.tile lt).tcc.trapS = false) :
    tccTrap s lt cause st (some v) =
      modTcc s lt fun t => enterTrap t false t.pc (causeWord cause.toNat st t.prv false) v t.ts.base := by
  simp [tccTrap, (trapsToS_iff _ _).mpr hto, htrap, infoOr]

theorem tccTrap_nested (hto : TrapsToS (s.tile lt).tcc cause) (htrap : (s.tile lt).tcc.trapS = true) (hm : (s.tile lt).tcc.trapM = false) :
    tccTrap s lt cause st (some v) =
      modTcc s lt fun t => enterTrap t true t.pc (causeWord causeNested.toNat stOk t.prv false) (cause.setWidth 64) t.tm.base := by
  simp [tccTrap, (trapsToS_iff _ _).mpr hto, htrap, hm]

/-- A cause for M; where the spec names no value for TILE_TRAP_INFO_M, it is a free one (log entry 2). -/
theorem tccTrap_toM (info : Option DWord) (hto : ¬ TrapsToS (s.tile lt).tcc cause) (hm : (s.tile lt).tcc.trapM = false) :
    tccTrap s lt cause st info = modTcc (if info.isNone then s.drawn else s) lt fun t =>
      enterTrap t true t.pc (causeWord cause.toNat st t.prv false) (infoOr s info) t.tm.base := by
  have hno : (((s.tile lt).tcc.prv != .m) && bit (s.tile lt).tcc.route cause.toNat) = false := by
    rw [Bool.eq_false_iff, ne_eq, trapsToS_iff]
    exact hto
  simp [tccTrap, hno, hm]

/-- Nested at M, the TCC stops as a FATAL error (R111). -/
theorem tccTrap_fatal (hto : TrapsToS (s.tile lt).tcc cause ∧ (s.tile lt).tcc.trapS = true ∨ ¬ TrapsToS (s.tile lt).tcc cause)
    (hm : (s.tile lt).tcc.trapM = true) :
    tccTrap s lt cause st (some v) = reportFatal (modTcc s lt fun t => { t with stopped := true, wait := none }) lt
      { kind := 6, pt := ptOf s lt, num := 0 } true cause.toNat := by
  have hno : ((((s.tile lt).tcc.prv != .m) && bit (s.tile lt).tcc.route cause.toNat) && !(s.tile lt).tcc.trapS) = false := by
    rcases hto with ⟨-, htrap⟩ | hto
    · rw [htrap, Bool.not_true, Bool.and_false]
    · rw [Bool.and_eq_false_iff]
      left
      rw [Bool.eq_false_iff, ne_eq, trapsToS_iff]
      exact hto
  simp [tccTrap, hno, hm]

end Traps

/-- Reports leave the TCC of every tile. -/
theorem reportBlind_tcc : ReportBlind Tile.tcc where
  recorder _ _ := rfl
  isolated _ _ := rfl
  isoBanks _ _ := rfl
  regs _ _ _ _ := rfl

theorem reportBlind_fatal : ReportBlind Tile.fatal where
  recorder _ _ := rfl
  isolated _ _ := rfl
  isoBanks _ _ := rfl
  regs _ _ _ _ := rfl

theorem tcc_reportFatal (s : State) (lt : Nat) (u : UnitId) (software : Bool) (detail x : Nat) :
    ((reportFatal s lt u software detail).tile x).tcc = (s.tile x).tcc :=
  (reportBlind_tcc.reportFatal (fun _ => rfl) s lt u software detail).tile x

theorem sameMemory_reportFatal (s : State) (lt : Nat) (u : UnitId) (software : Bool) (detail : Nat) :
    sameMemory s (reportFatal s lt u software detail) :=
  (accessBlind_mem.toReportBlind.reportFatal (fun _ => rfl) s lt u software detail).sameMemory

/-- A FATAL error is due to the tile in which it is reported. -/
theorem fatal_reportFatal (s : State) (lt : Nat) (u : UnitId) (software : Bool) (detail : Nat) :
    ((reportFatal s lt u software detail).tile lt).fatal = true := by
  have hlast : ∀ t : State, Kept Tile.fatal t (startEpoch (isolateTile t lt)) := fun t =>
    (reportBlind_fatal.isolateTile t lt).trans (reportBlind_fatal.startEpoch _)
  unfold reportFatal
  exact ((hlast _).tile lt).trans (by rw [State.tile_modTile_self])

/-! ### The fields of TILE_TRAP_CAUSE -/

theorem lvNum_lt (l : Level) : lvNum l < 4 := by
  cases l <;> decide

theorem causeWord_fields {code : Nat} (st : Status) (l : Level) (intr : Bool) (hcode : code < 64) :
    fld (causeWord code st l intr) 5 0 = code ∧ fld (causeWord code st l intr) 15 8 = st.toNat ∧
      fld (causeWord code st l intr) 17 16 = lvNum l ∧ bit (causeWord code st l intr) 63 = intr := by
  have hst : st.toNat < 256 := st.isLt
  have hl := lvNum_lt l
  have hintr : b2n intr ≤ 1 := by cases intr <;> decide
  have hval : (causeWord code st l intr).toNat = code + st.toNat * 2 ^ 8 + lvNum l * 2 ^ 16 + b2n intr * 2 ^ 63 := by
    rw [causeWord, BitVec.toNat_ofNat, Nat.mod_eq_of_lt hcode, Nat.mod_eq_of_lt (by omega)]
  refine ⟨?_, ?_, ?_, ?_⟩
  · rw [fld, hval]
    omega
  · rw [fld, hval]
    omega
  · rw [fld, hval]
    omega
  · have hdiv : (code + st.toNat * 2 ^ 8 + lvNum l * 2 ^ 16 + b2n intr * 2 ^ 63) / 2 ^ 63 % 2 = b2n intr := by omega
    rw [bit, BitVec.getLsbD, hval, Nat.testBit_eq_decide_div_mod_eq, hdiv]
    cases intr <;> rfl

/-! ### Retirement on the TCC -/

theorem tile_jumped_tcc (s : State) (lt : Nat) (pc : DWord) :
    ((jumped lt .tcc pc s).tile lt).tcc = { (s.tile lt).tcc with pc := pc, retired := (s.tile lt).tcc.retired + 1 } := by
  simp [jumped, countRetired, setPc, endWait, bumpCnt]

/-- `eret` outside a handler of active messages. -/
theorem exec_eret_of_issues {s : State} {lt : Nat} {rd rs1 rs2 : BitVec 5} (hissues : issues s lt .tcc 4 ⟨true, false, .s, true⟩ = true)
    (hin : inHandler (fetched s lt .tcc 4) lt = false) :
    exec (.eret lt .tcc rd rs1 rs2) s = .next (jumped lt .tcc (pcOf (modTcc (fetched s lt .tcc 4) lt leaveTrap) lt .tcc)
      (modTcc (fetched s lt .tcc 4) lt leaveTrap)) := by
  refine (insn_of_issues _ _ hissues).trans ?_
  simp only [hin, Bool.false_eq_true, if_false]
  rfl

/-- Settles O18: one trap entry for each route, and the return that undoes it. -/
theorem trapAndReturn : Obligations.TrapAndReturn := by
  refine ⟨?_, fun code st l intr hcode => causeWord_fields st l intr hcode, ?_⟩
  · intro s lt cause st v t u toS
    refine ⟨fun hto htrap => ?_, fun hto htrap hm => ?_, fun hto hm => ?_, fun hto hm => ?_, ?_⟩
    · simp only [u, tccTrap_toS st v hto htrap, tcc_modTcc_self]
      rfl
    · simp only [u, tccTrap_nested st v hto htrap hm, tcc_modTcc_self, BitVec.ofNat_toNat]
      rfl
    · simp only [u, tccTrap_toM st (some v) hto hm, tcc_modTcc_self]
      rfl
    · simp only [u, tccTrap_fatal st v hto hm, tcc_reportFatal, tcc_modTcc_self]
      exact ⟨rfl, fatal_reportFatal _ lt _ true _⟩
    · exact sameMemory_tccTrap s lt cause st (some v)
  · intro s lt rd rs1 rs2 hissues f t hin
    refine ⟨_, exec_eret_of_issues hissues hin, sameMemory_trans (sameMemory_modTcc f lt leaveTrap) (sameMemory_jumped _ lt .tcc _), ?_, ?_⟩
    · intro hprv
      rw [tile_jumped_tcc, pcOf, tcc_modTcc_self, leaveTrap, if_neg (by rw [hprv]; decide)]
    · intro hprv
      rw [tile_jumped_tcc, pcOf, tcc_modTcc_self, leaveTrap, if_pos hprv]

/-! ### Traps of lane cores -/

/-- A lane core's trap leaves its wait and writes the fault record of its core (R113). -/
theorem lane_coreTrap (s : State) (lt n k : Nat) (cause : Cause) (st : Status) (info : Option DWord) (slice : Nat) :
    ((coreTrap s lt (.lane n) cause st info slice).tile lt).lane k =
      if k ∈ coreLanes (s.tile lt) n then
        { (s.tile lt).lane k with
          st := .fault, wait := none
          frec := if k = leadLane (s.tile lt) n
            then ⟨cause, st, BitVec.ofNat 4 slice, true, ((s.tile lt).lane k).pc, laneInfo (endWait s lt (.lane n)) cause info⟩
            else ((s.tile lt).lane k).frec }
      else (s.tile lt).lane k := by
  have hend : ∀ x, ((endWait s lt (.lane n)).tile x).lanes = (s.tile x).lanes := State.tile_modTile_keeps Tile.lanes rfl
  have hregs : ((endWait s lt (.lane n)).tile lt).regs = (s.tile lt).regs := State.tile_modTile_keeps Tile.regs rfl lt
  have hmode := cluster_of_regs hregs
  have hdrawn : ∀ t : State, (if info.isNone then t.drawn else t).tile lt = t.tile lt := fun t => by split <;> rfl
  have hlane : ((endWait s lt (.lane n)).tile lt).lane k = (s.tile lt).lane k := by rw [Tile.lane, hend, Tile.lane]
  rw [coreTrap, laneFault, hdrawn, coreLanes_of_cluster hmode, leadLane_of_cluster hmode, lane_modLanes (nodup_coreLanes _ _), hdrawn, hlane]
  simp only [true_and]

theorem tcc_coreTrap_lane (s : State) (lt n : Nat) (cause : Cause) (st : Status) (info : Option DWord) (slice : Nat) :
    ((coreTrap s lt (.lane n) cause st info slice).tile lt).tcc = (s.tile lt).tcc := by
  have hend : ((endWait s lt (.lane n)).tile lt).tcc = (s.tile lt).tcc := State.tile_modTile_keeps Tile.tcc rfl lt
  have hdrawn : ∀ t : State, (if info.isNone then t.drawn else t).tile lt = t.tile lt := fun t => by split <;> rfl
  rw [coreTrap, laneFault]
  exact (tile_modLanes_keeps Tile.tcc (fun _ _ => rfl) _ lt _ _ lt).trans (by rw [hdrawn, hend])

/-! ### Machine check -/

theorem retireWfi_of_not_waiting {s : State} {lt : Nat} (h : (s.tile lt).tcc.wait ≠ some .interrupt) : retireWfi s lt = s := if_neg h

/-- MACHINE_CHECK on a live tile whose FATAL error is due (R111). -/
theorem exec_machineCheck_of_fatal {s : State} {lt : Nat} (hlt : lt < 1320) (hissue : canIssue s lt .tcc = true)
    (hfatal : (s.tile lt).fatal = true) :
    exec (.machineCheck ⟨lt, none⟩) s =
      .next (tccTrap (endWait (retireWfi (s.modTile lt fun t => { t with fatal := false }) lt) lt .tcc) lt causeMachine stOk none) := by
  rw [show exec (.machineCheck ⟨lt, none⟩) s = execMachineCheck ⟨lt, none⟩ s from rfl, execMachineCheck, onTile_of_lt hlt]
  simp only [tccLive, hissue, hfatal, Bool.and_self, if_true, takeFirst, Option.getD_some]

/-- Settles O19: each of them ends in the trap of its cause. -/
theorem trapInstructions : Obligations.TrapInstructions := by
  refine ⟨?_, ?_, ?_, ?_, ?_⟩
  · intro s lt c rd rs1 rs2 hissues f
    refine (insn_of_issues _ _ hissues).trans ?_
    cases levelAt f lt c with
    | u => rfl
    | s => rfl
    | m => rfl
  · intro s lt c rd rs1 rs2 hissues
    exact insn_of_issues _ _ hissues
  · intro s lt c w0 w1 hissues hlen hreserved
    have hshort : (if fld w0 1 0 == 3 then 8 else 4) = 4 := by rw [beq_eq_false_iff_ne.mpr hlen]; rfl
    rw [show exec (.reservedOpcode lt c w0 w1) s = execReservedOpcode lt c w0 w1 s from rfl, execReservedOpcode, if_pos hreserved, illegalWord,
      hshort, insn_of_issues _ _ hissues]
    rfl
  · intro s lt n cause st info hn t u
    have hlane : ∀ k, u.lane k = _ := fun k => lane_coreTrap s lt n k cause st info 0
    have hlead := leadLane_mem_coreLanes t n
    refine ⟨fun m hm => ?_, ?_, ?_, ?_, ?_, fun m hm => ?_, ?_⟩
    · rw [hlane, if_pos hm]
      exact ⟨rfl, rfl, rfl, rfl⟩
    · rw [hlane, if_pos hlead]
      simp [t]
    · rw [hlane, if_pos hlead]
      simp [t]
    · rw [hlane, if_pos hlead]
      simp [t]
    · rw [hlane, if_pos hlead]
      simp [t]
    · rw [hlane, if_neg hm]
    · exact tcc_coreTrap_lane s lt n cause st info 0
  · intro s lt hlt hissue hfatal htrap hroute hwait
    obtain ⟨u, hu⟩ : ∃ u, u = endWait (s.modTile lt fun t => { t with fatal := false }) lt .tcc := ⟨_, rfl⟩
    have htcc : (u.tile lt).tcc = (s.tile lt).tcc := by
      rw [hu]
      simp [endWait]
    have hoff : (u.tile lt).fatal = false := by
      rw [hu]
      simp [endWait]
    have hmem : sameMemory s u := by
      rw [hu]
      exact (Kept.trans (Kept.modTile _ rfl) (Kept.modTile _ rfl) : Kept Tile.mem s _).sameMemory
    have hto : ¬ TrapsToS (u.tile lt).tcc causeMachine := by
      rw [htcc]
      rintro ⟨-, hbit⟩
      exact absurd (hroute.symm.trans hbit) (by decide)
    have hexec : exec (.machineCheck ⟨lt, none⟩) s = .next (tccTrap u lt causeMachine stOk none) := by
      rw [exec_machineCheck_of_fatal hlt hissue hfatal, retireWfi_of_not_waiting (by simpa using hwait), ← hu]
    rw [tccTrap_toM stOk none hto (htcc ▸ htrap)] at hexec
    refine ⟨_, hexec, ?_, ?_, ?_, ?_, ?_, ?_, ?_⟩
    · rw [tile_modTcc_keeps Tile.fatal fun _ _ => rfl]
      exact hoff
    · rw [tcc_modTcc_self]
      rfl
    · rw [tcc_modTcc_self, ← htcc]
      rfl
    · rw [tcc_modTcc_self]
      exact (causeWord_fields stOk _ false (by decide)).1
    · rw [tcc_modTcc_self, ← htcc]
      rfl
    · rw [tcc_modTcc_self, ← htcc]
      rfl
    · exact sameMemory_trans hmem (sameMemory_trans (sameMemory_of_tiles rfl) (sameMemory_modTcc _ lt _))

end Sys2Proof.Machine
end

section
/-!
O20 and O21: which interrupt is taken and how, and the system instructions that go on.
-/
namespace Sys2Proof.Machine

open Sys2Proof

/-! ### The order of interrupts -/

/-- What a search finds stands before everything else that it could have found. -/
theorem find?_first {α : Type} {R : α → α → Prop} {p : α → Bool} {l : List α} {i j : α} (hl : l.Pairwise R) (hi : l.find? p = some i)
    (hj : j ∈ l) (hp : p j = true) : i = j ∨ R i j := by
  induction l with
  | nil => cases hj
  | cons a r ih =>
    obtain ⟨hhead, htail⟩ := List.pairwise_cons.mp hl
    rw [List.find?_cons] at hi
    split at hi
    · cases hi
      exact (List.mem_cons.mp hj).imp Eq.symm (hhead j)
    · next hno =>
      refine ih htail hi ((List.mem_cons.mp hj).resolve_left ?_)
      rintro rfl
      exact absurd hp (by simp [hno])

/-- PRE goes first, the others in increasing number (R112). -/
theorem intOrder_pairwise : intOrder.Pairwise fun i j => i = 14 ∨ (j ≠ 14 ∧ i ≤ j) := by
  decide

theorem mem_intOrder {i : Nat} : i ∈ intOrder ↔ i < 16 := by
  constructor
  · revert i
    decide
  · intro h
    revert i
    decide

theorem find?_intOrder {p : Nat → Bool} {i : Nat} (h : intOrder.find? p = some i) :
    i < 16 ∧ p i = true ∧ ∀ j < 16, p j = true → i = 14 ∨ (j ≠ 14 ∧ i ≤ j) := by
  refine ⟨mem_intOrder.mp (List.mem_of_find?_eq_some h), List.find?_some h, fun j hj hp => ?_⟩
  rcases find?_first intOrder_pairwise h (mem_intOrder.mpr hj) hp with rfl | horder
  · by_cases h14 : i = 14
    · exact Or.inl h14
    · exact Or.inr ⟨h14, le_rfl⟩
  · exact horder

theorem intTakable_iff (s : State) (lt i : Nat) : intTakable s lt i = true ↔
    (intPending s lt i = true ∧ bit (s.tile lt).tcc.intEn i = true ∧ ¬ (i = 9 ∧ amNext s lt = true ∧ s.tbit lt regChAmStatus 0 = true) ∧
      (if bit (s.tile lt).tcc.route (32 + i) then (s.tile lt).tcc.prv = .u ∨ ((s.tile lt).tcc.prv = .s ∧ (s.tile lt).tcc.ieS = true)
       else (s.tile lt).tcc.prv ≠ .m ∨ (s.tile lt).tcc.ieM = true)) := by
  have hlevel : (if intToS (s.tile lt).tcc i then (s.tile lt).tcc.prv == .u || ((s.tile lt).tcc.prv == .s && (s.tile lt).tcc.ieS)
      else (s.tile lt).tcc.prv != .m || (s.tile lt).tcc.ieM) = true ↔
      (if bit (s.tile lt).tcc.route (32 + i) then (s.tile lt).tcc.prv = .u ∨ ((s.tile lt).tcc.prv = .s ∧ (s.tile lt).tcc.ieS = true)
       else (s.tile lt).tcc.prv ≠ .m ∨ (s.tile lt).tcc.ieM = true) := by
    rw [intToS]
    split
    · simp
    · simp
  have ham : (!(i == 9 && amNext s lt && s.tbit lt regChAmStatus 0)) = true ↔ ¬ (i = 9 ∧ amNext s lt = true ∧ s.tbit lt regChAmStatus 0 = true) := by
    rw [Bool.not_eq_true', ← Bool.not_eq_true, Bool.and_eq_true, Bool.and_eq_true, beq_iff_eq, and_assoc]
  rw [intTakable, Bool.and_eq_true, Bool.and_eq_true, Bool.and_eq_true, hlevel, ham, and_assoc, and_assoc]

/-- The interrupt to take: one routed to M where there is one (R112). -/
theorem intToTake_spec {s : State} {lt i : Nat} (h : intToTake s lt = some i) : i < 16 ∧ intTakable s lt i = true ∧
    ∀ j, j < 16 → intTakable s lt j = true →
      (bit (s.tile lt).tcc.route (32 + i) = true → bit (s.tile lt).tcc.route (32 + j) = true) ∧
      (bit (s.tile lt).tcc.route (32 + i) = bit (s.tile lt).tcc.route (32 + j) → i = 14 ∨ (j ≠ 14 ∧ i ≤ j)) := by
  unfold intToTake at h
  split at h
  · next k hm =>
    cases h
    obtain ⟨hlt, hp, hfirst⟩ := find?_intOrder hm
    obtain ⟨htake, hroute⟩ := Bool.and_eq_true_iff.mp hp
    have hzero : bit (s.tile lt).tcc.route (32 + i) = false := (Bool.not_eq_true' _).mp hroute
    refine ⟨hlt, htake, fun j hj hjt => ⟨fun hone => ?_, fun hsame => hfirst j hj ?_⟩⟩
    · exact absurd (hzero.symm.trans hone) Bool.false_ne_true
    · rw [intToS, ← hsame, hjt, hzero]
      rfl
  · next hm =>
    obtain ⟨hlt, hp, hfirst⟩ := find?_intOrder h
    obtain ⟨htake, hroute⟩ := Bool.and_eq_true_iff.mp hp
    have hall : ∀ j < 16, intTakable s lt j = true → bit (s.tile lt).tcc.route (32 + j) = true := fun j hj hjt => by
      have hno := List.find?_eq_none.mp hm j (mem_intOrder.mpr hj)
      simpa [hjt, intToS] using hno
    refine ⟨hlt, htake, fun j hj hjt => ⟨fun _ => hall j hj hjt, fun _ => hfirst j hj ?_⟩⟩
    rw [intToS, hjt, hall j hj hjt]
    rfl

/-! ### The entry -/

/-- TAKE_INTERRUPT on a tile of the module. -/
theorem exec_takeInterrupt {s : State} {lt : Nat} (hlt : lt < 1320) :
    exec (.takeInterrupt lt) s = .next (if tccLive s lt then (takeFirst s lt).getD s else s) := onTile_of_lt hlt s _

theorem takeFirst_of_not_fatal {s : State} {lt : Nat} (hfatal : (s.tile lt).fatal = false) (hregion : regionState s (regionOf s lt) ≠ 3) :
    takeFirst s lt = (intToTake s lt).map (interruptEntry s lt) := by
  rw [takeFirst, if_neg (by rw [hfatal]; decide), if_neg hregion]

/-- The TCC after a `wfi` that waits has retired (17, R422). -/
def wfiRetired (c : Tcc) : Tcc := if c.wait = some .interrupt then { c with wait := none, pc := c.pc + 4, retired := c.retired + 1 } else c

theorem tcc_retireWfi (s : State) (lt : Nat) : ((endWait (retireWfi s lt) lt .tcc).tile lt).tcc = wfiRetired (s.tile lt).tcc := by
  rw [endWait, State.tile_modTile_self, retireWfi, wfiRetired]
  split
  · simp [countRetired, setPc, setWait, bumpCnt, pcOf]
  · rfl

theorem kept_retireWfi (s : State) (lt : Nat) : Kept Tile.mem s (endWait (retireWfi s lt) lt .tcc) := by
  have hretire : Kept Tile.mem s (retireWfi s lt) := by
    unfold retireWfi
    split
    · exact ((Kept.setWait s lt (fun _ _ => rfl) (fun _ _ _ => rfl) .tcc none).trans
        (Kept.setPc _ lt (fun _ _ => rfl) (fun _ _ _ => rfl) .tcc _)).trans
        (Kept.countRetired _ lt (fun _ _ => rfl) (fun _ _ => rfl) (fun _ _ _ => rfl) .tcc)
    · exact Kept.refl Tile.mem s
  exact hretire.trans (Kept.endWait _ lt (fun _ _ => rfl) .tcc)

theorem sameMemory_retireWfi (s : State) (lt : Nat) : sameMemory s (endWait (retireWfi s lt) lt .tcc) := (kept_retireWfi s lt).sameMemory

/-- The trap of an interrupt, to an observation that does not see the requests that an entry consumes. -/
theorem kept_interruptEntry {β : Type} {o : Tile → β} (hpre : ∀ t, o { t with preReq := false, preStop := true } = o t)
    (hstudy : ∀ t, o { t with studyInt := false } = o t) (hpwr : ∀ t, o { t with pwrNotice := false } = o t)
    (hmail : ∀ t, o { t with mailbox := false } = o t) {s : State} {lt i : Nat} (hi : i ≠ 9) :
    Kept o (takeInterrupt (endWait (retireWfi s lt) lt .tcc) lt i) (interruptEntry s lt i) := by
  unfold interruptEntry
  dsimp only
  rw [if_neg (fun h => hi h.1)]
  split
  · exact Kept.modTile _ (hpre _)
  · split
    · exact Kept.modTile _ (hstudy _)
    · split
      · exact Kept.modTile _ (hpwr _)
      · split
        · exact Kept.modTile _ (hmail _)
        · exact Kept.refl o _

/-- The entry of an interrupt that is no active message: the trap steps of R110 on the TCC. -/
theorem tcc_interruptEntry {s : State} {lt i : Nat} (hi : i ≠ 9) : ∃ info, ((interruptEntry s lt i).tile lt).tcc =
    enterTrap (wfiRetired (s.tile lt).tcc) (!intToS (wfiRetired (s.tile lt).tcc) i) (wfiRetired (s.tile lt).tcc).pc
      (causeWord i stOk (wfiRetired (s.tile lt).tcc).prv true) info
      (if !intToS (wfiRetired (s.tile lt).tcc) i then (wfiRetired (s.tile lt).tcc).tm.base else (wfiRetired (s.tile lt).tcc).ts.base) := by
  refine ⟨(endWait (retireWfi s lt) lt .tcc).freeWord, ?_⟩
  rw [(kept_interruptEntry (o := Tile.tcc) (fun _ => rfl) (fun _ => rfl) (fun _ => rfl) (fun _ => rfl) hi).tile lt, takeInterrupt, tcc_modTcc_self, tile_drawn, tcc_retireWfi]

theorem sameMemory_interruptEntry {s : State} {lt i : Nat} (hi : i ≠ 9) : sameMemory s (interruptEntry s lt i) := by
  have htake : sameMemory (endWait (retireWfi s lt) lt .tcc) (takeInterrupt (endWait (retireWfi s lt) lt .tcc) lt i) :=
    sameMemory_trans (sameMemory_of_tiles rfl) (sameMemory_modTcc _ lt _)
  exact sameMemory_trans (sameMemory_trans (sameMemory_retireWfi s lt) htake)
    (kept_interruptEntry (o := Tile.mem) (fun _ => rfl) (fun _ => rfl) (fun _ => rfl) (fun _ => rfl) hi).sameMemory

/-- A pre-emption takes its request and stops the lane cores (R116). -/
theorem preempted_interruptEntry (s : State) (lt : Nat) :
    ((interruptEntry s lt 14).tile lt).preReq = false ∧ ((interruptEntry s lt 14).tile lt).preStop = true := by
  rw [interruptEntry]
  dsimp only
  rw [if_neg (fun h => absurd h.1 (by decide)), if_pos rfl, State.tile_modTile_self]
  exact ⟨rfl, rfl⟩

/-- The parts of a TCC that the retirement of a `wfi` leaves. -/
theorem wfiRetired_keeps {β : Type} (o : Tcc → β) (ho : ∀ c w p r, o { c with wait := w, pc := p, retired := r } = o c) (c : Tcc) :
    o (wfiRetired c) = o c := by
  unfold wfiRetired
  split
  · exact ho c _ _ _
  · rfl

theorem pc_wfiRetired (c : Tcc) : (wfiRetired c).pc = if c.wait = some .interrupt then c.pc + 4 else c.pc := by
  unfold wfiRetired
  split
  · rfl
  · rfl

/-- Settles O20: the order of R112, and the trap entry for what it chooses. -/
theorem interruptEntry_spec : Obligations.InterruptEntry := by
  refine ⟨intTakable_iff, fun s lt i h => intToTake_spec h, ?_, ?_, ?_, ?_⟩
  · intro s lt i hlt hissue hfatal hregion htake hi c back x
    have hexec : exec (.takeInterrupt lt) s = .next (interruptEntry s lt i) := by
      rw [exec_takeInterrupt hlt, tccLive, if_pos hissue, takeFirst_of_not_fatal hfatal hregion, htake, Option.map_some, Option.getD_some]
    obtain ⟨info, htcc⟩ := tcc_interruptEntry (s := s) (lt := lt) hi
    have hroute : intToS (wfiRetired c) i = bit c.route (32 + i) := by
      rw [intToS, wfiRetired_keeps Tcc.route fun _ _ _ _ => rfl]
    have hprv : (wfiRetired c).prv = c.prv := wfiRetired_keeps Tcc.prv (fun _ _ _ _ => rfl) c
    have hpc : (wfiRetired c).pc = back := pc_wfiRetired c
    have hts : (wfiRetired c).ts = c.ts := wfiRetired_keeps Tcc.ts (fun _ _ _ _ => rfl) c
    have htm : (wfiRetired c).tm = c.tm := wfiRetired_keeps Tcc.tm (fun _ _ _ _ => rfl) c
    have hieS : (wfiRetired c).ieS = c.ieS := wfiRetired_keeps Tcc.ieS (fun _ _ _ _ => rfl) c
    have hieM : (wfiRetired c).ieM = c.ieM := wfiRetired_keeps Tcc.ieM (fun _ _ _ _ => rfl) c
    have hg : (wfiRetired c).g = c.g := wfiRetired_keeps Tcc.g (fun _ _ _ _ => rfl) c
    rw [hroute, hprv, hpc, hts, htm] at htcc
    refine ⟨_, hexec, sameMemory_interruptEntry hi, fun hx => ?_, fun hx => ?_, ?_, ?_, fun hw => ?_⟩
    · have hbit : bit c.route (32 + i) = false := by simpa [x] using hx
      rw [htcc, hbit]
      exact ⟨rfl, rfl, rfl, rfl, hprv, hieM, rfl, rfl⟩
    · have hbit : bit c.route (32 + i) = true := by simpa [x] using hx
      rw [htcc, hbit]
      exact ⟨rfl, rfl, rfl, rfl, hprv, hieS, rfl, rfl⟩
    · rintro rfl
      exact preempted_interruptEntry s lt
    · rw [htcc, enterTrap]
      split
      · exact hg
      · exact hg
    · have hret : (wfiRetired c).retired = c.retired + 1 := by rw [wfiRetired, if_pos hw]
      rw [htcc, enterTrap]
      split
      · exact hret
      · exact hret
  · intro s lt hlt hfatal htake
    have hnone : takeFirst s lt = none := by
      rw [takeFirst, if_neg (by rw [hfatal]; decide), htake, Option.map_none, ite_self]
    rw [exec_takeInterrupt hlt, hnone, Option.getD_none, ite_self]
  · intro s lt hlt hissue hfatal
    rw [exec_takeInterrupt hlt, exec_machineCheck_of_fatal hlt hissue hfatal, tccLive, if_pos hissue, takeFirst, if_pos hfatal, Option.getD_some]
  · intro s lt hlt
    rw [show exec (.tileTimerExpire lt) s = execTileTimerExpire lt s from rfl, execTileTimerExpire, onTile_of_lt hlt]
    have hcmp : (s.tile lt).tcc.timer.toNat < 2 ^ 48 := (s.tile lt).tcc.timer.isLt
    have hpending : ∀ n, (s.tile lt).tcc.timer.toNat ≤ n % 2 ^ 48 → intPending { s with aon := n } lt 2 = true := fun n hn => decide_eq_true hn
    refine ⟨_, rfl, ?_, ?_, ?_⟩
    · dsimp only
      split
      · exact hpending _ (by omega)
      · exact hpending s.aon (by omega)
    · dsimp only
      split
      · dsimp only
        omega
      · exact le_rfl
    · dsimp only
      split
      · rfl
      · rfl

/-! ### System instructions -/

theorem slotOfHandle_gen {s : State} {lt h : Nat} {x : Slot} (hx : slotOfHandle s lt h = some x) :
    ((s.tile lt).slot ((h / 2 ^ 8) % 16) (h % 256)).gen.toNat = (h / 2 ^ 12) % 256 := by
  rw [slotOfHandle] at hx
  split at hx
  · next hok => exact hok.2.2.2
  · cases hx

/-- The instructions on an item, by what the handle names (R106). -/
theorem exec_item_of_some {s : State} {lt : Nat} {rd rs1 rs2 : BitVec 5} {x : Slot} (hissues : issues s lt .tcc 4 tccNoAm = true)
    (hx : slotOfHandle (fetched s lt .tcc 4) lt (gRead (fetched s lt .tcc 4) lt .tcc rs1).toNat = some x) :
    exec (.itemWait lt .tcc rd rs1 rs2) s = .next (if x.busy
      then setWait (fetched s lt .tcc 4) lt .tcc (some (.item (gRead (fetched s lt .tcc 4) lt .tcc rs1).toNat))
      else retired lt .tcc 4 (gWrite (fetched s lt .tcc 4) lt .tcc rd (x.crec.status.setWidth 64))) ∧
    exec (.itemPoll lt .tcc rd rs1 rs2) s = .next (retired lt .tcc 4 (gWrite (fetched s lt .tcc 4) lt .tcc rd
      (if x.busy then BitVec.allOnes 64 else x.crec.status.setWidth 64))) := by
  constructor
  · refine (insn_of_issues _ _ hissues).trans ?_
    simp only [hx]
    split
    · rfl
    · rfl
  · refine (insn_of_issues _ _ hissues).trans ?_
    simp only [hx]
    rfl

theorem exec_item_of_none {s : State} {lt : Nat} {rd rs1 rs2 : BitVec 5} (hissues : issues s lt .tcc 4 tccNoAm = true)
    (hx : slotOfHandle (fetched s lt .tcc 4) lt (gRead (fetched s lt .tcc 4) lt .tcc rs1).toNat = none) :
    (∃ word, exec (.itemWait lt .tcc rd rs1 rs2) s = .next (coreTrap (fetched s lt .tcc 4) lt .tcc causeOperand stOk (some word) 0)) ∧
    ∃ word, exec (.itemPoll lt .tcc rd rs1 rs2) s = .next (coreTrap (fetched s lt .tcc 4) lt .tcc causeOperand stOk (some word) 0) := by
  constructor
  · refine ⟨(sysWord rd rs1 rs2 7).setWidth 64, (insn_of_issues _ _ hissues).trans ?_⟩
    simp only [hx]
    rfl
  · refine ⟨(sysWord rd rs1 rs2 8).setWidth 64, (insn_of_issues _ _ hissues).trans ?_⟩
    simp only [hx]
    rfl

theorem mem_tlbInv {l : List TlbEnt} {va : Nat} {e : TlbEnt} : e ∈ l.filter (fun e => !tlbMaps va e) ↔ e ∈ l ∧ tlbMaps va e = false := by
  rw [List.mem_filter, Bool.not_eq_true']

/-- The state with the entries that `tlb.inv` removes taken out of a tile's TLB (R304). -/
def tlbInvalidated (s : State) (lt : Nat) (rs1 : BitVec 5) (va : Nat) : State :=
  s.modTile lt fun t => { t with tlb := if rs1 = 0 then [] else t.tlb.filter fun e => !tlbMaps va e }

theorem exec_tlbInv_of_issues {s : State} {lt : Nat} {rd rs1 rs2 : BitVec 5} (hissues : issues s lt .tcc 4 ⟨true, false, .s, false⟩ = true) :
    exec (.tlbInv lt .tcc rd rs1 rs2) s = .next (retired lt .tcc 4
      (tlbInvalidated (fetched s lt .tcc 4) lt rs1 (gRead (fetched s lt .tcc 4) lt .tcc rs1).toNat)) := insn_of_issues _ _ hissues

theorem sameMemory_tlbInvalidated (s : State) (lt : Nat) (rs1 : BitVec 5) (va : Nat) : sameMemory s (tlbInvalidated s lt rs1 va) :=
  (Kept.modTile _ rfl : Kept Tile.mem s _).sameMemory

theorem tlb_jumped_tlbInvalidated (s : State) (lt : Nat) (rs1 : BitVec 5) (va : Nat) (pc : DWord) :
    ((jumped lt .tcc pc (tlbInvalidated s lt rs1 va)).tile lt).tlb = if rs1 = 0 then [] else (s.tile lt).tlb.filter fun e => !tlbMaps va e := by
  have hjump : ∀ u : State, Kept Tile.tlb u (jumped lt .tcc pc u) := fun u =>
    Kept.jumped u lt (fun _ _ => rfl) (fun _ _ => rfl) (fun _ _ _ => rfl) (fun _ _ _ _ => rfl) .tcc pc
  rw [(hjump _).tile lt, tlbInvalidated, State.tile_modTile_self]

/-- `stop` ends issue on the lane cores of its core alone (R130). -/
theorem st_stopped (s : State) (lt n m : Nat) (pc : DWord) :
    (((jumped lt (.lane n) pc (modLanes s lt (coreLanes (s.tile lt) n) fun _ l => { l with st := .stopped })).tile lt).lane m).st =
      if m ∈ coreLanes (s.tile lt) n then .stopped else ((s.tile lt).lane m).st := by
  have hjump : ∀ u : State, Kept (eachLane LaneCore.st) u (jumped lt (.lane n) pc u) := fun u =>
    Kept.jumped u lt (fun _ _ => rfl) (fun _ _ => rfl) (fun _ _ _ => rfl) (fun t n p r => eachLane_kvSet rfl) (.lane n) pc
  refine (congrFun ((hjump _).tile lt) m).trans ?_
  rw [eachLane, lane_modLanes (nodup_coreLanes _ _)]
  simp only [true_and]
  split
  · rfl
  · rfl

/-- Settles O21: each of them completes or waits as its body says. -/
theorem systemInstructions : Obligations.SystemInstructions := by
  refine ⟨?_, ?_, ?_, ?_⟩
  · intro s lt c rd rs1 rs2
    refine ⟨fun hissues => insn_of_issues _ _ hissues, fun hissues => (insn_of_issues _ _ hissues).trans ?_⟩
    cases c with
    | tcc => rfl
    | lane n => rfl
  · intro s lt rd rs1 rs2 hissues f
    refine ⟨insn_of_issues _ _ hissues, _, exec_tlbInv_of_issues hissues, ?_, fun hr => ?_, fun hr e => ?_⟩
    · exact sameMemory_trans (sameMemory_tlbInvalidated f lt rs1 _) (sameMemory_jumped _ lt .tcc _)
    · rw [retired_eq_jumped, tlb_jumped_tlbInvalidated, if_pos hr]
    · rw [retired_eq_jumped, tlb_jumped_tlbInvalidated, if_neg hr]
      exact mem_tlbInv
  · intro s lt rd rs1 rs2 hissues f h
    refine ⟨fun x hx => ?_, fun hx i hi => ?_, fun x hx => slotOfHandle_gen hx⟩
    · obtain ⟨hwait, hpoll⟩ := exec_item_of_some (rd := rd) (rs2 := rs2) hissues hx
      refine ⟨fun hbusy => ?_, fun hbusy => ?_⟩
      · rw [hwait, hpoll, hbusy, BitVec.ofNat_toNat]
        exact ⟨rfl, rfl⟩
      · rw [hwait, hpoll, hbusy]
        exact ⟨rfl, rfl⟩
    · obtain ⟨hwait, hpoll⟩ := exec_item_of_none (rd := rd) (rs2 := rs2) hissues hx
      rcases List.mem_cons.mp hi with rfl | hi
      · exact hwait
      · rw [List.mem_singleton.mp hi]
        exact hpoll
  · intro s lt n rd rs1 rs2 hissues f
    refine ⟨_, insn_of_issues _ _ hissues, ?_, fun m hm => ?_, fun m hm => ?_⟩
    · have hstop : sameMemory f (modLanes f lt (coreLanes (f.tile lt) n) fun _ l => { l with st := .stopped }) := fun x a => by
        rw [tile_modLanes_keeps Tile.mem fun _ _ => rfl]
      exact sameMemory_trans hstop (sameMemory_jumped _ lt (.lane n) _)
    · exact (st_stopped f lt n m _).trans (if_pos hm)
    · exact (st_stopped f lt n m _).trans (if_neg hm)

end Sys2Proof.Machine
end

section
/-!
O17: the CSR instructions, and what a CSR holds after a write.
-/
namespace Sys2Proof.Machine

open Sys2Proof

/-! ### The instructions -/

/-- What may run inside a handler of active messages may run outside of one. -/
theorem issues_anyCore_of_noAm {s : State} {lt : Nat} {c : CoreId} (h : issues s lt c 4 anyCoreNoAm = true) : issues s lt c 4 anyCore = true := by
  simp only [issues, anyCoreNoAm, anyCore, Bool.and_eq_true, Bool.or_true, Bool.or_false] at h ⊢
  tauto

/-- Where a CSR instruction may run: a handler of active messages may only read (R297). -/
theorem issues_csr {s : State} {lt : Nat} {c : CoreId} (fn : Nat) (h : issues s lt c 4 anyCoreNoAm = true) :
    issues s lt c 4 ⟨true, true, .u, fn == 0⟩ = true := by
  cases hfn : fn == 0 with
  | true => exact issues_anyCore_of_noAm h
  | false => exact h

section Csr
variable {s : State} {lt : Nat} {c : CoreId} {rd rs1 : BitVec 5} {csr : BitVec 12} {fn : Nat} (f : DWord → DWord → DWord) {writes : Bool}
  {old : DWord} (hissues : issues s lt c 4 ⟨true, true, .u, fn == 0⟩ = true)
include hissues

theorem csrInsn_of_none (hnone : csrValue (fetched s lt c 4) lt c csr.toNat = none) :
    csrInsn fn f writes lt c rd rs1 csr s =
      .next (coreTrap (fetched s lt c 4) lt c causeIllegal stOk (some ((wordC 0x17 rd rs1 fn csr).setWidth 64)) 0) := by
  rw [csrInsn, insn_of_issues _ _ hissues]
  simp only [hnone]
  rfl

variable (hold : csrValue (fetched s lt c 4) lt c csr.toNat = some old)
include hold

theorem csrInsn_of_low (hlevel : lvNum (levelAt (fetched s lt c 4) lt c) < lvNum (csrLevel csr.toNat)) :
    csrInsn fn f writes lt c rd rs1 csr s =
      .next (coreTrap (fetched s lt c 4) lt c causePriv stOk (some ((wordC 0x17 rd rs1 fn csr).setWidth 64)) 0) := by
  have hlv : lvAtLeast (levelAt (fetched s lt c 4) lt c) (csrLevel csr.toNat) = false := decide_eq_false (by omega)
  rw [csrInsn, insn_of_issues _ _ hissues]
  simp only [hold, hlv, Bool.not_false, if_true]
  rfl

variable (hlevel : lvNum (csrLevel csr.toNat) ≤ lvNum (levelAt (fetched s lt c 4) lt c))
include hlevel

theorem csrInsn_of_readOnly (hwrites : writes = true) (hro : bit csr 9 = true) :
    csrInsn fn f writes lt c rd rs1 csr s =
      .next (coreTrap (fetched s lt c 4) lt c causeIllegal stOk (some ((wordC 0x17 rd rs1 fn csr).setWidth 64)) 0) := by
  have hlv : lvAtLeast (levelAt (fetched s lt c 4) lt c) (csrLevel csr.toNat) = true := decide_eq_true hlevel
  rw [csrInsn, insn_of_issues _ _ hissues]
  simp only [hold, hlv, hwrites, hro, Bool.not_true, Bool.false_eq_true, if_false, Bool.and_self, if_true]
  rfl

theorem csrInsn_of_access (hro : writes = true → bit csr 9 = false) :
    csrInsn fn f writes lt c rd rs1 csr s = .next (retired lt c 4 (gWrite (if writes
      then csrUpdate (fetched s lt c 4) lt c csr.toNat old (fun v => f v (gRead (fetched s lt c 4) lt c rs1)) else fetched s lt c 4) lt c rd old)) := by
  have hlv : lvAtLeast (levelAt (fetched s lt c 4) lt c) (csrLevel csr.toNat) = true := decide_eq_true hlevel
  have hok : (writes && bit csr 9) = false := by
    cases hw : writes with
    | true => exact hro hw
    | false => rfl
  rw [csrInsn, insn_of_issues _ _ hissues]
  simp only [hold, hlv, hok, Bool.not_true, Bool.false_eq_true, if_false]
  rfl

end Csr

/-- A function of a CSR's value is stored as that value, but in the copies of LC_FCSR. -/
theorem csrUpdate_eq_store (s : State) (lt : Nat) {c : CoreId} {num : Nat} (h : c = .tcc ∨ num ≠ 0) (old : DWord) (f : DWord → DWord) :
    csrUpdate s lt c num old f = csrStore s lt c num (f old) := by
  unfold csrUpdate
  split
  · rcases h with h | h
    · cases h
    · exact absurd rfl h
  · rfl

/-- The same value for every copy. -/
theorem csrUpdate_const (s : State) (lt : Nat) (c : CoreId) (num : Nat) (old a : DWord) :
    csrUpdate s lt c num old (fun _ => a) = csrStore s lt c num a := by
  unfold csrUpdate
  split
  · rfl
  · rfl

/-- LC_FCSR of each lane core of a core: the function of its own value, of which bits [2:0] and [8:4] stay. -/
theorem fcsr_csrUpdate (s : State) (lt n m : Nat) (old : DWord) (f : DWord → DWord) (hm : m ∈ coreLanes (s.tile lt) n) :
    (((csrUpdate s lt (.lane n) 0 old f).tile lt).lane m).fcsr = (f (((s.tile lt).lane m).fcsr.setWidth 64)).setWidth 32 &&& 0x1F7 := by
  rw [csrUpdate, lane_modLanes (nodup_coreLanes _ _), if_pos ⟨rfl, hm⟩]
  rfl

theorem sameMemory_csrStore (s : State) (lt : Nat) (c : CoreId) (num : Nat) (v : DWord) : sameMemory s (csrStore s lt c num v) := by
  cases c with
  | tcc => exact sameMemory_modTcc s lt _
  | lane n => exact (Kept.modLanes s lt (o := Tile.mem) fun _ _ => rfl).sameMemory

theorem sameMemory_csrUpdate (s : State) (lt n : Nat) (old : DWord) (f : DWord → DWord) :
    sameMemory s (csrUpdate s lt (.lane n) 0 old f) := (Kept.modLanes s lt (o := Tile.mem) fun _ _ => rfl).sameMemory

/-- What a lane core's LC_FCSR holds once the instruction has completed. -/
theorem fcsr_retired_gWrite (s : State) (lt n m : Nat) (rd : BitVec 5) (v : DWord) :
    (((retired lt (.lane n) 4 (gWrite s lt (.lane n) rd v)).tile lt).lane m).fcsr = ((s.tile lt).lane m).fcsr := by
  have hjump : ∀ (u : State) pc, Kept (eachLane LaneCore.fcsr) u (jumped lt (.lane n) pc u) := fun u pc =>
    Kept.jumped u lt (fun _ _ => rfl) (fun _ _ => rfl) (fun _ _ _ => rfl) (fun t n p r => eachLane_kvSet rfl) (.lane n) pc
  refine (congrFun ((hjump _ _).tile lt) m).trans ?_
  exact lane_gWrite_keeps LaneCore.fcsr (fun _ _ => rfl) s lt (.lane n) rd v lt m

/-- A lane core's CSR has 32 bits. -/
theorem setWidth_csrValue {s : State} {lt n num : Nat} {old : DWord} (h : csrValue s lt (.lane n) num = some old) :
    (old.setWidth 32).setWidth 64 = old := by
  obtain ⟨w, -, rfl⟩ := Option.map_eq_some_iff.mp h
  rw [BitVec.setWidth_setWidth_of_le w (by decide), BitVec.setWidth_eq]

/-- The end of `csr.set` and `csr.clr` on LC_FCSR of the lane cores of a core. -/
theorem csr_fcsr_done {f : State} {lt n : Nat} {rd : BitVec 5} {old : DWord} (hold : csrValue f lt (.lane n) 0 = some old)
    (g : DWord → DWord) (t : State) (ht : t = retired lt (.lane n) 4 (gWrite (csrUpdate f lt (.lane n) 0 old g) lt (.lane n) rd old)) :
    sameMemory f t ∧ (rd ≠ 0 → gRead t lt (.lane n) rd = old) ∧
      ∀ m ∈ coreLanes (f.tile lt) n, ((t.tile lt).lane m).fcsr = (g (((f.tile lt).lane m).fcsr.setWidth 64)).setWidth 32 &&& 0x1F7 := by
  subst ht
  refine ⟨?_, fun hrd => ?_, fun m hm => ?_⟩
  · exact sameMemory_trans (sameMemory_trans (sameMemory_csrUpdate f lt n old g) (sameMemory_gWrite _ lt _ rd old)) (sameMemory_jumped _ lt _ _)
  · rw [retired_eq_jumped, gRead_jumped, gRead_gWrite_same _ _ _ hrd]
    exact setWidth_csrValue hold
  · rw [fcsr_retired_gWrite, fcsr_csrUpdate f lt n m old g hm]

/-! ### A CSR after a write -/

theorem csrOfTcc_csrStore (s : State) (lt num : Nat) (v : DWord) {o : Tcc → DWord} (hread : ∀ u : State, csrOfTcc u lt num = some (o (u.tile lt).tcc)) :
    csrOfTcc (csrStore s lt .tcc num v) lt num = some (o (csrWriteTcc (s.tile lt).tcc num v)) := by
  rw [hread, csrStore, tcc_modTcc_self]

/-- What TILE_ROUTE keeps (R109). -/
theorem bit_routeMask (v : DWord) {i : Nat} (hi : i < 64) : bit (v &&& routeMask) i =
    (bit v i && decide (i < 48) && !decide (i = 0x0D ∨ i = 0x0E ∨ (0x10 ≤ i ∧ i ≤ 0x1F) ∨ i = 33 ∨ i = 44 ∨ i = 45 ∨ i = 46)) := by
  have hmask : ∀ j : Fin 64, bit routeMask j =
      (decide (j.val < 48) && !decide (j.val = 0x0D ∨ j.val = 0x0E ∨ (0x10 ≤ j.val ∧ j.val ≤ 0x1F) ∨ j.val = 33 ∨ j.val = 44 ∨ j.val = 45 ∨ j.val = 46)) := by
    decide
  rw [bit_and, hmask ⟨i, hi⟩, Bool.and_assoc]

theorem levelOf_fld {v : DWord} (h : fld v 9 8 < 3) : lvNum (storedLevel (fld v 9 8)) = fld v 9 8 := by
  have hcases : ∀ k < 3, lvNum (storedLevel k) = k := by decide
  exact hcases _ h

/-- A lane core's register after a CSR write that reaches it. -/
theorem lane_csrStore (s : State) (lt n num : Nat) (v : DWord) :
    ((csrStore s lt (.lane n) num v).tile lt).lane (leadLane (s.tile lt) n) =
      csrWriteLane ((s.tile lt).lane (leadLane (s.tile lt) n)) num (v.setWidth 32) := by
  rw [csrStore, lane_modLanes (nodup_coreLanes _ _), if_pos ⟨rfl, leadLane_mem_coreLanes _ n⟩]

section Instructions
variable {s : State} {lt : Nat} {c : CoreId} {rd rs1 : BitVec 5} {csr : BitVec 12} {old : DWord} (hissues : issues s lt c 4 anyCoreNoAm = true)
include hissues

theorem exec_csr_of_none (hnone : csrValue (fetched s lt c 4) lt c csr.toNat = none) :
    ∀ i ∈ [Instr.csrR lt c rd rs1 csr, .csrW lt c rd rs1 csr, .csrSet lt c rd rs1 csr, .csrClr lt c rd rs1 csr],
      ∃ word, exec i s = .next (coreTrap (fetched s lt c 4) lt c causeIllegal stOk (some word) 0) := by
  intro i hi
  simp only [List.mem_cons, List.not_mem_nil, or_false] at hi
  rcases hi with rfl | rfl | rfl | rfl
  · exact ⟨_, csrInsn_of_none (fun old _ => old) (issues_csr 0 hissues) hnone⟩
  · exact ⟨_, csrInsn_of_none (fun _ a => a) (issues_csr 1 hissues) hnone⟩
  · exact ⟨_, csrInsn_of_none (fun old a => old ||| a) (issues_csr 2 hissues) hnone⟩
  · exact ⟨_, csrInsn_of_none (fun old a => old &&& ~~~a) (issues_csr 3 hissues) hnone⟩

variable (hold : csrValue (fetched s lt c 4) lt c csr.toNat = some old)
include hold

theorem exec_csr_of_low (hlevel : lvNum (levelAt (fetched s lt c 4) lt c) < lvNum (csrLevel csr.toNat)) :
    ∀ i ∈ [Instr.csrR lt c rd rs1 csr, .csrW lt c rd rs1 csr, .csrSet lt c rd rs1 csr, .csrClr lt c rd rs1 csr],
      ∃ word, exec i s = .next (coreTrap (fetched s lt c 4) lt c causePriv stOk (some word) 0) := by
  intro i hi
  simp only [List.mem_cons, List.not_mem_nil, or_false] at hi
  rcases hi with rfl | rfl | rfl | rfl
  · exact ⟨_, csrInsn_of_low (fun old _ => old) (issues_csr 0 hissues) hold hlevel⟩
  · exact ⟨_, csrInsn_of_low (fun _ a => a) (issues_csr 1 hissues) hold hlevel⟩
  · exact ⟨_, csrInsn_of_low (fun old a => old ||| a) (issues_csr 2 hissues) hold hlevel⟩
  · exact ⟨_, csrInsn_of_low (fun old a => old &&& ~~~a) (issues_csr 3 hissues) hold hlevel⟩

variable (hlevel : lvNum (csrLevel csr.toNat) ≤ lvNum (levelAt (fetched s lt c 4) lt c))
include hlevel

theorem exec_csrW (hrw : bit csr 9 = false) :
    exec (.csrW lt c rd rs1 csr) s =
      .next (retired lt c 4 (gWrite (csrStore (fetched s lt c 4) lt c csr.toNat (gRead (fetched s lt c 4) lt c rs1)) lt c rd old)) := by
  refine (csrInsn_of_access (fun _ a => a) (issues_csr 1 hissues) hold hlevel fun _ => hrw).trans ?_
  rw [if_pos rfl, csrUpdate_const]

theorem exec_csrSet (hrw : bit csr 9 = false) (hrs1 : rs1 ≠ 0) :
    exec (.csrSet lt c rd rs1 csr) s = .next (retired lt c 4 (gWrite (csrUpdate (fetched s lt c 4) lt c csr.toNat old
      fun v => v ||| gRead (fetched s lt c 4) lt c rs1) lt c rd old)) := by
  refine (csrInsn_of_access (fun old a => old ||| a) (issues_csr 2 hissues) hold hlevel fun _ => hrw).trans ?_
  rw [if_pos (bne_iff_ne.mpr hrs1)]

theorem exec_csrClr (hrw : bit csr 9 = false) (hrs1 : rs1 ≠ 0) :
    exec (.csrClr lt c rd rs1 csr) s = .next (retired lt c 4 (gWrite (csrUpdate (fetched s lt c 4) lt c csr.toNat old
      fun v => v &&& ~~~(gRead (fetched s lt c 4) lt c rs1)) lt c rd old)) := by
  refine (csrInsn_of_access (fun old a => old &&& ~~~a) (issues_csr 3 hissues) hold hlevel fun _ => hrw).trans ?_
  rw [if_pos (bne_iff_ne.mpr hrs1)]

/-- With g0 nothing is written. -/
theorem exec_csrSet_zero (hrs1 : rs1 = 0) :
    exec (.csrSet lt c rd rs1 csr) s = .next (retired lt c 4 (gWrite (fetched s lt c 4) lt c rd old)) ∧
    exec (.csrClr lt c rd rs1 csr) s = .next (retired lt c 4 (gWrite (fetched s lt c 4) lt c rd old)) := by
  subst hrs1
  exact ⟨csrInsn_of_access (fun old a => old ||| a) (issues_csr 2 hissues) hold hlevel (fun h => nomatch h),
    csrInsn_of_access (fun old a => old &&& ~~~a) (issues_csr 3 hissues) hold hlevel (fun h => nomatch h)⟩

end Instructions

/-- A TILE_STATE write leaves the level and the traps, and from S all that is M's (R109). -/
theorem writeTileState_spec (t : Tcc) (v : DWord) :
    let u := writeTileState t v
    u.prv = t.prv ∧ u.trapS = t.trapS ∧ u.trapM = t.trapM ∧ u.ieS = bit v 2 ∧ u.pieS = bit v 6 ∧
      (t.prv = .s → u.ieM = t.ieM ∧ u.pprvM = t.pprvM ∧ u.pieM = t.pieM ∧ u.xlat = t.xlat) ∧
      (t.prv = .m → u.ieM = bit v 3 ∧ u.pieM = bit v 10 ∧ u.xlat = bit v 13 ∧ (fld v 9 8 < 3 → lvNum u.pprvM = fld v 9 8)) := by
  dsimp only
  rw [writeTileState]
  split
  · next hm => exact ⟨rfl, rfl, rfl, rfl, rfl, fun hs => absurd (hm.symm.trans hs) (by decide), fun _ => ⟨rfl, rfl, rfl, levelOf_fld⟩⟩
  · next hm => exact ⟨rfl, rfl, rfl, rfl, rfl, fun _ => ⟨rfl, rfl, rfl, rfl⟩, fun h => absurd h hm⟩

/-- Settles O17: the refusals in the model's order, the value that is written, and what each register stores of it. -/
theorem csrResult : Obligations.CsrResult := by
  refine ⟨?_, ?_, ?_, ?_, ?_⟩
  · intro s lt c rd rs1 csr old hissues hold hlevel
    exact csrInsn_of_access (fn := 0) (fun old _ => old) hissues hold hlevel (fun h => nomatch h)
  · intro s lt c rd rs1 csr hissues f a tr
    refine ⟨fun old hold => ⟨fun hlevel => ⟨fun hrw => ⟨exec_csrW hissues hold hlevel hrw, fun hrs1 hc => ?_, fun n hc hcsr hrs1 => ?_⟩,
      exec_csrSet_zero hissues hold hlevel, fun hro => ⟨?_, fun hrs1 => ⟨?_, ?_⟩⟩⟩, exec_csr_of_low hissues hold⟩, exec_csr_of_none hissues⟩
    · have hnum : c = .tcc ∨ csr.toNat ≠ 0 := hc.imp_right fun h e => h (BitVec.eq_of_toNat_eq e)
      rw [exec_csrSet hissues hold hlevel hrw hrs1, exec_csrClr hissues hold hlevel hrw hrs1, csrUpdate_eq_store _ _ hnum, csrUpdate_eq_store _ _ hnum]
      exact ⟨rfl, rfl⟩
    · subst hc hcsr
      have hset := csr_fcsr_done (rd := rd) hold (fun v => v ||| a) _ rfl
      have hclr := csr_fcsr_done (rd := rd) hold (fun v => v &&& ~~~a) _ rfl
      refine ⟨⟨_, exec_csrSet hissues hold hlevel hrw hrs1, hset.1, hset.2.1, fun m hm => ?_⟩,
        _, exec_csrClr hissues hold hlevel hrw hrs1, hclr.1, hclr.2.1, fun m hm => ?_⟩
      · refine (hset.2.2 m hm).trans ?_
        rw [BitVec.setWidth_or, BitVec.setWidth_setWidth_of_le _ (by decide), BitVec.setWidth_eq]
      · refine (hclr.2.2 m hm).trans ?_
        rw [BitVec.setWidth_and, BitVec.setWidth_setWidth_of_le _ (by decide), BitVec.setWidth_eq, BitVec.setWidth_not (by decide)]
    · exact ⟨_, csrInsn_of_readOnly (fun _ a => a) (issues_csr 1 hissues) hold hlevel rfl hro⟩
    · exact ⟨_, csrInsn_of_readOnly (fun old a => old ||| a) (issues_csr 2 hissues) hold hlevel (bne_iff_ne.mpr hrs1) hro⟩
    · exact ⟨_, csrInsn_of_readOnly (fun old a => old &&& ~~~a) (issues_csr 3 hissues) hold hlevel (bne_iff_ne.mpr hrs1) hro⟩
  · intro s lt v hprv
    refine ⟨fun n hn => ?_, fun n hn => ?_, ?_, _, csrOfTcc_csrStore s lt 0xC06 v (o := Tcc.route) (fun _ => rfl), fun i hi => bit_routeMask v hi⟩
    · rw [setFld_low_two]
      simp only [List.mem_cons, List.not_mem_nil, or_false] at hn
      rcases hn with rfl | rfl
      · exact csrOfTcc_csrStore s lt _ v (o := fun t => t.ts.base) fun _ => rfl
      · exact csrOfTcc_csrStore s lt _ v (o := fun t => t.tm.base) fun _ => rfl
    · simp only [List.mem_cons, List.not_mem_nil, or_false] at hn
      rcases hn with rfl | rfl | rfl | rfl | rfl | rfl
      · exact csrOfTcc_csrStore s lt _ v (o := fun t => t.ts.pc) fun _ => rfl
      · exact csrOfTcc_csrStore s lt _ v (o := fun t => t.ts.info) fun _ => rfl
      · exact csrOfTcc_csrStore s lt _ v (o := fun t => t.ts.save) fun _ => rfl
      · exact csrOfTcc_csrStore s lt _ v (o := fun t => t.tm.pc) fun _ => rfl
      · exact csrOfTcc_csrStore s lt _ v (o := fun t => t.tm.info) fun _ => rfl
      · exact csrOfTcc_csrStore s lt _ v (o := fun t => t.tm.save) fun _ => rfl
    · refine (csrOfTcc_csrStore s lt 0x408 v (o := fun t => t.timer.setWidth 64) fun _ => rfl).trans (congrArg some (BitVec.eq_of_toNat_eq ?_))
      show ((v.setWidth 48).setWidth 64).toNat = _
      rw [BitVec.toNat_setWidth, BitVec.toNat_setWidth, BitVec.toNat_ofNat]
  · intro s lt v t u
    have hu : u = writeTileState t v := by
      simp only [u, csrStore, tcc_modTcc_self]
      rfl
    rw [hu]
    exact writeTileState_spec t v
  · intro s lt n v hn w l o
    have hl : ∀ m, l m = csrWriteLane o m w := fun m => lane_csrStore s lt n m v
    have hw : w.toNat < 2 ^ 32 := w.isLt
    have ho : o.srIndex.toNat < 2 ^ 64 := o.srIndex.isLt
    rw [hl, hl, hl, hl]
    refine ⟨rfl, rfl, ?_, ?_⟩
    · rw [show (csrWriteLane o 0x002 w).srIndex = BitVec.ofNat 64 (o.srIndex.toNat / 2 ^ 32 * 2 ^ 32 + w.toNat) from rfl, BitVec.toNat_ofNat]
      omega
    · rw [show (csrWriteLane o 0x003 w).srIndex = BitVec.ofNat 64 (o.srIndex.toNat % 2 ^ 32 + w.toNat * 2 ^ 32) from rfl, BitVec.toNat_ofNat]
      omega

end Sys2Proof.Machine
end

section
/-!
SUPPORT. Vector registers and their lanes: what a vector instruction writes, slice by slice, and what it leaves.
-/
namespace Sys2Proof.Machine

open Sys2Proof

/-! ### Lanes of a register -/

/-- A lane of `w` bits as a number. -/
theorem toNat_laneAt (w : Nat) (x : VWord) (i : Nat) : (Obl.laneAt w x i).toNat = x.toNat / 2 ^ (w * i) % 2 ^ w := by
  rw [Obl.laneAt, BitVec.extractLsb'_toNat, Nat.shiftRight_eq_div_pow]

theorem nfld_lane {w : Nat} (hw : 0 < w) (x : VWord) (i : Nat) : nfld x.toNat (w * i + w - 1) (w * i) = (Obl.laneAt w x i).toNat := by
  rw [nfld, toNat_laneAt, show w * i + w - 1 + 1 - w * i = w by omega]

theorem lanesOf_eq {w : Nat} (hw : 0 < w) (x : VWord) : lanesOf w x = (List.range (128 / w)).map fun i => (Obl.laneAt w x i).toNat :=
  List.map_congr_left fun i _ => nfld_lane hw x i

theorem getD_lanesOf {w : Nat} (hw : 0 < w) (x : VWord) {i : Nat} (hi : i < 128 / w) : (lanesOf w x).getD i 0 = (Obl.laneAt w x i).toNat := by
  rw [lanesOf_eq hw]
  simp [hi]

@[simp] theorem length_lanesOf (w : Nat) (x : VWord) : (lanesOf w x).length = 128 / w := by
  rw [lanesOf, List.length_map, List.length_range]

/-- The number that lanes of `w` bits make. -/
def packed (w : Nat) (xs : List Nat) : Nat := xs.foldr (fun x a => x % 2 ^ w + a * 2 ^ w) 0

theorem packed_cons (w x : Nat) (xs : List Nat) : packed w (x :: xs) = x % 2 ^ w + packed w xs * 2 ^ w := rfl

theorem packed_digit (w : Nat) (xs : List Nat) (i : Nat) : packed w xs / 2 ^ (w * i) % 2 ^ w = xs.getD i 0 % 2 ^ w := by
  induction xs generalizing i with
  | nil => simp [packed]
  | cons x r ih =>
    rw [packed_cons]
    cases i with
    | zero => simp
    | succ i =>
      have hlow : (x % 2 ^ w + packed w r * 2 ^ w) / 2 ^ w = packed w r := by
        rw [Nat.add_mul_div_right _ _ (Nat.two_pow_pos w), Nat.div_eq_of_lt (Nat.mod_lt _ (Nat.two_pow_pos w)), Nat.zero_add]
      rw [Nat.mul_succ, Nat.add_comm (w * i), Nat.pow_add, ← Nat.div_div_eq_div_mul, hlow, ih, List.getD_cons_succ]

theorem packed_lt (w : Nat) (xs : List Nat) : packed w xs < 2 ^ (w * xs.length) := by
  induction xs with
  | nil => simp [packed]
  | cons x r ih =>
    have hx : x % 2 ^ w < 2 ^ w := Nat.mod_lt _ (Nat.two_pow_pos w)
    have hrest : (packed w r + 1) * 2 ^ w ≤ 2 ^ (w * r.length) * 2 ^ w := Nat.mul_le_mul_right _ ih
    rw [Nat.succ_mul] at hrest
    rw [packed_cons, List.length_cons, Nat.mul_succ, Nat.pow_add]
    omega

/-- A lane of a register made of lanes. -/
theorem laneAt_ofLanes {w i : Nat} (h : w * i + w ≤ 128) (xs : List Nat) : Obl.laneAt w (ofLanes w xs) i = BitVec.ofNat w (xs.getD i 0) := by
  apply BitVec.eq_of_toNat_eq
  have hsplit : 128 = w * i + (w + (128 - (w * i + w))) := by omega
  rw [toNat_laneAt, BitVec.toNat_ofNat, ← packed_digit w xs i, ofLanes, BitVec.toNat_ofNat, ← packed, hsplit, Nat.pow_add, Nat.mod_mul_right_div_self,
    Nat.pow_add, Nat.mod_mul_right_mod]

/-- A register made of few lanes has zeros above. -/
theorem toNat_ofLanes_lt (w : Nat) (xs : List Nat) : (ofLanes w xs).toNat < 2 ^ (w * xs.length) := by
  rw [ofLanes, BitVec.toNat_ofNat]
  exact lt_of_le_of_lt (Nat.mod_le _ _) (packed_lt w xs)

/-- The lane of a function of two registers' lanes. -/
theorem getD_zipWith_lanesOf {w : Nat} (hw : 0 < w) (g : Nat → Nat → Nat) (x y : VWord) {i : Nat} (hi : i < 128 / w) :
    (List.zipWith g (lanesOf w x) (lanesOf w y)).getD i 0 = g (Obl.laneAt w x i).toNat (Obl.laneAt w y i).toNat := by
  rw [lanesOf_eq hw, lanesOf_eq hw]
  simp [hi]

theorem lane_within {w i : Nat} (hi : i < 128 / w) : w * i + w ≤ 128 := by
  rw [← Nat.mul_succ]
  exact (Nat.mul_le_mul_left w hi).trans (Nat.mul_div_le 128 w)

/-! ### Writes of vector registers -/

theorem vGet_vSet (s : State) (lt n : Nat) (r : BitVec 5) (x : VWord) (y k : Nat) (r' : BitVec 5) :
    vGet (vSet s lt n r x) y k r' = if y = lt ∧ k = n ∧ r' = r then x else vGet s y k r' := by
  rw [vGet, vSet, tile_modLane]
  by_cases hy : y = lt
  · subst hy
    rw [if_pos rfl, Tile.lane, kvGet_kvSet]
    by_cases hk : k = n
    · subst hk
      rw [if_pos rfl]
      by_cases hr : r' = r
      · subst hr
        simp
      · have hne : r.toNat ≠ r'.toNat := fun e => hr (BitVec.eq_of_toNat_eq e.symm)
        simp only [hr, and_false, if_false]
        exact Vector.getElem_set_ne _ _ hne
    · simp only [hk, false_and, and_false, if_false]
      rfl
  · simp only [hy, false_and, if_false]
    rfl

/-- Writes to the slices of a list, one after the other, each of a value that the slice's number gives; `π` is the state of the accumulator. -/
theorem vGet_foldl {σ : Type} (π : σ → State) {g : σ → Nat → σ} {lt : Nat} {hit : BitVec 5 → Bool} {val : Nat → BitVec 5 → VWord}
    (hg : ∀ a j y k r, vGet (π (g a j)) y k r = if y = lt ∧ k = j ∧ hit r = true then val j r else vGet (π a) y k r) (ls : List Nat) (a : σ)
    (y k : Nat) (r : BitVec 5) :
    vGet (π (ls.foldl g a)) y k r = if y = lt ∧ k ∈ ls ∧ hit r = true then val k r else vGet (π a) y k r := by
  induction ls generalizing a with
  | nil => simp
  | cons j ns ih =>
    rw [List.foldl_cons, ih, hg]
    by_cases hy : y = lt
    · by_cases hr : hit r = true
      · by_cases hk : k ∈ ns
        · simp [hy, hr, hk]
        · by_cases hj : k = j
          · simp [hy, hr, hj]
          · simp [hk, hj]
      · simp [hr]
    · simp [hy]

/-- Every active slice takes its value. -/
theorem vGet_eachSlice (s : State) (lt : Nat) (ls : List Nat) (vd : BitVec 5) (f : Nat → VWord) (y k : Nat) (r : BitVec 5) :
    vGet (eachSlice s lt ls vd f) y k r = if y = lt ∧ k ∈ ls ∧ r = vd then f k else vGet s y k r := by
  have h := vGet_foldl (fun u => u) (g := fun st j => vSet st lt j vd (f j)) (lt := lt) (hit := fun r => decide (r = vd)) (val := fun j _ => f j)
    (fun s j y k r => by simp only [vGet_vSet, decide_eq_true_eq]) ls s y k r
  simp only [decide_eq_true_eq] at h
  exact h

/-! ### What a vector instruction leaves -/

/-- From `s` to `t` the vector registers of a tile changed at most in the slices `ls`, in the registers of `hit`; general registers, program
counters and memory stayed. -/
structure VecKept (lt : Nat) (ls : List Nat) (hit : BitVec 5 → Bool) (s t : State) : Prop where
  vectors : ∀ y k r, ¬ (y = lt ∧ k ∈ ls ∧ hit r = true) → vGet t y k r = vGet s y k r
  general : Kept generalRegs s t
  counters : Kept programCounters s t
  memory : Kept Tile.mem s t

section VecKept
variable {lt : Nat} {ls : List Nat} {hit : BitVec 5 → Bool}

theorem VecKept.refl (s : State) : VecKept lt ls hit s s := ⟨fun _ _ _ _ => rfl, Kept.refl _ s, Kept.refl _ s, Kept.refl _ s⟩

theorem VecKept.trans {s t u : State} (h : VecKept lt ls hit s t) (k : VecKept lt ls hit t u) : VecKept lt ls hit s u :=
  ⟨fun y j r hn => (k.vectors y j r hn).trans (h.vectors y j r hn), h.general.trans k.general, h.counters.trans k.counters,
    h.memory.trans k.memory⟩

theorem VecKept.foldl {σ : Type} (π : σ → State) {g : σ → Nat → σ} (hg : ∀ a, ∀ j ∈ ls, VecKept lt ls hit (π a) (π (g a j))) (a : σ) :
    VecKept lt ls hit (π a) (π (ls.foldl g a)) := by
  have hpart : ∀ ns : List Nat, (∀ j ∈ ns, j ∈ ls) → ∀ a, VecKept lt ls hit (π a) (π (ns.foldl g a)) := fun ns => by
    induction ns with
    | nil => exact fun _ a => VecKept.refl (π a)
    | cons j r ih =>
      exact fun hns a => (hg a j (hns j List.mem_cons_self)).trans (ih (fun k hk => hns k (List.mem_cons_of_mem j hk)) (g a j))
  exact hpart ls (fun _ h => h) a

/-- A change of a lane core that leaves its registers and its pc. -/
theorem VecKept.modLane (s : State) (n : Nat) {f : LaneCore → LaneCore} (hg : ∀ l, (f l).g = l.g) (hpc : ∀ l, (f l).pc = l.pc)
    (hv : ∀ y k r, ¬ (y = lt ∧ k ∈ ls ∧ hit r = true) → vGet (modLane s lt n f) y k r = vGet s y k r) :
    VecKept lt ls hit s (modLane s lt n f) where
  vectors := hv
  general := Kept.modLane s lt fun t => generalRegs_lanes t (hg _)
  counters := Kept.modLane s lt fun t => programCounters_lanes t (hpc _)
  memory := Kept.modLane s lt fun _ => rfl

theorem VecKept.vSet {n : Nat} {r : BitVec 5} (hn : n ∈ ls) (hr : hit r = true) (s : State) (x : VWord) : VecKept lt ls hit s (vSet s lt n r x) := by
  refine VecKept.modLane s n (fun _ => rfl) (fun _ => rfl) fun y k r' hno => ?_
  refine (vGet_vSet s lt n r x y k r').trans (if_neg ?_)
  rintro ⟨hy, rfl, rfl⟩
  exact hno ⟨hy, hn, hr⟩

/-- An observation of lane cores that a change of one does not touch. -/
theorem lane_modLane_keeps {β : Type} (o : LaneCore → β) {f : LaneCore → LaneCore} (ho : ∀ l, o (f l) = o l) (s : State) (lt n y k : Nat) :
    o (((Machine.modLane s lt n f).tile y).lane k) = o ((s.tile y).lane k) :=
  lane_modLanes_keeps o (f := fun _ => f) (fun _ => ho) s lt [n] y k

theorem vGet_addFlags (s : State) (n : Nat) (x : FpFlags) (y k : Nat) (r : BitVec 5) : vGet (addFlags s lt n x) y k r = vGet s y k r :=
  lane_modLane_keeps (fun l => l.v[r.toNat]'r.isLt) (f := fun l => { l with fcsr := fcsrWith l.fcsr x }) (fun _ => rfl) s lt n y k

theorem VecKept.addFlags (s : State) (n : Nat) (x : FpFlags) : VecKept lt ls hit s (addFlags s lt n x) :=
  VecKept.modLane s n (fun _ => rfl) (fun _ => rfl) fun y k r _ => vGet_addFlags s n x y k r

theorem vGet_of_lanes {s t : State} {y k : Nat} (h : (t.tile y).lanes = (s.tile y).lanes) (r : BitVec 5) : vGet t y k r = vGet s y k r := by
  rw [vGet, Tile.lane, h, vGet, Tile.lane]

theorem VecKept.bumpCnt (s : State) (n k : Nat) : VecKept lt ls hit s (bumpCnt s lt n k) where
  vectors y _ r _ := vGet_of_lanes (State.tile_modTile_keeps Tile.lanes rfl y) r
  general := accessBlind_generalRegs.bumpCnt s lt n k
  counters := accessBlind_programCounters.bumpCnt s lt n k
  memory := accessBlind_mem.bumpCnt s lt n k

theorem VecKept.advanceSr (s : State) (n k : Nat) : VecKept lt ls hit s (advanceSr s lt n k) where
  vectors y j r _ := lane_modLanes_keeps (fun l => l.v[r.toNat]'r.isLt) (f := fun _ l => { l with srIndex := l.srIndex + BitVec.ofNat 64 k })
    (fun _ _ => rfl) s lt _ y j
  general := Kept.modLanes s lt fun t _ => generalRegs_lanes t rfl
  counters := Kept.modLanes s lt fun t _ => programCounters_lanes t rfl
  memory := Kept.modLanes s lt fun _ _ => rfl

theorem VecKept.eachSlice (s : State) {vd : BitVec 5} (hvd : hit vd = true) (f : Nat → VWord) : VecKept lt ls hit s (eachSlice s lt ls vd f) :=
  VecKept.foldl (fun u => u) (fun s j hj => VecKept.vSet hj hvd s (f j)) s

end VecKept

/-- An instruction's end leaves the vector registers. -/
theorem vGet_jumped (s : State) (lt : Nat) (c : CoreId) (pc : DWord) (y k : Nat) (r : BitVec 5) : vGet (jumped lt c pc s) y k r = vGet s y k r :=
  congrFun ((Kept.jumped s lt (o := eachLane fun l => l.v[r.toNat]'r.isLt) (fun _ _ => rfl) (fun _ _ => rfl) (fun _ _ _ => rfl)
    (fun _ _ _ _ => eachLane_kvSet rfl) c pc).tile y) k

/-- The end of a vector instruction that wrote one register of its active slices. -/
theorem vecFrame_retired {lt n : Nat} {ls : List Nat} {vd : BitVec 5} {f s : State} (h : VecKept lt ls (fun r => decide (r = vd)) f s) :
    Obl.vecFrame lt n ls vd f (retired lt (.lane n) 4 s) := by
  refine ⟨fun y k r hno => ?_, fun y c r => ?_, ?_, ?_⟩
  · rw [retired_eq_jumped, vGet_jumped]
    exact h.vectors y k r (by simpa using hno)
  · rw [retired_eq_jumped, gRead_jumped, gRead_of_kept h.general]
  · exact sameMemory_trans h.memory.sameMemory (sameMemory_jumped s lt _ _)
  · rw [retired_eq_jumped, pcOf_jumped_same, pcOf_setPc_same, pcOf_of_kept h.counters]
    rfl

end Sys2Proof.Machine
end

section
/-!
O25: integer vectors and comparisons, and the slices that vector instructions act on.
-/
namespace Sys2Proof.Machine

open Sys2Proof

/-! ### Active slices -/

theorem activeLanes_grid {t : Tile} (hmode : t.cluster = false) (n : Nat) (lcnt : BitVec 4) :
    activeLanes t n lcnt.toNat = if lcnt = 0 then some [n] else none := by
  rw [activeLanes, coreLanes, hmode]
  by_cases h : lcnt = 0
  · rw [h]
    rfl
  · have hne : lcnt.toNat ≠ 0 := fun e => h (BitVec.eq_of_toNat_eq e)
    rw [if_neg hne, if_neg h]
    rfl

theorem activeLanes_cluster {t : Tile} (hmode : t.cluster = true) (n : Nat) (lcnt : BitVec 4) :
    activeLanes t n lcnt.toNat = some ((List.range (if lcnt = 0 then 16 else lcnt.toNat)).map fun j => 16 * (n / 16) + j) := by
  rw [activeLanes, coreLanes, hmode]
  by_cases h : lcnt = 0
  · rw [h]
    rfl
  · have hne : lcnt.toNat ≠ 0 := fun e => h (BitVec.eq_of_toNat_eq e)
    have hle : min lcnt.toNat 16 = lcnt.toNat := Nat.min_eq_left (by have := lcnt.isLt; omega)
    simp only [if_true, h, hne, if_false, ← List.map_take, List.take_range, hle]

theorem vinsn_of_none {s : State} {lt n : Nat} {lcnt : BitVec 4} (word : Word) (body : State → Nat → List Nat → InsnOut)
    (hissues : issues s lt (.lane n) 4 laneOnly = true) (hls : activeLanes ((fetched s lt (.lane n) 4).tile lt) n lcnt.toNat = none) :
    vinsn lt (.lane n) word lcnt body s =
      .next (coreTrap (fetched s lt (.lane n) 4) lt (.lane n) causeIllegal stOk (some (word.setWidth 64)) 0) := by
  rw [vinsn, insn_of_issues _ _ hissues, laneNo, hls]
  rfl

/-! ### Integer vectors -/

section Vi
variable {s : State} {lt n : Nat} {vd vs1 vs2 : BitVec 5} {fmt : BitVec 2} {lcnt : BitVec 4} {ls : List Nat} {op w : Nat}

/-- What a `vi` instruction writes to its active slices. -/
def viWritten (op w : Nat) (s : State) (lt : Nat) (ls : List Nat) (vd vs1 vs2 : BitVec 5) : State :=
  eachSlice s lt ls vd fun j => ofLanes w (List.zipWith (viLane op w) (lanesOf w (vGet s lt j vs1)) (lanesOf w (vGet s lt j vs2)))

theorem vi_of_issues (hissues : issues s lt (.lane n) 4 laneOnly = true)
    (hls : activeLanes ((fetched s lt (.lane n) 4).tile lt) n lcnt.toNat = some ls) (hw : viWidth fmt.toNat = some w) :
    vi op lt (.lane n) vd vs1 vs2 fmt lcnt s = .next (retired lt (.lane n) 4
      (bumpCnt (viWritten op w (fetched s lt (.lane n) 4) lt ls vd vs1 vs2) lt 9 (128 / w * ls.length))) := by
  rw [vi, vinsn_of_issues _ _ hissues hls]
  simp only [hw]
  rfl

theorem laneAt_vi (hw : 0 < w) (k : Nat) {g : (w : Nat) → BitVec w → BitVec w → BitVec w}
    (hop : ∀ a b : BitVec w, BitVec.ofNat w (viLane op w a.toNat b.toNat) = g w a b) (pc : DWord) {j i : Nat} (hj : j ∈ ls) (hi : i < 128 / w) :
    Obl.laneAt w (vGet (jumped lt (.lane n) pc (bumpCnt (viWritten op w s lt ls vd vs1 vs2) lt 9 k)) lt j vd) i =
      g w (Obl.laneAt w (vGet s lt j vs1) i) (Obl.laneAt w (vGet s lt j vs2) i) := by
  have hcnt : vGet (bumpCnt (viWritten op w s lt ls vd vs1 vs2) lt 9 k) lt j vd = vGet (viWritten op w s lt ls vd vs1 vs2) lt j vd :=
    vGet_of_lanes (State.tile_modTile_keeps Tile.lanes rfl lt) vd
  rw [vGet_jumped, hcnt, viWritten, vGet_eachSlice, if_pos ⟨rfl, hj, rfl⟩, laneAt_ofLanes (lane_within hi), getD_zipWith_lanesOf hw _ _ _ hi, hop]

end Vi

/-- The operations of `vi` by their number. -/
def viFn {w : Nat} (op : Nat) (a b : BitVec w) : BitVec w :=
  match op with
  | 0 => a + b | 1 => a - b | 2 => a &&& b | 3 => a ||| b | 4 => a ^^^ b
  | 5 => a <<< (b.toNat % 32) | 6 => a >>> (b.toNat % 32) | _ => a.sshiftRight (b.toNat % 32)

theorem ofNat_viLane {w : Nat} (op : Nat) (a b : BitVec w) : BitVec.ofNat w (viLane op w a.toNat b.toNat) = viFn op a b := by
  unfold viLane
  simp only [BitVec.ofNat_toNat, BitVec.setWidth_eq]
  rfl

/-- Each row of Table 4.5 is `vi` with its function. -/
theorem viRows_agree {p : Obl.VCtor × ((w : Nat) → BitVec w → BitVec w → BitVec w)} (hp : p ∈ Obl.viRows) :
    ∃ op, (∀ w (a b : BitVec w), BitVec.ofNat w (viLane op w a.toNat b.toNat) = p.2 w a b) ∧
      ∀ lt c vd vs1 vs2 fmt lcnt s, exec (p.1 lt c vd vs1 vs2 fmt lcnt) s = vi op lt c vd vs1 vs2 fmt lcnt s := by
  simp only [Obl.viRows, List.mem_cons, List.not_mem_nil, or_false] at hp
  rcases hp with rfl | rfl | rfl | rfl | rfl | rfl | rfl | rfl
  · exact ⟨0, fun _ => ofNat_viLane 0, fun _ _ _ _ _ _ _ _ => rfl⟩
  · exact ⟨1, fun _ => ofNat_viLane 1, fun _ _ _ _ _ _ _ _ => rfl⟩
  · exact ⟨2, fun _ => ofNat_viLane 2, fun _ _ _ _ _ _ _ _ => rfl⟩
  · exact ⟨3, fun _ => ofNat_viLane 3, fun _ _ _ _ _ _ _ _ => rfl⟩
  · exact ⟨4, fun _ => ofNat_viLane 4, fun _ _ _ _ _ _ _ _ => rfl⟩
  · exact ⟨5, fun _ => ofNat_viLane 5, fun _ _ _ _ _ _ _ _ => rfl⟩
  · exact ⟨6, fun _ => ofNat_viLane 6, fun _ _ _ _ _ _ _ _ => rfl⟩
  · exact ⟨7, fun _ => ofNat_viLane 7, fun _ _ _ _ _ _ _ _ => rfl⟩

/-! ### Comparisons -/

theorem cmp_cases (a b : FVal) : a.cmp b = -1 ∨ a.cmp b = 0 ∨ a.cmp b = 1 := by
  unfold FVal.cmp
  split
  · split
    · exact Or.inr (Or.inl rfl)
    · split
      · exact Or.inl rfl
      · exact Or.inr (Or.inr rfl)
  · split
    · exact Or.inl rfl
    · exact Or.inr (Or.inr rfl)
  · split
    · exact Or.inr (Or.inr rfl)
    · exact Or.inl rfl
  · dsimp only
    split
    · exact Or.inr (Or.inl rfl)
    · split
      · exact Or.inl rfl
      · exact Or.inr (Or.inr rfl)
  · exact Or.inr (Or.inl rfl)

/-- At most is less or equal. -/
theorem cmp_ne_one (a b : FVal) : (a.cmp b != 1) = (a.cmp b == -1 || a.cmp b == 0) := by
  rcases cmp_cases a b with h | h | h
  · rw [h]; rfl
  · rw [h]; rfl
  · rw [h]; rfl

/-- The comparisons of `vcmp` by their number. -/
def vcmpHolds (op : Nat) (x y : FVal) : Bool :=
  match op with
  | 0 => !x.isNan && !y.isNan && x.cmp y == 0
  | 1 => !x.isNan && !y.isNan && x.cmp y == -1
  | 2 => !x.isNan && !y.isNan && (x.cmp y == -1 || x.cmp y == 0)
  | _ => x.isNan || y.isNan || x.cmp y != 0

theorem vcmpLane_eq (op : Nat) (f : FloatFmt) (a b : Nat) :
    vcmpLane op f a b = if vcmpHolds op (f.decode a) (f.decode b) then 2 ^ f.bits - 1 else 0 := by
  match op with
  | 0 => simp [vcmpLane, vcmpHolds]
  | 1 => simp [vcmpLane, vcmpHolds]
  | 2 => simp [vcmpLane, vcmpHolds, cmp_ne_one]
  | n + 3 => simp [vcmpLane, vcmpHolds]

section Vcmp
variable {s : State} {lt n : Nat} {vd vs1 vs2 : BitVec 5} {fmt : BitVec 2} {lcnt : BitVec 4} {ls : List Nat} {op : Nat} {f : FloatFmt}

/-- What a `vcmp` instruction writes to its active slices. -/
def vcmpWritten (op : Nat) (f : FloatFmt) (s : State) (lt : Nat) (ls : List Nat) (vd vs1 vs2 : BitVec 5) : State :=
  eachSlice s lt ls vd fun j => ofLanes f.bits
    (List.zipWith (vcmpLane op f) (lanesOf f.bits (vGet s lt j vs1)) (lanesOf f.bits (vGet s lt j vs2)))

theorem vcmp_of_issues (hissues : issues s lt (.lane n) 4 laneOnly = true)
    (hls : activeLanes ((fetched s lt (.lane n) 4).tile lt) n lcnt.toNat = some ls) (hf : vfFmt fmt.toNat = some f) :
    vcmp op lt (.lane n) vd vs1 vs2 fmt lcnt s =
      .next (retired lt (.lane n) 4 (vcmpWritten op f (fetched s lt (.lane n) 4) lt ls vd vs1 vs2)) := by
  rw [vcmp, vinsn_of_issues _ _ hissues hls]
  simp only [hf]
  rfl

theorem ofNat_ones (w : Nat) : BitVec.ofNat w (2 ^ w - 1) = BitVec.allOnes w := BitVec.eq_of_toNat_eq (by
  rw [BitVec.toNat_ofNat, BitVec.toNat_allOnes, Nat.mod_eq_of_lt (Nat.sub_lt (Nat.two_pow_pos w) Nat.one_pos)])

theorem laneAt_vcmp (hf : 0 < f.bits) (pc : DWord) {j i : Nat} (hj : j ∈ ls) (hi : i < 128 / f.bits) :
    Obl.laneAt f.bits (vGet (jumped lt (.lane n) pc (vcmpWritten op f s lt ls vd vs1 vs2)) lt j vd) i =
      if vcmpHolds op (f.decode (Obl.laneAt f.bits (vGet s lt j vs1) i).toNat) (f.decode (Obl.laneAt f.bits (vGet s lt j vs2) i).toNat)
      then BitVec.allOnes f.bits else 0 := by
  rw [vGet_jumped, vcmpWritten, vGet_eachSlice, if_pos ⟨rfl, hj, rfl⟩, laneAt_ofLanes (lane_within hi), getD_zipWith_lanesOf hf _ _ _ hi,
    vcmpLane_eq, apply_ite (BitVec.ofNat f.bits), ofNat_ones]
  rfl

end Vcmp

/-- The float formats of FMT have bits. -/
theorem vfFmts_spec {q : BitVec 2 × FloatFmt} (hq : q ∈ Obl.vfFmts) : vfFmt q.1.toNat = some q.2 ∧ 0 < q.2.bits := by
  simp only [Obl.vfFmts, List.mem_cons, List.not_mem_nil, or_false] at hq
  rcases hq with rfl | rfl | rfl
  · exact ⟨rfl, by decide⟩
  · exact ⟨rfl, by decide⟩
  · exact ⟨rfl, by decide⟩

theorem viWidths_spec {q : BitVec 2 × Nat} (hq : q ∈ ([(0, 32), (1, 16), (2, 8)] : List (BitVec 2 × Nat))) :
    viWidth q.1.toNat = some q.2 ∧ 0 < q.2 := by
  simp only [List.mem_cons, List.not_mem_nil, or_false] at hq
  rcases hq with rfl | rfl | rfl
  · exact ⟨rfl, by decide⟩
  · exact ⟨rfl, by decide⟩
  · exact ⟨rfl, by decide⟩

/-- Settles O25: each of them sets vd, slice by slice, lane by lane. -/
theorem vectorInteger : Obligations.VectorInteger := by
  refine ⟨fun t n lcnt => ⟨fun hmode => activeLanes_grid hmode n lcnt, fun hmode => activeLanes_cluster hmode n lcnt⟩, ?_, ?_, ?_⟩
  · intro s lt n vd vs1 vs2 fmt lcnt hissues hmode hlcnt
    refine ⟨(wordV 0x21 vd vs1 vs2 0 fmt lcnt).setWidth 64, ?_⟩
    rw [show exec (.viAdd lt (.lane n) vd vs1 vs2 fmt lcnt) s = vi 0 lt (.lane n) vd vs1 vs2 fmt lcnt s from rfl, vi,
      vinsn_of_none _ _ hissues (by rw [activeLanes_grid hmode, if_neg hlcnt])]
  · intro p hp q hq s lt n vd vs1 vs2 lcnt ls hissues f hls
    obtain ⟨op, hop, hexec⟩ := viRows_agree hp
    obtain ⟨hwidth, hw⟩ := viWidths_spec hq
    refine ⟨_, (hexec lt (.lane n) vd vs1 vs2 q.1 lcnt s).trans (vi_of_issues hissues hls hwidth), fun j hj i hi => ?_, ?_⟩
    · exact laneAt_vi hw _ (hop q.2) _ hj hi
    · exact vecFrame_retired ((VecKept.eachSlice f (decide_eq_true rfl) _).trans (VecKept.bumpCnt _ 9 _))
  · intro p hp q hq s lt n vd vs1 vs2 lcnt ls hissues f hls
    obtain ⟨hfmt, hbits⟩ := vfFmts_spec hq
    have hend : ∀ op, ∃ t, vcmp op lt (.lane n) vd vs1 vs2 q.1 lcnt s = .next t ∧
        (∀ j ∈ ls, ∀ i, i < 128 / q.2.bits → Obl.laneAt q.2.bits (vGet t lt j vd) i =
          if vcmpHolds op (q.2.decode (Obl.laneAt q.2.bits (vGet f lt j vs1) i).toNat) (q.2.decode (Obl.laneAt q.2.bits (vGet f lt j vs2) i).toNat)
          then BitVec.allOnes q.2.bits else 0) ∧ Obl.vecFrame lt n ls vd f t := fun op =>
      ⟨_, vcmp_of_issues hissues hls hfmt, fun j hj i hi => laneAt_vcmp hbits _ hj hi,
        vecFrame_retired (VecKept.eachSlice f (decide_eq_true rfl) _)⟩
    simp only [List.mem_cons, List.not_mem_nil, or_false] at hp
    rcases hp with rfl | rfl | rfl | rfl
    · exact hend 0
    · exact hend 1
    · exact hend 2
    · exact hend 3

end Sys2Proof.Machine
end

section
/-!
O27: conversions, moves, the compensated add and reductions.
-/
namespace Sys2Proof.Machine

open Sys2Proof

/-! ### Elements and what they count -/

/-- A conversion's value does not depend on what has been counted before it. -/
theorem toInteger_tally (bits : Nat) (lo hi q : Int) (r : Rnd) (v : FVal) (t u : Tally) :
    (toInteger bits lo hi q r v t).1 = (toInteger bits lo hi q r v u).1 := by
  cases v with
  | nan => rfl
  | inf s => rfl
  | fin s m e =>
    simp only [toInteger]
    split
    · split
      · rfl
      · split
        · rfl
        · split
          · rfl
          · rfl
    · split
      · rfl
      · split
        · rfl
        · split
          · rfl
          · rfl

theorem toFloat_tally (f : FloatFmt) (sat ftz : Bool) (r : Rnd) (v : FVal) (t u : Tally) : (toFloat f sat ftz r v t).1 = (toFloat f sat ftz r v u).1 := by
  cases v with
  | nan => rfl
  | inf s => rfl
  | fin s m e =>
    simp only [toFloat]
    split
    · rfl
    · rfl

theorem encodeElem_tally (fmt : Nat) (sat ftz : Bool) (r : Rnd) (v : FVal) (t u : Tally) :
    (encodeElem fmt sat ftz r v t).1 = (encodeElem fmt sat ftz r v u).1 := by
  unfold encodeElem
  split
  · exact toInteger_tally 8 _ _ _ r v t u
  · exact toInteger_tally 4 _ _ _ r v t u
  · rfl
  · split
    · exact toFloat_tally _ sat ftz r v t u
    · rfl

theorem length_cvtTo (p : PalCfg) (rnd : Nat → Nat) (k : Nat) (xs : List Nat) (t : Tally) : (cvtTo p rnd k xs t).1.length = xs.length := by
  induction xs generalizing k t with
  | nil => rfl
  | cons x r ih => simp only [cvtTo, List.length_cons, ih]

theorem getD_cvtTo (p : PalCfg) (rnd : Nat → Nat) (k : Nat) (xs : List Nat) (t : Tally) {i : Nat} (hi : i < xs.length) :
    (cvtTo p rnd k xs t).1.getD i 0 =
      (encodeElem p.format p.sat p.ftz (p.rnd (rnd (k + i))) ((fp32.decode (xs.getD i 0)).scale p.scaleExp) Tally.none).1 := by
  induction xs generalizing k t i with
  | nil => exact absurd hi (Nat.not_lt_zero i)
  | cons x r ih =>
    cases i with
    | zero => exact encodeElem_tally _ _ _ _ _ _ _
    | succ i =>
      rw [List.length_cons] at hi
      simp only [cvtTo, List.getD_cons_succ]
      rw [ih (k + 1) _ (by omega), Nat.add_right_comm, Nat.add_assoc]

theorem length_cvtFrom (p : PalCfg) (rnd : Nat → Nat) (k : Nat) (xs : List Nat) : (cvtFrom p rnd k xs).1.length = xs.length := by
  induction xs generalizing k with
  | nil => rfl
  | cons x r ih => simp only [cvtFrom, List.length_cons, ih]

theorem getD_cvtFrom (p : PalCfg) (rnd : Nat → Nat) (k : Nat) (xs : List Nat) {i : Nat} (hi : i < xs.length) :
    (cvtFrom p rnd k xs).1.getD i 0 = (cvtDecode (p.rnd (rnd (k + i))) (decodeThrough p (xs.getD i 0) 127)).1 := by
  induction xs generalizing k i with
  | nil => exact absurd hi (Nat.not_lt_zero i)
  | cons x r ih =>
    cases i with
    | zero => rfl
    | succ i =>
      rw [List.length_cons] at hi
      simp only [cvtFrom, List.getD_cons_succ]
      rw [ih (k + 1) (by omega), Nat.add_right_comm, Nat.add_assoc]

/-! ### The Palette's counters -/

section Palette
variable {lt : Nat} {ls : List Nat} {hit : BitVec 5 → Bool}

theorem VecKept.drawn (s : State) : VecKept lt ls hit s s.drawn := ⟨fun _ _ _ _ => rfl, kept_drawn s, kept_drawn s, kept_drawn s⟩

theorem VecKept.setPalWord (s : State) (n w : Nat) (v : Word) : VecKept lt ls hit s (setPalWord s lt n w v) := by
  have hoff : regPalEntry n + 4 * w ≠ regLcCfg := by
    rw [regPalEntry, regLcCfg]
    omega
  have hmode : ∀ t : Tile, Tile.cluster { t with regs := kvSet t.regs (regPalEntry n + 4 * w) v } = t.cluster := fun t => cluster_kvSet t v hoff
  have hmod : Machine.setPalWord s lt n w v = s.modTile lt fun t => { t with regs := kvSet t.regs (regPalEntry n + 4 * w) v } := rfl
  rw [hmod]
  refine ⟨fun y k r _ => vGet_of_lanes (State.tile_modTile_keeps Tile.lanes rfl y) r, Kept.modTile _ ?_, Kept.modTile _ ?_, Kept.modTile _ rfl⟩
  · rw [generalRegs, hmode]
    rfl
  · rw [programCounters, hmode]
    rfl

theorem VecKept.applyTally (s : State) (n : Nat) (t : Tally) : VecKept lt ls hit s (applyTally s lt n t) := by
  have htake : ∀ a, VecKept lt ls hit s (takeAmax s lt n a) := fun a => by
    unfold takeAmax
    split
    · exact (VecKept.drawn s).trans (VecKept.setPalWord _ n 2 _)
    · exact VecKept.setPalWord s n 2 _
  have hmark : ∀ u a b, VecKept lt ls hit u (markRise u lt n a b) := fun u a b => by
    unfold markRise
    split
    · exact VecKept.refl u
    · exact ⟨fun y k r _ => vGet_of_lanes (State.tile_modTile_keeps Tile.lanes rfl y) r, Kept.modTile _ rfl, Kept.modTile _ rfl, Kept.modTile _ rfl⟩
  unfold Machine.applyTally
  extract_lets s1 ovf unf s2
  have h1 : VecKept lt ls hit s s1 := by
    simp only [s1]
    split
    · exact htake _
    · exact VecKept.refl s
  have h2 : VecKept lt ls hit s1 s2 := (VecKept.setPalWord s1 n 3 _).trans (VecKept.setPalWord _ n 4 _)
  exact (h1.trans h2).trans (hmark s2 _ _)

/-- A conversion's advance of LC_SR_INDEX. -/
theorem VecKept.advanced (s : State) (b : Bool) (n k : Nat) : VecKept lt ls hit s (if b then Machine.advanceSr s lt n k else s) := by
  split
  · exact VecKept.advanceSr s n k
  · exact VecKept.refl s

end Palette

/-! ### Conversions -/

/-- The formats that `vcvt` takes. -/
theorem vcvtFormats {fmt : Nat} (h : fmt ∈ [0, 1, 2, 3, 4, 11, 12, 13]) :
    vcvtAccepts fmt = true ∧ 0 < elemBits fmt ∧ elemBits fmt * vcvtCount fmt ≤ 128 ∧ vcvtCount fmt ≤ 4 := by
  revert fmt
  decide

section Convert
variable {s : State} {lt n : Nat} {vd vs1 : BitVec 5} {pal : BitVec 8} {lcnt : BitVec 4} {ls : List Nat}

/-- The elements that `vcvt` with DIR 0 makes of a slice. -/
def cvtToLanes (s : State) (lt n : Nat) (vs1 : BitVec 5) (pal base j : Nat) (t : Tally) : List Nat × FpFlags × Tally :=
  cvtTo (palCfg s lt pal) (laneRandom s lt n) (vcvtCount (palCfg s lt pal).format * (j - base))
    ((lanesOf 32 (vGet s lt j vs1)).take (vcvtCount (palCfg s lt pal).format)) t

/-- One slice of `vcvt` with DIR 0: it is written, its flags and its counts are taken. -/
def cvtToSlice (s : State) (lt n : Nat) (vd vs1 : BitVec 5) (pal base : Nat) (a : State × Tally) (j : Nat) : State × Tally :=
  (addFlags (vSet a.1 lt j vd (ofLanes (elemBits (palCfg s lt pal).format) (cvtToLanes s lt n vs1 pal base j a.2).1)) lt j
    (cvtToLanes s lt n vs1 pal base j a.2).2.1, (cvtToLanes s lt n vs1 pal base j a.2).2.2)

/-- What `vcvt` with DIR 0 leaves of its active slices. -/
def cvtToDone (s : State) (lt n : Nat) (ls : List Nat) (vd vs1 : BitVec 5) (pal : Nat) : State :=
  let x := ls.foldl (cvtToSlice s lt n vd vs1 pal (ls.headD 0)) (s, Tally.none)
  let s1 := applyTally x.1 lt pal x.2
  if (palCfg s lt pal).stochastic then advanceSr s1 lt n (vcvtCount (palCfg s lt pal).format * ls.length) else s1

theorem exec_vcvtTo_of_issues (hissues : issues s lt (.lane n) 4 laneOnly = true)
    (hls : activeLanes ((fetched s lt (.lane n) 4).tile lt) n lcnt.toNat = some ls)
    (hfmt : vcvtAccepts (palCfg (fetched s lt (.lane n) 4) lt pal.toNat).format = true) :
    exec (.vcvtTo lt (.lane n) vd vs1 pal lcnt) s =
      .next (retired lt (.lane n) 4 (cvtToDone (fetched s lt (.lane n) 4) lt n ls vd vs1 pal.toNat)) := by
  rw [show exec (.vcvtTo lt (.lane n) vd vs1 pal lcnt) s = execVcvtTo lt (.lane n) vd vs1 pal lcnt s from rfl, execVcvtTo,
    vinsn_of_issues _ _ hissues hls]
  simp only [hfmt, Bool.not_true, Bool.false_eq_true, if_false]
  rfl

theorem cvtToLanes_tally (s : State) (lt n : Nat) (vs1 : BitVec 5) (pal base j : Nat) (t : Tally) :
    (cvtToLanes s lt n vs1 pal base j t).1 = (cvtToLanes s lt n vs1 pal base j Tally.none).1 := by
  refine List.ext_getElem ?_ fun i hi hi' => ?_
  · rw [cvtToLanes, length_cvtTo, cvtToLanes, length_cvtTo]
  · have hlen : i < ((lanesOf 32 (vGet s lt j vs1)).take (vcvtCount (palCfg s lt pal).format)).length := by rwa [cvtToLanes, length_cvtTo] at hi
    rw [← List.getD_eq_getElem _ 0 hi, ← List.getD_eq_getElem _ 0 hi', cvtToLanes, getD_cvtTo _ _ _ _ _ hlen, cvtToLanes, getD_cvtTo _ _ _ _ _ hlen]

theorem vecKept_cvtTo (s : State) (lt n : Nat) (ls : List Nat) (vd vs1 : BitVec 5) (pal : Nat) :
    VecKept lt ls (fun r => decide (r = vd)) s (cvtToDone s lt n ls vd vs1 pal) := by
  have hslices := VecKept.foldl (lt := lt) (ls := ls) (hit := fun r => decide (r = vd)) Prod.fst
    (g := cvtToSlice s lt n vd vs1 pal (ls.headD 0))
    (fun a j hj => (VecKept.vSet hj (decide_eq_true rfl) a.1 _).trans (VecKept.addFlags _ j _)) (s, Tally.none)
  exact (hslices.trans (VecKept.applyTally _ pal _)).trans (VecKept.advanced _ _ n _)

theorem vGet_cvtToDone (s : State) (lt n : Nat) {ls : List Nat} (vd vs1 : BitVec 5) (pal : Nat) {j : Nat} (hj : j ∈ ls) :
    vGet (cvtToDone s lt n ls vd vs1 pal) lt j vd =
      ofLanes (elemBits (palCfg s lt pal).format) (cvtToLanes s lt n vs1 pal (ls.headD 0) j Tally.none).1 := by
  have hrest : ∀ u t, VecKept lt [] (fun _ => false) u (if (palCfg s lt pal).stochastic
      then advanceSr (applyTally u lt pal t) lt n (vcvtCount (palCfg s lt pal).format * ls.length) else applyTally u lt pal t) := fun u t =>
    (VecKept.applyTally u pal t).trans (VecKept.advanced _ _ n _)
  rw [cvtToDone, (hrest _ _).vectors lt j vd (by simp)]
  have hfold := vGet_foldl Prod.fst (g := cvtToSlice s lt n vd vs1 pal (ls.headD 0)) (lt := lt) (hit := fun r => decide (r = vd))
    (val := fun j _ => ofLanes (elemBits (palCfg s lt pal).format) (cvtToLanes s lt n vs1 pal (ls.headD 0) j Tally.none).1)
    (fun a j y k r => by
      rw [cvtToSlice, vGet_addFlags, vGet_vSet, cvtToLanes_tally]
      simp only [decide_eq_true_eq]) ls (s, Tally.none) lt j vd
  rw [hfold, if_pos ⟨rfl, hj, decide_eq_true rfl⟩]

/-- The elements of a slice that `vcvt` with DIR 1 converts. -/
def cvtFromLanes (s : State) (lt n : Nat) (vs1 : BitVec 5) (pal base j : Nat) : List Nat × FpFlags :=
  cvtFrom (palCfg s lt pal) (laneRandom s lt n) (vcvtCount (palCfg s lt pal).format * (j - base))
    ((List.range (vcvtCount (palCfg s lt pal).format)).map fun i => nfld (vGet s lt j vs1).toNat
      (elemBits (palCfg s lt pal).format * i + elemBits (palCfg s lt pal).format - 1) (elemBits (palCfg s lt pal).format * i))

/-- One slice of `vcvt` with DIR 1. -/
def cvtFromSlice (s : State) (lt n : Nat) (vd vs1 : BitVec 5) (pal base : Nat) (u : State) (j : Nat) : State :=
  addFlags (vSet u lt j vd (ofLanes 32 (cvtFromLanes s lt n vs1 pal base j).1)) lt j (cvtFromLanes s lt n vs1 pal base j).2

/-- What `vcvt` with DIR 1 leaves of its active slices. -/
def cvtFromDone (s : State) (lt n : Nat) (ls : List Nat) (vd vs1 : BitVec 5) (pal : Nat) : State :=
  if (palCfg s lt pal).stochastic
  then advanceSr (ls.foldl (cvtFromSlice s lt n vd vs1 pal (ls.headD 0)) s) lt n (vcvtCount (palCfg s lt pal).format * ls.length)
  else ls.foldl (cvtFromSlice s lt n vd vs1 pal (ls.headD 0)) s

theorem exec_vcvtFrom_of_issues (hissues : issues s lt (.lane n) 4 laneOnly = true)
    (hls : activeLanes ((fetched s lt (.lane n) 4).tile lt) n lcnt.toNat = some ls)
    (hfmt : vcvtAccepts (palCfg (fetched s lt (.lane n) 4) lt pal.toNat).format = true) :
    exec (.vcvtFrom lt (.lane n) vd vs1 pal lcnt) s =
      .next (retired lt (.lane n) 4 (cvtFromDone (fetched s lt (.lane n) 4) lt n ls vd vs1 pal.toNat)) := by
  rw [show exec (.vcvtFrom lt (.lane n) vd vs1 pal lcnt) s = execVcvtFrom lt (.lane n) vd vs1 pal lcnt s from rfl, execVcvtFrom,
    vinsn_of_issues _ _ hissues hls]
  simp only [hfmt, Bool.not_true, Bool.false_eq_true, if_false]
  rfl

theorem vecKept_cvtFrom (s : State) (lt n : Nat) (ls : List Nat) (vd vs1 : BitVec 5) (pal : Nat) :
    VecKept lt ls (fun r => decide (r = vd)) s (cvtFromDone s lt n ls vd vs1 pal) :=
  (VecKept.foldl (fun u => u) (fun u j hj => (VecKept.vSet hj (decide_eq_true rfl) u _).trans (VecKept.addFlags _ j _)) s).trans
    (VecKept.advanced _ _ n _)

theorem vGet_cvtFromDone (s : State) (lt n : Nat) {ls : List Nat} (vd vs1 : BitVec 5) (pal : Nat) {j : Nat} (hj : j ∈ ls) :
    vGet (cvtFromDone s lt n ls vd vs1 pal) lt j vd = ofLanes 32 (cvtFromLanes s lt n vs1 pal (ls.headD 0) j).1 := by
  have hrest : ∀ u, VecKept lt [] (fun _ => false) u (if (palCfg s lt pal).stochastic
      then advanceSr u lt n (vcvtCount (palCfg s lt pal).format * ls.length) else u) := fun u => VecKept.advanced _ _ n _
  rw [cvtFromDone, (hrest _).vectors lt j vd (by simp)]
  have hfold := vGet_foldl (fun u => u) (g := cvtFromSlice s lt n vd vs1 pal (ls.headD 0)) (lt := lt) (hit := fun r => decide (r = vd))
    (val := fun j _ => ofLanes 32 (cvtFromLanes s lt n vs1 pal (ls.headD 0) j).1)
    (fun u j y k r => by
      rw [cvtFromSlice, vGet_addFlags, vGet_vSet]
      simp only [decide_eq_true_eq]) ls s lt j vd
  rw [hfold, if_pos ⟨rfl, hj, decide_eq_true rfl⟩]

end Convert

/-! ### Moves -/

section Moves
variable {s : State} {lt n : Nat} {vd vs1 vs2 : BitVec 5} {lcnt : BitVec 4} {ls : List Nat}
  (hissues : issues s lt (.lane n) 4 laneOnly = true) (hls : activeLanes ((fetched s lt (.lane n) 4).tile lt) n lcnt.toNat = some ls)
include hissues hls

theorem vmov_of_issues (fn : Nat) (body : State → Nat → List Nat → Word → InsnOut) :
    vmov fn lt (.lane n) vd vs1 vs2 0 lcnt body s =
      .next (finish lt (.lane n) 4 (body (fetched s lt (.lane n) 4) n ls (wordV 0x26 vd vs1 vs2 fn 0 lcnt))) := by
  rw [vmov, vinsn_of_issues _ _ hissues hls]
  rfl

theorem exec_vmovBroadcast_of_issues :
    exec (.vmovBroadcast lt (.lane n) vd vs1 vs2 0 lcnt) s = .next (retired lt (.lane n) 4
      (eachSlice (fetched s lt (.lane n) 4) lt ls vd fun _ => ofLanes 32 (List.replicate 4 (gRead (fetched s lt (.lane n) 4) lt (.lane n) vs1).toNat))) := by
  rw [show exec (.vmovBroadcast lt (.lane n) vd vs1 vs2 0 lcnt) s = execVmovBroadcast lt (.lane n) vd vs1 vs2 0 lcnt s from rfl, execVmovBroadcast,
    vmov_of_issues hissues hls]
  rfl

theorem exec_vmovExtract_of_issues (hi : vs2.toNat < 4) :
    exec (.vmovExtract lt (.lane n) vd vs1 vs2 0 lcnt) s = .next (retired lt (.lane n) 4 (gWrite (fetched s lt (.lane n) 4) lt (.lane n) vd
      (BitVec.ofNat 64 ((lanesOf 32 (vGet (fetched s lt (.lane n) 4) lt (leadLane ((fetched s lt (.lane n) 4).tile lt) n) vs1)).getD vs2.toNat 0)))) := by
  rw [show exec (.vmovExtract lt (.lane n) vd vs1 vs2 0 lcnt) s = execVmovExtract lt (.lane n) vd vs1 vs2 0 lcnt s from rfl, execVmovExtract,
    vmov_of_issues hissues hls, if_neg (by omega)]
  rfl

theorem exec_vmovInsert_of_issues (hi : vs1.toNat < 4) :
    exec (.vmovInsert lt (.lane n) vd vs1 vs2 0 lcnt) s = .next (retired lt (.lane n) 4 (eachSlice (fetched s lt (.lane n) 4) lt ls vd fun j =>
      ofLanes 32 ((lanesOf 32 (vGet (fetched s lt (.lane n) 4) lt j vd)).set vs1.toNat (gRead (fetched s lt (.lane n) 4) lt (.lane n) vs2).toNat))) := by
  rw [show exec (.vmovInsert lt (.lane n) vd vs1 vs2 0 lcnt) s = execVmovInsert lt (.lane n) vd vs1 vs2 0 lcnt s from rfl, execVmovInsert,
    vmov_of_issues hissues hls, if_neg (by omega)]
  rfl

theorem exec_vmovPermute_of_issues
    (hi : ls.find? (fun j => (lanesOf 32 (vGet (fetched s lt (.lane n) 4) lt j vs2)).any fun i => decide (4 ≤ i)) = none) :
    exec (.vmovPermute lt (.lane n) vd vs1 vs2 0 lcnt) s = .next (retired lt (.lane n) 4 (eachSlice (fetched s lt (.lane n) 4) lt ls vd fun j =>
      ofLanes 32 ((lanesOf 32 (vGet (fetched s lt (.lane n) 4) lt j vs2)).map fun i =>
        (lanesOf 32 (vGet (fetched s lt (.lane n) 4) lt j vs1)).getD i 0))) := by
  rw [show exec (.vmovPermute lt (.lane n) vd vs1 vs2 0 lcnt) s = execVmovPermute lt (.lane n) vd vs1 vs2 0 lcnt s from rfl, execVmovPermute,
    vmov_of_issues hissues hls]
  simp only [hi]
  rfl

end Moves

/-- A slice of an instruction that set vd of every active slice. -/
theorem laneAt_retired_eachSlice (s : State) (lt n : Nat) {ls : List Nat} (vd : BitVec 5) (xs : Nat → List Nat) {j i : Nat} (hj : j ∈ ls) (hi : i < 4) :
    Obl.laneAt 32 (vGet (retired lt (.lane n) 4 (eachSlice s lt ls vd fun j => ofLanes 32 (xs j))) lt j vd) i =
      BitVec.ofNat 32 ((xs j).getD i 0) := by
  rw [retired_eq_jumped, vGet_jumped, vGet_eachSlice, if_pos ⟨rfl, hj, rfl⟩, laneAt_ofLanes (by omega)]

/-! ### The compensated add -/

theorem fp32cRound_tail (v : FVal) (zneg : Bool) : (fp32cRound v zneg).2 < 2 ^ 16 := by
  unfold fp32cRound
  split
  · exact Nat.two_pow_pos 16
  · exact Nat.two_pow_pos 16
  · split
    · exact Nat.two_pow_pos 16
    · dsimp only
      split
      · exact Nat.two_pow_pos 16
      · split
        · dsimp only
          split
          · exact Nat.mod_lt _ (Nat.two_pow_pos 16)
          · exact Nat.mod_lt _ (Nat.two_pow_pos 16)
        · exact Nat.two_pow_pos 16

theorem fp32cAdd_tail (s t x : Nat) : (fp32cAdd s t x).2 < 2 ^ 16 := fp32cRound_tail _ _

theorem getD_raddSlice {as ts xs : List Nat} {i : Nat} (ha : i < as.length) (ht : i < ts.length) (hx : i < xs.length) :
    (raddSlice as ts xs).1.getD i 0 = (fp32cAdd (as.getD i 0) (ts.getD i 0 % 2 ^ 16) (xs.getD i 0)).1 ∧
    (raddSlice as ts xs).2.1.getD i 0 = (fp32cAdd (as.getD i 0) (ts.getD i 0 % 2 ^ 16) (xs.getD i 0)).2 := by
  induction as generalizing ts xs i with
  | nil => exact absurd ha (Nat.not_lt_zero i)
  | cons a as ih =>
    cases ts with
    | nil => exact absurd ht (Nat.not_lt_zero i)
    | cons t ts =>
      cases xs with
      | nil => exact absurd hx (Nat.not_lt_zero i)
      | cons x xs =>
        cases i with
        | zero => exact ⟨rfl, rfl⟩
        | succ i =>
          simp only [raddSlice, List.getD_cons_succ]
          exact ih (Nat.lt_of_succ_lt_succ ha) (Nat.lt_of_succ_lt_succ ht) (Nat.lt_of_succ_lt_succ hx)

/-- One slice of `radd`, its operands read from `s`. -/
def raddOf (s : State) (lt : Nat) (vd vs1 : BitVec 5) (j : Nat) : List Nat × List Nat × FpFlags :=
  raddSlice (lanesOf 32 (vGet s lt j vd)) (lanesOf 32 (vGet s lt j (vd + 1))) (lanesOf 32 (vGet s lt j vs1))

def raddWritten (s : State) (lt : Nat) (vd vs1 : BitVec 5) (u : State) (j : Nat) : State :=
  addFlags (vSet (vSet u lt j vd (ofLanes 32 (raddOf s lt vd vs1 j).1)) lt j (vd + 1) (ofLanes 32 (raddOf s lt vd vs1 j).2.1)) lt j
    (raddOf s lt vd vs1 j).2.2

theorem exec_radd_of_issues {s : State} {lt n : Nat} {vd vs1 vs2 : BitVec 5} {lcnt : BitVec 4} {ls : List Nat}
    (hissues : issues s lt (.lane n) 4 laneOnly = true) (hls : activeLanes ((fetched s lt (.lane n) 4).tile lt) n lcnt.toNat = some ls) :
    exec (.radd lt (.lane n) vd vs1 vs2 0 lcnt) s = .next (if vd.toNat % 2 = 1
      then coreTrap (fetched s lt (.lane n) 4) lt (.lane n) causeOperand stOk (some ((wordV 0x28 vd vs1 vs2 0 0 lcnt).setWidth 64)) 0
      else retired lt (.lane n) 4 (ls.foldl (raddWritten (fetched s lt (.lane n) 4) lt vd vs1) (fetched s lt (.lane n) 4))) := by
  rw [show exec (.radd lt (.lane n) vd vs1 vs2 0 lcnt) s = execRadd lt (.lane n) vd vs1 vs2 0 lcnt s from rfl, execRadd,
    vinsn_of_issues _ _ hissues hls]
  simp only [ne_eq, not_true_eq_false, or_false]
  split
  · rfl
  · rfl

end Sys2Proof.Machine
end

section
/-!
O27, continued: reductions over lanes and slices, and the statement.
-/
namespace Sys2Proof.Machine

open Sys2Proof

/-! ### The slices of a compensated add -/

theorem vGet_foldl_radd (s : State) (lt : Nat) {ls : List Nat} (vd vs1 : BitVec 5) {j : Nat} (hj : j ∈ ls) :
    vGet (ls.foldl (raddWritten s lt vd vs1) s) lt j vd = ofLanes 32 (raddOf s lt vd vs1 j).1 ∧
    vGet (ls.foldl (raddWritten s lt vd vs1) s) lt j (vd + 1) = ofLanes 32 (raddOf s lt vd vs1 j).2.1 := by
  have hne : vd ≠ vd + 1 := by
    intro e
    have h := congrArg BitVec.toNat e
    rw [BitVec.toNat_add] at h
    have hvd := vd.isLt
    simp at h
    omega
  have hfold := fun r => vGet_foldl (fun u => u) (g := raddWritten s lt vd vs1) (lt := lt) (hit := fun r => decide (r = vd ∨ r = vd + 1))
    (val := fun j r => if r = vd + 1 then ofLanes 32 (raddOf s lt vd vs1 j).2.1 else ofLanes 32 (raddOf s lt vd vs1 j).1)
    (fun u j y k r => by
      rw [raddWritten, vGet_addFlags, vGet_vSet, vGet_vSet]
      by_cases hy : y = lt ∧ k = j
      · obtain ⟨rfl, rfl⟩ := hy
        by_cases hr : r = vd + 1
        · rw [if_pos ⟨rfl, rfl, hr⟩, if_pos ⟨rfl, rfl, decide_eq_true (.inr hr)⟩, if_pos hr]
        · rw [if_neg (fun h => hr h.2.2), if_neg hr]
          by_cases hr' : r = vd
          · rw [if_pos ⟨rfl, rfl, hr'⟩, if_pos ⟨rfl, rfl, decide_eq_true (.inl hr')⟩]
          · rw [if_neg (fun h => hr' h.2.2), if_neg (fun h => (of_decide_eq_true h.2.2).elim hr' hr)]
      · rw [if_neg (fun h => hy ⟨h.1, h.2.1⟩), if_neg (fun h => hy ⟨h.1, h.2.1⟩), if_neg (fun h => hy ⟨h.1, h.2.1⟩)]) ls s lt j r
  refine ⟨?_, ?_⟩
  · rw [hfold vd, if_pos ⟨rfl, hj, by simp⟩, if_neg hne]
  · rw [hfold (vd + 1), if_pos ⟨rfl, hj, by simp⟩, if_pos rfl]

theorem vecKept_radd (s : State) (lt : Nat) (ls : List Nat) (vd vs1 : BitVec 5) :
    VecKept lt ls (fun r => decide (r = vd ∨ r = vd + 1)) s (ls.foldl (raddWritten s lt vd vs1) s) :=
  VecKept.foldl (fun u => u) (fun u j hj => ((VecKept.vSet hj (by simp) u _).trans (VecKept.vSet hj (by simp) _ _)).trans (VecKept.addFlags _ j _)) s

/-- The lanes of an accumulator after `radd` (R104, R186). -/
theorem laneAt_radd (s : State) (lt : Nat) {ls : List Nat} (vd vs1 : BitVec 5) {j i : Nat} (hj : j ∈ ls) (hi : i < 4) :
    Obl.laneAt 32 (vGet (ls.foldl (raddWritten s lt vd vs1) s) lt j vd) i = BitVec.ofNat 32 (fp32cAdd (Obl.laneAt 32 (vGet s lt j vd) i).toNat
      ((Obl.laneAt 32 (vGet s lt j (vd + 1)) i).toNat % 2 ^ 16) (Obl.laneAt 32 (vGet s lt j vs1) i).toNat).1 ∧
    Obl.laneAt 32 (vGet (ls.foldl (raddWritten s lt vd vs1) s) lt j (vd + 1)) i = BitVec.ofNat 32 (fp32cAdd (Obl.laneAt 32 (vGet s lt j vd) i).toNat
      ((Obl.laneAt 32 (vGet s lt j (vd + 1)) i).toNat % 2 ^ 16) (Obl.laneAt 32 (vGet s lt j vs1) i).toNat).2 := by
  obtain ⟨hvalue, htail⟩ := vGet_foldl_radd s lt vd vs1 hj
  have hlen : ∀ x : VWord, i < (lanesOf 32 x).length := fun x => by rwa [length_lanesOf]
  obtain ⟨h1, h2⟩ := getD_raddSlice (hlen (vGet s lt j vd)) (hlen (vGet s lt j (vd + 1))) (hlen (vGet s lt j vs1))
  rw [getD_lanesOf (by decide) _ hi, getD_lanesOf (by decide) _ hi, getD_lanesOf (by decide) _ hi] at h1 h2
  rw [hvalue, htail, laneAt_ofLanes (by omega), laneAt_ofLanes (by omega), raddOf, h1, h2]
  exact ⟨rfl, rfl⟩

/-! ### Trees -/

theorem map_pairUp {α β : Type} {f : α → α → α} {g : β → β → β} {o : α → β} (ho : ∀ a b, o (f a b) = g (o a) (o b)) :
    ∀ l : List α, (pairUp f l).map o = pairUp g (l.map o)
  | [] => rfl
  | [_] => rfl
  | a :: b :: r => by
    rw [pairUp, List.map_cons, map_pairUp ho r, ho]
    rfl

/-- A tree over values that carry more is the tree over the values. -/
theorem map_treeReduce {α β : Type} {f : α → α → α} {g : β → β → β} {o : α → β} (ho : ∀ a b, o (f a b) = g (o a) (o b)) (n : Nat) (l : List α) :
    (treeReduce f n l).map o = treeReduce g n (l.map o) := by
  induction n generalizing l with
  | zero => rfl
  | succ n ih => rw [treeReduce, ih, map_pairUp ho, treeReduce]

theorem headD_map {α β : Type} (o : α → β) (l : List α) (d : α) : o (l.headD d) = (l.map o).headD (o d) := by
  cases l <;> rfl

/-! ### `vred` -/

/-- The rounding of a reduction on a core (R121): mode 4 rounds to nearest even. -/
def vredRnd (s : State) (lt n : Nat) : Rnd :=
  rmRnd (if laneRm s lt (leadLane (s.tile lt) n) = 4 then 0 else laneRm s lt (leadLane (s.tile lt) n)) 0

/-- The operations of `vred` on values. -/
def vredFn (op : Nat) (f : FloatFmt) (r : Rnd) (a b : Nat) : Nat :=
  match op with
  | 0 => (f.result r ((f.decode a).add (r == .down) (f.decode b))).1
  | 1 => pickNum f true a b
  | _ => pickNum f false a b

theorem vredStep_value (op : Nat) (f : FloatFmt) (r : Rnd) (a b : Nat × FpFlags) : (vredStep op f r a b).1 = vredFn op f r a.1 b.1 := by
  match op with
  | 0 => rfl
  | 1 => rfl
  | _ + 2 => rfl

/-- The value of a reduction: the tree of each slice, and then over the slices (R121, R127). -/
def vredValue (op : Nat) (f : FloatFmt) (r : Rnd) (s : State) (lt : Nat) (ls : List Nat) (vs1 : BitVec 5) : Nat :=
  (treeReduce (vredFn op f r) 4 (ls.map fun k => (treeReduce (vredFn op f r) 4 (lanesOf f.bits (vGet s lt k vs1))).headD 0)).headD 0

/-- The same with the flags that the steps raise. -/
def vredOut (op : Nat) (f : FloatFmt) (r : Rnd) (s : State) (lt : Nat) (ls : List Nat) (vs1 : BitVec 5) : Nat × FpFlags :=
  (treeReduce (vredStep op f r) 4 (ls.map fun j =>
    (treeReduce (vredStep op f r) 4 ((lanesOf f.bits (vGet s lt j vs1)).map fun x => (x, FpFlags.none))).headD (0, .none))).headD (0, .none)

theorem vredOut_value (op : Nat) (f : FloatFmt) (r : Rnd) (s : State) (lt : Nat) (ls : List Nat) (vs1 : BitVec 5) :
    (vredOut op f r s lt ls vs1).1 = vredValue op f r s lt ls vs1 := by
  have htree := fun l => map_treeReduce (o := Prod.fst) (vredStep_value op f r) 4 l
  rw [vredOut, headD_map Prod.fst, htree, List.map_map, vredValue]
  refine congrArg (fun l => (treeReduce (vredFn op f r) 4 l).headD 0) (List.map_congr_left fun j _ => ?_)
  show ((treeReduce (vredStep op f r) 4 _).headD (0, FpFlags.none)).1 = _
  rw [headD_map Prod.fst, htree, List.map_map]
  exact congrArg (fun l => (treeReduce (vredFn op f r) 4 l).headD 0) (List.map_id _)

/-- What `vred` writes: the value into the first active slice, zero into the others. -/
def vredWritten (s : State) (lt : Nat) (ls : List Nat) (vd : BitVec 5) (f : FloatFmt) (x : Nat) : State :=
  eachSlice s lt ls vd fun j => if j = ls.headD 0 then BitVec.ofNat 128 (x % 2 ^ f.bits) else 0

theorem vred_of_issues {s : State} {lt n : Nat} {vd vs1 vs2 : BitVec 5} {fmt : BitVec 2} {lcnt : BitVec 4} {ls : List Nat} {op : Nat} {f : FloatFmt}
    (hissues : issues s lt (.lane n) 4 laneOnly = true) (hls : activeLanes ((fetched s lt (.lane n) 4).tile lt) n lcnt.toNat = some ls)
    (hf : vfFmt fmt.toNat = some f) :
    vred op lt (.lane n) vd vs1 vs2 fmt lcnt s = .next (retired lt (.lane n) 4 (addFlags
      (vredWritten (fetched s lt (.lane n) 4) lt ls vd f
        (vredOut op f (vredRnd (fetched s lt (.lane n) 4) lt n) (fetched s lt (.lane n) 4) lt ls vs1).1) lt
      (leadLane ((fetched s lt (.lane n) 4).tile lt) n)
      (vredOut op f (vredRnd (fetched s lt (.lane n) 4) lt n) (fetched s lt (.lane n) 4) lt ls vs1).2)) := by
  rw [vred, vinsn_of_issues _ _ hissues hls]
  simp only [hf]
  rfl

theorem ofNat_mod_setWidth {w : Nat} (hw : w ≤ 128) (x : Nat) : BitVec.ofNat 128 (x % 2 ^ w) = (BitVec.ofNat w x).setWidth 128 := by
  apply BitVec.eq_of_toNat_eq
  have hlt : x % 2 ^ w < 2 ^ 128 := lt_of_lt_of_le (Nat.mod_lt _ (Nat.two_pow_pos w)) (Nat.pow_le_pow_right (by decide) hw)
  rw [BitVec.toNat_ofNat, BitVec.toNat_setWidth, BitVec.toNat_ofNat]

/-- The slices after a reduction. -/
theorem vGet_vred (s : State) (lt n m : Nat) {ls : List Nat} (vd : BitVec 5) {f : FloatFmt} (hf : f.bits ≤ 128) (x : Nat) (fl : FpFlags) {j : Nat}
    (hj : j ∈ ls) : vGet (retired lt (.lane n) 4 (addFlags (vredWritten s lt ls vd f x) lt m fl)) lt j vd =
      if j = ls.headD 0 then (BitVec.ofNat f.bits x).setWidth 128 else 0 := by
  rw [retired_eq_jumped, vGet_jumped, vGet_addFlags, vredWritten, vGet_eachSlice, if_pos ⟨rfl, hj, rfl⟩, ofNat_mod_setWidth hf]

theorem vfFmts_bits {q : BitVec 2 × FloatFmt} (hq : q ∈ Obl.vfFmts) : q.2.bits ≤ 128 := by
  simp only [Obl.vfFmts, List.mem_cons, List.not_mem_nil, or_false] at hq
  rcases hq with rfl | rfl | rfl
  · decide
  · decide
  · decide

/-- The tree of one slice of four lanes. -/
theorem treeReduce_four {α : Type} (g : α → α → α) (a b c d : α) : treeReduce g 4 [a, b, c, d] = [g (g a b) (g c d)] := rfl

theorem treeReduce_one {α : Type} (g : α → α → α) (a : α) : treeReduce g 4 [a] = [a] := rfl

/-- In grid mode the only slice is the lane core's own. -/
theorem activeLanes_grid_some {t : Tile} (hmode : t.cluster = false) {n : Nat} {lcnt : BitVec 4} {ls : List Nat}
    (h : activeLanes t n lcnt.toNat = some ls) : ls = [n] := by
  rw [activeLanes_grid hmode] at h
  split at h
  · exact (Option.some.inj h).symm
  · cases h

/-! ### Lanes after a conversion -/

section Lanes
variable {s : State} {lt n : Nat} {vd vs1 : BitVec 5} {pal : Nat} {ls : List Nat}

theorem vcvt_lane_within {fmt i : Nat} (hfmt : fmt ∈ [0, 1, 2, 3, 4, 11, 12, 13]) (hi : i < vcvtCount fmt) :
    elemBits fmt * i + elemBits fmt ≤ 128 := by
  have h := Nat.mul_le_mul_left (elemBits fmt) (Nat.succ_le_of_lt hi)
  rw [Nat.mul_succ] at h
  exact h.trans (vcvtFormats hfmt).2.2.1

theorem toNat_cvtTo_lt (hfmt : (palCfg s lt pal).format ∈ [0, 1, 2, 3, 4, 11, 12, 13]) {j : Nat} (hj : j ∈ ls) :
    (vGet (retired lt (.lane n) 4 (cvtToDone s lt n ls vd vs1 pal)) lt j vd).toNat <
      2 ^ (elemBits (palCfg s lt pal).format * vcvtCount (palCfg s lt pal).format) := by
  have h := toNat_ofLanes_lt (elemBits (palCfg s lt pal).format) (cvtToLanes s lt n vs1 pal (ls.headD 0) j Tally.none).1
  rw [cvtToLanes, length_cvtTo, List.length_take, length_lanesOf, Nat.min_eq_left (vcvtFormats hfmt).2.2.2] at h
  rw [retired_eq_jumped, vGet_jumped, vGet_cvtToDone _ _ _ _ _ _ hj]
  exact h

/-- An element that `vcvt` with DIR 0 writes (R103). -/
theorem laneAt_cvtTo (hfmt : (palCfg s lt pal).format ∈ [0, 1, 2, 3, 4, 11, 12, 13]) {j : Nat} (hj : j ∈ ls) {i : Nat}
    (hi : i < vcvtCount (palCfg s lt pal).format) :
    Obl.laneAt (elemBits (palCfg s lt pal).format) (vGet (retired lt (.lane n) 4 (cvtToDone s lt n ls vd vs1 pal)) lt j vd) i =
      BitVec.ofNat (elemBits (palCfg s lt pal).format) (encodeElem (palCfg s lt pal).format (palCfg s lt pal).sat (palCfg s lt pal).ftz
        ((palCfg s lt pal).rnd (laneRandom s lt n (vcvtCount (palCfg s lt pal).format * (j - ls.headD 0) + i)))
        ((fp32.decode (Obl.laneAt 32 (vGet s lt j vs1) i).toNat).scale (palCfg s lt pal).scaleExp) Tally.none).1 := by
  have hi4 : i < 4 := hi.trans_le (vcvtFormats hfmt).2.2.2
  have hlen : i < ((lanesOf 32 (vGet s lt j vs1)).take (vcvtCount (palCfg s lt pal).format)).length := by
    rw [List.length_take, length_lanesOf]
    exact lt_min hi hi4
  have hget : ((lanesOf 32 (vGet s lt j vs1)).take (vcvtCount (palCfg s lt pal).format)).getD i 0 = (Obl.laneAt 32 (vGet s lt j vs1) i).toNat := by
    rw [← getD_lanesOf (by decide) _ hi4, List.getD_eq_getElem?_getD, List.getElem?_take_of_lt hi, List.getD_eq_getElem?_getD]
  rw [retired_eq_jumped, vGet_jumped, vGet_cvtToDone _ _ _ _ _ _ hj, laneAt_ofLanes (vcvt_lane_within hfmt hi), cvtToLanes,
    getD_cvtTo _ _ _ _ _ hlen, hget]

/-- An infinity where the value goes beyond the range of FP32 (R103). -/
theorem fst_cvtDecode (r : Rnd) (v : FVal) : (cvtDecode r v).1 = (if (fp32.result r v).2.overflow then
    fp32.inf (match v with | .fin n _ _ => n | _ => false) else (fp32.result r v).1) := by
  unfold cvtDecode
  generalize fp32.result r v = x
  cases v with
  | nan => exact apply_ite Prod.fst _ _ _
  | inf s => exact apply_ite Prod.fst _ _ _
  | fin s m e => exact apply_ite Prod.fst _ _ _

/-- A lane that `vcvt` with DIR 1 writes (R103). -/
theorem laneAt_cvtFrom (hfmt : (palCfg s lt pal).format ∈ [0, 1, 2, 3, 4, 11, 12, 13]) {j : Nat} (hj : j ∈ ls) {i : Nat} (hi4 : i < 4) :
    Obl.laneAt 32 (vGet (retired lt (.lane n) 4 (cvtFromDone s lt n ls vd vs1 pal)) lt j vd) i =
      if i < vcvtCount (palCfg s lt pal).format then
        BitVec.ofNat 32 (cvtDecode ((palCfg s lt pal).rnd (laneRandom s lt n (vcvtCount (palCfg s lt pal).format * (j - ls.headD 0) + i)))
          (decodeThrough (palCfg s lt pal) (Obl.laneAt (elemBits (palCfg s lt pal).format) (vGet s lt j vs1) i).toNat 127)).1
      else 0 := by
  rw [retired_eq_jumped, vGet_jumped, vGet_cvtFromDone _ _ _ _ _ _ hj, laneAt_ofLanes (by omega), cvtFromLanes]
  by_cases hi : i < vcvtCount (palCfg s lt pal).format
  · rw [if_pos hi, getD_cvtFrom _ _ _ _ (by rwa [List.length_map, List.length_range])]
    have hget : ((List.range (vcvtCount (palCfg s lt pal).format)).map fun i => nfld (vGet s lt j vs1).toNat
        (elemBits (palCfg s lt pal).format * i + elemBits (palCfg s lt pal).format - 1) (elemBits (palCfg s lt pal).format * i)).getD i 0 =
        (Obl.laneAt (elemBits (palCfg s lt pal).format) (vGet s lt j vs1) i).toNat := by
      rw [← nfld_lane (vcvtFormats hfmt).2.1]
      simp [hi]
    rw [hget]
  · rw [if_neg hi, List.getD_eq_default _ _ (by rw [length_cvtFrom, List.length_map, List.length_range]; omega)]
    rfl

/-- The condition on the lanes that `vmov` permutes by. -/
theorem permute_in_range {s : State} {lt : Nat} {vs2 : BitVec 5} {ls : List Nat}
    (h : ∀ j ∈ ls, ∀ i, i < 4 → (Obl.laneAt 32 (vGet s lt j vs2) i).toNat < 4) :
    ls.find? (fun j => (lanesOf 32 (vGet s lt j vs2)).any fun i => decide (4 ≤ i)) = none := by
  rw [List.find?_eq_none]
  intro j hj hany
  obtain ⟨x, hx, hge⟩ := List.any_eq_true.mp hany
  rw [lanesOf_eq (by decide)] at hx
  obtain ⟨i, hi, rfl⟩ := List.mem_map.mp hx
  exact absurd (h j hj i (List.mem_range.mp hi)) (Nat.not_lt.mpr (of_decide_eq_true hge))

theorem getD_set_lanes (x : VWord) (k v : Nat) {i : Nat} (hi : i < 4) :
    ((lanesOf 32 x).set k v).getD i 0 = if i = k then v else (Obl.laneAt 32 x i).toNat := by
  rw [← getD_lanesOf (by decide) x hi, List.getD_eq_getElem?_getD, List.getElem?_set]
  by_cases h : k = i
  · have hlen : k < (lanesOf 32 x).length := by rw [length_lanesOf, h]; exact hi
    rw [if_pos h, if_pos hlen, if_pos h.symm, Option.getD_some]
  · rw [if_neg h, if_neg (Ne.symm h), List.getD_eq_getElem?_getD]

theorem getD_permute (x y : VWord) {i : Nat} (hi : i < 4) (hy : (Obl.laneAt 32 y i).toNat < 4) :
    ((lanesOf 32 y).map fun k => (lanesOf 32 x).getD k 0).getD i 0 = (Obl.laneAt 32 x (Obl.laneAt 32 y i).toNat).toNat := by
  have hlen : i < (lanesOf 32 y).length := by rwa [length_lanesOf]
  rw [← getD_lanesOf (by decide) x hy, List.getD_eq_getElem _ _ (by rwa [List.length_map]), List.getElem_map,
    ← getD_lanesOf (by decide) y hi, List.getD_eq_getElem _ _ hlen]

end Lanes

/-- A `vred` as a whole (R104, R121). -/
theorem vred_spec {s : State} {lt n : Nat} {vd vs1 vs2 : BitVec 5} {lcnt : BitVec 4} {ls : List Nat} {q : BitVec 2 × FloatFmt} (hq : q ∈ Obl.vfFmts)
    (op : Nat) (hissues : issues s lt (.lane n) 4 laneOnly = true) (hls : activeLanes ((fetched s lt (.lane n) 4).tile lt) n lcnt.toNat = some ls) :
    ∃ t, vred op lt (.lane n) vd vs1 vs2 q.1 lcnt s = .next t ∧
      (∀ j ∈ ls, vGet t lt j vd = if j = ls.headD 0 then
        (BitVec.ofNat q.2.bits (vredValue op q.2 (vredRnd (fetched s lt (.lane n) 4) lt n) (fetched s lt (.lane n) 4) lt ls vs1)).setWidth 128
        else 0) ∧ Obl.vecFrame lt n ls vd (fetched s lt (.lane n) 4) t := by
  refine ⟨_, vred_of_issues hissues hls (vfFmts_spec hq).1, fun j hj => ?_, ?_⟩
  · rw [vGet_vred _ _ _ _ _ (vfFmts_bits hq) _ _ hj, vredOut_value]
  · exact vecFrame_retired ((VecKept.eachSlice _ (decide_eq_true rfl) _).trans (VecKept.addFlags _ _ _))

/-! ### The statement -/

/-- Settles O27: the slices of each instruction, lane by lane. -/
theorem vectorConvert : Obligations.VectorConvert := by
  refine ⟨?_, ?_⟩
  · intro s lt n vd vs1 pal lcnt ls hissues f p w k hls hfmt
    obtain ⟨haccept, -, -, -⟩ := vcvtFormats hfmt
    have hto := exec_vcvtTo_of_issues (vd := vd) (vs1 := vs1) hissues hls haccept
    have hfrom := exec_vcvtFrom_of_issues (vd := vd) (vs1 := vs1) hissues hls haccept
    refine ⟨⟨_, hto, fun j hj => ⟨toNat_cvtTo_lt hfmt hj, fun i hi => ?_⟩, ?_⟩, ⟨_, hfrom, fun j hj i hi => ?_, ?_⟩⟩
    · exact laneAt_cvtTo hfmt hj hi
    · exact vecFrame_retired (vecKept_cvtTo f lt n ls vd vs1 _)
    · rw [laneAt_cvtFrom hfmt hj hi]
      refine if_congr Iff.rfl (congrArg (BitVec.ofNat 32) ?_) rfl
      exact fst_cvtDecode _ _
    · exact vecFrame_retired (vecKept_cvtFrom f lt n ls vd vs1 _)
  · intro s lt n vd vs1 vs2 lcnt ls hissues f hls
    have hframe := fun g => vecFrame_retired (n := n) (VecKept.eachSlice (lt := lt) (ls := ls) (vd := vd) f (decide_eq_true rfl) g)
    refine ⟨?_, fun hi => ?_, fun hi => ?_, fun hidx => ?_, fun heven => ?_, fun hodd => ?_, fun q hq => ?_, fun hmode => ?_⟩
    · refine ⟨_, exec_vmovBroadcast_of_issues hissues hls, fun j hj i hi => (laneAt_retired_eachSlice f lt n vd _ hj hi).trans ?_, hframe _⟩
      rw [List.getD_eq_getElem _ _ (by rwa [List.length_replicate]), List.getElem_replicate]
      exact BitVec.eq_of_toNat_eq (by rw [BitVec.toNat_ofNat, BitVec.toNat_setWidth])
    · rw [exec_vmovExtract_of_issues hissues hls hi, getD_lanesOf (by decide) _ hi]
      refine congrArg (fun x => Host.Outcome.next (retired lt (.lane n) 4 (gWrite f lt (.lane n) vd x))) (BitVec.eq_of_toNat_eq ?_)
      rw [BitVec.toNat_ofNat, BitVec.toNat_setWidth]
    · refine ⟨_, exec_vmovInsert_of_issues hissues hls hi, fun j hj i hi => (laneAt_retired_eachSlice f lt n vd _ hj hi).trans ?_, hframe _⟩
      rw [getD_set_lanes _ _ _ hi, apply_ite (BitVec.ofNat 32)]
      refine if_congr Iff.rfl (BitVec.eq_of_toNat_eq ?_) ((BitVec.ofNat_toNat 32 _).trans (BitVec.setWidth_eq _))
      rw [BitVec.toNat_ofNat, BitVec.toNat_setWidth]
    · refine ⟨_, exec_vmovPermute_of_issues hissues hls (permute_in_range hidx), fun j hj i hi =>
        (laneAt_retired_eachSlice f lt n vd _ hj hi).trans ?_, hframe _⟩
      rw [getD_permute _ _ hi (hidx j hj i hi)]
      exact (BitVec.ofNat_toNat 32 _).trans (BitVec.setWidth_eq _)
    · have hkept := vecKept_radd f lt ls vd vs1
      refine ⟨_, (exec_radd_of_issues hissues hls).trans (congrArg _ (if_neg (by omega))), fun j hj i hi => ?_, fun y j r hno => ?_, ?_⟩
      · obtain ⟨hvalue, htail⟩ := laneAt_radd f lt vd vs1 hj hi
        rw [retired_eq_jumped, vGet_jumped, vGet_jumped]
        exact ⟨hvalue, htail, fp32cAdd_tail _ _ _⟩
      · rw [retired_eq_jumped, vGet_jumped]
        exact hkept.vectors y j r (by rwa [decide_eq_true_eq])
      · rw [retired_eq_jumped]
        exact sameMemory_trans hkept.memory.sameMemory (sameMemory_jumped _ lt _ _)
    · exact ⟨_, (exec_radd_of_issues hissues hls).trans (congrArg _ (if_pos hodd))⟩
    · intro r p hp
      simp only [List.mem_cons, List.not_mem_nil, or_false] at hp
      rcases hp with rfl | rfl | rfl
      · exact vred_spec hq 0 hissues hls
      · exact vred_spec hq 1 hissues hls
      · exact vred_spec hq 2 hissues hls
    · intro r add l
      have hone := activeLanes_grid_some hmode hls
      have hlead : leadLane (f.tile lt) n = n := by
        rw [leadLane, hmode]
        rfl
      obtain ⟨t, hexec, hslices, -⟩ := vred_spec (vd := vd) (vs1 := vs1) (vs2 := vs2) (q := (0, fp32)) (by simp [Obl.vfFmts]) 0 hissues hls
      refine ⟨t, hexec, ?_⟩
      rw [hslices n (by rw [hone]; exact List.mem_singleton_self n), hone, if_pos (show n = [n].headD 0 from rfl)]
      refine congrArg (fun x => (BitVec.ofNat 32 x).setWidth 128) ?_
      rw [vredValue, List.map_singleton, treeReduce_one, vredRnd, hlead, show fp32.bits = 32 from rfl, lanesOf_eq (by decide)]
      rfl

end Sys2Proof.Machine
end

section
/-!
O10: the block load, and vector loads and stores slice by slice.
-/
namespace Sys2Proof.Machine

open Sys2Proof

/-! ### Parts of a range -/

theorem mem_wordsOf {off n w : Nat} (hn : 0 < n) : w ∈ wordsOf off n ↔ off / 8 ≤ w ∧ w ≤ (off + n - 1) / 8 := by
  have hle : off / 8 ≤ (off + n - 1) / 8 := Nat.div_le_div_right (by omega)
  rw [wordsOf, if_neg (Nat.pos_iff_ne_zero.mp hn), List.mem_map]
  constructor
  · rintro ⟨i, hi, rfl⟩
    have := List.mem_range.mp hi
    omega
  · rintro ⟨hlo, hhi⟩
    exact ⟨w - off / 8, List.mem_range.mpr (by omega), by omega⟩

theorem healthy_of_within {s : State} {lt a n off m : Nat} (hm : 0 < m) (hlo : a ≤ off) (hhi : off + m ≤ a + n) (h : healthy s lt a n = true) :
    healthy s lt off m = true := by
  rw [healthy_iff] at h ⊢
  refine ⟨h.1, fun w hw => h.2 w ?_⟩
  rw [mem_wordsOf hm] at hw
  rw [mem_wordsOf (by omega)]
  exact ⟨(Nat.div_le_div_right hlo).trans hw.1, hw.2.trans (Nat.div_le_div_right (by omega))⟩

theorem boltForbids_of_within {s : State} {lt a n off m : Nat} (hlo : a ≤ off) (hhi : off + m ≤ a + n) (h : boltForbids s lt a n = false) :
    boltForbids s lt off m = false := by
  rw [boltForbids, List.any_eq_false] at h ⊢
  intro b hb hforbids
  refine h b hb ?_
  simp only [Bool.and_eq_true, decide_eq_true_eq] at hforbids ⊢
  obtain ⟨⟨hcfg, hbelow⟩, habove⟩ := hforbids
  exact ⟨⟨hcfg, hlo.trans_lt hbelow⟩, habove.trans_le hhi⟩

theorem visible_of_within {a n off m : Nat} (hhi : off + m ≤ a + n) (h : visible a n = true) : visible off m = true := by
  rw [visible, decide_eq_true_eq] at h ⊢
  exact hhi.trans h

/-- The address of a part of a visible access does not wrap. -/
theorem part_mod {a n off : Nat} (hhi : off ≤ a + n) (h : visible a n = true) : off % 2 ^ 32 = off := by
  rw [visible, decide_eq_true_eq, saveBase] at h
  exact Nat.mod_eq_of_lt (by omega)

/-! ### Vector registers under accesses -/

theorem accessBlind_lanes : AccessBlind Tile.lanes where
  recorder _ _ := rfl
  isolated _ _ := rfl
  isoBanks _ _ := rfl
  regs _ _ _ _ := rfl
  errs _ _ := rfl
  counters _ _ := rfl
  eccRegs _ _ _ _ := rfl

theorem vGet_readDone (s : State) (lt : Nat) (c : CoreId) (off n y k : Nat) (r : BitVec 5) : vGet (readDone s lt c off n) y k r = vGet s y k r :=
  vGet_of_lanes ((accessBlind_lanes.readDone s lt c off n).tile y) r

theorem vGet_storeDone (s : State) (lt : Nat) (c : CoreId) (off : Nat) (bs : List Byte) (y k : Nat) (r : BitVec 5) :
    vGet (storeDone s lt c off bs) y k r = vGet s y k r :=
  vGet_of_lanes ((accessBlind_lanes.storeDone (fun _ _ => rfl) s lt c off bs).tile y) r

theorem wf_storeDone {s : State} {lt : Nat} (h : Memory.wf (s.tile lt).mem = true) (c : CoreId) (off : Nat) (bs : List Byte) :
    Memory.wf ((storeDone s lt c off bs).tile lt).mem = true := by
  have hcount : Kept Tile.mem (memStore s lt off bs) (storeDone s lt c off bs) :=
    (accessBlind_mem.bumpCnt _ lt 5 _).trans (accessBlind_mem.bumpXbar _ lt _ _)
  rw [hcount.tile lt, memStore, State.tile_modTile_self]
  exact Memory.wf_memPut _ _ h

/-! ### Slices read -/

/-- The words that the parts of a vector load find in a memory. -/
def sliceWords (m : Memory) (addr : Nat) : Nat → List Nat → List (Nat × VWord)
  | _, [] => []
  | j, n :: ns => (n, BitVec.ofNat 128 (leNat (memBytes m (addr + 16 * j) 16))) :: sliceWords m addr (j + 1) ns

/-- The state after every part of a vector load has been read. -/
def slicesRead (s : State) (lt addr : Nat) : Nat → List Nat → State
  | _, [] => s
  | j, n :: ns => slicesRead (readDone s lt (.lane n) (addr + 16 * j) 16) lt addr (j + 1) ns

theorem readSlices_of_healthy {lt addr size : Nat} (halign : addr % 16 = 0) (hvis : visible addr size = true) {ls : List Nat} {j : Nat}
    (hsize : 16 * (j + ls.length) ≤ size) {s : State} (hhealthy : healthy s lt addr size = true) :
    readSlices s lt addr j ls = (slicesRead s lt addr j ls, .ok (sliceWords (s.tile lt).mem addr j ls)) := by
  induction ls generalizing j s with
  | nil => rfl
  | cons n ns ih =>
    rw [List.length_cons] at hsize
    have hread : coreRead s lt (.lane n) (addr + 16 * j) 16 =
        (readDone s lt (.lane n) (addr + 16 * j) 16, .ok (memBytes (s.tile lt).mem (addr + 16 * j) 16)) :=
      coreRead_of_healthy (piecesOf_aligned (by decide) (by omega)) (if_pos (visible_of_within (by omega) hvis))
        (healthy_of_within (by decide) (by omega) (by omega) hhealthy)
    have hmem := (accessBlind_mem.readDone s lt (.lane n) (addr + 16 * j) 16).tile lt
    rw [readSlices, part_mod (by omega) hvis, hread]
    dsimp only
    rw [ih (by omega) ((BanksKept.readDone lt s _ _ _).healthy hhealthy), hmem]
    rfl

theorem sameMemory_slicesRead (s : State) (lt addr j : Nat) (ls : List Nat) : sameMemory s (slicesRead s lt addr j ls) := by
  induction ls generalizing j s with
  | nil => exact fun _ _ => rfl
  | cons n ns ih => exact sameMemory_trans (accessBlind_mem.readDone s lt _ _ _).sameMemory (ih _ _)

theorem vGet_slicesRead (s : State) (lt addr j : Nat) (ls : List Nat) (y k : Nat) (r : BitVec 5) :
    vGet (slicesRead s lt addr j ls) y k r = vGet s y k r := by
  induction ls generalizing j s with
  | nil => rfl
  | cons n ns ih => exact (ih _ _).trans (vGet_readDone s lt _ _ _ y k r)

/-- The state with loaded words in their registers. -/
def slicesLoaded (s : State) (lt : Nat) (vd : BitVec 5) (ws : List (Nat × VWord)) : State := ws.foldl (fun u p => vSet u lt p.1 vd p.2) s

theorem sameMemory_slicesLoaded (s : State) (lt : Nat) (vd : BitVec 5) (ws : List (Nat × VWord)) : sameMemory s (slicesLoaded s lt vd ws) := by
  induction ws generalizing s with
  | nil => exact fun _ _ => rfl
  | cons p r ih => exact sameMemory_trans (Kept.modLane s lt fun _ => rfl : Kept Tile.mem s (vSet s lt p.1 vd p.2)).sameMemory (ih _)

/-- The registers after a vector load: slice `k` takes the word at its place in the list. -/
theorem vGet_slicesLoaded (m : Memory) (lt addr : Nat) (vd : BitVec 5) {ls : List Nat} (hnodup : ls.Nodup) (j : Nat) (s : State) (k : Nat) (r : BitVec 5) :
    vGet (slicesLoaded s lt vd (sliceWords m addr j ls)) lt k r =
      if r = vd ∧ k ∈ ls then BitVec.ofNat 128 (leNat (memBytes m (addr + 16 * (j + ls.idxOf k)) 16)) else vGet s lt k r := by
  induction ls generalizing j s with
  | nil => simp [sliceWords, slicesLoaded]
  | cons n ns ih =>
    obtain ⟨hn, hns⟩ := List.nodup_cons.mp hnodup
    have hstep : slicesLoaded s lt vd (sliceWords m addr j (n :: ns)) = slicesLoaded
        (vSet s lt n vd (BitVec.ofNat 128 (leNat (memBytes m (addr + 16 * j) 16)))) lt vd (sliceWords m addr (j + 1) ns) := rfl
    rw [hstep, ih hns, vGet_vSet]
    by_cases hr : r = vd
    · by_cases hk : k = n
      · subst hk
        rw [if_neg (fun h => hn h.2), if_pos ⟨rfl, rfl, hr⟩, if_pos ⟨hr, List.mem_cons_self⟩, List.idxOf_cons_self, Nat.add_zero]
      · rw [List.idxOf_cons_ne _ (Ne.symm hk), Nat.add_right_comm j 1, Nat.add_assoc j _ 1]
        simp [hk]
    · simp [hr]

/-! ### Slices stored -/

theorem writeSlices_of_healthy {lt addr size : Nat} (vd : BitVec 5) (hvis : visible addr size = true) {ls : List Nat} {j : Nat}
    (hsize : 16 * (j + ls.length) ≤ size) {s : State} (hhealthy : healthy s lt addr size = true) (hbolt : boltForbids s lt addr size = false)
    (hwf : Memory.wf (s.tile lt).mem = true) :
    ∃ t, writeSlices s lt addr vd j ls = (t, none) ∧ sameMemoryBut lt (addr + 16 * j) (16 * ls.length) s t ∧
      (∀ i < ls.length, memBytes (t.tile lt).mem (addr + 16 * (j + i)) 16 = leBytes 16 (vGet s lt (ls.getD i 0) vd).toNat) ∧
      ∀ k r, vGet t lt k r = vGet s lt k r := by
  induction ls generalizing j s with
  | nil => exact ⟨s, rfl, fun _ _ _ => rfl, fun i hi => absurd hi (Nat.not_lt_zero i), fun _ _ => rfl⟩
  | cons n ns ih =>
    rw [List.length_cons] at hsize
    obtain ⟨bs, hbs⟩ : ∃ bs, bs = leBytes 16 (vGet s lt n vd).toNat := ⟨_, rfl⟩
    have hlen : bs.length = 16 := by rw [hbs, length_leBytes]
    have hkept := BanksKept.storeDone lt s (.lane n) (addr + 16 * j) bs
    have hstore : coreStore s lt (.lane n) (addr + 16 * j) bs = (storeDone s lt (.lane n) (addr + 16 * j) bs, none) :=
      coreStore_of_healthy (if_pos (visible_of_within (a := addr) (n := size) (by omega) hvis)) (boltForbids_of_within (a := addr) (n := size) (by omega) (by omega) hbolt)
        (healthy_of_within (a := addr) (n := size) (by omega) (by omega) (by omega) hhealthy)
    obtain ⟨t, hrest, hmem, hbytes, hregs⟩ := ih (j := j + 1) (by omega) (hkept.healthy hhealthy) ((hkept.boltForbids _ _).trans hbolt)
      (wf_storeDone hwf (.lane n) (addr + 16 * j) bs)
    refine ⟨t, ?_, fun y x hout => ?_, fun i hi => ?_, fun k r => (hregs k r).trans (vGet_storeDone s lt _ _ _ lt k r)⟩
    · rw [writeSlices, part_mod (by omega) hvis, ← hbs, hstore]
      exact hrest
    · rw [List.length_cons] at hout
      rw [hmem y x (by omega)]
      exact sameMemoryBut_storeDone hwf (.lane n) _ bs y x (by omega)
    · cases i with
      | zero =>
        have hfirst : memBytes (t.tile lt).mem (addr + 16 * j) 16 = memBytes ((storeDone s lt (.lane n) (addr + 16 * j) bs).tile lt).mem (addr + 16 * j) 16 :=
          memBytes_congr fun x _ _ => hmem lt x (by omega)
        rw [Nat.add_zero, hfirst, ← hlen, memBytes_storeDone hwf, hbs]
        simp
      | succ i =>
        rw [List.length_cons] at hi
        rw [← Nat.add_assoc, Nat.add_right_comm, hbytes i (by omega), vGet_storeDone, List.getD_cons_succ]

/-! ### The statement -/

/-- Settles O10: a vector access is one access of 16 B for each lane core, in order. -/
theorem blockAndVectorAccess : Obligations.BlockAndVectorAccess := by
  refine ⟨?_, ?_⟩
  · intro s lt c rd rs1 rs2 s1 s2 s3 b bs hissues f hb hvalid hsize hblock hstore
    refine (insn_of_issues _ _ hissues).trans ?_
    simp only [show coreRead (fetched s lt c 4) lt c (addrOf (fetched s lt c 4) lt c rs1 0).toNat 32 = (s1, .ok b) from hb, hvalid, hblock, hstore,
      Bool.not_true, Bool.false_or, decide_eq_false (Nat.not_lt.mpr hsize), Bool.false_eq_true, if_false]
    rfl
  · intro s lt n vd rs1 imm hissues f a ls halign hvis hhealthy
    have hcase : ∀ {α : Type} (x y : α), (if a % 16 ≠ 0 then x else y) = y := fun x y => if_neg (by simp [halign])
    refine ⟨?_, fun hbolt hwf => ?_⟩
    · have hread := readSlices_of_healthy halign hvis (j := 0) (by rw [Nat.zero_add]) hhealthy
      have hvalue := fun k r => (vGet_slicesLoaded (f.tile lt).mem lt a vd (nodup_coreLanes (f.tile lt) n) 0 (slicesRead f lt a 0 ls) k r).trans
        (congrArg _ (vGet_slicesRead f lt a 0 ls lt k r))
      refine ⟨retired lt (.lane n) 4 (slicesLoaded (slicesRead f lt a 0 ls) lt vd (sliceWords (f.tile lt).mem a 0 ls)), ?_, ?_, fun j hj => ?_,
        fun k r hno => ?_⟩
      · rw [show exec (.vld lt (.lane n) vd rs1 imm) s = execVld lt (.lane n) vd rs1 imm s from rfl, execVld,
          vinsn_of_issues _ _ hissues (lcnt := 0) (activeLanes_zero _ n)]
        simp only [vecAddr_eq]
        rw [hcase, hread]
        rfl
      · rw [retired_eq_jumped]
        exact sameMemory_trans (sameMemory_trans (sameMemory_slicesRead f lt a 0 ls) (sameMemory_slicesLoaded _ lt vd _)) (sameMemory_jumped _ lt _ _)
      · have hmem : ls.getD j 0 ∈ ls := by
          rw [List.getD_eq_getElem _ _ hj]
          exact List.getElem_mem hj
        have hidx : ls.idxOf (ls.getD j 0) = j := by
          rw [List.getD_eq_getElem _ _ hj]
          exact (nodup_coreLanes (f.tile lt) n).idxOf_getElem j hj
        rw [retired_eq_jumped, vGet_jumped, hvalue, if_pos ⟨rfl, hmem⟩, Nat.zero_add, hidx]
      · rw [retired_eq_jumped, vGet_jumped, hvalue, if_neg]
        rintro ⟨rfl, hk⟩
        exact hno.elim (fun h => h hk) (fun h => h rfl)
    · obtain ⟨t, hwrite, hmem, hbytes, hregs⟩ := writeSlices_of_healthy vd hvis (j := 0) (by rw [Nat.zero_add]) hhealthy hbolt hwf
      refine ⟨retired lt (.lane n) 4 t, ?_, ?_, fun j hj => ?_, fun k r => ?_⟩
      · rw [show exec (.vst lt (.lane n) vd rs1 imm) s = execVst lt (.lane n) vd rs1 imm s from rfl, execVst,
          vinsn_of_issues _ _ hissues (lcnt := 0) (activeLanes_zero _ n)]
        simp only [vecAddr_eq]
        rw [hcase, hwrite]
        rfl
      · rw [retired_eq_jumped]
        exact sameMemoryBut_trans hmem (sameMemoryBut_of_sameMemory (sameMemory_jumped t lt _ _) lt _ _)
      · rw [retired_eq_jumped, ← hbytes j hj, Nat.zero_add]
        exact memBytes_congr fun x _ _ => sameMemory_jumped t lt _ _ lt x
      · rw [retired_eq_jumped, vGet_jumped, hregs]

end Sys2Proof.Machine
end

section
/-!
O28: the message at the head of the AM Bolt, its entry, its release, and the return from its handler.
-/
namespace Sys2Proof.Machine

open Sys2Proof

/-! ### Reads that leave the TCC, the registers and memory -/

/-- From `s` to `t` a tile reads as before: its banks, its registers and every byte of memory. -/
structure SameReads (lt : Nat) (s t : State) : Prop where
  banks : BanksKept lt s t
  memory : Kept Tile.mem s t

/-- From `s` to `t` a tile's memory was read at most, without a fault. -/
structure ReadKept (lt : Nat) (s t : State) : Prop extends SameReads lt s t where
  tcc : Kept Tile.tcc s t

theorem ReadKept.trans {lt : Nat} {s t u : State} (h : ReadKept lt s t) (k : ReadKept lt t u) : ReadKept lt s u :=
  ⟨⟨h.banks.trans k.banks, h.memory.trans k.memory⟩, h.tcc.trans k.tcc⟩

theorem SameReads.treg {lt : Nat} {s t : State} (h : SameReads lt s t) (off : Nat) : t.treg lt off = s.treg lt off :=
  State.treg_of_regs h.banks.regs off

theorem SameReads.tfld {lt : Nat} {s t : State} (h : SameReads lt s t) (off hi lo : Nat) : t.tfld lt off hi lo = s.tfld lt off hi lo := by
  rw [State.tfld, h.treg, State.tfld]

theorem accessBlind_tcc : AccessBlind Tile.tcc where
  recorder _ _ := rfl
  isolated _ _ := rfl
  isoBanks _ _ := rfl
  regs _ _ _ _ := rfl
  errs _ _ := rfl
  counters _ _ := rfl
  eccRegs _ _ _ _ := rfl

theorem boltBlind_tcc : BoltBlind Tile.tcc := ⟨fun _ _ => rfl, fun _ _ => rfl, fun _ _ => rfl⟩

theorem ReadKept.readDone (lt : Nat) (s : State) (c : CoreId) (off n : Nat) : ReadKept lt s (readDone s lt c off n) :=
  ⟨⟨BanksKept.readDone lt s c off n, accessBlind_mem.readDone s lt c off n⟩, accessBlind_tcc.readDone s lt c off n⟩

theorem memRead_of_healthy {s : State} {lt off n : Nat} (h : healthy s lt off n = true) :
    memRead s lt off n = (readDone s lt .tcc off n, .ok (memBytes (s.tile lt).mem off n)) := memReadBy_of_healthy h .tcc

/-! ### Bytes of a Bolt -/

/-- `n` bytes from an offset of a Bolt that has `room` left behind it, going on at its base (R71). -/
def boltBytes (m : Memory) (off base room n : Nat) : List Byte :=
  if n ≤ room then memBytes m off n else memBytes m off room ++ memBytes m base (n - room)

theorem take_memBytes (m : Memory) (a k n : Nat) : (memBytes m a n).take k = memBytes m a (min k n) := by
  rw [memBytes, ← List.map_take, List.take_range, memBytes]

theorem length_boltBytes (m : Memory) (off base room n : Nat) : (boltBytes m off base room n).length = n := by
  unfold boltBytes
  split
  · exact length_memBytes m off n
  · rw [List.length_append, length_memBytes, length_memBytes]
    omega

theorem take_boltBytes (m : Memory) (off base room : Nat) {k n : Nat} (h : k ≤ n) :
    (boltBytes m off base room n).take k = boltBytes m off base room k := by
  unfold boltBytes
  by_cases hn : n ≤ room
  · rw [if_pos hn, if_pos (h.trans hn), take_memBytes, Nat.min_eq_left h]
  · rw [if_neg hn, List.take_append, take_memBytes, take_memBytes, length_memBytes]
    by_cases hk : k ≤ room
    · rw [if_pos hk, Nat.min_eq_left hk, Nat.sub_eq_zero_of_le hk, Nat.zero_min]
      exact List.append_nil _
    · rw [if_neg hk, Nat.min_eq_right (by omega), Nat.min_eq_left (by omega)]

/-- A field of a record's beginning. -/
theorem fieldAt_take {bs : List Byte} {i n k : Nat} (h : i + n ≤ k) (hk : k ≤ bs.length) : fieldAt (bs.take k) i n = fieldAt bs i n := by
  have hlen : (bs.take k).length = k := by rw [List.length_take, Nat.min_eq_left hk]
  rw [fieldAt, slice_of_le (by omega), fieldAt, slice_of_le (by omega), List.drop_take, List.take_take, Nat.min_eq_left (by omega)]

theorem boltRead_of_healthy {s : State} {lt b start n : Nat}
    (hhead : healthy s lt (slotOff s lt b start) (min n (cfgBase (boltCfg s lt b) + cfgSize (boltCfg s lt b) - slotOff s lt b start)) = true)
    (hbase : healthy s lt (cfgBase (boltCfg s lt b)) (n - (cfgBase (boltCfg s lt b) + cfgSize (boltCfg s lt b) - slotOff s lt b start)) = true) :
    ∃ t, ReadKept lt s t ∧ boltRead s lt b start n = (t, .ok (boltBytes (s.tile lt).mem (slotOff s lt b start) (cfgBase (boltCfg s lt b))
      (cfgBase (boltCfg s lt b) + cfgSize (boltCfg s lt b) - slotOff s lt b start) n)) := by
  unfold boltRead boltBytes
  dsimp only
  by_cases h : n ≤ cfgBase (boltCfg s lt b) + cfgSize (boltCfg s lt b) - slotOff s lt b start
  · rw [Nat.min_eq_left h] at hhead
    rw [if_pos h, if_pos h, memRead_of_healthy hhead]
    exact ⟨_, ReadKept.readDone lt s _ _ _, rfl⟩
  · rw [Nat.min_eq_right (by omega)] at hhead
    have hfirst := ReadKept.readDone lt s .tcc (slotOff s lt b start) (cfgBase (boltCfg s lt b) + cfgSize (boltCfg s lt b) - slotOff s lt b start)
    rw [if_neg h, if_neg h, memRead_of_healthy hhead]
    dsimp only
    rw [memRead_of_healthy (hfirst.banks.healthy hbase), hfirst.memory.tile lt]
    exact ⟨_, hfirst.trans (ReadKept.readDone lt _ _ _ _), rfl⟩

/-! ### The message at the head -/

/-- The offset of the message at the head of the AM Bolt. -/
def amHead (s : State) (lt : Nat) : Nat := slotOff s lt (amBolt s lt) (boltHead s lt (amBolt s lt))

def amBase (s : State) (lt : Nat) : Nat := cfgBase (boltCfg s lt (amBolt s lt))

/-- The bytes from the message to the end of the Bolt. -/
def amRoom (s : State) (lt : Nat) : Nat := amBase s lt + cfgSize (boltCfg s lt (amBolt s lt)) - amHead s lt

/-- The first bytes of the message. -/
def amBytes (s : State) (lt n : Nat) : List Byte := boltBytes (s.tile lt).mem (amHead s lt) (amBase s lt) (amRoom s lt) n

/-- The entry of the handler table that a handler number names (R283). -/
def amEntryOff (s : State) (lt hd : Nat) : Nat := s.tfld lt regChAmBase 27 11 * 2 ^ 11 + 8 * hd

/-- The message's first 64 bytes can be read, and the counters of its Bolt fit their registers. -/
structure AmReadable (lt : Nat) (s : State) : Prop where
  modulus : boltMod s lt (amBolt s lt) ≤ 2 ^ 20
  head : healthy s lt (amHead s lt) (min 64 (amRoom s lt)) = true
  base : healthy s lt (amBase s lt) (64 - amRoom s lt) = true

section Transport
variable {lt : Nat} {s t : State} (h : SameReads lt s t)
include h

theorem SameReads.amBolt : amBolt t lt = amBolt s lt := h.tfld _ _ _
theorem SameReads.boltCfg (b : Nat) : boltCfg t lt b = boltCfg s lt b := h.treg _
theorem SameReads.boltHead (b : Nat) : boltHead t lt b = boltHead s lt b := h.tfld _ _ _
theorem SameReads.boltMod (b : Nat) : boltMod t lt b = boltMod s lt b := by rw [Machine.boltMod, h.boltCfg, Machine.boltMod]

theorem SameReads.boltReady (b : Nat) : boltReady t lt b = boltReady s lt b := by
  rw [Machine.boltReady, h.boltMod, h.boltHead, boltCommit, h.tfld, Machine.boltReady, boltCommit]

theorem SameReads.bytesSlots (b n : Nat) : bytesSlots t lt b n = bytesSlots s lt b n := by rw [Machine.bytesSlots, h.boltCfg, Machine.bytesSlots]

theorem SameReads.amHead : amHead t lt = amHead s lt := by
  rw [Machine.amHead, slotOff, h.amBolt, h.boltHead, h.boltCfg, Machine.amHead, slotOff]

theorem SameReads.amBase : amBase t lt = amBase s lt := by rw [Machine.amBase, h.amBolt, h.boltCfg, Machine.amBase]

theorem SameReads.amRoom : amRoom t lt = amRoom s lt := by
  rw [Machine.amRoom, h.amBolt, h.boltCfg, h.amHead, h.amBase, Machine.amRoom]

theorem SameReads.amBytes (n : Nat) : amBytes t lt n = amBytes s lt n := by
  rw [Machine.amBytes, h.memory.tile lt, h.amHead, h.amBase, h.amRoom, Machine.amBytes]

theorem SameReads.amEntryOff (hd : Nat) : amEntryOff t lt hd = amEntryOff s lt hd := by rw [Machine.amEntryOff, h.tfld, Machine.amEntryOff]

theorem SameReads.amReadable (hs : AmReadable lt s) : AmReadable lt t where
  modulus := by rw [h.amBolt, h.boltMod]; exact hs.modulus
  head := by rw [h.amHead, h.amRoom]; exact h.banks.healthy hs.head
  base := by rw [h.amBase, h.amRoom]; exact h.banks.healthy hs.base

end Transport

/-- The message's header reads as the beginning of its first 64 bytes. -/
theorem fieldAt_amBytes (s : State) (lt : Nat) {i n : Nat} (h : i + n ≤ 32) : fieldAt (amBytes s lt 32) i n = fieldAt (amBytes s lt 64) i n := by
  have htake : amBytes s lt 32 = (amBytes s lt 64).take 32 := (take_boltBytes _ _ _ _ (by decide)).symm
  rw [htake, fieldAt_take h (by rw [amBytes, length_boltBytes]; decide)]

theorem healthy_zero {s : State} {lt off n : Nat} (h : healthy s lt off n = true) (a : Nat) : healthy s lt a 0 = true := by
  rw [healthy_iff] at h ⊢
  exact ⟨h.1, fun w hw => absurd hw (by simp [wordsOf])⟩

theorem healthy_of_le {s : State} {lt off m n : Nat} (hm : m ≤ n) (h : healthy s lt off n = true) : healthy s lt off m = true := by
  rcases Nat.eq_zero_or_pos m with rfl | hpos
  · exact healthy_zero h off
  · exact healthy_of_within hpos le_rfl (by omega) h

theorem AmReadable.boltRead {lt : Nat} {s : State} (h : AmReadable lt s) {n : Nat} (hn : n ≤ 64) :
    ∃ t, ReadKept lt s t ∧ boltRead s lt (amBolt s lt) (boltHead s lt (amBolt s lt)) n = (t, .ok (amBytes s lt n)) :=
  boltRead_of_healthy (healthy_of_le (min_le_min_right _ hn) h.head) (healthy_of_le (Nat.sub_le_sub_right hn _) h.base)

/-! ### The release -/

/-- The slots of the message at the head (R295). -/
def amSlots (s : State) (lt : Nat) : Nat :=
  bytesSlots s lt (amBolt s lt) ((if fieldAt (amBytes s lt 64) 0x11 1 = 0xFF then 32 else 64) + fieldAt (amBytes s lt 64) 8 4)

theorem SameReads.amSlots {lt : Nat} {s t : State} (h : SameReads lt s t) : amSlots t lt = amSlots s lt := by
  rw [Machine.amSlots, h.amBytes, h.amBolt, h.bytesSlots, Machine.amSlots]

theorem AmReadable.amRelease {lt : Nat} {s : State} (h : AmReadable lt s) : ∃ t, ReadKept lt s t ∧
    amRelease s lt = boltRelease t lt (amBolt s lt) (min (amSlots s lt) (boltReady s lt (amBolt s lt))) := by
  obtain ⟨t, hkept, hread⟩ := h.boltRead (n := 32) (by decide)
  have hlength : amLength s lt = (t, amSlots s lt) := by
    rw [amLength]
    rw [hread]
    dsimp only
    rw [fieldAt_amBytes s lt (by decide), fieldAt_amBytes s lt (by decide)]
    rfl
  refine ⟨t, hkept, ?_⟩
  rw [Machine.amRelease, hlength, amFree]
  dsimp only
  rw [hkept.amBolt, hkept.boltReady]

/-- HEAD moves on by the message's slots (R72). -/
theorem AmReadable.boltHead_amRelease {lt : Nat} {s : State} (h : AmReadable lt s) : boltHead (Machine.amRelease s lt) lt (amBolt s lt) =
    (boltHead s lt (amBolt s lt) + min (amSlots s lt) (boltReady s lt (amBolt s lt))) % boltMod s lt (amBolt s lt) := by
  obtain ⟨t, hkept, hrelease⟩ := h.amRelease
  rw [hrelease, boltHead_boltRelease t lt _ (by rw [hkept.boltMod]; exact h.modulus), hkept.boltHead, hkept.boltMod]

/-- The other registers stay. -/
theorem AmReadable.treg_amRelease {lt : Nat} {s : State} (h : AmReadable lt s) {off : Nat} (hoff : off ≠ regBoltHead (amBolt s lt)) :
    (Machine.amRelease s lt).treg lt off = s.treg lt off := by
  obtain ⟨t, hkept, hrelease⟩ := h.amRelease
  rw [hrelease, treg_boltRelease _ _ _ _ _ hoff, hkept.treg]

theorem Kept.of_fst {α β : Type} {o : Tile → β} {s t : State} {x : State × α} {a : α} (h : x = (t, a)) (k : Kept o s x.1) : Kept o s t := by
  rw [h] at k
  exact k

theorem AccessBlind.boltRead {β : Type} {o : Tile → β} (ho : AccessBlind o) (s : State) (lt b start n : Nat) : Kept o s (boltRead s lt b start n).1 := by
  have hread : ∀ u off m, Kept o u (memRead u lt off m).1 := fun u off m => ho.memReadBy u lt false off m
  unfold Machine.boltRead
  extract_lets cfg off room
  split
  · exact hread s _ _
  · split
    · next h => exact Kept.of_fst h (hread s _ _)
    · next h =>
      have hfirst := Kept.of_fst h (hread s _ _)
      split
      · next h' => exact hfirst.trans (Kept.of_fst h' (hread _ _ _))
      · next h' => exact hfirst.trans (Kept.of_fst h' (hread _ _ _))

theorem amLength_fst (s : State) (lt : Nat) : (amLength s lt).1 = (boltRead s lt (amBolt s lt) (boltHead s lt (amBolt s lt)) 32).1 := by
  unfold amLength
  extract_lets b
  split
  · next h => rw [h]
  · next h => rw [h]

/-- What reads and Bolts leave, the release of a message leaves, whether its header can be read or not. -/
theorem AccessBlind.amRelease {β : Type} {o : Tile → β} (ho : AccessBlind o) (hb : BoltBlind o) (s : State) (lt x : Nat) :
    o ((amRelease s lt).tile x) = o (s.tile x) := by
  rw [Machine.amRelease, amFree]
  refine (hb.boltRelease _ lt _ x _).trans ?_
  rw [amLength_fst]
  exact (ho.boltRead s lt _ _ 32).tile x

/-! ### The entry -/

/-- The trap of an active message: the handler's number and IN_HANDLER go into AM_STATUS (R296, R110). -/
def amEntered (s : State) (lt hd head target : Nat) : State :=
  ((modTcc s lt fun c => enterTrap c false c.pc (causeWord 9 stOk c.prv true) (BitVec.ofNat 64 head) (BitVec.ofNat 64 target)).setTbit lt
    regChAmStatus 0 true).setTfld lt regChAmStatus 15 8 hd

section Entry
variable {lt : Nat} {s : State} (h : AmReadable lt s)
include h

/-- A void header is released (R284). -/
theorem AmReadable.amEnter_void (hvoid : fieldAt (amBytes s lt 64) 0x11 1 = 0xFF) : ∃ t, ReadKept lt s t ∧ amEnter s lt = Machine.amRelease t lt := by
  obtain ⟨t, hkept, hread⟩ := h.boltRead (n := 64) le_rfl
  refine ⟨t, hkept, ?_⟩
  rw [amEnter]
  simp only [hread, hvoid, if_true]

variable (hvoid : fieldAt (amBytes s lt 64) 0x11 1 ≠ 0xFF)
  (hentry : healthy s lt (amEntryOff s lt (fieldAt (amBytes s lt 64) 0x20 1)) 8 = true)
include hvoid hentry

/-- A message is entered where bit 0 of its handler's entry is set, and goes as one with a bad handler where it is not (R296). -/
theorem AmReadable.amEnter_message : ∃ t, ReadKept lt s t ∧ amEnter s lt =
    (if nbit (leNat (memBytes (s.tile lt).mem (amEntryOff s lt (fieldAt (amBytes s lt 64) 0x20 1)) 8)) 0 then
      amEntered t lt (fieldAt (amBytes s lt 64) 0x20 1) (amHead s lt)
        (leNat (memBytes (s.tile lt).mem (amEntryOff s lt (fieldAt (amBytes s lt 64) 0x20 1)) 8) / 4 * 4)
    else amBad t lt (fieldAt (amBytes s lt 64) 0x20 1) (amBytes s lt 64)) := by
  obtain ⟨t, hkept, hread⟩ := h.boltRead (n := 64) le_rfl
  have hmem : memRead t lt (t.tfld lt regChAmBase 27 11 * 2 ^ 11 + 8 * fieldAt (amBytes s lt 64) 0x20 1) 8 =
      (readDone t lt .tcc (amEntryOff s lt (fieldAt (amBytes s lt 64) 0x20 1)) 8,
        .ok (memBytes (s.tile lt).mem (amEntryOff s lt (fieldAt (amBytes s lt 64) 0x20 1)) 8)) := by
    rw [hkept.tfld, ← hkept.memory.tile lt]
    exact memRead_of_healthy (hkept.banks.healthy hentry)
  refine ⟨_, hkept.trans (ReadKept.readDone lt t .tcc (amEntryOff s lt (fieldAt (amBytes s lt 64) 0x20 1)) 8), ?_⟩
  rw [amEnter]
  simp only [hread, hvoid, if_false, hmem]
  rfl

end Entry

/-! ### What the entry leaves in the tile -/

theorem State.tbit_setTfld_outside (s : State) (lt off : Nat) {hi lo j : Nat} (v x : Nat) (hj : j < 32) (h : ¬ (lo ≤ j ∧ j ≤ hi)) :
    (s.setTfld lt off hi lo v).tbit x off j = s.tbit x off j := by
  by_cases hx : x = lt
  · subst hx
    rw [State.tbit, State.setTfld, State.treg_setTreg_self, bit, getLsbD_setFld _ _ _ _ _ hj, if_neg h]
    rfl
  · rw [State.tbit, State.setTfld, State.treg_setTreg, if_neg (fun e => hx e.1), State.tbit]

theorem regBoltHead_ne_regChAmStatus {b : Nat} (hb : b < 64) : regBoltHead b ≠ regChAmStatus := by
  rw [regBoltHead, regChAmStatus]
  omega

theorem amBolt_lt (s : State) (lt : Nat) : amBolt s lt < 64 := State.tfld_lt s lt regChAmCfg 6 1

theorem fieldAt_byte_lt (bs : List Byte) (i : Nat) : fieldAt bs i 1 < 2 ^ 8 := by
  have hlen : (slice bs i 1).length = 1 := by
    rw [slice, List.length_append, List.length_replicate, List.length_take]
    omega
  have h := leNat_lt (slice bs i 1)
  rw [hlen] at h
  exact h

section Entered
variable (s : State) (lt hd head target : Nat)

theorem tcc_amEntered : ((amEntered s lt hd head target).tile lt).tcc = enterTrap (s.tile lt).tcc false (s.tile lt).tcc.pc
    (causeWord 9 stOk (s.tile lt).tcc.prv true) (BitVec.ofNat 64 head) (BitVec.ofNat 64 target) := by
  rw [amEntered, State.setTfld_tile_tcc, State.setTbit_tile_tcc, tcc_modTcc_self]

theorem status_amEntered (hhd : hd < 2 ^ 8) : (amEntered s lt hd head target).tbit lt regChAmStatus 0 = true ∧
    (amEntered s lt hd head target).tfld lt regChAmStatus 15 8 = hd := by
  constructor
  · rw [amEntered, State.tbit_setTfld_outside _ _ _ _ _ (by decide) (by decide), State.tbit_setTbit_same _ _ _ _ (by decide)]
  · rw [amEntered, State.tfld_setTfld_same _ _ _ (by decide) hhd]

theorem boltHead_amEntered {b : Nat} (hb : b < 64) : boltHead (amEntered s lt hd head target) lt b = boltHead s lt b := by
  have hne := regBoltHead_ne_regChAmStatus hb
  rw [boltHead, State.tfld, amEntered, State.treg_setTfld_off_ne _ _ _ _ _ _ hne, State.treg_setTbit_off_ne _ _ _ _ _ hne]
  exact congrArg (fun w => fld w 19 0) (State.treg_modTile rfl lt _)

theorem sameMemory_amEntered : sameMemory s (amEntered s lt hd head target) :=
  sameMemory_trans (sameMemory_trans (sameMemory_modTcc s lt _) (sameMemory_setTbit _ lt _ _ _)) (sameMemory_setTfld _ lt _ _ _ _)

end Entered

/-- A message that is not entered is released and counted (R296). -/
theorem AmReadable.amBad {lt : Nat} {s : State} (h : AmReadable lt s) (hd : Nat) (bs : List Byte) :
    ((amBad s lt hd bs).tile lt).tcc = (s.tile lt).tcc ∧ (amBad s lt hd bs).tbit lt regChAmStatus 0 = s.tbit lt regChAmStatus 0 ∧
      (amBad s lt hd bs).tfld lt regChAmStatus 31 16 = satInc 16 (s.tfld lt regChAmStatus 31 16) ∧
      boltHead (amBad s lt hd bs) lt (amBolt s lt) = boltHead (Machine.amRelease s lt) lt (amBolt s lt) ∧ sameMemory s (amBad s lt hd bs) := by
  obtain ⟨u, hu⟩ : ∃ u, u = (Machine.amRelease s lt).setTfld lt regChAmStatus 31 16 (satInc 16 ((Machine.amRelease s lt).tfld lt regChAmStatus 31 16)) :=
    ⟨_, rfl⟩
  have hne := regBoltHead_ne_regChAmStatus (amBolt_lt s lt)
  have hstatus := h.treg_amRelease (off := regChAmStatus) (Ne.symm hne)
  have hbad : Machine.amBad s lt hd bs = skbEvent u (.tile lt) 0x05 [hd, fieldAt bs 0 4, fieldAt bs 4 4, fieldAt bs 0x0C 4] := by rw [hu]; rfl
  have hreg : ∀ {off}, off ≠ regSkbLost → off ≠ regRasTileStatus → (Machine.amBad s lt hd bs).treg lt off = u.treg lt off := fun h1 h2 => by
    rw [hbad, ((reportBlind_regAt h1 h2).skbEvent _ _ _ _).treg lt]
  have hfld : (Machine.amRelease s lt).tfld lt regChAmStatus 31 16 = s.tfld lt regChAmStatus 31 16 := by rw [State.tfld, hstatus, State.tfld]
  have hcount : satInc 16 (s.tfld lt regChAmStatus 31 16) < 2 ^ 16 := by
    unfold satInc
    split
    · omega
    · omega
  refine ⟨?_, ?_, ?_, ?_, ?_⟩
  · rw [hbad, (reportBlind_tcc.skbEvent _ _ _ _).tile lt, hu, State.setTfld_tile_tcc, accessBlind_tcc.amRelease boltBlind_tcc]
  · rw [State.tbit, hreg (by decide) (by decide), ← State.tbit, hu, State.tbit_setTfld_outside _ _ _ _ _ (by decide) (by decide), State.tbit, hstatus,
      State.tbit]
  · rw [State.tfld, hreg (by decide) (by decide), ← State.tfld, hu, hfld, State.tfld_setTfld_same _ _ _ (by decide) hcount]
  · rw [boltHead, State.tfld, hreg ?_ ?_, hu, State.treg_setTfld_off_ne _ _ _ _ _ _ hne]
    · rfl
    · have hb := amBolt_lt s lt
      rw [regBoltHead, regSkbLost]
      omega
    · have hb := amBolt_lt s lt
      rw [regBoltHead, regRasTileStatus]
      omega
  · rw [hbad]
    have hrelease : sameMemory s (Machine.amRelease s lt) := fun x a => by rw [accessBlind_mem.amRelease boltBlind_mem]
    refine sameMemory_trans (sameMemory_trans hrelease ?_) (accessBlind_mem.toReportBlind.skbEvent _ _ _ _).sameMemory
    rw [hu]
    exact sameMemory_setTfld _ lt _ _ _ _

/-- The retirement of a waiting `wfi` leaves what a tile's memory reads as. -/
theorem SameReads.retireWfi (s : State) (lt : Nat) : SameReads lt s (endWait (retireWfi s lt) lt .tcc) where
  memory := kept_retireWfi s lt
  banks := by
    have hend : ∀ u, BanksKept lt u (endWait u lt .tcc) := fun u => BanksKept.modTile rfl rfl rfl fun _ h => h
    have hmod : ∀ u g, BanksKept lt u (modTcc u lt g) := fun u g => BanksKept.modTile rfl rfl rfl fun _ h => h
    have hwait : ∀ u, BanksKept lt u (setWait u lt .tcc none) := fun u => hmod u fun c => { c with wait := none }
    have hpc : ∀ u pc, BanksKept lt u (setPc u lt .tcc pc) := fun u pc => hmod u fun c => { c with pc := pc }
    have hcount : ∀ u, BanksKept lt u (countRetired u lt .tcc) := fun u =>
      (hmod u fun c => { c with retired := c.retired + 1 }).trans (BanksKept.bumpCnt lt _ _ _)
    refine BanksKept.trans ?_ (hend _)
    unfold Machine.retireWfi
    split
    · exact ((hwait s).trans (hpc _ _)).trans (hcount _)
    · exact BanksKept.refl lt s

/-- AM_ENTRY where interrupt 9 is the one to take and a message is to be entered (R296). -/
theorem exec_amEntry_of_pending {s : State} {lt : Nat} (hlt : lt < 1320) (hissue : canIssue s lt .tcc = true) (hfatal : (s.tile lt).fatal = false)
    (hregion : regionState s (regionOf s lt) ≠ 3) (htake : intToTake s lt = some 9) (hnext : amNext s lt = true) :
    exec (.amEntry lt) s = .next (amEnter (endWait (retireWfi s lt) lt .tcc) lt) := by
  have hentry : interruptEntry s lt 9 = amEnter (endWait (retireWfi s lt) lt .tcc) lt := if_pos ⟨rfl, hnext⟩
  rw [show exec (.amEntry lt) s = execAmEntry lt s from rfl, execAmEntry, onTile_of_lt hlt, tccLive, hissue, hfatal, htake, hnext,
    bne_iff_ne.mpr hregion, ← hentry]
  rfl

/-- `eret` in a handler: the message is released (R297). -/
def amLeft (s : State) (lt : Nat) : State := modTcc ((amRelease s lt).setTbit lt regChAmStatus 0 false) lt leaveTrap

theorem exec_eret_of_inHandler {s : State} {lt : Nat} {rd rs1 rs2 : BitVec 5} (hissues : issues s lt .tcc 4 ⟨true, false, .s, true⟩ = true)
    (hin : inHandler (fetched s lt .tcc 4) lt = true) : exec (.eret lt .tcc rd rs1 rs2) s =
      .next (jumped lt .tcc (pcOf (amLeft (fetched s lt .tcc 4) lt) lt .tcc) (amLeft (fetched s lt .tcc 4) lt)) := by
  refine (insn_of_issues _ _ hissues).trans ?_
  simp only [hin, if_true]
  rfl

theorem tcc_amLeft (s : State) (lt : Nat) : ((amLeft s lt).tile lt).tcc = leaveTrap (s.tile lt).tcc := by
  rw [amLeft, tcc_modTcc_self, State.setTbit_tile_tcc, accessBlind_tcc.amRelease boltBlind_tcc]

theorem tbit_amLeft_status (s : State) (lt : Nat) : (amLeft s lt).tbit lt regChAmStatus 0 = false := by
  rw [State.tbit, amLeft, modTcc, State.treg_modTile rfl, ← State.tbit, State.tbit_setTbit_same _ _ _ _ (by decide)]

theorem boltHead_amLeft (s : State) (lt : Nat) {b : Nat} (hb : b < 64) : boltHead (amLeft s lt) lt b = boltHead (amRelease s lt) lt b := by
  rw [boltHead, State.tfld, amLeft, modTcc, State.treg_modTile rfl, State.treg_setTbit_off_ne _ _ _ _ _ (regBoltHead_ne_regChAmStatus hb)]
  rfl

theorem sameMemory_amLeft (s : State) (lt : Nat) : sameMemory s (amLeft s lt) := by
  have hrelease : sameMemory s (amRelease s lt) := fun x a => by rw [accessBlind_mem.amRelease boltBlind_mem]
  exact sameMemory_trans (sameMemory_trans hrelease (sameMemory_setTbit _ lt _ _ _)) (sameMemory_modTcc _ lt _)

theorem treg_jumped (s : State) (lt : Nat) (c : CoreId) (pc : DWord) (x off : Nat) : (jumped lt c pc s).treg x off = s.treg x off :=
  (Kept.jumped s lt (o := regAt off) (fun _ _ => rfl) (fun _ _ => rfl) (fun _ _ _ => rfl) (fun _ _ _ _ => rfl) c pc).treg x

/-! ### The statement -/

/-- Settles O28: the entry of the message at the head, after a `wfi` that waits. -/
theorem activeMessages : Obligations.ActiveMessages := by
  refine ⟨?_, ?_⟩
  · intro s lt hlt hissue hfatal hregion htake hpending hroute b head base room bs hd entry eb c0 c hmod hhead hbase hentry
    have hnext : amNext s lt = true := by rw [amNext, hpending, intToS, hroute]; rfl
    obtain ⟨-, htakable, -⟩ := intToTake_spec htake
    obtain ⟨-, -, hfree, -⟩ := (intTakable_iff s lt 9).mp htakable
    have hidle : s.tbit lt regChAmStatus 0 = false := by simpa [hnext] using hfree
    have hexec := exec_amEntry_of_pending hlt hissue hfatal hregion htake hnext
    have hsame := SameReads.retireWfi s lt
    have htcc := tcc_retireWfi s lt
    have hmem := sameMemory_retireWfi s lt
    generalize endWait (retireWfi s lt) lt .tcc = s0 at hexec hsame htcc hmem
    have hreadable : AmReadable lt s := ⟨hmod, hhead, hbase⟩
    have hreadable0 := hsame.amReadable hreadable
    have hrelease : ∀ t, ReadKept lt s0 t → boltHead (amRelease t lt) lt (amBolt s lt) =
        (boltHead s lt b + min (amSlots s lt) (boltReady s lt b)) % boltMod s lt b := fun t hkept => by
      have hread : SameReads lt s t := ⟨hsame.banks.trans hkept.banks, hsame.memory.trans hkept.memory⟩
      have h := (hread.amReadable hreadable).boltHead_amRelease
      rwa [hread.amBolt, hread.boltHead, hread.boltReady, hread.boltMod, hread.amSlots] at h
    refine ⟨fun hvoid hvalid => ?_, fun hvoid hvalid => ?_, fun hvoid => ?_⟩
    · obtain ⟨t, hkept, hentered⟩ := hreadable0.amEnter_message (by rw [hsame.amBytes]; exact hvoid)
        (by rw [hsame.amBytes, hsame.amEntryOff]; exact hsame.banks.healthy hentry)
      rw [hsame.amBytes, hsame.amEntryOff, hsame.memory.tile lt, hsame.amHead] at hentered
      have hbit : nbit eb 0 = true := by
        rw [nbit, Nat.testBit_zero, hvalid]
        rfl
      rw [hentered.trans (if_pos hbit)] at hexec
      refine ⟨_, hexec, ?_, (status_amEntered t lt hd _ _ (fieldAt_byte_lt bs _)).1, (status_amEntered t lt hd _ _ (fieldAt_byte_lt bs _)).2, ?_, ?_⟩
      · rw [tcc_amEntered, hkept.tcc.tile lt, htcc]
        rfl
      · rw [boltHead_amEntered _ _ _ _ _ (amBolt_lt s lt), hkept.boltHead, hsame.boltHead]
      · exact sameMemory_trans (sameMemory_trans hmem hkept.memory.sameMemory) (sameMemory_amEntered t lt _ _ _)
    · obtain ⟨t, hkept, hbad⟩ := hreadable0.amEnter_message (by rw [hsame.amBytes]; exact hvoid)
        (by rw [hsame.amBytes, hsame.amEntryOff]; exact hsame.banks.healthy hentry)
      rw [hsame.amBytes, hsame.amEntryOff, hsame.memory.tile lt, hsame.amHead] at hbad
      have hbit : ¬ nbit eb 0 = true := by
        rw [nbit, Nat.testBit_zero, hvalid]
        decide
      rw [hbad.trans (if_neg hbit)] at hexec
      obtain ⟨h1, h2, h3, h4, h5⟩ := (hkept.amReadable hreadable0).amBad (fieldAt (amBytes s lt 64) 0x20 1) (amBytes s lt 64)
      refine ⟨_, hexec, ?_, ?_, ?_, ?_, ?_⟩
      · rw [h1, hkept.tcc.tile lt, htcc]
        rfl
      · rw [h2, State.tbit, hkept.treg, hsame.treg]
        exact hidle
      · rw [h3, hkept.tfld, hsame.tfld, satInc_eq_min]
        rfl
      · rw [hkept.amBolt, hsame.amBolt, hrelease t hkept, amSlots, if_neg (show fieldAt (amBytes s lt 64) 0x11 1 ≠ 0xFF from hvoid)] at h4
        exact h4
      · exact sameMemory_trans (sameMemory_trans hmem hkept.memory.sameMemory) h5
    · obtain ⟨t, hkept, hfree⟩ := hreadable0.amEnter_void (by rw [hsame.amBytes]; exact hvoid)
      have hhead := hrelease t hkept
      rw [amSlots, if_pos (show fieldAt (amBytes s lt 64) 0x11 1 = 0xFF from hvoid)] at hhead
      have hstatus := (hkept.amReadable hreadable0).treg_amRelease (off := regChAmStatus) (Ne.symm (regBoltHead_ne_regChAmStatus (amBolt_lt t lt)))
      refine ⟨_, hexec.trans (congrArg _ hfree), ?_, ?_, hhead, ?_⟩
      · rw [accessBlind_tcc.amRelease boltBlind_tcc, hkept.tcc.tile lt, htcc]
        rfl
      · rw [State.tbit, hstatus, hkept.treg, hsame.treg]
        exact hidle
      · refine sameMemory_trans (sameMemory_trans hmem hkept.memory.sameMemory) fun x a => ?_
        rw [accessBlind_mem.amRelease boltBlind_mem]
  · intro s lt rd rs1 rs2 hissues f c hin
    have hprv : (f.tile lt).tcc.prv ≠ .m := by
      rw [inHandler, Bool.and_eq_true, beq_iff_eq] at hin
      rw [hin.2]
      decide
    refine ⟨_, exec_eret_of_inHandler hissues hin, ?_, ?_, ?_, ?_⟩
    · exact sameMemory_trans (sameMemory_amLeft f lt) (sameMemory_jumped _ lt .tcc _)
    · rw [State.tbit, treg_jumped, ← State.tbit, tbit_amLeft_status]
    · rw [tile_jumped_tcc, pcOf, tcc_amLeft, leaveTrap, if_neg hprv]
    · rw [boltHead, State.tfld, treg_jumped]
      exact boltHead_amLeft f lt (amBolt_lt f lt)

end Sys2Proof.Machine
end

section
/-!
O34 and O37: the instructions that queue an item at the Matrix Engine, the DMA engine and the Routing Unit.
-/
namespace Sys2Proof.Machine

open Sys2Proof

/-! ### Slots -/

/-- The slot that the next item of a unit takes: one of the free ones (log entry 5). -/
def chosenSlot (s : State) (lt u : Nat) : Nat := (freeSlots s lt u).getD (s.freeBelow (freeSlots s lt u).length) 0

/-- A slot that an item takes: its generation advances when it is used again (R105). -/
def slotReused (x : Slot) : Slot := { x with gen := if x.used then x.gen + 1 else x.gen, used := true, busy := true }

/-- The state with the chosen slot of a unit taken. -/
def slotTaken (s : State) (lt u : Nat) : State :=
  setSlot s.drawn lt u (chosenSlot s lt u) (slotReused ((s.tile lt).slot u (chosenSlot s lt u)))

theorem chosenSlot_mem {s : State} {lt u : Nat} (h : freeSlots s lt u ≠ []) : chosenSlot s lt u ∈ freeSlots s lt u := by
  have hpos : 0 < (freeSlots s lt u).length := List.length_pos_iff.mpr h
  have hlt : s.freeBelow (freeSlots s lt u).length < (freeSlots s lt u).length := by
    rw [State.freeBelow, if_neg hpos.ne']
    exact Nat.mod_lt _ hpos
  rw [chosenSlot, List.getD_eq_getElem _ _ hlt]
  exact List.getElem_mem hlt

theorem lt_of_mem_freeSlots {s : State} {lt u n : Nat} (h : n ∈ freeSlots s lt u) : n < unitSlots u := List.mem_range.mp (List.mem_of_mem_filter h)

theorem slot_setSlot (s : State) (lt u n : Nat) (x : Slot) : ((setSlot s lt u n x).tile lt).slot u n = x := by
  rw [setSlot, State.tile_modTile_self, Tile.slot, kvGet_kvSet, if_pos rfl]

theorem slot_slotTaken (s : State) (lt u : Nat) :
    ((slotTaken s lt u).tile lt).slot u (chosenSlot s lt u) = slotReused ((s.tile lt).slot u (chosenSlot s lt u)) := slot_setSlot _ _ _ _ _

/-- The handle of the item that takes the chosen slot. -/
def chosenHandle (s : State) (lt u : Nat) : Nat := mkHandle u (chosenSlot s lt u) (slotReused ((s.tile lt).slot u (chosenSlot s lt u))).gen.toNat

theorem takeSlot_of_free {s : State} {lt u : Nat} (h : freeSlots s lt u ≠ []) :
    takeSlot s lt u = some (slotTaken s lt u, chosenSlot s lt u, chosenHandle s lt u) :=
  if_neg fun e => h (List.length_eq_zero_iff.mp e)

theorem takeSlot_of_full {s : State} {lt u : Nat} (h : freeSlots s lt u = []) : takeSlot s lt u = none := if_pos (by rw [h]; rfl)

/-- An observation that does not see slots. -/
theorem Kept.setSlot {β : Type} {o : Tile → β} (ho : ∀ t l, o { t with slots := l } = o t) (s : State) (lt u n : Nat) (x : Slot) :
    Kept o s (setSlot s lt u n x) := by
  refine Kept.modTile _ ?_
  exact ho _ _

theorem Kept.slotTaken {β : Type} {o : Tile → β} (ho : ∀ t l, o { t with slots := l } = o t) (s : State) (lt u : Nat) : Kept o s (slotTaken s lt u) :=
  (kept_drawn s).trans (Kept.setSlot ho s.drawn lt u _ _)

/-! ### The end of an instruction that queued an item -/

/-- The state after the handle has been written and the instruction has retired. -/
def queuedEnd (len : Nat) (s : State) (lt : Nat) (rd : BitVec 5) (h : Nat) : State := retired lt .tcc len (gWrite s lt .tcc rd (BitVec.ofNat 64 h))

section QueuedEnd
variable {len : Nat} (s : State) (lt : Nat) (rd : BitVec 5) (h : Nat)

/-- Queues and slots stay as they are. -/
theorem Kept.queuedEnd {β : Type} {o : Tile → β} (htcc : ∀ t c, o { t with tcc := c } = o t) (hlanes : ∀ t l, o { t with lanes := l } = o t)
    (hstall : ∀ t l, o { t with stallsTold := l } = o t) (hcnt : ∀ t c, o { t with counters := c } = o t) : Kept o s (queuedEnd len s lt rd h) :=
  (Kept.gWrite s lt (fun t _ => htcc t _) (fun t _ _ => hlanes t _) .tcc rd _).trans
    (Kept.jumped _ lt hstall hcnt (fun t _ _ => htcc t _) (fun t _ _ _ => hlanes t _) .tcc _)

theorem gRead_queuedEnd_same (hrd : rd ≠ 0) : gRead (queuedEnd len s lt rd h) lt .tcc rd = BitVec.ofNat 64 h := by
  rw [queuedEnd, retired_eq_jumped, gRead_jumped, gRead_gWrite_same s lt .tcc hrd]

theorem gRead_queuedEnd_ne {r : BitVec 5} (hr : r ≠ rd) : gRead (queuedEnd len s lt rd h) lt .tcc r = gRead s lt .tcc r := by
  rw [queuedEnd, retired_eq_jumped, gRead_jumped, gRead_gWrite_ne _ fun e => hr (Prod.ext_iff.mp (Prod.ext_iff.mp e).2).2]

theorem pcOf_queuedEnd : pcOf (queuedEnd len s lt rd h) lt .tcc = pcOf s lt .tcc + BitVec.ofNat 64 len := by
  rw [queuedEnd, retired_eq_jumped, pcOf_jumped_same, pcOf_gWrite]

theorem sameMemory_queuedEnd : sameMemory s (queuedEnd len s lt rd h) :=
  sameMemory_trans (sameMemory_gWrite s lt .tcc rd _) (sameMemory_jumped _ lt .tcc _)

end QueuedEnd

/-- A change of a tile's queues. -/
theorem Kept.queues {β : Type} {o : Tile → β} (s : State) (lt : Nat) {g : Tile → Tile} (hg : ∀ t, o (g t) = o t) : Kept o s (s.modTile lt g) :=
  Kept.modTile g (hg _)

/-- What a queueing instruction leaves behind it, where `v` is the state with its slot taken and `g` queues the item. -/
theorem queuedEnd_spec {s v : State} (lt : Nat) {g : Tile → Tile} (hregs : Kept generalRegs s v) (hmem : Kept Tile.mem s v)
    (hgslots : ∀ t, (g t).slots = t.slots) (hgregs : ∀ t, generalRegs (g t) = generalRegs t) (hgmem : ∀ t, (g t).mem = t.mem) (rd : BitVec 5)
    (h u n : Nat) :
    ((queuedEnd 8 (v.modTile lt g) lt rd h).tile lt).slot u n = (v.tile lt).slot u n ∧
      (rd ≠ 0 → gRead (queuedEnd 8 (v.modTile lt g) lt rd h) lt .tcc rd = BitVec.ofNat 64 h) ∧
      (∀ r, r ≠ rd → gRead (queuedEnd 8 (v.modTile lt g) lt rd h) lt .tcc r = gRead s lt .tcc r) ∧
      sameMemory s (queuedEnd 8 (v.modTile lt g) lt rd h) := by
  refine ⟨?_, gRead_queuedEnd_same _ lt rd h, fun r hr => ?_, ?_⟩
  · have hend := (Kept.queuedEnd (len := 8) (o := Tile.slots) (v.modTile lt g) lt rd h (fun _ _ => rfl) (fun _ _ => rfl) (fun _ _ => rfl) (fun _ _ => rfl)).tile lt
    rw [Tile.slot, hend, State.tile_modTile_self, hgslots]
    rfl
  · rw [gRead_queuedEnd_ne _ lt rd h hr, gRead_of_kept (hregs.trans (Kept.queues _ lt hgregs))]
  · exact sameMemory_trans (hmem.trans (Kept.queues _ lt hgmem)).sameMemory (sameMemory_queuedEnd _ lt rd h)

/-! ### The Matrix Engine -/

/-- The item that an instruction of UNIT 0 queues (R138, R152). -/
def meQueuedItem (s : State) (lt : Nat) (rd rs1 rs2 rs3 : BitVec 5) (wop pl : Nat) : MeItem :=
  newItem (chosenSlot s lt 0) (chosenHandle s lt 0) wop pl (wordWide wop 0 rd rs1 rs2 rs3) (gRead s lt .tcc rs1) (gRead s lt .tcc rs2)
    (gRead s lt .tcc rs3) (decide (rs1 = 0)) (levelAt s lt .tcc)

/-- The tile with an item at the end of the engine's queue. -/
def meQueuedTile (it : MeItem) (t : Tile) : Tile := { t with me := { t.me with items := t.me.items ++ [it] } }

theorem items_queuedEnd (s : State) (lt : Nat) (it : MeItem) (rd : BitVec 5) (h : Nat) :
    (meOf (queuedEnd 8 (s.modTile lt (meQueuedTile it)) lt rd h) lt).items = (meOf s lt).items ++ [it] := by
  have hend := (Kept.queuedEnd (len := 8) (o := Tile.me) (s.modTile lt (meQueuedTile it)) lt rd h (fun _ _ => rfl) (fun _ _ => rfl) (fun _ _ => rfl)
    (fun _ _ => rfl)).tile lt
  rw [meOf, hend, State.tile_modTile_self]
  rfl

/-- The three ends of an instruction of UNIT 0. -/
theorem meInsn_of_issues {s : State} {lt : Nat} (wop : Nat) (rd rs1 rs2 rs3 : BitVec 5) (pl : Nat) (ok : Bool)
    (hissues : issues s lt .tcc 8 tccNoAm = true) :
    meInsn wop lt .tcc rd rs1 rs2 rs3 pl ok s = .next (
      if !ok then coreTrap (fetched s lt .tcc 8) lt .tcc causeIllegal stOk (some ((wordWide wop 0 rd rs1 rs2 rs3).setWidth 64)) 0
      else if freeSlots (fetched s lt .tcc 8) lt 0 = [] then setWait (fetched s lt .tcc 8) lt .tcc (some (.queueFull 0))
      else queuedEnd 8 ((slotTaken (fetched s lt .tcc 8) lt 0).modTile lt (meQueuedTile (meQueuedItem (fetched s lt .tcc 8) lt rd rs1 rs2 rs3 wop pl)))
        lt rd (chosenHandle (fetched s lt .tcc 8) lt 0)) := by
  rw [meInsn, insn_of_issues _ _ hissues]
  by_cases hok : ok
  · by_cases hfull : freeSlots (fetched s lt .tcc 8) lt 0 = []
    · simp only [hok, takeSlot_of_full hfull, hfull, Bool.not_true, Bool.false_eq_true, if_false, if_true]
      rfl
    · simp only [hok, takeSlot_of_free hfull, hfull, Bool.not_true, Bool.false_eq_true, if_false]
      rfl
  · simp only [hok, Bool.not_false, if_true]
    rfl

/-- The payload of an `mma` is legal as the row of its table says (R138). -/
theorem mmaOk_eq {wop : Nat} (hwop : wop ≠ wopPred) (pl : BitVec 32) (rs3 : BitVec 5) :
    mmaOk wop pl.toNat rs3 = (decide (pl.toNat < 512) && decide (fld pl 6 4 ≤ 4) && (fld pl 6 4 == 4 || rs3 == 0)) := by
  have hdiv : (pl.toNat / 2 ^ 9 == 0) = decide (pl.toNat < 512) := by
    rw [Bool.eq_iff_iff, beq_iff_eq, decide_eq_true_eq]
    omega
  have hpred : (wop != wopPred) = true := bne_iff_ne.mpr hwop
  rw [mmaOk, if_neg hwop, hdiv, hpred, Bool.true_or, Bool.and_true]
  rfl

theorem mmaOk_pred (pl : BitVec 32) (rs3 : BitVec 5) :
    mmaOk wopPred pl.toNat rs3 = (decide (pl.toNat < 1024) && fld pl 6 4 == 1 && rs3 == 0) := by
  have hdiv : (pl.toNat / 2 ^ 10 == 0) = decide (pl.toNat < 1024) := by
    rw [Bool.eq_iff_iff, beq_iff_eq, decide_eq_true_eq]
    omega
  rw [mmaOk, if_pos rfl, hdiv, show meWb pl.toNat = fld pl 6 4 from rfl]
  by_cases h : fld pl 6 4 = 1
  · simp [h]
  · have hne : (fld pl 6 4 == 1) = false := beq_eq_false_iff_ne.mpr h
    simp [hne]

theorem and_not_select (pl : BitVec 32) : (pl &&& ~~~1) &&& ~~~0x80 = pl &&& ~~~0x81 := by
  rw [BitVec.and_assoc]
  rfl

theorem and_not_verify (pl : BitVec 32) : (pl ||| 1) &&& ~~~0x81 = pl &&& ~~~0x81 := by
  refine BitVec.eq_of_getLsbD_eq fun i hi => ?_
  rw [BitVec.getLsbD_and, BitVec.getLsbD_or, BitVec.getLsbD_and]
  by_cases h : i = 0
  · subst h
    rw [show (~~~0x81 : BitVec 32).getLsbD 0 = false from rfl, Bool.and_false, Bool.and_false]
  · have hone : (1 : BitVec 32).getLsbD i = false := by
      rw [show (1 : BitVec 32) = 1#32 from rfl, BitVec.getLsbD_one, decide_eq_false h, Bool.and_false]
    rw [hone, Bool.or_false]

/-- Each row of the table is `meInsn` at the row's WOP, payload and legality. -/
theorem exec_meRow {p : Obl.WCtor × Nat × (BitVec 32 → BitVec 32) × (BitVec 32 → BitVec 5 → BitVec 5 → BitVec 5 → Bool)} (hp : p ∈ Obl.meRows)
    (s : State) (lt : Nat) (c : CoreId) (rd rs1 rs2 rs3 : BitVec 5) (pl : BitVec 32) :
    exec (p.1 lt c rd rs1 rs2 rs3 pl) s = meInsn p.2.1 lt c rd rs1 rs2 rs3 (p.2.2.1 pl).toNat (p.2.2.2 pl rs1 rs2 rs3) s := by
  have hmma : ∀ wop, wop ≠ wopPred → mma wop lt c rd rs1 rs2 rs3 pl s = meInsn wop lt c rd rs1 rs2 rs3 pl.toNat
      (decide (pl.toNat < 512) && decide (fld pl 6 4 ≤ 4) && (fld pl 6 4 == 4 || rs3 == 0)) s := fun wop h => by rw [mma, mmaOk_eq h]
  simp only [Obl.meRows, List.mem_cons, List.not_mem_nil, or_false] at hp
  rcases hp with rfl | rfl | rfl | rfl | rfl | rfl | rfl | rfl | rfl | rfl | rfl | rfl | rfl | rfl
  · exact hmma 0 (by decide)
  · exact hmma 1 (by decide)
  · exact hmma 2 (by decide)
  · exact hmma 3 (by decide)
  · exact hmma 4 (by decide)
  · exact hmma 5 (by decide)
  · exact hmma 0x10 (by decide)
  · exact hmma 0x11 (by decide)
  · exact congrArg (fun ok => meInsn wopPred lt c rd rs1 rs2 rs3 pl.toNat ok s) (mmaOk_pred pl rs3)
  · rfl
  · rfl
  · rfl
  · exact congrArg (fun x => meInsn wopSel lt c rd rs1 rs2 rs3 (pl &&& ~~~1).toNat (x == 0 && rs3 == 0) s) (and_not_select pl)
  · exact congrArg (fun x => meInsn wopSel lt c rd rs1 rs2 rs3 (pl ||| 1).toNat (x == 0 && rs2 == 0 && rs3 == 0) s) (and_not_verify pl)

/-- Settles O34: the fourteen instructions are one, at the WOP, payload and legality of their rows. -/
theorem meInstructions : Obligations.MeInstructions := by
  intro p hp s lt rd rs1 rs2 rs3 pl hissues f
  have hexec := (exec_meRow hp s lt .tcc rd rs1 rs2 rs3 pl).trans (meInsn_of_issues _ rd rs1 rs2 rs3 _ _ hissues)
  refine ⟨fun hok hfree => ?_, fun hok hfull => ?_, fun hok => ?_⟩
  · rw [hok, Bool.not_true, if_neg Bool.false_ne_true, if_neg hfree] at hexec
    have hchosen := chosenSlot_mem hfree
    have hregs := Kept.slotTaken (o := programCounters) (fun _ _ => rfl) f lt 0
    obtain ⟨it, hit⟩ : ∃ it, it = meQueuedItem f lt rd rs1 rs2 rs3 p.2.1 (p.2.2.1 pl).toNat := ⟨_, rfl⟩
    obtain ⟨hslot, hrd, hr, hmem⟩ := queuedEnd_spec lt (g := meQueuedTile it) (Kept.slotTaken (fun _ _ => rfl) f lt 0)
      (Kept.slotTaken (fun _ _ => rfl) f lt 0) (fun _ => rfl) (fun _ => rfl) (fun _ => rfl) rd (chosenHandle f lt 0) 0 (chosenSlot f lt 0)
    rw [slot_slotTaken] at hslot
    rw [← hit] at hexec
    have hhandle : it.handle = chosenHandle f lt 0 := by rw [hit]; rfl
    refine ⟨_, chosenSlot f lt 0, it, hexec, hchosen, lt_of_mem_freeSlots hchosen, ?_, by rw [hit]; rfl, by rw [hit]; rfl, by rw [hit]; rfl,
      by rw [hit]; rfl, by rw [hit]; rfl, by rw [hit]; rfl, by rw [hit]; rfl, by rw [hit]; rfl, by rw [hit]; rfl, ?_, ?_, ?_, hr, ?_, hmem⟩
    · rw [items_queuedEnd, meOf, (Kept.slotTaken (o := Tile.me) (fun _ _ => rfl) f lt 0).tile lt]
      rfl
    · rw [hslot]
      rfl
    · rw [hslot, hhandle]
      rfl
    · rw [hhandle]
      exact hrd
    · rw [pcOf_queuedEnd, pcOf_of_kept (hregs.trans (Kept.queues _ lt (g := meQueuedTile it) fun _ => rfl))]
      rfl
  · rw [hok, Bool.not_true, if_neg Bool.false_ne_true, if_pos hfull] at hexec
    exact hexec
  · rw [hok, Bool.not_false, if_pos rfl] at hexec
    exact ⟨_, hexec⟩

/-! ### The DMA engine and the Routing Unit -/

/-- The tile with an item at the end of the DMA queue; what was kept of the slot's last item goes (R306). -/
def dmaQueuedTile (n : Nat) (it : DmaItem) (t : Tile) : Tile := { t with dma := t.dma ++ [it], dmaKept := kvDel t.dmaKept n }

def rtuQueuedTile (it : RtuItem) (t : Tile) : Tile := { t with rtu := t.rtu ++ [it] }

/-- The item that a wide instruction of UNIT 1 queues. -/
def dmaQueuedItem (s : State) (lt : Nat) (rs1 : BitVec 5) (wop : Nat) : DmaItem :=
  newDma (chosenSlot s lt 1) wop (gRead s lt .tcc rs1) (s.tile lt).tcc.prv (s.tile lt).tcc.xlat

/-- The item that an instruction of UNIT 2 queues (R218). -/
def rtuQueuedItem (s : State) (lt : Nat) (rs1 : BitVec 5) (wop : Nat) (int : Bool) : RtuItem :=
  { slot := chosenSlot s lt 2, wop := wop, addr := gRead s lt .tcc rs1, int := int, running := false, cb := [], pos := 0, heldIn := 0, flying := [],
    stop := none }

section Queue
variable {s : State} {lt : Nat} (wop : Nat) (rd rs1 rs2 rs3 : BitVec 5) (pl : BitVec 32) (hissues : issues s lt .tcc 8 tccNoAm = true)
include hissues

/-- The three ends of a wide instruction of UNIT 1. -/
theorem dmaInsn_of_issues : dmaInsn wop lt .tcc rd rs1 rs2 rs3 pl s = .next (
    if pl ≠ 0 ∨ rs2 ≠ 0 ∨ rs3 ≠ 0 then
      coreTrap (fetched s lt .tcc 8) lt .tcc causeIllegal stOk (some ((wordWide wop 1 rd rs1 rs2 rs3).setWidth 64)) 0
    else if freeSlots (fetched s lt .tcc 8) lt 1 = [] then setWait (fetched s lt .tcc 8) lt .tcc (some (.queueFull 1))
    else queuedEnd 8 ((slotTaken (fetched s lt .tcc 8) lt 1).modTile lt (dmaQueuedTile (chosenSlot (fetched s lt .tcc 8) lt 1)
      (dmaQueuedItem (fetched s lt .tcc 8) lt rs1 wop))) lt rd (chosenHandle (fetched s lt .tcc 8) lt 1)) := by
  rw [dmaInsn, insn_of_issues _ _ hissues]
  by_cases hbad : pl ≠ 0 ∨ rs2 ≠ 0 ∨ rs3 ≠ 0
  · rw [if_pos hbad, if_pos hbad]
    rfl
  · rw [if_neg hbad, if_neg hbad]
    by_cases hfull : freeSlots (fetched s lt .tcc 8) lt 1 = []
    · rw [takeSlot_of_full hfull, if_pos hfull]
      rfl
    · rw [takeSlot_of_free hfull, if_neg hfull]
      rfl

/-- The three ends of an instruction of UNIT 2. -/
theorem rtuInsn_of_issues : rtuInsn wop lt .tcc rd rs1 rs2 rs3 pl s = .next (
    if pl &&& ~~~1 ≠ 0 ∨ rs2 ≠ 0 ∨ rs3 ≠ 0 then
      coreTrap (fetched s lt .tcc 8) lt .tcc causeIllegal stOk (some ((wordWide wop 2 rd rs1 rs2 rs3).setWidth 64)) 0
    else if freeSlots (fetched s lt .tcc 8) lt 2 = [] then setWait (fetched s lt .tcc 8) lt .tcc (some (.queueFull 2))
    else queuedEnd 8 ((slotTaken (fetched s lt .tcc 8) lt 2).modTile lt (rtuQueuedTile (rtuQueuedItem (fetched s lt .tcc 8) lt rs1 wop (bit pl 0)))) lt rd
      (chosenHandle (fetched s lt .tcc 8) lt 2)) := by
  rw [rtuInsn, insn_of_issues _ _ hissues]
  by_cases hbad : pl &&& ~~~1 ≠ 0 ∨ rs2 ≠ 0 ∨ rs3 ≠ 0
  · rw [if_pos hbad, if_pos hbad]
    rfl
  · rw [if_neg hbad, if_neg hbad]
    by_cases hfull : freeSlots (fetched s lt .tcc 8) lt 2 = []
    · rw [takeSlot_of_full hfull, if_pos hfull]
      rfl
    · rw [takeSlot_of_free hfull, if_neg hfull]
      rfl

end Queue

/-- The RTU's reserved payload bits. -/
theorem toNat_and_not_one (pl : BitVec 32) : (pl &&& ~~~1).toNat = pl.toNat / 2 ^ 1 * 2 ^ 1 := by
  refine Nat.eq_of_testBit_eq fun i => ?_
  rw [BitVec.testBit_toNat, BitVec.getLsbD_and, BitVec.getLsbD_not, show (1 : BitVec 32) = 1#32 from rfl, BitVec.getLsbD_one,
    Nat.testBit_mul_two_pow, Nat.testBit_div_two_pow, BitVec.testBit_toNat]
  cases i with
  | zero => simp
  | succ i =>
    by_cases hi : i + 1 < 32
    · simp [hi]
    · simp [BitVec.getLsbD_of_ge pl (i + 1) (by omega)]

theorem and_not_one_ne_zero (pl : BitVec 32) : pl &&& ~~~1 ≠ 0 ↔ 2 ≤ pl.toNat := by
  have h := toNat_and_not_one pl
  constructor
  · intro hne
    have hpos : (pl &&& ~~~1).toNat ≠ 0 := fun e => hne (BitVec.eq_of_toNat_eq e)
    omega
  · intro hge hzero
    rw [hzero] at h
    have hno : (0 : BitVec 32).toNat = 0 := rfl
    omega

theorem dma_queuedEnd (s : State) (lt n : Nat) (it : DmaItem) (rd : BitVec 5) (h : Nat) :
    ((queuedEnd 8 (s.modTile lt (dmaQueuedTile n it)) lt rd h).tile lt).dma = (s.tile lt).dma ++ [it] := by
  have hend := (Kept.queuedEnd (len := 8) (o := Tile.dma) (s.modTile lt (dmaQueuedTile n it)) lt rd h (fun _ _ => rfl) (fun _ _ => rfl) (fun _ _ => rfl)
    (fun _ _ => rfl)).tile lt
  rw [hend, State.tile_modTile_self]
  rfl

theorem rtu_queuedEnd (s : State) (lt : Nat) (it : RtuItem) (rd : BitVec 5) (h : Nat) :
    ((queuedEnd 8 (s.modTile lt (rtuQueuedTile it)) lt rd h).tile lt).rtu = (s.tile lt).rtu ++ [it] := by
  have hend := (Kept.queuedEnd (len := 8) (o := Tile.rtu) (s.modTile lt (rtuQueuedTile it)) lt rd h (fun _ _ => rfl) (fun _ _ => rfl) (fun _ _ => rfl)
    (fun _ _ => rfl)).tile lt
  rw [hend, State.tile_modTile_self]
  rfl

/-- A `dma.rearm` of a completed item that is kept (R317). -/
theorem rearmable_of {s : State} {lt h n : Nat} {x : Slot} {i : DmaItem} (hslot : slotOfHandle s lt h = some x)
    (hparts : handleParts h = (1, n, x.gen.toNat)) (hkept : kvFind (s.tile lt).dmaKept n = some i) (hbusy : x.busy = false)
    (hvalid : x.crec.valid = true) (hhandle : x.crec.handle = h) : rearmable s lt h = some (n, x, i) := by
  unfold rearmable
  simp only [hparts, hslot, hkept, hbusy, hvalid, hhandle, and_self, if_true]

/-- Its slot is in use again, at the next generation. -/
def slotRearmed (x : Slot) : Slot := { x with gen := x.gen + 1, busy := true }

/-- The item that a rearmed one becomes. -/
def rearmedItem (x : Slot) (i : DmaItem) : DmaItem := { i with progress := x.crec.progress, sentTo := 0, reported := false }

/-- Settles O37: an item at the end of its unit's queue, in a free slot or in the slot that it had. -/
theorem dmaRtuInstructions : Obligations.DmaRtuInstructions := by
  refine ⟨?_, ?_, ?_⟩
  · intro p hp s lt rd rs1 rs2 rs3 pl hissues f
    have hexec : exec (p.1 lt .tcc rd rs1 rs2 rs3 pl) s = dmaInsn p.2 lt .tcc rd rs1 rs2 rs3 pl s := by
      simp only [List.mem_cons, List.not_mem_nil, or_false] at hp
      rcases hp with rfl | rfl | rfl | rfl | rfl | rfl
      · rfl
      · rfl
      · rfl
      · rfl
      · rfl
      · rfl
    rw [dmaInsn_of_issues p.2 rd rs1 rs2 rs3 pl hissues] at hexec
    refine ⟨fun hpl h2 h3 => ?_, fun hbad => ⟨_, hexec.trans (congrArg _ (if_pos hbad))⟩⟩
    rw [if_neg (by simp [hpl, h2, h3])] at hexec
    refine ⟨fun hfree => ?_, fun hfull => hexec.trans (congrArg _ (if_pos hfull))⟩
    rw [if_neg hfree] at hexec
    obtain ⟨hslot, hrd, hr, hmem⟩ := queuedEnd_spec lt (g := dmaQueuedTile (chosenSlot f lt 1) (dmaQueuedItem f lt rs1 p.2))
      (Kept.slotTaken (fun _ _ => rfl) f lt 1) (Kept.slotTaken (fun _ _ => rfl) f lt 1) (fun _ => rfl) (fun _ => rfl) (fun _ => rfl) rd
      (chosenHandle f lt 1) 1 (chosenSlot f lt 1)
    rw [slot_slotTaken] at hslot
    refine ⟨_, chosenSlot f lt 1, dmaQueuedItem f lt rs1 p.2, hexec, chosenSlot_mem hfree, ?_, rfl, rfl, rfl, rfl, rfl, rfl, rfl, ?_, ?_, hr, hmem⟩
    · rw [dma_queuedEnd, (Kept.slotTaken (o := Tile.dma) (fun _ _ => rfl) f lt 1).tile lt]
    · rw [hslot]
      rfl
    · rw [hslot]
      exact hrd
  · intro p hp s lt rd rs1 rs2 rs3 pl hissues f
    have hexec : exec (p.1 lt .tcc rd rs1 rs2 rs3 pl) s = rtuInsn p.2 lt .tcc rd rs1 rs2 rs3 pl s := by
      simp only [List.mem_cons, List.not_mem_nil, or_false] at hp
      rcases hp with rfl | rfl
      · rfl
      · rfl
    rw [rtuInsn_of_issues p.2 rd rs1 rs2 rs3 pl hissues] at hexec
    have hbad := and_not_one_ne_zero pl
    refine ⟨fun hpl h2 h3 => ?_, fun hno => ⟨_, hexec.trans (congrArg _ (if_pos (hno.imp_left hbad.mpr)))⟩⟩
    rw [if_neg (fun hno => hno.elim (fun h => absurd (hbad.mp h) (Nat.not_le.mpr hpl)) (by simp [h2, h3]))] at hexec
    refine ⟨fun hfree => ?_, fun hfull => hexec.trans (congrArg _ (if_pos hfull))⟩
    rw [if_neg hfree] at hexec
    obtain ⟨hslot, hrd, hr, hmem⟩ := queuedEnd_spec lt (g := rtuQueuedTile (rtuQueuedItem f lt rs1 p.2 (bit pl 0)))
      (Kept.slotTaken (fun _ _ => rfl) f lt 2) (Kept.slotTaken (fun _ _ => rfl) f lt 2) (fun _ => rfl) (fun _ => rfl) (fun _ => rfl) rd
      (chosenHandle f lt 2) 2 (chosenSlot f lt 2)
    rw [slot_slotTaken] at hslot
    refine ⟨_, chosenSlot f lt 2, rtuQueuedItem f lt rs1 p.2 (bit pl 0), hexec, chosenSlot_mem hfree, ?_, rfl, rfl, rfl, rfl, rfl, ?_, ?_, hr, hmem⟩
    · rw [rtu_queuedEnd, (Kept.slotTaken (o := Tile.rtu) (fun _ _ => rfl) f lt 2).tile lt]
    · rw [hslot]
      rfl
    · rw [hslot]
      exact hrd
  · intro s lt rd rs1 n x i hissues f h hslot hparts hkept hbusy hvalid hhandle
    have hexec : exec (.dmaRearm lt .tcc rd rs1 0 0 0) s = .next (queuedEnd 8 ((setSlot f lt 1 n (slotRearmed x)).modTile lt
        (dmaQueuedTile n (rearmedItem x i))) lt rd (mkHandle 1 n (x.gen + 1).toNat)) := by
      refine (insn_of_issues _ _ hissues).trans ?_
      rw [if_neg (by simp), rearmable_of hslot hparts hkept hbusy hvalid hhandle]
      rfl
    obtain ⟨hend, hrd, -, hmem⟩ := queuedEnd_spec lt (g := dmaQueuedTile n (rearmedItem x i)) (Kept.setSlot (fun _ _ => rfl) f lt 1 n (slotRearmed x))
      (Kept.setSlot (fun _ _ => rfl) f lt 1 n (slotRearmed x)) (fun _ => rfl) (fun _ => rfl) (fun _ => rfl) rd (mkHandle 1 n (x.gen + 1).toNat) 1 n
    rw [slot_setSlot] at hend
    refine ⟨_, rearmedItem x i, hexec, ?_, rfl, rfl, rfl, ?_, ?_, hrd, hmem⟩
    · rw [dma_queuedEnd, (Kept.setSlot (o := Tile.dma) (fun _ _ => rfl) f lt 1 n _).tile lt]
    · rw [hend]
      rfl
    · rw [hend]
      rfl

end Sys2Proof.Machine
end

section
/-!
O15: the channel instructions.
-/
namespace Sys2Proof.Machine

open Sys2Proof

/-! ### Reads by a core -/

theorem AccessBlind.coreRead {β : Type} {o : Tile → β} (ho : AccessBlind o) (htlb : ∀ t l, o { t with tlb := l } = o t) (s : State) (lt : Nat)
    (c : CoreId) (a n : Nat) : Kept o s (coreRead s lt c a n).1 := by
  have hpieces : ∀ (ps : List (Nat × Nat)) (u : State), Kept o u (readPieces u lt c ps).1 := by
    intro ps
    induction ps with
    | nil => exact fun u => Kept.refl o u
    | cons p r ih =>
      obtain ⟨x, m⟩ := p
      intro u
      have hoff := ho.coreOffset htlb u lt c x m .read
      unfold readPieces
      split
      · next h => exact Kept.of_fst h hoff
      · next u1 off h =>
        have hread := (Kept.of_fst h hoff).trans (ho.memReadBy u1 lt (localPath u1 lt c off m) off m)
        split
        · next h' => rwa [h'] at hread
        · next u2 bs h' =>
          rw [h'] at hread
          have hrest := ih u2
          split
          · next h'' => exact hread.trans (Kept.of_fst h'' hrest)
          · next h'' => exact hread.trans (Kept.of_fst h'' hrest)
  exact hpieces _ s

/-! ### The registers of a channel -/

theorem regChUse_ne_regChSeq (n : Nat) : regChUse n ≠ regChSeq n := by
  rw [regChUse, regChSeq]
  omega

/-! ### Acceptance -/

/-- The transaction that an accepted message becomes (R281). -/
def acceptedXact (s : State) (lt n : Nat) (am : Bool) (m : List Byte) (units : Nat) : Xact :=
  ⟨n, am, m, units, (s.treg lt (regChSeq n)).toNat, (s.tile lt).tcc.prv, (s.tile lt).tcc.xlat, (s.tile lt).xactOrder, .queued, false⟩

/-- The state with the transaction in its slot. -/
def xactTaken (s : State) (lt n : Nat) (am : Bool) (m : List Byte) (units : Nat) : State :=
  (slotTaken s lt 4).modTile lt fun t =>
    { t with xacts := kvSet t.xacts (chosenSlot s lt 4) (acceptedXact s lt n am m units), xactOrder := t.xactOrder + 1 }

/-- The channel's use grown by the message's units and one transaction, and its sequence number by one (R281). -/
def useGrown (s : State) (lt n units : Nat) : State :=
  let s1 := s.setTfld lt (regChUse n) 15 0 (s.tfld lt (regChUse n) 15 0 + units)
  let s2 := s1.setTfld lt (regChUse n) 22 16 (s1.tfld lt (regChUse n) 22 16 + 1)
  s2.setTreg lt (regChSeq n) (s2.treg lt (regChSeq n) + 1)

theorem acceptMsg_of_free {s : State} {lt : Nat} (rd : BitVec 5) (n : Nat) (am : Bool) (m : List Byte) (units : Nat) (h : freeSlots s lt 4 ≠ []) :
    acceptMsg s lt rd n am m units =
      .done (gWrite (useGrown (xactTaken s lt n am m units) lt n units) lt .tcc rd (BitVec.ofNat 64 (chosenHandle s lt 4))) := by
  rw [acceptMsg, takeSlot_of_free h]
  rfl

section UseGrown
variable (s : State) (lt n : Nat) {units : Nat}

theorem treg_useGrown_seq : (useGrown s lt n units).treg lt (regChSeq n) = s.treg lt (regChSeq n) + 1 := by
  have hne := (regChUse_ne_regChSeq n).symm
  rw [useGrown, State.treg_setTreg_self, State.treg_setTfld_off_ne _ _ _ _ _ _ hne, State.treg_setTfld_off_ne _ _ _ _ _ _ hne]

theorem tfld_useGrown_units (h : s.tfld lt (regChUse n) 15 0 + units < 2 ^ 16) :
    (useGrown s lt n units).tfld lt (regChUse n) 15 0 = s.tfld lt (regChUse n) 15 0 + units := by
  rw [useGrown, State.tfld, State.treg_setTreg_off_ne _ _ _ _ (regChUse_ne_regChSeq n), ← State.tfld,
    State.tfld_setTfld_disjoint _ _ _ _ _ (by decide) (Or.inl (by decide)), State.tfld_setTfld_same _ _ _ (by decide) h]

theorem tfld_useGrown_count (h : s.tfld lt (regChUse n) 22 16 < 127) :
    (useGrown s lt n units).tfld lt (regChUse n) 22 16 = s.tfld lt (regChUse n) 22 16 + 1 := by
  have hfld : (s.setTfld lt (regChUse n) 15 0 (s.tfld lt (regChUse n) 15 0 + units)).tfld lt (regChUse n) 22 16 = s.tfld lt (regChUse n) 22 16 :=
    State.tfld_setTfld_disjoint _ _ _ _ _ (by decide) (Or.inr (by decide))
  rw [useGrown, State.tfld, State.treg_setTreg_off_ne _ _ _ _ (regChUse_ne_regChSeq n), ← State.tfld, hfld,
    State.tfld_setTfld_same _ _ _ (by decide) (by omega)]

/-- Only registers change. -/
theorem Kept.useGrown {β : Type} {o : Tile → β} (ho : ∀ t r, o { t with regs := r } = o t) : Kept o s (useGrown s lt n units) := by
  have hset : ∀ (u : State) off v, Kept o u (u.setTreg lt off v) := fun u off v => Kept.modTile _ (ho _ _)
  exact ((hset s _ _).trans (hset _ _ _)).trans (hset _ _ _)

end UseGrown

theorem treg_xactTaken (s : State) (lt n : Nat) (am : Bool) (m : List Byte) (units off : Nat) :
    (xactTaken s lt n am m units).treg lt off = s.treg lt off := by
  rw [xactTaken, State.treg_modTile rfl]
  exact (Kept.slotTaken (o := regAt off) (fun _ _ => rfl) s lt 4).treg lt

theorem sameMemory_xactTaken (s : State) (lt n : Nat) (am : Bool) (m : List Byte) (units : Nat) : sameMemory s (xactTaken s lt n am m units) :=
  ((Kept.slotTaken (o := Tile.mem) (fun _ _ => rfl) s lt 4).trans (Kept.modTile _ rfl)).sameMemory

/-- The end of an accepted message: the tile's registers, its transaction and the transaction's slot. -/
theorem treg_queuedEnd {len : Nat} (s : State) (lt : Nat) (rd : BitVec 5) (h off : Nat) : (queuedEnd len s lt rd h).treg lt off = s.treg lt off :=
  (Kept.queuedEnd (o := regAt off) s lt rd h (fun _ _ => rfl) (fun _ _ => rfl) (fun _ _ => rfl) (fun _ _ => rfl)).treg lt

theorem xactOf_accepted (s : State) (lt n : Nat) (am : Bool) (m : List Byte) (units : Nat) (rd : BitVec 5) (h : Nat) :
    xactOf (queuedEnd 4 (useGrown (xactTaken s lt n am m units) lt n units) lt rd h) lt (chosenSlot s lt 4) =
      some (acceptedXact s lt n am m units) := by
  have hend := ((Kept.useGrown (o := Tile.xacts) (units := units) (xactTaken s lt n am m units) lt n (fun _ _ => rfl)).trans
    (Kept.queuedEnd (len := 4) _ lt rd h (fun _ _ => rfl) (fun _ _ => rfl) (fun _ _ => rfl) (fun _ _ => rfl))).tile lt
  rw [xactOf, hend, xactTaken, State.tile_modTile_self]
  exact kvFind_kvSet_self _ _ _

theorem slot_accepted (s : State) (lt n : Nat) (am : Bool) (m : List Byte) (units : Nat) (rd : BitVec 5) (h : Nat) :
    ((queuedEnd 4 (useGrown (xactTaken s lt n am m units) lt n units) lt rd h).tile lt).slot 4 (chosenSlot s lt 4) =
      slotReused ((s.tile lt).slot 4 (chosenSlot s lt 4)) := by
  have hend := ((Kept.useGrown (o := Tile.slots) (units := units) (xactTaken s lt n am m units) lt n (fun _ _ => rfl)).trans
    (Kept.queuedEnd (len := 4) _ lt rd h (fun _ _ => rfl) (fun _ _ => rfl) (fun _ _ => rfl) (fun _ _ => rfl))).tile lt
  rw [← slot_slotTaken, Tile.slot, hend, xactTaken, State.tile_modTile_self]
  rfl

/-! ### The sends -/

/-- `ch.send` and `ch.am` are one instruction (R280, R295). -/
def sendInstr (am : Bool) (lt : Nat) (rd rs1 rs2 : BitVec 5) (idx : BitVec 6) : Instr :=
  if am then .chAm lt .tcc rd rs1 rs2 idx else .chSend lt .tcc rd rs1 rs2 idx

theorem exec_sendInstr_of_issues {s : State} {lt : Nat} (am : Bool) (rd rs1 rs2 : BitVec 5) (idx : BitVec 6)
    (hissues : issues s lt .tcc 4 tccNoAm = true) : exec (sendInstr am lt rd rs1 rs2 idx) s =
      .next (finish lt .tcc 4 (chSend (fetched s lt .tcc 4) lt am rd rs1 rs2 idx (wordT 0x13 rd rs1 rs2 idx (b2n am)))) := by
  cases am with
  | true => exact insn_of_issues _ _ hissues
  | false => exact insn_of_issues _ _ hissues

section Send
variable {s : State} {lt : Nat} {am : Bool} {rd rs1 rs2 : BitVec 5} {idx : BitVec 6} {word : Word}
  (hr2 : (gRead s lt .tcc rs2).toNat < 4)
  (hset : s.tbit lt (regChCfg (idx.toNat + 64 * fld (gRead s lt .tcc rs2) 1 0)) (if am then 11 else 10) = true)
include hr2 hset

theorem chSend_closed (hstate : chState s lt (idx.toNat + 64 * fld (gRead s lt .tcc rs2) 1 0) = 2) :
    chSend s lt am rd rs1 rs2 idx word = channelFault s := by
  unfold chSend
  extract_lets r2 n window
  rw [if_neg (Nat.not_le.mpr hr2), if_neg (by rw [show chState s lt n = 2 from hstate]; decide), if_neg (by rw [show s.tbit lt _ _ = true from hset]; decide),
    if_pos hstate]

/-- The message read and valid, it is accepted or waits for room (R280, R281). -/
theorem chSend_open {s1 : State} {msg : List Byte} (hstate : chState s lt (idx.toNat + 64 * fld (gRead s lt .tcc rs2) 1 0) = 1)
    (hread : coreRead s lt .tcc (gRead s lt .tcc rs1).toNat 32 = (s1, .ok msg))
    (hvalid : msgValid am (s.tbit lt (regChCfg (idx.toNat + 64 * fld (gRead s lt .tcc rs2) 1 0)) 3) msg = true) {u : Nat}
    (hu : u = msgUnits am (s.tbit lt (regChCfg (idx.toNat + 64 * fld (gRead s lt .tcc rs2) 1 0)) 3) (msgLength msg)) {n : Nat}
    (hn : n = idx.toNat + 64 * fld (gRead s lt .tcc rs2) 1 0) (hlimit : u ≤ s1.tfld lt (regChCfg n) 31 16) :
    chSend s lt am rd rs1 rs2 idx word =
      (if (freeSlots s1 lt 4).isEmpty || decide (s1.tfld lt (regChCfg n) 31 16 < s1.tfld lt (regChUse n) 15 0 + u)
          || (chForeign s1 lt n && s1.moduleId.isSome && !fabMayTake s1 lt) then .wait s1 (.channel n)
      else acceptMsg s1 lt rd n am msg u) := by
  subst hn
  subst hu
  unfold chSend
  extract_lets r2 n window
  rw [if_neg (Nat.not_le.mpr hr2), if_neg (by rw [show chState s lt n = 1 from hstate]; decide), if_neg (by rw [show s.tbit lt _ _ = true from hset]; decide),
    if_neg (by rw [show chState s lt n = 1 from hstate]; decide), hread]
  dsimp only
  rw [if_neg]
  rw [show msgValid am window msg = true from hvalid]
  simpa using hlimit

end Send

/-- Settles O15: a send that passes the checks of R280 is accepted, waits for room, or faults. -/
theorem channelInstructions : Obligations.ChannelInstructions := by
  intro s lt rd rs1 rs2 idx hissues f n hr2
  refine ⟨fun am s1 msg => ?_, fun hstate hrd hrs1 => ?_, fun hrs1 => ?_⟩
  · intro i u hset
    have hi : i = sendInstr am lt rd rs1 rs2 idx := rfl
    have hexec := exec_sendInstr_of_issues am rd rs1 rs2 idx hissues
    rw [← hi] at hexec
    refine ⟨fun hstate hread hvalid hlimit => ?_, fun hstate => ?_⟩
    · rw [chSend_open hr2 hset hstate hread hvalid rfl rfl hlimit] at hexec
      refine ⟨fun hroom hforeign hfree hcount => ?_, fun hfull => ?_⟩
      · have hempty : (freeSlots s1 lt 4).isEmpty = false := List.isEmpty_eq_false_iff.mpr hfree
        rw [hempty, decide_eq_false (Nat.not_lt.mpr hroom), hforeign, if_neg (by simp), acceptMsg_of_free _ _ _ _ _ hfree] at hexec
        have hmem : sameMemory f s1 := by
          have h := accessBlind_mem.coreRead (fun _ _ => rfl) f lt .tcc (gRead f lt .tcc rs1).toNat 32
          rw [hread] at h
          exact h.sameMemory
        have hbound : s1.tfld lt (regChUse n) 15 0 + u < 2 ^ 16 := lt_of_le_of_lt hroom (State.tfld_lt s1 lt _ 31 16)
        have hsame : ∀ hi lo, (xactTaken s1 lt n am msg u).tfld lt (regChUse n) hi lo = s1.tfld lt (regChUse n) hi lo := fun hi lo => by
          rw [State.tfld, treg_xactTaken, State.tfld]
        have hslot := slot_accepted s1 lt n am msg u rd (chosenHandle s1 lt 4)
        refine ⟨queuedEnd 4 (useGrown (xactTaken s1 lt n am msg u) lt n u) lt rd (chosenHandle s1 lt 4), chosenSlot s1 lt 4,
          acceptedXact s1 lt n am msg u, hexec, chosenSlot_mem hfree, xactOf_accepted s1 lt n am msg u rd _, rfl, rfl, rfl, rfl, ?_, ?_, ?_, ?_,
          fun hrd => ?_, ?_⟩
        · rw [hslot]
          rfl
        · rw [treg_queuedEnd, treg_useGrown_seq, treg_xactTaken]
        · rw [State.tfld, treg_queuedEnd, ← State.tfld, tfld_useGrown_units _ _ _ (by rwa [hsame]), hsame]
        · rw [State.tfld, treg_queuedEnd, ← State.tfld, tfld_useGrown_count _ _ _ (by rwa [hsame]), hsame]
        · rw [hslot]
          exact gRead_queuedEnd_same _ lt rd _ hrd
        · refine sameMemory_trans (sameMemory_trans hmem (sameMemory_xactTaken s1 lt n am msg u)) ?_
          exact sameMemory_trans (Kept.useGrown _ lt n fun _ _ => rfl).sameMemory (sameMemory_queuedEnd _ lt rd _)
      · rw [decide_eq_true hfull, Bool.or_true, Bool.true_or, if_pos rfl] at hexec
        exact hexec
    · rw [chSend_closed hr2 hset hstate] at hexec
      exact hexec
  · refine ⟨(insn_of_issues _ _ hissues).trans ?_, ?_⟩
    · rw [if_neg (fun h => h.elim (Nat.not_le.mpr hr2) (by simp [hrd, hrs1])), if_neg hstate]
      rfl
    · rw [chState, State.tfld, retired_eq_jumped, treg_jumped, ← State.tfld]
      exact State.tfld_setTfld_same f lt _ (by decide) (by decide)
  · refine (insn_of_issues _ _ hissues).trans ?_
    rw [if_neg (fun h => h.elim (Nat.not_le.mpr hr2) (by simp [hrs1]))]
    rfl

end Sys2Proof.Machine
end

section
/-!
O46: a placement group that is halted can be due again at once.
-/
namespace Sys2Proof.Machine

open Sys2Proof

/-! ### A FATAL error names its tile's group -/

theorem tileGroups_markTests (s : State) (u : UnitId) (ended : Bool) : (markTests s u ended).tileGroups = s.tileGroups := by
  unfold markTests onRasTile
  dsimp only
  split
  · rfl
  · rfl

/-- From `s` to `t` every tile is in the group it was in. -/
structure GroupsKept (s t : State) : Prop where
  groups : t.tileGroups = s.tileGroups

namespace GroupsKept

theorem refl (s : State) : GroupsKept s s := ⟨rfl⟩

theorem trans {s t u : State} (h : GroupsKept s t) (h' : GroupsKept t u) : GroupsKept s u := ⟨h'.groups.trans h.groups⟩

theorem ite {s t u : State} {p : Prop} [Decidable p] (h : GroupsKept s t) (h' : GroupsKept s u) : GroupsKept s (if p then t else u) := by
  split
  · exact h
  · exact h'

theorem foldl {β : Type} {f : State → β → State} (hf : ∀ v b, GroupsKept v (f v b)) (l : List β) (s : State) : GroupsKept s (l.foldl f s) := by
  induction l generalizing s with
  | nil => exact refl s
  | cons b l ih => exact (hf s b).trans (ih _)

theorem of_noted {F : List Nat} {s t : State} (h : Noted F s t) : GroupsKept s t := ⟨h.tileGroups⟩

theorem modFc (s : State) (f : Nat) (g : Fc → Fc) : GroupsKept s (s.modFc f g) := ⟨State.modFc_tileGroups s f g⟩

theorem modTile (s : State) (lt : Nat) (g : Tile → Tile) : GroupsKept s (s.modTile lt g) := ⟨State.modTile_tileGroups s lt g⟩

theorem drawn (s : State) : GroupsKept s s.drawn := ⟨rfl⟩

theorem markTests (s : State) (u : UnitId) (ended : Bool) : GroupsKept s (markTests s u ended) := ⟨tileGroups_markTests s u ended⟩

theorem testEnded (s : State) (f : Nat) (j : TestJob) (out dur : Nat) : GroupsKept s (testEnded s f j out dur) := by
  have hlog := (noted_logAppend (F := [f]) s (.fc f) (logEnt 0 j.unit.kind j.unit.pt j.unit.num 0 out (ceNow s f j.unit)
    (j.seq % 2 ^ 32 + dur % 2 ^ 32 * 2 ^ 32)) (List.mem_singleton_self f)).trans
    (noted_skbEvent [f] _ (.fc f) 0x02 [j.seq, j.unit.kind + out * 2 ^ 8 + j.unit.pt * 2 ^ 16, j.unit.num, dur])
  rw [Machine.testEnded]
  exact (of_noted hlog).trans (markTests _ j.unit _)

end GroupsKept

/-- The tile in which a FATAL error is reported is isolated, and its group is to be halted (R48, R34). -/
theorem group_mem_reportFatal (s : State) (lt : Nat) (u : UnitId) (software : Bool) (detail : Nat) :
    groupOfTile s lt ∈ (reportFatal s lt u software detail).haltGroups := by
  have hisolated : ∀ v : State, GroupsKept s v → groupOfTile s lt ∈ (startEpoch (isolateTile v lt)).haltGroups := fun v hv => by
    have hmem : groupOfTile v lt ∈ (isolateTile v lt).haltGroups := mem_haltGroup _ _
    rw [groupOfTile, hv.groups] at hmem
    exact (isolated_startEpoch _).haltGroups hmem
  unfold reportFatal
  extract_lets f hit s0 s1 seq test s2 s3 s4
  have h0 : GroupsKept s s0 := GroupsKept.modFc s f _
  have h1 : GroupsKept s0 s1 := GroupsKept.foldl (fun st j => (GroupsKept.drawn st).trans (GroupsKept.testEnded _ f j 8 _)) hit s0
  have h2 : GroupsKept s1 s2 := GroupsKept.of_noted (noted_logBoth s1 f u 3 0 _ detail)
  have h3 : GroupsKept s2 s3 := (GroupsKept.modFc s2 f _).ite (GroupsKept.refl s2)
  have h4 : GroupsKept s3 s4 := (GroupsKept.markTests s3 u false).ite (GroupsKept.refl s3)
  exact hisolated _ (((((h0.trans h1).trans h2).trans h3).trans h4).trans (GroupsKept.modTile s4 lt _))

/-- A trigger that was held, taken up in cluster mode while the TCC is in a trap at M, is a FATAL error (R241, R111). -/
theorem group_mem_releaseHeld {s : State} {lt : Nat} {x : Nat × Nat × Nat} (hheld : (s.tile lt).sk.trigHeld = some x)
    (hmode : (s.tile lt).cluster = true) (hprv : (s.tile lt).tcc.prv = .m) (htrap : (s.tile lt).tcc.trapM = true) :
    groupOfTile s lt ∈ (releaseHeld s lt).haltGroups := by
  obtain ⟨n, t, o⟩ := x
  obtain ⟨v, hv⟩ : ∃ v, v = modSk s lt fun k => { k with trigHeld := none } := ⟨_, rfl⟩
  have htile : v.tile lt = { s.tile lt with sk := { (s.tile lt).sk with trigHeld := none } } := by
    rw [hv]
    exact State.tile_modTile_self s lt _
  have hcluster : (v.tile lt).cluster = true := by rw [htile]; exact hmode
  have hto : ¬ TrapsToS (v.drawn.tile lt).tcc causeIllegal := fun h => h.1 (by rw [tile_drawn, htile]; exact hprv)
  have hrelease : releaseHeld s lt = tccTrap v.drawn lt causeIllegal stOk (some v.freeWord) := by
    rw [releaseHeld, hheld]
    dsimp only
    rw [← hv, triggerActs, if_pos hcluster]
  rw [hrelease, tccTrap_fatal stOk v.freeWord (Or.inr hto) (by rw [tile_drawn, htile]; exact htrap)]
  have hgroup : groupOfTile s lt = groupOfTile (modTcc v.drawn lt fun t => { t with stopped := true, wait := none }) lt := by
    rw [hv]
    rfl
  rw [hgroup]
  exact group_mem_reportFatal _ lt _ _ _

/-! ### The refutation -/

/-- Tile 0, alone in group 7, which is to be halted, is saved; a trigger is held for it, it is in cluster mode, and its TCC is in a trap at M. -/
def savedInTrap : State :=
  ((({ State.reset with haltGroups := [7], tileGroups := [(0, 7)] }).setTbit 0 regTilePreStatus 1 true).setTbit 0 regLcCfg 0 true).modTile 0
    fun t => { t with tcc := { t.tcc with trapM := true }, sk := { t.sk with trigHeld := some (0, 0, 0) } }

/-- Among the first numbers, the only one that a test takes. -/
theorem filter_range_zero {p : Nat → Bool} {n : Nat} (hn : 0 < n) (h0 : p 0 = true) (h : ∀ k, 0 < k → p k = false) :
    (List.range n).filter p = [0] := by
  obtain ⟨m, rfl⟩ := Nat.exists_eq_succ_of_ne_zero hn.ne'
  rw [List.range_succ_eq_map, List.filter_cons_of_pos h0, List.filter_eq_nil_iff.mpr]
  rintro k hk
  obtain ⟨j, -, rfl⟩ := List.mem_map.mp hk
  rw [h j.succ (Nat.succ_pos j)]
  exact Bool.false_ne_true

theorem members_savedInTrap : (allTiles savedInTrap).filter (fun lt => groupOfTile savedInTrap lt == 7) = [0] := by
  refine filter_range_zero (by decide) rfl fun k hk => ?_
  have hgroup : groupOfTile savedInTrap k = if 0 = k then 7 else 0 := rfl
  rw [hgroup, if_neg hk.ne]
  rfl

/-- The group halted: its one tile, which is saved, is discarded. -/
def haltedInTrap : State := { savedInTrap with haltGroups := [] }

/-- A group of one tile that is to be halted: the tile is halted, and the group is no longer one that is to be. -/
theorem exec_halt_single {s : State} {g a : Nat} (hdue : s.haltGroups.contains g = true)
    (hmembers : (allTiles s).filter (fun lt => groupOfTile s lt == g) = [a]) :
    exec (.placementGroupHalt g) s = .next (haltTile { s with haltGroups := s.haltGroups.filter (· != g) } a) := by
  rw [show exec (.placementGroupHalt g) s = execPlacementGroupHalt g s from rfl, execPlacementGroupHalt, if_pos hdue, hmembers]
  rfl

theorem haltTile_of_saved {s : State} {lt : Nat} (hlive : tileLive s lt = true) (hsaved : preBit s lt 1 = true) :
    haltTile s lt = releaseHeld (discardDone s lt) lt := by
  rw [haltTile, hlive, if_neg (by decide), if_pos hsaved, preDiscard_of_saved hsaved]

theorem exec_halt_savedInTrap : exec (.placementGroupHalt 7) savedInTrap = .next (releaseHeld (discardDone haltedInTrap 0) 0) := by
  have hgone : { savedInTrap with haltGroups := savedInTrap.haltGroups.filter (· != 7) } = haltedInTrap := rfl
  rw [exec_halt_single (by decide) members_savedInTrap, hgone, haltTile_of_saved (by decide) (by decide)]

/-- Refutes O46: a tile of the group is saved, in cluster mode, with a trigger held and its TCC in a trap at M. Discarding it takes the trigger up
(R254), which in cluster mode is an illegal instruction; nested at M that is a FATAL error (R111), which isolates the tile and has its group to be
halted again (R48): the group is still in `haltGroups` after the step. -/
theorem not_tileResume : ¬ Obligations.TileResume := by
  rintro ⟨-, -, -, hhalt⟩
  obtain ⟨t, hexec, hgone, -⟩ := hhalt savedInTrap 7 (by decide)
  rw [exec_halt_savedInTrap] at hexec
  have ht : releaseHeld (discardDone haltedInTrap 0) 0 = t := by
    injection hexec
  have hmem : groupOfTile (discardDone haltedInTrap 0) 0 ∈ t.haltGroups :=
    ht ▸ group_mem_releaseHeld (x := (0, 0, 0)) (by rfl) (by decide) (by rfl) (by rfl)
  have hgroup : groupOfTile (discardDone haltedInTrap 0) 0 = 7 := by rfl
  rw [hgroup] at hmem
  rw [List.contains_iff_mem.mpr hmem] at hgone
  cases hgone

end Sys2Proof.Machine
end

section
/-!
O26: floating-point vectors and special functions.
-/
namespace Sys2Proof.Machine

open Sys2Proof

/-! ### Flags of lane cores -/

/-- From `s` to `t` no flag of a lane core of the tile was lost. -/
def FlagsGrow (lt : Nat) (s t : State) : Prop := ∀ k, ((t.tile lt).lane k).fcsr &&& ((s.tile lt).lane k).fcsr = ((s.tile lt).lane k).fcsr

section FlagsGrow
variable {lt : Nat} {s t u : State}

theorem FlagsGrow.refl (lt : Nat) (s : State) : FlagsGrow lt s s := fun _ => BitVec.and_self

theorem FlagsGrow.trans (h : FlagsGrow lt s t) (k : FlagsGrow lt t u) : FlagsGrow lt s u := fun n => by
  rw [← h n, ← BitVec.and_assoc, k n]

theorem FlagsGrow.foldl {g : State → Nat → State} (hg : ∀ s j, FlagsGrow lt s (g s j)) (ls : List Nat) (s : State) :
    FlagsGrow lt s (ls.foldl g s) := by
  induction ls generalizing s with
  | nil => exact FlagsGrow.refl lt s
  | cons j r ih => exact (hg s j).trans (ih (g s j))

/-- What leaves LC_FCSR loses no flag. -/
theorem FlagsGrow.of_kept (h : Kept (eachLane LaneCore.fcsr) s t) : FlagsGrow lt s t := fun k => by
  rw [show ((t.tile lt).lane k).fcsr = ((s.tile lt).lane k).fcsr from congrFun (h.tile lt) k, BitVec.and_self]

theorem fcsrWith_and (w : Word) (x : FpFlags) : fcsrWith w x &&& w = w := by
  refine BitVec.eq_of_getLsbD_eq fun i _ => ?_
  rw [fcsrWith, BitVec.getLsbD_and, BitVec.getLsbD_or]
  cases w.getLsbD i with
  | true => rfl
  | false => exact Bool.and_false _

theorem FlagsGrow.addFlags (s : State) (n : Nat) (x : FpFlags) : FlagsGrow lt s (addFlags s lt n x) := fun k => by
  rw [Machine.addFlags, lane_modLane]
  split
  · next hk => rw [hk]; exact fcsrWith_and _ x
  · exact BitVec.and_self

end FlagsGrow

/-! ### LC_SR_INDEX -/

/-- What LC_SR_INDEX of a tile's cores is read from. -/
def srSource (t : Tile) : Bool × (Nat → BitVec 64) := (t.cluster, eachLane LaneCore.srIndex t)

theorem srSource_lanes (t : Tile) {n : Nat} {l : LaneCore} (h : l.srIndex = (t.lane n).srIndex) :
    srSource { t with lanes := kvSet t.lanes n l } = srSource t := by
  simp only [srSource, eachLane_kvSet (o := LaneCore.srIndex) h]
  rfl

theorem srIndex_of_kept {s t : State} (h : Kept srSource s t) (x n : Nat) : srIndex t x n = srIndex s x n := by
  obtain ⟨hmode, hlanes⟩ := Prod.ext_iff.mp (h.tile x)
  rw [srIndex, srIndex, leadLane_of_cluster hmode]
  exact congrArg BitVec.toNat (congrFun hlanes _)

theorem kept_srSource_vSet (s : State) (lt n : Nat) (r : BitVec 5) (x : VWord) : Kept srSource s (vSet s lt n r x) :=
  Kept.modLane s lt fun t => srSource_lanes t rfl

theorem kept_srSource_addFlags (s : State) (lt n : Nat) (x : FpFlags) : Kept srSource s (addFlags s lt n x) :=
  Kept.modLane s lt fun t => srSource_lanes t rfl

theorem srIndex_lt (s : State) (lt n : Nat) : srIndex s lt n < 2 ^ 64 := BitVec.isLt _

theorem srIndex_advanceSr (s : State) (lt n k : Nat) : srIndex (advanceSr s lt n k) lt n = (srIndex s lt n + k) % 2 ^ 64 := by
  have hmode : ((advanceSr s lt n k).tile lt).cluster = (s.tile lt).cluster := tile_modLanes_keeps Tile.cluster (fun _ _ => rfl) s lt _ _ lt
  rw [srIndex, leadLane_of_cluster hmode, advanceSr, lane_modLanes (nodup_coreLanes _ _), if_pos ⟨rfl, leadLane_mem_coreLanes _ n⟩,
    BitVec.toNat_add, BitVec.toNat_ofNat, Nat.add_mod_mod, ← srIndex]

/-! ### Slices with flags -/

theorem vGet_bumpCnt (s : State) (lt c m y k : Nat) (r : BitVec 5) : vGet (bumpCnt s lt c m) y k r = vGet s y k r :=
  vGet_of_lanes (State.tile_modTile_keeps Tile.lanes rfl y) r

theorem vGet_advanceSr (s : State) (lt n m k : Nat) (r : BitVec 5) : vGet (advanceSr s lt n m) lt k r = vGet s lt k r :=
  (VecKept.advanceSr (ls := []) (hit := fun _ => false) s n m).vectors lt k r (by simp)

section Flagged
variable (s : State) (lt : Nat) (ls : List Nat) (vd : BitVec 5) (w : Nat) (x : Nat → List Nat × FpFlags)

/-- One slice takes its lanes, and its lane core the flags they raised. -/
def flaggedSlice (u : State) (j : Nat) : State := addFlags (vSet u lt j vd (ofLanes w (x j).1)) lt j (x j).2

/-- Every active slice does. -/
def flaggedSlices : State := ls.foldl (flaggedSlice lt vd w x) s

theorem vecKept_flaggedSlices : VecKept lt ls (fun r => decide (r = vd)) s (flaggedSlices s lt ls vd w x) :=
  VecKept.foldl (fun u => u) (fun u j hj => (VecKept.vSet hj (decide_eq_true rfl) u _).trans (VecKept.addFlags _ j _)) s

theorem vGet_flaggedSlices {j : Nat} (hj : j ∈ ls) : vGet (flaggedSlices s lt ls vd w x) lt j vd = ofLanes w (x j).1 := by
  have hfold := vGet_foldl (fun u => u) (g := flaggedSlice lt vd w x) (lt := lt) (hit := fun r => decide (r = vd)) (val := fun j _ => ofLanes w (x j).1)
    (fun u j y k r => by
      rw [flaggedSlice, vGet_addFlags, vGet_vSet]
      simp only [decide_eq_true_eq]) ls s lt j vd
  rw [flaggedSlices, hfold, if_pos ⟨rfl, hj, decide_eq_true rfl⟩]

theorem flagsGrow_flaggedSlices : FlagsGrow lt s (flaggedSlices s lt ls vd w x) :=
  FlagsGrow.foldl (fun u j => (FlagsGrow.of_kept (Kept.modLane u lt fun _ => eachLane_kvSet rfl)).trans (FlagsGrow.addFlags _ j _)) ls s

theorem srIndex_flaggedSlices (n : Nat) : srIndex (flaggedSlices s lt ls vd w x) lt n = srIndex s lt n :=
  srIndex_of_kept (Kept.foldl (g := flaggedSlice lt vd w x)
    (fun u j => (kept_srSource_vSet u lt j vd _).trans (kept_srSource_addFlags _ lt j _)) ls s) lt n

end Flagged

/-! ### What a `vf` instruction leaves -/

/-- Lane `i` of a slice is rounded with the bits of element `k + i`. -/
theorem getD_vfSlice (op : Nat) (f : FloatFmt) (rnd : Nat → Rnd) (k : Nat) {ds as bs : List Nat} {i : Nat} (hd : i < ds.length) (ha : i < as.length)
    (hb : i < bs.length) :
    (vfSlice op f rnd k ds as bs).1.getD i 0 = (vfLane op f (rnd (k + i)) (ds.getD i 0) (as.getD i 0) (bs.getD i 0)).1 := by
  induction i generalizing k ds as bs with
  | zero =>
    obtain ⟨d, dr, rfl⟩ := List.exists_cons_of_length_pos hd
    obtain ⟨a, ar, rfl⟩ := List.exists_cons_of_length_pos ha
    obtain ⟨b, br, rfl⟩ := List.exists_cons_of_length_pos hb
    rfl
  | succ i ih =>
    obtain ⟨d, dr, rfl⟩ := List.exists_cons_of_length_pos (Nat.zero_lt_of_lt hd)
    obtain ⟨a, ar, rfl⟩ := List.exists_cons_of_length_pos (Nat.zero_lt_of_lt ha)
    obtain ⟨b, br, rfl⟩ := List.exists_cons_of_length_pos (Nat.zero_lt_of_lt hb)
    simp only [vfSlice, List.getD_cons_succ]
    rw [ih (k + 1) (Nat.lt_of_succ_lt_succ hd) (Nat.lt_of_succ_lt_succ ha) (Nat.lt_of_succ_lt_succ hb), Nat.add_right_comm, Nat.add_assoc]

section Vf
variable {s : State} {lt n : Nat} {vd vs1 vs2 : BitVec 5} {fmt : BitVec 2} {lcnt : BitVec 4} {ls : List Nat} {f : FloatFmt}

/-- The rounding of element `k` on a lane core (R120, R128). -/
def vfRnd (s : State) (lt n j k : Nat) : Rnd := rmRnd (laneRm s lt j) (laneRandom s lt n k)

/-- The lanes of a slice of `vf`, and their flags. -/
def vfLanes (op : Nat) (f : FloatFmt) (s : State) (lt n base : Nat) (vd vs1 vs2 : BitVec 5) (j : Nat) : List Nat × FpFlags :=
  vfSlice op f (vfRnd s lt n j) (128 / f.bits * (j - base)) (lanesOf f.bits (vGet s lt j vd)) (lanesOf f.bits (vGet s lt j vs1))
    (lanesOf f.bits (vGet s lt j vs2))

/-- The active slices and the counter after `vf`. -/
def vfCounted (op : Nat) (f : FloatFmt) (c : Nat) (s : State) (lt n : Nat) (ls : List Nat) (vd vs1 vs2 : BitVec 5) : State :=
  bumpCnt (flaggedSlices s lt ls vd f.bits (vfLanes op f s lt n (ls.headD 0) vd vs1 vs2)) lt c (128 / f.bits * ls.length)

/-- What `vf` leaves: with RM 4 of the first active lane core, LC_SR_INDEX advances (R128). -/
def vfDone (op : Nat) (f : FloatFmt) (c : Nat) (s : State) (lt n : Nat) (ls : List Nat) (vd vs1 vs2 : BitVec 5) : State :=
  if laneRm s lt (ls.headD 0) = 4 then advanceSr (vfCounted op f c s lt n ls vd vs1 vs2) lt n (128 / f.bits * ls.length)
  else vfCounted op f c s lt n ls vd vs1 vs2

theorem vf_of_issues (op : Nat) (hissues : issues s lt (.lane n) 4 laneOnly = true)
    (hls : activeLanes ((fetched s lt (.lane n) 4).tile lt) n lcnt.toNat = some ls) (hf : vfFmt fmt.toNat = some f) :
    vf op lt (.lane n) vd vs1 vs2 fmt lcnt s =
      .next (retired lt (.lane n) 4 (vfDone op f (9 + fmt.toNat) (fetched s lt (.lane n) 4) lt n ls vd vs1 vs2)) := by
  rw [vf, vinsn_of_issues _ _ hissues hls]
  simp only [hf]
  rfl

theorem vecKept_vfDone (op : Nat) (f : FloatFmt) (c : Nat) (s : State) (lt n : Nat) (ls : List Nat) (vd vs1 vs2 : BitVec 5) :
    VecKept lt ls (fun r => decide (r = vd)) s (vfDone op f c s lt n ls vd vs1 vs2) := by
  have hcounted : VecKept lt ls (fun r => decide (r = vd)) s (vfCounted op f c s lt n ls vd vs1 vs2) :=
    (vecKept_flaggedSlices s lt ls vd _ _).trans (VecKept.bumpCnt _ c _)
  unfold vfDone
  split
  · exact hcounted.trans (VecKept.advanceSr _ n _)
  · exact hcounted

theorem vGet_vfDone (op : Nat) (f : FloatFmt) (c : Nat) (s : State) (lt n : Nat) {ls : List Nat} (vd vs1 vs2 : BitVec 5) {j : Nat} (hj : j ∈ ls) :
    vGet (vfDone op f c s lt n ls vd vs1 vs2) lt j vd = ofLanes f.bits (vfLanes op f s lt n (ls.headD 0) vd vs1 vs2 j).1 := by
  have hcounted : vGet (vfCounted op f c s lt n ls vd vs1 vs2) lt j vd = ofLanes f.bits (vfLanes op f s lt n (ls.headD 0) vd vs1 vs2 j).1 :=
    (vGet_bumpCnt _ lt c _ lt j vd).trans (vGet_flaggedSlices s lt ls vd _ _ hj)
  unfold vfDone
  split
  · exact (vGet_advanceSr _ lt n _ j vd).trans hcounted
  · exact hcounted

/-- A lane that `vf` writes. -/
theorem laneAt_vfDone (op : Nat) (hbits : 0 < f.bits) (c : Nat) (s : State) (lt n : Nat) {ls : List Nat} (vd vs1 vs2 : BitVec 5) {j i : Nat}
    (hj : j ∈ ls) (hi : i < 128 / f.bits) :
    Obl.laneAt f.bits (vGet (vfDone op f c s lt n ls vd vs1 vs2) lt j vd) i =
      BitVec.ofNat f.bits (vfLane op f (vfRnd s lt n j (128 / f.bits * (j - ls.headD 0) + i)) (Obl.laneAt f.bits (vGet s lt j vd) i).toNat
        (Obl.laneAt f.bits (vGet s lt j vs1) i).toNat (Obl.laneAt f.bits (vGet s lt j vs2) i).toNat).1 := by
  have hlen : ∀ r, i < (lanesOf f.bits (vGet s lt j r)).length := fun r => by rwa [length_lanesOf]
  rw [vGet_vfDone _ _ _ _ _ _ _ _ _ hj, laneAt_ofLanes (lane_within hi), vfLanes, getD_vfSlice _ _ _ _ (hlen vd) (hlen vs1) (hlen vs2),
    getD_lanesOf hbits _ hi, getD_lanesOf hbits _ hi, getD_lanesOf hbits _ hi]

theorem kept_fcsr_bumpCnt (s : State) (lt n k : Nat) : Kept (eachLane LaneCore.fcsr) s (bumpCnt s lt n k) := Kept.modTile _ rfl

theorem flagsGrow_vfDone (op : Nat) (f : FloatFmt) (c : Nat) (s : State) (lt n : Nat) (ls : List Nat) (vd vs1 vs2 : BitVec 5) :
    FlagsGrow lt s (vfDone op f c s lt n ls vd vs1 vs2) := by
  have hcounted : FlagsGrow lt s (vfCounted op f c s lt n ls vd vs1 vs2) :=
    (flagsGrow_flaggedSlices s lt ls vd _ _).trans (FlagsGrow.of_kept (kept_fcsr_bumpCnt _ lt c _))
  unfold vfDone
  split
  · exact hcounted.trans (FlagsGrow.of_kept (Kept.modLanes _ lt fun _ _ => eachLane_kvSet rfl))
  · exact hcounted

theorem srIndex_vfDone (op : Nat) (f : FloatFmt) (c : Nat) (s : State) (lt n : Nat) (ls : List Nat) (vd vs1 vs2 : BitVec 5) :
    srIndex (vfDone op f c s lt n ls vd vs1 vs2) lt n =
      (srIndex s lt n + (if laneRm s lt (ls.headD 0) = 4 then 128 / f.bits * ls.length else 0)) % 2 ^ 64 := by
  have hcounted : srIndex (vfCounted op f c s lt n ls vd vs1 vs2) lt n = srIndex s lt n :=
    (srIndex_of_kept (Kept.modTile _ rfl) lt n).trans (srIndex_flaggedSlices s lt ls vd _ _ n)
  unfold vfDone
  split
  · rw [srIndex_advanceSr, hcounted]
  · rw [hcounted, Nat.add_zero, Nat.mod_eq_of_lt (srIndex_lt s lt n)]

end Vf

/-! ### Retirement -/

theorem flagsGrow_retired (s : State) (lt n : Nat) : FlagsGrow lt s (retired lt (.lane n) 4 s) :=
  FlagsGrow.of_kept (Kept.jumped s lt (fun _ _ => rfl) (fun _ _ => rfl) (fun _ _ _ => rfl) (fun _ _ _ _ => eachLane_kvSet rfl) _ _)

theorem srIndex_retired (s : State) (lt n : Nat) : srIndex (retired lt (.lane n) 4 s) lt n = srIndex s lt n :=
  srIndex_of_kept (Kept.jumped s lt (fun _ _ => rfl) (fun _ _ => rfl) (fun _ _ _ => rfl) (fun t _ _ _ => srSource_lanes t rfl) _ _) lt n

/-- A `vf` as a whole: its lanes, its flags, LC_SR_INDEX and its frame (R120, R128). -/
theorem vf_spec {s : State} {lt n : Nat} {vd vs1 vs2 : BitVec 5} {lcnt : BitVec 4} {ls : List Nat} {q : BitVec 2 × FloatFmt} (hq : q ∈ Obl.vfFmts)
    (op : Nat) (hissues : issues s lt (.lane n) 4 laneOnly = true) {f : State} (hf : fetched s lt (.lane n) 4 = f)
    (hls : activeLanes (f.tile lt) n lcnt.toNat = some ls) :
    ∃ t, vf op lt (.lane n) vd vs1 vs2 q.1 lcnt s = .next t ∧
      (∀ j ∈ ls, ∀ i, i < 128 / q.2.bits → Obl.laneAt q.2.bits (vGet t lt j vd) i =
        BitVec.ofNat q.2.bits (vfLane op q.2 (vfRnd f lt n j (128 / q.2.bits * (j - ls.headD 0) + i)) (Obl.laneAt q.2.bits (vGet f lt j vd) i).toNat
          (Obl.laneAt q.2.bits (vGet f lt j vs1) i).toNat (Obl.laneAt q.2.bits (vGet f lt j vs2) i).toNat).1) ∧
      FlagsGrow lt f t ∧
      srIndex t lt n = (srIndex f lt n + (if laneRm f lt (ls.headD 0) = 4 then 128 / q.2.bits * ls.length else 0)) % 2 ^ 64 ∧
      Obl.vecFrame lt n ls vd f t := by
  subst hf
  obtain ⟨hfmt, hbits⟩ := vfFmts_spec hq
  refine ⟨_, vf_of_issues op hissues hls hfmt, fun j hj i hi => ?_, ?_, ?_, vecFrame_retired (vecKept_vfDone op q.2 _ _ lt n ls vd vs1 vs2)⟩
  · rw [retired_eq_jumped, vGet_jumped, laneAt_vfDone op hbits _ _ _ _ _ _ _ hj hi]
  · exact (flagsGrow_vfDone op q.2 _ _ lt n ls vd vs1 vs2).trans (flagsGrow_retired _ lt n)
  · rw [srIndex_retired, srIndex_vfDone]

/-! ### Arithmetic -/

/-- Only RM 2 rounds down. -/
theorem rmRnd_down (rm r : Nat) : (rmRnd rm r == Rnd.down) = decide (rm = 2) := by
  match rm with
  | 0 => rfl
  | 1 => rfl
  | 2 => rfl
  | 3 => rfl
  | 4 => rfl
  | rm + 5 => exact (decide_eq_false (by omega)).symm

/-- The arithmetic operations by their number: the exact result of old vd, vs1 and vs2 (Table 4.5). -/
def vfExact (op : Nat) (rd : Bool) (d a b : FVal) : FVal :=
  match op with
  | 0 => (a.mul b).add rd d
  | 1 => (a.mul b).add rd d.neg
  | 2 => d.add rd (a.mul b).neg
  | 3 => a.mul b
  | 4 => a.add rd b
  | _ => a.add rd b.neg

/-- The exact result rounded once (R120). -/
theorem vfLane_arith {op : Nat} (hop : op < 6) (f : FloatFmt) (r : Rnd) (d a b : Nat) :
    (vfLane op f r d a b).1 = (f.result r (vfExact op (r == .down) (f.decode d) (f.decode a) (f.decode b))).1 := by
  match op, hop with
  | 0, _ => rfl
  | 1, _ => rfl
  | 2, _ => rfl
  | 3, _ => rfl
  | 4, _ => rfl
  | 5, _ => rfl

/-! ### The smaller and the larger -/

theorem pickNum_mem (f : FloatFmt) (larger : Bool) (a b : Nat) : pickNum f larger a b = a ∨ pickNum f larger a b = b := by
  unfold pickNum
  dsimp only
  split
  · exact ite_eq_or_eq _ a b
  · exact ite_eq_or_eq _ a b

/-- The order in which an operand stands to the other where it is the one returned. -/
def wantedOrder (larger : Bool) : Int := if larger then 1 else -1

theorem pickNum_of_ne {f : FloatFmt} {a b : Nat} (larger : Bool) (ha : (f.decode a).isNan = false) (hb : (f.decode b).isNan = false)
    (hne : (f.decode a).cmp (f.decode b) ≠ 0) :
    pickNum f larger a b = if (f.decode a).cmp (f.decode b) = wantedOrder larger then a else b := by
  unfold pickNum
  simp only [ha, hb, beq_eq_false_iff_ne.mpr hne, Bool.or_false, Bool.false_eq_true, if_false]
  refine if_congr ?_ rfl rfl
  rcases cmp_cases (f.decode a) (f.decode b) with h | h | h
  · rw [h]; revert larger; decide
  · exact absurd h hne
  · rw [h]; revert larger; decide

/-! ### The instructions of `vf` -/

section Lanes
variable {s f : State} {lt n : Nat} {vd vs1 vs2 : BitVec 5} {lcnt : BitVec 4} {ls : List Nat} {q : BitVec 2 × FloatFmt}

/-- The six arithmetic instructions (R120). -/
theorem vf_arith_spec (hq : q ∈ Obl.vfFmts) {op : Nat} (hop : op < 6) (hissues : issues s lt (.lane n) 4 laneOnly = true)
    (hf : fetched s lt (.lane n) 4 = f) (hls : activeLanes (f.tile lt) n lcnt.toNat = some ls) :
    ∃ t, vf op lt (.lane n) vd vs1 vs2 q.1 lcnt s = .next t ∧
      (∀ j ∈ ls, ∀ i, i < 128 / q.2.bits → Obl.laneAt q.2.bits (vGet t lt j vd) i = BitVec.ofNat q.2.bits
        (q.2.result (vfRnd f lt n j (128 / q.2.bits * (j - ls.headD 0) + i)) (vfExact op (decide (laneRm f lt j = 2))
          (q.2.decode (Obl.laneAt q.2.bits (vGet f lt j vd) i).toNat) (q.2.decode (Obl.laneAt q.2.bits (vGet f lt j vs1) i).toNat)
          (q.2.decode (Obl.laneAt q.2.bits (vGet f lt j vs2) i).toNat))).1) ∧
      (∀ j ∈ ls, ((t.tile lt).lane j).fcsr &&& ((f.tile lt).lane j).fcsr = ((f.tile lt).lane j).fcsr) ∧
      srIndex t lt n = (srIndex f lt n + (if laneRm f lt (ls.headD 0) = 4 then 128 / q.2.bits * ls.length else 0)) % 2 ^ 64 ∧
      Obl.vecFrame lt n ls vd f t := by
  obtain ⟨t, hexec, hlanes, hflags, hindex, hframe⟩ := vf_spec (vd := vd) (vs1 := vs1) (vs2 := vs2) hq op hissues hf hls
  refine ⟨t, hexec, fun j hj i hi => ?_, fun j _ => hflags j, hindex, hframe⟩
  rw [hlanes j hj i hi, vfLane_arith hop, vfRnd, rmRnd_down]

/-- What `min` and `max` return of two lanes (R120). -/
def picked (larger : Bool) (f : FloatFmt) (a b out : BitVec f.bits) : Prop :=
  (out = a ∨ out = b) ∧
    ((f.decode a.toNat).isNan = false → (f.decode b.toNat).isNan = false → (f.decode a.toNat).cmp (f.decode b.toNat) ≠ 0 →
      out = if (f.decode a.toNat).cmp (f.decode b.toNat) = wantedOrder larger then a else b)

theorem picked_pickNum (larger : Bool) (f : FloatFmt) (a b : BitVec f.bits) :
    picked larger f a b (BitVec.ofNat f.bits (pickNum f larger a.toNat b.toNat)) := by
  have hself : ∀ y : BitVec f.bits, BitVec.ofNat f.bits y.toNat = y := fun y => (BitVec.ofNat_toNat _ _).trans (BitVec.setWidth_eq y)
  refine ⟨(pickNum_mem f larger a.toNat b.toNat).imp (fun h => by rw [h, hself]) (fun h => by rw [h, hself]), fun ha hb hne => ?_⟩
  rw [pickNum_of_ne larger ha hb hne, apply_ite (BitVec.ofNat f.bits), hself, hself]

/-- `min` and `max` (R120). -/
theorem vf_pick_spec (hq : q ∈ Obl.vfFmts) {op : Nat} {larger : Bool} (hop : ∀ r d a b, (vfLane op q.2 r d a b).1 = pickNum q.2 larger a b)
    (hissues : issues s lt (.lane n) 4 laneOnly = true) (hf : fetched s lt (.lane n) 4 = f)
    (hls : activeLanes (f.tile lt) n lcnt.toNat = some ls) :
    ∃ t, vf op lt (.lane n) vd vs1 vs2 q.1 lcnt s = .next t ∧
      (∀ j ∈ ls, ∀ i, i < 128 / q.2.bits → picked larger q.2 (Obl.laneAt q.2.bits (vGet f lt j vs1) i) (Obl.laneAt q.2.bits (vGet f lt j vs2) i)
        (Obl.laneAt q.2.bits (vGet t lt j vd) i)) ∧ Obl.vecFrame lt n ls vd f t := by
  obtain ⟨t, hexec, hlanes, -, -, hframe⟩ := vf_spec (vd := vd) (vs1 := vs1) (vs2 := vs2) hq op hissues hf hls
  refine ⟨t, hexec, fun j hj i hi => ?_, hframe⟩
  rw [hlanes j hj i hi, hop]
  exact picked_pickNum larger q.2 _ _

end Lanes

/-! ### Special functions -/

theorem getD_sfuSlice (fn : Nat) (xs : List Nat) {i : Nat} (hi : i < xs.length) :
    (sfuSlice fn xs).1.getD i 0 = (sfu fn (BitVec.ofNat 32 (xs.getD i 0))).1 := by
  induction xs generalizing i with
  | nil => exact absurd hi (Nat.not_lt_zero i)
  | cons x r ih =>
    cases i with
    | zero => rfl
    | succ i => exact ih (Nat.lt_of_succ_lt_succ hi)

section Vsfu
variable {s : State} {lt n : Nat} {vd vs1 vs2 : BitVec 5} {lcnt : BitVec 4} {ls : List Nat}

/-- What `vsfu` leaves. -/
def vsfuDone (fn : Nat) (s : State) (lt : Nat) (ls : List Nat) (vd vs1 : BitVec 5) : State :=
  bumpCnt (flaggedSlices s lt ls vd 32 fun j => sfuSlice fn (lanesOf 32 (vGet s lt j vs1))) lt 12 (4 * ls.length)

theorem vsfu_of_issues (fn : Nat) (hissues : issues s lt (.lane n) 4 laneOnly = true)
    (hls : activeLanes ((fetched s lt (.lane n) 4).tile lt) n lcnt.toNat = some ls) :
    vsfu fn lt (.lane n) vd vs1 vs2 0 lcnt s = .next (retired lt (.lane n) 4 (vsfuDone fn (fetched s lt (.lane n) 4) lt ls vd vs1)) := by
  rw [vsfu, vinsn_of_issues _ _ hissues hls]
  rfl

theorem vecKept_vsfuDone (fn : Nat) (s : State) (lt : Nat) (ls : List Nat) (vd vs1 : BitVec 5) :
    VecKept lt ls (fun r => decide (r = vd)) s (vsfuDone fn s lt ls vd vs1) :=
  (vecKept_flaggedSlices s lt ls vd 32 _).trans (VecKept.bumpCnt _ 12 _)

theorem flagsGrow_vsfuDone (fn : Nat) (s : State) (lt : Nat) (ls : List Nat) (vd vs1 : BitVec 5) : FlagsGrow lt s (vsfuDone fn s lt ls vd vs1) :=
  (flagsGrow_flaggedSlices s lt ls vd 32 _).trans (FlagsGrow.of_kept (kept_fcsr_bumpCnt _ lt 12 _))

/-- A lane that `vsfu` writes. -/
theorem laneAt_vsfuDone (fn : Nat) (s : State) (lt : Nat) {ls : List Nat} (vd vs1 : BitVec 5) {j i : Nat} (hj : j ∈ ls) (hi : i < 4) :
    Obl.laneAt 32 (vGet (vsfuDone fn s lt ls vd vs1) lt j vd) i = BitVec.ofNat 32 (sfu fn (Obl.laneAt 32 (vGet s lt j vs1) i)).1 := by
  rw [vsfuDone, vGet_bumpCnt, vGet_flaggedSlices _ _ _ _ _ _ hj,
    laneAt_ofLanes (by omega), getD_sfuSlice _ _ (by rwa [length_lanesOf]), getD_lanesOf (by decide) _ hi, BitVec.ofNat_toNat, BitVec.setWidth_eq]

/-- A `vsfu` as a whole (R122). -/
theorem vsfu_spec (fn : Nat) (hissues : issues s lt (.lane n) 4 laneOnly = true) {f : State} (hf : fetched s lt (.lane n) 4 = f)
    (hls : activeLanes (f.tile lt) n lcnt.toNat = some ls) :
    ∃ t, vsfu fn lt (.lane n) vd vs1 vs2 0 lcnt s = .next t ∧
      (∀ j ∈ ls, ∀ i, i < 4 → Obl.laneAt 32 (vGet t lt j vd) i = BitVec.ofNat 32 (sfu fn (Obl.laneAt 32 (vGet f lt j vs1) i)).1) ∧
      (∀ j ∈ ls, ((t.tile lt).lane j).fcsr &&& ((f.tile lt).lane j).fcsr = ((f.tile lt).lane j).fcsr) ∧ Obl.vecFrame lt n ls vd f t := by
  subst hf
  have hflags := (flagsGrow_vsfuDone fn (fetched s lt (.lane n) 4) lt ls vd vs1).trans (flagsGrow_retired _ lt n)
  refine ⟨_, vsfu_of_issues fn hissues hls, fun j hj i hi => ?_, fun j _ => hflags j, vecFrame_retired (vecKept_vsfuDone fn _ lt ls vd vs1)⟩
  rw [retired_eq_jumped, vGet_jumped, laneAt_vsfuDone fn _ lt vd vs1 hj hi]

end Vsfu

/-! ### The statement -/

/-- Settles O26: the lanes of each instruction, its flags and LC_SR_INDEX. -/
theorem vectorFloat : Obligations.VectorFloat := by
  refine ⟨?_, ?_, ?_⟩
  · intro p hp q hq s lt n vd vs1 vs2 lcnt ls hissues f per hls
    have hend := fun op (hop : op < 6) => vf_arith_spec (vd := vd) (vs1 := vs1) (vs2 := vs2) hq hop hissues rfl hls
    simp only [List.mem_cons, List.not_mem_nil, or_false] at hp
    rcases hp with rfl | rfl | rfl | rfl | rfl | rfl
    · exact hend 0 (by decide)
    · exact hend 1 (by decide)
    · exact hend 2 (by decide)
    · exact hend 3 (by decide)
    · exact hend 4 (by decide)
    · exact hend 5 (by decide)
  · intro p hp q hq s lt n vd vs1 vs2 lcnt ls hissues f hls
    simp only [List.mem_cons, List.not_mem_nil, or_false] at hp
    rcases hp with rfl | rfl
    · exact vf_pick_spec (op := 6) (larger := false) hq (fun _ _ _ _ => rfl) hissues rfl hls
    · exact vf_pick_spec (op := 7) (larger := true) hq (fun _ _ _ _ => rfl) hissues rfl hls
  · intro p hp s lt n vd vs1 vs2 lcnt ls hissues f hls
    have hend := fun fn => vsfu_spec (vd := vd) (vs1 := vs1) (vs2 := vs2) fn hissues rfl hls
    simp only [List.mem_cons, List.not_mem_nil, or_false] at hp
    rcases hp with rfl | rfl | rfl | rfl | rfl | rfl
    · exact hend 0
    · exact hend 1
    · exact hend 2
    · exact hend 3
    · exact hend 4
    · exact hend 5

end Sys2Proof.Machine
end

section
/-!
O29: starting lane cores, and the actions on their fault records.
-/
namespace Sys2Proof.Machine

open Sys2Proof

/-! ### Lead lane cores -/

theorem leadLane_idem (t : Tile) (k : Nat) : leadLane t (leadLane t k) = leadLane t k := by
  unfold leadLane
  split
  · omega
  · rfl

/-- A lane core leads where it is the first of its medium core, or where there are none. -/
theorem leadLane_eq_self (t : Tile) (n : Nat) : leadLane t n = n ↔ (t.cluster && n % 16 != 0) = false := by
  rw [leadLane]
  cases t.cluster with
  | true => simp only [if_true, Bool.true_and, bne_eq_false_iff_eq]; omega
  | false => simp

/-- The lane cores of a lead lane core are those that it leads. -/
theorem mem_coreLanes_of_lead {t : Tile} {n : Nat} (hn : leadLane t n = n) (k : Nat) : k ∈ coreLanes t n ↔ leadLane t k = n := by
  rw [mem_coreLanes]
  unfold leadLane at hn ⊢
  split
  · next hmode => rw [if_pos hmode] at hn; omega
  · rfl

/-! ### Starts -/

/-- Whether a lane core takes a start: it neither runs nor holds a record (R129). -/
def takesStart (l : LaneCore) : Bool := !(l.st == .running || l.frec.valid)

/-- A lane core that has been started at an address. -/
def laneStarted (pc : Word) (l : LaneCore) : LaneCore := { l with st := .running, pc := pc, started := true, wait := none }

theorem takesStart_iff (l : LaneCore) : takesStart l = true ↔ l.st ≠ .running ∧ l.frec.valid = false := by
  rw [takesStart, Bool.not_eq_true', Bool.or_eq_false_iff, beq_eq_false_iff_ne]

theorem tryStart_eq (lt : Nat) (pc : Word) (s : State) (n : Nat) :
    tryStart lt pc s n = if leadLane (s.tile lt) n = n ∧ takesStart ((s.tile lt).lane n) = true then startLane s lt n pc else s := by
  by_cases hlead : leadLane (s.tile lt) n = n
  · have hfirst := (leadLane_eq_self _ n).mp hlead
    simp only [tryStart, hfirst, hlead, takesStart, Bool.false_or, true_and]
    generalize (((s.tile lt).lane n).st == LaneSt.running || ((s.tile lt).lane n).frec.valid) = refuses
    cases refuses with
    | true => rfl
    | false => rfl
  · have hfirst : ((s.tile lt).cluster && n % 16 != 0) = true := by
      rwa [leadLane_eq_self, Bool.not_eq_false] at hlead
    simp only [tryStart, hfirst, hlead, Bool.true_or, if_true, false_and, if_false]

/-- A start changes lane cores only. -/
theorem tryStart_keeps {β : Type} (o : Tile → β) (ho : ∀ t l, o { t with lanes := l } = o t) (lt : Nat) (pc : Word) (s : State) (n x : Nat) :
    o ((tryStart lt pc s n).tile x) = o (s.tile x) := by
  rw [tryStart_eq]
  split
  · exact tile_modLanes_keeps o ho s lt _ _ x
  · rfl

/-- What a start leaves of each lane core: those that the started one leads run (R129). -/
theorem lane_tryStart (lt : Nat) (pc : Word) (s : State) (n k : Nat) :
    ((tryStart lt pc s n).tile lt).lane k =
      if leadLane (s.tile lt) k = n ∧ takesStart ((s.tile lt).lane n) = true then laneStarted pc ((s.tile lt).lane k) else (s.tile lt).lane k := by
  rw [tryStart_eq]
  by_cases hlead : leadLane (s.tile lt) n = n
  · simp only [hlead, true_and]
    by_cases htakes : takesStart ((s.tile lt).lane n) = true
    · simp only [htakes, if_true, and_true]
      rw [startLane, lane_modLanes (nodup_coreLanes _ n)]
      simp only [true_and, mem_coreLanes_of_lead hlead]
      rfl
    · rw [if_neg htakes, if_neg (fun h => htakes h.2)]
  · have hnone : leadLane (s.tile lt) k ≠ n := fun h => hlead (h ▸ leadLane_idem _ k)
    rw [if_neg (fun h => hlead h.1), if_neg (fun h => hnone h.1)]

/-- Starts of several lane cores, one after the other: each depends on what held before the first. -/
theorem lane_tryStarts (lt : Nat) (pc : Word) {ns : List Nat} (hns : ns.Nodup) (s : State) (k : Nat) :
    ((ns.foldl (tryStart lt pc) s).tile lt).lane k =
      if leadLane (s.tile lt) k ∈ ns ∧ takesStart ((s.tile lt).lane (leadLane (s.tile lt) k)) = true
      then laneStarted pc ((s.tile lt).lane k) else (s.tile lt).lane k := by
  induction ns generalizing s with
  | nil => simp
  | cons n r ih =>
    obtain ⟨hn, hr⟩ := List.nodup_cons.mp hns
    have hmode : leadLane ((tryStart lt pc s n).tile lt) k = leadLane (s.tile lt) k :=
      leadLane_of_cluster (tryStart_keeps Tile.cluster (fun _ _ => rfl) lt pc s n lt) k
    rw [List.foldl_cons, ih hr, hmode, lane_tryStart, lane_tryStart, leadLane_idem]
    by_cases hk : leadLane (s.tile lt) k = n
    · subst hk
      simp [hn]
    · simp [hk]

/-- The lane cores that a write of LC_STARTn names. -/
def lanesNamed (n : Nat) (v : Word) : List Nat := ((List.range 32).filter fun i => bit v i).map fun i => 32 * n + i

theorem nodup_lanesNamed (n : Nat) (v : Word) : (lanesNamed n v).Nodup :=
  (List.nodup_range.filter _).map fun _ _ h => Nat.add_left_cancel h

theorem mem_lanesNamed (n : Nat) (v : Word) (k : Nat) : k ∈ lanesNamed n v ↔ 32 * n ≤ k ∧ k < 32 * n + 32 ∧ bit v (k - 32 * n) = true := by
  simp only [lanesNamed, List.mem_map, List.mem_filter, List.mem_range]
  constructor
  · rintro ⟨i, ⟨hi, hbit⟩, rfl⟩
    exact ⟨Nat.le_add_right _ _, Nat.add_lt_add_left hi _, by rwa [Nat.add_sub_cancel_left]⟩
  · rintro ⟨hlo, hhi, hbit⟩
    exact ⟨k - 32 * n, ⟨by omega, hbit⟩, by omega⟩

/-- While no Sketch is active, a write of LC_STARTn tries the lane cores that it names (R129). -/
theorem writeLcStart_of_inactive {s : State} {lt : Nat} (hactive : (s.tile lt).sk.active = none) (n : Nat) (v : Word) :
    writeLcStart s lt n v = (lanesNamed n v).foldl (tryStart lt (s.treg lt regLcEntry)) s := by
  unfold writeLcStart
  split
  · next hv =>
    have hno : lanesNamed n v = [] := List.eq_nil_iff_forall_not_mem.mpr fun k hk => by
      obtain ⟨-, -, hbit⟩ := (mem_lanesNamed n v k).mp hk
      rw [hv, bit] at hbit
      exact Bool.false_ne_true (BitVec.getLsbD_zero.symm.trans hbit)
    rw [hno]
    rfl
  · rw [hactive, lanesNamed, List.foldl_map]
    rfl

theorem writeLcStart_of_active {s : State} {lt : Nat} (hactive : (s.tile lt).sk.active ≠ none) (n : Nat) {v : Word} (hv : v ≠ 0) :
    writeLcStart s lt n v = badAction s lt := by
  rw [writeLcStart, if_neg hv, if_pos (Option.isSome_iff_ne_none.mpr hactive)]

/-- A refused start or action leaves the lane cores and sets BAD_ACTION. -/
theorem badAction_marks (s : State) (lt : Nat) :
    ((badAction s lt).tile lt).lanes = (s.tile lt).lanes ∧ (badAction s lt).tbit lt regLcStatus 0 = true :=
  ⟨State.setTbit_tile_lanes s lt _ _ _ lt, State.tbit_setTbit_same s lt _ true (by decide)⟩

section Start
variable {s : State} {lt : Nat} {lv : Level} (hlt : lt < 1320) (hlv : lv ≠ .u)
include hlt hlv

theorem exec_lcStart (n : BitVec 3) (v : Word) : exec (.lcStart lt lv n v) s = .next (accessReply (writeLcStart s lt n.toNat v) stOk 0) := by
  rw [show exec (.lcStart lt lv n v) s = regCommand lt lv (fun s => writeLcStart s lt n.toNat v) s from rfl, regCommand_of_privileged hlt hlv]

theorem lcStart_inactive (hactive : (s.tile lt).sk.active = none) (n : BitVec 3) (v : Word) :
    ∃ t, exec (.lcStart lt lv n v) s = .next t ∧ sameMemory s t ∧ (t.tile lt).tcc = (s.tile lt).tcc ∧
      ∀ k, (t.tile lt).lane k = if leadLane (s.tile lt) k ∈ lanesNamed n.toNat v ∧ takesStart ((s.tile lt).lane (leadLane (s.tile lt) k)) = true
        then laneStarted (s.treg lt regLcEntry) ((s.tile lt).lane k) else (s.tile lt).lane k := by
  have hkeeps : ∀ {β : Type} (o : Tile → β), (∀ t l, o { t with lanes := l } = o t) → ∀ x,
      o (((lanesNamed n.toNat v).foldl (tryStart lt (s.treg lt regLcEntry)) s).tile x) = o (s.tile x) := fun o ho x =>
    foldl_keeps (fun u => o (u.tile x)) (fun u m => tryStart_keeps o ho lt _ u m x) _ s
  refine ⟨_, exec_lcStart hlt hlv n v, ?_⟩
  simp only [accessReply_tile, sameMemory, writeLcStart_of_inactive hactive]
  exact ⟨fun x a => congrArg (memGet · a) (hkeeps Tile.mem (fun _ _ => rfl) x), hkeeps Tile.tcc (fun _ _ => rfl) lt,
    lane_tryStarts lt _ (nodup_lanesNamed _ v) s⟩

theorem lcStart_active (hactive : (s.tile lt).sk.active ≠ none) (n : BitVec 3) {v : Word} (hv : v ≠ 0) :
    ∃ t, exec (.lcStart lt lv n v) s = .next t ∧ (t.tile lt).lanes = (s.tile lt).lanes ∧ t.tbit lt regLcStatus 0 = true := by
  refine ⟨_, exec_lcStart hlt hlv n v, ?_⟩
  rw [accessReply_tile, accessReply_tbit, writeLcStart_of_active hactive _ hv]
  exact badAction_marks s lt

end Start

/-! ### Actions -/

/-- A lane core whose record has been disposed of. -/
def laneDisposed (st : LaneSt) (pc : Word) (l : LaneCore) : LaneCore := { l with frec := { l.frec with valid := false }, st := st, pc := pc }

/-- Where an action has a core go on: END leaves it at the faulting instruction (R132). -/
def actionPc (s : State) (lt op : Nat) (r : FRec) : Word :=
  match op with
  | 1 => r.pc + (if r.cause = causeIllegal ∧ fld r.info 1 0 = 3 then 8 else 4)
  | 3 => s.treg lt regLcNewpc
  | _ => r.pc

/-- What an action leaves a core doing. -/
def actionSt (op : Nat) : LaneSt := if op = 2 then .stopped else .running

section Action
variable {s : State} {lt lane op : Nat}

/-- Under no active Sketch, the record of a lane core is disposed of (R132). -/
theorem lcAction_of_record (hop : op < 4) (hactive : (s.tile lt).sk.active = none)
    (hrec : ((s.tile lt).lane (leadLane (s.tile lt) lane)).frec.valid = true) :
    lcAction s lt lane op = modLanes s lt (coreLanes (s.tile lt) lane) fun _ =>
      laneDisposed (actionSt op) (actionPc s lt op ((s.tile lt).lane (leadLane (s.tile lt) lane)).frec) := by
  have hgo : ((s.tile lt).sk.active.isSome || !((s.tile lt).lane (leadLane (s.tile lt) lane)).frec.valid || decide (4 ≤ op)) = false := by
    simp [hactive, hrec, hop]
  unfold lcAction
  simp only [hgo, Bool.false_eq_true, if_false]
  match op, hop with
  | 0, _ => rfl
  | 1, _ =>
    simp only [Bool.and_eq_true, beq_iff_eq]
    rfl
  | 2, _ => rfl
  | 3, _ => rfl

theorem lcAction_refused (h : (s.tile lt).sk.active ≠ none ∨ ((s.tile lt).lane (leadLane (s.tile lt) lane)).frec.valid = false) :
    lcAction s lt lane op = badAction s lt := by
  unfold lcAction
  refine if_pos ?_
  rcases h with h | h
  · simp [Option.isSome_iff_ne_none.mpr h]
  · simp [h]

end Action

/-- The word that GO performs an action with. -/
def actionWord (lane : BitVec 8) (op : Nat) : Word := BitVec.ofNat 32 (lane.toNat + op * 2 ^ 8 + 2 ^ 11)

theorem actionWord_fields (lane : BitVec 8) {op : Nat} (hop : op < 4) :
    bit (actionWord lane op) 11 = true ∧ fld (actionWord lane op) 7 0 = lane.toNat ∧ fld (actionWord lane op) 10 8 = op := by
  have hlane := lane.isLt
  have hval : (actionWord lane op).toNat = lane.toNat + op * 2 ^ 8 + 2 ^ 11 := by
    rw [actionWord, BitVec.toNat_ofNat]
    omega
  refine ⟨?_, ?_, ?_⟩
  · rw [bit, BitVec.getLsbD, hval, Nat.testBit_eq_decide_div_mod_eq, decide_eq_true_eq]
    omega
  · rw [fld, hval]
    omega
  · rw [fld, hval]
    omega

/-- The state once a write of LC_ACTION has stored LANE and OP. -/
def actionStored (s : State) (lt : Nat) (lane : BitVec 8) (op : Nat) : State := s.setTreg lt regLcAction (actionWord lane op &&& 0x7FF)

section Stored
variable (s : State) (lt : Nat) (lane : BitVec 8) (op : Nat)

theorem cluster_actionStored : ((actionStored s lt lane op).tile lt).cluster = (s.tile lt).cluster :=
  State.tile_modTile_keeps Tile.cluster (cluster_kvSet _ _ (by decide)) lt

theorem leadLane_actionStored (n : Nat) : leadLane ((actionStored s lt lane op).tile lt) n = leadLane (s.tile lt) n :=
  leadLane_of_cluster (cluster_actionStored s lt lane op) n

theorem coreLanes_actionStored (n : Nat) : coreLanes ((actionStored s lt lane op).tile lt) n = coreLanes (s.tile lt) n :=
  coreLanes_of_cluster (cluster_actionStored s lt lane op) n

theorem lanes_actionStored : ((actionStored s lt lane op).tile lt).lanes = (s.tile lt).lanes := State.setTreg_tile_lanes s lt _ _ lt

theorem lane_actionStored (k : Nat) : ((actionStored s lt lane op).tile lt).lane k = (s.tile lt).lane k :=
  congrArg (kvGet LaneCore.reset · k) (lanes_actionStored s lt lane op)

theorem active_actionStored : ((actionStored s lt lane op).tile lt).sk.active = (s.tile lt).sk.active :=
  congrArg SkStore.active (State.setTreg_tile_sk s lt _ _ lt)

theorem actionPc_actionStored (r : FRec) : actionPc (actionStored s lt lane op) lt op r = actionPc s lt op r := by
  unfold actionPc actionStored
  rw [State.treg_setTreg_off_ne _ _ _ _ (by decide)]

end Stored

section Command
variable {s : State} {lt op : Nat} {lv : Level} (hlt : lt < 1320) (hlv : lv ≠ .u) (hop : op < 4)
include hlt hlv hop

theorem lcCommand_of_privileged (lane : BitVec 8) :
    lcCommand op lt lv lane s = .next (accessReply (lcAction (actionStored s lt lane op) lt lane.toNat op) stOk 0) := by
  obtain ⟨hgo, hlane, hop'⟩ := actionWord_fields lane hop
  rw [lcCommand, regCommand_of_privileged hlt hlv, ← actionWord, writeLcAction, hlane, hop', if_pos hgo, actionStored]

/-- An action on a record: the core's lane cores are disposed of, and nothing else (R132). -/
theorem lcCommand_performed (lane : BitVec 8) (hactive : (s.tile lt).sk.active = none)
    (hrec : ((s.tile lt).lane (leadLane (s.tile lt) lane.toNat)).frec.valid = true) :
    ∃ t, lcCommand op lt lv lane s = .next t ∧ sameMemory s t ∧
      (∀ k ∈ coreLanes (s.tile lt) lane.toNat, (t.tile lt).lane k = laneDisposed (actionSt op)
        (actionPc s lt op ((s.tile lt).lane (leadLane (s.tile lt) lane.toNat)).frec) ((s.tile lt).lane k)) ∧
      ∀ k, k ∉ coreLanes (s.tile lt) lane.toNat → (t.tile lt).lane k = (s.tile lt).lane k := by
  have haction := lcAction_of_record (s := actionStored s lt lane op) hop (by rwa [active_actionStored])
    (by rwa [leadLane_actionStored, lane_actionStored])
  rw [leadLane_actionStored, coreLanes_actionStored, lane_actionStored, actionPc_actionStored] at haction
  refine ⟨_, lcCommand_of_privileged hlt hlv hop lane, sameMemory_accessReply _ _ _ ?_, ?_⟩
  · rw [haction]
    exact sameMemory_trans (sameMemory_setTreg s lt _ _) (Kept.modLanes _ lt (o := Tile.mem) fun _ _ => rfl).sameMemory
  · rw [accessReply_tile, haction]
    refine ⟨fun k hk => ?_, fun k hk => ?_⟩
    · rw [lane_modLanes (nodup_coreLanes _ _), if_pos ⟨rfl, hk⟩, lane_actionStored]
    · rw [lane_modLanes (nodup_coreLanes _ _), if_neg (fun h => hk h.2), lane_actionStored]

theorem lcCommand_refused (lane : BitVec 8)
    (h : (s.tile lt).sk.active ≠ none ∨ ((s.tile lt).lane (leadLane (s.tile lt) lane.toNat)).frec.valid = false) :
    ∃ t, lcCommand op lt lv lane s = .next t ∧ (t.tile lt).lanes = (s.tile lt).lanes ∧ t.tbit lt regLcStatus 0 = true := by
  obtain ⟨hlanes, hmark⟩ := badAction_marks (actionStored s lt lane op) lt
  refine ⟨_, lcCommand_of_privileged hlt hlv hop lane, ?_⟩
  rw [accessReply_tile, accessReply_tbit, lcAction_refused (by rwa [active_actionStored, leadLane_actionStored, lane_actionStored])]
  exact ⟨hlanes.trans (lanes_actionStored s lt lane op), hmark⟩

end Command

/-! ### The statement -/

/-- Settles O29: a start reaches the lane cores that the named ones lead, and an action those of the core whose record it disposes of. -/
theorem laneControl : Obligations.LaneControl := by
  intro s lt lv hlt hlv
  refine ⟨fun n v hactive => ?_, fun n v hactive hv => lcStart_active hlt hlv hactive n hv, fun lane => ⟨?_, ?_⟩⟩
  · obtain ⟨t, hexec, hmem, htcc, hlanes⟩ := lcStart_inactive hlt hlv hactive n v
    refine ⟨t, hexec, hmem, htcc, fun k _ => (hlanes k).trans (if_congr ?_ rfl rfl)⟩
    rw [mem_lanesNamed, takesStart_iff, and_assoc, and_assoc]
  · intro hactive hrec a ha
    have hend := fun op (hop : op < 4) => lcCommand_performed (op := op) hlt hlv hop lane hactive hrec
    simp only [List.mem_cons, List.not_mem_nil, or_false] at ha
    rcases ha with rfl | rfl | rfl | rfl
    · exact hend 0 (by decide)
    · exact hend 1 (by decide)
    · exact hend 2 (by decide)
    · exact hend 3 (by decide)
  · intro hno a ha
    have hend := fun op (hop : op < 4) => lcCommand_refused (op := op) hlt hlv hop lane hno
    simp only [List.mem_cons, List.not_mem_nil, or_false] at ha
    rcases ha with rfl | rfl | rfl | rfl
    · exact hend 0 (by decide)
    · exact hend 1 (by decide)
    · exact hend 2 (by decide)
    · exact hend 3 (by decide)

end Sys2Proof.Machine
end

section
/-!
SUPPORT. The state of a Matrix Engine, and what the end of one of its items leaves: the item's slot, the engine's queue and its registers.
-/
namespace Sys2Proof.Machine

open Sys2Proof

/-! ### Changes of the engine -/

@[simp] theorem meOf_modMe (s : State) (lt : Nat) (f : MeState → MeState) : meOf (modMe s lt f) lt = f (meOf s lt) := by
  rw [meOf, modMe, State.tile_modTile_self, meOf]

theorem Kept.meOf {s t : State} (h : Kept Tile.me s t) (lt : Nat) : meOf t lt = meOf s lt := h.tile lt

theorem meOf_setTreg (s : State) (lt off : Nat) (v : Word) (x : Nat) : meOf (s.setTreg lt off v) x = meOf s x := State.setTreg_tile_me ..

@[simp] theorem meOf_setMeBit (s : State) (lt i : Nat) (b : Bool) (x : Nat) : meOf (setMeBit s lt i b) x = meOf s x := State.setTbit_tile_me ..

/-- What a change of the engine does not concern, it leaves. -/
theorem Kept.modMe {β : Type} {o : Tile → β} (ho : ∀ t m, o { t with me := m } = o t) (s : State) (lt : Nat) (f : MeState → MeState) :
    Kept o s (modMe s lt f) := by
  refine Kept.modTile _ ?_
  exact ho _ _

theorem treg_modMe (s : State) (lt : Nat) (f : MeState → MeState) (x off : Nat) : (modMe s lt f).treg x off = s.treg x off :=
  (Kept.modMe (o := regAt off) (fun _ _ => rfl) s lt f).treg x

@[simp] theorem tbit_modMe (s : State) (lt : Nat) (f : MeState → MeState) (x off i : Nat) : (modMe s lt f).tbit x off i = s.tbit x off i := by
  rw [State.tbit, treg_modMe, State.tbit]

theorem sameMemory_modMe (s : State) (lt : Nat) (f : MeState → MeState) : sameMemory s (modMe s lt f) :=
  (Kept.modMe (fun _ _ => rfl) s lt f).sameMemory

theorem sameMemory_setMeBit (s : State) (lt i : Nat) (b : Bool) : sameMemory s (setMeBit s lt i b) := sameMemory_setTbit s lt _ i b

theorem tbit_setMeBit_same (s : State) (lt : Nat) {i : Nat} (b : Bool) (hi : i < 32) : (setMeBit s lt i b).tbit lt regMeStatus i = b :=
  State.tbit_setTbit_same s lt _ b hi

theorem tbit_setMeBit_ne (s : State) (lt : Nat) {i j : Nat} (b : Bool) (hj : j < 32) (h : j ≠ i) :
    (setMeBit s lt i b).tbit lt regMeStatus j = s.tbit lt regMeStatus j := State.tbit_setTbit_ne s lt _ b lt hj h

theorem tbit_setMeBit_off_ne (s : State) (lt i : Nat) (b : Bool) {off : Nat} (j : Nat) (h : off ≠ regMeStatus) :
    (setMeBit s lt i b).tbit lt off j = s.tbit lt off j := by
  rw [State.tbit, setMeBit, State.treg_setTbit_off_ne _ _ _ _ _ h, State.tbit]

/-- What an update of a register word does not concern, it leaves. -/
theorem Kept.setTreg {β : Type} {o : Tile → β} (s : State) (lt : Nat) {off : Nat} (v : Word)
    (ho : ∀ t : Tile, o { t with regs := kvSet t.regs off v } = o t) : Kept o s (s.setTreg lt off v) := by
  refine Kept.modTile _ ?_
  exact ho _

/-! ### The record of an item -/

/-- An observation that sees nothing of what the completion ring takes: memory, activity counters, the ring's own registers. -/
structure RingBlind {β : Type} (o : Tile → β) : Prop where
  stored : ∀ t m e, o { t with mem := m, errs := e } = o t
  counters : ∀ t c, o { t with counters := c } = o t
  ringRegs : ∀ t off v, off = regDmaCringHead ∨ off = regDmaCringLost → o { t with regs := kvSet t.regs off v } = o t

theorem ringBlind_slots : RingBlind Tile.slots := ⟨fun _ _ _ => rfl, fun _ _ => rfl, fun _ _ _ _ => rfl⟩

theorem ringBlind_me : RingBlind Tile.me := ⟨fun _ _ _ => rfl, fun _ _ => rfl, fun _ _ _ _ => rfl⟩

theorem RingBlind.ringAppend {β : Type} {o : Tile → β} (ho : RingBlind o) (s : State) (lt : Nat) (r : CRec) : Kept o s (ringAppend s lt r) := by
  unfold Machine.ringAppend
  extract_lets size head tail off
  have hput : Kept o s (bumpCnt (memStore s lt off r.bytes) lt 5 1) := (Kept.modTile _ (ho.stored _ _ _)).trans (Kept.modTile _ (ho.counters _ _))
  split
  · split
    · exact hput.trans (Kept.setTreg _ lt _ fun t => ho.ringRegs t _ _ (Or.inl rfl))
    · exact Kept.setTreg s lt _ fun t => ho.ringRegs t _ _ (Or.inr rfl)
  · exact Kept.refl o s

/-- A slot once its item has completed (R320). -/
def endedSlot (s : State) (lt u n kind : Nat) (st : Status) (progress : Nat) : Slot :=
  { (s.tile lt).slot u n with
    busy := false
    crec := ⟨mkHandle u n ((s.tile lt).slot u n).gen.toNat, true, st, kind, progress % 2 ^ 32, s.aon % 2 ^ 32⟩ }

theorem RingBlind.completeItem {β : Type} {o : Tile → β} (ho : RingBlind o) (hslots : ∀ t l, o { t with slots := l } = o t) (s : State)
    (lt u n kind : Nat) (st : Status) (progress : Nat) : Kept o s (completeItem s lt u n kind st progress) :=
  (Kept.setSlot hslots s lt u n _).trans (ho.ringAppend _ lt _)

theorem slots_completeItem (s : State) (lt u n kind : Nat) (st : Status) (progress : Nat) :
    ((completeItem s lt u n kind st progress).tile lt).slots = kvSet (s.tile lt).slots (256 * u + n) (endedSlot s lt u n kind st progress) := by
  rw [completeItem, (ringBlind_slots.ringAppend _ lt _).tile lt, setSlot, State.tile_modTile_self]
  rfl

/-! ### The end of an item of the engine -/

/-- The engine without the items of a slot. -/
def MeState.without (m : MeState) (slot : Nat) : MeState := { m with items := m.items.filter (fun x => x.slot != slot) }

theorem MeState.mem_without {m : MeState} {slot : Nat} {x : MeItem} (h : x ∈ (m.without slot).items) : x ∈ m.items ∧ x.slot ≠ slot := by
  simpa [MeState.without] using h

section Complete
variable (s : State) (lt : Nat) (i : MeItem) (st : Status) (prog : Nat)

/-- The state in which an item has left the queue and not yet completed. -/
def itemLeft (s : State) (lt : Nat) (i : MeItem) : State :=
  modMe (if i.sample.isSome then dropSample s lt i.handle else s) lt (·.without i.slot)

/-- The state in which its record is written. -/
def itemRecorded (s : State) (lt : Nat) (i : MeItem) (st : Status) (prog : Nat) : State :=
  completeItem (itemLeft s lt i) lt 0 i.slot i.wop st prog

theorem meComplete_eq : meComplete s lt i st prog =
    if meMec i.payload || (itemRecorded s lt i st prog).tbit lt regMeCtrl 0 then (itemRecorded s lt i st prog).setTbit lt regMeInt 0 true
    else itemRecorded s lt i st prog := rfl

theorem sample_dropped_keeps {β : Type} (o : Tile → β) : Kept o s (if i.sample.isSome then dropSample s lt i.handle else s) :=
  Kept.ite (Kept.of_tiles rfl rfl) (Kept.refl o s)

theorem Kept.itemLeft {β : Type} {o : Tile → β} (ho : ∀ t m, o { t with me := m } = o t) : Kept o s (itemLeft s lt i) :=
  (sample_dropped_keeps s lt i o).trans (Kept.modMe ho _ lt _)

theorem aon_itemLeft : (itemLeft s lt i).aon = s.aon := by
  show (if i.sample.isSome then dropSample s lt i.handle else s).aon = s.aon
  split <;> rfl

/-- ME_INT is not seen. -/
theorem Kept.interrupted {β : Type} {o : Tile → β} (ho : ∀ t v, o { t with regs := kvSet t.regs regMeInt v } = o t) :
    Kept o (itemRecorded s lt i st prog) (meComplete s lt i st prog) := by
  rw [meComplete_eq]
  exact Kept.ite (Kept.setTreg _ lt _ fun t => ho t _) (Kept.refl o _)

/-- The end of an item takes it out of the queue and leaves the rest of the engine. -/
@[simp] theorem meOf_meComplete : meOf (meComplete s lt i st prog) lt = (meOf s lt).without i.slot := by
  have hrecorded : Kept Tile.me (itemLeft s lt i) (meComplete s lt i st prog) :=
    (ringBlind_me.completeItem (fun _ _ => rfl) _ lt _ _ _ _ _).trans (Kept.interrupted s lt i st prog fun _ _ => rfl)
  rw [hrecorded.meOf, itemLeft, meOf_modMe, (sample_dropped_keeps s lt i Tile.me).meOf]

theorem slots_meComplete :
    ((meComplete s lt i st prog).tile lt).slots = kvSet (s.tile lt).slots i.slot (endedSlot s lt 0 i.slot i.wop st prog) := by
  have hleft : ((itemLeft s lt i).tile lt).slots = (s.tile lt).slots := (Kept.itemLeft s lt i (o := Tile.slots) fun _ _ => rfl).tile lt
  rw [(Kept.interrupted s lt i st prog (o := Tile.slots) fun _ _ => rfl).tile lt, itemRecorded, slots_completeItem, hleft, Nat.mul_zero, Nat.zero_add,
    endedSlot, endedSlot, aon_itemLeft, Tile.slot, hleft]
  rfl

theorem slot_meComplete_same : ((meComplete s lt i st prog).tile lt).slot 0 i.slot = endedSlot s lt 0 i.slot i.wop st prog := by
  rw [Tile.slot, slots_meComplete, Nat.mul_zero, Nat.zero_add, kvGet_kvSet_self]

theorem slot_meComplete_ne {n : Nat} (h : n ≠ i.slot) : ((meComplete s lt i st prog).tile lt).slot 0 n = (s.tile lt).slot 0 n := by
  rw [Tile.slot, slots_meComplete, kvGet_kvSet_ne _ _ _ (by omega), Tile.slot]

/-- MEC raises interrupt 5 (Table 6.2). -/
theorem tbit_meComplete_int (h : meMec i.payload = true) : (meComplete s lt i st prog).tbit lt regMeInt 0 = true := by
  rw [meComplete_eq, h, Bool.true_or, if_pos rfl, State.tbit_setTbit_same _ _ _ _ (by decide)]

end Complete

/-! ### Several items that complete with one status -/

/-- Items that complete with a status, each at a progress of its own. -/
def completeEach (lt : Nat) (st : Status) (prog : MeItem → Nat) (s : State) (l : List MeItem) : State :=
  l.foldl (fun x i => meComplete x lt i st (prog i)) s

section Each
variable (lt : Nat) (st : Status) (prog : MeItem → Nat)

/-- The slots of the items are free, and hold the status. -/
theorem slot_completeEach {n : Nat} (l : List MeItem) (s : State)
    (h : (∃ i ∈ l, i.slot = n) ∨ ((s.tile lt).slot 0 n).busy = false ∧ ((s.tile lt).slot 0 n).crec.status = st) :
    (((completeEach lt st prog s l).tile lt).slot 0 n).busy = false ∧ (((completeEach lt st prog s l).tile lt).slot 0 n).crec.status = st := by
  induction l generalizing s with
  | nil => exact h.resolve_left (by simp)
  | cons j r ih =>
    refine ih (meComplete s lt j st (prog j)) ?_
    by_cases hn : n = j.slot
    · subst hn
      rw [slot_meComplete_same]
      exact Or.inr ⟨rfl, rfl⟩
    · rw [slot_meComplete_ne _ _ _ _ _ hn]
      refine h.imp_left ?_
      rintro ⟨i, hi, rfl⟩
      exact ⟨i, (List.mem_cons.mp hi).resolve_left (fun e => hn (congrArg MeItem.slot e)), rfl⟩

/-- The items that are left stood in the queue, in slots of none of those that completed. -/
theorem mem_completeEach {l : List MeItem} {s : State} {x : MeItem} (h : x ∈ (meOf (completeEach lt st prog s l) lt).items) :
    x ∈ (meOf s lt).items ∧ ∀ i ∈ l, x.slot ≠ i.slot := by
  induction l generalizing s with
  | nil => exact ⟨h, by simp⟩
  | cons j r ih =>
    obtain ⟨hx, hr⟩ := ih h
    rw [meOf_meComplete] at hx
    obtain ⟨hmem, hne⟩ := MeState.mem_without hx
    exact ⟨hmem, by simpa using ⟨hne, hr⟩⟩

end Each

end Sys2Proof.Machine
end

section
/-!
O36: the control register of a Matrix Engine.
-/
namespace Sys2Proof.Machine

open Sys2Proof

/-! ### RELEASE and ABORT -/

section Commands
variable (s : State) {lt : Nat} {lv : Level} (hlt : lt < 1320)
include hlt

theorem exec_meRelease (hlv : lv ≠ .u) : exec (.meRelease lt lv) s = .next (accessReply (meRelease s lt) stOk 0) :=
  regCommand_of_privileged hlt hlv (meRelease · lt) s

theorem exec_meAbort (hlv : lv ≠ .u) : exec (.meAbort lt lv) s = .next (accessReply (meStop s lt stAborted) stOk 0) :=
  regCommand_of_privileged hlt hlv (meStop · lt stAborted) s

theorem exec_meSave : exec (.meSave lt .m) s = .next (accessReply (meSave s lt) stOk 0) :=
  regCommand_of_privileged hlt (by decide) (fun s => if Level.m = .m then meSave s lt else s) s

theorem exec_meRestore : exec (.meRestore lt .m) s = .next (accessReply (meRestore s lt) stOk 0) :=
  regCommand_of_privileged hlt (by decide) (fun s => if Level.m = .m then meRestore s lt else s) s

theorem exec_meDiscard : exec (.meDiscard lt .m) s = .next (accessReply (meDiscard s lt) stOk 0) :=
  regCommand_of_privileged hlt (by decide) (fun s => if Level.m = .m then meDiscard s lt else s) s

/-- From S, SAVE, RESTORE and DISCARD do nothing (R169). -/
theorem exec_meControl_of_supervisor {i : Instr} (hi : i ∈ [Instr.meSave lt .s, .meRestore lt .s, .meDiscard lt .s]) :
    exec i s = .next { s with replies := s.replies ++ [⟨0, 0, leBytes 4 0⟩] } := by
  have hnone : ∀ f : State → State, regCommand lt .s (fun s => if Level.s = .m then f s else s) s = .next (accessReply s stOk 0) := fun f =>
    regCommand_of_privileged hlt (by decide) (fun s => if Level.s = .m then f s else s) s
  simp only [List.mem_cons, List.not_mem_nil, or_false] at hi
  rcases hi with rfl | rfl | rfl
  · exact hnone (meSave · lt)
  · exact hnone (meRestore · lt)
  · exact hnone (meDiscard · lt)

/-- From U every write of ME_CTRL is refused (R59). -/
theorem exec_meControl_of_user {i : Instr}
    (hi : i ∈ [Instr.meRelease lt .u, .meAbort lt .u, .meSave lt .u, .meRestore lt .u, .meDiscard lt .u]) :
    exec i s = .next { s with replies := s.replies ++ [⟨0, stProtFault.toNat, leBytes 4 0⟩] } := by
  have hrefused : ∀ f : State → State, regCommand lt .u f s = .next (accessReply s stProtFault 0) := fun f => by
    rw [regCommand, onTile_of_lt hlt, if_pos rfl]
  simp only [List.mem_cons, List.not_mem_nil, or_false] at hi
  rcases hi with rfl | rfl | rfl | rfl | rfl
  · exact hrefused (meRelease · lt)
  · exact hrefused (meStop · lt stAborted)
  · exact hrefused (fun s => if Level.u = .m then meSave s lt else s)
  · exact hrefused (fun s => if Level.u = .m then meRestore s lt else s)
  · exact hrefused (fun s => if Level.u = .m then meDiscard s lt else s)

end Commands

section Abort
variable {s : State} {lt : Nat}

/-- The engine once an abort has been asked for (R158). -/
def abortAsked (m : MeState) : MeState := { discardStaged m with stopping := some stAborted }

theorem completeAll_eq (s : State) (lt : Nat) (st : Status) :
    completeAll s lt st =
      completeEach lt st (fun i => if i.wop = wopWload || i.wop = wopFence || i.wop = wopSel then 0 else i.done) s (meOf s lt).items :=
  rfl

/-- An engine that stops with nothing to finish completes every item. -/
theorem settleStop_of_aborted (hstop : (meOf s lt).stopping = some stAborted) (hquiet : meQuiet (meOf s lt) = true) :
    settleStop s lt = setMeBit (modMe (completeAll s lt stAborted) lt (fun m => { m with stopping := none })) lt 11 false := by
  rw [settleStop, hstop]
  simp only [hquiet, if_true]

theorem meStop_of_quiet (hquiet : meQuiet (abortAsked (meOf s lt)) = true) :
    meStop s lt stAborted =
      setMeBit (modMe (completeAll (modMe s lt abortAsked) lt stAborted) lt (fun m => { m with stopping := none })) lt 11 false :=
  settleStop_of_aborted (s := modMe s lt abortAsked) (by rw [meOf_modMe]; rfl) (by rwa [meOf_modMe])

/-- The items of an engine whose abort has been asked for stand in the slots in which they stood. -/
theorem slot_abortAsked {m : MeState} {i : MeItem} (h : i ∈ m.items) : ∃ j ∈ (abortAsked m).items, j.slot = i.slot :=
  ⟨_, List.mem_map_of_mem h, rfl⟩

/-- An abort with nothing to finish empties the queue and ends its items with ABORTED (R158). -/
theorem meStop_empties (hquiet : meQuiet (abortAsked (meOf s lt)) = true) :
    (meOf (meStop s lt stAborted) lt).items = [] ∧ (meOf (meStop s lt stAborted) lt).stopping = none ∧
      (meStop s lt stAborted).tbit lt regMeStatus 11 = false ∧
      ∀ i ∈ (meOf s lt).items, (((meStop s lt stAborted).tile lt).slot 0 i.slot).busy = false ∧
        (((meStop s lt stAborted).tile lt).slot 0 i.slot).crec.status = stAborted := by
  rw [meStop_of_quiet hquiet]
  refine ⟨?_, by simp, tbit_setMeBit_same _ _ _ (by decide), fun i hi => ?_⟩
  · rw [meOf_setMeBit, meOf_modMe, completeAll_eq]
    refine List.eq_nil_iff_forall_not_mem.mpr fun x hx => ?_
    obtain ⟨hmem, hne⟩ := mem_completeEach lt stAborted _ hx
    exact hne x hmem rfl
  · obtain ⟨j, hj, hslot⟩ := slot_abortAsked hi
    have hslots : ∀ u : State, ((setMeBit (modMe u lt (fun m => { m with stopping := none })) lt 11 false).tile lt).slots = (u.tile lt).slots :=
      fun u => (State.setTbit_tile_slots ..).trans ((Kept.modMe (o := Tile.slots) (fun _ _ => rfl) u lt _).tile lt)
    rw [Tile.slot, hslots, completeAll_eq]
    refine slot_completeEach lt stAborted _ _ _ (Or.inl ⟨j, ?_, hslot⟩)
    rwa [meOf_modMe]

end Abort

/-! ### SAVE -/

section Save
variable {s : State} {lt : Nat} (hsaving : s.tbit lt regMeStatus 12 = false) (hsaved : s.tbit lt regMeStatus 13 = false)
include hsaving hsaved

theorem meSave_begins (hon : ∀ b, b < 27 → (s.tile lt).bank b = .on) : meSave s lt = modMe (setMeBit s lt 12 true) lt discardStaged := by
  have hany : (List.range 27).any (fun b => (s.tile lt).bank b != .on) = false := by
    rw [List.any_eq_false]
    intro b hb
    simp [hon b (List.mem_range.mp hb)]
  rw [meSave, meBit, meBit, hsaving, hsaved, hany]
  rfl

theorem meSave_refused {b : Nat} (hb : b < 27) (hoff : (s.tile lt).bank b ≠ .on) : meSave s lt = setMeBit s lt 15 true := by
  have hany : (List.range 27).any (fun b => (s.tile lt).bank b != .on) = true :=
    List.any_eq_true.mpr ⟨b, List.mem_range.mpr hb, by simpa using hoff⟩
  rw [meSave, meBit, meBit, hsaving, hsaved, hany]
  rfl

end Save

/-! ### The end of a SAVE -/

/-- The save block is stored as a region of the save area is (R165). -/
theorem savePart_eq (p : Nat) : savePart p = regionByte 0 (3072 * p) := by
  simp only [savePart, regionByte]
  omega

/-- Byte `j` of the save block lies in part `j / 3072`. -/
theorem savePart_add (j : Nat) : savePart (j / 3072) + j % 3072 = regionByte 0 j := by
  simp only [savePart, regionByte]
  omega

/-- The bytes of a word of the save block lie side by side. -/
theorem savePart_word (k : Nat) {b : Nat} (hb : b < 4) : savePart (4 * k / 3072) + 4 * k % 3072 + b = regionByte 0 (4 * k + b) := by
  simp only [savePart, regionByte]
  omega

/-- An element of lists of one length, laid end to end. -/
theorem getElem?_flatten_of_const {α : Type} {n : Nat} {l : List (List α)} (h : ∀ x ∈ l, x.length = n) (k : Nat) {b : Nat} (hb : b < n) :
    l.flatten[n * k + b]? = l[k]?.bind (·[b]?) := by
  induction l generalizing k with
  | nil => simp
  | cons x r ih =>
    have hx := h x (List.mem_cons_self ..)
    cases k with
    | zero => simp [List.getElem?_append_left, hx, hb]
    | succ k =>
      rw [List.flatten_cons, List.getElem?_append_right (by rw [hx, Nat.mul_succ]; omega), hx, List.getElem?_cons_succ,
        ← ih (fun y hy => h y (List.mem_cons_of_mem _ hy)) k]
      congr 1
      rw [Nat.mul_succ]
      omega

section Saved
variable (s : State) (lt : Nat)

/-- The state in which the save block stands in the save area. -/
def blockSaved (s : State) (lt : Nat) : State := (List.range 107).foldl (storeChunk lt 0 (saveBlock s lt)) s.drawn

/-- The state in which the control record stands behind it. -/
def recordSaved (s : State) (lt : Nat) : State := memStore (blockSaved s lt) lt saveRecord (controlRecord s lt)

/-- The state in which the samples of the saved items have left the Study unit. -/
def samplesSaved (s : State) (lt : Nat) : State :=
  (meOf (recordSaved s lt) lt).items.foldl (fun x i => if i.sample.isSome then dropSample x lt i.handle else x) (recordSaved s lt)

/-- The engine as a SAVE leaves it (R164). -/
def meSaved (m : MeState) : MeState := { m with items := [], saved := some ⟨m.items.map MeItem.put, m.buf0, m.buf1, m.active⟩ }

/-- Where no item has ended, none completes before the engine is saved. -/
theorem completeEnded_of_none (h : ∀ i ∈ (meOf s lt).items, (meOf s lt).ended i = false) : completeEnded s lt = s := by
  have hfold : ∀ l : List MeItem, (∀ i ∈ l, (meOf s lt).ended i = false) → l.foldl (fun st i =>
      let m := meOf st lt
      let after := (m.items.dropWhile (fun x => x.slot != i.slot)).drop 1
      if m.ended i && (i.failed.isSome || after.any (fun x => decide (0 < x.done))) then endItem st lt i else st) s = s := by
    intro l hl
    induction l with
    | nil => rfl
    | cons j r ih =>
      have hj := hl j (List.mem_cons_self ..)
      simp only [List.foldl_cons, hj, Bool.false_and, Bool.false_eq_true, if_false]
      exact ih fun i hi => hl i (List.mem_cons_of_mem _ hi)
  exact hfold _ h

theorem saveDone_eq (h : completeEnded s lt = s) :
    saveDone s lt = setMeBit (setMeBit (modMe (samplesSaved s lt) lt meSaved) lt 12 false) lt 13 true := by
  have hblock : blockSaved s lt =
      (List.range 107).foldl (fun st p => memStore st lt (savePart p) (((saveBlock s lt).drop (3072 * p)).take 3072)) s.drawn := by
    simp only [savePart_eq]
    rfl
  rw [saveDone, h]
  simp only [← hblock]
  rfl

theorem samplesSaved_mem : ((samplesSaved s lt).tile lt).mem = ((recordSaved s lt).tile lt).mem := by
  have hkept : Kept Tile.mem (recordSaved s lt) (samplesSaved s lt) := Kept.foldl (fun x i => sample_dropped_keeps x lt i Tile.mem) _ _
  exact hkept.tile lt

theorem saveDone_mem (h : completeEnded s lt = s) : ((saveDone s lt).tile lt).mem = ((recordSaved s lt).tile lt).mem := by
  rw [saveDone_eq s lt h, setMeBit, State.setTbit_tile_mem, setMeBit, State.setTbit_tile_mem,
    (Kept.modMe (o := Tile.mem) (fun _ _ => rfl) (samplesSaved s lt) lt meSaved).tile lt, samplesSaved_mem]

/-- The accumulator part of the save block. -/
def accBytes (m : MeState) : List (List Byte) := (List.range 65536).map (fun k => leBytes 4 (accWord m k))

theorem length_of_mem_accBytes {m : MeState} : ∀ x ∈ accBytes m, x.length = 4 := by
  rintro x hx
  obtain ⟨k, -, rfl⟩ := List.mem_map.mp hx
  exact length_leBytes _ _

theorem length_accBytes (m : MeState) : (accBytes m).flatten.length = 262144 := by
  rw [length_flatten_of_const length_of_mem_accBytes, accBytes, List.length_map, List.length_range]

theorem saveBlock_eq : saveBlock s lt = (accBytes (meOf s lt)).flatten ++ s.freeBytes 65536 := rfl

theorem length_saveBlock : (saveBlock s lt).length = 327680 := by
  rw [saveBlock_eq, List.length_append, length_accBytes, State.freeBytes, List.length_map, List.length_range]

/-- Byte `b` of accumulator word `k` in the save block. -/
theorem saveBlock_getD {k b : Nat} (hk : k < 65536) (hb : b < 4) :
    (saveBlock s lt).getD (4 * k + b) 0 = (leBytes 4 (accWord (meOf s lt) k)).getD b 0 := by
  have hword : (accBytes (meOf s lt))[k]? = some (leBytes 4 (accWord (meOf s lt) k)) := by
    rw [accBytes, List.getElem?_map, List.getElem?_range hk]
    rfl
  rw [saveBlock_eq, List.getD_append _ _ _ _ (by rw [length_accBytes]; omega), List.getD_eq_getElem?_getD,
    getElem?_flatten_of_const length_of_mem_accBytes k hb, hword, List.getD_eq_getElem?_getD]
  rfl

section Memory
variable {s lt} (hwf : Memory.wf (s.tile lt).mem = true)
include hwf

/-- A byte of the save block stands at its place of the save area (R165). -/
theorem memGet_recordSaved {j : Nat} (hj : j < 327680) : memGet ((recordSaved s lt).tile lt).mem (regionByte 0 j) = (saveBlock s lt).getD j 0 := by
  have hblock : Memory.wf ((blockSaved s lt).tile lt).mem = true := wf_storeChunks lt 0 _ _ (s := s.drawn) hwf
  rw [recordSaved, memGet_memStore hblock, if_neg]
  · exact memGet_storeChunks_inside lt 0 _ _ (s := s.drawn) hwf (by rwa [length_saveBlock]) (by omega)
  · simp only [regionByte, saveRecord, saveBase]
    omega

/-- An accumulator word stands at its place of the save area (R165). -/
theorem accWord_recordSaved {k : Nat} (hk : k < 65536) :
    leNat (memBytes ((recordSaved s lt).tile lt).mem (savePart (4 * k / 3072) + 4 * k % 3072) 4) = accWord (meOf s lt) k := by
  have hbytes : memBytes ((recordSaved s lt).tile lt).mem (savePart (4 * k / 3072) + 4 * k % 3072) 4 = leBytes 4 (accWord (meOf s lt) k) := by
    refine List.ext_getElem (by rw [length_memBytes, length_leBytes]) fun b h1 h2 => ?_
    have hb : b < 4 := by rwa [length_memBytes] at h1
    simp only [memBytes, List.getElem_map, List.getElem_range]
    rw [savePart_word k hb, memGet_recordSaved hwf (by omega), saveBlock_getD s lt hk hb, List.getD_eq_getElem _ _ h2]
  rw [hbytes, accWord, leNat_leBytes_word]

end Memory

/-- The end of a SAVE (R164, R165). -/
theorem saveDone_spec (hwf : Memory.wf (s.tile lt).mem = true) (hnone : ∀ i ∈ (meOf s lt).items, (meOf s lt).ended i = false) :
    (saveDone s lt).tbit lt regMeStatus 12 = false ∧ (saveDone s lt).tbit lt regMeStatus 13 = true ∧ (meOf (saveDone s lt) lt).items = [] ∧
      (meOf (saveDone s lt) lt).saved ≠ none ∧
      ∀ k, k < 65536 → leNat (memBytes ((saveDone s lt).tile lt).mem (savePart (4 * k / 3072) + 4 * k % 3072) 4) = accWord (meOf s lt) k := by
  have hended := completeEnded_of_none s lt hnone
  have hme : meOf (saveDone s lt) lt = meSaved (meOf (samplesSaved s lt) lt) := by
    rw [saveDone_eq s lt hended, meOf_setMeBit, meOf_setMeBit, meOf_modMe]
  refine ⟨?_, ?_, ?_, ?_, fun k hk => ?_⟩
  · rw [saveDone_eq s lt hended, tbit_setMeBit_ne _ _ _ (by decide) (by decide), tbit_setMeBit_same _ _ _ (by decide)]
  · rw [saveDone_eq s lt hended, tbit_setMeBit_same _ _ _ (by decide)]
  · rw [hme, meSaved]
  · rw [hme, meSaved]
    exact Option.some_ne_none _
  · rw [saveDone_mem s lt hended, accWord_recordSaved hwf hk]

end Saved

theorem exec_meSaveDone {s : State} {lt : Nat} (hlt : lt < 1320) (hsaving : s.tbit lt regMeStatus 12 = true) (hquiet : meQuiet (meOf s lt) = true)
    (hrun : unitsStop s lt = false) (hstop : (meOf s lt).stopping = none) : exec (.meSaveDone lt) s = .next (saveDone s lt) := by
  have hgo : (meBit s lt 12 && (meOf s lt).stopping.isNone && meQuiet (meOf s lt) && !unitsStop s lt) = true := by
    rw [meBit, hsaving, hstop, hquiet, hrun]
    rfl
  show execMeSaveDone lt s = _
  rw [execMeSaveDone, onTile_of_lt hlt, if_pos hgo]

/-! ### RESTORE -/

/-- A tile as it looks without the samples of its engine's items. -/
def sampleless (t : Tile) : Tile := { t with me := { t.me with items := t.me.items.map (fun x => { x with sample := none }) } }

section Sampleless
variable {s t : State} (h : Kept sampleless s t)
include h

theorem treg_of_sampleless (x off : Nat) : t.treg x off = s.treg x off := by
  have hregs : (sampleless (t.tile x)).regs = (sampleless (s.tile x)).regs := by rw [h.tile x]
  exact State.treg_of_regs hregs off

theorem sameMemory_of_sampleless : sameMemory s t := fun x a => by
  have hmem : (sampleless (t.tile x)).mem = (sampleless (s.tile x)).mem := by rw [h.tile x]
  exact congrArg (memGet · a) hmem

/-- What does not look at samples reads the same of the engine. -/
theorem meOf_of_sampleless {β : Type} {o : MeState → β} (ho : ∀ m, o { m with items := m.items.map (fun x => { x with sample := none }) } = o m)
    (lt : Nat) : o (meOf t lt) = o (meOf s lt) := by
  have hme : o (sampleless (t.tile lt)).me = o (sampleless (s.tile lt)).me := by rw [h.tile lt]
  exact (ho _).symm.trans (hme.trans (ho _))

end Sampleless

section Restore
variable (s : State) (lt : Nat)

theorem tiles_drawSample (i : MeItem) (blk : Nat × Nat) : (drawSample s lt i blk).1.tiles = s.tiles ∧
    (drawSample s lt i blk).1.moduleId = s.moduleId := by
  unfold drawSample
  dsimp only
  split
  · exact ⟨rfl, rfl⟩
  · exact ⟨rfl, rfl⟩

/-- A sample set anew is all that changes of an item. -/
theorem kept_sampled (n : Nat) (x : Option (Nat × Nat)) : Kept sampleless s (modItem s lt n (fun y => { y with sample := x })) := by
  rw [modItem, modMe]
  refine Kept.modTile _ ?_
  simp only [sampleless, List.map_map]
  congr 3
  funext y
  simp only [Function.comp_apply]
  split <;> rfl

theorem kept_requeueSample (i : MeItem) : Kept sampleless s (requeueSample s lt i) := by
  unfold requeueSample
  split
  · next blk _ =>
    split
    · obtain ⟨htiles, hid⟩ := tiles_drawSample s lt i blk
      exact (Kept.of_tiles htiles hid).trans (kept_sampled _ lt i.slot _)
    · exact Kept.refl sampleless s
  · exact Kept.refl sampleless s

/-- The entry of the accumulator table that a RESTORE makes for word `k`. -/
def setEntry (s : State) (lt k : Nat) : Option (Nat × Word) :=
  let w := leNat ((List.range 4).map (fun b => savedByte s lt (4 * k + b)))
  if w = 0 then none else some (k, BitVec.ofNat 32 w)

theorem setEntry_key {k : Nat} {p : Nat × Word} (h : setEntry s lt k = some p) : p.1 = k := by
  simp only [setEntry] at h
  split at h
  · cases h
  · cases h
    rfl

/-- The engine that a RESTORE takes from the save area (R166). -/
def meRestored (s : State) (lt : Nat) (sv : MeSave) (e : MeState) : MeState :=
  let m := (s.tile lt).mem
  let eng := leNat (memBytes m saveRecord 4)
  let b0 := infoBuf sv.buf0 (nbit eng 8) (leNat (memBytes m (saveRecord + 4) 4))
  let b1 := infoBuf sv.buf1 (nbit eng 9) (leNat (memBytes m (saveRecord + 8) 4))
  { e with
    items := (List.range (min 64 (eng % 2 ^ 7))).filterMap (queuedItem s lt sv) ++ e.items
    buf0 := b0
    buf1 := b1
    active := if sv.active.num = b2n (nbit eng 10) then sv.active else if nbit eng 10 then b1 else b0
    sets := (List.range 65536).filterMap (setEntry s lt)
    accErrs := []
    saved := none }

/-- The ENGINE word of the control record in memory (Table 6.8). -/
def engineSaved (s : State) (lt : Nat) : Nat := leNat (memBytes (s.tile lt).mem saveRecord 4)

/-- The state in which a RESTORE has taken the engine, MEC_ALL and ME_INT from the save area. -/
def reloaded (s : State) (lt : Nat) (sv : MeSave) : State :=
  ((modMe s lt (meRestored s lt sv)).setTbit lt regMeCtrl 0 (nbit (engineSaved s lt) 11)).setTfld lt regMeInt 1 0 (nfld (engineSaved s lt) 13 12)

/-- The state in which the samples of the reloaded items are drawn again. -/
def requeued (s : State) (lt : Nat) (sv : MeSave) : State :=
  ((List.range (min 64 (engineSaved s lt % 2 ^ 7))).filterMap (queuedItem s lt sv)).foldl (fun x i => requeueSample x lt i) (reloaded s lt sv)

theorem meRestore_of_saved {sv : MeSave} (h : (meOf s lt).saved = some sv) :
    meRestore s lt = setMeBit (setMeBit (requeued s lt sv) lt 11 (nbit (engineSaved s lt) 7)) lt 13 false := by
  rw [meRestore, h]
  rfl

theorem kept_requeued (sv : MeSave) : Kept sampleless (reloaded s lt sv) (requeued s lt sv) :=
  Kept.foldl (fun x i => kept_requeueSample x lt i) _ _

theorem meOf_reloaded (sv : MeSave) : meOf (reloaded s lt sv) lt = meRestored s lt sv (meOf s lt) := by
  rw [reloaded, State.setTfld, meOf_setTreg, State.setTbit, State.setTfld, meOf_setTreg, meOf_modMe]

/-- What does not look at samples reads of a restored engine what the save area gave. -/
theorem meOf_meRestore {β : Type} (o : MeState → β) (ho : ∀ m, o { m with items := m.items.map (fun x => { x with sample := none }) } = o m)
    {sv : MeSave} (h : (meOf s lt).saved = some sv) : o (meOf (meRestore s lt) lt) = o (meRestored s lt sv (meOf s lt)) := by
  rw [meRestore_of_saved s lt h, meOf_setMeBit, meOf_setMeBit, meOf_of_sampleless (kept_requeued s lt sv) ho, meOf_reloaded]

theorem sameMemory_meRestore {sv : MeSave} (h : (meOf s lt).saved = some sv) : sameMemory s (meRestore s lt) := by
  have hreload : sameMemory s (reloaded s lt sv) := by
    rw [reloaded]
    exact sameMemory_trans (sameMemory_trans (sameMemory_modMe s lt _) (sameMemory_setTbit _ lt _ _ _)) (sameMemory_setTfld _ lt _ _ _ _)
  rw [meRestore_of_saved s lt h]
  exact sameMemory_trans (sameMemory_trans hreload (sameMemory_of_sampleless (kept_requeued s lt sv)))
    (sameMemory_trans (sameMemory_setMeBit _ lt _ _) (sameMemory_setMeBit _ lt _ _))

theorem meRestore_bits {sv : MeSave} (h : (meOf s lt).saved = some sv) :
    (meRestore s lt).tbit lt regMeStatus 13 = false ∧ (meRestore s lt).tbit lt regMeStatus 11 = nbit (engineSaved s lt) 7 ∧
      (meRestore s lt).tbit lt regMeCtrl 0 = nbit (engineSaved s lt) 11 := by
  have hctrl : (reloaded s lt sv).tbit lt regMeCtrl 0 = nbit (engineSaved s lt) 11 := by
    rw [reloaded, State.tbit, State.treg_setTfld_off_ne _ _ _ _ _ _ (by decide), ← State.tbit, State.tbit_setTbit_same _ _ _ _ (by decide)]
  rw [meRestore_of_saved s lt h]
  refine ⟨tbit_setMeBit_same _ _ _ (by decide), ?_, ?_⟩
  · rw [tbit_setMeBit_ne _ _ _ (by decide) (by decide), tbit_setMeBit_same _ _ _ (by decide)]
  · rw [tbit_setMeBit_off_ne _ _ _ _ _ (by decide), tbit_setMeBit_off_ne _ _ _ _ _ (by decide), State.tbit,
      treg_of_sampleless (kept_requeued s lt sv), ← State.tbit, hctrl]

/-- A table made of the entries of a function over keys. -/
theorem kvGet_filterMap {α : Type} (d : α) {g : Nat → Option (Nat × α)} (hkey : ∀ k p, g k = some p → p.1 = k) (l : List Nat) (k : Nat) :
    kvGet d (l.filterMap g) k = if k ∈ l then ((g k).map Prod.snd).getD d else d := by
  induction l with
  | nil => rfl
  | cons j r ih =>
    by_cases hjk : k = j
    · subst hjk
      cases hg : g k with
      | none =>
        rw [List.filterMap_cons_none hg, ih, hg]
        simp
      | some p =>
        rw [List.filterMap_cons_some hg, if_pos (List.mem_cons_self ..), kvGet, if_pos (hkey k p hg)]
        rfl
    · have hmem : k ∈ j :: r ↔ k ∈ r := by rw [List.mem_cons, or_iff_right hjk]
      rw [if_congr hmem rfl rfl, ← ih]
      cases hg : g j with
      | none => rw [List.filterMap_cons_none hg]
      | some p => rw [List.filterMap_cons_some hg, kvGet, if_neg fun e => hjk ((e.symm.trans (hkey j p hg)))]

/-- The bytes of a word of the save block, as the save area holds them. -/
theorem savedBytes_eq (k : Nat) : (List.range 4).map (fun b => savedByte s lt (4 * k + b)) =
    memBytes (s.tile lt).mem (savePart (4 * k / 3072) + 4 * k % 3072) 4 := by
  refine List.map_congr_left fun b hb => ?_
  rw [savedByte, savePart_add, savePart_word k (List.mem_range.mp hb)]

/-- The accumulator words that a RESTORE reads (R166). -/
theorem accWord_meRestored (sv : MeSave) (e : MeState) {k : Nat} (hk : k < 65536) :
    accWord (meRestored s lt sv e) k = leNat (memBytes (s.tile lt).mem (savePart (4 * k / 3072) + 4 * k % 3072) 4) := by
  have hsets : (meRestored s lt sv e).sets = (List.range 65536).filterMap (setEntry s lt) := by rw [meRestored]
  have hlt : leNat (memBytes (s.tile lt).mem (savePart (4 * k / 3072) + 4 * k % 3072) 4) < 2 ^ 32 := by
    refine (leNat_lt _).trans_eq ?_
    rw [length_memBytes]
    norm_num
  rw [accWord, hsets, kvGet_filterMap _ (fun k p => setEntry_key s lt), if_pos (List.mem_range.mpr hk), setEntry, savedBytes_eq]
  split
  · next hzero => rw [hzero]; rfl
  · exact Nat.mod_eq_of_lt hlt

/-- Weight buffer `n` of a restored engine (R166, Table 6.8). -/
theorem buf_meRestored (sv : MeSave) (e : MeState) {n : Nat} (hn : n < 2) :
    (meRestored s lt sv e).buf n = infoBuf (if n = 0 then sv.buf0 else sv.buf1) (nbit (engineSaved s lt) (8 + n))
      (leNat (memBytes (s.tile lt).mem (saveRecord + 4 + 4 * n) 4)) := by
  obtain rfl | rfl : n = 0 ∨ n = 1 := by omega
  · rfl
  · rfl

end Restore

/-! ### DISCARD -/

section Discard
variable {s : State} {lt : Nat} {sv : MeSave} (h : (meOf s lt).saved = some sv)
include h

theorem meDiscard_of_saved :
    meDiscard s lt = setMeBit (modMe (completeEach lt stPreempted MeItem.done s sv.items) lt MeState.cleared) lt 13 false := by
  rw [meDiscard, h]
  rfl

/-- A DISCARD empties the engine and ends its saved items with PREEMPTED (R166). -/
theorem meDiscard_spec : (meDiscard s lt).tbit lt regMeStatus 13 = false ∧ (meOf (meDiscard s lt) lt).saved = none ∧
    (meOf (meDiscard s lt) lt).sets = [] ∧ (meOf (meDiscard s lt) lt).buf0.valid = false ∧ (meOf (meDiscard s lt) lt).buf1.valid = false ∧
    ∀ i ∈ sv.items, (((meDiscard s lt).tile lt).slot 0 i.slot).crec.status = stPreempted ∧
      (((meDiscard s lt).tile lt).slot 0 i.slot).busy = false := by
  have hslots : ∀ u : State, ((setMeBit (modMe u lt MeState.cleared) lt 13 false).tile lt).slots = (u.tile lt).slots := fun u =>
    (State.setTbit_tile_slots ..).trans ((Kept.modMe (o := Tile.slots) (fun _ _ => rfl) u lt _).tile lt)
  rw [meDiscard_of_saved h, meOf_setMeBit, meOf_modMe]
  refine ⟨tbit_setMeBit_same _ _ _ (by decide), rfl, rfl, rfl, rfl, fun i hi => ?_⟩
  rw [Tile.slot, hslots]
  exact (slot_completeEach lt stPreempted _ sv.items s (Or.inl ⟨i, hi, rfl⟩)).symm

end Discard

/-! ### The statement -/

/-- Settles O36: each write of ME_CTRL is one function of the engine; what a SAVE stores word by word, a RESTORE reads from the same places. -/
theorem meControl : Obligations.MeControl := by
  intro s lt hlt
  refine ⟨fun lv hlv => ⟨?_, fun hquiet => ?_⟩, fun hsaving hsaved => ⟨fun hon => ?_, fun ⟨b, hb, hoff⟩ => ?_⟩,
    fun hsaving hquiet hrun hstop hnone hwf => ⟨_, exec_meSaveDone hlt hsaving hquiet hrun hstop, saveDone_spec s lt hwf hnone⟩,
    fun sv hsv => ⟨?_, ?_⟩, fun i => exec_meControl_of_supervisor s hlt, fun i => exec_meControl_of_user s hlt⟩
  · exact ⟨_, exec_meRelease s hlt hlv, (accessReply_tbit ..).trans (tbit_setMeBit_same s lt false (by decide)), meOf_setMeBit s lt 11 false lt,
      sameMemory_accessReply _ _ _ (sameMemory_setMeBit s lt 11 false)⟩
  · obtain ⟨hitems, hstopped, hhold, hslots⟩ := meStop_empties hquiet
    exact ⟨_, exec_meAbort s hlt hlv, hitems, hstopped, (accessReply_tbit ..).trans hhold, fun i hi _ _ => hslots i hi⟩
  · refine ⟨_, exec_meSave s hlt, ?_, ?_, sameMemory_accessReply _ _ _ ?_⟩
    · rw [accessReply_tbit, meSave_begins hsaving hsaved hon, tbit_modMe, tbit_setMeBit_same _ _ _ (by decide)]
    · show (meOf (meSave s lt) lt).sets = _
      rw [meSave_begins hsaving hsaved hon, meOf_modMe, meOf_setMeBit, discardStaged]
    · rw [meSave_begins hsaving hsaved hon]
      exact sameMemory_trans (sameMemory_setMeBit s lt 12 true) (sameMemory_modMe _ lt _)
  · refine ⟨_, exec_meSave s hlt, ?_, ?_, ?_⟩
    · rw [accessReply_tbit, meSave_refused hsaving hsaved hb hoff, tbit_setMeBit_same _ _ _ (by decide)]
    · rw [accessReply_tbit, meSave_refused hsaving hsaved hb hoff, tbit_setMeBit_ne _ _ _ (by decide) (by decide), hsaving]
    · show meOf (meSave s lt) lt = meOf s lt
      rw [meSave_refused hsaving hsaved hb hoff, meOf_setMeBit]
  · obtain ⟨hclear, hhold, hmec⟩ := meRestore_bits s lt hsv
    refine ⟨_, exec_meRestore s hlt, (accessReply_tbit ..).trans hclear, ?_, ⟨?_, fun n hn => ?_, (accessReply_tbit ..).trans hmec,
      (accessReply_tbit ..).trans hhold⟩, fun k hk => ?_, sameMemory_accessReply _ _ _ (sameMemory_meRestore s lt hsv)⟩
    · exact meOf_meRestore s lt MeState.saved (fun _ => rfl) hsv
    · refine meOf_meRestore s lt (fun m => m.items.map (fun x => { x with sample := none })) (fun m => ?_) hsv
      simp only [List.map_map]
      rfl
    · have hbuf := (meOf_meRestore s lt (·.buf n) (fun _ => rfl) hsv).trans (buf_meRestored s lt sv (meOf s lt) hn)
      show ((meOf (meRestore s lt) lt).buf n).valid = _ ∧ ((meOf (meRestore s lt) lt).buf n).k = _ ∧ ((meOf (meRestore s lt) lt).buf n).n = _ ∧
        ((meOf (meRestore s lt) lt).buf n).vals = _
      rw [hbuf]
      refine ⟨rfl, rfl, rfl, ?_⟩
      obtain rfl | rfl : n = 0 ∨ n = 1 := by omega
      · rfl
      · rfl
    · exact (meOf_meRestore s lt (accWord · k) (fun _ => rfl) hsv).trans (accWord_meRestored s lt sv (meOf s lt) hk)
  · obtain ⟨hclear, hsaved, hsets, hbuf0, hbuf1, hslots⟩ := meDiscard_spec hsv
    exact ⟨_, exec_meDiscard s hlt, (accessReply_tbit ..).trans hclear, hsaved, hsets, hbuf0, hbuf1, fun i hi _ => hslots i hi⟩

end Sys2Proof.Machine
end

section
/-!
SUPPORT. What the Matrix Engine's reads, faults and settling leave of a tile and of the engine.
-/
namespace Sys2Proof.Machine

open Sys2Proof

/-! ### Reads of operands -/

theorem Kept.map {β γ : Type} {o : Tile → β} {s t : State} (f : β → γ) (h : Kept o s t) : Kept (fun x => f (o x)) s t :=
  ⟨h.moduleId, fun x => congrArg f (h.tile x)⟩

theorem accessBlind_me : AccessBlind Tile.me where
  recorder _ _ := rfl
  isolated _ _ := rfl
  isoBanks _ _ := rfl
  regs _ _ _ _ := rfl
  errs _ _ := rfl
  counters _ _ := rfl
  eccRegs _ _ _ _ := rfl

section Reads
variable {β : Type} {o : Tile → β}

theorem Kept.readEach {α : Type} {f : State → Nat → State × Except DataFail α} (hf : ∀ s r, Kept o s (f s r).1) (n : Nat) (s : State)
    (r : Nat) : Kept o s (readEach f n s r).1 := by
  induction n generalizing s r with
  | zero => exact Kept.refl o s
  | succ n ih =>
    unfold Machine.readEach
    split
    · next h => exact Kept.of_fst h (hf s r)
    · next s1 _ h =>
      have hread : Kept o s s1 := Kept.of_fst h (hf s r)
      split
      · next h2 => exact hread.trans (Kept.of_fst h2 (ih s1 (r + 1)))
      · next h2 => exact hread.trans (Kept.of_fst h2 (ih s1 (r + 1)))

variable (ho : AccessBlind o) (s : State) (lt : Nat)
include ho

theorem AccessBlind.memRead (off n : Nat) : Kept o s (memRead s lt off n).1 := ho.memReadBy s lt false off n

theorem AccessBlind.readElems (off n fmt : Nat) : Kept o s (readElems s lt off n fmt).1 := by
  unfold Machine.readElems
  split
  · next h => exact Kept.of_fst h (ho.memRead s lt _ _)
  · next h => exact Kept.of_fst h (ho.memRead s lt _ _)

theorem AccessBlind.readScales (off n fmt : Nat) : Kept o s (readScales s lt off n fmt).1 := by
  unfold Machine.readScales
  split
  · split
    · next h => exact Kept.of_fst h (ho.memRead s lt _ _)
    · next h => exact Kept.of_fst h (ho.memRead s lt _ _)
  · exact Kept.refl o s

theorem AccessBlind.readRowValues (p : PalCfg) (off soff n : Nat) : Kept o s (readRowValues s lt p off soff n).1 := by
  unfold Machine.readRowValues
  split
  · next h => exact Kept.of_fst h (ho.readElems s lt _ _ _)
  · next s1 _ h =>
    have helems : Kept o s s1 := Kept.of_fst h (ho.readElems s lt _ _ _)
    split
    · next h2 => exact helems.trans (Kept.of_fst h2 (ho.readScales s1 lt _ _ _))
    · next h2 => exact helems.trans (Kept.of_fst h2 (ho.readScales s1 lt _ _ _))

theorem AccessBlind.gatherNeuron (d : TDesc) (r : Nat) : Kept o s (gatherNeuron s lt d r).1 := by
  unfold Machine.gatherNeuron
  dsimp only
  split
  · exact Kept.refl o s
  · split
    · next h => exact Kept.of_fst h (ho.memRead s lt _ _)
    · next s1 _ h =>
      have hread : Kept o s s1 := Kept.of_fst h (ho.memRead s lt _ _)
      split
      · exact hread
      · split
        · exact hread
        · exact hread

theorem AccessBlind.gatherRows (p : PalCfg) (d : TDesc) (k r : Nat) (bad : Option DataFail) : Kept o s (gatherRows lt p d k s r bad).1 := by
  induction k generalizing s r bad with
  | zero => cases bad <;> exact Kept.refl o s
  | succ k ih =>
    unfold Machine.gatherRows
    split
    · next h => exact Kept.of_fst h (ho.gatherNeuron s lt d r)
    · next s1 _ h => exact (Kept.of_fst h (ho.gatherNeuron s lt d r)).trans (ih s1 _ _)
    · next s1 _ h =>
      have hneuron : Kept o s s1 := Kept.of_fst h (ho.gatherNeuron s lt d r)
      split
      · next h2 => exact hneuron.trans (Kept.of_fst h2 (ho.readRowValues s1 lt _ _ _ _))
      · next s2 _ h2 =>
        have hrow : Kept o s s2 := hneuron.trans (Kept.of_fst h2 (ho.readRowValues s1 lt _ _ _ _))
        split
        · next h3 => exact hrow.trans (Kept.of_fst h3 (ih s2 _ _))
        · next h3 => exact hrow.trans (Kept.of_fst h3 (ih s2 _ _))

theorem AccessBlind.readRows (q : BlockReq) (n r : Nat) : Kept o s (readRows s lt q n r).1 := by
  induction n generalizing s r with
  | zero => exact Kept.refl o s
  | succ n ih =>
    unfold Machine.readRows
    split
    · next h => exact Kept.of_fst h (ho.memRead s lt _ _)
    · next s1 _ h =>
      have hread : Kept o s s1 := Kept.of_fst h (ho.memRead s lt _ _)
      split
      · next h2 => exact hread.trans (Kept.of_fst h2 (ih s1 _))
      · next h2 => exact hread.trans (Kept.of_fst h2 (ih s1 _))

theorem AccessBlind.blockRead (lv : Level) (q : BlockReq) : Kept o s (blockRead s lt lv q).1 := by
  unfold Machine.blockRead
  split
  · exact Kept.refl o s
  · split
    · next h => exact Kept.of_fst h (ho.readRows s lt q _ _)
    · next h => exact Kept.of_fst h (ho.readRows s lt q _ _)

theorem AccessBlind.readABlock (lv : Level) (p : PalCfg) (d : TDesc) (b : Nat) : Kept o s (readABlock s lt lv p d b).1 := by
  unfold Machine.readABlock
  dsimp only
  split
  · split
    · next h => exact Kept.of_fst h (ho.blockRead s lt lv _)
    · next h => exact Kept.of_fst h (ho.blockRead s lt lv _)
  · split
    · exact ho.gatherRows s lt p d _ _ _
    · exact Kept.readEach (fun u r => ho.readRowValues u lt p _ _ _) _ s _

theorem AccessBlind.readBRow (p : PalCfg) (d : TDesc) (r : Nat) : Kept o s (readBRow lt p d s r).1 := by
  unfold Machine.readBRow
  split
  · next h => exact Kept.of_fst h (ho.readElems s lt _ _ _)
  · next s1 _ h =>
    have helems : Kept o s s1 := Kept.of_fst h (ho.readElems s lt _ _ _)
    split
    · next h2 => exact helems.trans (Kept.of_fst h2 (ho.readScales s1 lt _ _ _))
    · next h2 => exact helems.trans (Kept.of_fst h2 (ho.readScales s1 lt _ _ _))

theorem AccessBlind.readGroup (p : PalCfg) (d : TDesc) (g : Nat) : Kept o s (readGroup lt p d s g).1 := by
  have hrows : ∀ n q, Kept o s (Machine.readEach (fun st q => Machine.readElems st lt (d.base + q * d.stride) d.cols p.format) n s q).1 :=
    fun n q => Kept.readEach (fun u r => ho.readElems u lt _ _ _) n s q
  unfold Machine.readGroup
  split
  · next h => exact Kept.of_fst h (hrows _ _)
  · next s1 _ h =>
    have hread : Kept o s s1 := Kept.of_fst h (hrows _ _)
    split
    · next h2 => exact hread.trans (Kept.of_fst h2 (ho.readScales s1 lt _ _ _))
    · next s2 _ h2 =>
      have hscales : Kept o s s2 := hread.trans (Kept.of_fst h2 (ho.readScales s1 lt _ _ _))
      split
      · next h3 => exact hscales.trans (Kept.of_fst h3 (ho.memRead s2 lt _ _))
      · next h3 => exact hscales.trans (Kept.of_fst h3 (ho.memRead s2 lt _ _))

theorem AccessBlind.readB (lv : Level) (p : PalCfg) (d : TDesc) : Kept o s (readB s lt lv p d).1 := by
  have hgroups : ∀ n g, Kept o s (Machine.readEach (Machine.readGroup lt p d) n s g).1 := fun n g =>
    Kept.readEach (fun u g => ho.readGroup u lt p d g) n s g
  unfold Machine.readB
  split
  · split
    · next h => exact Kept.of_fst h (hgroups _ _)
    · next h =>
      split
      · exact Kept.of_fst h (hgroups _ _)
      · exact Kept.of_fst h (hgroups _ _)
  · split
    · dsimp only
      split
      · next h => exact Kept.of_fst h (ho.blockRead s lt lv _)
      · next h => exact Kept.of_fst h (ho.blockRead s lt lv _)
    · exact Kept.readEach (fun u r => ho.readBRow u lt p d r) _ s _

theorem AccessBlind.readPairs (d : TDesc) (r : Nat) : Kept o s (readPairs lt d s r).1 := by
  unfold Machine.readPairs
  split
  · next h => exact Kept.of_fst h (ho.memRead s lt _ _)
  · next s1 _ h =>
    have hread : Kept o s s1 := Kept.of_fst h (ho.memRead s lt _ _)
    split
    · next h2 => exact hread.trans (Kept.of_fst h2 (ho.memRead s1 lt _ _))
    · next h2 => exact hread.trans (Kept.of_fst h2 (ho.memRead s1 lt _ _))

theorem AccessBlind.readMask (d : TDesc) (b : Nat) : Kept o s (readMask s lt d b).1 := by
  have hrow : ∀ (u : State) (i : Nat), Kept o u (match Machine.memRead u lt (d.metaBase + i * d.metaRow) (ceilDiv (d.cols * d.metaBits) 8) with
      | (s1, .error e) => (s1, (Except.error (memFail e) : Except DataFail (List Byte)))
      | (s1, .ok bs) => (s1, .ok bs)).1 := fun u i => by
    split
    · next h => exact Kept.of_fst h (ho.memRead u lt _ _)
    · next h => exact Kept.of_fst h (ho.memRead u lt _ _)
  unfold Machine.readMask
  dsimp only
  split
  · next h => exact Kept.of_fst h (Kept.readEach hrow _ s _)
  · next h =>
    split
    · exact Kept.of_fst h (Kept.readEach hrow _ s _)
    · exact Kept.of_fst h (Kept.readEach hrow _ s _)

theorem AccessBlind.maskFor (i : MeItem) (b : Nat) : Kept o s (maskFor s lt i b).1 := by
  unfold Machine.maskFor
  split
  · exact Kept.refl o s
  · split
    · next h => exact Kept.of_fst h (ho.readMask s lt _ _)
    · next h => exact Kept.of_fst h (ho.readMask s lt _ _)

theorem AccessBlind.readDescs (i : MeItem) : Kept o s (readDescs s lt i).1 := by
  have hfirst : Kept o s (if i.isDrain then (s, .ok []) else Machine.memRead s lt i.r1.toNat 64 : State × Except (Status × Nat) (List Byte)).1 := by
    split
    · exact Kept.refl o s
    · exact ho.memRead s lt _ _
  unfold Machine.readDescs
  split
  · next h => exact Kept.of_fst h hfirst
  · next s1 _ h =>
    have hread : Kept o s s1 := Kept.of_fst h hfirst
    dsimp only
    split
    · exact hread
    · split
      · next h2 => exact hread.trans (Kept.of_fst h2 (ho.memRead s1 lt _ _))
      · next h2 => exact hread.trans (Kept.of_fst h2 (ho.memRead s1 lt _ _))

end Reads

/-! ### Faults -/

/-- The engine after a fault: what has issued no row is back in the queue (R157). -/
def MeState.unstarted (m : MeState) : MeState := { m with items := m.items.map MeItem.unstart }

section Fault
variable (s : State) (lt : Nat) (i : MeItem) (st : Status) (check prog addr detail : Nat)

/-- ME_FAULT_ITEM of a fault (R157). -/
def faultItemWord (i : MeItem) (st : Status) (check : Nat) : Word :=
  BitVec.ofNat 32 (i.slot + st.toNat * 2 ^ 8 + (check % 16) * 2 ^ 16 + 2 ^ 31)

/-- The state in which a fault holds the engine (R157). -/
def faultHeld (s : State) (lt : Nat) (i : MeItem) (st : Status) (prog : Nat) : State :=
  setMeBit ((meComplete s lt i st prog).setTbit lt regMeInt 1 true) lt 11 true

/-- The state in which the ME_FAULT registers name the fault (R157). -/
def faultNoted (s : State) (lt : Nat) (i : MeItem) (st : Status) (check prog addr detail : Nat) : State :=
  ((((faultHeld s lt i st prog).setTreg lt regMeFaultItem (faultItemWord i st check)).setTreg lt regMeFaultProg
    (BitVec.ofNat 32 (prog % 2 ^ 13))).setTreg lt regMeFaultAddr (BitVec.ofNat 32 (addr % 2 ^ 28))).setTreg lt regMeFaultDetail
      (BitVec.ofNat 32 detail)

/-- The state in which the samples of the items that go back to the queue are dropped. -/
def faultSampled (s : State) (lt : Nat) : State :=
  (meOf s lt).items.foldl (fun x j => if j.fresh && j.sample.isSome then dropSample x lt j.handle else x) s

theorem meFault_eq : meFault s lt i st check prog addr detail =
    modMe (faultSampled (faultNoted s lt i st check prog addr detail) lt) lt MeState.unstarted := rfl

theorem kept_faultSampled {β : Type} (o : Tile → β) : Kept o s (faultSampled s lt) :=
  Kept.foldl (fun x (j : MeItem) => (Kept.of_tiles rfl rfl : Kept o x (dropSample x lt j.handle)).ite (Kept.refl o x)) _ s

/-- After the registers are written, a fault changes the engine alone. -/
theorem kept_faultEnd {β : Type} {o : Tile → β} (ho : ∀ t m, o { t with me := m } = o t) :
    Kept o (faultNoted s lt i st check prog addr detail) (meFault s lt i st check prog addr detail) := by
  rw [meFault_eq]
  exact (kept_faultSampled _ lt o).trans (Kept.modMe ho _ lt _)

/-- The registers of a fault are all that it changes beside the end of its item. -/
theorem kept_faultRegs {β : Type} {o : Tile → β} (ho : ∀ t r, o { t with regs := r } = o t) :
    Kept o (meComplete s lt i st prog) (faultNoted s lt i st check prog addr detail) := by
  have hreg : ∀ (u : State) (off : Nat) (v : Word), Kept o u (u.setTreg lt off v) := fun u off v => Kept.setTreg u lt v fun t => ho t _
  exact (((((hreg _ _ _).trans (hreg _ _ _)).trans (hreg _ _ _)).trans (hreg _ _ _)).trans (hreg _ _ _)).trans (hreg _ _ _)

@[simp] theorem meOf_meFault : meOf (meFault s lt i st check prog addr detail) lt = ((meOf s lt).without i.slot).unstarted := by
  rw [meFault_eq, meOf_modMe, (kept_faultSampled _ lt Tile.me).meOf, (kept_faultRegs s lt i st check prog addr detail fun _ _ => rfl).meOf,
    meOf_meComplete]

theorem slot_meFault_same :
    ((meFault s lt i st check prog addr detail).tile lt).slot 0 i.slot = endedSlot s lt 0 i.slot i.wop st prog := by
  have hslots : Kept Tile.slots (meComplete s lt i st prog) (meFault s lt i st check prog addr detail) :=
    (kept_faultRegs s lt i st check prog addr detail fun _ _ => rfl).trans (kept_faultEnd s lt i st check prog addr detail fun _ _ => rfl)
  rw [Tile.slot, hslots.tile lt, ← Tile.slot, slot_meComplete_same]

theorem treg_meFault (off : Nat) :
    (meFault s lt i st check prog addr detail).treg lt off = (faultNoted s lt i st check prog addr detail).treg lt off :=
  (kept_faultEnd (o := regAt off) s lt i st check prog addr detail fun _ _ => rfl).treg lt

theorem tbit_meFault_hold : (meFault s lt i st check prog addr detail).tbit lt regMeStatus 11 = true := by
  rw [State.tbit, treg_meFault, faultNoted]
  repeat rw [State.treg_setTreg_off_ne _ _ _ _ (by decide)]
  exact tbit_setMeBit_same _ _ _ (by decide)

theorem tbit_meFault_int : (meFault s lt i st check prog addr detail).tbit lt regMeInt 1 = true := by
  rw [State.tbit, treg_meFault, faultNoted]
  repeat rw [State.treg_setTreg_off_ne _ _ _ _ (by decide)]
  rw [← State.tbit, faultHeld, tbit_setMeBit_off_ne _ _ _ _ _ (by decide), State.tbit_setTbit_same _ _ _ _ (by decide)]

theorem treg_meFault_item : (meFault s lt i st check prog addr detail).treg lt regMeFaultItem = faultItemWord i st check := by
  rw [treg_meFault, faultNoted, State.treg_setTreg_off_ne _ _ _ _ (by decide), State.treg_setTreg_off_ne _ _ _ _ (by decide),
    State.treg_setTreg_off_ne _ _ _ _ (by decide), State.treg_setTreg_self]

theorem treg_meFault_addr : (meFault s lt i st check prog addr detail).treg lt regMeFaultAddr = BitVec.ofNat 32 (addr % 2 ^ 28) := by
  rw [treg_meFault, faultNoted, State.treg_setTreg_off_ne _ _ _ _ (by decide), State.treg_setTreg_self]

end Fault

/-- The fields of ME_FAULT_ITEM: the slot, the status, the check (R157). -/
theorem faultItemWord_fields {i : MeItem} (hslot : i.slot < 64) (st : Status) (check : Nat) :
    fld (faultItemWord i st check) 7 0 = i.slot ∧ fld (faultItemWord i st check) 15 8 = st.toNat ∧
      fld (faultItemWord i st check) 19 16 = check % 16 := by
  have hst : st.toNat < 2 ^ 8 := st.isLt
  simp only [fld, faultItemWord, BitVec.toNat_ofNat]
  omega

/-! ### Settling -/

/-- An item after the queue has settled: only its plane, where it had none, and whether a weight load reads may have changed. -/
def MeItem.Settled (x y : MeItem) : Prop :=
  ∃ p r, y = { x with plane := p, reading := r } ∧ ∀ q, x.plane = some q → p = some q

theorem MeItem.Settled.refl (x : MeItem) : x.Settled x := ⟨x.plane, x.reading, rfl, fun _ h => h⟩

theorem MeItem.Settled.trans {x y z : MeItem} (h : x.Settled y) (k : y.Settled z) : x.Settled z := by
  obtain ⟨p, r, rfl, hp⟩ := h
  obtain ⟨p', r', rfl, hp'⟩ := k
  exact ⟨p', r', rfl, fun q hq => hp' q (hp q hq)⟩

theorem MeItem.Settled.slot {x y : MeItem} (h : x.Settled y) : y.slot = x.slot := by
  obtain ⟨p, r, rfl, -⟩ := h
  rfl

/-- From `m` to `n` the engine has settled: its items item by item, and nothing else but the VALID bits of its buffers. -/
structure MeState.Settled (m n : MeState) : Prop where
  onto : ∀ x ∈ m.items, ∃ y ∈ n.items, x.Settled y
  of : ∀ y ∈ n.items, ∃ x ∈ m.items, x.Settled y
  stopping : n.stopping = m.stopping

theorem MeState.Settled.refl (m : MeState) : m.Settled m := ⟨fun x hx => ⟨x, hx, .refl x⟩, fun x hx => ⟨x, hx, .refl x⟩, rfl⟩

theorem MeState.Settled.trans {m n k : MeState} (h : m.Settled n) (h' : n.Settled k) : m.Settled k where
  onto x hx := by
    obtain ⟨y, hy, hxy⟩ := h.onto x hx
    obtain ⟨z, hz, hyz⟩ := h'.onto y hy
    exact ⟨z, hz, hxy.trans hyz⟩
  of z hz := by
    obtain ⟨y, hy, hyz⟩ := h'.of z hz
    obtain ⟨x, hx, hxy⟩ := h.of y hy
    exact ⟨x, hx, hxy.trans hyz⟩
  stopping := h'.stopping.trans h.stopping

/-- Items that change one by one settle the engine. -/
theorem MeState.Settled.map {m n : MeState} {g : MeItem → MeItem} (hg : ∀ x : MeItem, x.Settled (g x)) (hitems : n.items = m.items.map g)
    (hstop : n.stopping = m.stopping) : m.Settled n where
  onto x hx := ⟨g x, by rw [hitems]; exact List.mem_map_of_mem hx, hg x⟩
  of y hy := by
    rw [hitems] at hy
    obtain ⟨x, hx, rfl⟩ := List.mem_map.mp hy
    exact ⟨x, hx, hg x⟩
  stopping := hstop

/-- A list that is built up at its end from one item after the other. -/
theorem mem_foldl_append {g : List MeItem → MeItem → MeItem} (hg : ∀ done (x : MeItem), x.Settled (g done x)) (l done : List MeItem) :
    (∀ y, y ∈ done → y ∈ l.foldl (fun d x => d ++ [g d x]) done) ∧
      (∀ x ∈ l, ∃ y ∈ l.foldl (fun d x => d ++ [g d x]) done, x.Settled y) ∧
      ∀ y ∈ l.foldl (fun d x => d ++ [g d x]) done, y ∈ done ∨ ∃ x ∈ l, x.Settled y := by
  induction l generalizing done with
  | nil => simp
  | cons a r ih =>
    obtain ⟨hkeep, honto, hof⟩ := ih (done ++ [g done a])
    refine ⟨fun y hy => hkeep y (List.mem_append_left _ hy), fun x hx => ?_, fun y hy => ?_⟩
    · rcases List.mem_cons.mp hx with rfl | hx
      · exact ⟨_, hkeep _ (List.mem_append_right _ (List.mem_singleton.mpr rfl)), hg done x⟩
      · exact honto x hx
    · rcases hof y hy with hy | ⟨x, hx, hxy⟩
      · rcases List.mem_append.mp hy with hy | hy
        · exact Or.inl hy
        · rw [List.mem_singleton.mp hy]
          exact Or.inr ⟨a, List.mem_cons_self .., hg done a⟩
      · exact Or.inr ⟨x, List.mem_cons_of_mem _ hx, hxy⟩

/-- An item once the items `done` before it have settled: it takes the plane before it, where that is its buffer (R145). -/
def planed (m : MeState) (done : List MeItem) (i : MeItem) : MeItem :=
  let p := lastPlane m.active done
  let b := m.buf (meWbuf i.payload)
  if i.wantsPlane && done.all (fun x => !x.isRows || x.plane.isSome) && p.num == b.num && p.gen == b.gen && p.valid
    then { i with plane := some p } else i

theorem settled_planed (m : MeState) (done : List MeItem) (i : MeItem) : i.Settled (planed m done i) := by
  unfold planed
  dsimp only
  split
  · next h =>
    refine ⟨some (lastPlane m.active done), i.reading, rfl, fun q hq => ?_⟩
    simp [MeItem.wantsPlane, hq] at h
  · exact .refl i

theorem settled_settlePlanes (m : MeState) : m.Settled (settlePlanes m) := by
  obtain ⟨-, honto, hof⟩ := mem_foldl_append (settled_planed m) m.items []
  exact ⟨honto, fun y hy => (hof y hy).resolve_left List.not_mem_nil, rfl⟩

/-- The engine once the weight load of an item reads, where it may (R144, R145). -/
def loadBegun (m : MeState) (i : MeItem) : MeState :=
  if i.wop = wopWload && i.started && i.checked && !i.reading && loadMayBegin m i then
    { m.setBuf (meWbuf i.payload) { m.buf (meWbuf i.payload) with valid := false } with
      items := m.items.map (fun x => if x.slot == i.slot then { x with reading := true } else x) }
  else m

theorem beginLoads_eq (m : MeState) : beginLoads m = m.items.foldl loadBegun m := rfl

theorem stopping_setBuf (m : MeState) (b : Nat) (x : MeBuf) : (m.setBuf b x).stopping = m.stopping := by
  unfold MeState.setBuf
  split
  · rfl
  · rfl

theorem settled_loadBegun (m : MeState) (i : MeItem) : m.Settled (loadBegun m i) := by
  unfold loadBegun
  split
  · refine .map (g := fun x => if x.slot == i.slot then { x with reading := true } else x) (fun x => ?_) rfl (stopping_setBuf m _ _)
    split
    · exact ⟨x.plane, true, rfl, fun _ h => h⟩
    · exact .refl x
  · exact .refl m

theorem settled_foldl_loadBegun (l : List MeItem) (m : MeState) : m.Settled (l.foldl loadBegun m) := by
  induction l generalizing m with
  | nil => exact .refl m
  | cons i r ih => exact (settled_loadBegun m i).trans (ih _)

theorem settled_beginLoads (m : MeState) : m.Settled (beginLoads m) := by
  rw [beginLoads_eq]
  exact settled_foldl_loadBegun m.items m

theorem settled_meSettle (s : State) (lt : Nat) : (meOf s lt).Settled (meOf (meSettle s lt) lt) := by
  rw [meSettle, meOf_modMe]
  exact (settled_settlePlanes _).trans (settled_beginLoads _)

theorem Kept.meSettle {β : Type} {o : Tile → β} (ho : ∀ t m, o { t with me := m } = o t) (s : State) (lt : Nat) : Kept o s (meSettle s lt) :=
  Kept.modMe ho s lt _

/-- With an empty queue there is nothing to settle. -/
theorem meSettle_me_of_empty {s : State} {lt : Nat} (h : (meOf s lt).items = []) : meOf (meSettle s lt) lt = meOf s lt := by
  rw [meSettle, meOf_modMe]
  have hsettle : settlePlanes (meOf s lt) = meOf s lt := by
    rw [settlePlanes, h, List.foldl_nil, ← h]
  rw [hsettle, beginLoads, h, List.foldl_nil]

theorem settleStop_of_running {s : State} {lt : Nat} (h : (meOf s lt).stopping = none) : settleStop s lt = s := by
  rw [settleStop, h]

end Sys2Proof.Machine
end

section
/-!
O35: the events of a Matrix Engine.
-/
namespace Sys2Proof.Machine

open Sys2Proof

/-! ### Start -/

/-- What settles after an event is the engine alone. -/
theorem slot_meSettle (s : State) (lt n : Nat) : ((meSettle s lt).tile lt).slot 0 n = (s.tile lt).slot 0 n := by
  have hslots : ((meSettle s lt).tile lt).slots = (s.tile lt).slots := (Kept.meSettle (o := Tile.slots) (fun _ _ => rfl) s lt).tile lt
  rw [Tile.slot, hslots, Tile.slot]

theorem treg_meSettle (s : State) (lt x off : Nat) : (meSettle s lt).treg x off = s.treg x off := treg_modMe s lt _ x off

theorem tbit_meSettle (s : State) (lt x off i : Nat) : (meSettle s lt).tbit x off i = s.tbit x off i := tbit_modMe s lt _ x off i

theorem tfld_meSettle (s : State) (lt x off hi lo : Nat) : (meSettle s lt).tfld x off hi lo = s.tfld x off hi lo := by
  rw [State.tfld, treg_meSettle, State.tfld]

theorem sameMemory_meSettle (s : State) (lt : Nat) : sameMemory s (meSettle s lt) := sameMemory_modMe s lt _

/-- A slot without an item has none after settling. -/
theorem slot_free_of_settled {m n : MeState} (h : m.Settled n) {k : Nat} (hfree : ∀ x ∈ m.items, x.slot ≠ k) :
    ∀ y ∈ n.items, y.slot ≠ k := by
  intro y hy
  obtain ⟨x, hx, hxy⟩ := h.of y hy
  rw [hxy.slot]
  exact hfree x hx

theorem slot_free_without (m : MeState) (k : Nat) : ∀ x ∈ (m.without k).items, x.slot ≠ k := fun _ hx => (MeState.mem_without hx).2

theorem slot_unstart (x : MeItem) : x.unstart.slot = x.slot := by
  unfold MeItem.unstart
  split
  · rfl
  · rfl

theorem slot_free_unstarted {m : MeState} {k : Nat} (h : ∀ x ∈ m.items, x.slot ≠ k) : ∀ x ∈ m.unstarted.items, x.slot ≠ k := by
  intro y hy
  obtain ⟨x, hx, rfl⟩ := List.mem_map.mp hy
  rw [slot_unstart]
  exact h x hx

theorem wop_ne_of_isMma {w k : Nat} (h : isMma w = true) (hk : isMma k = false) : w ≠ k := by
  rintro rfl
  rw [h] at hk
  exact absurd hk (by decide)

section Start
variable {s : State} {lt : Nat} {i : MeItem} {rest : List MeItem} (hitems : (meOf s lt).items = i :: rest)
  (hopen : meOpen s lt = true) (hroom : ((meOf s lt).items.filter (fun x => x.started)).length < 8)
include hitems hopen hroom

/-- The item at the head of an open engine's queue may start. -/
theorem mayStart_of_head : mayStart s lt i = true := by
  have hbefore : earlier (meOf s lt).items i.slot = [] := by simp [earlier, hitems]
  rw [mayStart, hopen, hbefore]
  simp [hroom]

theorem exec_meItemStart (hlt : lt < 1320) (hwaits : i.started = false) (hready : setNotReady s lt i = false)
    (hwop : i.wop ≠ wopSel) : exec (.meItemStart lt) s = .next (meSettle (startItem s lt i) lt) := by
  have hfind : (meOf s lt).items.find? (fun i => !i.started) = some i := by rw [hitems, List.find?_cons_of_pos (by simp [hwaits])]
  have hmay : (mayStart s lt i && !setNotReady s lt i) = true := by
    rw [mayStart_of_head hitems hopen hroom, hready]
    rfl
  show execMeItemStart lt s = _
  rw [execMeItemStart, onTile_of_lt hlt, hfind]
  simp only [hmay, hwop, if_true, if_false]

end Start

/-- A fence completes at once (R154). -/
theorem startItem_of_fence {s : State} {lt : Nat} {i : MeItem} (h : i.wop = wopFence) : startItem s lt i = meComplete s lt i stOk 0 := if_pos h

/-- An item whose first descriptor address fails check 1 ends with PROT_FAULT (R155). -/
theorem startItem_of_badAddr {s : State} {lt : Nat} {i : MeItem} (hmma : isMma i.wop = true) {a : Nat}
    (hbad : i.addrs.find? (fun a => !descAddrOk i.lv a) = some a) :
    startItem s lt i = meFault (studyCount s lt i).1 lt i stProtFault 1 0 a 0 := by
  rw [startItem, if_neg (wop_ne_of_isMma hmma (by decide))]
  simp only [hbad]

theorem addrs_head {i : MeItem} (hmma : isMma i.wop = true) (hdrain : i.drain = false) : ∃ r, i.addrs = i.r1.toNat :: r := by
  rw [MeItem.addrs, MeItem.isDrain, hmma, hdrain]
  exact ⟨_, rfl⟩

/-- An item with a misaligned A descriptor fails check 1 on its address. -/
theorem addrs_misaligned {i : MeItem} (hmma : isMma i.wop = true) (hdrain : i.drain = false) (h : i.r1.toNat % 64 ≠ 0) :
    i.addrs.find? (fun a => !descAddrOk i.lv a) = some i.r1.toNat := by
  obtain ⟨r, hr⟩ := addrs_head hmma hdrain
  rw [hr, List.find?_cons_of_pos]
  simp [descAddrOk, h]

/-- The count of items that have started changes no tile but in the engine's own count. -/
theorem kept_studyCount {β : Type} {o : Tile → β} (ho : ∀ t n, o { t with me := { t.me with mmaCount := n } } = o t) (s : State) (lt : Nat)
    (i : MeItem) : Kept o s (studyCount s lt i).1 := by
  have hcount : Kept o s (modMe s lt (fun m => { m with mmaCount := m.mmaCount + 1 })) := by
    rw [modMe]
    refine Kept.modTile _ ?_
    exact ho _ _
  unfold studyCount
  split
  · exact Kept.refl o s
  · dsimp only
    split
    · exact hcount
    · exact hcount.trans (Kept.of_tiles rfl rfl)

theorem kept_drawSample {β : Type} (o : Tile → β) (s : State) (lt : Nat) (i : MeItem) (blk : Nat × Nat) : Kept o s (drawSample s lt i blk).1 :=
  Kept.of_tiles (tiles_drawSample s lt i blk).1 (tiles_drawSample s lt i blk).2

/-- The draw of a sample changes no tile (R192). -/
theorem kept_studyDraw {β : Type} (o : Tile → β) (s : State) (lt j : Nat) (due full : Bool) (i : MeItem) :
    Kept o s (studyDraw s lt j due full i).1 := by
  unfold studyDraw
  extract_lets cfg w s1
  have h1 : Kept o s s1 := (kept_drawn s).ite (Kept.of_tiles rfl rfl)
  split
  · exact Kept.refl o s
  · split
    · split
      · exact kept_drawSample o s lt i _
      · exact Kept.refl o s
    · split
      · exact h1.trans (kept_drawSample o s1 lt i _)
      · exact Kept.refl o s

/-- The items of a tile's engine, as an observation of the tile. -/
def meItems (t : Tile) : List MeItem := t.me.items

theorem mem_modItem {s : State} {lt n : Nat} {f : MeItem → MeItem} {x : MeItem} (hx : x ∈ (meOf s lt).items) (hslot : x.slot = n) :
    f x ∈ (meOf (modItem s lt n f) lt).items := by
  rw [modItem, meOf_modMe]
  exact List.mem_map.mpr ⟨x, hx, if_pos (beq_iff_eq.mpr hslot)⟩

section Checks
variable {s s1 : State} {lt : Nat} {i j : MeItem} (hmma : isMma i.wop = true) (haddrs : i.addrs.all (descAddrOk i.lv) = true)
  (hread : readDescs (studyCount s lt i).1 lt i = (s1, .ok j))
include hmma haddrs hread

/-- The Study unit's draw for an item that starts (R192). -/
def startDraw (s s1 : State) (lt : Nat) (i j : MeItem) : State × Option (Nat × Nat) :=
  studyDraw s1 lt (i.num.getD (meOf s lt).mmaCount) (s.region (regionOf s lt)).studyDue (studyCount s lt i).2 j

/-- The item once it has started. -/
def startedItem (s s1 : State) (lt : Nat) (i j : MeItem) : MeItem :=
  { j with started := true, num := some (i.num.getD (meOf s lt).mmaCount), sample := (startDraw s s1 lt i j).2
           remask := recomputes (startDraw s s1 lt i j).1 lt j.r3 }

/-- The state in which it stands in the queue. -/
def startedState (s s1 : State) (lt : Nat) (i j : MeItem) : State :=
  modItem (startDraw s s1 lt i j).1 lt i.slot (fun _ => startedItem s s1 lt i j)

/-- An item that passes its checks is checked in its place (R155). -/
theorem startItem_of_checked (hload : awaitsLoad (meOf (startedState s s1 lt i j) lt) (startedItem s s1 lt i j) = false)
    (hchecks : itemChecks (startedState s s1 lt i j) lt (startedItem s s1 lt i j)
      (.now ((meOf (startedState s s1 lt i j) lt).buf (meWbuf j.payload))) = none) :
    startItem s lt i = modItem (startedState s s1 lt i j) lt j.slot (fun x => { x with checked := true }) := by
  have hfind : i.addrs.find? (fun a => !descAddrOk i.lv a) = none := by
    rw [List.find?_eq_none]
    intro a ha
    simp [List.all_eq_true.mp haddrs a ha]
  rw [startItem, if_neg (wop_ne_of_isMma hmma (by decide))]
  simp only [hfind, hread]
  show (if awaitsLoad (meOf (startedState s s1 lt i j) lt) (startedItem s s1 lt i j) then _ else
    checkItem (startedState s s1 lt i j) lt (startedItem s s1 lt i j)) = _
  rw [hload, if_neg Bool.false_ne_true, checkItem]
  have hpayload : (startedItem s s1 lt i j).payload = j.payload := rfl
  rw [hpayload, hchecks]
  rfl

omit hmma haddrs in
/-- The items of the queue, with the one that starts. -/
theorem startedItem_mem {rest : List MeItem} (hitems : (meOf s lt).items = i :: rest) :
    startedItem s s1 lt i j ∈ (meOf (startedState s s1 lt i j) lt).items := by
  have hdescs : Kept meItems (studyCount s lt i).1 s1 := (Kept.of_fst hread (accessBlind_me.readDescs _ lt i)).map MeState.items
  have hqueue : Kept meItems s (startDraw s s1 lt i j).1 :=
    (kept_studyCount (fun _ _ => rfl) s lt i).trans (hdescs.trans (kept_studyDraw meItems s1 lt _ _ _ j))
  have hmem : i ∈ (meOf (startDraw s s1 lt i j).1 lt).items := by
    have hsame : (meOf (startDraw s s1 lt i j).1 lt).items = (meOf s lt).items := hqueue.tile lt
    rw [hsame, hitems]
    exact List.mem_cons_self ..
  exact mem_modItem hmem rfl

end Checks

/-! ### Weight loads -/

theorem buf_setBuf (m : MeState) (b : Nat) (x : MeBuf) : (m.setBuf b x).buf b = x := by
  unfold MeState.setBuf MeState.buf
  by_cases h : b = 0
  · rw [if_pos h, if_pos h]
  · rw [if_neg h, if_neg h]

theorem items_setBuf (m : MeState) (b : Nat) (x : MeBuf) : (m.setBuf b x).items = m.items := by
  unfold MeState.setBuf
  split
  · rfl
  · rfl

/-- The engine with the buffer that a load leaves (R144). -/
def bufLoaded (i : MeItem) (vals : List (List (Option FVal))) (m : MeState) : MeState :=
  m.setBuf (meWbuf i.payload) (loadedBuf (m.buf (meWbuf i.payload)) i.cfgA i.dA vals)

theorem finishLoad_of_read {s s1 : State} {lt : Nat} {i : MeItem} {vals : List (List (Option FVal))}
    (hread : readB s lt i.lv i.cfgA i.dA = (s1, .ok vals)) :
    finishLoad s lt i = meComplete (modMe s1 lt (bufLoaded i vals)) lt i stOk i.dA.rows := by
  rw [finishLoad]
  simp only [hread]
  rfl

theorem checkWaiting_of_empty {s : State} {lt : Nat} (h : (meOf s lt).items = []) : checkWaiting s lt = s := by
  rw [checkWaiting, h, List.foldl_nil]

section Load
variable {s s1 : State} {lt : Nat} {i : MeItem} {vals : List (List (Option FVal))} (hitems : (meOf s lt).items = [i])
  (hstop : (meOf s lt).stopping = none) (hread : readB s lt i.lv i.cfgA i.dA = (s1, .ok vals))
include hread

/-- The engine after a load: its item is gone, and its buffer filled (R144). -/
theorem meOf_finishLoad : meOf (finishLoad s lt i) lt = (bufLoaded i vals (meOf s lt)).without i.slot := by
  rw [finishLoad_of_read hread, meOf_meComplete, meOf_modMe, (Kept.of_fst hread (accessBlind_me.readB s lt _ _ _)).meOf]

include hitems

theorem items_finishLoad : (meOf (finishLoad s lt i) lt).items = [] := by
  rw [meOf_finishLoad hread, MeState.without, bufLoaded, items_setBuf, hitems, List.filter_singleton, bne_self_eq_false, cond_false]

include hstop

theorem exec_meWloadDone (hlt : lt < 1320) (hwop : i.wop = 8) (hreading : i.reading = true) :
    exec (.meWloadDone lt) s = .next (meSettle (finishLoad s lt i) lt) := by
  have hempty := items_finishLoad hitems hread
  have hstopped : (meOf (meSettle (finishLoad s lt i) lt) lt).stopping = none := by
    rw [meSettle_me_of_empty hempty, meOf_finishLoad hread, MeState.without, bufLoaded, stopping_setBuf, hstop]
  have hfind : (meOf s lt).items.find? (fun i => i.wop == wopWload && i.reading) = some i := by
    rw [hitems, List.find?_cons_of_pos (by simp [hwop, hreading])]
  show execMeWloadDone lt s = _
  rw [execMeWloadDone, onTile_of_lt hlt, hstop, if_neg (by simp), hfind]
  dsimp only
  rw [checkWaiting_of_empty hempty, settleStop_of_running hstopped]

end Load

/-! ### Fills and staging -/

/-- What a fault or an event does to the item of a slot, the settled engine shows. -/
theorem mem_meSettle {s : State} {lt : Nat} {x : MeItem} (h : x ∈ (meOf s lt).items) : ∃ y ∈ (meOf (meSettle s lt) lt).items, x.Settled y :=
  (settled_meSettle s lt).onto x h

theorem sameMemory_modItem (s : State) (lt n : Nat) (f : MeItem → MeItem) : sameMemory s (modItem s lt n f) := sameMemory_modMe s lt _

theorem exec_meFillDone {s : State} {lt : Nat} {i : MeItem} (hlt : lt < 1320)
    (hfind : (meOf s lt).items.find? (fun i => i.isRows && i.plane.isNone) = some i) (hwants : i.wantsPlane = true)
    (hfree : shadowFree (meOf s lt) = true) :
    exec (.meFillDone lt) s = .next (meSettle (modItem s lt i.slot (fun x => { x with plane := some ((meOf s lt).buf (meWbuf i.payload)) })) lt) := by
  have hgo : (i.wantsPlane && shadowFree (meOf s lt)) = true := by
    rw [hwants, hfree]
    rfl
  show execMeFillDone lt s = _
  rw [execMeFillDone, onTile_of_lt hlt]
  dsimp only
  rw [hfind]
  dsimp only
  rw [if_pos hgo]

theorem stagingItem_mem {m : MeState} {i : MeItem} (h : stagingItem m = some i) : i ∈ m.items := by
  unfold stagingItem at h
  split at h
  · next j hfind =>
    split at h
    · cases h
      exact List.mem_of_find?_eq_some hfind
    · cases h
  · cases h

/-- An item with a block staged (R149). -/
def blockStaged (b : Nat) (rows : List (List FVal)) (x : MeItem) : MeItem := { x with staged := x.staged ++ [(b, rows)], stagedTo := b + 1 }

theorem exec_meBlockStaged {s s1 : State} {lt : Nat} {i : MeItem} {rows : List (List FVal)} (hlt : lt < 1320) (hstop : meStopping s lt = false)
    (hrun : unitsStop s lt = false) (hitem : stagingItem (meOf s lt) = some i) (hwb : i.wb ≠ 4)
    (hread : readABlock s lt i.lv i.cfgA i.dA i.stagedTo = (s1, .ok rows)) :
    exec (.meBlockStaged lt) s = .next (modItem s1 lt i.slot (blockStaged i.stagedTo rows)) := by
  show execMeBlockStaged lt s = _
  rw [execMeBlockStaged, onTile_of_lt hlt, hstop, hrun, if_neg (by simp)]
  simp only [hitem, hread, hwb, if_false]
  rfl

/-! ### Sums -/

/-- What a value adds to the largest exponent seen. -/
def logMax (a : Option Int) (v : FVal) : Option Int :=
  match v with
  | .fin _ m e => if m = 0 then a else match a with
    | none => some (numLog2 m e)
    | some x => some (max x (numLog2 m e))
  | _ => a

theorem maxLog2_eq (vs : List FVal) : maxLog2 vs = vs.foldl logMax none := rfl

/-- A value that has an exponent joins the largest; any other leaves it. -/
theorem logMax_cases (v : FVal) : (∀ a, logMax a v = a) ∨ ∃ k, ∀ a, logMax a v = some (a.elim k (max · k)) := by
  cases v with
  | fin n m e =>
    by_cases hm : m = 0
    · exact Or.inl fun a => if_pos hm
    · refine Or.inr ⟨numLog2 m e, fun a => (if_neg hm).trans ?_⟩
      cases a <;> rfl
  | _ => exact Or.inl fun _ => rfl

theorem logMax_comm (a : Option Int) (v w : FVal) : logMax (logMax a v) w = logMax (logMax a w) v := by
  obtain hv | ⟨k, hv⟩ := logMax_cases v
  · rw [hv, hv]
  · obtain hw | ⟨l, hw⟩ := logMax_cases w
    · rw [hw, hw]
    · rw [hv, hw, hw, hv]
      cases a with
      | none => simp [max_comm]
      | some x => simp [max_right_comm]

theorem maxLog2_perm {vs ws : List FVal} (h : vs.Perm ws) : maxLog2 vs = maxLog2 ws := by
  rw [maxLog2_eq, maxLog2_eq]
  exact h.foldl_eq' (fun v _ w _ a => logMax_comm a v w) none

/-- An exact sum does not depend on the order of its terms (R136). -/
theorem dot_perm (c : FVal) {ts ts' : List FVal} (h : ts.Perm ts') : dot c ts = dot c ts' := by
  have hall : (c :: ts).Perm (c :: ts') := h.cons c
  have hsum : ∀ q, (c :: ts).foldl (fun a v => a + termAt q v) 0 = (c :: ts').foldl (fun a v => a + termAt q v) 0 := fun q =>
    hall.foldl_eq' (fun v _ w _ a => add_right_comm a (termAt q v) (termAt q w)) 0
  simp only [dot, hall.contains_eq, hall.any_eq, hall.all_eq, maxLog2_perm hall, hsum]

/-! ### Issue -/

/-- Entries written one after the other leave every other key. -/
theorem kvGet_foldl_kvSet_ne {α β : Type} (d : α) {key : β → Nat} {val : β → α} {y : Nat} (l : List β) (m : KV α)
    (h : ∀ b ∈ l, y ≠ key b) :
    kvGet d (l.foldl (fun k b => kvSet k (key b) (val b)) m) y = kvGet d m y := by
  induction l generalizing m with
  | nil => rfl
  | cons a r ih => rw [List.foldl_cons, ih _ fun b hb => h b (List.mem_cons_of_mem _ hb), kvGet_kvSet_ne _ _ _ (h a (List.mem_cons_self ..))]

/-- Entries written at keys of their own hold their values. -/
theorem kvGet_foldl_kvSet {α β : Type} (d : α) {key : β → Nat} {val : β → α} (l : List β) (m : KV α)
    (hinj : ∀ a ∈ l, ∀ b ∈ l, key a = key b → a = b) {b : β} (hb : b ∈ l) :
    kvGet d (l.foldl (fun k b => kvSet k (key b) (val b)) m) (key b) = val b := by
  induction l generalizing m with
  | nil => simp at hb
  | cons a r ih =>
    by_cases hr : b ∈ r
    · exact ih _ (fun x hx y hy => hinj x (List.mem_cons_of_mem _ hx) y (List.mem_cons_of_mem _ hy)) hr
    · obtain rfl : b = a := (List.mem_cons.mp hb).resolve_right hr
      rw [List.foldl_cons, kvGet_foldl_kvSet_ne, kvGet_kvSet_self]
      rintro x hx he
      rw [hinj b hb x (List.mem_cons_of_mem _ hx) he] at hr
      exact hr hx

section Rows
variable (i : MeItem)

/-- The accumulator word of column `j` of the `k`-th row of a group. -/
def groupIdx (k j : Nat) : Nat := accIdx (i.setOf (i.issued / 128)) ((i.issued + k) % 128) j

theorem groupIdx_inj {k k' j j' : Nat} (hk : i.issued % 128 + k < 128) (hk' : i.issued % 128 + k' < 128) (hj : j < 128) (hj' : j' < 128)
    (h : groupIdx i k j = groupIdx i k' j') : k = k' ∧ j = j' := by
  simp only [groupIdx, accIdx] at h
  omega

variable (p : MeBuf)

/-- The FP32 result of column `j` for the `k`-th row of a group, with the elements `a` (R136, R146). -/
def groupResult (m : MeState) (k : Nat) (a : List FVal) (j : Nat) : Word :=
  BitVec.ofNat 32 (dot (if meAccum i.payload then fp32.decode (accWord m (groupIdx i k j)) else FVal.zero) (rowTerms a (p.col j)))

variable {i} (hsample : i.sample = none)
include hsample

theorem issueRow_queue (m : MeState) (r : Nat) (a : List FVal) :
    (issueRow i p m r a).items = m.items ∧ (issueRow i p m r a).stopping = m.stopping := by
  simp only [issueRow, hsample, and_self]

/-- A row of a group writes the accumulator words of its columns (R146). -/
theorem issueRow_sets (m : MeState) {k : Nat} (hk : i.issued % 128 + k < 128) (a : List FVal) : (issueRow i p m (i.issued + k) a).sets =
    (List.range p.n).foldl (fun t j => kvSet t (groupIdx i k j) (groupResult i p m k a j)) m.sets := by
  have hblock : (i.issued + k) / 128 = i.issued / 128 := by omega
  simp only [issueRow, hsample, List.foldl_map, hblock]
  rfl

omit hsample
variable (i) (blk : List (List FVal)) (m : MeState)

/-- The engine after `n` rows of a group have issued (R149). -/
def rowsIssued (n : Nat) : MeState :=
  (List.range n).foldl (fun m k => issueRow i p m (i.issued + k) (blk.getD (i.issued % 128 + k) [])) m

theorem rowsIssued_succ (n : Nat) :
    rowsIssued i p blk m (n + 1) = issueRow i p (rowsIssued i p blk m n) (i.issued + n) (blk.getD (i.issued % 128 + n) []) := by
  rw [rowsIssued, List.range_succ, List.foldl_append, List.foldl_cons, List.foldl_nil, rowsIssued]

include hsample

theorem rowsIssued_queue (n : Nat) : (rowsIssued i p blk m n).items = m.items ∧ (rowsIssued i p blk m n).stopping = m.stopping := by
  induction n with
  | zero => exact ⟨rfl, rfl⟩
  | succ n ih =>
    obtain ⟨hitems, hstop⟩ := issueRow_queue p hsample (rowsIssued i p blk m n) (i.issued + n) (blk.getD (i.issued % 128 + n) [])
    rw [rowsIssued_succ, hitems, hstop]
    exact ih

/-- Each row of a group adds onto what its words held before the group (R136, R146). -/
theorem rowsIssued_sets (hcols : p.n ≤ 128) (n : Nat) (hn : i.issued % 128 + n ≤ 128) :
    (∀ x, (∀ k j, k < n → j < p.n → x ≠ groupIdx i k j) → kvGet 0 (rowsIssued i p blk m n).sets x = kvGet 0 m.sets x) ∧
      ∀ k j, k < n → j < p.n →
        kvGet 0 (rowsIssued i p blk m n).sets (groupIdx i k j) = groupResult i p m k (blk.getD (i.issued % 128 + k) []) j := by
  induction n with
  | zero => exact ⟨fun _ _ => rfl, fun k j hk => absurd hk (Nat.not_lt_zero k)⟩
  | succ n ih =>
    obtain ⟨hold, hrows⟩ := ih (by omega)
    have hsame : ∀ {k k' j j'}, k ≤ n → k' ≤ n → j < p.n → j' < p.n → groupIdx i k j = groupIdx i k' j' → k = k' ∧ j = j' :=
      fun hk hk' hj hj' => groupIdx_inj i (by omega) (by omega) (by omega) (by omega)
    rw [rowsIssued_succ, issueRow_sets p hsample _ (by omega)]
    refine ⟨fun x hx => ?_, fun k j hk hj => ?_⟩
    · rw [kvGet_foldl_kvSet_ne _ _ _ fun j hj => hx n j (by omega) (List.mem_range.mp hj)]
      exact hold x fun k j hk => hx k j (by omega)
    · rcases Nat.lt_succ_iff_lt_or_eq.mp hk with hkn | rfl
      · rw [kvGet_foldl_kvSet_ne _ _ _ fun j' hj' he => hkn.ne (hsame hkn.le le_rfl hj (List.mem_range.mp hj') he).1]
        exact hrows k j hkn hj
      · rw [kvGet_foldl_kvSet _ _ _ (fun a ha b hb he => (hsame le_rfl le_rfl (List.mem_range.mp ha) (List.mem_range.mp hb) he).2)
          (List.mem_range.mpr hj), groupResult, groupResult, accWord, hold, accWord]
        exact fun k' j' hk' hj' he => hk'.ne (hsame le_rfl hk'.le hj hj' he).1.symm

end Rows

theorem readyItem_mem {m : MeState} {i : MeItem} (h : readyItem m = some i) : i ∈ m.items := by
  unfold readyItem at h
  split at h
  · next j hfind =>
    have hmem := List.mem_of_find?_eq_some hfind
    dsimp only at h
    split at h
    · obtain ⟨-, hji⟩ := Option.ite_none_right_eq_some.mp h
      exact Option.some.inj hji ▸ hmem
    · obtain ⟨-, hji⟩ := Option.ite_none_right_eq_some.mp h
      exact Option.some.inj hji ▸ hmem
  · cases h

section Slot
variable {s : State} {lt : Nat}

/-- The counts of a window start again at its cycle 0 (R161). -/
def windowBegun (s : State) (lt : Nat) (c : BitVec 6) : State :=
  if c = 0 then s.modTile lt (fun t => { t with winJob := 0, winFill := 0 }) else s

/-- The window's counts are seen neither by the engine, nor by what stops it. -/
theorem windowBegun_keeps (s : State) (lt : Nat) (c : BitVec 6) : Kept Tile.me s (windowBegun s lt c) ∧ sameMemory s (windowBegun s lt c) ∧
    unitsStop (windowBegun s lt c) lt = unitsStop s lt ∧ ((windowBegun s lt c).tile lt).asleep = (s.tile lt).asleep ∧
    slotsOf (windowBegun s lt c) lt = slotsOf s lt ∧ meStopping (windowBegun s lt c) lt = meStopping s lt := by
  unfold windowBegun
  split
  · have hregs : ∀ x off, (s.modTile lt (fun t => { t with winJob := 0, winFill := 0 })).treg x off = s.treg x off := fun x off =>
      State.treg_modTile (by rfl) x off
    have hme : Kept Tile.me s (s.modTile lt (fun t => { t with winJob := 0, winFill := 0 })) := Kept.modTile _ (by rfl)
    refine ⟨hme, (Kept.modTile (o := Tile.mem) _ (by rfl)).sameMemory, rfl, State.tile_modTile_keeps Tile.asleep (by rfl) lt, ?_, ?_⟩
    · rw [slotsOf, State.tfld, State.tfld, hregs, slotsOf, State.tfld, State.tfld]
    · rw [meStopping, meBit, State.tbit, hregs, hme.meOf, meStopping, meBit, State.tbit]
      rfl
  · exact ⟨Kept.refl _ s, fun _ _ => rfl, rfl, rfl, rfl, rfl⟩

theorem exec_meIssueSlot {lt : Nat} (hlt : lt < 1320) (c : BitVec 6) (s : State) :
    exec (.meIssueSlot lt c) s = .next (issueSlot (windowBegun s lt c) lt c.toNat) := by
  show execMeIssueSlot lt c s = _
  rw [execMeIssueSlot, onTile_of_lt hlt]
  rfl

/-- The plane of a group is active, and its cell operations are counted (R145, R149). -/
def groupBegun (s : State) (lt : Nat) (i : MeItem) (p : MeBuf) : State :=
  bumpCnt (modMe s lt (fun m => { m with active := p })) lt (macCount i.cfgA.format p.format).1 (macCount i.cfgA.format p.format).2

/-- The rows in a group of an item (R149). -/
def groupSize (i : MeItem) (p : MeBuf) : Nat := min (rowGroup i.cfgA.format p) (blockLen i.rows (i.issued / 128) - i.issued % 128)

theorem groupSize_le (i : MeItem) (p : MeBuf) : i.issued % 128 + groupSize i p ≤ 128 := by
  have hlen : blockLen i.rows (i.issued / 128) ≤ 128 := Nat.min_le_left _ _
  simp only [groupSize]
  omega

/-- An item after a group of `n` rows. -/
def groupDone (i : MeItem) (n : Nat) (x : MeItem) : MeItem :=
  { x with
    issued := i.issued + n
    done := if x.wb = 0 then i.issued + n else x.done
    staged := if (i.issued + n) % 128 = 0 ∨ i.issued + n = x.rows then x.staged.filter (fun y => y.1 != i.issued / 128) else x.staged }

theorem meOf_groupBegun (s : State) (lt : Nat) (i : MeItem) (p : MeBuf) : meOf (groupBegun s lt i p) lt = { meOf s lt with active := p } := by
  rw [groupBegun, (accessBlind_me.bumpCnt _ lt _ _).meOf, meOf_modMe]

/-- A group that meets no word in error issues its rows (R149, R156). -/
theorem issueGroup_of_sound {i : MeItem} {p : MeBuf} {blk : List (List FVal)} (hplane : i.plane = some p)
    (hblk : (i.staged.find? (fun x => x.1 == i.issued / 128)).map Prod.snd = some blk)
    (hsound : ∀ k, k < groupSize i p → rowMeetsErr (meOf s lt) i p (i.issued + k) = false) :
    issueGroup s lt i = modItem (modMe (groupBegun s lt i p) lt (rowsIssued i p blk · (groupSize i p))) lt i.slot (groupDone i (groupSize i p)) := by
  have hnone : (List.range (groupSize i p)).any (fun k => rowMeetsErr (meOf (groupBegun s lt i p) lt) i p (i.issued + k)) = false := by
    rw [List.any_eq_false]
    intro k hk
    rw [meOf_groupBegun, Bool.not_eq_true]
    exact hsound k (List.mem_range.mp hk)
  rw [issueGroup, hplane, hblk]
  show (if (List.range (groupSize i p)).any (fun k => rowMeetsErr (meOf (groupBegun s lt i p) lt) i p (i.issued + k)) then _ else _) = _
  rw [hnone]
  rfl

theorem slotUsed_keeps (s : State) (lt : Nat) (fill : Bool) : Kept Tile.me s (slotUsed s lt fill) ∧ Kept Tile.mem s (slotUsed s lt fill) :=
  ⟨Kept.modTile _ (by rfl), Kept.modTile _ (by rfl)⟩

theorem sameMemory_groupBegun (s : State) (lt : Nat) (i : MeItem) (p : MeBuf) : sameMemory s (groupBegun s lt i p) :=
  sameMemory_trans (sameMemory_modMe s lt _) (accessBlind_mem.bumpCnt _ lt _ _).sameMemory

/-- What the group of an item leaves: the item advanced, each word of its columns the rounded exact sum, memory as it was (R136, R146, R149). -/
theorem issueGroup_spec {i : MeItem} {p : MeBuf} {blk : List (List FVal)} (hmem : i ∈ (meOf s lt).items) (hplane : i.plane = some p)
    (hcols : p.n ≤ 128) (hsample : i.sample = none) (hblk : (i.staged.find? (fun x => x.1 == i.issued / 128)).map Prod.snd = some blk)
    (hsound : ∀ k, k < groupSize i p → rowMeetsErr (meOf s lt) i p (i.issued + k) = false) :
    (meOf (issueGroup s lt i) lt).stopping = (meOf s lt).stopping ∧
      (∃ x ∈ (meOf (issueGroup s lt i) lt).items, x.slot = i.slot ∧ x.issued = i.issued + groupSize i p) ∧
      (∀ k j, k < groupSize i p → j < p.n → kvGet 0 (meOf (issueGroup s lt i) lt).sets (groupIdx i k j) =
        groupResult i p (meOf s lt) k (blk.getD (i.issued % 128 + k) []) j) ∧ sameMemory s (issueGroup s lt i) := by
  have hqueue := rowsIssued_queue i p hsample blk { meOf s lt with active := p } (groupSize i p)
  obtain ⟨hitems, hstop⟩ := hqueue
  have hsets := (rowsIssued_sets i p hsample blk { meOf s lt with active := p } hcols (groupSize i p) (groupSize_le i p)).2
  rw [issueGroup_of_sound hplane hblk hsound]
  refine ⟨?_, ⟨groupDone i (groupSize i p) i, mem_modItem ?_ rfl, rfl, rfl⟩, fun k j hk hj => ?_, ?_⟩
  · rw [modItem, meOf_modMe, meOf_modMe, meOf_groupBegun]
    exact hstop
  · rw [meOf_modMe, meOf_groupBegun, hitems]
    exact hmem
  · rw [modItem, meOf_modMe, meOf_modMe, meOf_groupBegun]
    exact hsets k j hk hj
  · exact sameMemory_trans (sameMemory_groupBegun s lt i p) (sameMemory_trans (sameMemory_modMe _ lt _) (sameMemory_modItem _ lt _ _))

/-- An issue slot takes the row group of the item that is ready (R161). -/
theorem issueSlot_of_ready {c : Nat} {i : MeItem} (hrun : unitsStop s lt = false) (hawake : (s.tile lt).asleep = 0)
    (hslot : isIssueSlot (slotsOf s lt) c = true) (hstop : meStopping s lt = false) (hready : readyItem (meOf s lt) = some i)
    (hwop : i.wop ≠ wopSel) :
    issueSlot s lt c = settleStop (issueGroup (slotUsed s lt false) lt i) lt := by
  rw [issueSlot, hrun, hawake, hslot, if_neg (by simp), hready]
  dsimp only
  rw [if_neg hwop, hstop, Bool.false_and, if_neg Bool.false_ne_true]

/-- A slot without a job row takes one of Underpainting (R161, R162). -/
theorem issueSlot_of_fill {c : Nat} (hrun : unitsStop s lt = false) (hawake : (s.tile lt).asleep = 0)
    (hslot : isIssueSlot (slotsOf s lt) c = true) (hready : readyItem (meOf s lt) = none) (hfill : underpaints s lt = true) :
    issueSlot s lt c = fillSlot s lt := by
  rw [issueSlot, hrun, hawake, hslot, if_neg (by simp), hready]
  exact if_pos hfill

/-- Whether an open set wants rows depends on the tile's memory alone. -/
theorem wantsFill_of_mem {s t : State} {lt : Nat} (h : (t.tile lt).mem = (s.tile lt).mem) : wantsFill t lt = wantsFill s lt := by
  have hentry : listEntry t lt = listEntry s lt := by
    funext a k
    rw [listEntry, h, listEntry]
  have hfield : setField t lt = setField s lt := by
    funext a o n
    rw [setField, h, setField]
  funext p
  have hskipped : skipped t lt p.set = skipped s lt p.set := by rw [skipped, skipped, setNeurons, setNeurons, listOf, listOf, hfield, hentry]
  rw [wantsFill, wantsFill, backRows, backRows, backGroup, backGroup, hskipped, hfield]

/-- The state in which an Underpainting row has been counted (R162). -/
def fillCounted (s : State) (lt : Nat) : State := bumpCnt (slotUsed s lt true) lt 3 1

theorem fillCounted_keeps (s : State) (lt : Nat) : Kept Tile.me s (fillCounted s lt) ∧ Kept Tile.mem s (fillCounted s lt) :=
  ⟨(slotUsed_keeps s lt true).1.trans (accessBlind_me.bumpCnt _ lt _ _), (slotUsed_keeps s lt true).2.trans (accessBlind_mem.bumpCnt _ lt _ _)⟩

theorem fillCounted_counts (s : State) (lt : Nat) : ((fillCounted s lt).tile lt).winFill = (s.tile lt).winFill + 1 ∧
    kvGet 0 ((fillCounted s lt).tile lt).counters 3 = (kvGet 0 (s.tile lt).counters 3 + 1) % 2 ^ 64 := by
  rw [fillCounted, bumpCnt, State.tile_modTile_self, slotUsed, State.tile_modTile_self, kvGet_kvSet_self]
  exact ⟨rfl, rfl⟩

theorem fillSlot_eq (s : State) (lt : Nat) : fillSlot s lt =
    ((meOf s lt).preds.find? (wantsFill s lt)).elim (fillCounted s lt) (fun p => setRun (fillCounted s lt) lt { p with filled := p.filled + 4 }) := by
  obtain ⟨hme, hmem⟩ := fillCounted_keeps s lt
  have hfind : (meOf (fillCounted s lt) lt).preds.find? (wantsFill (fillCounted s lt) lt) = (meOf s lt).preds.find? (wantsFill s lt) := by
    rw [hme.meOf, wantsFill_of_mem (hmem.tile lt)]
  show (match (meOf (fillCounted s lt) lt).preds.find? (wantsFill (fillCounted s lt) lt) with
    | some p => setRun (fillCounted s lt) lt { p with filled := p.filled + 4 }
    | none => fillCounted s lt) = _
  rw [hfind]
  cases (meOf s lt).preds.find? (wantsFill s lt) <;> rfl

theorem runOf_setRun (s : State) (lt : Nat) (p : PredRun) : runOf (setRun s lt p) lt p.set = p := by
  have hnone : ((meOf s lt).preds.filter (fun x => x.set != p.set)).find? (fun x => x.set == p.set) = none := by
    rw [List.find?_eq_none]
    intro x hx
    simpa using (List.mem_filter.mp hx).2
  rw [runOf, setRun, meOf_modMe, List.find?_append, hnone, Option.none_or, List.find?_cons_of_pos (by simp)]
  rfl

end Slot

/-! ### Rows of D -/

theorem stopping_of_not_meStopping {s : State} {lt : Nat} (h : meStopping s lt = false) : (meOf s lt).stopping = none := by
  simp only [meStopping, Bool.or_eq_false_iff] at h
  obtain ⟨⟨-, hnone⟩, -⟩ := h
  exact Option.not_isSome_iff_eq_none.mp (by rw [hnone]; exact Bool.false_ne_true)

section WriteBack

/-- An observation that sees nothing of a write-back: neither memory, nor registers, nor what the Palette marks. -/
structure WriteBackBlind {β : Type} (o : Tile → β) : Prop extends AccessBlind o where
  mem : ∀ t m, o { t with mem := m } = o t
  allRegs : ∀ t r, o { t with regs := r } = o t
  marks : ∀ t p, o { t with palMarks := p } = o t

theorem writeBackBlind_me : WriteBackBlind Tile.me where
  toAccessBlind := accessBlind_me
  mem _ _ := rfl
  allRegs _ _ := rfl
  marks _ _ := rfl

/-- What a conversion counts is seen in registers and marks alone (R173). -/
theorem Kept.applyTally {β : Type} {o : Tile → β} (hregs : ∀ t r, o { t with regs := r } = o t)
    (hmarks : ∀ t p, o { t with palMarks := p } = o t) (s : State) (lt n : Nat) (x : Tally) : Kept o s (applyTally s lt n x) := by
  have hword : ∀ (u : State) w v, Kept o u (setPalWord u lt n w v) := fun u w v => Kept.setTreg u lt v fun t => hregs t _
  have hamax : ∀ a, Kept o s (takeAmax s lt n a) := fun a => ((kept_drawn s).ite (Kept.refl o s)).trans (hword _ 2 _)
  have hrise : ∀ (u : State) a b, Kept o u (markRise u lt n a b) := fun u a b => by
    unfold markRise
    split
    · exact Kept.refl o u
    · refine Kept.modTile _ ?_
      exact hmarks _ _
  unfold Machine.applyTally
  extract_lets s1 ovf unf s2
  have h1 : Kept o s s1 := by
    unfold s1
    split
    · exact hamax _
    · exact Kept.refl o s
  exact (h1.trans ((hword s1 3 _).trans (hword _ 4 _))).trans (hrise s2 _ _)

variable {β : Type} {o : Tile → β}

theorem Kept.eachRow {f : State → Nat → State × Option DataFail} (hf : ∀ s r, Kept o s (f s r).1) (n : Nat) (s : State) (r : Nat) :
    Kept o s (eachRow f n s r).1 := by
  induction n generalizing s r with
  | zero => exact Kept.refl o s
  | succ n ih =>
    unfold Machine.eachRow
    split
    · next h => exact Kept.of_fst h (hf s r)
    · next s1 h => exact (Kept.of_fst h (hf s r)).trans (ih s1 (r + 1))

theorem Kept.foldl_fst {α γ : Type} {g : State × γ → α → State × γ} (hg : ∀ a x, Kept o a.1 (g a x).1) (l : List α) (a : State × γ) :
    Kept o a.1 (l.foldl g a).1 := by
  induction l generalizing a with
  | nil => exact Kept.refl o a.1
  | cons x r ih => exact (hg a x).trans (ih (g a x))

variable (ho : WriteBackBlind o) (s : State) (lt : Nat)
include ho

theorem WriteBackBlind.memWrite (off : Nat) (bs : List Byte) : Kept o s (memWrite s lt off bs).1 := ho.memWriteBy s lt ho.mem false off bs

theorem WriteBackBlind.scramble (off n : Nat) : Kept o s (scramble s lt off n) :=
  (kept_drawn s).trans (Kept.foldl (fun u _ => (ho.memStore u lt ho.mem _ _).ite (Kept.refl o u)) _ _)

theorem WriteBackBlind.mixStore (off : Nat) (bs : List Byte) : Kept o s (mixStore s lt off bs) :=
  (kept_drawn s).trans (Kept.foldl (fun u _ => (ho.memStore u lt ho.mem _ _).ite (Kept.refl o u)) _ _)

theorem WriteBackBlind.writeTwo (undef : Bool) (a : Nat) (bs : List Byte) (b : Nat) (cs : List Byte) :
    Kept o s (writeTwo s lt undef a bs b cs).1 := by
  unfold Machine.writeTwo
  extract_lets spoil
  have hspoil : ∀ u, Kept o u (spoil u) := fun u =>
    ((ho.scramble u lt _ _).trans (ho.scramble _ lt _ _)).ite ((ho.mixStore u lt _ _).trans (ho.mixStore _ lt _ _))
  split
  · next s1 _ h => exact (Kept.of_fst h (ho.memWrite s lt _ _)).trans (hspoil s1)
  · next s1 h =>
    have hfirst : Kept o s s1 := Kept.of_fst h (ho.memWrite s lt _ _)
    split
    · exact hfirst
    · split
      · next s2 _ h2 => exact (hfirst.trans (Kept.of_fst h2 (ho.memWrite s1 lt _ _))).trans (hspoil s2)
      · next s2 h2 => exact hfirst.trans (Kept.of_fst h2 (ho.memWrite s1 lt _ _))

theorem WriteBackBlind.applyTally (n : Nat) (x : Tally) : Kept o s (applyTally s lt n x) := Kept.applyTally ho.allRegs ho.marks s lt n x

theorem WriteBackBlind.storeRow (i : MeItem) (undef : Bool) (r : Nat) (vs : List FVal) : Kept o s (storeRow s lt i undef r vs).1 := by
  unfold Machine.storeRow
  dsimp only
  split
  · next h => exact Kept.of_fst h (ho.writeTwo s lt _ _ _ _ _)
  · next s1 h => exact (Kept.of_fst h (ho.writeTwo s lt _ _ _ _ _)).trans (ho.applyTally s1 lt _ _)

theorem WriteBackBlind.storeGroup (i : MeItem) (g0 : Nat) (vals : List (List Nat)) (mask : Option (List (List Byte))) (g : Nat) :
    Kept o s (storeGroup lt i g0 vals mask s g).1 := by
  unfold Machine.storeGroup
  extract_lets d vs frozen kept rows es w
  have hw : Kept o s w.1 := Kept.foldl_fst (fun a x => by
    split
    · exact Kept.refl o a.1
    · exact ho.writeTwo a.1 lt _ _ _ _ _) _ (s, none)
  clear_value w
  obtain ⟨s1, _ | e⟩ := w
  · have hmeta : Kept o s1 (Machine.memWrite s1 lt (d.metaBase + g * d.metaRow) (metaRowBytes d es)).1 := ho.memWrite s1 lt _ _
    dsimp only
    split
    · next h => exact hw.trans (Kept.of_fst h hmeta)
    · next s2 h => exact (hw.trans (Kept.of_fst h hmeta)).trans (Kept.foldl (fun u x => ho.applyTally u lt _ _) _ s2)
  · exact hw

theorem WriteBackBlind.writeBlock (i : MeItem) (b : Nat) (vals : List (List Nat)) : Kept o s (writeBlock s lt i b vals).1 := by
  have hstore : ∀ (undef : Bool) (f : Nat → List FVal) n r,
      Kept o s (Machine.eachRow (fun st r => Machine.storeRow st lt i undef r (f r)) n s r).1 := fun undef f n r =>
    Kept.eachRow (fun u r => ho.storeRow u lt i undef r _) n s r
  unfold Machine.writeBlock
  extract_lets r0 n row g
  split
  · have hd : Kept o s (Machine.readEach (readDRow lt i.cfgD i.dD) n s r0).1 := Kept.readEach (fun u r => ho.readRowValues u lt _ _ _ _) n s r0
    split
    · next h => exact Kept.of_fst h hd
    · next s1 _ h => exact (Kept.of_fst h hd).trans (Kept.eachRow (fun u r => ho.storeRow u lt i true r _) n s1 r0)
  · have hd : Kept o s (Machine.readEach (readPairs lt i.dD) n s r0).1 := Kept.readEach (fun u r => ho.readPairs u lt _ _) n s r0
    split
    · next h => exact Kept.of_fst h hd
    · next s1 _ h => exact (Kept.of_fst h hd).trans (Kept.eachRow (fun u r => ho.writeTwo u lt _ _ _ _ _) n s1 r0)
  · split
    · next h => exact Kept.of_fst h (ho.maskFor s lt i b)
    · next s1 _ h => exact (Kept.of_fst h (ho.maskFor s lt i b)).trans (Kept.eachRow (fun u q => ho.storeGroup u lt i _ _ _ q) _ s1 _)
  · split
    · exact hstore false _ n r0
    · exact hstore false _ n r0

end WriteBack

/-- A row whose range can be written is stored converted, and counted (Table 6.5). -/
theorem storeRow_of_healthy {s : State} {lt : Nat} {i : MeItem} {r : Nat} {vs : List FVal} (hmx : isMx i.cfgD.format = false)
    (h : healthy s lt (i.dD.base + r * i.dD.stride)
      (packElems (elemBits i.cfgD.format) (convRun i.cfgD (dRandom s lt i.dD r) 0 vs Tally.none).1).length = true) :
    storeRow s lt i false r vs =
      (applyTally (storeDone s lt .tcc (i.dD.base + r * i.dD.stride)
        (packElems (elemBits i.cfgD.format) (convRun i.cfgD (dRandom s lt i.dD r) 0 vs Tally.none).1)) lt i.cfgD.n
        (convRun i.cfgD (dRandom s lt i.dD r) 0 vs Tally.none).2, none) := by
  have hwrite := memWriteBy_of_healthy h .tcc
  rw [storeRow, convRow, hmx, if_neg Bool.false_ne_true]
  dsimp only
  rw [writeTwo, memWrite]
  rw [localPath] at hwrite
  rw [hwrite]
  rfl

/-- A block that is written back without a failure advances its item, and changes nothing else after its rows (R150). -/
theorem writeBack_of_written {s s1 : State} {lt : Nat} {i : MeItem} {b n : Nat} (hprune : i.wop ≠ wopPrune) (hpr : i.wop ≠ wopPr)
    (hsample : i.sample = none) (herr : blockMeetsErr (meOf s lt) i b i.resultCols = false)
    (hwrite : writeBlock s lt i b (blockValues (meOf s lt) i b i.resultCols) = (s1, n, none)) :
    ∃ f, writeBack s lt i b = modItem s1 lt i.slot f ∧ ∀ x, (f x).slot = x.slot ∧ (f x).done = 128 * b + n := by
  have hprior : addPrior s lt i = i := by rw [addPrior, hsample]
  rw [writeBack, hprior]
  simp only [herr, Bool.and_false, Bool.false_eq_true, if_false, hprune, hwrite, Option.isNone_none, if_true]
  have hcorrected : ∀ u, countCorrected u lt i n = u := fun u => if_neg fun h => hpr h.1
  have hmeasured : ∀ u, takeSample u lt i b = u := fun u => by rw [takeSample, hsample]
  rw [hmeasured, hcorrected]
  exact ⟨_, rfl, fun x => ⟨rfl, rfl⟩⟩

theorem exec_meBlockWriteback {s : State} {lt : Nat} {i : MeItem} {b : Nat} (hlt : lt < 1320) (hrun : unitsStop s lt = false)
    (hitem : writingItem (meOf s lt) (meStopping s lt) = some (i, b)) :
    exec (.meBlockWriteback lt) s = .next (settleStop (writeBack s lt i b) lt) := by
  show execMeBlockWriteback lt s = _
  rw [execMeBlockWriteback, onTile_of_lt hlt, hrun, if_neg Bool.false_ne_true, hitem]

/-! ### The end of an item -/

theorem exec_meItemComplete {s : State} {lt : Nat} {i : MeItem} (hlt : lt < 1320) (hrun : unitsStop s lt = false)
    (hfind : (meOf s lt).items.find? (fun i => (meOf s lt).ended i && !(meStopping s lt && i.wop == wopSel)) = some i) :
    exec (.meItemComplete lt) s = .next (settleStop (meSettle (endItem s lt i) lt) lt) := by
  show execMeItemComplete lt s = _
  rw [execMeItemComplete, onTile_of_lt hlt, hfind]
  dsimp only
  rw [hrun, if_neg Bool.false_ne_true]

theorem endItem_of_ok {s : State} {lt : Nat} {i : MeItem} (hwop : i.wop ≠ wopSel) (hok : i.failed = none) :
    endItem s lt i = meComplete s lt i stOk i.rows := by
  rw [endItem, hok]
  simp [hwop]

theorem endItem_of_failed {s : State} {lt : Nat} {i : MeItem} {x : MeFail} (hfailed : i.failed = some x) :
    endItem s lt i = meFault s lt i x.status x.check i.done x.addr x.detail := by
  rw [endItem, hfailed]
  simp

/-- An engine that runs on settles and goes on. -/
theorem settleStop_meSettle {s : State} {lt : Nat} (h : (meOf s lt).stopping = none) : settleStop (meSettle s lt) lt = meSettle s lt :=
  settleStop_of_running ((settled_meSettle s lt).stopping.trans h)

/-! ### The events -/

section Events
variable {s : State} {lt : Nat} {i : MeItem} (hlt : lt < 1320)
include hlt

section Start
variable {rest : List MeItem} (hitems : (meOf s lt).items = i :: rest) (hwaits : i.started = false) (hopen : meOpen s lt = true)
  (hroom : ((meOf s lt).items.filter (fun x => x.started)).length < 8)
include hitems hwaits hopen hroom

theorem meItemStart_of_fence (hwop : i.wop = 9) : ∃ t, exec (.meItemStart lt) s = .next t ∧ (∀ x ∈ (meOf t lt).items, x.slot ≠ i.slot) ∧
    ((t.tile lt).slot 0 i.slot).busy = false ∧ ((t.tile lt).slot 0 i.slot).crec.status = stOk := by
  have hready : setNotReady s lt i = false := by simp [setNotReady, hwop]
  refine ⟨_, exec_meItemStart hitems hopen hroom hlt hwaits hready (by rw [hwop]; decide), ?_, ?_⟩
  · rw [startItem_of_fence hwop]
    refine slot_free_of_settled (settled_meSettle _ lt) ?_
    rw [meOf_meComplete]
    exact slot_free_without _ _
  · rw [slot_meSettle, startItem_of_fence hwop, slot_meComplete_same]
    exact ⟨rfl, rfl⟩

theorem meItemStart_of_misaligned (hslot : i.slot < 64) (hmma : isMma i.wop = true) (hdrain : i.drain = false) (hmis : i.r1.toNat % 64 ≠ 0)
    (hready : setNotReady s lt i = false) : ∃ t, exec (.meItemStart lt) s = .next t ∧ ((t.tile lt).slot 0 i.slot).crec.status = stProtFault ∧
      ((t.tile lt).slot 0 i.slot).crec.progress = 0 ∧ t.tbit lt regMeStatus 11 = true ∧ t.tfld lt regMeFaultItem 19 16 = 1 ∧
      t.tfld lt regMeFaultItem 7 0 = i.slot ∧ (t.treg lt regMeFaultAddr).toNat = i.r1.toNat % 2 ^ 28 := by
  obtain ⟨hitem, -, hcheck⟩ := faultItemWord_fields hslot stProtFault 1
  refine ⟨_, exec_meItemStart hitems hopen hroom hlt hwaits hready (wop_ne_of_isMma hmma (by decide)), ?_⟩
  rw [startItem_of_badAddr hmma (addrs_misaligned hmma hdrain hmis), slot_meSettle, slot_meFault_same, tbit_meSettle, tfld_meSettle, tfld_meSettle,
    treg_meSettle, State.tfld, State.tfld, treg_meFault_item, treg_meFault_addr, BitVec.toNat_ofNat]
  exact ⟨rfl, rfl, tbit_meFault_hold _ _ _ _ _ _ _ _, hcheck, hitem, by omega⟩

theorem meItemStart_of_checked {s1 : State} {j : MeItem} (hmma : isMma i.wop = true) (hready : setNotReady s lt i = false)
    (haddrs : i.addrs.all (descAddrOk i.lv) = true) (hread : readDescs (studyCount s lt i).1 lt i = (s1, .ok j))
    (hload : awaitsLoad (meOf (startedState s s1 lt i j) lt) (startedItem s s1 lt i j) = false)
    (hchecks : itemChecks (startedState s s1 lt i j) lt (startedItem s s1 lt i j)
      (.now ((meOf (startedState s s1 lt i j) lt).buf (meWbuf j.payload))) = none) :
    ∃ t x, exec (.meItemStart lt) s = .next t ∧ x ∈ (meOf t lt).items ∧ x.slot = j.slot ∧ x.started = true ∧ x.checked = true ∧
      x.descA = j.descA ∧ x.descD = j.descD ∧ x.rows = j.rows := by
  have hstarted := mem_modItem (f := fun x => { x with checked := true }) (startedItem_mem hread hitems)
    (show (startedItem s s1 lt i j).slot = j.slot from rfl)
  obtain ⟨y, hy, p, r, rfl, -⟩ := mem_meSettle hstarted
  rw [← startItem_of_checked hmma haddrs hread hload hchecks] at hy
  exact ⟨_, _, exec_meItemStart hitems hopen hroom hlt hwaits hready (wop_ne_of_isMma hmma (by decide)), hy, rfl, rfl, rfl, rfl, rfl, rfl⟩

end Start

theorem meWloadDone_spec {s1 : State} {vals : List (List (Option FVal))} (hitems : (meOf s lt).items = [i]) (hwop : i.wop = 8)
    (hreading : i.reading = true) (hstop : (meOf s lt).stopping = none) (hread : readB s lt i.lv i.cfgA i.dA = (s1, .ok vals)) :
    ∃ t, exec (.meWloadDone lt) s = .next t ∧ (meOf t lt).items = [] ∧
      (let b := (meOf t lt).buf (meWbuf i.payload)
       b.valid = true ∧ b.k = i.dA.rows ∧ b.n = i.dA.cols ∧ b.vals = vals) ∧
      ((t.tile lt).slot 0 i.slot).crec.status = stOk ∧ ((t.tile lt).slot 0 i.slot).crec.progress = i.dA.rows % 2 ^ 32 := by
  have hempty := items_finishLoad hitems hread
  have hbuf : ((bufLoaded i vals (meOf s lt)).without i.slot).buf (meWbuf i.payload) =
    loadedBuf ((meOf s lt).buf (meWbuf i.payload)) i.cfgA i.dA vals := buf_setBuf _ _ _
  refine ⟨_, exec_meWloadDone hitems hstop hread hlt hwop hreading, ?_⟩
  rw [meSettle_me_of_empty hempty, slot_meSettle]
  refine ⟨hempty, ?_, ?_⟩
  · rw [meOf_finishLoad hread, hbuf]
    exact ⟨rfl, rfl, rfl, rfl⟩
  · rw [finishLoad_of_read hread, slot_meComplete_same]
    exact ⟨rfl, rfl⟩

theorem meFillDone_spec (hfind : (meOf s lt).items.find? (fun i => i.isRows && i.plane.isNone) = some i) (hwants : i.wantsPlane = true)
    (hfree : shadowFree (meOf s lt) = true) : ∃ t x, exec (.meFillDone lt) s = .next t ∧ x ∈ (meOf t lt).items ∧ x.slot = i.slot ∧
      x.plane = some ((meOf s lt).buf (meWbuf i.payload)) ∧ sameMemory s t := by
  obtain ⟨y, hy, p, r, rfl, hp⟩ := mem_meSettle (mem_modItem (f := fun x => { x with plane := some ((meOf s lt).buf (meWbuf i.payload)) })
    (List.mem_of_find?_eq_some hfind) rfl)
  exact ⟨_, _, exec_meFillDone hlt hfind hwants hfree, hy, rfl, hp _ rfl,
    sameMemory_trans (sameMemory_modItem s lt _ _) (sameMemory_meSettle _ lt)⟩

theorem meBlockStaged_spec {s1 : State} {rows : List (List FVal)} (hstop : meStopping s lt = false) (hrun : unitsStop s lt = false)
    (hitem : stagingItem (meOf s lt) = some i) (hwb : i.wb ≠ 4) (hread : readABlock s lt i.lv i.cfgA i.dA i.stagedTo = (s1, .ok rows)) :
    ∃ t x, exec (.meBlockStaged lt) s = .next t ∧ x ∈ (meOf t lt).items ∧ x.slot = i.slot ∧ (i.stagedTo, rows) ∈ x.staged ∧
      x.stagedTo = i.stagedTo + 1 ∧ sameMemory s1 t := by
  have hmem : i ∈ (meOf s1 lt).items := by
    rw [(Kept.of_fst hread (accessBlind_me.readABlock s lt _ _ _ _)).meOf]
    exact stagingItem_mem hitem
  exact ⟨_, _, exec_meBlockStaged hlt hstop hrun hitem hwb hread, mem_modItem hmem rfl, rfl,
    List.mem_append_right _ (List.mem_singleton.mpr rfl), rfl, sameMemory_modItem s1 lt _ _⟩

theorem meIssueSlot_of_ready (c : BitVec 6) {p : MeBuf} {blk : List (List FVal)} (hrun : unitsStop s lt = false) (hawake : (s.tile lt).asleep = 0)
    (hslot : isIssueSlot (slotsOf s lt) c.toNat = true) (hstop : meStopping s lt = false) (hready : readyItem (meOf s lt) = some i)
    (hwop : i.wop ≠ wopSel) (hplane : i.plane = some p) (hcols : p.n ≤ 128) (hsample : i.sample = none)
    (hblk : (i.staged.find? (fun x => x.1 == i.issued / 128)).map Prod.snd = some blk)
    (hsound : ∀ k, k < groupSize i p → rowMeetsErr (meOf s lt) i p (i.issued + k) = false) :
    ∃ t, exec (.meIssueSlot lt c) s = .next t ∧ (∃ x ∈ (meOf t lt).items, x.slot = i.slot ∧ x.issued = i.issued + groupSize i p) ∧
      (∀ k j, k < groupSize i p → j < p.n →
        kvGet 0 (meOf t lt).sets (groupIdx i k j) = groupResult i p (meOf s lt) k (blk.getD (i.issued % 128 + k) []) j) ∧ sameMemory s t := by
  obtain ⟨hme, hmem, hrun', hawake', hslots', hstop'⟩ := windowBegun_keeps s lt c
  obtain ⟨hused, husedMem⟩ := slotUsed_keeps (windowBegun s lt c) lt false
  have hme' : meOf (slotUsed (windowBegun s lt c) lt false) lt = meOf s lt := (hme.trans hused).meOf lt
  obtain ⟨hstopping, hitem, hsets, hsame⟩ := issueGroup_spec (s := slotUsed (windowBegun s lt c) lt false)
    (by rw [hme']; exact readyItem_mem hready) hplane hcols hsample hblk (by rw [hme']; exact hsound)
  have hexec := exec_meIssueSlot hlt c s
  rw [issueSlot_of_ready (hrun'.trans hrun) (hawake'.trans hawake) (by rwa [hslots']) (hstop'.trans hstop) (by rwa [hme.meOf]) hwop,
    settleStop_of_running (hstopping.trans (by rw [hme', stopping_of_not_meStopping hstop]))] at hexec
  rw [hme'] at hsets
  exact ⟨_, hexec, hitem, hsets, sameMemory_trans (sameMemory_trans hmem husedMem.sameMemory) hsame⟩

theorem meIssueSlot_of_fill {c : BitVec 6} (hc : c ≠ 0) (hrun : unitsStop s lt = false) (hawake : (s.tile lt).asleep = 0)
    (hslot : isIssueSlot (slotsOf s lt) c.toNat = true) (hready : readyItem (meOf s lt) = none) (hfill : underpaints s lt = true) :
    exec (.meIssueSlot lt c) s = .next (fillSlot s lt) := by
  rw [exec_meIssueSlot hlt, windowBegun, if_neg hc, issueSlot_of_fill hrun hawake hslot hready hfill]

theorem meBlockWriteback_spec {s1 : State} {b n : Nat} (hrun : unitsStop s lt = false) (hstop : meStopping s lt = false)
    (hitem : writingItem (meOf s lt) false = some (i, b)) (hprune : i.wop ≠ wopPrune) (hpr : i.wop ≠ wopPr) (hsample : i.sample = none)
    (herr : blockMeetsErr (meOf s lt) i b i.resultCols = false)
    (hwrite : writeBlock s lt i b (blockValues (meOf s lt) i b i.resultCols) = (s1, n, none))
    (hmem : ∃ x ∈ (meOf s1 lt).items, x.slot = i.slot) :
    ∃ t, exec (.meBlockWriteback lt) s = .next t ∧ (∃ x ∈ (meOf t lt).items, x.slot = i.slot ∧ x.done = 128 * b + n) ∧
      sameMemory s1 t := by
  obtain ⟨x, hx, hslot⟩ := hmem
  obtain ⟨f, hback, hf⟩ := writeBack_of_written hprune hpr hsample herr hwrite
  have hrows : meOf s1 lt = meOf s lt := (Kept.of_fst hwrite (writeBackBlind_me.writeBlock s lt i b _)).meOf lt
  have hnone : (meOf (modItem s1 lt i.slot f) lt).stopping = none := by
    rw [modItem, meOf_modMe, hrows]
    exact stopping_of_not_meStopping hstop
  have hexec := exec_meBlockWriteback hlt hrun (by rw [hstop]; exact hitem)
  rw [hback, settleStop_of_running hnone] at hexec
  exact ⟨_, hexec, ⟨f x, mem_modItem hx hslot, (hf x).1.trans hslot, (hf x).2⟩, sameMemory_modItem s1 lt _ _⟩

section End
variable (hrun : unitsStop s lt = false) (hstop : (meOf s lt).stopping = none)
  (hfind : (meOf s lt).items.find? (fun i => (meOf s lt).ended i && !(meStopping s lt && i.wop == wopSel)) = some i)
include hrun hstop hfind

theorem meItemComplete_of_ok (hwop : i.wop ≠ wopSel) (hok : i.failed = none) :
    ∃ t, exec (.meItemComplete lt) s = .next t ∧ (∀ x ∈ (meOf t lt).items, x.slot ≠ i.slot) ∧
      ((t.tile lt).slot 0 i.slot).busy = false ∧ ((t.tile lt).slot 0 i.slot).crec.status = stOk ∧
      ((t.tile lt).slot 0 i.slot).crec.progress = i.rows % 2 ^ 32 ∧ (meMec i.payload = true → t.tbit lt regMeInt 0 = true) := by
  have hexec := exec_meItemComplete hlt hrun hfind
  rw [endItem_of_ok hwop hok, settleStop_meSettle (by rw [meOf_meComplete]; exact hstop)] at hexec
  refine ⟨_, hexec, slot_free_of_settled (settled_meSettle _ lt) ?_, ?_⟩
  · rw [meOf_meComplete]
    exact slot_free_without _ _
  · rw [slot_meSettle, slot_meComplete_same, tbit_meSettle]
    exact ⟨rfl, rfl, rfl, tbit_meComplete_int _ _ _ _ _⟩

theorem meItemComplete_of_failed (hslot : i.slot < 64) {x : MeFail} (hfailed : i.failed = some x) :
    ∃ t, exec (.meItemComplete lt) s = .next t ∧ (∀ y ∈ (meOf t lt).items, y.slot ≠ i.slot) ∧
      ((t.tile lt).slot 0 i.slot).crec.status = x.status ∧ ((t.tile lt).slot 0 i.slot).crec.progress = i.done % 2 ^ 32 ∧
      t.tbit lt regMeStatus 11 = true ∧ t.tbit lt regMeInt 1 = true ∧ t.tfld lt regMeFaultItem 15 8 = x.status.toNat := by
  have hexec := exec_meItemComplete hlt hrun hfind
  rw [endItem_of_failed hfailed, settleStop_meSettle (by rw [meOf_meFault]; exact hstop)] at hexec
  refine ⟨_, hexec, slot_free_of_settled (settled_meSettle _ lt) ?_, ?_⟩
  · rw [meOf_meFault]
    exact slot_free_unstarted (slot_free_without _ _)
  · rw [slot_meSettle, slot_meFault_same, tbit_meSettle, tbit_meSettle, tfld_meSettle, State.tfld, treg_meFault_item]
    exact ⟨rfl, rfl, tbit_meFault_hold _ _ _ _ _ _ _ _, tbit_meFault_int _ _ _ _ _ _ _ _, (faultItemWord_fields hslot _ _).2.1⟩

end End
end Events

/-- What an Underpainting row leaves (R162; 16, R401). -/
theorem fillSlot_spec (s : State) (lt : Nat) : (meOf (fillSlot s lt) lt).items = (meOf s lt).items ∧
    (meOf (fillSlot s lt) lt).sets = (meOf s lt).sets ∧
    sameMemory s (fillSlot s lt) ∧ ((fillSlot s lt).tile lt).winFill = (s.tile lt).winFill + 1 ∧
    kvGet 0 ((fillSlot s lt).tile lt).counters 3 = (kvGet 0 (s.tile lt).counters 3 + 1) % 2 ^ 64 ∧
    ((meOf s lt).preds.find? (wantsFill s lt) = none → ((fillSlot s lt).tile lt).me = (s.tile lt).me) ∧
    (∀ p, (meOf s lt).preds.find? (wantsFill s lt) = some p → runOf (fillSlot s lt) lt p.set = { p with filled := p.filled + 4 }) := by
  obtain ⟨hme, hmem⟩ := fillCounted_keeps s lt
  obtain ⟨hwin, hcnt⟩ := fillCounted_counts s lt
  rw [fillSlot_eq]
  cases (meOf s lt).preds.find? (wantsFill s lt) with
  | none =>
    exact ⟨congrArg MeState.items (hme.meOf lt), congrArg MeState.sets (hme.meOf lt), hmem.sameMemory, hwin, hcnt, fun _ => hme.tile lt, nofun⟩
  | some p =>
    have hrest : ∀ {β : Type} (o : Tile → β), (∀ t m, o { t with me := m } = o t) →
        o ((setRun (fillCounted s lt) lt { p with filled := p.filled + 4 }).tile lt) = o ((fillCounted s lt).tile lt) := fun o ho =>
      (Kept.modMe ho _ lt _).tile lt
    have hrun : meOf (setRun (fillCounted s lt) lt { p with filled := p.filled + 4 }) lt =
        { meOf s lt with preds := (meOf s lt).preds.filter (fun x => x.set != p.set) ++ [{ p with filled := p.filled + 4 }] } := by
      rw [setRun, meOf_modMe, hme.meOf]
    rw [Option.elim_some]
    refine ⟨by rw [hrun], by rw [hrun], sameMemory_trans hmem.sameMemory (sameMemory_modMe _ lt _),
      (hrest Tile.winFill fun _ _ => rfl).trans hwin, (congrArg (kvGet 0 · 3) (hrest Tile.counters fun _ _ => rfl)).trans hcnt, nofun,
      fun q hq => ?_⟩
    cases hq
    exact runOf_setRun _ lt { p with filled := p.filled + 4 }

/-- A row stored holds the converted elements, and changes no other byte (Table 6.5). -/
theorem storeRow_stores {s : State} {lt : Nat} {i : MeItem} {r : Nat} {vs : List FVal} (hwf : Memory.wf (s.tile lt).mem = true)
    (hmx : isMx i.cfgD.format = false) (h : healthy s lt (i.dD.base + r * i.dD.stride)
      (packElems (elemBits i.cfgD.format) (convRun i.cfgD (dRandom s lt i.dD r) 0 vs Tally.none).1).length = true) :
    let bs := packElems (elemBits i.cfgD.format) (convRun i.cfgD (dRandom s lt i.dD r) 0 vs Tally.none).1
    let a := i.dD.base + r * i.dD.stride
    (storeRow s lt i false r vs).2 = none ∧ memBytes ((storeRow s lt i false r vs).1.tile lt).mem a bs.length = bs ∧
      sameMemoryBut lt a bs.length s (storeRow s lt i false r vs).1 := by
  intro bs a
  have htally : Kept Tile.mem (storeDone s lt .tcc a bs) (applyTally (storeDone s lt .tcc a bs) lt i.cfgD.n
      (convRun i.cfgD (dRandom s lt i.dD r) 0 vs Tally.none).2) := Kept.applyTally (fun _ _ => rfl) (fun _ _ => rfl) _ lt _ _
  rw [storeRow_of_healthy hmx h]
  refine ⟨rfl, ?_, sameMemoryBut_trans (sameMemoryBut_storeDone hwf .tcc a bs) (sameMemoryBut_of_sameMemory htally.sameMemory _ _ _)⟩
  rw [htally.tile lt]
  exact memBytes_storeDone hwf .tcc a bs

/-! ### The statement -/

/-- Settles O35, event by event: what it does to its item, which the settling of the queue after it leaves. -/
theorem meEngineEvents : Obligations.MeEngineEvents := by
  refine ⟨fun s lt i rest hlt hitems hwaits hopen hroom hslot => ⟨?_, ?_, ?_⟩, ?_, fun s lt i hlt => ⟨?_, ?_⟩, ?_, ?_,
    fun c ts ts' => dot_perm c, ?_, ?_, fun s lt i hlt hrun hstop hslot hwop hfind => ⟨?_, ?_⟩⟩
  · exact meItemStart_of_fence hlt hitems hwaits hopen hroom
  · exact meItemStart_of_misaligned hlt hitems hwaits hopen hroom hslot
  · intro hmma hready haddrs s1 j hread num d k s2 hload hchecks
    exact meItemStart_of_checked hlt hitems hwaits hopen hroom hmma hready haddrs hread hload hchecks
  · intro s lt i s1 vals hlt hitems hwop hreading hstop _ hread
    exact meWloadDone_spec hlt hitems hwop hreading hstop hread
  · exact meFillDone_spec hlt
  · exact fun hstop hrun hitem hwb s1 rows hread => meBlockStaged_spec hlt hstop hrun hitem hwb hread
  · intro s lt c i p blk hlt hrun hawake hslot hstop hready hwop hplane hcols hsample hblk n hsound
    exact meIssueSlot_of_ready hlt c hrun hawake hslot hstop hready hwop hplane hcols hsample hblk hsound
  · intro s lt c hlt hc hrun hawake hslot hready hfill
    exact ⟨_, meIssueSlot_of_fill hlt hc hrun hawake hslot hready hfill, fillSlot_spec s lt⟩
  · exact fun s lt i r vs hwf hmx => storeRow_stores hwf hmx
  · intro s lt i b s1 n hlt hrun hstop hitem hprune hsample herr hwrite hmem hpr
    exact meBlockWriteback_spec hlt hrun hstop hitem hprune hpr hsample herr hwrite hmem
  · exact meItemComplete_of_ok hlt hrun hstop hfind hwop
  · exact fun x => meItemComplete_of_failed hlt hrun hstop hfind hslot

end Sys2Proof.Machine
end
